-- ==== Sys2Proof/Machine/SyntaxTypes.lean ====
section
/-! DEFINITION. Types of command operands: what the outside world decides in an event. -/

namespace Sys2Proof.Machine

/-- The outcome of one flash program: done, position still erased, or something else stands there. -/
inductive Prog where
  | done
  | erased
  | torn (left : List Byte)
deriving DecidableEq, Repr

/-- What the header ECC finds (R118). -/
inductive HdrEcc where
  | good
  | corrected
  | bad
deriving DecidableEq, Repr

/-- What a receiver's lanes do about a packet (R112): a deskew sequence was completed before it; the lanes go into ULPS after it. -/
structure LaneNote where
  deskew : Bool
  ulps   : Bool
deriving DecidableEq, Repr

/-- A step of link training that has finished (R152): SB_ADRST_N is released; the AD's clock has come back and the CD's receivers have
locked to it; the TRN1 rows have come, with, for each lane that has block lock, its skew in row times and its block; a TRN2 row has come.
The fifth, the AD's INIT_FC, is a link-control flit. -/
inductive TrainEv where
  | release
  | clock
  | trn1 (lanes : List (Option (Nat × List Byte)))
  | trn2 (block : List Byte)
deriving DecidableEq, Repr

/-- What an I²C controller sees on its bus while it does not drive it (R133): nothing new, a START or a STOP of another controller, or
that both lines have just gone high without a STOP. -/
inductive I2cLine where
  | quiet
  | start
  | stop
  | idle
deriving DecidableEq, Repr

/-- An error that 64 bytes meet on their way (R79, R185, R186, R191, R192): a single-bit or a double-bit error of DRAM, a single-bit, an
uncorrectable or a poison-parity error of the shelf, a parity error on the NoC. -/
inductive MemErr where
  | dramCe
  | dramUe
  | shelfCe
  | shelfUe
  | shelfPar
  | noc
deriving DecidableEq, Repr

/-- What a read of the tile store meets on a line (R185, R186): a single-bit error, an uncorrectable error, a parity error on its poison
bit. -/
inductive LineErr where
  | ce
  | ue
  | par
deriving DecidableEq, Repr

/-- What a line of a shift meets: an error of the tile store at its source, an error on its way, or beats that came without credit
(R252). -/
inductive BeatErr where
  | line (e : LineErr)
  | mem (e : MemErr)
  | overrun
deriving DecidableEq, Repr

/-- What the outside world decides in a command that a bus access performs: the flash programs of a CIL command, whether EVL
could persist what was pending and the supply's VOUT_MODE of a PMU command, the bytes an SPI device returns, an SRAM error found;
`differs`: the lockstep comparator finds the access's output different, in that group (R379, R380). -/
structure BusEnv where
  progs     : List Prog
  persisted : Bool
  vmode     : Option (Fin 256)
  miso      : List Byte
  ue        : Bool
  differs   : Option (Fin 3) := none
deriving DecidableEq, Repr

/-- Who drives the CD's bus: a core (C0 for the pair in lockstep) or the debug module. -/
inductive Master where
  | core (n : Fin 2)
  | debug
deriving DecidableEq, Repr

/-- What a bus access does; only cores fetch. -/
inductive BusOp where
  | load
  | store
  | fetch
deriving DecidableEq, Repr

end Sys2Proof.Machine
end

