-- ==== Sys2Proof/Syntax.lean ====
section
/-! DEFINITION. The commands: one constructor for each row of the operation and event table, with the operands the
row's rule names and, for events of the outside world, what the outside world decides (a received frame's bytes, a
measured value, the outcome of a flash program). -/

namespace Sys2Proof

open Machine

/-- The commands of the device. -/
inductive Instr where
  /-- REGISTER_WRITE (R6). A firmware write to a register field that has no row of its own stores, sets, clears or ignores bits by its access code. -/
  | registerWrite (core : Fin 2) (addr size : Nat) (data : Word) (env : BusEnv)
  /-- I2C_RXD (R146). A read of I2C_RXD returns the oldest received byte and removes it from the FIFO. -/
  | i2cRxd (i : Fin 2)
  /-- UART_RXD (R648). A read of UART_RXD returns the oldest received byte and removes it from the FIFO. -/
  | uartRxd (i : Fin 2)
  /-- SPI_RXD (R649). A read of SPI_RXD returns the oldest received byte and removes it from the FIFO. -/
  | spiRxd
  /-- TL_SEAMMAX (R253). A read of TL_SEAMMAX returns the largest seam interval and drain, and clears them. -/
  | tlSeammax (tile : Fin 16)
  /-- EVL_Q_MAX (R611). A read of EVL_Q returns the highest queue level since the last read, and clears MAX. -/
  | evlQMax
  /-- SYS_MTIME_LO (R394). A read of SYS_MTIME_LO returns the low half and latches the upper half into SYS_MTIME_HI. -/
  | sysMtimeLo
  /-- PMU_RTC_LO (R562). A read of PMU_RTC_LO returns the low half of the real-time counter and latches PMU_RTC_HI. -/
  | pmuRtcLo
  /-- CIL_OPEN (R40). OPEN erases the inactive slot and its state sector and sets the slot WRITING. -/
  | cilOpen
  /-- CIL_APPEND (R40). APPEND copies one chunk from CD SRAM to the next offset in the staged slot. -/
  | cilAppend
  /-- CIL_CLOSE (R40). CLOSE reads the slot back, recomputes IMAGE_HASH and sets WRITTEN if it matches. -/
  | cilClose (progs : List Prog)
  /-- CIL_CHECK (R44). CHECK runs the ordered image check on the staged slot and writes the report. -/
  | cilCheck (progs : List Prog)
  /-- CIL_COMMIT (R58). COMMIT re-checks the staged image, checks authorisation and begins the apply with a BEGUN entry and PENDING. -/
  | cilCommit (progs : List Prog)
  /-- CIL_ABORT (R41). ABORT erases a WRITING or WRITTEN inactive slot, leaving it EMPTY. -/
  | cilAbort
  /-- APPLY_STEP_DONE (R58). Completion of one apply step starts the next; `ok` is whether the step's own work succeeded. -/
  | applyStepDone (ok : Bool) (part : Option Nat) (progs : List Prog)
  /-- APPLY_STEP_DEADLINE (R61). An apply step not finished by its deadline fails the apply. -/
  | applyStepDeadline (progs : List Prog)
  /-- PASSWORD_VERIFY (R656). LCK_PWCTL.GO starts a safety password verification, or refuses it without evaluation. -/
  | passwordVerify (len : Nat)
  /-- VERIFICATION_DONE (R53). A finished verification logs AUTH_OK or AUTH_FAIL, opens a session or counts a failure, and clears the password registers. -/
  | verificationDone (progs : List Prog)
  /-- AUTH_END (R53). A write to LCK_AUTHEND ends the authorisation session. -/
  | authEnd
  /-- SESSION_EXPIRY (R53). The authorisation session ends when WINDOW_S has run out. -/
  | sessionExpiry
  /-- LOCK_END (R54). The lockout ends, the failure count resets and a LOCK_END entry is written. -/
  | lockEnd (progs : List Prog)
  /-- KEY_OPEN (R57). A write to LCK_KEY with OPEN = 1 opens a block key for 1 s, or is refused. -/
  | keyOpen (block code : Nat)
  /-- KEY_CLOSE (R57). A write to LCK_KEY with OPEN = 0 closes the block key at once. -/
  | keyClose (block code : Nat)
  /-- KEY_EXPIRY (R57). An open block key closes when its 1 s ends. -/
  | keyExpiry (block : Nat)
  /-- SUSPEND (R95). TEN_CMD SUSPEND moves a READY or RUNNING tenant to SUSPENDED. -/
  | suspend (tenant : Fin 16)
  /-- RESUME (R95). TEN_CMD RESUME returns a SUSPENDED tenant to READY in WORK. -/
  | resume (tenant : Fin 16)
  /-- RESET (R98). TEN_CMD RESET starts a tenant reset. -/
  | reset (tenant : Fin 16)
  /-- LENDON (R94). TEN_CMD LENDON restores a tenant's lending permission. -/
  | lendon (tenant : Fin 16)
  /-- LENDOFF (R111). TEN_CMD LENDOFF clears a tenant's lending permission. -/
  | lendoff (tenant : Fin 16)
  /-- TEN_SQDB (R83). A write to TEN_SQDB publishes a new submission tail and forwards it to the dispatcher, or is refused. -/
  | tenSqdb (tenant : Fin 16) (queue : Fin 4) (tail : Nat)
  /-- TEN_CQHD (R83). A write to TEN_CQHD publishes firmware's completion consumption point, freeing room in the completion ring. -/
  | tenCqhd (tenant : Fin 16) (queue : Fin 4) (head : Nat)
  /-- AD_WINDOW_READ (R165). A CD core read in the AD window becomes a tenant-scoped MEM_RD and waits for its response. -/
  | adWindowRead (offset size : Nat)
  /-- AD_WINDOW_WRITE (R165). A CD core write in the AD window becomes a tenant-scoped MEM_WR and waits for its response. -/
  | adWindowWrite (offset size : Nat) (data : Word)
  /-- MEM_TIMEOUT (R165). A memory request without a response after 100 µs ends in a bus error and a ladder report. -/
  | memTimeout
  /-- TENANT_FAULT (R96). A fault belonging to one tenant is recorded and the tenant becomes FAULTED. -/
  | tenantFault (tenant : Fin 16) (code arg : Nat)
  /-- SCRUB_COMPLETE (R98). The tenant's regions have been zero-filled and the tenant enters LOADING. -/
  | scrubComplete (tenant : Fin 16)
  /-- MODEL_VERIFIED (R98). The CD has read back the tenant's model blobs and compared their hashes; the tenant becomes READY or FAULTED. -/
  | modelVerified (tenant : Fin 16) (err : Option MemErr)
  /-- STATE_ACK_TIMEOUT (R110). A state command without acknowledgement after 5 ms is repeated once, then the tenant is FAULTED. -/
  | stateAckTimeout (tenant : Fin 16)
  /-- CANARY_AUDIT_ROUND (R100). Every CANARY_MS TEN checks and rewrites canary cells and issues refusal probes. -/
  | canaryAuditRound
  /-- AUDIT_ANSWER_TIMEOUT (R101). An audit answer missing 1 ms after its request fails the round. -/
  | auditAnswerTimeout
  /-- MAJOR_FRAME_START (R87). At TB2 = E + k × MAJOR_MS the CD starts major frame k and sends MAJOR_TICK. -/
  | majorFrameStart
  /-- FRAME_REPORT_TIMEOUT (R110). A FRAME_REPORT missing 1 ms after the next MAJOR_TICK is a ladder violation. -/
  | frameReportTimeout
  /-- SLOT_BOUNDARY (R88). A slot begins and each tile passes to the tenant that the slot plan names. -/
  | slotBoundary
  /-- SLOT_STOP_LEAD (R89). 12 µs before a boundary where a tile changes tenant, the dispatcher issues STOP to its program. -/
  | slotStopLead
  /-- MEMORY_GRANT (R86). The memory controller grants a tenant's waiting request once it holds tokens, by class rank. -/
  | memoryGrant (err : Option BeatErr)
  /-- FRAME_START (R121). A frame-start packet is decoded, stamped with FRAME_CTR and FS_TIME, and FRAME_OPEN and STREAK_SET are sent. -/
  | frameStart (rx : Fin 2) (vc : Fin 16) (lanes : LaneNote) (hdr : HdrEcc)
  /-- LINE_PACKET (R120). A long packet is checked, cut or kept, forwarded and folded into its block CRC. -/
  | linePacket (rx : Fin 2) (vc : Fin 16) (lanes : LaneNote) (hdr : HdrEcc) (dtype : Nat) (payload : List Byte) (crcOk : Bool)
  /-- FRAME_END (R124). A frame-end packet closes the frame, the trailer is sent and FCNT committed. -/
  | frameEnd (rx : Fin 2) (vc : Fin 16) (lanes : LaneNote) (hdr : HdrEcc)
  /-- FRAME_TIMEOUT (R141). No frame end within FTO_MS closes the frame with status TIMEOUT. -/
  | frameTimeout (cam : Fin 4)
  /-- CAMERA_SILENCE (R131). No frame start for SILENCE_MS makes the camera UNHEALTHY. -/
  | cameraSilence (cam : Fin 4)
  /-- FLINT_COPY (R129). The ingress hands a frame's 160 × 120 luma copy to Flint's input queue. -/
  | flintCopy (cam : Fin 4)
  /-- PHY_ERROR (R143). A D-PHY start-of-transmission, sync or deskew error is counted and marks the frame PHY. -/
  | phyError (rx : Fin 2)
  /-- CAMERA_CONFIG_WRITE (R113). A write of ING_CAMn.CFG, or of GEOM. -/
  | cameraConfigWrite (cam : Fin 4) (geom : Bool) (data : Word)
  /-- I2C_TRANSFER (R133). I2C_CMD.GO starts a transfer on a free bus. -/
  | i2cTransfer (i : Fin 2) (addr : Nat) (a10 rd : Bool) (len : Nat) (rstart : Bool)
  /-- I2C_TRANSFER_DONE (R144). A transfer ends with its RESULT, including NACK outcomes. -/
  | i2cTransferDone (i : Fin 2) (nack : Fin 3) (count : Nat) (data : List Byte)
  /-- ARBITRATION_LOST (R134). The controller loses arbitration, withdraws and waits for bus free, or gives up. -/
  | arbitrationLost (i : Fin 2) (byte bit : Nat) (data : List Byte)
  /-- I2C_RETRY (R134). After bus free and the backoff, the controller restarts the whole transfer. -/
  | i2cRetry (i : Fin 2) (bus : I2cLine)
  /-- BUS_STUCK (R137). SCL held low beyond TOUT_MS ends the transfer with BUS_STUCK. -/
  | busStuck (i : Fin 2) (count : Nat) (data : List Byte)
  /-- I2C_BUSERR (R142). A START or STOP in mid-byte ends the transfer with BUSERR. -/
  | i2cBuserr (i : Fin 2) (count : Nat) (data : List Byte)
  /-- I2C_TXD (R146). A write to I2C_TXD pushes one byte into the transmit FIFO. -/
  | i2cTxd (i : Fin 2) (data : Byte)
  /-- LINK_TRAINING (R152). The CD releases SB_ADRST_N and starts training the Sill link. -/
  | linkTraining (ev : TrainEv)
  /-- TRAINING_STEP_TIMEOUT (R152). A training step not finished in time ends the attempt; after three attempts the link is DOWN. -/
  | trainingStepTimeout (step : Fin 5)
  /-- LINK_UP (R152). Training completes and the link is ACTIVE with SEQ from 0; the dispatcher firmware load begins. -/
  | linkUp
  /-- FAST_RETRAIN (R154). A fast retrain runs steps 3 … 5 of training and then replays unacknowledged flits. -/
  | fastRetrain
  /-- BLOCK_LOCK_LOST (R177). Block lock lost in ACTIVE starts a fast retrain. -/
  | blockLockLost (headers : List (List Nat))
  /-- RETRAIN (R178). SIL_CTL.RETRAIN starts a fast retrain. -/
  | retrain
  /-- FULLTRAIN (R178). SIL_CTL.FULLTRAIN starts a full training. -/
  | fulltrain
  /-- SILLRST (R172). A SILL reset discards both replay buffers and partial messages and runs a full training. -/
  | sillrst
  /-- DATA_FLIT (R156). A received data flit is delivered in order, or discarded with a NAK or a repeated ACK. -/
  | dataFlit (ad : Bool) (headers : List (List Nat)) (flit : List Byte)
  /-- LINK_CONTROL_FLIT (R151). A received link-control flit applies its cumulative ACK, NAK and credits. -/
  | linkControlFlit (ad : Bool) (flit : List Byte)
  /-- ACK_TIMER (R156). 0.5 µs after the first unacknowledged data flit, the receiver sends an ACK. -/
  | ackTimer (ad : Bool)
  /-- REPLAY_TIMEOUT (R157). The oldest flit unacknowledged for 2 µs is resent; after four resends a fast retrain starts. -/
  | replayTimeout (ad : Bool)
  /-- READY (R155). The AD reports that its dispatcher can accept frames, completing entry into WORK. -/
  | ready
  /-- TEN_CMD (R95). The dispatcher receives a tenant state command and acts on it. -/
  | tenCmd
  /-- TEN_ACK (R95). The CD receives the dispatcher's acknowledgement of a tenant state command. -/
  | tenAck (tenant : Fin 256) (action : Fin 256) (state : Fin 256)
  /-- DOORBELL (R83). The dispatcher receives a new submission tail and takes the descriptors. -/
  | doorbell (errs : List (Nat × MemErr))
  /-- MAJOR_TICK (R87). The dispatcher aligns slot 0 of major frame k to the tick and sends ENERGY_PLAN. -/
  | majorTick
  /-- FRAME_REPORT (R110). The CD receives the AD's per-major-frame lending and bucket report. -/
  | frameReport (k : Nat) (lends : Fin 65536) (late : Fin 65536) (lateS : Fin 65536) (stalls : List Nat)
  /-- PROBE (R100). A tile's NoC ingress performs the two audit probe reads. -/
  | probe
  /-- PROBE_RESULT (R101). The CD judges the probe results of an audit round. -/
  | probeResult (tile : Fin 256) (bits : Fin 256) (data : List Byte)
  /-- CONFIG (R543). The dispatcher receives plan data, a clock-plan item or a firmware-load fragment. -/
  | config
  /-- CONFIG_ACK (R203). The CD receives the dispatcher's acknowledgement of a plan, clock-plan item or firmware load. -/
  | configAck (tag : Fin 65536) (status reason : Fin 256)
  /-- EVENT (R610). An AD-originated event record arrives and is checked and logged as untrusted. -/
  | event (body : List Byte)
  /-- ENERGY_PLAN (R567). The CD receives the dispatcher's 60-second energy plan and tile counters. -/
  | energyPlan (body : List Byte)
  /-- PM_ENTER (R168). The CD sends PM_ENTER and the AD answers with PM_ACK. -/
  | pmEnter
  /-- PM_ACK (R168). The CD receives PM_ACK for a power-state entry. -/
  | pmAck (target : Fin 256)
  /-- PM_ACK_TIMEOUT (R177). PM_ACK missing after 2 µs completes the entry by EIDLE with a violation. -/
  | pmAckTimeout
  /-- ELECTRICAL_IDLE (R168). Once both replay buffers are empty the CD sends EIDLE and the lanes enter DOZE or SLEEP. -/
  | electricalIdle
  /-- RESUME_ACK (R170). The AD receives RESUME_ACK, releases SB_WAKE and sends what it held. -/
  | resumeAck (release : Bool)
  /-- DEBUG (R171). A DEBUG message reaches the dispatcher's debug module. -/
  | debug (req : Option (Bool × Word × Word))
  /-- DEBUG_RSP (R163). The CD receives the debug module's response. -/
  | debugRsp (status : Fin 256) (data : Word)
  /-- NAK_MSG (R177). The AD receives a NAK_MSG naming a violation. -/
  | nakMsg
  /-- FRAME_OPEN (R164). The dispatcher receives a frame-open message. -/
  | frameOpen
  /-- FRAME_DATA (R164). The dispatcher receives frame payload bytes and writes them into frame buffers. -/
  | frameData
  /-- FRAME_TRAILER (R84). The dispatcher completes a frame and queues or drops its frame jobs. -/
  | frameTrailer
  /-- STREAK_SET (R287). The dispatcher receives a run's seed and transforms. -/
  | streakSet
  /-- RECORD (R298). A result record enters the Assay's intake queue, or is discarded. -/
  | record (tenant : Fin 256) (count : Fin 256) (tag : Fin 65536) (body : List Byte)
  /-- COMPL_NOTE (R163). The CD receives a new completion tail of a tenant queue. -/
  | complNote (tenant : Fin 256) (queue : Fin 256) (tail : Fin 65536) (tag : Fin 65536)
  /-- MEM_RD (R166). The AD performs a tenant-scoped memory-window read. -/
  | memRd (err : Option MemErr)
  /-- MEM_RD_DATA (R165). The CD receives read data and ends the waiting access. -/
  | memRdData (tag : Nat) (status : Fin 256) (data : List Byte)
  /-- MEM_WR (R166). The AD performs a tenant-scoped memory-window write. -/
  | memWr (err : Option MemErr)
  /-- MEM_WR_ACK (R165). The CD receives a write acknowledgement and ends the waiting access. -/
  | memWrAck (tag : Nat) (status : Fin 256)
  /-- DOZE_IDLE_TIMEOUT (R168). After DOZE_IDLE_US without data flits and empty buffers, the CD starts entry into DOZE. -/
  | dozeIdleTimeout
  /-- SLEEP_REQ (R168). SIL_PM.SLEEP_REQ starts entry into SLEEP. -/
  | sleepReq
  /-- SLEEP_AFTER_TIMEOUT (R168). DOZE lasting SLEEP_AFTER_US starts entry into SLEEP. -/
  | sleepAfterTimeout
  /-- SIL_RESUME (R169). SIL_PM.RESUME makes the CD resume the link. -/
  | silResume
  /-- SB_WAKE (R173). The AD asserts SB_WAKE and the CD resumes or absorbs the wake. -/
  | sbWake (high : Bool)
  /-- RESUME_COMPLETE (R169). The link is ACTIVE after a resume and the CD sends RESUME_ACK. -/
  | resumeComplete
  /-- DEBUG_ENABLE (R171). A write to SIL_DBG.EN holds the AD DISTRUSTED, or on clearing causes an AD reset. -/
  | debugEnable (en : Bool)
  /-- APLL_SLEW_DONE (R204). The APLL_T slew completes and the dispatcher sends CONFIG_ACK. -/
  | apllSlewDone
  /-- SLEW_TIMEOUT (R218). A slew not complete in 10 µs returns APLL_T and refuses the item. -/
  | slewTimeout
  /-- TPOINT_REQUEST (R215). A write of PMU_TPOINT requests new tile points and starts a raise or lower. -/
  | tpointRequest (data : Word)
  /-- TCAP_WRITE (R573). A write of PMU_TCAP caps the tile points, or is refused while THM is enabled. -/
  | tcapWrite (cap : Nat)
  /-- VOUT_POLL (R205). Every 10 µs the PMU reads READ_VOUT until it lies within 10 mV of the target. -/
  | voutPoll (mv : Option Nat)
  /-- VOUT_TIMEOUT (R205). A voltage not settled after 200 µs is written back and the change fails. -/
  | voutTimeout
  /-- CLOCK_PLAN_ACK_TIMEOUT (R218). A clock-plan item unacknowledged after 1 ms is resent once, then the voltage is held. -/
  | clockPlanAckTimeout
  /-- TILE_POWER_UP (R202). A tile powers up with poisoned lines, untagged banks and empty program banks. -/
  | tilePowerUp (tile : Fin 16)
  /-- MEMORY_TRAINED (R209). The memory controller finishes training at the highest passing rate, or fails. -/
  | memoryTrained (step : Fin 9) (rate : Fin 4) (density : Fin 9)
  /-- MR4_POLL (R210). Every 16 ms the controller reads MR4 and sets the refresh multiplier. -/
  | mr4Poll (a b : Byte) (hot : Bool)
  /-- DRAM_REFRESH (R210). A per-bank refresh falls due and is issued ahead of tenant traffic. -/
  | dramRefresh (channel : Fin 2)
  /-- WCK_OSC_MEASURE (R210). Every 64 ms the controller measures the oscillator and retrains write timing if needed. -/
  | wckOscMeasure (drift : Bool)
  /-- BUNDLE_DISPATCH (R230). The sequencer dispatches a fetched bundle whole into the engine issue queues. -/
  | bundleDispatch (tile : Fin 16)
  /-- NEXT (R223). SOP NEXT continues with the next bundle. -/
  | nextBundle (tile : Fin 16)
  /-- LOOP (R223). SOP LOOP pushes a loop entry. -/
  | loop (tile : Fin 16)
  /-- ENDL (R223). SOP ENDL repeats or pops the top loop entry. -/
  | endl (tile : Fin 16)
  /-- JUMP (R223). SOP JUMP continues at the target bundle. -/
  | jump (tile : Fin 16)
  /-- HALT (R223). SOP HALT dispatches the bundle and stops fetching. -/
  | halt (tile : Fin 16)
  /-- SYNC (R223). SOP SYNC waits until all engine queues are empty and retired. -/
  | sync (tile : Fin 16)
  /-- TILE_HALTED (R223). After HALT every engine has retired with no shift outstanding, and the tile is HALTED. -/
  | tileHalted (tile : Fin 16)
  /-- NOP (R222). An engine NOP completes once its token wait is satisfied. -/
  | nop (tile : Fin 16) (engine : Fin 3)
  /-- MSETA (R225). MSETA sets a MAC line-address register. -/
  | mseta (tile : Fin 16)
  /-- MMODE (R225). MMODE sets the MAC format and pass. -/
  | mmode (tile : Fin 16)
  /-- WLOAD (R225). WLOAD loads the shadow weight set. -/
  | wload (tile : Fin 16) (errs : List (Nat × LineErr))
  /-- WSWAP (R225). WSWAP exchanges the shadow and active weight sets. -/
  | wswap (tile : Fin 16)
  /-- MMA (R226). MMA streams activation vectors through the array into an accumulator bank. -/
  | mma (tile : Fin 16) (errs : List (Nat × LineErr))
  /-- SIGO (R289). SIGO opens a pass signature for a Streak chunk. -/
  | sigo (tile : Fin 16)
  /-- SIGC (R225). SIGC closes the signature and posts it to the dispatcher. -/
  | sigc (tile : Fin 16)
  /-- ACLR (R225). ACLR clears an accumulator bank. -/
  | aclr (tile : Fin 16)
  /-- VALU (R227). VALU performs a lane-wise arithmetic or logic operation. -/
  | valu (tile : Fin 16)
  /-- VFMA (R227). VFMA performs a fused multiply-add. -/
  | vfma (tile : Fin 16)
  /-- VCMP (R227). VCMP compares lanes. -/
  | vcmp (tile : Fin 16)
  /-- VSH (R227). VSH shifts integer lanes. -/
  | vsh (tile : Fin 16)
  /-- VSFU (R227). VSFU computes exp2, log2, reciprocal or reciprocal square root. -/
  | vsfu (tile : Fin 16)
  /-- VCVT (R200). VCVT converts lanes between formats with rounding and saturation. -/
  | vcvt (tile : Fin 16)
  /-- VSEL (R227). VSEL selects lanes. -/
  | vsel (tile : Fin 16)
  /-- VRED (R227). VRED reduces a vector into lane 0. -/
  | vred (tile : Fin 16)
  /-- VLD (R227). VLD reads four tile-store lines into a vector register. -/
  | vld (tile : Fin 16) (errs : List (Nat × LineErr))
  /-- VST (R227). VST writes a vector register to four tile-store lines. -/
  | vst (tile : Fin 16)
  /-- VLDT (R187). VLDT performs a transposed read into a vector register. -/
  | vldt (tile : Fin 16) (errs : List (Nat × LineErr))
  /-- VRQ (R201). VRQ requantises an accumulator row to INT8, optionally feeding the signature. -/
  | vrq (tile : Fin 16)
  /-- VACC (R227). VACC converts or copies an accumulator row to FP32, optionally feeding the signature. -/
  | vacc (tile : Fin 16)
  /-- VPARAM (R228). VPARAM loads a requantisation parameter half. -/
  | vparam (tile : Fin 16) (errs : List (Nat × LineErr))
  /-- VSPL (R227). VSPL splats an immediate into every lane. -/
  | vspl (tile : Fin 16)
  /-- VSETA (R227). VSETA sets a vector line-address register. -/
  | vseta (tile : Fin 16)
  /-- VPMAP (R227). VPMAP reads the poison map into a vector register. -/
  | vpmap (tile : Fin 16)
  /-- MSETD (R229). MSETD sets 16 bits of a descriptor register. -/
  | msetd (tile : Fin 16)
  /-- MLOAD (R233). MLOAD issues a shift from memory or shelf into the tile store. -/
  | mload (tile : Fin 16)
  /-- MSTORE (R233). MSTORE issues a shift from the tile store to memory or shelf. -/
  | mstore (tile : Fin 16)
  /-- MSEND (R233). MSEND issues a shift from the tile store to a peer tile. -/
  | msend (tile : Fin 16)
  /-- MRECV (R233). MRECV issues a shift from a peer tile into the tile store. -/
  | mrecv (tile : Fin 16)
  /-- MFENCE (R229). MFENCE waits until the named queues have no shift outstanding. -/
  | mfence (tile : Fin 16)
  /-- ENGINE_OP_COMPLETE (R224). An engine operation completes and signals its ST token. -/
  | engineOpComplete (tile : Fin 16) (engine : Fin 3)
  /-- SHIFT_COMPLETE (R232). A shift moves its last beat, completes and signals its token. -/
  | shiftComplete (tile : Fin 16) (queue : Fin 8) (count : Nat) (errs : List (Nat × BeatErr))
  /-- SEAM_REACHED (R235). The tile is drained at a seam and takes a pending stop or swap, or continues. -/
  | seamReached (tile : Fin 16) (interval drain : Nat)
  /-- TILE_SEAM_LATE (R236). Interval plus drain reaching 4,800 cycles without a seam faults the tile. -/
  | tileSeamLate (tile : Fin 16) (cycles : Nat)
  /-- TILE_CREDIT_STALL (R237). A shift that moves no beat for 10 ms faults the tile. -/
  | tileCreditStall (tile : Fin 16) (queue : Fin 8)
  /-- TILE_DEADLOCK (R244). 64 cycles of token waits with nothing in progress fault the tile. -/
  | tileDeadlock (tile : Fin 16)
  /-- SWAP (R239). TL_SWAP KIND 1 requests a program change at the next reached seam. -/
  | swap (tile : Fin 16) (bank : Fin 2) (tenant : Fin 16)
  /-- STOP (R239). TL_SWAP KIND 2 requests the tile to stop at the next reached seam and go IDLE. -/
  | stop (tile : Fin 16) (reason : Fin 4)
  /-- START (R240). TL_SWAP KIND 3 starts a program on an IDLE, HALTED or FAULTED tile. -/
  | start (tile : Fin 16) (bank : Fin 2) (tenant : Fin 16)
  /-- SWAP_LIMIT_EXPIRY (R241). The swap limit expires without a seam and the tile aborts, then starts the new bank. -/
  | swapLimitExpiry (tile : Fin 16)
  /-- STOP_LIMIT_EXPIRY (R241). The 12 µs stop limit expires without a seam and the tile aborts to IDLE. -/
  | stopLimitExpiry (tile : Fin 16)
  /-- SHIFT_WITHDRAWN (R243). A tile, memory controller or shelf slice receives shift withdrawn for a shift it holds. -/
  | shiftWithdrawn (tile : Fin 16) (queue : Fin 8) (peer : Fin 16) (peerQ : Fin 8) (send : Bool)
  /-- PROGRAM_BANK_WRITE (R238). A dispatcher write to a word of a program bank's window, or to its TL_PBANKn. -/
  | programBankWrite (tile : Fin 16) (bank : Fin 2) (reg : Bool) (offset : Nat) (data : Word)
  /-- PHASE_BARRIER (R264). Every position of a barrier phase has halted and the SWAPs to the next phase are written. -/
  | phaseBarrier (job : Nat) (err : Option MemErr)
  /-- INFER_FRAME (R84). The dispatcher starts a frame job when its start test passes. -/
  | inferFrame (tenant : Fin 16) (err : Option MemErr)
  /-- INFER_CROPS (R269). The dispatcher starts a crop inference job, batched raggedly where allowed. -/
  | inferCrops (tenant : Fin 16) (err : Option MemErr)
  /-- INFER_BATCH (R269). The dispatcher starts a batch inference job. -/
  | inferBatch (tenant : Fin 16) (err : Option MemErr)
  /-- COPY (R81). The dispatcher runs a COPY job. -/
  | copy (tenant : Fin 16) (errs : List (Nat × MemErr))
  /-- GRAD (R498). A TRAIN_STEP GRAD job computes the loss-scaled adapter gradient on tiles. -/
  | grad (tenant : Fin 16) (err : Option MemErr)
  /-- REDUCE (R489). The update unit adds f times a gradient chunk into an exchange slot. -/
  | reduce (tenant : Fin 16) (errs : List (Nat × MemErr))
  /-- REDUCE_FIRST (R489). The update unit writes f times a gradient chunk into an exchange slot. -/
  | reduceFirst (tenant : Fin 16) (errs : List (Nat × MemErr))
  /-- NORM (R489). The update unit writes squared norms and non-finite flags for a segment. -/
  | norm (tenant : Fin 16) (bad : Option (Nat × MemErr))
  /-- UPDATE (R489). The update unit clips, updates and writes a segment's parameters and moments. -/
  | update (tenant : Fin 16) (bad : Option (Nat × MemErr))
  /-- JOB_COMPLETE (R82). A job finishes and the dispatcher writes its completion entry. -/
  | jobComplete (job : Nat)
  /-- JOB_DEADLINE (R82). A job's DEADLINE_US passes and it is abandoned at its next seam with TIMEOUT. -/
  | jobDeadline (job : Nat)
  /-- BATCH_CLOSE (R269). A ragged batch closes when full, at BATCH_US or at the deadline margin. -/
  | batchClose (tenant : Fin 16)
  /-- FLINT_SCORE (R292). Flint scores a copy's zones and passes the scores to the Assay. -/
  | flintScore (cam : Fin 4) (scores : Nat) (ecc : Fin 3)
  /-- FLINT_SELF_TEST (R293). Once a second Flint runs its test image and compares the scores. -/
  | flintSelfTest (ok : Bool)
  /-- FLINT_OVERRUN (R293). A copy not scored within 20 ms makes Flint FAULTED. -/
  | flintOverrun (cam : Fin 4)
  /-- ASSAY_JUDGE (R299). A record at the head of the intake queue is checked and given a verdict. -/
  | assayJudge (ce : Bool)
  /-- ZONE_EXPIRY (R305). A good(L, c) countdown reaches 0, run(L, c) becomes 0 and the bit drops. -/
  | zoneExpiry (e : Fin 32)
  /-- RUN_EXPIRY (R297). A run entry is freed STALE_MS after the frame's FE_TIME. -/
  | runExpiry (tenant : Fin 16) (cam : Fin 4) (ctr : Nat)
  /-- ASSAY_SELF_CHECK (R324). Assay copies disagreeing for more than 1 µs clear every bit and trip SAFE_B. -/
  | assaySelfCheck (copies : Bool)
  /-- STK_RNG_FAIL (R324). The random generator fails its health test and STK sends no STREAK_SET. -/
  | stkRngFail
  /-- DEMOTE (R308). ASY_CMD DEMOTE sets a TRUSTED AD to PROBATION. -/
  | demote
  /-- DISTRUST (R308). ASY_CMD DISTRUST sets the AD DISTRUSTED. -/
  | distrust
  /-- RETRY (R314). ASY_CMD RETRY makes a new escalation attempt after the reset budget was given up. -/
  | retry
  /-- CLEARZONES (R322). ASY_CMD CLEARZONES clears every believed-absent bit. -/
  | clearzones
  /-- QUALIFICATION (R313). STK sends the known-answer cases twice and the Assay compares the records. -/
  | qualification
  /-- QUALIFICATION_DONE (R311). The qualification passes, setting PROBATION, or fails and returns to AD reset within budget. -/
  | qualificationDone
  /-- QUAL_RECORD_TIMEOUT (R313). A qualification record not arriving within 100 ms of its trailer fails the qualification. -/
  | qualRecordTimeout
  /-- LUX_DARK_WRITE (R331). A write to LUX_DARK refreshes the light sensor value or the schedule verdict. -/
  | luxDarkWrite (luxin : Nat) (sched : Bool)
  /-- LUXIN_TIMEOUT (R331). No light sensor refresh for 2 s makes that source dark. -/
  | luxinTimeout
  /-- SCHED_TIMEOUT (R331). No schedule refresh for 60 s makes that source dark. -/
  | schedTimeout
  /-- LIGHT_HOLD_EXPIRY (R331). LUXIN at or above 2 × DARK_LUX for 60 s makes the light sensor say light. -/
  | lightHoldExpiry
  /-- CONTROL_CYCLE (R334). Each 2 µs control cycle the limiter moves o towards T and each channel turns on. -/
  | controlCycle (v0 v1 i0 i1 : Nat)
  /-- OC_TRIP (R337). The overcurrent comparator ends the on-time; after 64 such cycles the channel is FAULT_OC. -/
  | ocTrip (ch : Fin 2)
  /-- SC_TRIP (R338). The short-circuit comparator aborts the gate and the channel enters FAULT_SC. -/
  | scTrip (ch : Fin 2) (ramp : Bool)
  /-- HICCUP_RETRY (R341). 2 ms after FAULT_SC or FAULT_OC the channel retries a control cycle. -/
  | hiccupRetry (ch : Fin 2)
  /-- VGD_UNDERVOLTAGE (R340). VGD below 8.5 V holds both gates low and running channels enter FAULT_UV. -/
  | vgdUndervoltage
  /-- VGD_RECOVERY (R340). VGD above 9.0 V for 1 ms returns channels from FAULT_UV to RUN. -/
  | vgdRecovery
  /-- SFL1_TIMEOUT (R343). No enabled channel in RUN for 20 ms while light is required asserts LUX_SFL1. -/
  | sfl1Timeout
  /-- LUX_COPY (R336). LUX copies differing for more than 1 µs assert the LUX_COPY trip source. -/
  | luxCopy
  /-- HOME (R345). TLT_CTL.HOME starts the homing sequence. -/
  | home
  /-- TILT_STOP (R370). TLT_CTL.STOP brings the tilt to a controlled stop and READY. -/
  | tiltStop
  /-- TLT_TARGET (R347). A write of TLT_TARGET commands motion, or is refused. -/
  | tltTarget (count : Word)
  /-- ENC_INDEX (R346). An index pulse is recorded in homing or checked against Z0 and ZP. -/
  | encIndex
  /-- HOMING_TIMEOUT (R345). A homing step exceeding 120 s fails homing. -/
  | homingTimeout
  /-- SLS_WINDOW (R346). Each 10 ms window TLT checks speed against SLS_CPS. -/
  | slsWindow
  /-- POT_SAMPLE (R346). Each 1 ms TLT samples the potentiometer and cross-checks it with the encoder. -/
  | potSample (code : Nat)
  /-- BRIDGE_OVERCURRENT (R368). TCS above ILIM_MA for 1 ms sets STO. -/
  | bridgeOvercurrent
  /-- TEST_PULSE_SAMPLE (R348). SIO takes the pre, in and foreign samples of each contact in a test period. -/
  | testPulseSample (preA inA forA preB inB forB : Fin 16)
  /-- DEMAND_SAMPLE (R350). Every 50 µs outside the pulses SIO samples the contacts for demand. -/
  | demandSample (a b : Fin 16)
  /-- DISCREPANCY_TIMEOUT (R348). Contacts disagreeing for DISCREP_MS latch a DISCREP pair fault. -/
  | discrepancyTimeout (pair : Fin 4)
  /-- ARM_A (R353). SIO_SAFECTL.ARM_A energises SAFE_A, or is refused. -/
  | armA
  /-- TRIP_A (R352). SIO_SAFECTL.TRIP_A trips SAFE_A through source FW_A. -/
  | tripA
  /-- ARM_B (R353). SIO_SAFECTL.ARM_B energises SAFE_B, or is refused. -/
  | armB
  /-- TRIP_B (R352). SIO_SAFECTL.TRIP_B trips SAFE_B through source FW_B. -/
  | tripB
  /-- TPCFG_WRITE (R349). A write of SIO_TPCFG is applied or refused by the test-pulse timing rule. -/
  | tpcfgWrite (period width : Nat)
  /-- TRIP (R352). A trip source of R352 registers, or its condition ends. -/
  | trip (src : Fin 13) (asserted : Bool)
  /-- OFF_TEST (R354). Once a second SIO drives an energised output low for OFFTEST_US and checks the read-back. -/
  | offTest (out : Fin 2) (lowOk highOk : Bool)
  /-- READBACK_MISMATCH (R354). A read-back that differs from the commanded state asserts RB_FAIL. -/
  | readbackMismatch
  /-- SAFE_RESET_FALL (R355). A falling edge on SAFE_RESET_N opens the safety reset window. -/
  | safeResetFall
  /-- SAFE_RESET_RISE (R355). A rising edge on SAFE_RESET_N accepts or rejects a safety reset. -/
  | safeResetRise
  /-- RESET_STUCK (R355). SAFE_RESET_N held low for 5 s raises SIO_RST_STUCK. -/
  | resetStuck
  /-- LOCKSTEP_MISMATCH (R381). The comparator finds a difference, drops the held access, stops the cores and trips. -/
  | lockstepMismatch (group : Fin 3) (addr : Word)
  /-- AGREEMENT_FAULT (R385). Synchronisers disagreeing for 8 cycles count as a mismatch. -/
  | agreementFault (addr : Word)
  /-- INTERRUPT_INPUT (R384). Line 0 software, 1 timer, 2 external of a core; its level follows from the state. -/
  | interruptInput (core : Fin 2) (line : Fin 3)
  /-- SPLIT (R388). SYS_CORECMD.SPLIT splits the lockstep pair for a hand-over, or is refused. -/
  | split
  /-- JOIN (R389). SYS_CORECMD.JOIN stops the writing core; the second JOIN returns the pair to lockstep. -/
  | join (core : Fin 2)
  /-- SPLIT_TIMEOUT (R390). The split timer expiring before both JOINs causes a CORE reset. -/
  | splitTimeout
  /-- WATCHDOG_KICK (R392). A write to SYS_WDTn.KEY forms one half of a kick, or is a bad kick. -/
  | watchdogKick (n : Fin 2) (value : Fin 65536)
  /-- WATCHDOG_EXPIRY (R393). A watchdog expires, asserts WDT and applies a CORE reset 10 µs later. -/
  | watchdogExpiry (n : Fin 2)
  /-- KICK_HALF_TIMEOUT (R393). A second kick half not following within 100 µs makes the watchdog expire. -/
  | kickHalfTimeout (n : Fin 2)
  /-- SCRUB_READ (R396). Every PERIOD_US the scrubber reads and corrects one SRAM word. -/
  | scrubRead (found : Fin 3)
  /-- OTP_READ (R399). A write of SYS_OTPADDR starts reading one OTP word. -/
  | otpRead (offset : Fin 8192)
  /-- OTP_READ_DONE (R399). The OTP word is in SYS_OTPDATA and DISAGREE is set or cleared. -/
  | otpReadDone
  /-- IDCODE (R400). The TAP selects the IDCODE data register. -/
  | idcode
  /-- DTMCS (R400). The TAP selects the debug transport control register. -/
  | dtmcs
  /-- DMI (R400). The TAP selects the debug module interface register. -/
  | dmi (op : Fin 4) (addr : Fin 128) (data : Word)
  /-- BYPASS (R400). The TAP selects the one-bit bypass register. -/
  | bypass (code : Fin 32)
  /-- DMACTIVE_WRITE (R401). A write of dmactive activates the debug module, or is ignored under JTAG_LOCK. -/
  | dmactiveWrite (v : Bool)
  /-- HALT_REQUEST (R402). A halt request halts C0, and C1 with it in lockstep. -/
  | haltRequest (hart : Nat)
  /-- RESUME_REQUEST (R403). A resume request replays C0's register writes to C1 and releases both cores. -/
  | resumeRequest (hart : Nat)
  /-- SINGLE_STEP (R403). A step request replays to C1 and executes one instruction. -/
  | singleStep (hart : Nat) (insn : Word)
  /-- ACCESS_REGISTER (R402). An abstract Access Register command reads or writes a register of C0 and logs writes for replay. -/
  | accessRegister (write : Bool) (regno : Fin 65536) (data : Word)
  /-- PROGRAM_BUFFER (R402). Both halted cores execute the program buffer under comparison. -/
  | programBuffer (words : List Word)
  /-- SYSTEM_BUS_ACCESS (R401). The debug module performs a 32-bit system-bus access. -/
  | systemBusAccess (m : Master) (op : BusOp) (addr size : Nat) (data : Word) (ecc : Fin 3) (env : BusEnv)
  /-- NDMRESET (R549). Debug ndmreset applies a CORE reset. -/
  | ndmreset
  /-- PORT_LINK_UP (R415). `good`: full duplex at the mode's speed. -/
  | portLinkUp (port : Fin 2) (good : Bool)
  /-- PORT_LINK_DOWN (R451). A line port loses its link; flapping disables the port and Cairn may go DOWN. -/
  | portLinkDown (port : Fin 2)
  /-- FRAME_RECEIVED (R419). The frame without its FCS; `ue` an uncorrectable SRAM error on the ring access of its delivery. -/
  | frameReceived (port : Fin 2) (bytes : List Byte) (fcsOk ue : Bool)
  /-- RX_TAIL_WRITE (R424). A write of NET_RXQq.TAIL hands receive descriptors to NET. -/
  | rxTailWrite (q : Fin 17) (data : Word)
  /-- TX_TAIL_WRITE (R425). A write of the transmit ring TAIL queues descriptors for sending. -/
  | txTailWrite (data : Word) (ue : Bool)
  /-- FRAME_TRANSMITTED (R429). A frame leaves a line port with its egress stamp and any correction added. -/
  | frameTransmitted (port : Fin 2)
  /-- LEARN_AGE (R421). A learning-table entry ages out after 300 s. -/
  | learnAge (mac : Nat)
  /-- STORM_WINDOW (R423). A 10 ms storm window ends and the broadcast count restarts. -/
  | stormWindow (port : Fin 2)
  /-- FUP_ENTRY_EXPIRY (R430). A two-step Follow_Up entry unused for 100 ms is freed. -/
  | fupEntryExpiry (k : Fin 16)
  /-- C22_WRITE (R417). MDIO clause 22 write. -/
  | c22Write (phy reg : Fin 32)
  /-- C22_READ (R417). MDIO clause 22 read. -/
  | c22Read (phy reg : Fin 32)
  /-- C45_ADDRESS (R417). MDIO clause 45 address frame. -/
  | c45Address (phy dev : Fin 32)
  /-- C45_WRITE (R417). MDIO clause 45 write. -/
  | c45Write (phy dev : Fin 32)
  /-- C45_READ (R417). MDIO clause 45 read. -/
  | c45Read (phy dev : Fin 32)
  /-- C45_READ_INCREMENT (R417). MDIO clause 45 read with address increment. -/
  | c45ReadIncrement (phy dev : Fin 32)
  /-- MDIO_DONE (R417). An MDIO operation ends with OK or NORESP. -/
  | mdioDone (data : Option Word)
  /-- SNAP (R453). TIM_CMD.SNAP copies all four bases in one cycle. -/
  | snap
  /-- TB3_ALIGN (R438). TIM_CMD.TB3_ALIGN sets D to 0 and steps TB3. -/
  | tb3Align
  /-- SEL_A (R436). TIM_CMD.SEL_A selects TB0 without a step of TB3. -/
  | selA
  /-- SEL_B (R436). TIM_CMD.SEL_B selects TB1 without a step of TB3. -/
  | selB
  /-- BASE_STEP (R432). A write of TIM_TBn.STEP with an i32 in ns. -/
  | baseStep (n : Fin 4) (step : Word)
  /-- DOMAIN_LOCK_WRITE (R433). A write of TIM_DOM. -/
  | domainLockWrite (data : Word)
  /-- SYNC_TIMEOUT (R435). Domain A (0) or B (1). -/
  | syncTimeout (d : Fin 2)
  /-- BASE_WRAP (R439). Bit 31 of a base goes from 1 to 0 and WRAPn is set. -/
  | baseWrap (n : Fin 4)
  /-- TRIGGER_FIRE (R440). A trigger's comparison holds and it fires, takes a half period or counts missed periods. -/
  | triggerFire (k : Fin 8)
  /-- TRIGGER_ARM (R442). A write of TIM_TTRGk.CFG. -/
  | triggerArm (k : Fin 8) (data : Word)
  /-- FSYNC_PULSE_END (R442). An FSYNC pulse ends after WIDTH_NS. -/
  | fsyncPulseEnd (pin : Fin 4)
  /-- CAIRN_FRAME (R456). A Cairn frame is accepted, delivered and relayed, or dropped. -/
  | cairnFrame
  /-- CLAIM (R461). A received CLAIM is compared by standing and answered by claim, yield, deferral or roster. -/
  | claim
  /-- YIELD (R461). A claimant receives a YIELD and counts it. -/
  | yield
  /-- ROSTER (R466). A node takes a ROSTER from its head, joins or yields to a better head. -/
  | roster
  /-- CAIRN_JOIN (R465). The head lists a joining node by position, key and rank. -/
  | cairnJoin
  /-- HELLO (R458). A HELLO from a neighbour restarts that port's NEIGHBOUR_TO. -/
  | hello
  /-- BEAT (R458). The head receives a BEAT and restarts the node's BEAT_TO. -/
  | beat
  /-- CHUNK_DATA (R475). The receiver writes a transfer fragment and completes or refuses the transfer. -/
  | chunkData (ue : Bool)
  /-- CHUNK_ACK (R476). The sender takes an acknowledgement and advances its window or ends the transfer. -/
  | chunkAck
  /-- CAIRN_STEP (R499). A STEP message is delivered to firmware through the message ring. -/
  | cairnStep (ue : Bool)
  /-- CKPT_MARK (R506). A CKPT_MARK message is delivered to firmware. -/
  | ckptMark (ue : Bool)
  /-- CAIRN_FAULT (R457). A FAULT message is delivered to firmware. -/
  | cairnFault (ue : Bool)
  /-- T_LISTEN (R460). T_LISTEN expires without roster or deferral and the node claims. -/
  | tListen
  /-- CLAIM_WAIT (R461). CLAIM_WAIT expires and the node becomes HEAD and publishes a ROSTER. -/
  | claimWait
  /-- FOLLOW_TO (R458). FOLLOW_TO expires and the node returns to LISTEN. -/
  | followTo
  /-- JOIN_RETRY (R463). JOIN_RETRY expires and the node sends JOIN again, or returns to LISTEN. -/
  | joinRetry
  /-- BACKOFF (R458). BACKOFF after a duplicate key expires and the node enters LISTEN. -/
  | backoff
  /-- HELLO_MS (R459). The HELLO timer of a port expires and a HELLO is sent. -/
  | helloMs (port : Fin 2)
  /-- NEIGHBOUR_TO (R468). NEIGHBOUR_TO expires and the node reports NEIGHBOUR_LOST. -/
  | neighbourTo (port : Fin 2)
  /-- ROSTER_MS (R466). The head repeats its ROSTER with the same epoch. -/
  | rosterMs
  /-- BEAT_TIMER (R458). A member's BEAT timer expires and a BEAT is sent to the head. -/
  | beatTimer
  /-- HEAD_TO (R470). HEAD_TO expires and the member enters LISTEN for a cold start. -/
  | headTo
  /-- BEAT_TO (R469). BEAT_TO expires and the head marks the node LOST and may open its rank. -/
  | beatTo (key : Nat)
  /-- RANK_WAIT (R472). RANK_WAIT expires and unheld ranks open to takeover by spares. -/
  | rankWait
  /-- ROSTER_PUBLISH (R466). 50 ms after the previous change the head publishes the roster with a new epoch. -/
  | rosterPublish
  /-- RESTART (R484). CRN_CMD.RESTART puts the node into LISTEN. -/
  | restart
  /-- REVERT (R473). CRN_CMD.REVERT at the head returns acting ranks to their configured holders. -/
  | revert
  /-- TRANSFER_START (R476). CRN starts a queued send descriptor as a chunk transfer. -/
  | transferStart (ue : Bool)
  /-- MESSAGE_SEND (R484). CRN sends a firmware message from the CRN_MTX ring. -/
  | messageSend (ue : Bool)
  /-- RESEND_TIMEOUT (R476). 2 ms without progress resends the window; after eight the transfer fails. -/
  | resendTimeout (id : Nat)
  /-- CHUNK_ACK_TIMER (R475). 200 µs after the first unacknowledged fragment the receiver sends CHUNK_ACK. -/
  | chunkAckTimer (src id : Nat)
  /-- TRANSFER_IDLE_TIMEOUT (R475). An open receive transfer idle for 100 ms is closed. -/
  | transferIdleTimeout (src id : Nat)
  /-- POR (R530). VAON below 2.80 V, or not yet 10 ms above 2.90 V, holds the device in POR. -/
  | por
  /-- POR_RELEASE (R538). VAON held above 2.90 V for 10 ms releases POR and the PMU raises PWR_EN0. -/
  | porRelease
  /-- SUPPLY_OUT_OF_RANGE (R531). VDD_CD or VAON out of range for 1 µs asserts SUPPLY. -/
  | supplyOutOfRange
  /-- SUPPLY_RECOVERY (R531). Both supplies back in range start a SYS reset. -/
  | supplyRecovery
  /-- CLOCK_FAULT (R532). XO25 or CPLL out of range asserts CLOCK and a SYS reset follows 10 µs later. -/
  | clockFault
  /-- XTAL32_FAIL (R532). XTAL32 missing four edges moves the real-time counter to RC32. -/
  | xtal32Fail
  /-- XTAL32_RUNNING (R530). XTAL32 running for 4,096 cycles moves the real-time counter to it. -/
  | xtal32Running
  /-- CPLL_LOCK (R538). XO25 runs and CPLL locks. -/
  | cpllLock
  /-- SRAM_INIT_DONE (R397). SRAM is filled with zeros and the cores leave reset. -/
  | sramInitDone
  /-- CORES_LEAVE_RESET (R376). The cores leave reset in lockstep and the boot ROM starts. -/
  | coresLeaveReset (fail : Fin 16) (density : Option Nat) (progs : List Prog)
  /-- BOOT_LOADER_START (R529). The boot ROM selects and checks code images and jumps to the boot loader, or enters recovery. -/
  | bootLoaderStart
  /-- PG_RISE (R533). A power-good rises and the PMU raises the next enable or switches domains. -/
  | pgRise (n : Fin 8)
  /-- PG_TIMEOUT (R534). A power-good not risen by its timeout fails the transition. -/
  | pgTimeout (n : Fin 8)
  /-- PG_LOST (R535). A power-good falls while its enable is high and the PMU answers by enable. -/
  | pgLost (n : Fin 8)
  /-- START_RETRY (R534). 1 s after a failed cold or wake start, the start is retried. -/
  | startRetry
  /-- PG_RERAISE (R535). 1 s after a loss of PG2 the enable is raised again. -/
  | pgReraise
  /-- AVS_STATUS_POLL (R537). Every 100 ms in WORK the PMU reads STATUS_WORD and the measured power. -/
  | avsStatusPoll (word : Option (Fin 65536)) (fault warn : Bool) (vout iout temp : Fin 65536)
  /-- WATCH (R545). PMU_CMD WATCH leaves WORK in order and powers the AD down. -/
  | watch (held : Bool)
  /-- WORK (R542). PMU_CMD WORK raises the AD rails, powers its domains and releases SB_ADRST_N, or is refused. -/
  | work (held : Bool) (vmode : Option (Fin 256))
  /-- STANDBY (R547). PMU_CMD STANDBY de-energises the outputs and switches everything but AON off, or is refused. -/
  | standby (held persisted : Bool)
  /-- READY_TIMEOUT (R544). No READY 100 ms after SB_ADRST_N release counts as a failed qualification. -/
  | readyTimeout
  /-- WAKE_ALARM (R548). The real-time counter reaches PMU_ALARM in STANDBY and a wake start runs. -/
  | wakeAlarm
  /-- WAKE_PIN (R548). WAKE0_N or WAKE1_N held low for 1 ms in STANDBY starts a wake start. -/
  | wakePin (pin : Fin 2)
  /-- UPD_REQUEST (R546). A write of PMU_DOMREQ.UPD powers AD_UPD on or off. -/
  | updRequest (upd : Bool)
  /-- DOMAIN_RESET (R550). PMU_DOMRST resets one domain by power-down and power-up, or is refused. -/
  | domainReset (mask : Nat)
  /-- SYS_RESET (R549). A SYS reset resets every CD domain but AON, and the AD. -/
  | sysReset (sw : Bool) (code : Nat)
  /-- CORE_RESET (R549). A CORE reset resets the cores, interrupt controller and session, and the boot ROM runs. -/
  | coreReset (sw : Bool) (code : Nat)
  /-- AD_RESET (R311). An AD reset clears zone bits, asserts SB_ADRST_N, sets DISTRUSTED and every tenant ABSENT. -/
  | adReset (code : Nat)
  /-- QSPI_PROGRAM (R658). QSPI_CMD OP 1 programs up to 256 bytes, or is refused or write-protected. -/
  | qspiProgram (len : Fin 512)
  /-- QSPI_ERASE_4K (R658). QSPI_CMD OP 2 erases a 4 KiB sector. -/
  | qspiErase4k
  /-- QSPI_ERASE_64K (R658). QSPI_CMD OP 3 erases a 64 KiB block. -/
  | qspiErase64k
  /-- QSPI_READ (R658). QSPI_CMD OP 4 reads up to 256 bytes into QSPI_BUF. -/
  | qspiRead (len : Fin 512)
  /-- QSPI_DONE (R658). A flash operation ends and DONE is set. -/
  | qspiDone
  /-- QSPI_TIMEOUT (R560). The flash busy for more than 3 s ends the operation with TIMEOUT. -/
  | qspiTimeout
  /-- NTC_SAMPLE (R564). Every 100 ms THM samples and converts the casting and ambient thermistors. -/
  | ntcSample (c0 c1 : Fin 4096)
  /-- CD_SENSOR_SAMPLE (R565). Every 10 ms THM samples the CD die sensors. -/
  | cdSensorSample (a b : BitVec 16)
  /-- FORECAST (R570). Once a second THM forecasts 60 s of junction temperature and applies or undoes actions. -/
  | forecast
  /-- PLAN_MISS_TIMEOUT (R582). No ENERGY_PLAN for 100 ms in WORK makes THM use the newest plan's highest entry. -/
  | planMissTimeout
  /-- CD_HOT_TIMER (R576). The CD junction above its limit for 100 ms orders WATCH, or above 125 °C trips both outputs. -/
  | cdHotTimer
  /-- WATCHORD_TIMEOUT (R575). 60 s after WATCHORD was set, THM may clear it. -/
  | watchordTimeout
  /-- STEP_TEST (R568). THM_CMD.STEP starts the commissioning step test, or is refused. -/
  | stepTest
  /-- STEP_TEST_ABORT (R568). THM_CMD.ABORT ends the step test with reason 4. -/
  | stepTestAbort
  /-- STEP_TEST_SAMPLE (R568). Once a second during the step test THM samples, moves phase and fits the model at the end. -/
  | stepTestSample
  /-- EVENT_RAISE (R588). A block presents an event; EVL folds it into an open entry or queues it. -/
  | eventRaise (id cls src arg0 arg1 arg2 : Nat)
  /-- COALESCE_CLOSE (R588). A coalescing entry closes 1 ms after its first occurrence and writes back its count. -/
  | coalesceClose
  /-- LOG_RECORD_WRITE (R590). EVL writes the next queued event into a reusable ring slot. -/
  | logRecordWrite
  /-- LOG_RELEASE (R593). A write of EVL_RD releases ring slots in STOP mode. -/
  | logRelease (slot : Nat)
  /-- PAGE_START (R596). EVL starts a persistence page when a start condition holds. -/
  | pageStart
  /-- FLUSH_TIMEOUT (R596). A pending record that has waited FLUSH_MS starts a page. -/
  | flushTimeout
  /-- PAGE_PERSISTED (R597). A page program and read-back finish; `left` is what a failed program left in flash. -/
  | pagePersisted (left : Option (List Byte))
  /-- FLUSH (R596). EVL_CMD.FLUSH persists every record pending at the write. -/
  | flush
  /-- PRESTART (R597). EVL_CMD.PRESTART resumes stopped persistence. -/
  | prestart
  /-- FIRMWARE_EVENT (R604). EVL_SWEV with GO raises a firmware event, or is refused. -/
  | firmwareEvent (idlo cls : Nat)
  /-- GPIO_SET (R647). A write of GPIO_SET sets GPIO_OUT bits. -/
  | gpioSet (data : Word)
  /-- GPIO_CLR (R647). A write of GPIO_CLR clears GPIO_OUT bits. -/
  | gpioClr (data : Word)
  /-- GPIO_EDGE (R639). A selected edge on a GPIO pin sets its GPIO_INT bit. -/
  | gpioEdge (pin : Fin 24) (level : Bool)
  /-- UART_TXD (R648). A write of UART_TXD pushes one byte for transmission. -/
  | uartTxd (i : Fin 2) (data : Byte)
  /-- UART_RX_BYTE (R640). A UART receives a frame and stores the byte, or discards it on framing, parity, overrun or break. -/
  | uartRxByte (i : Fin 2) (data : Byte) (kind : Fin 5)
  /-- SPI_TRANSFER (R641). SPI_CMD.GO starts a full-duplex transfer, or is refused. -/
  | spiTransfer (len : Fin 256) (cs : Fin 8) (hold : Bool) (miso : List Byte)
  /-- SPI_TXD (R649). A write of SPI_TXD pushes one byte for transfer. -/
  | spiTxd (data : Byte)
  /-- SPI_TRANSFER_DONE (R641). An SPI transfer ends and DONE is set. -/
  | spiTransferDone
  /-- TRAINING_RETRY (R152). 100 µs after a failed training attempt, the CD starts the next of its three attempts. -/
  | trainingRetry
  /-- SB_WAKE_HELD (R177). SB_WAKE asserted in ACTIVE for more than 1 µs, or still held 10 µs after RESUME_ACK, is counted as violation 0x0A and reported to the ladder. -/
  | sbWakeHeld
  /-- ENCODER_EDGE (R346). A quadrature edge, counted ×4, upwards or downwards. -/
  | encoderEdge (up : Bool)
  /-- PG_FALL (R533). While enables are being lowered, a power-good falls, or 10 ms pass after an enable was lowered, and the PMU lowers the next enable. -/
  | pgFall (n : Fin 8) (timeout : Bool)
  /-- XO25_START_TIMEOUT (R524). XO25 not running 10 ms after PG0 fails the cold start, which is retried by R534. -/
  | xo25StartTimeout
  /-- UART_TX_COMPLETE (R640). A UART finishes shifting out its last byte and sets TXEMPTY. -/
  | uartTxComplete (i : Fin 2)
deriving DecidableEq, Repr

end Sys2Proof
end

