-- ==== Sys2Proof/Decode.lean ====
section
/-! DEFINITION. Decoding: no row of the operation and event table gives bits, so no word spells a command. -/

namespace Sys2Proof

/-- The command that a word spells by the table's bits: none, since the table's rows have no bits. -/
def decodeTableWord (_nbits _w : Nat) : Option Instr := none

end Sys2Proof
end

