-- ==== Sys2Proof/Config.lean ====
section
/-! DEFINITION. Configuration: the values the spec leaves open. Each is an opaque constant without a body, so that no
proof can rest on a value of it; the assumption-log entry is named at each. -/

namespace Sys2Proof.Config

/-- A fresh value of `w` bits, the `n`-th drawn: STK's random generator (R285), the Cairn BACKOFF and retry draws
(R458), the contents of a flash area whose erase or program timed out (R658). Log entry 4. -/
opaque freeBits : (w : Nat) → Nat → BitVec w

/-- The value of a VSFU lane within the error R227 allows: function code, operand bits. Log entry 5. -/
opaque vsfu : Nat → BitVec 32 → BitVec 32

/-- A vector result that the spec does not state: a shift by the lane's width or more, a minimum or maximum of a NaN or
of zeros of opposite sign (operation, type, first and second operand). Log entry 5. -/
opaque vecOpen : Nat → Nat → Nat → Nat → BitVec 32

/-- An FP32 reduction whose result depends on an order that the spec does not state: operation, the 64 lanes. Log entry
5. -/
opaque vecReduce : Nat → List Nat → BitVec 32

/-- Whether the conversion of a thermistor code to 0.1 °C rounds up, where R564 fixes no rounding: R25 in Ω, B in K, code. Log
entry 6. -/
opaque ntcUp : Nat → Nat → Nat → Bool

/-- What an instruction executed by a core does to the core's registers (the RISC-V instruction set is outside this
spec): instruction word or program-buffer word, register number, old value. Log entry 7. -/
opaque coreEffect : List (BitVec 32) → Nat → BitVec 32 → BitVec 32

/-- A power βᵏ, which R489 computes in FP64 by a method it does not state and rounds to FP32: β as FP32 bits, k. Log entry
33. -/
opaque betaPow : Nat → Nat → BitVec 32

/-- How many bytes of the flash Flint model area FL-P2 occupies: those its hash covers (R293). Log entry 35. -/
opaque flintModelLen : Nat

/-- A byte of the boot ROM, whose contents the spec does not give. Log entry 94. -/
opaque romByte : Nat → BitVec 8

end Sys2Proof.Config
end

