-- ==== Sys2Proof/Machine/Crypto.lean ====
section
/-! DEFINITION. The number-theoretic and checksum operations the spec names: little-endian fields (R2), SHA-256
(R32, R52, R65), CRC-32C (R64, R115), the Ethernet CRC-32 (R452) and ECDSA over P-256 (R37, R44). SHA-256 and P-256
are the published standards' functions (PRESUMED, log entry 8): the spec names them and does not restate them. -/

namespace Sys2Proof.Machine

/-- Byte `i` of a list, 0 beyond its end. -/
def byteAt (l : List Byte) (i : Nat) : Nat := (l.getD i 0).toNat

/-- The value of a list of bytes, little-endian (R2). -/
def leNat : List Byte → Nat
  | [] => 0
  | b :: l => b.toNat + 256 * leNat l

/-- The value of a list of bytes, most significant first. -/
def beNat (l : List Byte) : Nat := l.foldl (fun a b => a * 256 + b.toNat) 0

/-- The low `n` bytes of a value, little-endian. -/
def leBytes : Nat → Nat → List Byte
  | 0, _ => []
  | n + 1, v => BitVec.ofNat 8 v :: leBytes n (v / 256)

/-- The low `n` bytes of a value, most significant first. -/
def beBytes (n v : Nat) : List Byte := (leBytes n v).reverse

/-- The little-endian field of `n` bytes at offset `o`. -/
def fieldAt (l : List Byte) (o n : Nat) : Nat := leNat ((l.drop o).take n)

/-- A list cut or filled with zeros to exactly `n` bytes. -/
def padTo (n : Nat) (l : List Byte) : List Byte := l.take n ++ List.replicate (n - l.length) 0

/-! ### CRC -/

/-- One bit of a reflected CRC with reversed polynomial `poly`. -/
def crcBit (poly c : BitVec 32) : BitVec 32 :=
  if c.getLsbD 0 then (c >>> 1) ^^^ poly else c >>> 1

/-- Eight bits of a reflected CRC. -/
def crcByte (poly c : BitVec 32) (b : Byte) : BitVec 32 :=
  (List.range 8).foldl (fun c _ => crcBit poly c) (c ^^^ b.zeroExtend 32)

/-- A reflected CRC, all ones at the start, inverted at the end. -/
def crcOf (poly : BitVec 32) (l : List Byte) : BitVec 32 :=
  ~~~(l.foldl (crcByte poly) (BitVec.allOnes 32))

/-- CRC-32C, Castagnoli (R115). -/
def crc32c (l : List Byte) : Nat := (crcOf 0x82F63B78#32 l).toNat

/-- The Ethernet CRC-32 (R452's multicast hash, the FCS of R418). -/
def crc32 (l : List Byte) : Nat := (crcOf 0xEDB88320#32 l).toNat

/-! ### SHA-256 -/

namespace Sha

/-- The largest number below `r + 2 ^ bits` whose power `e` does not exceed `n`, found bit by bit above `r`. -/
def rootFrom (e n : Nat) : Nat → Nat → Nat
  | 0, r => r
  | bits + 1, r => rootFrom e n bits (if (r + 2 ^ bits) ^ e ≤ n then r + 2 ^ bits else r)

/-- The primes below `n`. -/
def primesBelow (n : Nat) : List Nat :=
  (List.range n).filter fun q => decide (2 ≤ q) && (List.range 18).all fun d => decide (d < 2 ∨ q ≤ d ∨ q % d ≠ 0)

/-- The first 32 bits of the fractional part of the root of degree `e` of `q`. -/
def fracRoot (e q : Nat) : BitVec 32 := BitVec.ofNat 32 (rootFrom e (q * 2 ^ (32 * e)) 37 0)

/-- The round constants: from the cube roots of the first 64 primes. -/
def k : List (BitVec 32) := (primesBelow 312).map (fracRoot 3)

/-- The initial hash value: from the square roots of the first eight primes. -/
def init : List (BitVec 32) := (primesBelow 20).map (fracRoot 2)

/-- The sum modulo 2 of `x` turned right by each of `turns`, and of `x` shifted right by each of `shifts`. -/
def mix (turns shifts : List Nat) (x : BitVec 32) : BitVec 32 :=
  shifts.foldl (fun a n => a ^^^ x >>> n) (turns.foldl (fun a n => a ^^^ x.rotateRight n) 0)

/-- One word of the message schedule from the last sixteen, oldest first. -/
def nextW (w : List (BitVec 32)) : BitVec 32 :=
  [mix [17, 19] [10] (w.getD 14 0), w.getD 9 0, mix [7, 18] [3] (w.getD 1 0), w.getD 0 0].foldl (· + ·) 0

/-- One round on the eight working words, with the sum of the round's schedule word and constant: the words move one place on, and
the two new ones come in at the first and the fifth. -/
def round (h : List (BitVec 32)) (wk : BitVec 32) : List (BitVec 32) :=
  let x := fun i => h.getD i 0
  let choice := (x 4 &&& x 5) ||| (~~~(x 4) &&& x 6)
  let majority := (x 0 &&& (x 1 ||| x 2)) ||| (x 1 &&& x 2)
  let t := x 7 + choice + mix [6, 11, 25] [] (x 4) + wk
  (majority + mix [2, 13, 22] [] (x 0) + t) :: h.take 3 ++ (x 3 + t) :: (h.drop 4).take 3

/-- The rounds of one block: the window of sixteen schedule words slides as the rounds go. -/
def rounds : List (BitVec 32) → List (BitVec 32) → List (BitVec 32) → List (BitVec 32)
  | [], _, h => h
  | k :: ks, w, h => rounds ks (w.drop 1 ++ [nextW w]) (round h (w.getD 0 0 + k))

/-- Sixteen big-endian words of a block. -/
def words (b : List Byte) : List (BitVec 32) :=
  (List.range 16).map fun i => BitVec.ofNat 32 (beNat ((b.drop (4 * i)).take 4))

/-- All blocks of a padded message, `fuel` at most. -/
def blocks : Nat → List Byte → List (BitVec 32) → List (BitVec 32)
  | 0, _, h => h
  | n + 1, m, h => blocks n (m.drop 64) ((h.zip (rounds k (words m) h)).map fun p => p.1 + p.2)

/-- The padded message. -/
def pad (m : List Byte) : List Byte :=
  m ++ [0x80] ++ List.replicate ((119 - m.length % 64) % 64) 0 ++ beBytes 8 (8 * m.length)

end Sha

/-- SHA-256, its 32 digest bytes in output order. -/
def sha256 (m : List Byte) : List Byte :=
  let p := Sha.pad m
  (Sha.blocks (p.length / 64) p Sha.init).flatMap fun w => beBytes 4 w.toNat

/-! ### ECDSA over P-256 -/

namespace P256

def p : Nat := 0xFFFFFFFF00000001000000000000000000000000FFFFFFFFFFFFFFFFFFFFFFFF
def n : Nat := 0xFFFFFFFF00000000FFFFFFFFFFFFFFFFBCE6FAADA7179E84F3B9CAC2FC632551
def b : Nat := 0x5AC635D8AA3A93E7B3EBBD55769886BC651D06B0CC53B0F63BCE3C3E27D2604B
def gx : Nat := 0x6B17D1F2E12C4247F8BCE6E563A440F277037D812DEB33A0F4A13945D898C296
def gy : Nat := 0x4FE342E2FE1A7F9B8EE7EB4A7C0F9E162BCE33576B315ECECBB6406837BF51F5

/-- `b ^ e mod m`, `fuel` bits of `e`. -/
def powMod : Nat → Nat → Nat → Nat → Nat
  | 0, _, _, m => 1 % m
  | f + 1, b, e, m =>
    let h := powMod f (b * b % m) (e / 2) m
    if e % 2 = 1 then b * h % m else h

/-- The inverse modulo a prime. -/
def inv (a m : Nat) : Nat := powMod 256 (a % m) (m - 2) m

/-- The sum of two points; `none` is the point at infinity. -/
def add : Option (Nat × Nat) → Option (Nat × Nat) → Option (Nat × Nat)
  | none, q => q
  | r, none => r
  | some (x1, y1), some (x2, y2) =>
    if x1 = x2 ∧ (y1 + y2) % p = 0 then none
    else
      let l := if x1 = x2 then (3 * x1 * x1 + (p - 3)) * inv (2 * y1) p % p
               else (y2 + p - y1) * inv (x2 + p - x1) p % p
      let x3 := (l * l + 2 * p - x1 - x2) % p
      some (x3, (l * (x1 + p - x3) + p - y1) % p)

/-- `e` times a point, `fuel` bits. -/
def mul : Nat → Nat → Option (Nat × Nat) → Option (Nat × Nat)
  | 0, _, _ => none
  | f + 1, e, q =>
    let h := mul f (e / 2) (add q q)
    if e % 2 = 1 then add q h else h

/-- The point lies on the curve. -/
def onCurve (x y : Nat) : Bool :=
  decide (x < p) && decide (y < p) && decide (y * y % p = (x * x * x + (p - 3) * x + b) % p)

/-- ECDSA verification of digest `h`, signature (`r`, `s`) and public key (`x`, `y`). -/
def verify (h r s x y : Nat) : Bool :=
  if r = 0 ∨ n ≤ r ∨ s = 0 ∨ n ≤ s then false
  else
    let w := inv s n
    match add (mul 256 (h * w % n) (some (gx, gy))) (mul 256 (r * w % n) (some (x, y))) with
    | none => false
    | some (x1, _) => decide (x1 % n = r)

end P256

end Sys2Proof.Machine
end

