-- ==== Sys2Proof/Machine/Events.lean ====
section
/-! DEFINITION. The device's events: ID, class (0 SAFETY, 1 FAULT, 2 WARN, 3 INFO) and source block in LCK_KEY order
(R584, R585; each chapter's tables of faults and answers). -/

namespace Sys2Proof.Machine

/-- An event's ID, class and source block. -/
structure EvId where
  id  : Nat
  cls : Nat
  src : Nat
deriving DecidableEq, Repr

namespace Ev

/-- SYS_RESET, INFO. -/
def SYS_RESET : EvId := ⟨0x0101, 3, 0⟩
/-- SYS_CLK_FAIL, SAFETY. -/
def SYS_CLK_FAIL : EvId := ⟨0x0102, 0, 0⟩
/-- SYS_RECOVERY, FAULT. -/
def SYS_RECOVERY : EvId := ⟨0x0103, 1, 0⟩
/-- SYS_FLASH_BAD, SAFETY. -/
def SYS_FLASH_BAD : EvId := ⟨0x0104, 0, 0⟩
/-- SYS_ADLOAD_FAIL, FAULT. -/
def SYS_ADLOAD_FAIL : EvId := ⟨0x0105, 1, 0⟩
/-- SYS_LCK_MISMATCH, SAFETY. -/
def SYS_LCK_MISMATCH : EvId := ⟨0x0120, 0, 0⟩
/-- SYS_AGREE_FAULT, SAFETY. -/
def SYS_AGREE_FAULT : EvId := ⟨0x0121, 0, 0⟩
/-- SYS_SPLIT, INFO. -/
def SYS_SPLIT : EvId := ⟨0x0122, 3, 0⟩
/-- SYS_JOIN, INFO. -/
def SYS_JOIN : EvId := ⟨0x0123, 3, 0⟩
/-- SYS_SPLIT_TO, FAULT. -/
def SYS_SPLIT_TO : EvId := ⟨0x0124, 1, 0⟩
/-- SYS_SRAM_CE, INFO. -/
def SYS_SRAM_CE : EvId := ⟨0x0125, 3, 0⟩
/-- SYS_SRAM_UE, FAULT. -/
def SYS_SRAM_UE : EvId := ⟨0x0126, 1, 0⟩
/-- SYS_WDT, SAFETY. -/
def SYS_WDT : EvId := ⟨0x0127, 0, 0⟩
/-- SYS_DEBUG, WARN. -/
def SYS_DEBUG : EvId := ⟨0x0128, 2, 0⟩
/-- SYS_DBG_REPLAY_OVF, INFO. -/
def SYS_DBG_REPLAY_OVF : EvId := ⟨0x0129, 3, 0⟩
/-- SYS_ROM_PAR, FAULT. -/
def SYS_ROM_PAR : EvId := ⟨0x012A, 1, 0⟩
/-- SYS_LCK_HOLD, SAFETY. -/
def SYS_LCK_HOLD : EvId := ⟨0x012B, 0, 0⟩
/-- SYS_DEBUG_REFUSED, WARN. -/
def SYS_DEBUG_REFUSED : EvId := ⟨0x012C, 2, 0⟩
/-- SYS_OTP_DIS, SAFETY. -/
def SYS_OTP_DIS : EvId := ⟨0x012D, 0, 0⟩
/-- SYS_SELFTEST_FAIL, SAFETY. -/
def SYS_SELFTEST_FAIL : EvId := ⟨0x012E, 0, 0⟩
/-- SYS_SELFTEST_SKIP, INFO. -/
def SYS_SELFTEST_SKIP : EvId := ⟨0x012F, 3, 0⟩
/-- PMU_STATE, INFO. -/
def PMU_STATE : EvId := ⟨0x0201, 3, 1⟩
/-- PMU_PG_TIMEOUT, FAULT. -/
def PMU_PG_TIMEOUT : EvId := ⟨0x0202, 1, 1⟩
/-- PMU_PG_LOST, FAULT. -/
def PMU_PG_LOST : EvId := ⟨0x0203, 1, 1⟩
/-- PMU_WAKE, INFO. -/
def PMU_WAKE : EvId := ⟨0x0204, 3, 1⟩
/-- PMU_AVS_FAIL, FAULT. -/
def PMU_AVS_FAIL : EvId := ⟨0x0205, 1, 1⟩
/-- PMU_AVS_FAULT, FAULT. -/
def PMU_AVS_FAULT : EvId := ⟨0x0206, 1, 1⟩
/-- PMU_AD_NOREADY, FAULT. -/
def PMU_AD_NOREADY : EvId := ⟨0x0207, 1, 1⟩
/-- PMU_XTAL_FAIL, WARN. -/
def PMU_XTAL_FAIL : EvId := ⟨0x0208, 2, 1⟩
/-- PMU_CMD_REFUSED, INFO. -/
def PMU_CMD_REFUSED : EvId := ⟨0x0209, 3, 1⟩
/-- PMU_AVS_WARN, WARN. -/
def PMU_AVS_WARN : EvId := ⟨0x020A, 2, 1⟩
/-- PMU_DVFS, INFO. -/
def PMU_DVFS : EvId := ⟨0x0211, 3, 1⟩
/-- PMU_DVFS_NOACK, FAULT. -/
def PMU_DVFS_NOACK : EvId := ⟨0x0212, 1, 1⟩
/-- PMU_DVFS_FAIL, FAULT. -/
def PMU_DVFS_FAIL : EvId := ⟨0x0213, 1, 1⟩
/-- CI_REJECT, WARN. -/
def CI_REJECT : EvId := ⟨0x0301, 2, 2⟩
/-- CI_CLAMP, INFO. -/
def CI_CLAMP : EvId := ⟨0x0302, 3, 2⟩
/-- CI_BEGUN, INFO. -/
def CI_BEGUN : EvId := ⟨0x0303, 3, 2⟩
/-- CI_DONE, INFO. -/
def CI_DONE : EvId := ⟨0x0304, 3, 2⟩
/-- CI_FALLBACK, FAULT. -/
def CI_FALLBACK : EvId := ⟨0x0305, 1, 2⟩
/-- CI_NOIMAGE, SAFETY. -/
def CI_NOIMAGE : EvId := ⟨0x0306, 0, 2⟩
/-- CI_SLOT_DISAGREE, WARN. -/
def CI_SLOT_DISAGREE : EvId := ⟨0x0307, 2, 2⟩
/-- CI_LOG_TORN, WARN. -/
def CI_LOG_TORN : EvId := ⟨0x0308, 2, 2⟩
/-- CI_LOG_CHAIN, FAULT. -/
def CI_LOG_CHAIN : EvId := ⟨0x0309, 1, 2⟩
/-- CI_OTP, SAFETY. -/
def CI_OTP : EvId := ⟨0x030A, 0, 2⟩
/-- CI_LOG_FAIL, FAULT. -/
def CI_LOG_FAIL : EvId := ⟨0x030B, 1, 2⟩
/-- TEN_FAULT, FAULT. -/
def TEN_FAULT : EvId := ⟨0x0401, 1, 3⟩
/-- TEN_RESET, INFO. -/
def TEN_RESET : EvId := ⟨0x0402, 3, 3⟩
/-- TEN_CANARY_FAIL, FAULT. -/
def TEN_CANARY_FAIL : EvId := ⟨0x0403, 1, 3⟩
/-- TEN_CANARY_MISS, WARN. -/
def TEN_CANARY_MISS : EvId := ⟨0x0404, 2, 3⟩
/-- TEN_REVOKE_LATE, WARN. -/
def TEN_REVOKE_LATE : EvId := ⟨0x0405, 2, 3⟩
/-- TEN_LEND_WITHDRAWN, WARN. -/
def TEN_LEND_WITHDRAWN : EvId := ⟨0x0406, 2, 3⟩
/-- TEN_RESET_CAP, FAULT. -/
def TEN_RESET_CAP : EvId := ⟨0x0407, 1, 3⟩
/-- TEN_DB_REFUSED, INFO. -/
def TEN_DB_REFUSED : EvId := ⟨0x0408, 3, 3⟩
/-- TEN_VIOL, WARN. -/
def TEN_VIOL : EvId := ⟨0x0409, 2, 3⟩
/-- TEN_MEM_CE, INFO. -/
def TEN_MEM_CE : EvId := ⟨0x040A, 3, 3⟩
/-- TEN_MEM_UE, FAULT. -/
def TEN_MEM_UE : EvId := ⟨0x040B, 1, 3⟩
/-- TEN_STATE, INFO. -/
def TEN_STATE : EvId := ⟨0x040C, 3, 3⟩
/-- ASY_REFUTED, FAULT. -/
def ASY_REFUTED : EvId := ⟨0x0501, 1, 4⟩
/-- ASY_TRUST, SAFETY. -/
def ASY_TRUST : EvId := ⟨0x0502, 0, 4⟩
/-- ASY_STALE, WARN. -/
def ASY_STALE : EvId := ⟨0x0504, 2, 4⟩
/-- ASY_SEQ_GAP, WARN. -/
def ASY_SEQ_GAP : EvId := ⟨0x0505, 2, 4⟩
/-- ASY_QUAL_PASS, INFO. -/
def ASY_QUAL_PASS : EvId := ⟨0x0506, 3, 4⟩
/-- ASY_QUAL_FAIL, FAULT. -/
def ASY_QUAL_FAIL : EvId := ⟨0x0507, 1, 4⟩
/-- ASY_AD_RESET, FAULT. -/
def ASY_AD_RESET : EvId := ⟨0x0508, 1, 4⟩
/-- ASY_AD_GIVEUP, SAFETY. -/
def ASY_AD_GIVEUP : EvId := ⟨0x0509, 0, 4⟩
/-- ASY_INTAKE_DROP, INFO. -/
def ASY_INTAKE_DROP : EvId := ⟨0x050A, 3, 4⟩
/-- ASY_FLINT_DISAGREE, INFO. -/
def ASY_FLINT_DISAGREE : EvId := ⟨0x050B, 3, 4⟩
/-- ASY_KAT_UNUSABLE, FAULT. -/
def ASY_KAT_UNUSABLE : EvId := ⟨0x050C, 1, 4⟩
/-- ASY_SELF, SAFETY. -/
def ASY_SELF : EvId := ⟨0x050D, 0, 4⟩
/-- ASY_CE, INFO. -/
def ASY_CE : EvId := ⟨0x050E, 3, 4⟩
/-- STK_RNG_FAIL, SAFETY. -/
def STK_RNG_FAIL : EvId := ⟨0x0601, 0, 5⟩
/-- STK_MISMATCH, FAULT. -/
def STK_MISMATCH : EvId := ⟨0x0602, 1, 5⟩
/-- STK_COVER_SHORT, WARN. -/
def STK_COVER_SHORT : EvId := ⟨0x0603, 2, 5⟩
/-- FLT_MODEL, SAFETY. -/
def FLT_MODEL : EvId := ⟨0x0701, 0, 6⟩
/-- FLT_KAT_FAIL, SAFETY. -/
def FLT_KAT_FAIL : EvId := ⟨0x0702, 0, 6⟩
/-- FLT_OVERRUN, FAULT. -/
def FLT_OVERRUN : EvId := ⟨0x0703, 1, 6⟩
/-- FLT_CE, INFO. -/
def FLT_CE : EvId := ⟨0x0704, 3, 6⟩
/-- ING_FRAME_BAD, WARN. -/
def ING_FRAME_BAD : EvId := ⟨0x0801, 2, 7⟩
/-- ING_CAM_SILENT, WARN. -/
def ING_CAM_SILENT : EvId := ⟨0x0803, 2, 7⟩
/-- ING_CAM_UNHEALTHY, FAULT. -/
def ING_CAM_UNHEALTHY : EvId := ⟨0x0804, 1, 7⟩
/-- ING_CAM_HEALTHY, INFO. -/
def ING_CAM_HEALTHY : EvId := ⟨0x0805, 3, 7⟩
/-- ING_FWD_OVF, WARN. -/
def ING_FWD_OVF : EvId := ⟨0x0806, 2, 7⟩
/-- ING_PHY_ERR, WARN. -/
def ING_PHY_ERR : EvId := ⟨0x0807, 2, 7⟩
/-- ING_COPY_DROP, INFO. -/
def ING_COPY_DROP : EvId := ⟨0x0808, 3, 7⟩
/-- ING_CFG_REFUSED, WARN. -/
def ING_CFG_REFUSED : EvId := ⟨0x0809, 2, 7⟩
/-- SIL_UP, INFO. -/
def SIL_UP : EvId := ⟨0x0901, 3, 8⟩
/-- SIL_RETRAIN, WARN. -/
def SIL_RETRAIN : EvId := ⟨0x0902, 2, 8⟩
/-- SIL_DOWN, FAULT. -/
def SIL_DOWN : EvId := ⟨0x0903, 1, 8⟩
/-- SIL_CRC, WARN. -/
def SIL_CRC : EvId := ⟨0x0904, 2, 8⟩
/-- SIL_VIOL, WARN. -/
def SIL_VIOL : EvId := ⟨0x0905, 2, 8⟩
/-- SIL_PM, INFO. -/
def SIL_PM : EvId := ⟨0x0906, 3, 8⟩
/-- SIL_WAKE_ABSORBED, INFO. -/
def SIL_WAKE_ABSORBED : EvId := ⟨0x0907, 3, 8⟩
/-- SIL_DEGRADED, WARN. -/
def SIL_DEGRADED : EvId := ⟨0x0908, 2, 8⟩
/-- SIL_MEM_TIMEOUT, WARN. -/
def SIL_MEM_TIMEOUT : EvId := ⟨0x0909, 2, 8⟩
/-- SIL_DEBUG, WARN. -/
def SIL_DEBUG : EvId := ⟨0x090A, 2, 8⟩
/-- SIL_AD_EVT_DROP, WARN. -/
def SIL_AD_EVT_DROP : EvId := ⟨0x090B, 2, 8⟩
/-- NET_LINK_UP, INFO. -/
def NET_LINK_UP : EvId := ⟨0x0A01, 3, 9⟩
/-- NET_LINK_DOWN, WARN. -/
def NET_LINK_DOWN : EvId := ⟨0x0A02, 2, 9⟩
/-- NET_RX_DROP, INFO. -/
def NET_RX_DROP : EvId := ⟨0x0A03, 3, 9⟩
/-- NET_STORM, INFO. -/
def NET_STORM : EvId := ⟨0x0A04, 3, 9⟩
/-- NET_RX_BAD, INFO. -/
def NET_RX_BAD : EvId := ⟨0x0A05, 3, 9⟩
/-- NET_PTP_BAD, INFO. -/
def NET_PTP_BAD : EvId := ⟨0x0A06, 3, 9⟩
/-- NET_MDIO_NORESP, WARN. -/
def NET_MDIO_NORESP : EvId := ⟨0x0A07, 2, 9⟩
/-- NET_DESC_ERR, FAULT. -/
def NET_DESC_ERR : EvId := ⟨0x0A08, 1, 9⟩
/-- NET_SPEED_MISMATCH, WARN. -/
def NET_SPEED_MISMATCH : EvId := ⟨0x0A09, 2, 9⟩
/-- NET_PTP_FLOOD, INFO. -/
def NET_PTP_FLOOD : EvId := ⟨0x0A0A, 3, 9⟩
/-- NET_PORT_OFF, WARN. -/
def NET_PORT_OFF : EvId := ⟨0x0A0B, 2, 9⟩
/-- TIM_SWITCH, WARN. -/
def TIM_SWITCH : EvId := ⟨0x0A10, 2, 10⟩
/-- TIM_LOSS, WARN. -/
def TIM_LOSS : EvId := ⟨0x0A11, 2, 10⟩
/-- TIM_HOLDOVER, FAULT. -/
def TIM_HOLDOVER : EvId := ⟨0x0A12, 1, 10⟩
/-- TIM_TB3_STEP, INFO. -/
def TIM_TB3_STEP : EvId := ⟨0x0A13, 3, 10⟩
/-- TIM_TTRG_MISS, WARN. -/
def TIM_TTRG_MISS : EvId := ⟨0x0A14, 2, 10⟩
/-- TIM_STEP, INFO. -/
def TIM_STEP : EvId := ⟨0x0A15, 3, 10⟩
/-- TIM_SWITCH_FAR, WARN. -/
def TIM_SWITCH_FAR : EvId := ⟨0x0A16, 2, 10⟩
/-- CRN_HEAD, INFO. -/
def CRN_HEAD : EvId := ⟨0x0B01, 3, 11⟩
/-- CRN_JOINED, INFO. -/
def CRN_JOINED : EvId := ⟨0x0B02, 3, 11⟩
/-- CRN_HEAD_LOST, WARN. -/
def CRN_HEAD_LOST : EvId := ⟨0x0B03, 2, 11⟩
/-- CRN_KEY_DUP, FAULT. -/
def CRN_KEY_DUP : EvId := ⟨0x0B04, 1, 11⟩
/-- CRN_NODE_LOST, WARN. -/
def CRN_NODE_LOST : EvId := ⟨0x0B05, 2, 11⟩
/-- CRN_TAKEOVER, WARN. -/
def CRN_TAKEOVER : EvId := ⟨0x0B06, 2, 11⟩
/-- CRN_XFER_FAIL, WARN. -/
def CRN_XFER_FAIL : EvId := ⟨0x0B07, 2, 11⟩
/-- CRN_BAD, WARN. -/
def CRN_BAD : EvId := ⟨0x0B08, 2, 11⟩
/-- CRN_RANK_CONFLICT, FAULT. -/
def CRN_RANK_CONFLICT : EvId := ⟨0x0B09, 1, 11⟩
/-- CRN_TOPOLOGY, WARN. -/
def CRN_TOPOLOGY : EvId := ⟨0x0B0A, 2, 11⟩
/-- CRN_YIELD, INFO. -/
def CRN_YIELD : EvId := ⟨0x0B0B, 3, 11⟩
/-- CRN_CFG_MISMATCH, WARN. -/
def CRN_CFG_MISMATCH : EvId := ⟨0x0B0C, 2, 11⟩
/-- CRN_FLOOD, WARN. -/
def CRN_FLOOD : EvId := ⟨0x0B0D, 2, 11⟩
/-- CRN_ROSTER, INFO. -/
def CRN_ROSTER : EvId := ⟨0x0B0E, 3, 11⟩
/-- LUX_SC, FAULT. -/
def LUX_SC : EvId := ⟨0x0C01, 1, 12⟩
/-- LUX_OC, FAULT. -/
def LUX_OC : EvId := ⟨0x0C02, 1, 12⟩
/-- LUX_LATCHED, SAFETY. -/
def LUX_LATCHED : EvId := ⟨0x0C03, 0, 12⟩
/-- LUX_FAILOVER, SAFETY. -/
def LUX_FAILOVER : EvId := ⟨0x0C04, 0, 12⟩
/-- LUX_OPEN, FAULT. -/
def LUX_OPEN : EvId := ⟨0x0C05, 1, 12⟩
/-- LUX_STR, FAULT. -/
def LUX_STR : EvId := ⟨0x0C06, 1, 12⟩
/-- LUX_MON, FAULT. -/
def LUX_MON : EvId := ⟨0x0C07, 1, 12⟩
/-- LUX_PREEMPT, INFO. -/
def LUX_PREEMPT : EvId := ⟨0x0C08, 3, 12⟩
/-- LUX_DARK, INFO. -/
def LUX_DARK : EvId := ⟨0x0C09, 3, 12⟩
/-- LUX_SFL1, SAFETY. -/
def LUX_SFL1 : EvId := ⟨0x0C0A, 0, 12⟩
/-- LUX_VGD_UV, WARN. -/
def LUX_VGD_UV : EvId := ⟨0x0C0B, 2, 12⟩
/-- LUX_COPY, SAFETY. -/
def LUX_COPY : EvId := ⟨0x0C0C, 0, 12⟩
/-- LUX_DARK_TO, WARN. -/
def LUX_DARK_TO : EvId := ⟨0x0C0D, 2, 12⟩
/-- TLT_STO, SAFETY. -/
def TLT_STO : EvId := ⟨0x0D01, 0, 13⟩
/-- TLT_SLS, FAULT. -/
def TLT_SLS : EvId := ⟨0x0D02, 1, 13⟩
/-- TLT_SLP, FAULT. -/
def TLT_SLP : EvId := ⟨0x0D03, 1, 13⟩
/-- TLT_SDI, FAULT. -/
def TLT_SDI : EvId := ⟨0x0D04, 1, 13⟩
/-- TLT_POS, FAULT. -/
def TLT_POS : EvId := ⟨0x0D05, 1, 13⟩
/-- TLT_ENC, FAULT. -/
def TLT_ENC : EvId := ⟨0x0D06, 1, 13⟩
/-- TLT_HOMED, INFO. -/
def TLT_HOMED : EvId := ⟨0x0D07, 3, 13⟩
/-- TLT_HOME_FAIL, FAULT. -/
def TLT_HOME_FAIL : EvId := ⟨0x0D08, 1, 13⟩
/-- TLT_OC, FAULT. -/
def TLT_OC : EvId := ⟨0x0D09, 1, 13⟩
/-- SIO_TRIP, SAFETY. -/
def SIO_TRIP : EvId := ⟨0x0E01, 0, 14⟩
/-- SIO_DISCREP, WARN. -/
def SIO_DISCREP : EvId := ⟨0x0E02, 2, 14⟩
/-- SIO_XSHORT, WARN. -/
def SIO_XSHORT : EvId := ⟨0x0E03, 2, 14⟩
/-- SIO_STUCK, WARN. -/
def SIO_STUCK : EvId := ⟨0x0E04, 2, 14⟩
/-- SIO_RB_FAIL, SAFETY. -/
def SIO_RB_FAIL : EvId := ⟨0x0E05, 0, 14⟩
/-- SIO_RESET, INFO. -/
def SIO_RESET : EvId := ⟨0x0E06, 3, 14⟩
/-- SIO_RST_REJECT, WARN. -/
def SIO_RST_REJECT : EvId := ⟨0x0E07, 2, 14⟩
/-- SIO_DEMAND, INFO. -/
def SIO_DEMAND : EvId := ⟨0x0E08, 3, 14⟩
/-- SIO_RST_STUCK, WARN. -/
def SIO_RST_STUCK : EvId := ⟨0x0E09, 2, 14⟩
/-- SIO_CFG_REFUSED, WARN. -/
def SIO_CFG_REFUSED : EvId := ⟨0x0E0A, 2, 14⟩
/-- EVL_PERSIST_FAIL, FAULT. -/
def EVL_PERSIST_FAIL : EvId := ⟨0x0F02, 1, 15⟩
/-- EVL_RAM_UE, FAULT. -/
def EVL_RAM_UE : EvId := ⟨0x0F03, 1, 15⟩
/-- EVL_OVWR, WARN. -/
def EVL_OVWR : EvId := ⟨0x0F04, 2, 15⟩
/-- EVL_AD_BAD, WARN. -/
def EVL_AD_BAD : EvId := ⟨0x0F05, 2, 15⟩
/-- EVL_PERSIST_STOP, FAULT. -/
def EVL_PERSIST_STOP : EvId := ⟨0x0F06, 1, 15⟩
/-- LCK_AUTH_OK, INFO. -/
def LCK_AUTH_OK : EvId := ⟨0x1001, 3, 16⟩
/-- LCK_AUTH_FAIL, WARN. -/
def LCK_AUTH_FAIL : EvId := ⟨0x1002, 2, 16⟩
/-- LCK_LOCKOUT, WARN. -/
def LCK_LOCKOUT : EvId := ⟨0x1003, 2, 16⟩
/-- LCK_KEY_REFUSED, WARN. -/
def LCK_KEY_REFUSED : EvId := ⟨0x1004, 2, 16⟩
/-- LCK_KEY_CLOSED, WARN. -/
def LCK_KEY_CLOSED : EvId := ⟨0x1005, 2, 16⟩
/-- THM_ACT, INFO. -/
def THM_ACT : EvId := ⟨0x1101, 3, 17⟩
/-- THM_FORECAST_OVER, WARN. -/
def THM_FORECAST_OVER : EvId := ⟨0x1102, 2, 17⟩
/-- THM_AD_HOT, FAULT. -/
def THM_AD_HOT : EvId := ⟨0x1103, 1, 17⟩
/-- THM_CD_HOT, SAFETY. -/
def THM_CD_HOT : EvId := ⟨0x1104, 0, 17⟩
/-- THM_NTC, WARN. -/
def THM_NTC : EvId := ⟨0x1105, 2, 17⟩
/-- THM_PLAN_MISS, WARN. -/
def THM_PLAN_MISS : EvId := ⟨0x1106, 2, 17⟩
/-- THM_PLAN_LOW, WARN. -/
def THM_PLAN_LOW : EvId := ⟨0x1107, 2, 17⟩
/-- THM_STEP_DONE, INFO. -/
def THM_STEP_DONE : EvId := ⟨0x1108, 3, 17⟩
/-- THM_STEP_FAIL, WARN. -/
def THM_STEP_FAIL : EvId := ⟨0x1109, 2, 17⟩
/-- THM_SENSOR, WARN. -/
def THM_SENSOR : EvId := ⟨0x110A, 2, 17⟩
/-- I2C_ARBLOST, INFO. -/
def I2C_ARBLOST : EvId := ⟨0x1201, 3, 18⟩
/-- I2C_ARB_GIVEUP, WARN. -/
def I2C_ARB_GIVEUP : EvId := ⟨0x1202, 2, 18⟩
/-- I2C_TGT_UNKNOWN, WARN. -/
def I2C_TGT_UNKNOWN : EvId := ⟨0x1203, 2, 18⟩
/-- I2C_NACK, INFO. -/
def I2C_NACK : EvId := ⟨0x1204, 3, 18⟩
/-- I2C_BUS_STUCK, FAULT. -/
def I2C_BUS_STUCK : EvId := ⟨0x1205, 1, 18⟩
/-- I2C_BUSERR, WARN. -/
def I2C_BUSERR : EvId := ⟨0x1206, 2, 18⟩
/-- QSPI_TIMEOUT, WARN. -/
def QSPI_TIMEOUT : EvId := ⟨0x1210, 2, 20⟩
/-- UART_RX_ERR, WARN. -/
def UART_RX_ERR : EvId := ⟨0x1220, 2, 22⟩

end Ev

end Sys2Proof.Machine
end

