-- ==== Sys2Proof/Machine/ImageTable.lean ====
section
/-! DEFINITION. The sections and fields of a Configuration Image (R34, R36, R37): each field's section, ID, type code,
value lengths, number of indices, allowed values, default, whether it is mandatory, and its check class. -/

namespace Sys2Proof.Machine

/-- Which values a field allows (R37). -/
inductive ImgRule where
  | any
  | range (lo hi : Int)
  | etype
  | rank
  | entry
  | ascii
  | keyProg
  | plan
  | chunks
  | ttrg
  | thermal
  | flint
deriving DecidableEq, Repr

/-- The check class of a field (R37): clamp, reject, or no value out of range. -/
inductive ImgClass where
  | clamp | reject | none
deriving DecidableEq, Repr

/-- One row of the field tables of R37. -/
structure ImgField where
  sec    : Nat
  id     : Nat
  typ    : Nat
  lenMin : Nat
  lenMax : Nat
  count  : Nat
  rule   : ImgRule
  dflt   : Nat → Nat
  mand   : Bool
  cls    : ImgClass

namespace Img

/-- IDENT.NAME, STR, index —; 1 … 32 characters; default mandatory. -/
def IDENT_NAME : ImgField := ⟨1, 1, 11, 1, 32, 1, .ascii, fun _ => 0, true, .reject⟩
/-- IDENT.SITE_ID, U32, index —; any; default 0. -/
def IDENT_SITE_ID : ImgField := ⟨1, 2, 3, 4, 4, 1, .any, fun _ => 0, false, .none⟩
/-- IDENT.INTKEY_PROG, BYTES 33, index —; byte 0: slot 1 … 2; bytes 1 … 32: key hash; default absent. -/
def IDENT_INTKEY_PROG : ImgField := ⟨1, 3, 10, 33, 33, 1, .keyProg, fun _ => 0, false, .reject⟩
/-- IDENT.INTKEY_REVOKE, MASK 1, index —; bit 0 slot 1, bit 1 slot 2; default 0b00. -/
def IDENT_INTKEY_REVOKE : ImgField := ⟨1, 4, 8, 1, 1, 1, .range 0 3, fun _ => 0, false, .reject⟩
/-- CORE.MODE, ENUM, index —; 0 lockstep, 1 split; default 0. -/
def CORE_MODE : ImgField := ⟨2, 1, 7, 1, 1, 1, .range 0 1, fun _ => 0, false, .reject⟩
/-- CORE.C1_ENTRY, U32, index —; 0x1000_0000 … 0x1007_FFFC, multiple of 4; default 0x1000_0000. -/
def CORE_C1_ENTRY : ImgField := ⟨2, 2, 3, 4, 4, 1, .entry, fun _ => 268435456, false, .reject⟩
/-- CORE.HANDOVER, ENUM, index —; 0 forbidden, 1 permitted; default 0. -/
def CORE_HANDOVER : ImgField := ⟨2, 3, 7, 1, 1, 1, .range 0 1, fun _ => 0, false, .reject⟩
/-- CORE.WDT_MS, U16, index —; 10 … 1,000 ms; default 100. -/
def CORE_WDT_MS : ImgField := ⟨2, 4, 2, 2, 2, 1, .range (10) (1000), fun _ => 100, false, .clamp⟩
/-- PINS.GPIO_FN, ENUM, index 0 … 23; 0 input, 1 output, 2 function A, 3 function B; default 0. -/
def PINS_GPIO_FN : ImgField := ⟨3, 1, 7, 1, 1, 24, .range 0 3, fun _ => 0, false, .reject⟩
/-- PINS.FSYNC_EN, MASK 1, index —; bits 0 … 3 for FSYNC0 … FSYNC3; default 0b0000. -/
def PINS_FSYNC_EN : ImgField := ⟨3, 2, 8, 1, 1, 1, .range 0 15, fun _ => 0, false, .reject⟩
/-- PINS.I2C_MODE, ENUM, index 0 … 1; 0 standard-mode, 1 fast-mode, 2 fast-mode plus; default 1. -/
def PINS_I2C_MODE : ImgField := ⟨3, 3, 7, 1, 1, 2, .range 0 2, fun _ => 1, false, .reject⟩
/-- PINS.UART_BAUD, U32, index 0 … 1; 9,600 … 3,000,000 bit/s; default 115,200. -/
def PINS_UART_BAUD : ImgField := ⟨3, 4, 3, 4, 4, 2, .range (9600) (3000000), fun _ => 115200, false, .clamp⟩
/-- PINS.QSPI_MODE, ENUM, index —; 0 quad, 1 octal; default 0. -/
def PINS_QSPI_MODE : ImgField := ⟨3, 5, 7, 1, 1, 1, .range 0 1, fun _ => 0, false, .reject⟩
/-- POWER.REG_USE, MASK 1, index —; bit n: PWR_ENn/PGn in use; bits 0 and 1 are taken as 1 whatever is written (R533); default 0x00. -/
def POWER_REG_USE : ImgField := ⟨4, 1, 8, 1, 1, 1, .any, fun _ => 0, false, .reject⟩
/-- POWER.REG_ORDER, U8, index 0 … 7; 0 … 7, position in sequence; default the index. -/
def POWER_REG_ORDER : ImgField := ⟨4, 2, 1, 1, 1, 8, .range (0) (7), fun i => i, false, .reject⟩
/-- POWER.PG_TIMEOUT_MS, U16, index 0 … 7; 1 … 100 ms; default 10. -/
def POWER_PG_TIMEOUT_MS : ImgField := ⟨4, 3, 2, 2, 2, 8, .range (1) (100), fun _ => 10, false, .clamp⟩
/-- POWER.AVS_ADDR, U8, index —; 0x08 … 0x77; default 0x40. -/
def POWER_AVS_ADDR : ImgField := ⟨4, 4, 1, 1, 1, 1, .range (8) (119), fun _ => 64, false, .reject⟩
/-- POWER.VDD_AD_MAX_MV, U16, index —; 550 … 850 mV; default 800. -/
def POWER_VDD_AD_MAX_MV : ImgField := ⟨4, 5, 2, 2, 2, 1, .range (550) (850), fun _ => 800, false, .clamp⟩
/-- POWER.STANDBY_EN, BOOL, index —; 0, 1; default 0. -/
def POWER_STANDBY_EN : ImgField := ⟨4, 6, 6, 1, 1, 1, .range 0 1, fun _ => 0, false, .reject⟩
/-- TENANTS.CLASS, ENUM, index tenant 0 … 15; 0 S, 1 Q, 2 B; default absent: tenant is ABSENT. -/
def TENANTS_CLASS : ImgField := ⟨5, 1, 7, 1, 1, 16, .range 0 2, fun _ => 0, false, .reject⟩
/-- TENANTS.MODEL, U8, index tenant; 0 … 31, a MODELS index; default 0. -/
def TENANTS_MODEL : ImgField := ⟨5, 2, 1, 1, 1, 16, .range (0) (31), fun _ => 0, false, .reject⟩
/-- TENANTS.CAMERAS, MASK 1, index tenant; bits 0 … 3; default 0b0000. -/
def TENANTS_CAMERAS : ImgField := ⟨5, 3, 8, 1, 1, 16, .range 0 15, fun _ => 0, false, .reject⟩
/-- TENANTS.BORROWER, BOOL, index tenant; 0, 1; default 0. -/
def TENANTS_BORROWER : ImgField := ⟨5, 4, 6, 1, 1, 16, .range 0 1, fun _ => 0, false, .reject⟩
/-- TENANTS.QUEUES, U8, index tenant; 1 … 4; default 1. -/
def TENANTS_QUEUES : ImgField := ⟨5, 5, 1, 1, 1, 16, .range (1) (4), fun _ => 1, false, .clamp⟩
/-- TENANTS.RESETS_PER_H, U8, index tenant; 0 … 16; default 4. -/
def TENANTS_RESETS_PER_H : ImgField := ⟨5, 6, 1, 1, 1, 16, .range (0) (16), fun _ => 4, false, .clamp⟩
/-- TENANTS.TILES, MASK 2, index tenant; bit n: tile n permitted; default 0x0000. -/
def TENANTS_TILES : ImgField := ⟨5, 7, 8, 2, 2, 16, .any, fun _ => 0, false, .reject⟩
/-- MEMORY.OWNER, U8, index region 0 … 63; 0 … 15; default absent: region unused. -/
def MEMORY_OWNER : ImgField := ⟨6, 1, 1, 1, 1, 64, .range (0) (15), fun _ => 0, false, .reject⟩
/-- MEMORY.BASE_MIB, U16, index region; 0 … 16,383; default 0. -/
def MEMORY_BASE_MIB : ImgField := ⟨6, 2, 2, 2, 2, 64, .range (0) (16383), fun _ => 0, false, .reject⟩
/-- MEMORY.SIZE_MIB, U16, index region; 1 … 16,384; default 1. -/
def MEMORY_SIZE_MIB : ImgField := ⟨6, 3, 2, 2, 2, 64, .range (1) (16384), fun _ => 1, false, .reject⟩
/-- MEMORY.ECC, BOOL, index region; 0, 1; default 1. -/
def MEMORY_ECC : ImgField := ⟨6, 4, 6, 1, 1, 64, .range 0 1, fun _ => 1, false, .reject⟩
/-- MEMORY.ACCESS, ENUM, index region; 0 read-write, 1 read-only; default 0. -/
def MEMORY_ACCESS : ImgField := ⟨6, 5, 7, 1, 1, 64, .range 0 1, fun _ => 0, false, .reject⟩
/-- MEMORY.CANARY_MS, U16, index —; 10 … 100 ms; default 100. -/
def MEMORY_CANARY_MS : ImgField := ⟨6, 6, 2, 2, 2, 1, .range (10) (100), fun _ => 100, false, .clamp⟩
/-- BANDWIDTH.RATE, U16, index tenant; 1 … 2,133, in steps of 16 MB/s; default 16. -/
def BANDWIDTH_RATE : ImgField := ⟨7, 1, 2, 2, 2, 16, .range (1) (2133), fun _ => 16, false, .clamp⟩
/-- BANDWIDTH.BURST_KIB, U16, index tenant; 4 … 1,024 KiB; default 64. -/
def BANDWIDTH_BURST_KIB : ImgField := ⟨7, 2, 2, 2, 2, 16, .range (4) (1024), fun _ => 64, false, .clamp⟩
/-- SLOTS.MAJOR_MS, U8, index —; 5 … 100 ms; default 20. -/
def SLOTS_MAJOR_MS : ImgField := ⟨8, 1, 1, 1, 1, 1, .range (5) (100), fun _ => 20, false, .clamp⟩
/-- SLOTS.PLAN, BYTES 16, index slot 0 … 399; byte n: tenant for tile n, 0 … 15, or 0xFF free; default all 0xFF. -/
def SLOTS_PLAN : ImgField := ⟨8, 2, 10, 16, 16, 400, .plan, fun _ => 340282366920938463463374607431768211455, false, .reject⟩
/-- SLOTS.LEND, BOOL, index —; 0, 1; default 1. -/
def SLOTS_LEND : ImgField := ⟨8, 3, 6, 1, 1, 1, .range 0 1, fun _ => 1, false, .reject⟩
/-- SLOTS.SWAPTO_US, U32, index —; 1 … 10,000 µs (TILE_SWAPTO); default 50. -/
def SLOTS_SWAPTO_US : ImgField := ⟨8, 4, 3, 4, 4, 1, .range (1) (10000), fun _ => 50, false, .clamp⟩
/-- MODELS.BLOB, HASH, index model 0 … 31; SHA-256 of the blob payload; default absent: model unused. -/
def MODELS_BLOB : ImgField := ⟨9, 1, 9, 32, 32, 32, .any, fun _ => 0, false, .reject⟩
/-- MODELS.SIZE, U32, index model; 1 … 125,829,120 bytes; default mandatory with BLOB. -/
def MODELS_SIZE : ImgField := ⟨9, 2, 3, 4, 4, 32, .range (1) (125829120), fun _ => 0, false, .reject⟩
/-- MODELS.FORMAT, ENUM, index model; 0 INT8, 1 INT4×INT8, 2 FP8 E4M3, 3 FP8 E5M2, 4 BF16, 5 FP16; default mandatory with BLOB. -/
def MODELS_FORMAT : ImgField := ⟨9, 3, 7, 1, 1, 32, .range 0 5, fun _ => 0, false, .reject⟩
/-- MODELS.KEEP_MAP, BYTES 1 … 512, index model; bit n: layer n marked "keep"; default all 0. -/
def MODELS_KEEP_MAP : ImgField := ⟨9, 4, 10, 1, 512, 32, .any, fun _ => 0, false, .reject⟩
/-- STREAK.CHUNKS, BYTES 2 … 512, index tenant; list of u16 layer-chunk IDs to run twice, each little-endian, strictly ascending; an odd value length is FIELD_FORMAT, and an ID out of order or repeated is VALUE; default none. -/
def STREAK_CHUNKS : ImgField := ⟨10, 1, 10, 2, 512, 16, .chunks, fun _ => 0, false, .reject⟩
/-- STREAK.MIN_COVER_PCT, U8, index tenant; 50 … 100 %; default 100. -/
def STREAK_MIN_COVER_PCT : ImgField := ⟨10, 2, 1, 1, 1, 16, .range (50) (100), fun _ => 100, false, .clamp⟩
/-- STREAK.NEGATE, BOOL, index —; 0, 1; default 1. -/
def STREAK_NEGATE : ImgField := ⟨10, 3, 6, 1, 1, 1, .range 0 1, fun _ => 1, false, .reject⟩
/-- STREAK.ROTATE, BOOL, index —; 0, 1; default 1. -/
def STREAK_ROTATE : ImgField := ⟨10, 4, 6, 1, 1, 1, .range 0 1, fun _ => 1, false, .reject⟩
/-- FLINT.MODEL, HASH, index —; the FL-P2 hash held in the boot ROM; default mandatory. -/
def FLINT_MODEL : ImgField := ⟨11, 1, 9, 32, 32, 1, .flint, fun _ => 0, true, .reject⟩
/-- FLINT.FPS, U8, index camera 0 … 3; 1 … 8 fps; default 8. -/
def FLINT_FPS : ImgField := ⟨11, 2, 1, 1, 1, 4, .range (1) (8), fun _ => 8, false, .clamp⟩
/-- FLINT.ZONE_MASK, MASK 8, index camera; bits 0 … 47; default all 48 set. -/
def FLINT_ZONE_MASK : ImgField := ⟨11, 3, 8, 8, 8, 4, .range 0 0xFFFFFFFFFFFF, fun _ => 0xFFFFFFFFFFFF, false, .reject⟩
/-- FLINT.THRESH, U8, index —; 1 … 254; default 96. -/
def FLINT_THRESH : ImgField := ⟨11, 4, 1, 1, 1, 1, .range (1) (254), fun _ => 96, false, .clamp⟩
/-- ASSAY.ZONE_EXPIRY_MS, U16, index —; 50 … 2,000 ms; default 500. -/
def ASSAY_ZONE_EXPIRY_MS : ImgField := ⟨12, 1, 2, 2, 2, 1, .range (50) (2000), fun _ => 500, false, .clamp⟩
/-- ASSAY.FLINT_MAXAGE_MS, U16, index —; 125 … 1,000 ms; default 250. -/
def ASSAY_FLINT_MAXAGE_MS : ImgField := ⟨12, 2, 2, 2, 2, 1, .range (125) (1000), fun _ => 250, false, .clamp⟩
/-- ASSAY.STALE_MS, U16, index —; 10 … 100 ms; default 40. -/
def ASSAY_STALE_MS : ImgField := ⟨12, 3, 2, 2, 2, 1, .range (10) (100), fun _ => 40, false, .clamp⟩
/-- ASSAY.ABSENT_RUN, U8, index —; 1 … 8 verdicts; default 3. -/
def ASSAY_ABSENT_RUN : ImgField := ⟨12, 4, 1, 1, 1, 1, .range (1) (8), fun _ => 3, false, .clamp⟩
/-- ASSAY.PROMOTE_CLEAN, U16, index —; 100 … 10,000 records; default 1,000. -/
def ASSAY_PROMOTE_CLEAN : ImgField := ⟨12, 5, 2, 2, 2, 1, .range (100) (10000), fun _ => 1000, false, .clamp⟩
/-- ASSAY.DEMOTE_REFUTED, U8, index —; 1 … 16; default 1. -/
def ASSAY_DEMOTE_REFUTED : ImgField := ⟨12, 6, 1, 1, 1, 1, .range (1) (16), fun _ => 1, false, .clamp⟩
/-- ASSAY.ZONEMAP, MASK 8, index lighting zone × 4 + camera, 0 … 31; bits 0 … 47: camera zones in this lighting zone; default none. -/
def ASSAY_ZONEMAP : ImgField := ⟨12, 7, 8, 8, 8, 32, .range 0 0xFFFFFFFFFFFF, fun _ => 0, false, .reject⟩
/-- ASSAY.KAT_BLOB, HASH, index —; SHA-256 of the known-answer set; default mandatory if any S tenant. -/
def ASSAY_KAT_BLOB : ImgField := ⟨12, 8, 9, 32, 32, 1, .any, fun _ => 0, false, .reject⟩
/-- LIGHT.CH_EN, MASK 1, index —; 0b01 … 0b11; default 0b11. -/
def LIGHT_CH_EN : ImgField := ⟨13, 1, 8, 1, 1, 1, .range 1 3, fun _ => 3, false, .reject⟩
/-- LIGHT.I_MAX_MA, U16, index channel 0 … 1; 100 … 3,000 mA; default 700. -/
def LIGHT_I_MAX_MA : ImgField := ⟨13, 2, 2, 2, 2, 2, .range (100) (3000), fun _ => 700, false, .clamp⟩
/-- LIGHT.FLOOR_OCC, U8, index —; 10 … 100 %; default 100. -/
def LIGHT_FLOOR_OCC : ImgField := ⟨13, 3, 1, 1, 1, 1, .range (10) (100), fun _ => 100, false, .clamp⟩
/-- LIGHT.FLOOR_DARK, U8, index —; 1 … 100 %; default 30. -/
def LIGHT_FLOOR_DARK : ImgField := ⟨13, 4, 1, 1, 1, 1, .range (1) (100), fun _ => 30, false, .clamp⟩
/-- LIGHT.DIM_RATE, U8, index —; 1 … 50 %/s; default 10. -/
def LIGHT_DIM_RATE : ImgField := ⟨13, 5, 1, 1, 1, 1, .range (1) (50), fun _ => 10, false, .clamp⟩
/-- LIGHT.RAMP_UP, U16, index —; 10 … 1,000 %/s; default 200. -/
def LIGHT_RAMP_UP : ImgField := ⟨13, 6, 2, 2, 2, 1, .range (10) (1000), fun _ => 200, false, .clamp⟩
/-- LIGHT.FAILOVER, BOOL, index —; 0, 1 (LED_FAILOVER); default 1. -/
def LIGHT_FAILOVER : ImgField := ⟨13, 7, 6, 1, 1, 1, .range 0 1, fun _ => 1, false, .reject⟩
/-- LIGHT.FAILOVER_LEVEL, U8, index —; 10 … 100 %; default 100. -/
def LIGHT_FAILOVER_LEVEL : ImgField := ⟨13, 8, 1, 1, 1, 1, .range (10) (100), fun _ => 100, false, .clamp⟩
/-- LIGHT.OC_MA, U16, index channel; 110 … 3,300 mA; default 1,000. -/
def LIGHT_OC_MA : ImgField := ⟨13, 9, 2, 2, 2, 2, .range (110) (3300), fun _ => 1000, false, .clamp⟩
/-- LIGHT.DARK_SRC, ENUM, index —; 0 light sensor, 1 schedule, 2 either; default 2. -/
def LIGHT_DARK_SRC : ImgField := ⟨13, 10, 7, 1, 1, 1, .range 0 2, fun _ => 2, false, .reject⟩
/-- LIGHT.DARK_LUX, U16, index —; 1 … 200 lx; default 20. -/
def LIGHT_DARK_LUX : ImgField := ⟨13, 11, 2, 2, 2, 1, .range (1) (200), fun _ => 20, false, .clamp⟩
/-- LIGHT.ZONES, U8, index —; 1 … 8 lighting zones; default 1. -/
def LIGHT_ZONES : ImgField := ⟨13, 12, 1, 1, 1, 1, .range (1) (8), fun _ => 1, false, .clamp⟩
/-- TILT.ENABLE, BOOL, index —; 0, 1; default 0. -/
def TILT_ENABLE : ImgField := ⟨14, 1, 6, 1, 1, 1, .range 0 1, fun _ => 0, false, .reject⟩
/-- TILT.SLS_CPS, U16, index —; 10 … 20,000 counts/s; default 2,000. -/
def TILT_SLS_CPS : ImgField := ⟨14, 2, 2, 2, 2, 1, .range (10) (20000), fun _ => 2000, false, .clamp⟩
/-- TILT.SLP_LO, I32, index —; −1,000,000 … 1,000,000 counts; default 0. -/
def TILT_SLP_LO : ImgField := ⟨14, 3, 5, 4, 4, 1, .range (-1000000) (1000000), fun _ => 0, false, .reject⟩
/-- TILT.SLP_HI, I32, index —; −1,000,000 … 1,000,000 counts; default 0. -/
def TILT_SLP_HI : ImgField := ⟨14, 4, 5, 4, 4, 1, .range (-1000000) (1000000), fun _ => 0, false, .reject⟩
/-- TILT.SDI, ENUM, index —; 0 both, 1 up only, 2 down only; default 0. -/
def TILT_SDI : ImgField := ⟨14, 5, 7, 1, 1, 1, .range 0 2, fun _ => 0, false, .reject⟩
/-- TILT.POT_TOL, U16, index —; 1 … 4,095 ADC codes; default 64. -/
def TILT_POT_TOL : ImgField := ⟨14, 6, 2, 2, 2, 1, .range (1) (4095), fun _ => 64, false, .clamp⟩
/-- SAFEIO.SIN_USE, ENUM, index pair 0 … 3; 0 unused, 1 hatch, 2 upper limit, 3 lower limit, 4 PIR; default pairs 0 … 3: 1, 2, 3, 0. -/
def SAFEIO_SIN_USE : ImgField := ⟨15, 1, 7, 1, 1, 4, .range 0 4, fun i => [1, 2, 3, 0].getD i 0, false, .reject⟩
/-- SAFEIO.DISCREP_MS, U16, index pair; 5 … 500 ms; default 20. -/
def SAFEIO_DISCREP_MS : ImgField := ⟨15, 2, 2, 2, 2, 4, .range (5) (500), fun _ => 20, false, .clamp⟩
/-- SAFEIO.TP_PERIOD_MS, U16, index —; 1 … 100 ms; default 10. -/
def SAFEIO_TP_PERIOD_MS : ImgField := ⟨15, 3, 2, 2, 2, 1, .range (1) (100), fun _ => 10, false, .clamp⟩
/-- SAFEIO.TP_WIDTH_US, U16, index —; 100 … 1,000 µs; default 200. -/
def SAFEIO_TP_WIDTH_US : ImgField := ⟨15, 4, 2, 2, 2, 1, .range (100) (1000), fun _ => 200, false, .clamp⟩
/-- SAFEIO.OFFTEST_US, U16, index —; 20 … 500 µs; default 100. -/
def SAFEIO_OFFTEST_US : ImgField := ⟨15, 5, 2, 2, 2, 1, .range (20) (500), fun _ => 100, false, .clamp⟩
/-- SAFEIO.RESET_WIN_MS, U16, index —; 50 … 2,000 ms; default 500. -/
def SAFEIO_RESET_WIN_MS : ImgField := ⟨15, 6, 2, 2, 2, 1, .range (50) (2000), fun _ => 500, false, .clamp⟩
/-- SAFETYAUTH.SALT, BYTES 16, index —; any; default mandatory. -/
def SAFETYAUTH_SALT : ImgField := ⟨22, 1, 10, 16, 16, 1, .any, fun _ => 0, true, .reject⟩
/-- SAFETYAUTH.ITER, U32, index —; 1,000 … 100,000; default mandatory. -/
def SAFETYAUTH_ITER : ImgField := ⟨22, 2, 3, 4, 4, 1, .range (1000) (100000), fun _ => 0, true, .reject⟩
/-- SAFETYAUTH.VERIFIER, HASH, index —; any; default mandatory. -/
def SAFETYAUTH_VERIFIER : ImgField := ⟨22, 3, 9, 32, 32, 1, .any, fun _ => 0, true, .reject⟩
/-- SAFETYAUTH.WINDOW_S, U16, index —; 60 … 3,600 s; default 600. -/
def SAFETYAUTH_WINDOW_S : ImgField := ⟨22, 4, 2, 2, 2, 1, .range (60) (3600), fun _ => 600, false, .clamp⟩
/-- NET.PORT_MODE, ENUM, index port 0 … 1; 0 off, 1 1000BASE-X, 2 SGMII 1000 Mb/s, 3 SGMII 100 Mb/s; default 2. -/
def NET_PORT_MODE : ImgField := ⟨16, 1, 7, 1, 1, 2, .range 0 3, fun _ => 2, false, .reject⟩
/-- NET.PHY_ADDR, U8, index port; 0 … 31; default the index. -/
def NET_PHY_ADDR : ImgField := ⟨16, 2, 1, 1, 1, 2, .range (0) (31), fun i => i, false, .reject⟩
/-- NET.VLAN_ID, U16, index —; 1 … 4,094; default 1. -/
def NET_VLAN_ID : ImgField := ⟨16, 3, 2, 2, 2, 1, .range (1) (4094), fun _ => 1, false, .reject⟩
/-- NET.RXQ_TENANT, U8, index queue 0 … 15; 0 … 15; default the index. -/
def NET_RXQ_TENANT : ImgField := ⟨16, 4, 1, 1, 1, 16, .range (0) (15), fun i => i, false, .reject⟩
/-- NET.RXQ_ETYPE, U16, index queue; 0 (none) or 0x0600 … 0xFFFF; default 0. -/
def NET_RXQ_ETYPE : ImgField := ⟨16, 5, 2, 2, 2, 16, .etype, fun _ => 0, false, .reject⟩
/-- TIME.DOMAIN_A, U8, index —; 0 … 127; default 0. -/
def TIME_DOMAIN_A : ImgField := ⟨17, 1, 1, 1, 1, 1, .range (0) (127), fun _ => 0, false, .reject⟩
/-- TIME.DOMAIN_B, U8, index —; 0 … 127; default 1. -/
def TIME_DOMAIN_B : ImgField := ⟨17, 2, 1, 1, 1, 1, .range (0) (127), fun _ => 1, false, .reject⟩
/-- TIME.TC_MODE, ENUM, index —; 0 end-to-end, 1 peer-to-peer; default 1. -/
def TIME_TC_MODE : ImgField := ⟨17, 3, 7, 1, 1, 1, .range 0 1, fun _ => 1, false, .reject⟩
/-- TIME.SWITCH_NS, U32, index —; 100 … 1,000,000 ns; default 1,000. -/
def TIME_SWITCH_NS : ImgField := ⟨17, 4, 3, 4, 4, 1, .range (100) (1000000), fun _ => 1000, false, .clamp⟩
/-- TIME.TTRG, BYTES 12, index trigger 0 … 7; target u8, base u8, reserved u16 of 0, period u32 ns, phase u32 ns; limits of R441; default trigger off. -/
def TIME_TTRG : ImgField := ⟨17, 5, 10, 12, 12, 8, .ttrg, fun _ => 0, false, .reject⟩
/-- CAIRN.NODE_KEY, U64, index —; 1 … 0xFFFF_FFFF_FFFF_FFFF; default mandatory if any port is on. -/
def CAIRN_NODE_KEY : ImgField := ⟨18, 1, 4, 8, 8, 1, .range (1) (18446744073709551615), fun _ => 0, false, .reject⟩
/-- CAIRN.ROLE, ENUM, index —; 0 MEMBER, 1 SPARE; default 0. -/
def CAIRN_ROLE : ImgField := ⟨18, 2, 7, 1, 1, 1, .range 0 1, fun _ => 0, false, .reject⟩
/-- CAIRN.PRIORITY, U8, index —; 0 … 255; default 128. -/
def CAIRN_PRIORITY : ImgField := ⟨18, 3, 1, 1, 1, 1, .range (0) (255), fun _ => 128, false, .none⟩
/-- CAIRN.LINE_ID, U16, index —; any; default 0. -/
def CAIRN_LINE_ID : ImgField := ⟨18, 4, 2, 2, 2, 1, .any, fun _ => 0, false, .none⟩
/-- CAIRN.RANK, U8, index —; 0 … 31, or 0xFF for SPARE; default 0. -/
def CAIRN_RANK : ImgField := ⟨18, 5, 1, 1, 1, 1, .rank, fun _ => 0, false, .reject⟩
/-- LEARN.ENABLE, BOOL, index —; 0, 1; default 0. -/
def LEARN_ENABLE : ImgField := ⟨19, 1, 6, 1, 1, 1, .range 0 1, fun _ => 0, false, .reject⟩
/-- LEARN.TENANT, U8, index —; 0 … 15; default 4. -/
def LEARN_TENANT : ImgField := ⟨19, 2, 1, 1, 1, 1, .range (0) (15), fun _ => 4, false, .reject⟩
/-- LEARN.START_MIN, U16, index —; 0 … 1,439 minutes after midnight; default 60. -/
def LEARN_START_MIN : ImgField := ⟨19, 3, 2, 2, 2, 1, .range (0) (1439), fun _ => 60, false, .reject⟩
/-- LEARN.END_MIN, U16, index —; 0 … 1,439 minutes after midnight; default 270. -/
def LEARN_END_MIN : ImgField := ⟨19, 4, 2, 2, 2, 1, .range (0) (1439), fun _ => 270, false, .reject⟩
/-- LEARN.RING_SIZE, U8, index —; 2 … 32; default 2. -/
def LEARN_RING_SIZE : ImgField := ⟨19, 5, 1, 1, 1, 1, .range (2) (32), fun _ => 2, false, .reject⟩
/-- LEARN.MAX_LAG, U8, index —; 0 … 8 steps; default 2. -/
def LEARN_MAX_LAG : ImgField := ⟨19, 6, 1, 1, 1, 1, .range (0) (8), fun _ => 2, false, .clamp⟩
/-- THERMAL.MODEL, BYTES 32, index —; casting model as Heat and the Shared Casting lays it out (R566); default mandatory if FORECAST = 1. -/
def THERMAL_MODEL : ImgField := ⟨20, 1, 10, 32, 32, 1, .thermal, fun _ => 0, false, .reject⟩
/-- THERMAL.AD_TJ_C, U8, index —; 80 … 110 °C; default 105. -/
def THERMAL_AD_TJ_C : ImgField := ⟨20, 2, 1, 1, 1, 1, .range (80) (110), fun _ => 105, false, .clamp⟩
/-- THERMAL.CD_TJ_C, U8, index —; 85 … 125 °C; default 115. -/
def THERMAL_CD_TJ_C : ImgField := ⟨20, 3, 1, 1, 1, 1, .range (85) (125), fun _ => 115, false, .clamp⟩
/-- THERMAL.FORECAST, BOOL, index —; 0, 1; default 1. -/
def THERMAL_FORECAST : ImgField := ⟨20, 4, 6, 1, 1, 1, .range 0 1, fun _ => 1, false, .reject⟩
/-- LOG.LOG_MODE, ENUM, index —; 0 WRAP, 1 STOP; default 0. -/
def LOG_LOG_MODE : ImgField := ⟨21, 1, 7, 1, 1, 1, .range 0 1, fun _ => 0, false, .reject⟩
/-- LOG.PERSIST, MASK 1, index —; bit 0 SAFETY, 1 FAULT, 2 WARN, 3 INFO; default 0b0011. -/
def LOG_PERSIST : ImgField := ⟨21, 2, 8, 1, 1, 1, .range 0 15, fun _ => 3, false, .reject⟩
/-- SIGNATURE.KEY_SLOT, U8, index —; 0 Halsil root, 1 integrator slot 1, 2 integrator slot 2; default mandatory. -/
def SIGNATURE_KEY_SLOT : ImgField := ⟨255, 1, 1, 1, 1, 1, .range 0 2, fun _ => 0, true, .reject⟩
/-- SIGNATURE.PUBKEY, BYTES 64, index —; X then Y, each 32 bytes little-endian; default mandatory. -/
def SIGNATURE_PUBKEY : ImgField := ⟨255, 2, 10, 64, 64, 1, .any, fun _ => 0, true, .reject⟩
/-- SIGNATURE.SIG, BYTES 64, index —; r then s, each 32 bytes little-endian; default mandatory. -/
def SIGNATURE_SIG : ImgField := ⟨255, 3, 10, 64, 64, 1, .any, fun _ => 0, true, .reject⟩

/-- The fields of R37, part 0. -/
def fields0 : List ImgField := [
  IDENT_NAME, IDENT_SITE_ID, IDENT_INTKEY_PROG, IDENT_INTKEY_REVOKE,
  CORE_MODE, CORE_C1_ENTRY, CORE_HANDOVER, CORE_WDT_MS,
  PINS_GPIO_FN, PINS_FSYNC_EN, PINS_I2C_MODE, PINS_UART_BAUD,
  PINS_QSPI_MODE, POWER_REG_USE, POWER_REG_ORDER, POWER_PG_TIMEOUT_MS,
  POWER_AVS_ADDR, POWER_VDD_AD_MAX_MV, POWER_STANDBY_EN, TENANTS_CLASS,
  TENANTS_MODEL, TENANTS_CAMERAS, TENANTS_BORROWER, TENANTS_QUEUES,
  TENANTS_RESETS_PER_H, TENANTS_TILES, MEMORY_OWNER, MEMORY_BASE_MIB,
  MEMORY_SIZE_MIB, MEMORY_ECC]

/-- The fields of R37, part 1. -/
def fields1 : List ImgField := [
  MEMORY_ACCESS, MEMORY_CANARY_MS, BANDWIDTH_RATE, BANDWIDTH_BURST_KIB,
  SLOTS_MAJOR_MS, SLOTS_PLAN, SLOTS_LEND, SLOTS_SWAPTO_US,
  MODELS_BLOB, MODELS_SIZE, MODELS_FORMAT, MODELS_KEEP_MAP,
  STREAK_CHUNKS, STREAK_MIN_COVER_PCT, STREAK_NEGATE, STREAK_ROTATE,
  FLINT_MODEL, FLINT_FPS, FLINT_ZONE_MASK, FLINT_THRESH,
  ASSAY_ZONE_EXPIRY_MS, ASSAY_FLINT_MAXAGE_MS, ASSAY_STALE_MS, ASSAY_ABSENT_RUN,
  ASSAY_PROMOTE_CLEAN, ASSAY_DEMOTE_REFUTED, ASSAY_ZONEMAP, ASSAY_KAT_BLOB,
  LIGHT_CH_EN, LIGHT_I_MAX_MA]

/-- The fields of R37, part 2. -/
def fields2 : List ImgField := [
  LIGHT_FLOOR_OCC, LIGHT_FLOOR_DARK, LIGHT_DIM_RATE, LIGHT_RAMP_UP,
  LIGHT_FAILOVER, LIGHT_FAILOVER_LEVEL, LIGHT_OC_MA, LIGHT_DARK_SRC,
  LIGHT_DARK_LUX, LIGHT_ZONES, TILT_ENABLE, TILT_SLS_CPS,
  TILT_SLP_LO, TILT_SLP_HI, TILT_SDI, TILT_POT_TOL,
  SAFEIO_SIN_USE, SAFEIO_DISCREP_MS, SAFEIO_TP_PERIOD_MS, SAFEIO_TP_WIDTH_US,
  SAFEIO_OFFTEST_US, SAFEIO_RESET_WIN_MS, SAFETYAUTH_SALT, SAFETYAUTH_ITER,
  SAFETYAUTH_VERIFIER, SAFETYAUTH_WINDOW_S, NET_PORT_MODE, NET_PHY_ADDR,
  NET_VLAN_ID, NET_RXQ_TENANT]

/-- The fields of R37, part 3. -/
def fields3 : List ImgField := [
  NET_RXQ_ETYPE, TIME_DOMAIN_A, TIME_DOMAIN_B, TIME_TC_MODE,
  TIME_SWITCH_NS, TIME_TTRG, CAIRN_NODE_KEY, CAIRN_ROLE,
  CAIRN_PRIORITY, CAIRN_LINE_ID, CAIRN_RANK, LEARN_ENABLE,
  LEARN_TENANT, LEARN_START_MIN, LEARN_END_MIN, LEARN_RING_SIZE,
  LEARN_MAX_LAG, THERMAL_MODEL, THERMAL_AD_TJ_C, THERMAL_CD_TJ_C,
  THERMAL_FORECAST, LOG_LOG_MODE, LOG_PERSIST, SIGNATURE_KEY_SLOT,
  SIGNATURE_PUBKEY, SIGNATURE_SIG]

/-- Every field of R37. -/
def fields : List ImgField := fields0 ++ fields1 ++ fields2 ++ fields3

/-- The section IDs of R34 and whether each is of the safety class. -/
def sections : List (Nat × Bool) := [
  (1, false), (2, false), (3, false), (4, false), (5, false), (6, false), (7, false), (8, false), (9, false), (10, true), (11, true), (12, true), (13, true), (14, true), (15, true), (16, false), (17, false), (18, false), (19, false), (20, false), (21, false), (22, true), (255, false)]

/-- The mandatory sections of R37. -/
def mandatorySections : List Nat := [1, 5, 8, 0x0B, 0x0D, 0x0F, 0x16, 0xFF]

end Img

end Sys2Proof.Machine
end

