-- ==== Sys2Proof/Machine/Sparse.lean ====
section
/-! DEFINITION. Sparse data by key: a list of key and value pairs in one canonical form, keys strictly rising and no
entry equal to what an unlisted key reads as. Every addressed memory of the device is held so. -/

namespace Sys2Proof.Machine

/-- Keyed data, keys rising. -/
abbrev Sparse (α : Type) := List (Nat × α)

/-- What `m` lists at `k`, if anything. -/
def Sparse.find {α : Type} : Sparse α → Nat → Option α
  | [], _ => none
  | (j, v) :: m, k => if j = k then some v else if k < j then none else Sparse.find m k

/-- Read `k`; an unlisted key reads as `d`. -/
def Sparse.get {α : Type} (d : α) (m : Sparse α) (k : Nat) : α := (Sparse.find m k).getD d

/-- List `v` at `k`, whatever it is. -/
def Sparse.put {α : Type} : Sparse α → Nat → α → Sparse α
  | [], k, v => [(k, v)]
  | (j, w) :: m, k, v =>
    if k < j then (k, v) :: (j, w) :: m
    else if k = j then (k, v) :: m
    else (j, w) :: Sparse.put m k v

/-- Unlist `k`. -/
def Sparse.erase {α : Type} : Sparse α → Nat → Sparse α
  | [], _ => []
  | (j, w) :: m, k => if j = k then m else if k < j then (j, w) :: m else (j, w) :: Sparse.erase m k

/-- Write `v` at `k`, keeping the canonical form: a write of what an unlisted key reads as removes the entry. -/
def Sparse.set {α : Type} [DecidableEq α] (d : α) (m : Sparse α) (k : Nat) (v : α) : Sparse α :=
  if v = d then Sparse.erase m k else Sparse.put m k v

/-- Every key lies above `b`, and keys rise strictly. -/
def Sparse.sorted {α : Type} : Nat → Sparse α → Bool
  | _, [] => true
  | b, (j, _) :: m => decide (b ≤ j) && Sparse.sorted (j + 1) m

/-- The canonical form. -/
def Sparse.wf {α : Type} [DecidableEq α] (d : α) (m : Sparse α) : Bool :=
  Sparse.sorted 0 m && m.all fun p => decide (p.2 ≠ d)

/-- Unlist every key in `[lo, lo + n)`. -/
def Sparse.clear {α : Type} (m : Sparse α) (lo n : Nat) : Sparse α :=
  m.filter fun p => !(decide (lo ≤ p.1) && decide (p.1 < lo + n))

/-- Write a list of consecutive entries from `k` up. -/
def Sparse.setList {α : Type} [DecidableEq α] (d : α) (m : Sparse α) (k : Nat) : List α → Sparse α
  | [] => m
  | v :: vs => Sparse.setList d (Sparse.set d m k v) (k + 1) vs

/-- Read `n` consecutive entries from `k` up. -/
def Sparse.getList {α : Type} (d : α) (m : Sparse α) (k n : Nat) : List α :=
  (List.range n).map fun i => Sparse.get d m (k + i)

end Sys2Proof.Machine
end

