-- ==== Sys2Proof/Machine/Fields.lean ====
section
/-! DEFINITION. Register fields, their access codes (R6) and the rows of the register map. -/

namespace Sys2Proof.Machine

/-- A register field: the byte address of its word, its lowest bit, its width and its reset value. -/
structure Fld where
  addr  : Nat
  lo    : Nat
  width : Nat
  rst   : Nat
deriving DecidableEq, Repr

/-- The key under which the register file holds the field: fields of one register have distinct lowest bits. -/
def Fld.key (f : Fld) : Nat := f.addr * 32 + f.lo

/-- The access codes of R6. -/
inductive Acc where
  | rw | ro | w1c | w1s | wo | rc | rwk
deriving DecidableEq, Repr

/-- One field of a register table: the field, its access code, its CLMP range (R8) and, where its description gives
meaning to some codes only, those codes (R654). -/
structure FieldRow where
  fld   : Fld
  acc   : Acc
  lim   : Option (Int × Int)
  codes : Option (List Nat)
deriving DecidableEq, Repr

/-- One row of a register table: its first address, the stride and count of its instances (per tile, per controller),
the stride and count of its index, and its fields. -/
structure RegRow where
  base    : Nat
  istride : Nat
  icount  : Nat
  stride  : Nat
  count   : Nat
  fields  : Nat → Nat → List FieldRow

/-- Instance and index of address `a` in the row, if the row holds a register there. -/
def RegRow.locate (r : RegRow) (a : Nat) : Option (Nat × Nat) :=
  if a < r.base then none
  else
    let off := a - r.base
    let i := if r.istride = 0 then 0 else off / r.istride
    let o := if r.istride = 0 then off else off % r.istride
    if r.stride = 0 then (if o = 0 ∧ i < r.icount then some (i, 0) else none)
    else if o % r.stride = 0 ∧ o / r.stride < r.count ∧ i < r.icount then some (i, o / r.stride) else none

/-- The fields of the register at `a` among `rows`, if one is there. -/
def findFields (rows : List RegRow) (a : Nat) : Option (List FieldRow) :=
  rows.findSome? fun r => (r.locate a).map fun ik => r.fields ik.1 ik.2

end Sys2Proof.Machine
end

