-- ==== Sys2Proof/Machine/Regs.lean ====
section
/-! DEFINITION. The register map: one constant per register field, with its byte address, its lowest bit, its
width and its reset value, from the register tables of the spec (R30, R68a, R68b, R111, R145, R146, R178, R219,
R220, R253, R325 to R328, R369 to R371, R414, R452, R453, R484, R520, R561 to R563, R583, R611, R626, R647 to R649),
and the rows by which a bus access finds them. A reset the spec gives as `from image`, `from flash`, `from OTP` or
`from AON` is 0 here until the machine writes the field (DESIGN CHOICE, log entry 2). -/

namespace Sys2Proof.Machine

namespace R

/-- R30 SYS_ID.PART: part number of the Skoilo Aimus. -/
def SYS_ID_PART : Fld := ⟨0x40000000, 16, 16, 5696⟩
/-- R30 SYS_ID.STEP_MAJOR: stepping letter: 0x0 = A. -/
def SYS_ID_STEP_MAJOR : Fld := ⟨0x40000000, 12, 4, 0⟩
/-- R30 SYS_ID.STEP_MINOR: stepping digit: 0. -/
def SYS_ID_STEP_MINOR : Fld := ⟨0x40000000, 8, 4, 0⟩
/-- R30 SYS_ID.GRADE: temperature grade: 0x01 = AE, −40 … +85 °C ambient. -/
def SYS_ID_GRADE : Fld := ⟨0x40000000, 0, 8, 1⟩
/-- R561 SYS_RSTCAUSE.POR: —. -/
def SYS_RSTCAUSE_POR : Fld := ⟨0x40000010, 0, 1, 1⟩
/-- R561 SYS_RSTCAUSE.WAKE: wake start. -/
def SYS_RSTCAUSE_WAKE : Fld := ⟨0x40000010, 1, 1, 0⟩
/-- R561 SYS_RSTCAUSE.SUPPLY: R531. -/
def SYS_RSTCAUSE_SUPPLY : Fld := ⟨0x40000010, 2, 1, 0⟩
/-- R561 SYS_RSTCAUSE.CLOCK: R532. -/
def SYS_RSTCAUSE_CLOCK : Fld := ⟨0x40000010, 3, 1, 0⟩
/-- R561 SYS_RSTCAUSE.PG_LOST: R535. -/
def SYS_RSTCAUSE_PG_LOST : Fld := ⟨0x40000010, 4, 1, 0⟩
/-- R561 SYS_RSTCAUSE.SW_SYS: SYS_RSTCTL. -/
def SYS_RSTCAUSE_SW_SYS : Fld := ⟨0x40000010, 5, 1, 0⟩
/-- R561 SYS_RSTCAUSE.SW_CORE: SYS_RSTCTL. -/
def SYS_RSTCAUSE_SW_CORE : Fld := ⟨0x40000010, 6, 1, 0⟩
/-- R561 SYS_RSTCAUSE.WDT0: —. -/
def SYS_RSTCAUSE_WDT0 : Fld := ⟨0x40000010, 7, 1, 0⟩
/-- R561 SYS_RSTCAUSE.WDT1: —. -/
def SYS_RSTCAUSE_WDT1 : Fld := ⟨0x40000010, 8, 1, 0⟩
/-- R561 SYS_RSTCAUSE.LCK: mismatch or agreement fault. -/
def SYS_RSTCAUSE_LCK : Fld := ⟨0x40000010, 9, 1, 0⟩
/-- R561 SYS_RSTCAUSE.SPLIT_TO: —. -/
def SYS_RSTCAUSE_SPLIT_TO : Fld := ⟨0x40000010, 10, 1, 0⟩
/-- R561 SYS_RSTCAUSE.DEBUG: ndmreset. -/
def SYS_RSTCAUSE_DEBUG : Fld := ⟨0x40000010, 11, 1, 0⟩
/-- R561 SYS_RSTCTL.SYS: R551. -/
def SYS_RSTCTL_SYS : Fld := ⟨0x40000014, 0, 1, 0⟩
/-- R561 SYS_RSTCTL.CORE: —. -/
def SYS_RSTCTL_CORE : Fld := ⟨0x40000014, 1, 1, 0⟩
/-- R561 SYS_RSTCTL.AD: —. -/
def SYS_RSTCTL_AD : Fld := ⟨0x40000014, 2, 1, 0⟩
/-- R561 SYS_RSTCTL.CODE: must be 0x5E7A. -/
def SYS_RSTCTL_CODE : Fld := ⟨0x40000014, 16, 16, 0⟩
/-- R561 SYS_BOOT.BL_SLOT: 0 A, 1 B. -/
def SYS_BOOT_BL_SLOT : Fld := ⟨0x40000018, 0, 1, 0⟩
/-- R561 SYS_BOOT.BL_VALID: a boot loader was valid. -/
def SYS_BOOT_BL_VALID : Fld := ⟨0x40000018, 1, 1, 0⟩
/-- R561 SYS_BOOT.DF_SLOT: dispatcher firmware slot. -/
def SYS_BOOT_DF_SLOT : Fld := ⟨0x40000018, 2, 1, 0⟩
/-- R561 SYS_BOOT.DF_VALID: a dispatcher firmware was valid. -/
def SYS_BOOT_DF_VALID : Fld := ⟨0x40000018, 3, 1, 0⟩
/-- R561 SYS_BOOT.RECOVERY: R540. -/
def SYS_BOOT_RECOVERY : Fld := ⟨0x40000018, 4, 1, 0⟩
/-- R561 SYS_ADRST.CAUSE: 1 WORK entry, 2 apply, 3 escalation, 4 firmware, 5 SYS, 6 debug cleared, 7 PG loss. -/
def SYS_ADRST_CAUSE : Fld := ⟨0x4000001C, 0, 4, 0⟩
/-- R561 SYS_ADRST.COUNT: AD resets since POR, wraps. -/
def SYS_ADRST_COUNT : Fld := ⟨0x4000001C, 16, 16, 0⟩
/-- R561 SYS_ADLOAD.SENT: body bytes sent in the last load, 0 … 262,144. -/
def SYS_ADLOAD_SENT : Fld := ⟨0x40000020, 0, 19, 0⟩
/-- R561 SYS_ADLOAD.FAIL: R543. -/
def SYS_ADLOAD_FAIL : Fld := ⟨0x40000020, 30, 1, 0⟩
/-- R561 SYS_ADLOAD.DONE: CONFIG_ACK received. -/
def SYS_ADLOAD_DONE : Fld := ⟨0x40000020, 31, 1, 0⟩
/-- R414 SYS_CORE.STATE: 0 LOCKSTEP, 1 SPLIT_BOOT, 2 SPLIT_HANDOVER. -/
def SYS_CORE_STATE : Fld := ⟨0x40000100, 0, 2, 0⟩
/-- R414 SYS_CORE.HANDOVER_OK: CORE.HANDOVER of the ACTIVE image. -/
def SYS_CORE_HANDOVER_OK : Fld := ⟨0x40000100, 2, 1, 0⟩
/-- R414 SYS_CORE.JOIN_WAIT: one core waits at JOIN. -/
def SYS_CORE_JOIN_WAIT : Fld := ⟨0x40000100, 3, 1, 0⟩
/-- R414 SYS_CORE.JOIN_CORE: the waiting core: 0 C0, 1 C1. -/
def SYS_CORE_JOIN_CORE : Fld := ⟨0x40000100, 4, 1, 0⟩
/-- R414 SYS_CORECMD.SPLIT: request a hand-over (R388). -/
def SYS_CORECMD_SPLIT : Fld := ⟨0x40000104, 0, 1, 0⟩
/-- R414 SYS_CORECMD.JOIN: request a join (R389). -/
def SYS_CORECMD_JOIN : Fld := ⟨0x40000104, 1, 1, 0⟩
/-- R414 SYS_C1PC.ADDR: C1 start address of a hand-over. -/
def SYS_C1PC_ADDR : Fld := ⟨0x40000108, 0, 32, 0x10000000⟩
/-- R414 SYS_JOINPC.ADDR: start address after a join; a multiple of 4 in SRAM, or the join starts at 0x1000_0000. -/
def SYS_JOINPC_ADDR : Fld := ⟨0x4000010C, 0, 32, 0x10000000⟩
/-- R414 SYS_SPLITLIM.SPLIT_MS: 1 … 1,000. -/
def SYS_SPLITLIM_SPLIT_MS : Fld := ⟨0x40000110, 0, 10, 100⟩
/-- R414 SYS_SPLITCNT.REMAIN_MS: time left in the current split. -/
def SYS_SPLITCNT_REMAIN_MS : Fld := ⟨0x40000114, 0, 10, 0⟩
/-- R414 SYS_SPLITCNT.SPLITS: hand-overs since POR, wraps. -/
def SYS_SPLITCNT_SPLITS : Fld := ⟨0x40000114, 16, 16, 0⟩
/-- R414 SYS_LCKSTAT.GROUP: 0 instruction bus, 1 data bus, 2 core status, 3 agreement. -/
def SYS_LCKSTAT_GROUP : Fld := ⟨0x40000118, 0, 2, 0⟩
/-- R414 SYS_LCKSTAT.COUNT_1H: mismatches in the last 60 minutes. -/
def SYS_LCKSTAT_COUNT_1H : Fld := ⟨0x40000118, 2, 4, 0⟩
/-- R414 SYS_LCKSTAT.HOLD: R382. -/
def SYS_LCKSTAT_HOLD : Fld := ⟨0x40000118, 6, 1, 0⟩
/-- R414 SYS_LCKADDR.ADDR: C0's address output at the last mismatch. -/
def SYS_LCKADDR_ADDR : Fld := ⟨0x4000011C, 0, 32, 0⟩
/-- R414 SYS_WDT0.KEY: kick halves (R392). -/
def SYS_WDT0_KEY : Fld := ⟨0x40000120, 0, 16, 0⟩
/-- R414 SYS_WDT1.KEY: as SYS_WDT0, for C1. -/
def SYS_WDT1_KEY : Fld := ⟨0x40000124, 0, 16, 0⟩
/-- R414 SYS_WDTSTAT.REMAIN0_MS: time left on WDT0. -/
def SYS_WDTSTAT_REMAIN0_MS : Fld := ⟨0x40000128, 0, 10, 0⟩
/-- R414 SYS_WDTSTAT.REMAIN1_MS: time left on WDT1. -/
def SYS_WDTSTAT_REMAIN1_MS : Fld := ⟨0x40000128, 16, 10, 0⟩
/-- R414 SYS_WDTSTAT.RUN0: WDT0 running. -/
def SYS_WDTSTAT_RUN0 : Fld := ⟨0x40000128, 26, 1, 0⟩
/-- R414 SYS_WDTSTAT.RUN1: WDT1 running. -/
def SYS_WDTSTAT_RUN1 : Fld := ⟨0x40000128, 27, 1, 0⟩
/-- R414 SYS_MSIP.MSIP: bit 0 C0 or pair, bit 1 C1. -/
def SYS_MSIP_MSIP : Fld := ⟨0x40000130, 0, 2, 0⟩
/-- R414 SYS_MTIME_LO.LO: R394. -/
def SYS_MTIME_LO_LO : Fld := ⟨0x40000138, 0, 32, 0⟩
/-- R414 SYS_MTIME_HI.HI: latched upper half. -/
def SYS_MTIME_HI_HI : Fld := ⟨0x4000013C, 0, 32, 0⟩
/-- R414 SYS_MTIMECMP.W: words of SYS_MTIMECMP0 and SYS_MTIMECMP1. -/
def SYS_MTIMECMP_W (k : Nat) : Fld := ⟨0x40000140 + 4 * k, 0, 32, 0xFFFFFFFF⟩
/-- R414 SYS_SRAMECC.CE: saturating. -/
def SYS_SRAMECC_CE : Fld := ⟨0x40000150, 0, 16, 0⟩
/-- R414 SYS_SRAMECC.UE: saturating. -/
def SYS_SRAMECC_UE : Fld := ⟨0x40000150, 16, 16, 0⟩
/-- R414 SYS_SRAMERR.ADDR: address of the last uncorrectable error. -/
def SYS_SRAMERR_ADDR : Fld := ⟨0x40000154, 0, 32, 0⟩
/-- R414 SYS_SCRUB.EN: scrubber on. -/
def SYS_SCRUB_EN : Fld := ⟨0x40000158, 0, 1, 1⟩
/-- R414 SYS_SCRUB.PERIOD_US: 1 … 255. -/
def SYS_SCRUB_PERIOD_US : Fld := ⟨0x40000158, 8, 8, 8⟩
/-- R414 SYS_OTPADDR.WORD: OTP word to read. -/
def SYS_OTPADDR_WORD : Fld := ⟨0x40000160, 2, 11, 0⟩
/-- R414 SYS_OTPDATA.DATA: R399. -/
def SYS_OTPDATA_DATA : Fld := ⟨0x40000164, 0, 32, 0⟩
/-- R414 SYS_OTPST.BUSY: read in progress. -/
def SYS_OTPST_BUSY : Fld := ⟨0x40000168, 0, 1, 0⟩
/-- R414 SYS_OTPST.DISAGREE: copies of the last word read differ. -/
def SYS_OTPST_DISAGREE : Fld := ⟨0x40000168, 1, 1, 0⟩
/-- R414 SYS_OTPST.FIRST_DIS: byte offset of the first field found unreadable (R375). -/
def SYS_OTPST_FIRST_DIS : Fld := ⟨0x40000168, 4, 12, 0⟩
/-- R414 SYS_DBG.ACTIVE: dmactive. -/
def SYS_DBG_ACTIVE : Fld := ⟨0x40000170, 0, 1, 0⟩
/-- R414 SYS_DBG.HALTED: C0 or pair halted. -/
def SYS_DBG_HALTED : Fld := ⟨0x40000170, 1, 1, 0⟩
/-- R414 SYS_DBG.LOCKED: JTAG_LOCK. -/
def SYS_DBG_LOCKED : Fld := ⟨0x40000170, 2, 1, 0⟩
/-- R414 SYS_DBG.REPLAYS: replays since POR, saturating. -/
def SYS_DBG_REPLAYS : Fld := ⟨0x40000170, 8, 8, 0⟩
/-- R414 SYS_DBG.OVF: full-state copies, saturating. -/
def SYS_DBG_OVF : Fld := ⟨0x40000170, 16, 8, 0⟩
/-- R414 SYS_CINT.SPLIT: hand-over started. -/
def SYS_CINT_SPLIT : Fld := ⟨0x40000180, 0, 1, 0⟩
/-- R414 SYS_CINT.JOINED: join completed. -/
def SYS_CINT_JOINED : Fld := ⟨0x40000180, 1, 1, 0⟩
/-- R414 SYS_CINT.SRAM_CE: —. -/
def SYS_CINT_SRAM_CE : Fld := ⟨0x40000180, 2, 1, 0⟩
/-- R414 SYS_CINT.SRAM_UE: —. -/
def SYS_CINT_SRAM_UE : Fld := ⟨0x40000180, 3, 1, 0⟩
/-- R414 SYS_CINT.DEBUG: debug module activated. -/
def SYS_CINT_DEBUG : Fld := ⟨0x40000180, 4, 1, 0⟩
/-- R414 SYS_CINT.OTPDIS: OTP copies disagree. -/
def SYS_CINT_OTPDIS : Fld := ⟨0x40000180, 5, 1, 0⟩
/-- R414 SYS_CINT.REFUSED: R388, R399. -/
def SYS_CINT_REFUSED : Fld := ⟨0x40000180, 6, 1, 0⟩
/-- R414 SYS_CINT.CLAMP: a CLMP write was clamped. -/
def SYS_CINT_CLAMP : Fld := ⟨0x40000180, 7, 1, 0⟩
/-- R414 SYS_CINTEN.EN: one enable per SYS_CINT bit. -/
def SYS_CINTEN_EN : Fld := ⟨0x40000184, 0, 8, 0⟩
/-- R626 SYS_SELFTEST.RAN: the test ran at the last reset of the cores. -/
def SYS_SELFTEST_RAN : Fld := ⟨0x40000190, 0, 1, 0⟩
/-- R626 SYS_SELFTEST.PASS: every comparator signalled and cleared. -/
def SYS_SELFTEST_PASS : Fld := ⟨0x40000190, 1, 1, 0⟩
/-- R626 SYS_SELFTEST.SKIPPED: R615. -/
def SYS_SELFTEST_SKIPPED : Fld := ⟨0x40000190, 2, 1, 0⟩
/-- R626 SYS_SELFTEST.FAILMASK: bit 0 Assay copies, 1 LUX copies, 2 clock monitor, 3 read-back. -/
def SYS_SELFTEST_FAILMASK : Fld := ⟨0x40000190, 4, 4, 0⟩
/-- R626 SYS_SELFTEST.COUNT: tests run since POR, wraps. -/
def SYS_SELFTEST_COUNT : Fld := ⟨0x40000190, 16, 16, 0⟩
/-- R562 PMU_STATE.STATE: 0 STARTING, a cold or wake start before step 7 of R538; 1 WATCH; 2 WORK; 3 STANDBY, held by AON while the device is in STANDBY. -/
def PMU_STATE_STATE : Fld := ⟨0x40010000, 0, 2, 0⟩
/-- R562 PMU_STATE.LEARN: AD_UPD on. -/
def PMU_STATE_LEARN : Fld := ⟨0x40010000, 2, 1, 0⟩
/-- R562 PMU_STATE.TRANS: transition running. -/
def PMU_STATE_TRANS : Fld := ⟨0x40010000, 3, 1, 0⟩
/-- R562 PMU_STATE.HELD: held command (R553). -/
def PMU_STATE_HELD : Fld := ⟨0x40010000, 4, 2, 0⟩
/-- R562 PMU_STATE.RETAINED: R545. -/
def PMU_STATE_RETAINED : Fld := ⟨0x40010000, 8, 1, 0⟩
/-- R562 PMU_CMD.CMD: 1 WATCH, 2 WORK, 3 STANDBY. -/
def PMU_CMD_CMD : Fld := ⟨0x40010004, 0, 2, 0⟩
/-- R562 PMU_DOMST.ON: one bit per domain (R522); after POR only AON is on. -/
def PMU_DOMST_ON : Fld := ⟨0x40010008, 0, 27, 1⟩
/-- R562 PMU_DOMREQ.UPD: R546. -/
def PMU_DOMREQ_UPD : Fld := ⟨0x4001000C, 0, 1, 0⟩
/-- R562 PMU_DOMRST.RST: R550. -/
def PMU_DOMRST_RST : Fld := ⟨0x40010010, 0, 27, 0⟩
/-- R562 PMU_REG.EN: enables high. -/
def PMU_REG_EN : Fld := ⟨0x40010014, 0, 8, 0⟩
/-- R562 PMU_REG.PG: power-good inputs. -/
def PMU_REG_PG : Fld := ⟨0x40010014, 8, 8, 0⟩
/-- R562 PMU_REG.USE: POWER.REG_USE, with bits 0 and 1 always 1 (R533). -/
def PMU_REG_USE : Fld := ⟨0x40010014, 16, 8, 3⟩
/-- R562 PMU_REG.FAILED: enables that timed out or chattered. -/
def PMU_REG_FAILED : Fld := ⟨0x40010014, 24, 8, 0⟩
/-- R562 PMU_CLK.XTAL32_OK: —. -/
def PMU_CLK_XTAL32_OK : Fld := ⟨0x40010018, 0, 1, 0⟩
/-- R562 PMU_CLK.ON_RC32: R532. -/
def PMU_CLK_ON_RC32 : Fld := ⟨0x40010018, 1, 1, 1⟩
/-- R562 PMU_CLK.XO25_OK: —. -/
def PMU_CLK_XO25_OK : Fld := ⟨0x40010018, 2, 1, 0⟩
/-- R562 PMU_CLK.CPLL: locked. -/
def PMU_CLK_CPLL : Fld := ⟨0x40010018, 3, 1, 0⟩
/-- R562 PMU_CLK.NPLL: locked. -/
def PMU_CLK_NPLL : Fld := ⟨0x40010018, 4, 1, 0⟩
/-- R562 PMU_CLK.SPLL: locked. -/
def PMU_CLK_SPLL : Fld := ⟨0x40010018, 5, 1, 0⟩
/-- R562 PMU_RTC_LO.TICKS: a read latches PMU_RTC_HI. -/
def PMU_RTC_LO_TICKS : Fld := ⟨0x40010020, 0, 32, 0⟩
/-- R562 PMU_RTC_HI.TICKS: —. -/
def PMU_RTC_HI_TICKS : Fld := ⟨0x40010024, 0, 32, 0⟩
/-- R562 PMU_ALARM.W: R548. -/
def PMU_ALARM_W (k : Nat) : Fld := ⟨0x40010028 + 4 * k, 0, 32, 0xFFFFFFFF⟩
/-- R562 PMU_WAKE.EN: bit 0 alarm, bit 1 WAKE0_N, bit 2 WAKE1_N. -/
def PMU_WAKE_EN : Fld := ⟨0x40010030, 0, 3, 0⟩
/-- R562 PMU_WAKE.SRC: source of the last wake, as EN. -/
def PMU_WAKE_SRC : Fld := ⟨0x40010030, 8, 3, 0⟩
/-- R562 PMU_RETAIN.EN: R545. -/
def PMU_RETAIN_EN : Fld := ⟨0x40010034, 0, 1, 0⟩
/-- R562 PMU_PMB.STATUS: last STATUS_WORD. -/
def PMU_PMB_STATUS : Fld := ⟨0x40010038, 0, 16, 0⟩
/-- R562 PMU_PMB.ERRORS: failed transactions, saturating. -/
def PMU_PMB_ERRORS : Fld := ⟨0x40010038, 16, 8, 0⟩
/-- R562 PMU_PMB.VOUT_MODE: last VOUT_MODE. -/
def PMU_PMB_VOUT_MODE : Fld := ⟨0x40010038, 24, 8, 0⟩
/-- R562 PMU_PMBMEAS.IOUT: last READ_IOUT, raw. -/
def PMU_PMBMEAS_IOUT : Fld := ⟨0x4001003C, 0, 16, 0⟩
/-- R562 PMU_PMBMEAS.TEMP: last READ_TEMPERATURE_1, raw. -/
def PMU_PMBMEAS_TEMP : Fld := ⟨0x4001003C, 16, 16, 0⟩
/-- R562 PMU_INT.STATE: transition completed. -/
def PMU_INT_STATE : Fld := ⟨0x40010100, 0, 1, 0⟩
/-- R562 PMU_INT.PGTO: —. -/
def PMU_INT_PGTO : Fld := ⟨0x40010100, 1, 1, 0⟩
/-- R562 PMU_INT.PGLOST: —. -/
def PMU_INT_PGLOST : Fld := ⟨0x40010100, 2, 1, 0⟩
/-- R562 PMU_INT.AVS: PMBus failure, fault or warning. -/
def PMU_INT_AVS : Fld := ⟨0x40010100, 3, 1, 0⟩
/-- R562 PMU_INT.NOREADY: R544. -/
def PMU_INT_NOREADY : Fld := ⟨0x40010100, 4, 1, 0⟩
/-- R562 PMU_INT.CLK: XTAL32 change. -/
def PMU_INT_CLK : Fld := ⟨0x40010100, 5, 1, 0⟩
/-- R562 PMU_INT.REFUSED: —. -/
def PMU_INT_REFUSED : Fld := ⟨0x40010100, 6, 1, 0⟩
/-- R562 PMU_INT.DVFS: operating-point change done or failed. -/
def PMU_INT_DVFS : Fld := ⟨0x40010100, 7, 1, 0⟩
/-- R562 PMU_INTEN.EN: one enable per PMU_INT bit. -/
def PMU_INTEN_EN : Fld := ⟨0x40010104, 0, 8, 0⟩
/-- R220 PMU_TPOINT.REQ: firmware's requested point for tile t. -/
def PMU_TPOINT_REQ (n : Nat) : Fld := ⟨0x40010200, 2 * n, 2, 3⟩
/-- R220 PMU_TCAP.CAP: highest point permitted to any tile; written by THM. -/
def PMU_TCAP_CAP : Fld := ⟨0x40010204, 0, 2, 3⟩
/-- R220 PMU_TPOINT_EFF.EFF: point acknowledged for tile t. -/
def PMU_TPOINT_EFF_EFF (n : Nat) : Fld := ⟨0x40010208, 2 * n, 2, 3⟩
/-- R220 PMU_DVFS.FTOP: acknowledged F_top. -/
def PMU_DVFS_FTOP : Fld := ⟨0x4001020C, 0, 2, 3⟩
/-- R220 PMU_DVFS.BUSY: change in progress. -/
def PMU_DVFS_BUSY : Fld := ⟨0x4001020C, 2, 1, 0⟩
/-- R220 PMU_DVFS.PSEQ: low 8 bits of the last plan sequence number. -/
def PMU_DVFS_PSEQ : Fld := ⟨0x4001020C, 8, 8, 0⟩
/-- R220 PMU_DVFS.VDD_AD_MV: last set voltage. -/
def PMU_DVFS_VDD_AD_MV : Fld := ⟨0x4001020C, 16, 16, 0⟩
/-- R220 PMU_AVS.OFFSET_MV: signed AVS offset, −50 … +50. -/
def PMU_AVS_OFFSET_MV : Fld := ⟨0x40010210, 0, 8, 0⟩
/-- R68a CIL_CTL.CMD: 0x1 OPEN, 0x2 APPEND, 0x3 CLOSE, 0x4 CHECK, 0x5 COMMIT, 0x6 ABORT. -/
def CIL_CTL_CMD : Fld := ⟨0x40020000, 0, 4, 0⟩
/-- R68a CIL_STATUS.BUSY: a command is running. -/
def CIL_STATUS_BUSY : Fld := ⟨0x40020004, 0, 1, 0⟩
/-- R68a CIL_STATUS.NOIMAGE: no-image posture. -/
def CIL_STATUS_NOIMAGE : Fld := ⟨0x40020004, 1, 1, 0⟩
/-- R68a CIL_STATUS.ACTIVE_SLOT: 0 A, 1 B. -/
def CIL_STATUS_ACTIVE_SLOT : Fld := ⟨0x40020004, 2, 1, 0⟩
/-- R68a CIL_STATUS.AUTH_NEEDED: the last check found a change that needs a session. -/
def CIL_STATUS_AUTH_NEEDED : Fld := ⟨0x40020004, 3, 1, 0⟩
/-- R68a CIL_STATUS.RESULT: 0 none, 1 accepted, 2 accepted with clamps, 3 rejected, 4 apply failed. -/
def CIL_STATUS_RESULT : Fld := ⟨0x40020004, 4, 4, 0⟩
/-- R68a CIL_STATUS.REASON: first reject reason. -/
def CIL_STATUS_REASON : Fld := ⟨0x40020004, 8, 8, 0⟩
/-- R68a CIL_STATUS.REPORT_N: 0 … 256. -/
def CIL_STATUS_REPORT_N : Fld := ⟨0x40020004, 16, 9, 0⟩
/-- R68a CIL_STATUS.REPORT_OVF: report truncated. -/
def CIL_STATUS_REPORT_OVF : Fld := ⟨0x40020004, 25, 1, 0⟩
/-- R68a CIL_SLOTST.A: 0 EMPTY … 5 RETIRED, in the order of R42. -/
def CIL_SLOTST_A : Fld := ⟨0x40020008, 0, 3, 0⟩
/-- R68a CIL_SLOTST.B: as A. -/
def CIL_SLOTST_B : Fld := ⟨0x40020008, 8, 3, 0⟩
/-- R68a CIL_SLOTST.DIS_A: slot A copies disagree. -/
def CIL_SLOTST_DIS_A : Fld := ⟨0x40020008, 16, 1, 0⟩
/-- R68a CIL_SLOTST.DIS_B: slot B copies disagree. -/
def CIL_SLOTST_DIS_B : Fld := ⟨0x40020008, 17, 1, 0⟩
/-- R68a CIL_ACTSEQ.SEQ: SEQ of the ACTIVE image; 0 if none. -/
def CIL_ACTSEQ_SEQ : Fld := ⟨0x4002000C, 0, 32, 0⟩
/-- R68a CIL_BUFADDR.ADDR: SRAM address of the APPEND chunk, multiple of 4. -/
def CIL_BUFADDR_ADDR : Fld := ⟨0x40020010, 0, 32, 0⟩
/-- R68a CIL_BUFLEN.LEN: 4 … 4,096, multiple of 4; otherwise APPEND is refused. -/
def CIL_BUFLEN_LEN : Fld := ⟨0x40020014, 0, 13, 0⟩
/-- R68a CIL_INT.DONE: command finished. -/
def CIL_INT_DONE : Fld := ⟨0x40020018, 0, 1, 0⟩
/-- R68a CIL_INT.REJECT: image rejected. -/
def CIL_INT_REJECT : Fld := ⟨0x40020018, 1, 1, 0⟩
/-- R68a CIL_INT.CLAMP: clamps applied, or a CLMP register write was clamped. -/
def CIL_INT_CLAMP : Fld := ⟨0x40020018, 2, 1, 0⟩
/-- R68a CIL_INT.REFUSED: command ignored. -/
def CIL_INT_REFUSED : Fld := ⟨0x40020018, 3, 1, 0⟩
/-- R68a CIL_INT.APPLYFAIL: apply failed. -/
def CIL_INT_APPLYFAIL : Fld := ⟨0x40020018, 4, 1, 0⟩
/-- R68a CIL_INTEN.EN: one enable per CIL_INT bit. -/
def CIL_INTEN_EN : Fld := ⟨0x4002001C, 0, 5, 0⟩
/-- R68a CIL_LOGSEQ.SEQ: ENTRY_SEQ of the last valid entry. -/
def CIL_LOGSEQ_SEQ : Fld := ⟨0x40020020, 0, 32, 0⟩
/-- R68a CIL_STAGEOFF.OFF: bytes staged so far, 0 … 262,144. -/
def CIL_STAGEOFF_OFF : Fld := ⟨0x40020024, 0, 19, 0⟩
/-- R68a CIL_REPORT.W: 256 entries of 16 bytes, as words. -/
def CIL_REPORT_W (k : Nat) : Fld := ⟨0x40021000 + 4 * k, 0, 32, 0⟩
/-- R111 TEN_CTL.AUDIT_EN: audit rounds run in WORK. -/
def TEN_CTL_AUDIT_EN : Fld := ⟨0x40030000, 0, 1, 1⟩
/-- R111 TEN_CTL.AUTORESET_EN: R97 automatic reset. -/
def TEN_CTL_AUTORESET_EN : Fld := ⟨0x40030000, 1, 1, 1⟩
/-- R111 TEN_CMD.TENANT: target tenant. -/
def TEN_CMD_TENANT : Fld := ⟨0x40030004, 0, 4, 0⟩
/-- R111 TEN_CMD.ACTION: 1 SUSPEND, 2 RESUME, 3 RESET, 4 LENDON, 5 LENDOFF. -/
def TEN_CMD_ACTION : Fld := ⟨0x40030004, 4, 4, 0⟩
/-- R111 TEN_WINSEL.TENANT: tenant scope of the AD window (R24). -/
def TEN_WINSEL_TENANT : Fld := ⟨0x40030008, 0, 4, 0⟩
/-- R111 TEN_WINSEL.BASE256: window start in tenant-local space, in units of 256 MiB. -/
def TEN_WINSEL_BASE256 : Fld := ⟨0x40030008, 16, 6, 0⟩
/-- R111 TEN_STATE.STATE: 0 ABSENT, 1 LOADING, 2 READY, 3 RUNNING, 4 SUSPENDED, 5 FAULTED, 6 RESETTING. -/
def TEN_STATE_STATE (n : Nat) : Fld := ⟨0x40030010 + 4 * n, 0, 3, 0⟩
/-- R111 TEN_STATE.CLASS: 0 S, 1 Q, 2 B. -/
def TEN_STATE_CLASS (n : Nat) : Fld := ⟨0x40030010 + 4 * n, 4, 2, 0⟩
/-- R111 TEN_STATE.LEND_OK: lending permitted to this tenant. -/
def TEN_STATE_LEND_OK (n : Nat) : Fld := ⟨0x40030010 + 4 * n, 6, 1, 0⟩
/-- R111 TEN_STATE.RESETS_1H: automatic resets in the last 60 min. -/
def TEN_STATE_RESETS_1H (n : Nat) : Fld := ⟨0x40030010 + 4 * n, 8, 8, 0⟩
/-- R111 TEN_STATE.FAULT: last fault code. -/
def TEN_STATE_FAULT (n : Nat) : Fld := ⟨0x40030010 + 4 * n, 16, 8, 0⟩
/-- R111 TEN_SQDB.TAIL: new submission tail. -/
def TEN_SQDB_TAIL (nq : Nat) : Fld := ⟨0x40030100 + 4 * nq, 0, 10, 0⟩
/-- R111 TEN_SQHD.HEAD: dispatcher consumption point, AD. -/
def TEN_SQHD_HEAD (nq : Nat) : Fld := ⟨0x40030200 + 4 * nq, 0, 10, 0⟩
/-- R111 TEN_CQHD.HEAD: firmware consumption point. -/
def TEN_CQHD_HEAD (nq : Nat) : Fld := ⟨0x40030300 + 4 * nq, 0, 10, 0⟩
/-- R111 TEN_FAULTED.MASK: bit n: tenant n is FAULTED. -/
def TEN_FAULTED_MASK : Fld := ⟨0x40030400, 0, 16, 0⟩
/-- R111 TEN_AUDIT.PASSED: rounds passed, wraps. -/
def TEN_AUDIT_PASSED : Fld := ⟨0x40030404, 0, 16, 0⟩
/-- R111 TEN_AUDIT.SKIPPED: rounds skipped, saturating. -/
def TEN_AUDIT_SKIPPED : Fld := ⟨0x40030404, 16, 8, 0⟩
/-- R111 TEN_AUDIT.FAILED: rounds failed, saturating. -/
def TEN_AUDIT_FAILED : Fld := ⟨0x40030404, 24, 8, 0⟩
/-- R111 TEN_AUDFAIL.REGION: region of the last failure. -/
def TEN_AUDFAIL_REGION : Fld := ⟨0x40030408, 0, 8, 0⟩
/-- R111 TEN_AUDFAIL.STEP: audit step 1 … 4 that failed. -/
def TEN_AUDFAIL_STEP : Fld := ⟨0x40030408, 8, 4, 0⟩
/-- R111 TEN_VIOL.COUNT: partition violations, saturating. -/
def TEN_VIOL_COUNT : Fld := ⟨0x4003040C, 0, 16, 0⟩
/-- R111 TEN_VIOL.LAST: last violation code. -/
def TEN_VIOL_LAST : Fld := ⟨0x4003040C, 16, 8, 0⟩
/-- R111 TEN_MAJOR.K: current major frame number. -/
def TEN_MAJOR_K : Fld := ⟨0x40030410, 0, 32, 0⟩
/-- R111 TEN_LEND.LENDS: loans in the last major frame, AD. -/
def TEN_LEND_LENDS : Fld := ⟨0x40030414, 0, 16, 0⟩
/-- R111 TEN_LEND.LATE: REVOKE_LATE in the last major frame, AD. -/
def TEN_LEND_LATE : Fld := ⟨0x40030414, 16, 8, 0⟩
/-- R111 TEN_BW.STALL: bucket-wait cycles in the last major frame, AD. -/
def TEN_BW_STALL (n : Nat) : Fld := ⟨0x40030420 + 4 * n, 0, 32, 0⟩
/-- R111 TEN_INT.FAULT: a tenant faulted. -/
def TEN_INT_FAULT : Fld := ⟨0x40030480, 0, 1, 0⟩
/-- R111 TEN_INT.CANARY: audit round failed. -/
def TEN_INT_CANARY : Fld := ⟨0x40030480, 1, 1, 0⟩
/-- R111 TEN_INT.DBREFUSED: doorbell ignored. -/
def TEN_INT_DBREFUSED : Fld := ⟨0x40030480, 2, 1, 0⟩
/-- R111 TEN_INT.CMDREFUSED: TEN_CMD refused. -/
def TEN_INT_CMDREFUSED : Fld := ⟨0x40030480, 3, 1, 0⟩
/-- R111 TEN_INT.VIOL: partition violation. -/
def TEN_INT_VIOL : Fld := ⟨0x40030480, 4, 1, 0⟩
/-- R111 TEN_INT.RESETDONE: a tenant reset completed. -/
def TEN_INT_RESETDONE : Fld := ⟨0x40030480, 5, 1, 0⟩
/-- R111 TEN_INT.COMPL: a completion with FLAGS bit 0 arrived. -/
def TEN_INT_COMPL : Fld := ⟨0x40030480, 6, 1, 0⟩
/-- R111 TEN_INTEN.EN: one enable per TEN_INT bit. -/
def TEN_INTEN_EN : Fld := ⟨0x40030484, 0, 7, 0⟩
/-- R325 ASY_CTL.INTAKE: intake open. -/
def ASY_CTL_INTAKE : Fld := ⟨0x40040000, 0, 1, 0⟩
/-- R325 ASY_CTL.COPIES_OK: the two copies agree. -/
def ASY_CTL_COPIES_OK : Fld := ⟨0x40040000, 1, 1, 1⟩
/-- R325 ASY_CMD.ACTION: 1 DEMOTE, 2 DISTRUST, 3 RETRY, 4 CLEARZONES. -/
def ASY_CMD_ACTION : Fld := ⟨0x40040004, 0, 4, 0⟩
/-- R325 ASY_TRUST.STATE: 0 DISTRUSTED, 1 PROBATION, 2 TRUSTED. -/
def ASY_TRUST_STATE : Fld := ⟨0x40040008, 0, 2, 0⟩
/-- R325 ASY_TRUST.QUAL: 0 idle, 1 resetting, 2 loading, 3 qualifying, 4 given up, 5 held by debug. -/
def ASY_TRUST_QUAL : Fld := ⟨0x40040008, 2, 3, 0⟩
/-- R325 ASY_TRUST.ATTEMPT: escalation resets in the last 60 min. -/
def ASY_TRUST_ATTEMPT : Fld := ⟨0x40040008, 5, 3, 0⟩
/-- R325 ASY_TRUST.CLEAN: clean count of R308, saturating. -/
def ASY_TRUST_CLEAN : Fld := ⟨0x40040008, 8, 14, 0⟩
/-- R325 ASY_LADDER.IN_1S: reports in the last 1 s, saturating. -/
def ASY_LADDER_IN_1S : Fld := ⟨0x4004000C, 0, 4, 0⟩
/-- R325 ASY_LADDER.LAST: block number (LCK_KEY order) of the last report. -/
def ASY_LADDER_LAST : Fld := ⟨0x4004000C, 8, 8, 0⟩
/-- R325 ASY_LADDER.TOTAL: saturating. -/
def ASY_LADDER_TOTAL : Fld := ⟨0x4004000C, 16, 16, 0⟩
/-- R325 ASY_CFG0.ZONE_EXPIRY_MS: 50 … 2,000. -/
def ASY_CFG0_ZONE_EXPIRY_MS : Fld := ⟨0x40040010, 0, 16, 500⟩
/-- R325 ASY_CFG0.FLINT_MAXAGE_MS: 125 … 1,000. -/
def ASY_CFG0_FLINT_MAXAGE_MS : Fld := ⟨0x40040010, 16, 16, 250⟩
/-- R325 ASY_CFG1.STALE_MS: 10 … 100. -/
def ASY_CFG1_STALE_MS : Fld := ⟨0x40040014, 0, 8, 40⟩
/-- R325 ASY_CFG1.ABSENT_RUN: 1 … 8. -/
def ASY_CFG1_ABSENT_RUN : Fld := ⟨0x40040014, 8, 4, 3⟩
/-- R325 ASY_CFG1.DEMOTE_REFUTED: 1 … 16. -/
def ASY_CFG1_DEMOTE_REFUTED : Fld := ⟨0x40040014, 16, 5, 1⟩
/-- R325 ASY_CFG2.PROMOTE_CLEAN: 100 … 10,000. -/
def ASY_CFG2_PROMOTE_CLEAN : Fld := ⟨0x40040018, 0, 14, 1000⟩
/-- R325 ASY_ZONE.BITS: believed-absent bits as LUX sees them. -/
def ASY_ZONE_BITS : Fld := ⟨0x4004001C, 0, 8, 0⟩
/-- R325 ASY_ZEXP.REMAIN_MS: time to expiry of zone z. -/
def ASY_ZEXP_REMAIN_MS (z : Nat) : Fld := ⟨0x40040020 + 4 * z, 0, 11, 0⟩
/-- R325 ASY_ZEXP.RUNS: run(z, c) in bits [5c + 15:5c + 11], 0 … 31. -/
def ASY_ZEXP_RUNS (z : Nat) : Fld := ⟨0x40040020 + 4 * z, 11, 20, 0⟩
/-- R325 ASY_VB.BELIEVED: wraps. -/
def ASY_VB_BELIEVED : Fld := ⟨0x40040040, 0, 32, 0⟩
/-- R325 ASY_VW.WITHHELD: wraps. -/
def ASY_VW_WITHHELD : Fld := ⟨0x40040044, 0, 32, 0⟩
/-- R325 ASY_VR.REFUTED: wraps. -/
def ASY_VR_REFUTED : Fld := ⟨0x40040048, 0, 32, 0⟩
/-- R325 ASY_VS.STALE: wraps. -/
def ASY_VS_STALE : Fld := ⟨0x4004004C, 0, 32, 0⟩
/-- R325 ASY_INTAKE.FULL: R298, saturating. -/
def ASY_INTAKE_FULL : Fld := ⟨0x40040050, 0, 16, 0⟩
/-- R325 ASY_INTAKE.CLOSED: R298, saturating. -/
def ASY_INTAKE_CLOSED : Fld := ⟨0x40040050, 16, 16, 0⟩
/-- R325 ASY_LASTREF.REASON: reason of the last record not BELIEVED. -/
def ASY_LASTREF_REASON : Fld := ⟨0x40040054, 0, 8, 0⟩
/-- R325 ASY_LASTREF.TENANT: —. -/
def ASY_LASTREF_TENANT : Fld := ⟨0x40040054, 8, 4, 0⟩
/-- R325 ASY_LASTREF.CAMERA: —. -/
def ASY_LASTREF_CAMERA : Fld := ⟨0x40040054, 12, 2, 0⟩
/-- R325 ASY_LASTREF.RSEQ: —. -/
def ASY_LASTREF_RSEQ : Fld := ⟨0x40040054, 16, 16, 0⟩
/-- R325 ASY_VHEAD.NEXT: next verdict-ring entry. -/
def ASY_VHEAD_NEXT : Fld := ⟨0x40040058, 0, 8, 0⟩
/-- R325 ASY_VHEAD.WRAPS: wraps. -/
def ASY_VHEAD_WRAPS : Fld := ⟨0x40040058, 16, 16, 0⟩
/-- R325 ASY_RSEQ.EXPECT: expected RSEQ of tenant n. -/
def ASY_RSEQ_EXPECT (n : Nat) : Fld := ⟨0x40040080 + 4 * n, 0, 16, 0⟩
/-- R325 ASY_ZMAP.W: word k of the 32 two-word ZONEMAP masks. -/
def ASY_ZMAP_W (k : Nat) : Fld := ⟨0x40040100 + 4 * k, 0, 32, 0⟩
/-- R325 ASY_INT.REFUTED: —. -/
def ASY_INT_REFUTED : Fld := ⟨0x40040200, 0, 1, 0⟩
/-- R325 ASY_INT.TRUST: trust state changed. -/
def ASY_INT_TRUST : Fld := ⟨0x40040200, 1, 1, 0⟩
/-- R325 ASY_INT.ZONE: a zone bit changed. -/
def ASY_INT_ZONE : Fld := ⟨0x40040200, 2, 1, 0⟩
/-- R325 ASY_INT.QUALDONE: —. -/
def ASY_INT_QUALDONE : Fld := ⟨0x40040200, 3, 1, 0⟩
/-- R325 ASY_INT.QUALFAIL: —. -/
def ASY_INT_QUALFAIL : Fld := ⟨0x40040200, 4, 1, 0⟩
/-- R325 ASY_INT.GIVEUP: —. -/
def ASY_INT_GIVEUP : Fld := ⟨0x40040200, 5, 1, 0⟩
/-- R325 ASY_INT.INTAKEDROP: —. -/
def ASY_INT_INTAKEDROP : Fld := ⟨0x40040200, 6, 1, 0⟩
/-- R325 ASY_INT.GAP: —. -/
def ASY_INT_GAP : Fld := ⟨0x40040200, 7, 1, 0⟩
/-- R325 ASY_INT.REFUSED: R322. -/
def ASY_INT_REFUSED : Fld := ⟨0x40040200, 8, 1, 0⟩
/-- R325 ASY_INT.CLAMP: a CLMP write was clamped. -/
def ASY_INT_CLAMP : Fld := ⟨0x40040200, 9, 1, 0⟩
/-- R325 ASY_INTEN.EN: one enable per ASY_INT bit. -/
def ASY_INTEN_EN : Fld := ⟨0x40040204, 0, 10, 0⟩
/-- R325 ASY_VRING.W: 256 entries of 80 bytes, as words. -/
def ASY_VRING_W (k : Nat) : Fld := ⟨0x40048000 + 4 * k, 0, 32, 0⟩
/-- R326 STK_CTL.NEGATE: STREAK.NEGATE. -/
def STK_CTL_NEGATE : Fld := ⟨0x40050000, 0, 1, 1⟩
/-- R326 STK_CTL.ROTATE: STREAK.ROTATE. -/
def STK_CTL_ROTATE : Fld := ⟨0x40050000, 1, 1, 1⟩
/-- R326 STK_RNG.OK: generator healthy. -/
def STK_RNG_OK : Fld := ⟨0x40050004, 0, 1, 0⟩
/-- R326 STK_RNG.FAILS: health-test failures, saturating. -/
def STK_RNG_FAILS : Fld := ⟨0x40050004, 8, 8, 0⟩
/-- R326 STK_COV.MIN_COVER_PCT: 50 … 100. -/
def STK_COV_MIN_COVER_PCT (n : Nat) : Fld := ⟨0x40050010 + 4 * n, 0, 7, 100⟩
/-- R326 STK_COV.L: chunks listed, 0 … 256. -/
def STK_COV_L (n : Nat) : Fld := ⟨0x40050010 + 4 * n, 8, 9, 0⟩
/-- R326 STK_COV.NSEL: chunks selected per run. -/
def STK_COV_NSEL (n : Nat) : Fld := ⟨0x40050010 + 4 * n, 17, 9, 0⟩
/-- R326 STK_RUNS.RUNS: STREAK_SETs sent, wraps. -/
def STK_RUNS_RUNS (n : Nat) : Fld := ⟨0x40050050 + 4 * n, 0, 32, 0⟩
/-- R326 STK_PAIRS_OK.COUNT: wraps. -/
def STK_PAIRS_OK_COUNT : Fld := ⟨0x40050090, 0, 32, 0⟩
/-- R326 STK_PAIRS_BAD.COUNT: saturating. -/
def STK_PAIRS_BAD_COUNT : Fld := ⟨0x40050094, 0, 32, 0⟩
/-- R326 STK_UNPROVEN.COUNT: saturating. -/
def STK_UNPROVEN_COUNT : Fld := ⟨0x40050098, 0, 32, 0⟩
/-- R326 STK_LASTBAD.CHUNK: chunk of the last mismatch. -/
def STK_LASTBAD_CHUNK : Fld := ⟨0x4005009C, 0, 16, 0⟩
/-- R326 STK_LASTBAD.TENANT: —. -/
def STK_LASTBAD_TENANT : Fld := ⟨0x4005009C, 16, 4, 0⟩
/-- R326 STK_LASTBAD.CAMERA: —. -/
def STK_LASTBAD_CAMERA : Fld := ⟨0x4005009C, 20, 2, 0⟩
/-- R326 STK_LASTBAD.N: negation used. -/
def STK_LASTBAD_N : Fld := ⟨0x4005009C, 22, 1, 0⟩
/-- R326 STK_LASTBAD.R: column rotation used. -/
def STK_LASTBAD_R : Fld := ⟨0x4005009C, 24, 6, 0⟩
/-- R326 STK_INT.MISMATCH: —. -/
def STK_INT_MISMATCH : Fld := ⟨0x400500A0, 0, 1, 0⟩
/-- R326 STK_INT.COVERSHORT: —. -/
def STK_INT_COVERSHORT : Fld := ⟨0x400500A0, 1, 1, 0⟩
/-- R326 STK_INT.RNGFAIL: —. -/
def STK_INT_RNGFAIL : Fld := ⟨0x400500A0, 2, 1, 0⟩
/-- R326 STK_INT.CLAMP: —. -/
def STK_INT_CLAMP : Fld := ⟨0x400500A0, 3, 1, 0⟩
/-- R326 STK_INTEN.EN: —. -/
def STK_INTEN_EN : Fld := ⟨0x400500A4, 0, 4, 0⟩
/-- R326 STK_CHUNKS.W: word k mod 128 of tenant (k div 128): two u16 chunk IDs. -/
def STK_CHUNKS_W (k : Nat) : Fld := ⟨0x40051000 + 4 * k, 0, 32, 0⟩
/-- R327 FLT_STAT.READY: model check passed. -/
def FLT_STAT_READY : Fld := ⟨0x40060000, 0, 1, 0⟩
/-- R327 FLT_STAT.FAULTED: R293. -/
def FLT_STAT_FAULTED : Fld := ⟨0x40060000, 1, 1, 1⟩
/-- R327 FLT_STAT.KAT_OK: last self-test passed. -/
def FLT_STAT_KAT_OK : Fld := ⟨0x40060000, 2, 1, 0⟩
/-- R327 FLT_STAT.KAT_FAILS: saturating. -/
def FLT_STAT_KAT_FAILS : Fld := ⟨0x40060000, 8, 8, 0⟩
/-- R327 FLT_CFG.THRESH: 1 … 254. -/
def FLT_CFG_THRESH : Fld := ⟨0x40060004, 0, 8, 96⟩
/-- R327 FLT_CFG.FPS: 1 … 8. -/
def FLT_CFG_FPS (n : Nat) : Fld := ⟨0x40060004, 8 + 4 * n, 4, 8⟩
/-- R327 FLT_ZMASK.W: word k of the four two-word zone masks. -/
def FLT_ZMASK_W (k : Nat) : Fld := ⟨0x40060008 + 4 * k, 0, 32, (if k % 2 = 0 then 0xFFFFFFFF else 0xFFFF)⟩
/-- R327 FLT_RUN.COPIES: copies scored, wraps. -/
def FLT_RUN_COPIES (c : Nat) : Fld := ⟨0x40060040 + 4 * c, 0, 32, 0⟩
/-- R327 FLT_CNT.OVERRUN: saturating. -/
def FLT_CNT_OVERRUN : Fld := ⟨0x40060050, 0, 16, 0⟩
/-- R327 FLT_CNT.CE: saturating. -/
def FLT_CNT_CE : Fld := ⟨0x40060050, 16, 16, 0⟩
/-- R327 FLT_SCORE.W: word k mod 16 of camera (k div 16). -/
def FLT_SCORE_W (k : Nat) : Fld := ⟨0x40060100 + 4 * k, 0, 32, 0⟩
/-- R327 FLT_INT.FAULT: —. -/
def FLT_INT_FAULT : Fld := ⟨0x40060200, 0, 1, 0⟩
/-- R327 FLT_INT.KATFAIL: —. -/
def FLT_INT_KATFAIL : Fld := ⟨0x40060200, 1, 1, 0⟩
/-- R327 FLT_INT.OVERRUN: —. -/
def FLT_INT_OVERRUN : Fld := ⟨0x40060200, 2, 1, 0⟩
/-- R327 FLT_INT.CLAMP: —. -/
def FLT_INT_CLAMP : Fld := ⟨0x40060200, 3, 1, 0⟩
/-- R327 FLT_INTEN.EN: —. -/
def FLT_INTEN_EN : Fld := ⟨0x40060204, 0, 4, 0⟩
/-- R145 ING_CTL.RX_EN: receiver enables. -/
def ING_CTL_RX_EN : Fld := ⟨0x40070000, 0, 2, 0⟩
/-- R145 ING_RX.LANES: 1, 2 or 4; other values refused. -/
def ING_RX_LANES (n : Nat) : Fld := ⟨0x40070010 + 4 * n, 0, 3, 4⟩
/-- R145 ING_RX.LANEMAP: 2 bits per logical lane: the physical lane. -/
def ING_RX_LANEMAP (n : Nat) : Fld := ⟨0x40070010 + 4 * n, 8, 8, 228⟩
/-- R145 ING_RX.CLK_CONT: continuous clock. -/
def ING_RX_CLK_CONT (n : Nat) : Fld := ⟨0x40070010 + 4 * n, 16, 1, 0⟩
/-- R145 ING_RX.RATE_MBPS: 80 … 2,500. -/
def ING_RX_RATE_MBPS (n : Nat) : Fld := ⟨0x40070010 + 4 * n, 17, 12, 1500⟩
/-- R145 ING_RXST.SOT_ERR: saturating. -/
def ING_RXST_SOT_ERR (n : Nat) : Fld := ⟨0x40070020 + 4 * n, 0, 8, 0⟩
/-- R145 ING_RXST.DROP: saturating. -/
def ING_RXST_DROP (n : Nat) : Fld := ⟨0x40070020 + 4 * n, 8, 8, 0⟩
/-- R145 ING_RXST.ULPS: lanes in ULPS. -/
def ING_RXST_ULPS (n : Nat) : Fld := ⟨0x40070020 + 4 * n, 16, 1, 0⟩
/-- R145 ING_RXST.DESKEWED: deskew complete. -/
def ING_RXST_DESKEWED (n : Nat) : Fld := ⟨0x40070020 + 4 * n, 17, 1, 0⟩
/-- R145 ING_CAM_CFG.EN: camera enabled. -/
def ING_CAM_CFG_EN (n : Nat) : Fld := ⟨0x40070100 + 32 * n, 0, 1, 0⟩
/-- R145 ING_CAM_CFG.PORT: RX0 or RX1. -/
def ING_CAM_CFG_PORT (n : Nat) : Fld := ⟨0x40070100 + 32 * n, 1, 1, 0⟩
/-- R145 ING_CAM_CFG.VC: 0 … 3. -/
def ING_CAM_CFG_VC (n : Nat) : Fld := ⟨0x40070100 + 32 * n, 2, 2, 0⟩
/-- R145 ING_CAM_CFG.DTYPE: 0 RAW10, 1 RAW12, 2 YUV422. -/
def ING_CAM_CFG_DTYPE (n : Nat) : Fld := ⟨0x40070100 + 32 * n, 4, 2, 0⟩
/-- R145 ING_CAM_CFG.SAFE: R114. -/
def ING_CAM_CFG_SAFE (n : Nat) : Fld := ⟨0x40070100 + 32 * n, 8, 1, 0⟩
/-- R145 ING_CAM_GEOM.WIDTH: pixels. -/
def ING_CAM_GEOM_WIDTH (n : Nat) : Fld := ⟨0x40070104 + 32 * n, 0, 13, 1920⟩
/-- R145 ING_CAM_GEOM.HEIGHT: lines. -/
def ING_CAM_GEOM_HEIGHT (n : Nat) : Fld := ⟨0x40070104 + 32 * n, 16, 13, 1080⟩
/-- R145 ING_CAM_TIME.FTO_MS: 10 … 255. -/
def ING_CAM_TIME_FTO_MS (n : Nat) : Fld := ⟨0x40070108 + 32 * n, 0, 8, 100⟩
/-- R145 ING_CAM_TIME.MIN_FI_MS: 1 … 100. -/
def ING_CAM_TIME_MIN_FI_MS (n : Nat) : Fld := ⟨0x40070108 + 32 * n, 8, 8, 8⟩
/-- R145 ING_CAM_SIL.SILENCE_MS: 50 … 10,000. -/
def ING_CAM_SIL_SILENCE_MS (n : Nat) : Fld := ⟨0x4007010C + 32 * n, 0, 16, 500⟩
/-- R145 ING_CAM_FCNT.FCNT: R122. -/
def ING_CAM_FCNT_FCNT (n : Nat) : Fld := ⟨0x40070110 + 32 * n, 0, 32, 0⟩
/-- R145 ING_CAM_STAT.HEALTH: 0 HEALTHY, 1 UNHEALTHY. -/
def ING_CAM_STAT_HEALTH (n : Nat) : Fld := ⟨0x40070114 + 32 * n, 0, 1, 0⟩
/-- R145 ING_CAM_STAT.LAST: status of the last frame. -/
def ING_CAM_STAT_LAST (n : Nat) : Fld := ⟨0x40070114 + 32 * n, 4, 4, 0⟩
/-- R145 ING_CAM_STAT.BAD_1S: non-OK frames in the last 1 s. -/
def ING_CAM_STAT_BAD_1S (n : Nat) : Fld := ⟨0x40070114 + 32 * n, 8, 8, 0⟩
/-- R145 ING_CAM_STAT.OK_RUN: consecutive OK frames, saturating. -/
def ING_CAM_STAT_OK_RUN (n : Nat) : Fld := ⟨0x40070114 + 32 * n, 16, 16, 0⟩
/-- R145 ING_CAM_ERR.HDR_CE: saturating. -/
def ING_CAM_ERR_HDR_CE (n : Nat) : Fld := ⟨0x40070118 + 32 * n, 0, 16, 0⟩
/-- R145 ING_CAM_ERR.DROP: saturating. -/
def ING_CAM_ERR_DROP (n : Nat) : Fld := ⟨0x40070118 + 32 * n, 16, 16, 0⟩
/-- R145 ING_CAM_COPY.COPIED: wraps. -/
def ING_CAM_COPY_COPIED (n : Nat) : Fld := ⟨0x4007011C + 32 * n, 0, 16, 0⟩
/-- R145 ING_CAM_COPY.DROPPED: saturating. -/
def ING_CAM_COPY_DROPPED (n : Nat) : Fld := ⟨0x4007011C + 32 * n, 16, 16, 0⟩
/-- R145 ING_INT.FRAMEBAD: a frame closed not OK. -/
def ING_INT_FRAMEBAD : Fld := ⟨0x40070200, 0, 1, 0⟩
/-- R145 ING_INT.UNHEALTHY: a camera became UNHEALTHY. -/
def ING_INT_UNHEALTHY : Fld := ⟨0x40070200, 1, 1, 0⟩
/-- R145 ING_INT.HEALTHY: a camera recovered. -/
def ING_INT_HEALTHY : Fld := ⟨0x40070200, 2, 1, 0⟩
/-- R145 ING_INT.FWDOVF: R126. -/
def ING_INT_FWDOVF : Fld := ⟨0x40070200, 3, 1, 0⟩
/-- R145 ING_INT.PHY: D-PHY error. -/
def ING_INT_PHY : Fld := ⟨0x40070200, 4, 1, 0⟩
/-- R145 ING_INT.COPYDROP: R130. -/
def ING_INT_COPYDROP : Fld := ⟨0x40070200, 5, 1, 0⟩
/-- R145 ING_INT.CFGREFUSED: R113. -/
def ING_INT_CFGREFUSED : Fld := ⟨0x40070200, 6, 1, 0⟩
/-- R145 ING_INT.CLAMP: a CLMP write was clamped. -/
def ING_INT_CLAMP : Fld := ⟨0x40070200, 7, 1, 0⟩
/-- R145 ING_INTEN.EN: one enable per ING_INT bit. -/
def ING_INTEN_EN : Fld := ⟨0x40070204, 0, 8, 0⟩
/-- R178 SIL_CTL.RETRAIN: start a fast retrain. -/
def SIL_CTL_RETRAIN : Fld := ⟨0x40080000, 0, 1, 0⟩
/-- R178 SIL_CTL.FULLTRAIN: start a full training. -/
def SIL_CTL_FULLTRAIN : Fld := ⟨0x40080000, 1, 1, 0⟩
/-- R178 SIL_CTL.SILLRST: SILL reset (R172). -/
def SIL_CTL_SILLRST : Fld := ⟨0x40080000, 2, 1, 0⟩
/-- R178 SIL_STATUS.STATE: 0 OFF, 1 TRAINING, 2 ACTIVE, 3 DOZE, 4 SLEEP, 5 DOWN. -/
def SIL_STATUS_STATE : Fld := ⟨0x40080004, 0, 3, 0⟩
/-- R178 SIL_STATUS.LANES: 0 none, 1 x8, 2 x4 low, 3 x4 high. -/
def SIL_STATUS_LANES : Fld := ⟨0x40080004, 3, 2, 0⟩
/-- R178 SIL_STATUS.READY: READY received (R155). -/
def SIL_STATUS_READY : Fld := ⟨0x40080004, 5, 1, 0⟩
/-- R178 SIL_STATUS.TXSEQ: next SEQ to send. -/
def SIL_STATUS_TXSEQ : Fld := ⟨0x40080004, 16, 10, 0⟩
/-- R178 SIL_PM.DOZE_IDLE_US: 1 … 1,000. -/
def SIL_PM_DOZE_IDLE_US : Fld := ⟨0x40080008, 0, 10, 4⟩
/-- R178 SIL_PM.SLEEP_AFTER_US: 0, or 10 … 65,535. -/
def SIL_PM_SLEEP_AFTER_US : Fld := ⟨0x40080008, 10, 16, 0⟩
/-- R178 SIL_PM.SLEEP_REQ: enter SLEEP. -/
def SIL_PM_SLEEP_REQ : Fld := ⟨0x40080008, 30, 1, 0⟩
/-- R178 SIL_PM.RESUME: resume. -/
def SIL_PM_RESUME : Fld := ⟨0x40080008, 31, 1, 0⟩
/-- R178 SIL_ARB.VC1_SHARE: 4 … 12. -/
def SIL_ARB_VC1_SHARE : Fld := ⟨0x4008000C, 0, 4, 4⟩
/-- R178 SIL_CRED.TX: credits held for VC v. -/
def SIL_CRED_TX (v : Nat) : Fld := ⟨0x40080010 + 4 * v, 0, 16, 0⟩
/-- R178 SIL_CRED.RX: free CD buffer flits on VC v. -/
def SIL_CRED_RX (v : Nat) : Fld := ⟨0x40080010 + 4 * v, 16, 16, 0⟩
/-- R178 SIL_VCCNT.TXMSG: messages sent on VC v, wraps. -/
def SIL_VCCNT_TXMSG (v : Nat) : Fld := ⟨0x40080020 + 4 * v, 0, 16, 0⟩
/-- R178 SIL_VCCNT.RXMSG: messages received on VC v, wraps. -/
def SIL_VCCNT_RXMSG (v : Nat) : Fld := ⟨0x40080020 + 4 * v, 16, 16, 0⟩
/-- R178 SIL_ERR.CRC: saturating. -/
def SIL_ERR_CRC : Fld := ⟨0x40080030, 0, 8, 0⟩
/-- R178 SIL_ERR.NAK: NAKs sent, saturating. -/
def SIL_ERR_NAK : Fld := ⟨0x40080030, 8, 8, 0⟩
/-- R178 SIL_ERR.RETRAIN: saturating. -/
def SIL_ERR_RETRAIN : Fld := ⟨0x40080030, 16, 8, 0⟩
/-- R178 SIL_ERR.EVDROP: saturating. -/
def SIL_ERR_EVDROP : Fld := ⟨0x40080030, 24, 8, 0⟩
/-- R178 SIL_VIOL.COUNT: saturating. -/
def SIL_VIOL_COUNT : Fld := ⟨0x40080034, 0, 16, 0⟩
/-- R178 SIL_VIOL.LAST: last code. -/
def SIL_VIOL_LAST : Fld := ⟨0x40080034, 16, 8, 0⟩
/-- R178 SIL_DBG.EN: R171. -/
def SIL_DBG_EN : Fld := ⟨0x40080038, 0, 1, 0⟩
/-- R178 SIL_INT.UP: link ACTIVE after training. -/
def SIL_INT_UP : Fld := ⟨0x40080040, 0, 1, 0⟩
/-- R178 SIL_INT.RETRAIN: fast retrain. -/
def SIL_INT_RETRAIN : Fld := ⟨0x40080040, 1, 1, 0⟩
/-- R178 SIL_INT.DOWN: link DOWN. -/
def SIL_INT_DOWN : Fld := ⟨0x40080040, 2, 1, 0⟩
/-- R178 SIL_INT.VIOL: violation. -/
def SIL_INT_VIOL : Fld := ⟨0x40080040, 3, 1, 0⟩
/-- R178 SIL_INT.MEMTO: memory timeout. -/
def SIL_INT_MEMTO : Fld := ⟨0x40080040, 4, 1, 0⟩
/-- R178 SIL_INT.READY: READY received. -/
def SIL_INT_READY : Fld := ⟨0x40080040, 5, 1, 0⟩
/-- R178 SIL_INT.CLAMP: a CLMP write was clamped. -/
def SIL_INT_CLAMP : Fld := ⟨0x40080040, 6, 1, 0⟩
/-- R178 SIL_INTEN.EN: one enable per SIL_INT bit. -/
def SIL_INTEN_EN : Fld := ⟨0x40080044, 0, 7, 0⟩
/-- R452 NET_CTL.PORT_EN: line port enables. -/
def NET_CTL_PORT_EN : Fld := ⟨0x40090000, 0, 2, 0⟩
/-- R452 NET_CTL.LEARN_EN: R421. -/
def NET_CTL_LEARN_EN : Fld := ⟨0x40090000, 2, 1, 1⟩
/-- R452 NET_MACLO.MAC: own address, bytes 0 … 3; byte 0 in [7:0]. -/
def NET_MACLO_MAC : Fld := ⟨0x40090004, 0, 32, 0⟩
/-- R452 NET_MACHI.MAC: bytes 4 … 5. -/
def NET_MACHI_MAC : Fld := ⟨0x40090008, 0, 16, 0⟩
/-- R452 NET_MCAST.HASH: multicast accepted where bit (CRC-32 of the address)[31:27] is set. -/
def NET_MCAST_HASH : Fld := ⟨0x4009000C, 0, 32, 0⟩
/-- R452 NET_PORT_ST.MODE: PORT_MODE. -/
def NET_PORT_ST_MODE (p : Nat) : Fld := ⟨0x40090010 + 32 * p, 0, 2, 0⟩
/-- R452 NET_PORT_ST.LINK: link up. -/
def NET_PORT_ST_LINK (p : Nat) : Fld := ⟨0x40090010 + 32 * p, 2, 1, 0⟩
/-- R452 NET_PORT_ST.OFF: disabled by flapping. -/
def NET_PORT_ST_OFF (p : Nat) : Fld := ⟨0x40090010 + 32 * p, 3, 1, 0⟩
/-- R452 NET_PORT_ST.DOWNS: link-downs in the last 60 s. -/
def NET_PORT_ST_DOWNS (p : Nat) : Fld := ⟨0x40090010 + 32 * p, 8, 8, 0⟩
/-- R452 NET_PORT_LAT.RX_PHY_NS: 0 … 4,000. -/
def NET_PORT_LAT_RX_PHY_NS (p : Nat) : Fld := ⟨0x40090014 + 32 * p, 0, 12, 0⟩
/-- R452 NET_PORT_LAT.TX_PHY_NS: 0 … 4,000. -/
def NET_PORT_LAT_TX_PHY_NS (p : Nat) : Fld := ⟨0x40090014 + 32 * p, 16, 12, 0⟩
/-- R452 NET_PORT_LINKDLY.DLY: mean link delay, 2⁻¹⁶ ns. -/
def NET_PORT_LINKDLY_DLY (p : Nat) : Fld := ⟨0x40090018 + 32 * p, 0, 32, 0⟩
/-- R452 NET_PORT_STORM.FPS: R423. -/
def NET_PORT_STORM_FPS (p : Nat) : Fld := ⟨0x4009001C + 32 * p, 0, 16, 2000⟩
/-- R452 NET_PORT_RX.FRAMES: wraps. -/
def NET_PORT_RX_FRAMES (p : Nat) : Fld := ⟨0x40090020 + 32 * p, 0, 32, 0⟩
/-- R452 NET_PORT_BAD.FCS: saturating. -/
def NET_PORT_BAD_FCS (p : Nat) : Fld := ⟨0x40090024 + 32 * p, 0, 16, 0⟩
/-- R452 NET_PORT_BAD.OTHER: runt, oversize, tags, pause, storm; saturating. -/
def NET_PORT_BAD_OTHER (p : Nat) : Fld := ⟨0x40090024 + 32 * p, 16, 16, 0⟩
/-- R452 NET_MDIO_CMD.OP: 0 C22 write, 1 C22 read, 2 C45 address, 3 C45 write, 4 C45 read, 5 C45 read-increment. -/
def NET_MDIO_CMD_OP : Fld := ⟨0x40090080, 0, 3, 0⟩
/-- R452 NET_MDIO_CMD.PHYAD: —. -/
def NET_MDIO_CMD_PHYAD : Fld := ⟨0x40090080, 3, 5, 0⟩
/-- R452 NET_MDIO_CMD.REG: register (C22) or device (C45). -/
def NET_MDIO_CMD_REG : Fld := ⟨0x40090080, 8, 5, 0⟩
/-- R452 NET_MDIO_CMD.GO: —. -/
def NET_MDIO_CMD_GO : Fld := ⟨0x40090080, 31, 1, 0⟩
/-- R452 NET_MDIO_DATA.DATA: write data, or read result. -/
def NET_MDIO_DATA_DATA : Fld := ⟨0x40090084, 0, 16, 0⟩
/-- R452 NET_MDIO_ST.BUSY: —. -/
def NET_MDIO_ST_BUSY : Fld := ⟨0x40090088, 0, 1, 0⟩
/-- R452 NET_MDIO_ST.RESULT: 0 OK, 1 NORESP. -/
def NET_MDIO_ST_RESULT : Fld := ⟨0x40090088, 1, 2, 0⟩
/-- R452 NET_MDIO_CFG.DIV: R417. -/
def NET_MDIO_CFG_DIV : Fld := ⟨0x4009008C, 0, 8, 25⟩
/-- R452 NET_RXQ_BASE.ADDR: ring base. -/
def NET_RXQ_BASE_ADDR (q : Nat) : Fld := ⟨0x40090100 + 16 * q, 0, 32, 0⟩
/-- R452 NET_RXQ_SIZE.N: 16 … 1,024 descriptors. -/
def NET_RXQ_SIZE_N (q : Nat) : Fld := ⟨0x40090104 + 16 * q, 0, 11, 16⟩
/-- R452 NET_RXQ_SIZE.EN: ring enabled. -/
def NET_RXQ_SIZE_EN (q : Nat) : Fld := ⟨0x40090104 + 16 * q, 31, 1, 0⟩
/-- R452 NET_RXQ_TAIL.TAIL: next descriptor that firmware will hand over. -/
def NET_RXQ_TAIL_TAIL (q : Nat) : Fld := ⟨0x40090108 + 16 * q, 0, 10, 0⟩
/-- R452 NET_RXQ_HEAD.HEAD: next descriptor NET fills. -/
def NET_RXQ_HEAD_HEAD (q : Nat) : Fld := ⟨0x4009010C + 16 * q, 0, 10, 0⟩
/-- R452 NET_RXQ_HEAD.DROP: saturating. -/
def NET_RXQ_HEAD_DROP (q : Nat) : Fld := ⟨0x4009010C + 16 * q, 16, 16, 0⟩
/-- R452 NET_TXR_BASE.ADDR: as NET_RXQq. -/
def NET_TXR_BASE_ADDR : Fld := ⟨0x40090300, 0, 32, 0⟩
/-- R452 NET_TXR_SIZE.N: as NET_RXQq. -/
def NET_TXR_SIZE_N : Fld := ⟨0x40090304, 0, 11, 16⟩
/-- R452 NET_TXR_SIZE.EN: as NET_RXQq. -/
def NET_TXR_SIZE_EN : Fld := ⟨0x40090304, 31, 1, 0⟩
/-- R452 NET_TXR_TAIL.TAIL: as NET_RXQq. -/
def NET_TXR_TAIL_TAIL : Fld := ⟨0x40090308, 0, 10, 0⟩
/-- R452 NET_TXR_HEAD.HEAD: as NET_RXQq. -/
def NET_TXR_HEAD_HEAD : Fld := ⟨0x4009030C, 0, 10, 0⟩
/-- R452 NET_TXR_HEAD.DROP: as NET_RXQq. -/
def NET_TXR_HEAD_DROP : Fld := ⟨0x4009030C, 16, 16, 0⟩
/-- R452 NET_TXSTAMP1.STAMP: port-1 egress stamp of the last two-port send. -/
def NET_TXSTAMP1_STAMP : Fld := ⟨0x40090310, 0, 32, 0⟩
/-- R452 NET_PTPSTAT.CORRECTED: wraps. -/
def NET_PTPSTAT_CORRECTED : Fld := ⟨0x40090400, 0, 16, 0⟩
/-- R452 NET_PTPSTAT.UNCORR: saturating. -/
def NET_PTPSTAT_UNCORR : Fld := ⟨0x40090400, 16, 8, 0⟩
/-- R452 NET_PTPSTAT.FUP_ORPHAN: saturating. -/
def NET_PTPSTAT_FUP_ORPHAN : Fld := ⟨0x40090400, 24, 8, 0⟩
/-- R452 NET_INT.RX: frame delivered to a ring. -/
def NET_INT_RX : Fld := ⟨0x40090480, 0, 1, 0⟩
/-- R452 NET_INT.TX: descriptor completed. -/
def NET_INT_TX : Fld := ⟨0x40090480, 1, 1, 0⟩
/-- R452 NET_INT.LINK: a link changed. -/
def NET_INT_LINK : Fld := ⟨0x40090480, 2, 1, 0⟩
/-- R452 NET_INT.DROP: a ring dropped a frame. -/
def NET_INT_DROP : Fld := ⟨0x40090480, 3, 1, 0⟩
/-- R452 NET_INT.PTPBAD: —. -/
def NET_INT_PTPBAD : Fld := ⟨0x40090480, 4, 1, 0⟩
/-- R452 NET_INT.RINGERR: —. -/
def NET_INT_RINGERR : Fld := ⟨0x40090480, 5, 1, 0⟩
/-- R452 NET_INT.MDIO: MDIO operation done. -/
def NET_INT_MDIO : Fld := ⟨0x40090480, 6, 1, 0⟩
/-- R452 NET_INT.CLAMP: a CLMP write was clamped. -/
def NET_INT_CLAMP : Fld := ⟨0x40090480, 7, 1, 0⟩
/-- R452 NET_INTEN.EN: one enable per NET_INT bit. -/
def NET_INTEN_EN : Fld := ⟨0x40090484, 0, 8, 0⟩
/-- R453 TIM_CMD.SNAP: copy all four bases, in one cycle, into TIM_TBn.SNAP. -/
def TIM_CMD_SNAP : Fld := ⟨0x400A0000, 0, 1, 0⟩
/-- R453 TIM_CMD.TB3_ALIGN: R438. -/
def TIM_CMD_TB3_ALIGN : Fld := ⟨0x400A0000, 1, 1, 0⟩
/-- R453 TIM_CMD.SEL_A: R436. -/
def TIM_CMD_SEL_A : Fld := ⟨0x400A0000, 2, 1, 0⟩
/-- R453 TIM_CMD.SEL_B: R436. -/
def TIM_CMD_SEL_B : Fld := ⟨0x400A0000, 3, 1, 0⟩
/-- R453 TIM_STAT.SEL: 0 TB0, 1 TB1. -/
def TIM_STAT_SEL : Fld := ⟨0x400A0004, 0, 1, 0⟩
/-- R453 TIM_STAT.HOLDOVER: —. -/
def TIM_STAT_HOLDOVER : Fld := ⟨0x400A0004, 1, 1, 0⟩
/-- R453 TIM_STAT.ABSORBING: D ≠ 0. -/
def TIM_STAT_ABSORBING : Fld := ⟨0x400A0004, 2, 1, 0⟩
/-- R453 TIM_STAT.A_ARRIVING: R435. -/
def TIM_STAT_A_ARRIVING : Fld := ⟨0x400A0004, 3, 1, 0⟩
/-- R453 TIM_STAT.B_ARRIVING: R435. -/
def TIM_STAT_B_ARRIVING : Fld := ⟨0x400A0004, 4, 1, 0⟩
/-- R453 TIM_DOM.DOMAIN_A: TIME.DOMAIN_A. -/
def TIM_DOM_DOMAIN_A : Fld := ⟨0x400A0008, 0, 7, 0⟩
/-- R453 TIM_DOM.DOMAIN_B: TIME.DOMAIN_B. -/
def TIM_DOM_DOMAIN_B : Fld := ⟨0x400A0008, 8, 7, 0⟩
/-- R453 TIM_DOM.TC_MODE: TIME.TC_MODE. -/
def TIM_DOM_TC_MODE : Fld := ⟨0x400A0008, 15, 1, 0⟩
/-- R453 TIM_DOM.SYNCTO_MS: R435. -/
def TIM_DOM_SYNCTO_MS : Fld := ⟨0x400A0008, 16, 14, 375⟩
/-- R453 TIM_DOM.LOCK_A: R433. -/
def TIM_DOM_LOCK_A : Fld := ⟨0x400A0008, 30, 1, 0⟩
/-- R453 TIM_DOM.LOCK_B: R433. -/
def TIM_DOM_LOCK_B : Fld := ⟨0x400A0008, 31, 1, 0⟩
/-- R453 TIM_SWITCH.SWITCH_NS: 100 … 1,000,000. -/
def TIM_SWITCH_SWITCH_NS : Fld := ⟨0x400A000C, 0, 20, 0⟩
/-- R453 TIM_SLEW.SLEW_PPB: R438. -/
def TIM_SLEW_SLEW_PPB : Fld := ⟨0x400A0010, 0, 17, 50000⟩
/-- R453 TIM_D.D: i32 offset of TB3 (R435). -/
def TIM_D_D : Fld := ⟨0x400A0014, 0, 32, 0⟩
/-- R453 TIM_TB_NS.NS: base value. -/
def TIM_TB_NS_NS (n : Nat) : Fld := ⟨0x400A0020 + 16 * n, 0, 32, 0⟩
/-- R453 TIM_TB_ADJ.PPB: i32, R432; RO 0 for TB2, TB3. -/
def TIM_TB_ADJ_PPB (n : Nat) : Fld := ⟨0x400A0024 + 16 * n, 0, 32, 0⟩
/-- R453 TIM_TB_STEP.NS: i32, R432. -/
def TIM_TB_STEP_NS (n : Nat) : Fld := ⟨0x400A0028 + 16 * n, 0, 32, 0⟩
/-- R453 TIM_TB_SNAP.NS: value at the last SNAP. -/
def TIM_TB_SNAP_NS (n : Nat) : Fld := ⟨0x400A002C + 16 * n, 0, 32, 0⟩
/-- R453 TIM_TTRG_CFG.TARGET: R442. -/
def TIM_TTRG_CFG_TARGET (k : Nat) : Fld := ⟨0x400A0080 + 16 * k, 0, 4, 0⟩
/-- R453 TIM_TTRG_CFG.BASE: 0 … 3. -/
def TIM_TTRG_CFG_BASE (k : Nat) : Fld := ⟨0x400A0080 + 16 * k, 4, 2, 0⟩
/-- R453 TIM_TTRG_CFG.EN: armed. -/
def TIM_TTRG_CFG_EN (k : Nat) : Fld := ⟨0x400A0080 + 16 * k, 8, 1, 0⟩
/-- R453 TIM_TTRG_CFG.HALF: NEXT is the midpoint of a period above 2³¹ − 1 ns (R440). -/
def TIM_TTRG_CFG_HALF (k : Nat) : Fld := ⟨0x400A0080 + 16 * k, 9, 1, 0⟩
/-- R453 TIM_TTRG_CFG.WIDTH_NS: R442. -/
def TIM_TTRG_CFG_WIDTH_NS (k : Nat) : Fld := ⟨0x400A0080 + 16 * k, 16, 16, 1000⟩
/-- R453 TIM_TTRG_PERIOD.NS: 1,000 … 4,000,000,000. -/
def TIM_TTRG_PERIOD_NS (k : Nat) : Fld := ⟨0x400A0084 + 16 * k, 0, 32, 0⟩
/-- R453 TIM_TTRG_PHASE.NS: kept for firmware (R441). -/
def TIM_TTRG_PHASE_NS (k : Nat) : Fld := ⟨0x400A0088 + 16 * k, 0, 32, 0⟩
/-- R453 TIM_TTRG_NEXT.NS: next firing. -/
def TIM_TTRG_NEXT_NS (k : Nat) : Fld := ⟨0x400A008C + 16 * k, 0, 32, 0⟩
/-- R453 TIM_TTRGCNT.FIRED: wraps. -/
def TIM_TTRGCNT_FIRED (k : Nat) : Fld := ⟨0x400A0100 + 4 * k, 0, 16, 0⟩
/-- R453 TIM_TTRGCNT.MISSED: saturating. -/
def TIM_TTRGCNT_MISSED (k : Nat) : Fld := ⟨0x400A0100 + 4 * k, 16, 16, 0⟩
/-- R453 TIM_INT.WRAP: R439. -/
def TIM_INT_WRAP : Fld := ⟨0x400A0200, 0, 4, 0⟩
/-- R453 TIM_INT.SWITCH: —. -/
def TIM_INT_SWITCH : Fld := ⟨0x400A0200, 4, 1, 0⟩
/-- R453 TIM_INT.LOSS_A: A ceased to be good. -/
def TIM_INT_LOSS_A : Fld := ⟨0x400A0200, 5, 1, 0⟩
/-- R453 TIM_INT.LOSS_B: B ceased to be good. -/
def TIM_INT_LOSS_B : Fld := ⟨0x400A0200, 6, 1, 0⟩
/-- R453 TIM_INT.HOLDOVER: —. -/
def TIM_INT_HOLDOVER : Fld := ⟨0x400A0200, 7, 1, 0⟩
/-- R453 TIM_INT.TTRG: trigger k fired. -/
def TIM_INT_TTRG : Fld := ⟨0x400A0200, 8, 8, 0⟩
/-- R453 TIM_INT.MISS: a trigger missed periods. -/
def TIM_INT_MISS : Fld := ⟨0x400A0200, 16, 1, 0⟩
/-- R453 TIM_INT.REFUSED: R432, R442. -/
def TIM_INT_REFUSED : Fld := ⟨0x400A0200, 17, 1, 0⟩
/-- R453 TIM_INT.CLAMP: a CLMP write was clamped. -/
def TIM_INT_CLAMP : Fld := ⟨0x400A0200, 18, 1, 0⟩
/-- R453 TIM_INTEN.EN: one enable per TIM_INT bit. -/
def TIM_INTEN_EN : Fld := ⟨0x400A0204, 0, 19, 0⟩
/-- R484 CRN_CTL.EN: Cairn runs on the line ports. -/
def CRN_CTL_EN : Fld := ⟨0x400B0000, 0, 1, 0⟩
/-- R484 CRN_CMD.RESTART: enter LISTEN. -/
def CRN_CMD_RESTART : Fld := ⟨0x400B0004, 0, 1, 0⟩
/-- R484 CRN_CMD.REVERT: R473; ignored unless HEAD. -/
def CRN_CMD_REVERT : Fld := ⟨0x400B0004, 1, 1, 0⟩
/-- R484 CRN_STAT.STATE: 0 DOWN, 1 LISTEN, 2 CLAIMING, 3 FOLLOW, 4 BACKOFF, 5 JOINING, 6 MEMBER, 7 HEAD. -/
def CRN_STAT_STATE : Fld := ⟨0x400B0008, 0, 3, 0⟩
/-- R484 CRN_STAT.COUNT: roster entries. -/
def CRN_STAT_COUNT : Fld := ⟨0x400B0008, 8, 8, 0⟩
/-- R484 CRN_STAT.EPOCH: current epoch. -/
def CRN_STAT_EPOCH : Fld := ⟨0x400B0008, 16, 16, 0⟩
/-- R484 CRN_HEADKEY.W: key of the current head. -/
def CRN_HEADKEY_W (k : Nat) : Fld := ⟨0x400B000C + 4 * k, 0, 32, 0⟩
/-- R484 CRN_SELF.RANK: own rank. -/
def CRN_SELF_RANK : Fld := ⟨0x400B0014, 0, 8, 255⟩
/-- R484 CRN_SELF.POSITION: own position. -/
def CRN_SELF_POSITION : Fld := ⟨0x400B0014, 8, 8, 255⟩
/-- R484 CRN_SELF.ACTING: acting for RANK. -/
def CRN_SELF_ACTING : Fld := ⟨0x400B0014, 16, 1, 0⟩
/-- R484 CRN_SUCC.W: successor's key. -/
def CRN_SUCC_W (k : Nat) : Fld := ⟨0x400B0018 + 4 * k, 0, 32, 0⟩
/-- R484 CRN_PRED.W: predecessor's key. -/
def CRN_PRED_W (k : Nat) : Fld := ⟨0x400B0020 + 4 * k, 0, 32, 0⟩
/-- R484 CRN_TIMER.HELLO_MS: 10 … 1,000. -/
def CRN_TIMER_HELLO_MS : Fld := ⟨0x400B0028, 0, 10, 100⟩
/-- R484 CRN_TIMER.ROSTER_MS: 100 … 1,000. -/
def CRN_TIMER_ROSTER_MS : Fld := ⟨0x400B0028, 16, 10, 1000⟩
/-- R484 CRN_RXWIN_BASELO.ADDR: tenant-local window base, low word. -/
def CRN_RXWIN_BASELO_ADDR (k : Nat) : Fld := ⟨0x400B0030 + 16 * k, 0, 32, 0⟩
/-- R484 CRN_RXWIN_BASEHI.ADDR: tenant-local window base, high word. -/
def CRN_RXWIN_BASEHI_ADDR (k : Nat) : Fld := ⟨0x400B0034 + 16 * k, 0, 32, 0⟩
/-- R484 CRN_RXWIN_SIZE.BYTES: 0 disables KIND k. -/
def CRN_RXWIN_SIZE_BYTES (k : Nat) : Fld := ⟨0x400B0038 + 16 * k, 0, 27, 0⟩
/-- R484 CRN_TXQ_BASE.ADDR: as NET_RXQq. -/
def CRN_TXQ_BASE_ADDR : Fld := ⟨0x400B0080, 0, 32, 0⟩
/-- R484 CRN_TXQ_SIZE.N: as NET_RXQq. -/
def CRN_TXQ_SIZE_N : Fld := ⟨0x400B0084, 0, 11, 16⟩
/-- R484 CRN_TXQ_SIZE.EN: as NET_RXQq. -/
def CRN_TXQ_SIZE_EN : Fld := ⟨0x400B0084, 31, 1, 0⟩
/-- R484 CRN_TXQ_TAIL.TAIL: as NET_RXQq. -/
def CRN_TXQ_TAIL_TAIL : Fld := ⟨0x400B0088, 0, 10, 0⟩
/-- R484 CRN_TXQ_HEAD.HEAD: as NET_RXQq. -/
def CRN_TXQ_HEAD_HEAD : Fld := ⟨0x400B008C, 0, 10, 0⟩
/-- R484 CRN_TXQ_HEAD.DROP: as NET_RXQq. -/
def CRN_TXQ_HEAD_DROP : Fld := ⟨0x400B008C, 16, 16, 0⟩
/-- R484 CRN_MRX_BASE.ADDR: as NET_RXQq. -/
def CRN_MRX_BASE_ADDR : Fld := ⟨0x400B0090, 0, 32, 0⟩
/-- R484 CRN_MRX_SIZE.N: as NET_RXQq. -/
def CRN_MRX_SIZE_N : Fld := ⟨0x400B0094, 0, 11, 16⟩
/-- R484 CRN_MRX_SIZE.EN: as NET_RXQq. -/
def CRN_MRX_SIZE_EN : Fld := ⟨0x400B0094, 31, 1, 0⟩
/-- R484 CRN_MRX_TAIL.TAIL: as NET_RXQq. -/
def CRN_MRX_TAIL_TAIL : Fld := ⟨0x400B0098, 0, 10, 0⟩
/-- R484 CRN_MRX_HEAD.HEAD: as NET_RXQq. -/
def CRN_MRX_HEAD_HEAD : Fld := ⟨0x400B009C, 0, 10, 0⟩
/-- R484 CRN_MRX_HEAD.DROP: as NET_RXQq. -/
def CRN_MRX_HEAD_DROP : Fld := ⟨0x400B009C, 16, 16, 0⟩
/-- R484 CRN_MTX_BASE.ADDR: as NET_RXQq. -/
def CRN_MTX_BASE_ADDR : Fld := ⟨0x400B00A0, 0, 32, 0⟩
/-- R484 CRN_MTX_SIZE.N: as NET_RXQq. -/
def CRN_MTX_SIZE_N : Fld := ⟨0x400B00A4, 0, 11, 16⟩
/-- R484 CRN_MTX_SIZE.EN: as NET_RXQq. -/
def CRN_MTX_SIZE_EN : Fld := ⟨0x400B00A4, 31, 1, 0⟩
/-- R484 CRN_MTX_TAIL.TAIL: as NET_RXQq. -/
def CRN_MTX_TAIL_TAIL : Fld := ⟨0x400B00A8, 0, 10, 0⟩
/-- R484 CRN_MTX_HEAD.HEAD: as NET_RXQq. -/
def CRN_MTX_HEAD_HEAD : Fld := ⟨0x400B00AC, 0, 10, 0⟩
/-- R484 CRN_MTX_HEAD.DROP: as NET_RXQq. -/
def CRN_MTX_HEAD_DROP : Fld := ⟨0x400B00AC, 16, 16, 0⟩
/-- R484 CRN_CNT.YIELDS: saturating. -/
def CRN_CNT_YIELDS : Fld := ⟨0x400B00C0, 0, 8, 0⟩
/-- R484 CRN_CNT.STALE: saturating. -/
def CRN_CNT_STALE : Fld := ⟨0x400B00C0, 8, 8, 0⟩
/-- R484 CRN_CNT.RXEXPIRED: saturating. -/
def CRN_CNT_RXEXPIRED : Fld := ⟨0x400B00C0, 16, 8, 0⟩
/-- R484 CRN_CNT.XFAIL: saturating. -/
def CRN_CNT_XFAIL : Fld := ⟨0x400B00C0, 24, 8, 0⟩
/-- R484 CRN_VIOL.COUNT: saturating. -/
def CRN_VIOL_COUNT : Fld := ⟨0x400B00C4, 0, 16, 0⟩
/-- R484 CRN_VIOL.LOOPS: saturating. -/
def CRN_VIOL_LOOPS : Fld := ⟨0x400B00C4, 16, 8, 0⟩
/-- R484 CRN_ROSTER.W: roster entries as R464 lays them out. -/
def CRN_ROSTER_W (k : Nat) : Fld := ⟨0x400B0100 + 4 * k, 0, 32, 0⟩
/-- R484 CRN_INT.STATE: node state changed. -/
def CRN_INT_STATE : Fld := ⟨0x400B0800, 0, 1, 0⟩
/-- R484 CRN_INT.ROSTER: new epoch. -/
def CRN_INT_ROSTER : Fld := ⟨0x400B0800, 1, 1, 0⟩
/-- R484 CRN_INT.MSG: message or completion in CRN_MRX. -/
def CRN_INT_MSG : Fld := ⟨0x400B0800, 2, 1, 0⟩
/-- R484 CRN_INT.TXDONE: send descriptor completed. -/
def CRN_INT_TXDONE : Fld := ⟨0x400B0800, 3, 1, 0⟩
/-- R484 CRN_INT.XFAIL: —. -/
def CRN_INT_XFAIL : Fld := ⟨0x400B0800, 4, 1, 0⟩
/-- R484 CRN_INT.RINGERR: —. -/
def CRN_INT_RINGERR : Fld := ⟨0x400B0800, 5, 1, 0⟩
/-- R484 CRN_INT.CLAMP: a CLMP write was clamped. -/
def CRN_INT_CLAMP : Fld := ⟨0x400B0800, 6, 1, 0⟩
/-- R484 CRN_INTEN.EN: one enable per CRN_INT bit. -/
def CRN_INTEN_EN : Fld := ⟨0x400B0804, 0, 7, 0⟩
/-- R369 LUX_CTL.CH_EN: LIGHT.CH_EN. -/
def LUX_CTL_CH_EN : Fld := ⟨0x400C0000, 0, 2, 3⟩
/-- R369 LUX_CTL.FAILOVER: LIGHT.FAILOVER. -/
def LUX_CTL_FAILOVER : Fld := ⟨0x400C0000, 2, 1, 1⟩
/-- R369 LUX_CFG0.FLOOR_OCC: 10 … 100 %. -/
def LUX_CFG0_FLOOR_OCC : Fld := ⟨0x400C0004, 0, 8, 100⟩
/-- R369 LUX_CFG0.FLOOR_DARK: 1 … 100 %. -/
def LUX_CFG0_FLOOR_DARK : Fld := ⟨0x400C0004, 8, 8, 30⟩
/-- R369 LUX_CFG0.DIM_RATE: 1 … 50 %/s. -/
def LUX_CFG0_DIM_RATE : Fld := ⟨0x400C0004, 16, 8, 10⟩
/-- R369 LUX_CFG0.FAILOVER_LEVEL: 10 … 100 %. -/
def LUX_CFG0_FAILOVER_LEVEL : Fld := ⟨0x400C0004, 24, 8, 100⟩
/-- R369 LUX_CFG1.RAMP_UP: 10 … 1,000 %/s. -/
def LUX_CFG1_RAMP_UP : Fld := ⟨0x400C0008, 0, 10, 200⟩
/-- R369 LUX_CFG1.ZONES: 1 … 8. -/
def LUX_CFG1_ZONES : Fld := ⟨0x400C0008, 16, 4, 1⟩
/-- R369 LUX_CFG1.DARK_SRC: LIGHT.DARK_SRC. -/
def LUX_CFG1_DARK_SRC : Fld := ⟨0x400C0008, 20, 2, 2⟩
/-- R369 LUX_CFG1.DARK_LUX: 1 … 200 lx. -/
def LUX_CFG1_DARK_LUX : Fld := ⟨0x400C0008, 24, 8, 20⟩
/-- R369 LUX_CH.I_MAX_MA: 100 … 3,000. -/
def LUX_CH_I_MAX_MA (c : Nat) : Fld := ⟨0x400C0010 + 32 * c, 0, 12, 700⟩
/-- R369 LUX_CH.OC_MA: 110 … 3,300. -/
def LUX_CH_OC_MA (c : Nat) : Fld := ⟨0x400C0010 + 32 * c, 16, 12, 1000⟩
/-- R369 LUX_GATE.SLOPE: gate source current 0.1875 × (SLOPE + 1) A (R330). -/
def LUX_GATE_SLOPE (c : Nat) : Fld := ⟨0x400C0014 + 32 * c, 0, 3, 3⟩
/-- R369 LUX_GATE.LEB_NS: 100 … 400. -/
def LUX_GATE_LEB_NS (c : Nat) : Fld := ⟨0x400C0014 + 32 * c, 4, 9, 200⟩
/-- R369 LUX_ST.STATE: 0 OFF, 1 RUN, 2 FAULT_SC, 3 FAULT_OC, 4 FAULT_UV, 5 LATCHED. -/
def LUX_ST_STATE (c : Nat) : Fld := ⟨0x400C0018 + 32 * c, 0, 3, 0⟩
/-- R369 LUX_ST.FAILOVER: failover active on this channel. -/
def LUX_ST_FAILOVER (c : Nat) : Fld := ⟨0x400C0018 + 32 * c, 3, 1, 0⟩
/-- R369 LUX_ST.PHASE: phase of the last trip: 1 RAMP, 2 ON. -/
def LUX_ST_PHASE (c : Nat) : Fld := ⟨0x400C0018 + 32 * c, 4, 2, 0⟩
/-- R369 LUX_ST.RETRIES: retries in the last 1 s. -/
def LUX_ST_RETRIES (c : Nat) : Fld := ⟨0x400C0018 + 32 * c, 6, 2, 0⟩
/-- R369 LUX_ST.CAUSE: latch cause: 1 SC, 2 OC, 3 OPEN, 4 STR, 5 MON. -/
def LUX_ST_CAUSE (c : Nat) : Fld := ⟨0x400C0018 + 32 * c, 8, 4, 0⟩
/-- R369 LUX_ST.LEVEL: level applied. -/
def LUX_ST_LEVEL (c : Nat) : Fld := ⟨0x400C0018 + 32 * c, 16, 10, 0⟩
/-- R369 LUX_MEAS.I_AVG_MA: average current. -/
def LUX_MEAS_I_AVG_MA (c : Nat) : Fld := ⟨0x400C001C + 32 * c, 0, 12, 0⟩
/-- R369 LUX_MEAS.VSTR: string-voltage code. -/
def LUX_MEAS_VSTR (c : Nat) : Fld := ⟨0x400C001C + 32 * c, 16, 12, 0⟩
/-- R369 LUX_STR.OV_CODE: open-string threshold. -/
def LUX_STR_OV_CODE (c : Nat) : Fld := ⟨0x400C0020 + 32 * c, 0, 12, 4095⟩
/-- R369 LUX_STR.UV_CODE: shorted-string threshold. -/
def LUX_STR_UV_CODE (c : Nat) : Fld := ⟨0x400C0020 + 32 * c, 16, 12, 0⟩
/-- R369 LUX_LEVEL.TARGET: T. -/
def LUX_LEVEL_TARGET : Fld := ⟨0x400C0100, 0, 10, 0⟩
/-- R369 LUX_LEVEL.OUT: o >> 24. -/
def LUX_LEVEL_OUT : Fld := ⟨0x400C0100, 16, 10, 0⟩
/-- R369 LUX_ZREQ.REQ: 0 … 1,000. -/
def LUX_ZREQ_REQ (z : Nat) : Fld := ⟨0x400C0104 + 4 * z, 0, 10, 0⟩
/-- R369 LUX_DARK.LUXIN: ambient light, lx. -/
def LUX_DARK_LUXIN : Fld := ⟨0x400C0140, 0, 16, 0⟩
/-- R369 LUX_DARK.SCHED: schedule says dark. -/
def LUX_DARK_SCHED : Fld := ⟨0x400C0140, 16, 1, 1⟩
/-- R369 LUX_DARK.DARK: R331 result. -/
def LUX_DARK_DARK : Fld := ⟨0x400C0140, 17, 1, 1⟩
/-- R369 LUX_DARK.LUXIN_TO: sensor refresh missed. -/
def LUX_DARK_LUXIN_TO : Fld := ⟨0x400C0140, 18, 1, 1⟩
/-- R369 LUX_DARK.SCHED_TO: schedule refresh missed. -/
def LUX_DARK_SCHED_TO : Fld := ⟨0x400C0140, 19, 1, 1⟩
/-- R369 LUX_DARK.PIR: PIR demand or 10 s hold. -/
def LUX_DARK_PIR : Fld := ⟨0x400C0140, 20, 1, 0⟩
/-- R369 LUX_INT.SC: —. -/
def LUX_INT_SC : Fld := ⟨0x400C0200, 0, 1, 0⟩
/-- R369 LUX_INT.OC: —. -/
def LUX_INT_OC : Fld := ⟨0x400C0200, 1, 1, 0⟩
/-- R369 LUX_INT.LATCHED: —. -/
def LUX_INT_LATCHED : Fld := ⟨0x400C0200, 2, 1, 0⟩
/-- R369 LUX_INT.FAILOVER: —. -/
def LUX_INT_FAILOVER : Fld := ⟨0x400C0200, 3, 1, 0⟩
/-- R369 LUX_INT.STRING: open or shorted string. -/
def LUX_INT_STRING : Fld := ⟨0x400C0200, 4, 1, 0⟩
/-- R369 LUX_INT.MON: —. -/
def LUX_INT_MON : Fld := ⟨0x400C0200, 5, 1, 0⟩
/-- R369 LUX_INT.PREEMPT: —. -/
def LUX_INT_PREEMPT : Fld := ⟨0x400C0200, 6, 1, 0⟩
/-- R369 LUX_INT.DARK: darkness changed. -/
def LUX_INT_DARK : Fld := ⟨0x400C0200, 7, 1, 0⟩
/-- R369 LUX_INT.SFL1: —. -/
def LUX_INT_SFL1 : Fld := ⟨0x400C0200, 8, 1, 0⟩
/-- R369 LUX_INT.CLAMP: a CLMP write was clamped. -/
def LUX_INT_CLAMP : Fld := ⟨0x400C0200, 9, 1, 0⟩
/-- R369 LUX_INTEN.EN: one enable per LUX_INT bit. -/
def LUX_INTEN_EN : Fld := ⟨0x400C0204, 0, 10, 0⟩
/-- R370 TLT_CTL.HOME: start homing (R345). -/
def TLT_CTL_HOME : Fld := ⟨0x400D0000, 0, 1, 0⟩
/-- R370 TLT_CTL.STOP: controlled stop, then READY. -/
def TLT_CTL_STOP : Fld := ⟨0x400D0000, 1, 1, 0⟩
/-- R370 TLT_TARGET.COUNT: target, i32 (R347). -/
def TLT_TARGET_COUNT : Fld := ⟨0x400D0004, 0, 32, 0⟩
/-- R370 TLT_SPEED.CPS: 1 … SLS_CPS. -/
def TLT_SPEED_CPS : Fld := ⟨0x400D0008, 0, 16, 100⟩
/-- R370 TLT_STATE.STATE: 0 STO, 1 HOMING, 2 READY, 3 MOVING, 4 FAULT. -/
def TLT_STATE_STATE : Fld := ⟨0x400D000C, 0, 3, 0⟩
/-- R370 TLT_STATE.CAUSE: event ID low byte of the last violation. -/
def TLT_STATE_CAUSE : Fld := ⟨0x400D000C, 8, 8, 0⟩
/-- R370 TLT_STATE.HOMED: —. -/
def TLT_STATE_HOMED : Fld := ⟨0x400D000C, 16, 1, 0⟩
/-- R370 TLT_POS.COUNT: encoder count, i32. -/
def TLT_POS_COUNT : Fld := ⟨0x400D0010, 0, 32, 0⟩
/-- R370 TLT_VEL.CPS: counts/s in the last 10 ms window, i32. -/
def TLT_VEL_CPS : Fld := ⟨0x400D0014, 0, 32, 0⟩
/-- R370 TLT_POT.CODE: pot code. -/
def TLT_POT_CODE : Fld := ⟨0x400D0018, 0, 12, 0⟩
/-- R370 TLT_POT.PRED: prediction (R346). -/
def TLT_POT_PRED : Fld := ⟨0x400D0018, 16, 12, 0⟩
/-- R370 TLT_HOME0.POT_LO: —. -/
def TLT_HOME0_POT_LO : Fld := ⟨0x400D001C, 0, 12, 0⟩
/-- R370 TLT_HOME0.POT_HI: —. -/
def TLT_HOME0_POT_HI : Fld := ⟨0x400D001C, 16, 12, 0⟩
/-- R370 TLT_HOME1.COUNT_HI: i32. -/
def TLT_HOME1_COUNT_HI : Fld := ⟨0x400D0020, 0, 32, 0⟩
/-- R370 TLT_IDX.Z0: —. -/
def TLT_IDX_Z0 : Fld := ⟨0x400D0024, 0, 16, 0⟩
/-- R370 TLT_IDX.ZP: —. -/
def TLT_IDX_ZP : Fld := ⟨0x400D0024, 16, 16, 0⟩
/-- R370 TLT_CFG.SLS_CPS: 10 … 20,000. -/
def TLT_CFG_SLS_CPS : Fld := ⟨0x400D0028, 0, 16, 2000⟩
/-- R370 TLT_CFG.POT_TOL: 1 … 4,095. -/
def TLT_CFG_POT_TOL : Fld := ⟨0x400D0028, 16, 12, 64⟩
/-- R370 TLT_CFG.SDI: TILT.SDI. -/
def TLT_CFG_SDI : Fld := ⟨0x400D0028, 28, 2, 0⟩
/-- R370 TLT_CFG.ENABLE: TILT.ENABLE. -/
def TLT_CFG_ENABLE : Fld := ⟨0x400D0028, 31, 1, 0⟩
/-- R370 TLT_SLPLO.COUNT: i32. -/
def TLT_SLPLO_COUNT : Fld := ⟨0x400D002C, 0, 32, 0⟩
/-- R370 TLT_SLPHI.COUNT: i32. -/
def TLT_SLPHI_COUNT : Fld := ⟨0x400D0030, 0, 32, 0⟩
/-- R370 TLT_DRV.ILIM_MA: 100 … 4,000. -/
def TLT_DRV_ILIM_MA : Fld := ⟨0x400D0034, 0, 12, 2000⟩
/-- R370 TLT_INT.STO: STO entered. -/
def TLT_INT_STO : Fld := ⟨0x400D0200, 0, 1, 0⟩
/-- R370 TLT_INT.VIOL: R346 violation. -/
def TLT_INT_VIOL : Fld := ⟨0x400D0200, 1, 1, 0⟩
/-- R370 TLT_INT.HOMED: —. -/
def TLT_INT_HOMED : Fld := ⟨0x400D0200, 2, 1, 0⟩
/-- R370 TLT_INT.HOMEFAIL: —. -/
def TLT_INT_HOMEFAIL : Fld := ⟨0x400D0200, 3, 1, 0⟩
/-- R370 TLT_INT.REFUSED: R347. -/
def TLT_INT_REFUSED : Fld := ⟨0x400D0200, 4, 1, 0⟩
/-- R370 TLT_INT.CLAMP: —. -/
def TLT_INT_CLAMP : Fld := ⟨0x400D0200, 5, 1, 0⟩
/-- R370 TLT_INTEN.EN: one enable per TLT_INT bit. -/
def TLT_INTEN_EN : Fld := ⟨0x400D0204, 0, 6, 0⟩
/-- R371 SIO_SAFECTL.ARM_A: energise SAFE_A (R353). -/
def SIO_SAFECTL_ARM_A : Fld := ⟨0x400E0000, 0, 1, 0⟩
/-- R371 SIO_SAFECTL.TRIP_A: firmware trip of SAFE_A. -/
def SIO_SAFECTL_TRIP_A : Fld := ⟨0x400E0000, 1, 1, 0⟩
/-- R371 SIO_SAFECTL.ARM_B: energise SAFE_B. -/
def SIO_SAFECTL_ARM_B : Fld := ⟨0x400E0000, 2, 1, 0⟩
/-- R371 SIO_SAFECTL.TRIP_B: firmware trip of SAFE_B. -/
def SIO_SAFECTL_TRIP_B : Fld := ⟨0x400E0000, 3, 1, 0⟩
/-- R371 SIO_SAFECTL.ON_A: SAFE_A energised. -/
def SIO_SAFECTL_ON_A : Fld := ⟨0x400E0000, 8, 1, 0⟩
/-- R371 SIO_SAFECTL.ON_B: SAFE_B energised. -/
def SIO_SAFECTL_ON_B : Fld := ⟨0x400E0000, 9, 1, 0⟩
/-- R371 SIO_TRIP.LATCHED: bits of R352, latched. -/
def SIO_TRIP_LATCHED : Fld := ⟨0x400E0004, 0, 13, 0⟩
/-- R371 SIO_TRIPNOW.ACTIVE: sources asserting now. -/
def SIO_TRIPNOW_ACTIVE : Fld := ⟨0x400E0008, 0, 13, 0⟩
/-- R371 SIO_IN.A: contact A, 1 closed. -/
def SIO_IN_A (n : Nat) : Fld := ⟨0x400E000C, 2 * n, 1, 0⟩
/-- R371 SIO_IN.B: contact B. -/
def SIO_IN_B (n : Nat) : Fld := ⟨0x400E000C, 1 + 2 * n, 1, 0⟩
/-- R371 SIO_IN.STATE: 0 clear, 1 demand, 2 fault. -/
def SIO_IN_STATE (n : Nat) : Fld := ⟨0x400E000C, 16 + 2 * n, 2, 0⟩
/-- R371 SIO_PAIRFLT.CODE: 0 none, 1 STUCK, 2 XSHORT, 3 DISCREP. -/
def SIO_PAIRFLT_CODE (n : Nat) : Fld := ⟨0x400E0010, 4 * n, 4, 0⟩
/-- R371 SIO_TPCFG.TP_PERIOD_MS: 1 … 100. -/
def SIO_TPCFG_TP_PERIOD_MS : Fld := ⟨0x400E0014, 0, 8, 10⟩
/-- R371 SIO_TPCFG.TP_WIDTH_US: 100 … 1,000. -/
def SIO_TPCFG_TP_WIDTH_US : Fld := ⟨0x400E0014, 16, 10, 200⟩
/-- R371 SIO_OFFTEST.OFFTEST_US: 20 … 500. -/
def SIO_OFFTEST_OFFTEST_US : Fld := ⟨0x400E0018, 0, 9, 100⟩
/-- R371 SIO_DISC01.DISCREP_MS: 5 … 500. -/
def SIO_DISC01_DISCREP_MS (n : Nat) : Fld := ⟨0x400E001C, 16 * n, 9, 20⟩
/-- R371 SIO_DISC23.DISCREP_MS: 5 … 500. -/
def SIO_DISC23_DISCREP_MS (n : Nat) : Fld := ⟨0x400E0020, 16 * n, 9, 20⟩
/-- R371 SIO_USE.ROLE: SAFEIO.SIN_USE. -/
def SIO_USE_ROLE (n : Nat) : Fld := ⟨0x400E0024, 4 * n, 3, ([1, 2, 3, 0].getD n 0)⟩
/-- R371 SIO_RST.WIN_MS: 50 … 2,000. -/
def SIO_RST_WIN_MS : Fld := ⟨0x400E0028, 0, 11, 500⟩
/-- R371 SIO_RST.ACCEPTED: saturating. -/
def SIO_RST_ACCEPTED : Fld := ⟨0x400E0028, 16, 8, 0⟩
/-- R371 SIO_RST.REJECTED: saturating. -/
def SIO_RST_REJECTED : Fld := ⟨0x400E0028, 24, 8, 0⟩
/-- R371 SIO_INT.TRIP: an output tripped. -/
def SIO_INT_TRIP : Fld := ⟨0x400E0200, 0, 1, 0⟩
/-- R371 SIO_INT.PAIRFLT: —. -/
def SIO_INT_PAIRFLT : Fld := ⟨0x400E0200, 1, 1, 0⟩
/-- R371 SIO_INT.DEMAND: a pair changed demand. -/
def SIO_INT_DEMAND : Fld := ⟨0x400E0200, 2, 1, 0⟩
/-- R371 SIO_INT.RESET: safety reset accepted. -/
def SIO_INT_RESET : Fld := ⟨0x400E0200, 3, 1, 0⟩
/-- R371 SIO_INT.RSTREJ: —. -/
def SIO_INT_RSTREJ : Fld := ⟨0x400E0200, 4, 1, 0⟩
/-- R371 SIO_INT.ARMREFUSED: R353. -/
def SIO_INT_ARMREFUSED : Fld := ⟨0x400E0200, 5, 1, 0⟩
/-- R371 SIO_INT.CLAMP: —. -/
def SIO_INT_CLAMP : Fld := ⟨0x400E0200, 6, 1, 0⟩
/-- R371 SIO_INT.CFGREFUSED: SIO_TPCFG write refused (R349). -/
def SIO_INT_CFGREFUSED : Fld := ⟨0x400E0200, 7, 1, 0⟩
/-- R371 SIO_INTEN.EN: one enable per SIO_INT bit. -/
def SIO_INTEN_EN : Fld := ⟨0x400E0204, 0, 8, 0⟩
/-- R611 EVL_CTL.LOG_MODE: 0 WRAP, 1 STOP. -/
def EVL_CTL_LOG_MODE : Fld := ⟨0x400F0000, 0, 1, 0⟩
/-- R611 EVL_CTL.PERSIST: LOG.PERSIST. -/
def EVL_CTL_PERSIST : Fld := ⟨0x400F0000, 4, 4, 0⟩
/-- R611 EVL_WR.SLOT: next slot written. -/
def EVL_WR_SLOT : Fld := ⟨0x400F0004, 0, 11, 0⟩
/-- R611 EVL_SEQ.NEXT: next SEQ. -/
def EVL_SEQ_NEXT : Fld := ⟨0x400F0008, 0, 32, 0⟩
/-- R611 EVL_RD.SLOT: release point (R593). -/
def EVL_RD_SLOT : Fld := ⟨0x400F000C, 0, 11, 0⟩
/-- R611 EVL_LOST01.SAFETY: saturating. -/
def EVL_LOST01_SAFETY : Fld := ⟨0x400F0010, 0, 16, 0⟩
/-- R611 EVL_LOST01.FAULT: saturating. -/
def EVL_LOST01_FAULT : Fld := ⟨0x400F0010, 16, 16, 0⟩
/-- R611 EVL_LOST23.WARN: saturating. -/
def EVL_LOST23_WARN : Fld := ⟨0x400F0014, 0, 16, 0⟩
/-- R611 EVL_LOST23.INFO: saturating. -/
def EVL_LOST23_INFO : Fld := ⟨0x400F0014, 16, 16, 0⟩
/-- R611 EVL_Q.LEVEL: queued events. -/
def EVL_Q_LEVEL : Fld := ⟨0x400F0018, 0, 7, 0⟩
/-- R611 EVL_Q.MAX: highest level since read. -/
def EVL_Q_MAX : Fld := ⟨0x400F0018, 8, 7, 0⟩
/-- R611 EVL_Q.OPEN: open coalescing entries. -/
def EVL_Q_OPEN : Fld := ⟨0x400F0018, 16, 5, 0⟩
/-- R611 EVL_CNT.OVWR: saturating. -/
def EVL_CNT_OVWR : Fld := ⟨0x400F001C, 0, 16, 0⟩
/-- R611 EVL_CNT.ADBAD: saturating. -/
def EVL_CNT_ADBAD : Fld := ⟨0x400F001C, 16, 16, 0⟩
/-- R611 EVL_PST.BUSY: page in progress. -/
def EVL_PST_BUSY : Fld := ⟨0x400F0020, 0, 1, 0⟩
/-- R611 EVL_PST.PAGE: next page, 0 … 255. -/
def EVL_PST_PAGE : Fld := ⟨0x400F0020, 1, 8, 0⟩
/-- R611 EVL_PST.FAILS: consecutive failures. -/
def EVL_PST_FAILS : Fld := ⟨0x400F0020, 9, 2, 0⟩
/-- R611 EVL_PST.STOPPED: R597. -/
def EVL_PST_STOPPED : Fld := ⟨0x400F0020, 11, 1, 0⟩
/-- R611 EVL_PST.PAGES: pages written, wraps. -/
def EVL_PST_PAGES : Fld := ⟨0x400F0020, 16, 16, 0⟩
/-- R611 EVL_PCFG.FLUSH_MS: 10 … 60,000. -/
def EVL_PCFG_FLUSH_MS : Fld := ⟨0x400F0024, 0, 16, 1000⟩
/-- R611 EVL_CMD.PRESTART: resume persistence. -/
def EVL_CMD_PRESTART : Fld := ⟨0x400F0028, 0, 1, 0⟩
/-- R611 EVL_CMD.FLUSH: persist now. -/
def EVL_CMD_FLUSH : Fld := ⟨0x400F0028, 1, 1, 0⟩
/-- R611 EVL_SWEV.IDLO: 0x80 … 0xFF. -/
def EVL_SWEV_IDLO : Fld := ⟨0x400F002C, 0, 8, 0⟩
/-- R611 EVL_SWEV.CLASS: 1 … 3. -/
def EVL_SWEV_CLASS : Fld := ⟨0x400F002C, 8, 2, 0⟩
/-- R611 EVL_SWEV.GO: raise the event. -/
def EVL_SWEV_GO : Fld := ⟨0x400F002C, 31, 1, 0⟩
/-- R611 EVL_SWARG.ARG0: —. -/
def EVL_SWARG_ARG0 : Fld := ⟨0x400F0030, 0, 32, 0⟩
/-- R611 EVL_IRQROUTE.C1: bit n: line n to C1 in split mode. -/
def EVL_IRQROUTE_C1 : Fld := ⟨0x400F0040, 0, 25, 0⟩
/-- R611 EVL_IRQPEND.LINE: line n asserted. -/
def EVL_IRQPEND_LINE : Fld := ⟨0x400F0044, 0, 25, 0⟩
/-- R611 EVL_NEWCLASS.CLASS: R603. -/
def EVL_NEWCLASS_CLASS : Fld := ⟨0x400F0048, 0, 2, 1⟩
/-- R611 EVL_INT.NEW: R603. -/
def EVL_INT_NEW : Fld := ⟨0x400F0200, 0, 1, 0⟩
/-- R611 EVL_INT.LOST: an event was lost. -/
def EVL_INT_LOST : Fld := ⟨0x400F0200, 1, 1, 0⟩
/-- R611 EVL_INT.PDONE: page persisted. -/
def EVL_INT_PDONE : Fld := ⟨0x400F0200, 2, 1, 0⟩
/-- R611 EVL_INT.PFAIL: R597. -/
def EVL_INT_PFAIL : Fld := ⟨0x400F0200, 3, 1, 0⟩
/-- R611 EVL_INT.OVWR: R594. -/
def EVL_INT_OVWR : Fld := ⟨0x400F0200, 4, 1, 0⟩
/-- R611 EVL_INT.RAMERR: uncorrectable log RAM error. -/
def EVL_INT_RAMERR : Fld := ⟨0x400F0200, 5, 1, 0⟩
/-- R611 EVL_INT.ADBAD: R610. -/
def EVL_INT_ADBAD : Fld := ⟨0x400F0200, 6, 1, 0⟩
/-- R611 EVL_INT.REFUSED: R604. -/
def EVL_INT_REFUSED : Fld := ⟨0x400F0200, 7, 1, 0⟩
/-- R611 EVL_INT.CLAMP: a CLMP write was clamped. -/
def EVL_INT_CLAMP : Fld := ⟨0x400F0200, 8, 1, 0⟩
/-- R611 EVL_INTEN.EN: one enable per EVL_INT bit. -/
def EVL_INTEN_EN : Fld := ⟨0x400F0204, 0, 9, 0⟩
/-- R68b LCK_PW.BYTES: password; byte 0 in LCK_PW0[7:0]. -/
def LCK_PW_BYTES (k : Nat) : Fld := ⟨0x40100000 + 4 * k, 0, 32, 0⟩
/-- R68b LCK_PWCTL.LEN: 8 … 32. -/
def LCK_PWCTL_LEN : Fld := ⟨0x40100020, 0, 6, 0⟩
/-- R68b LCK_PWCTL.GO: start the verification; ≤ 50 ms. -/
def LCK_PWCTL_GO : Fld := ⟨0x40100020, 31, 1, 0⟩
/-- R68b LCK_AUTH.SESSION: a session is open. -/
def LCK_AUTH_SESSION : Fld := ⟨0x40100024, 0, 1, 0⟩
/-- R68b LCK_AUTH.BUSY: verification running. -/
def LCK_AUTH_BUSY : Fld := ⟨0x40100024, 1, 1, 0⟩
/-- R68b LCK_AUTH.FAILS: 0 … 5. -/
def LCK_AUTH_FAILS : Fld := ⟨0x40100024, 2, 3, 0⟩
/-- R68b LCK_AUTH.LOCKED: lockout running. -/
def LCK_AUTH_LOCKED : Fld := ⟨0x40100024, 5, 1, 0⟩
/-- R68b LCK_AUTH.REMAIN_S: lockout seconds left, 0 … 900. -/
def LCK_AUTH_REMAIN_S : Fld := ⟨0x40100024, 6, 10, 0⟩
/-- R68b LCK_AUTH.WINDOW_S: session seconds left. -/
def LCK_AUTH_WINDOW_S : Fld := ⟨0x40100024, 16, 12, 0⟩
/-- R68b LCK_AUTHEND.END: end the session. -/
def LCK_AUTHEND_END : Fld := ⟨0x40100028, 0, 1, 0⟩
/-- R68b LCK_KEY.BLOCK: block number, 0 SYS … 24 ADC, in address-map order. -/
def LCK_KEY_BLOCK : Fld := ⟨0x4010002C, 0, 5, 0⟩
/-- R68b LCK_KEY.OPEN: 1 open, 0 close. -/
def LCK_KEY_OPEN : Fld := ⟨0x4010002C, 8, 1, 0⟩
/-- R68b LCK_KEY.CODE: must be 0xC1A0. -/
def LCK_KEY_CODE : Fld := ⟨0x4010002C, 16, 16, 0⟩
/-- R68b LCK_KEYST.OPEN: one bit per block key. -/
def LCK_KEYST_OPEN : Fld := ⟨0x40100030, 0, 25, 0⟩
/-- R68b LCK_OTP.INT1_PROG: slot 1 programmed. -/
def LCK_OTP_INT1_PROG : Fld := ⟨0x40100034, 0, 1, 0⟩
/-- R68b LCK_OTP.INT1_REV: slot 1 revoked: REVOKE flag burnt, or hash copies disagree (R375). -/
def LCK_OTP_INT1_REV : Fld := ⟨0x40100034, 1, 1, 0⟩
/-- R68b LCK_OTP.INT2_PROG: slot 2 programmed. -/
def LCK_OTP_INT2_PROG : Fld := ⟨0x40100034, 2, 1, 0⟩
/-- R68b LCK_OTP.INT2_REV: slot 2 revoked: REVOKE flag burnt, or hash copies disagree (R375). -/
def LCK_OTP_INT2_REV : Fld := ⟨0x40100034, 3, 1, 0⟩
/-- R68b LCK_OTP.ROOT_OK: root hash readable. -/
def LCK_OTP_ROOT_OK : Fld := ⟨0x40100034, 4, 1, 0⟩
/-- R68b LCK_INT.AUTHDONE: verification succeeded. -/
def LCK_INT_AUTHDONE : Fld := ⟨0x40100038, 0, 1, 0⟩
/-- R68b LCK_INT.AUTHFAIL: verification failed or refused. -/
def LCK_INT_AUTHFAIL : Fld := ⟨0x40100038, 1, 1, 0⟩
/-- R68b LCK_INT.LOCKOUT: lockout began. -/
def LCK_INT_LOCKOUT : Fld := ⟨0x40100038, 2, 1, 0⟩
/-- R68b LCK_INT.KEYVIOL: RWK write refused, key open refused, or LCK_KEY write without the code or with a block above 24 (R57). -/
def LCK_INT_KEYVIOL : Fld := ⟨0x40100038, 3, 1, 0⟩
/-- R68b LCK_INTEN.EN: one enable per LCK_INT bit; the LCK interrupt line follows R602. -/
def LCK_INTEN_EN : Fld := ⟨0x4010003C, 0, 4, 0⟩
/-- R583 THM_CTL.EN: THM acts. -/
def THM_CTL_EN : Fld := ⟨0x40110000, 0, 1, 1⟩
/-- R583 THM_CTL.FORECAST: THERMAL.FORECAST. -/
def THM_CTL_FORECAST : Fld := ⟨0x40110000, 1, 1, 0⟩
/-- R583 THM_CMD.STEP: start a step test. -/
def THM_CMD_STEP : Fld := ⟨0x40110004, 0, 1, 0⟩
/-- R583 THM_CMD.ABORT: abort it. -/
def THM_CMD_ABORT : Fld := ⟨0x40110004, 1, 1, 0⟩
/-- R583 THM_CFG.MARGIN_C: 2 … 20. -/
def THM_CFG_MARGIN_C : Fld := ⟨0x40110008, 0, 5, 5⟩
/-- R583 THM_CFG.HYST_C: 1 … 10. -/
def THM_CFG_HYST_C : Fld := ⟨0x40110008, 8, 4, 3⟩
/-- R583 THM_CFG.AD_TJ_C: —. -/
def THM_CFG_AD_TJ_C : Fld := ⟨0x40110008, 16, 8, 0⟩
/-- R583 THM_CFG.CD_TJ_C: —. -/
def THM_CFG_CD_TJ_C : Fld := ⟨0x40110008, 24, 8, 0⟩
/-- R583 THM_TEMP0.CASTING: —. -/
def THM_TEMP0_CASTING : Fld := ⟨0x4011000C, 0, 16, 0⟩
/-- R583 THM_TEMP0.AMBIENT: —. -/
def THM_TEMP0_AMBIENT : Fld := ⟨0x4011000C, 16, 16, 0⟩
/-- R583 THM_TEMP1.CD_J: —. -/
def THM_TEMP1_CD_J : Fld := ⟨0x40110010, 0, 16, 0⟩
/-- R583 THM_TEMP1.AD_EST: R575. -/
def THM_TEMP1_AD_EST : Fld := ⟨0x40110010, 16, 16, 0⟩
/-- R583 THM_PWR.AD_MEAS: P_meas, 0.1 W. -/
def THM_PWR_AD_MEAS : Fld := ⟨0x40110014, 0, 16, 0⟩
/-- R583 THM_PWR.LED: present LED power, 0.1 W. -/
def THM_PWR_LED : Fld := ⟨0x40110014, 16, 16, 0⟩
/-- R583 THM_FCST.AD_PEAK: peak tj_ad under the actions applied. -/
def THM_FCST_AD_PEAK : Fld := ⟨0x40110018, 0, 16, 0⟩
/-- R583 THM_FCST.CD_PEAK: peak tj_cd. -/
def THM_FCST_CD_PEAK : Fld := ⟨0x40110018, 16, 16, 0⟩
/-- R583 THM_FCST1.AT_S: second of AD_PEAK. -/
def THM_FCST1_AT_S : Fld := ⟨0x4011001C, 0, 6, 0⟩
/-- R583 THM_FCST1.G: g in units of 1/16. -/
def THM_FCST1_G : Fld := ⟨0x4011001C, 8, 8, 16⟩
/-- R583 THM_ACT.PARK: —. -/
def THM_ACT_PARK : Fld := ⟨0x40110020, 0, 1, 0⟩
/-- R583 THM_ACT.LEARN_HOLD: —. -/
def THM_ACT_LEARN_HOLD : Fld := ⟨0x40110020, 1, 1, 0⟩
/-- R583 THM_ACT.CAP: TCAP that THM has written. -/
def THM_ACT_CAP : Fld := ⟨0x40110020, 2, 2, 3⟩
/-- R583 THM_ACT.WATCHORD: R575. -/
def THM_ACT_WATCHORD : Fld := ⟨0x40110020, 4, 1, 0⟩
/-- R583 THM_ACT.OVER: R571. -/
def THM_ACT_OVER : Fld := ⟨0x40110020, 5, 1, 0⟩
/-- R583 THM_LVSDIV.RATIO: string divider × 1,000; 1,000 … 100,000. -/
def THM_LVSDIV_RATIO : Fld := ⟨0x40110024, 0, 17, 10000⟩
/-- R583 THM_STCFG.TEST_S: 600 … 14,400. -/
def THM_STCFG_TEST_S : Fld := ⟨0x40110028, 0, 14, 7200⟩
/-- R583 THM_STCFG.LED_HEAT: 300 … 950 ‰. -/
def THM_STCFG_LED_HEAT : Fld := ⟨0x40110028, 16, 10, 700⟩
/-- R583 THM_STST.STATE: 0 idle, 1 baseline, 2 step, 3 done, 4 failed. -/
def THM_STST_STATE : Fld := ⟨0x4011002C, 0, 3, 0⟩
/-- R583 THM_STST.REASON: R568, R569. -/
def THM_STST_REASON : Fld := ⟨0x4011002C, 4, 4, 0⟩
/-- R583 THM_STST.ELAPSED_S: —. -/
def THM_STST_ELAPSED_S : Fld := ⟨0x4011002C, 16, 16, 0⟩
/-- R583 THM_FIT0.R_CA: m°C/W. -/
def THM_FIT0_R_CA : Fld := ⟨0x40110030, 0, 32, 0⟩
/-- R583 THM_FIT1.C_C: J/°C. -/
def THM_FIT1_C_C : Fld := ⟨0x40110034, 0, 32, 0⟩
/-- R583 THM_CNT.BADPLAN: saturating. -/
def THM_CNT_BADPLAN : Fld := ⟨0x40110038, 0, 16, 0⟩
/-- R583 THM_CNT.MISSES: seconds without a plan, saturating. -/
def THM_CNT_MISSES : Fld := ⟨0x40110038, 16, 16, 0⟩
/-- R583 THM_INT.ACT: actions changed. -/
def THM_INT_ACT : Fld := ⟨0x40110200, 0, 1, 0⟩
/-- R583 THM_INT.OVER: —. -/
def THM_INT_OVER : Fld := ⟨0x40110200, 1, 1, 0⟩
/-- R583 THM_INT.HOT: hard limit. -/
def THM_INT_HOT : Fld := ⟨0x40110200, 2, 1, 0⟩
/-- R583 THM_INT.STEPGO: R568 step 2. -/
def THM_INT_STEPGO : Fld := ⟨0x40110200, 3, 1, 0⟩
/-- R583 THM_INT.STEPEND: test done or failed. -/
def THM_INT_STEPEND : Fld := ⟨0x40110200, 4, 1, 0⟩
/-- R583 THM_INT.SENSOR: —. -/
def THM_INT_SENSOR : Fld := ⟨0x40110200, 5, 1, 0⟩
/-- R583 THM_INT.REFUSED: —. -/
def THM_INT_REFUSED : Fld := ⟨0x40110200, 6, 1, 0⟩
/-- R583 THM_INT.CLAMP: —. -/
def THM_INT_CLAMP : Fld := ⟨0x40110200, 7, 1, 0⟩
/-- R583 THM_INTEN.EN: one enable per THM_INT bit. -/
def THM_INTEN_EN : Fld := ⟨0x40110204, 0, 8, 0⟩
/-- R146 I2C_CFG.MODE: PINS.I2C_MODE. -/
def I2C_CFG_MODE (i : Nat) : Fld := ⟨0x40120000 + 0x10000 * i, 0, 2, 0⟩
/-- R146 I2C_CFG.TOUT_MS: 1 … 100. -/
def I2C_CFG_TOUT_MS (i : Nat) : Fld := ⟨0x40120000 + 0x10000 * i, 8, 8, 25⟩
/-- R146 I2C_CFG.IDLE_US: 10 … 1,000. -/
def I2C_CFG_IDLE_US (i : Nat) : Fld := ⟨0x40120000 + 0x10000 * i, 16, 12, 100⟩
/-- R146 I2C_CFG.RETRY: 0 … 3. -/
def I2C_CFG_RETRY (i : Nat) : Fld := ⟨0x40120000 + 0x10000 * i, 28, 3, 3⟩
/-- R146 I2C_CMD.ADDR: target address. -/
def I2C_CMD_ADDR (i : Nat) : Fld := ⟨0x40120004 + 0x10000 * i, 0, 10, 0⟩
/-- R146 I2C_CMD.A10: 10-bit address. -/
def I2C_CMD_A10 (i : Nat) : Fld := ⟨0x40120004 + 0x10000 * i, 10, 1, 0⟩
/-- R146 I2C_CMD.RD: read. -/
def I2C_CMD_RD (i : Nat) : Fld := ⟨0x40120004 + 0x10000 * i, 11, 1, 0⟩
/-- R146 I2C_CMD.LEN: 1 … 255 bytes. -/
def I2C_CMD_LEN (i : Nat) : Fld := ⟨0x40120004 + 0x10000 * i, 12, 8, 0⟩
/-- R146 I2C_CMD.RSTART: end with repeated START, not STOP. -/
def I2C_CMD_RSTART (i : Nat) : Fld := ⟨0x40120004 + 0x10000 * i, 20, 1, 0⟩
/-- R146 I2C_CMD.GO: start the transfer. -/
def I2C_CMD_GO (i : Nat) : Fld := ⟨0x40120004 + 0x10000 * i, 31, 1, 0⟩
/-- R146 I2C_STATUS.BUSY: transfer or backoff running. -/
def I2C_STATUS_BUSY (i : Nat) : Fld := ⟨0x40120008 + 0x10000 * i, 0, 1, 0⟩
/-- R146 I2C_STATUS.BUSFREE: R133. -/
def I2C_STATUS_BUSFREE (i : Nat) : Fld := ⟨0x40120008 + 0x10000 * i, 1, 1, 1⟩
/-- R146 I2C_STATUS.RESULT: 0 OK, 1 ADDR_NACK, 2 DATA_NACK, 3 ARB_GIVEUP, 4 BUS_STUCK, 5 BUSERR. -/
def I2C_STATUS_RESULT (i : Nat) : Fld := ⟨0x40120008 + 0x10000 * i, 4, 4, 0⟩
/-- R146 I2C_STATUS.ATTEMPT: retries used. -/
def I2C_STATUS_ATTEMPT (i : Nat) : Fld := ⟨0x40120008 + 0x10000 * i, 8, 2, 0⟩
/-- R146 I2C_STATUS.XFERRED: bytes transferred in the last attempt. -/
def I2C_STATUS_XFERRED (i : Nat) : Fld := ⟨0x40120008 + 0x10000 * i, 16, 8, 0⟩
/-- R146 I2C_ARB.BYTE: byte index of the last loss. -/
def I2C_ARB_BYTE (i : Nat) : Fld := ⟨0x4012000C + 0x10000 * i, 0, 8, 0⟩
/-- R146 I2C_ARB.BIT: bit index 0 … 8. -/
def I2C_ARB_BIT (i : Nat) : Fld := ⟨0x4012000C + 0x10000 * i, 8, 4, 0⟩
/-- R146 I2C_TXD.DATA: pushes one byte. -/
def I2C_TXD_DATA (i : Nat) : Fld := ⟨0x40120010 + 0x10000 * i, 0, 8, 0⟩
/-- R146 I2C_RXD.DATA: returns the oldest byte and removes it. -/
def I2C_RXD_DATA (i : Nat) : Fld := ⟨0x40120014 + 0x10000 * i, 0, 8, 0⟩
/-- R146 I2C_FIFO.TXLVL: 0 … 32. -/
def I2C_FIFO_TXLVL (i : Nat) : Fld := ⟨0x40120018 + 0x10000 * i, 0, 6, 0⟩
/-- R146 I2C_FIFO.RXLVL: 0 … 32. -/
def I2C_FIFO_RXLVL (i : Nat) : Fld := ⟨0x40120018 + 0x10000 * i, 8, 6, 0⟩
/-- R146 I2C_CNT.ARBLOST: saturating. -/
def I2C_CNT_ARBLOST (i : Nat) : Fld := ⟨0x4012001C + 0x10000 * i, 0, 16, 0⟩
/-- R146 I2C_CNT.GIVEUP: saturating. -/
def I2C_CNT_GIVEUP (i : Nat) : Fld := ⟨0x4012001C + 0x10000 * i, 16, 16, 0⟩
/-- R146 I2C_INT.DONE: transfer ended. -/
def I2C_INT_DONE (i : Nat) : Fld := ⟨0x40120020 + 0x10000 * i, 0, 1, 0⟩
/-- R146 I2C_INT.ARBLOST_ADDR: R134. -/
def I2C_INT_ARBLOST_ADDR (i : Nat) : Fld := ⟨0x40120020 + 0x10000 * i, 1, 1, 0⟩
/-- R146 I2C_INT.ARBLOST_DATA: R134. -/
def I2C_INT_ARBLOST_DATA (i : Nat) : Fld := ⟨0x40120020 + 0x10000 * i, 2, 1, 0⟩
/-- R146 I2C_INT.NACK: R144. -/
def I2C_INT_NACK (i : Nat) : Fld := ⟨0x40120020 + 0x10000 * i, 3, 1, 0⟩
/-- R146 I2C_INT.GIVEUP: R136. -/
def I2C_INT_GIVEUP (i : Nat) : Fld := ⟨0x40120020 + 0x10000 * i, 4, 1, 0⟩
/-- R146 I2C_INT.STUCK: R137. -/
def I2C_INT_STUCK (i : Nat) : Fld := ⟨0x40120020 + 0x10000 * i, 5, 1, 0⟩
/-- R146 I2C_INT.BUSERR: R142. -/
def I2C_INT_BUSERR (i : Nat) : Fld := ⟨0x40120020 + 0x10000 * i, 6, 1, 0⟩
/-- R146 I2C_INT.TGT_UNKNOWN: R136. -/
def I2C_INT_TGT_UNKNOWN (i : Nat) : Fld := ⟨0x40120020 + 0x10000 * i, 7, 1, 0⟩
/-- R146 I2C_INT.REFUSED: R142. -/
def I2C_INT_REFUSED (i : Nat) : Fld := ⟨0x40120020 + 0x10000 * i, 8, 1, 0⟩
/-- R146 I2C_INTEN.EN: one enable per I2C_INT bit. -/
def I2C_INTEN_EN (i : Nat) : Fld := ⟨0x40120024 + 0x10000 * i, 0, 9, 0⟩
/-- R563 QSPI_CFG.OCTAL: PINS.QSPI_MODE. -/
def QSPI_CFG_OCTAL : Fld := ⟨0x40140000, 0, 1, 0⟩
/-- R563 QSPI_CFG.DENSITY_KIB: from SFDP. -/
def QSPI_CFG_DENSITY_KIB : Fld := ⟨0x40140000, 8, 24, 0⟩
/-- R563 QSPI_ADDR.ADDR: flash offset, up to 512 MiB. -/
def QSPI_ADDR_ADDR : Fld := ⟨0x40140004, 0, 29, 0⟩
/-- R563 QSPI_CMD.OP: 0 none; 1 program up to 256 bytes from QSPI_BUF, 2 erase 4 KiB, 3 erase 64 KiB, 4 read up to 256 bytes into QSPI_BUF; 5 … 7 refused (R658). -/
def QSPI_CMD_OP : Fld := ⟨0x40140008, 0, 3, 0⟩
/-- R563 QSPI_CMD.LEN: program or read length, 1 … 256; ignored for erase. -/
def QSPI_CMD_LEN : Fld := ⟨0x40140008, 8, 9, 0⟩
/-- R563 QSPI_STATUS.BUSY: firmware's command accepted and not yet ended (R658). -/
def QSPI_STATUS_BUSY : Fld := ⟨0x4014000C, 0, 1, 0⟩
/-- R563 QSPI_STATUS.FLASHBUSY: a program or erase by any user is in progress in the flash. -/
def QSPI_STATUS_FLASHBUSY : Fld := ⟨0x4014000C, 1, 1, 0⟩
/-- R563 QSPI_INT.DONE: firmware's command ended without time-out. -/
def QSPI_INT_DONE : Fld := ⟨0x40140010, 0, 1, 0⟩
/-- R563 QSPI_INT.WRPROT: R527. -/
def QSPI_INT_WRPROT : Fld := ⟨0x40140010, 1, 1, 0⟩
/-- R563 QSPI_INT.TIMEOUT: R560. -/
def QSPI_INT_TIMEOUT : Fld := ⟨0x40140010, 2, 1, 0⟩
/-- R563 QSPI_INT.REFUSED: R658. -/
def QSPI_INT_REFUSED : Fld := ⟨0x40140010, 3, 1, 0⟩
/-- R563 QSPI_INTEN.EN: one enable per QSPI_INT bit. -/
def QSPI_INTEN_EN : Fld := ⟨0x40140014, 0, 4, 0⟩
/-- R563 QSPI_BUF.W: program data, or the data of the last read. -/
def QSPI_BUF_W (k : Nat) : Fld := ⟨0x40140100 + 4 * k, 0, 32, 0⟩
/-- R649 SPI_CFG.MODE: SPI mode 0 … 3. -/
def SPI_CFG_MODE : Fld := ⟨0x40150000, 0, 2, 0⟩
/-- R649 SPI_CFG.LSBFIRST: —. -/
def SPI_CFG_LSBFIRST : Fld := ⟨0x40150000, 2, 1, 0⟩
/-- R649 SPI_CFG.DIV: 2 … 255; 4 gives 25 MHz. -/
def SPI_CFG_DIV : Fld := ⟨0x40150000, 8, 8, 4⟩
/-- R649 SPI_CMD.LEN: 1 … 255 bytes. -/
def SPI_CMD_LEN : Fld := ⟨0x40150004, 0, 8, 0⟩
/-- R649 SPI_CMD.CS: 0 … 4 (R641). -/
def SPI_CMD_CS : Fld := ⟨0x40150004, 8, 3, 0⟩
/-- R649 SPI_CMD.HOLD: keep the select asserted afterwards. -/
def SPI_CMD_HOLD : Fld := ⟨0x40150004, 11, 1, 0⟩
/-- R649 SPI_CMD.GO: start the transfer. -/
def SPI_CMD_GO : Fld := ⟨0x40150004, 31, 1, 0⟩
/-- R649 SPI_STATUS.BUSY: —. -/
def SPI_STATUS_BUSY : Fld := ⟨0x40150008, 0, 1, 0⟩
/-- R649 SPI_STATUS.XFERRED: bytes transferred. -/
def SPI_STATUS_XFERRED : Fld := ⟨0x40150008, 8, 8, 0⟩
/-- R649 SPI_TXD.DATA: pushes one byte. -/
def SPI_TXD_DATA : Fld := ⟨0x4015000C, 0, 8, 0⟩
/-- R649 SPI_RXD.DATA: returns the oldest byte and removes it. -/
def SPI_RXD_DATA : Fld := ⟨0x40150010, 0, 8, 0⟩
/-- R649 SPI_FIFO.TXLVL: 0 … 32. -/
def SPI_FIFO_TXLVL : Fld := ⟨0x40150014, 0, 6, 0⟩
/-- R649 SPI_FIFO.RXLVL: 0 … 32. -/
def SPI_FIFO_RXLVL : Fld := ⟨0x40150014, 8, 6, 0⟩
/-- R649 SPI_INT.DONE: transfer ended. -/
def SPI_INT_DONE : Fld := ⟨0x40150018, 0, 1, 0⟩
/-- R649 SPI_INT.REFUSED: R641. -/
def SPI_INT_REFUSED : Fld := ⟨0x40150018, 1, 1, 0⟩
/-- R649 SPI_INT.CLAMP: —. -/
def SPI_INT_CLAMP : Fld := ⟨0x40150018, 2, 1, 0⟩
/-- R649 SPI_INTEN.EN: one enable per SPI_INT bit. -/
def SPI_INTEN_EN : Fld := ⟨0x4015001C, 0, 3, 0⟩
/-- R648 UART_CFG.PARITY: 0 none, 1 even, 2 odd, 3 none. -/
def UART_CFG_PARITY (i : Nat) : Fld := ⟨0x40160000 + 0x8000 * i, 0, 2, 0⟩
/-- R648 UART_CFG.STOP2: two stop bits. -/
def UART_CFG_STOP2 (i : Nat) : Fld := ⟨0x40160000 + 0x8000 * i, 2, 1, 0⟩
/-- R648 UART_CFG.FLOW: RTS/CTS (R640). -/
def UART_CFG_FLOW (i : Nat) : Fld := ⟨0x40160000 + 0x8000 * i, 3, 1, 0⟩
/-- R648 UART_BAUD.RATE: 9,600 … 3,000,000 bit/s. -/
def UART_BAUD_RATE (i : Nat) : Fld := ⟨0x40160004 + 0x8000 * i, 0, 22, 0x1C200⟩
/-- R648 UART_TXD.DATA: pushes one byte; ignored when the FIFO is full. -/
def UART_TXD_DATA (i : Nat) : Fld := ⟨0x40160008 + 0x8000 * i, 0, 8, 0⟩
/-- R648 UART_RXD.DATA: returns the oldest byte and removes it. -/
def UART_RXD_DATA (i : Nat) : Fld := ⟨0x4016000C + 0x8000 * i, 0, 8, 0⟩
/-- R648 UART_FIFO.TXLVL: 0 … 64. -/
def UART_FIFO_TXLVL (i : Nat) : Fld := ⟨0x40160010 + 0x8000 * i, 0, 7, 0⟩
/-- R648 UART_FIFO.RXLVL: 0 … 64. -/
def UART_FIFO_RXLVL (i : Nat) : Fld := ⟨0x40160010 + 0x8000 * i, 8, 7, 0⟩
/-- R648 UART_CNT.FRAME: framing and parity errors, saturating. -/
def UART_CNT_FRAME (i : Nat) : Fld := ⟨0x40160014 + 0x8000 * i, 0, 16, 0⟩
/-- R648 UART_CNT.OVERRUN: saturating. -/
def UART_CNT_OVERRUN (i : Nat) : Fld := ⟨0x40160014 + 0x8000 * i, 16, 16, 0⟩
/-- R648 UART_INT.RXDATA: a byte was received. -/
def UART_INT_RXDATA (i : Nat) : Fld := ⟨0x40160018 + 0x8000 * i, 0, 1, 0⟩
/-- R648 UART_INT.TXEMPTY: the transmit FIFO and shifter are empty. -/
def UART_INT_TXEMPTY (i : Nat) : Fld := ⟨0x40160018 + 0x8000 * i, 1, 1, 0⟩
/-- R648 UART_INT.FRAMING: —. -/
def UART_INT_FRAMING (i : Nat) : Fld := ⟨0x40160018 + 0x8000 * i, 2, 1, 0⟩
/-- R648 UART_INT.PARITY: —. -/
def UART_INT_PARITY (i : Nat) : Fld := ⟨0x40160018 + 0x8000 * i, 3, 1, 0⟩
/-- R648 UART_INT.OVERRUN: —. -/
def UART_INT_OVERRUN (i : Nat) : Fld := ⟨0x40160018 + 0x8000 * i, 4, 1, 0⟩
/-- R648 UART_INT.BREAK: —. -/
def UART_INT_BREAK (i : Nat) : Fld := ⟨0x40160018 + 0x8000 * i, 5, 1, 0⟩
/-- R648 UART_INT.CLAMP: a CLMP write was clamped. -/
def UART_INT_CLAMP (i : Nat) : Fld := ⟨0x40160018 + 0x8000 * i, 6, 1, 0⟩
/-- R648 UART_INTEN.EN: one enable per UART_INT bit. -/
def UART_INTEN_EN (i : Nat) : Fld := ⟨0x4016001C + 0x8000 * i, 0, 7, 0⟩
/-- R647 GPIO_IN.LEVEL: pin levels. -/
def GPIO_IN_LEVEL : Fld := ⟨0x40170000, 0, 24, 0⟩
/-- R647 GPIO_OUT.LEVEL: levels driven on output pins; stored but not driven on other pins. -/
def GPIO_OUT_LEVEL : Fld := ⟨0x40170004, 0, 24, 0⟩
/-- R647 GPIO_SET.SET: 1 sets the GPIO_OUT bit. -/
def GPIO_SET_SET : Fld := ⟨0x40170008, 0, 24, 0⟩
/-- R647 GPIO_CLR.CLR: 1 clears the GPIO_OUT bit. -/
def GPIO_CLR_CLR : Fld := ⟨0x4017000C, 0, 24, 0⟩
/-- R647 GPIO_FN0.FN: pins 0 … 15 (R639). -/
def GPIO_FN0_FN (n : Nat) : Fld := ⟨0x40170010, 2 * n, 2, 0⟩
/-- R647 GPIO_FN1.FN: pins 16 … 23. -/
def GPIO_FN1_FN (n : Nat) : Fld := ⟨0x40170014, 2 * n, 2, 0⟩
/-- R647 GPIO_PULL0.PULL: pins 0 … 15: 0 none, 1 down, 2 up, 3 none. -/
def GPIO_PULL0_PULL (n : Nat) : Fld := ⟨0x40170018, 2 * n, 2, 1⟩
/-- R647 GPIO_PULL1.PULL: pins 16 … 23. -/
def GPIO_PULL1_PULL (n : Nat) : Fld := ⟨0x4017001C, 2 * n, 2, 1⟩
/-- R647 GPIO_EDGE0.EDGE: pins 0 … 15: 0 none, 1 rising, 2 falling, 3 both. -/
def GPIO_EDGE0_EDGE (n : Nat) : Fld := ⟨0x40170020, 2 * n, 2, 0⟩
/-- R647 GPIO_EDGE1.EDGE: pins 16 … 23. -/
def GPIO_EDGE1_EDGE (n : Nat) : Fld := ⟨0x40170024, 2 * n, 2, 0⟩
/-- R647 GPIO_INT.EDGE: selected edge seen. -/
def GPIO_INT_EDGE : Fld := ⟨0x40170030, 0, 24, 0⟩
/-- R647 GPIO_INTEN.EN: one enable per GPIO_INT bit. -/
def GPIO_INTEN_EN : Fld := ⟨0x40170034, 0, 24, 0⟩
/-- R219 TL_ID.TILE: tile number. -/
def TL_ID_TILE (t : Nat) : Fld := ⟨0x80000000 + 0x10000 * t, 0, 4, t⟩
/-- R219 TL_CLK.K: pulses passed per pattern (R196). -/
def TL_CLK_K (t : Nat) : Fld := ⟨0x80000004 + 0x10000 * t, 0, 3, 1⟩
/-- R219 TL_CLK.M: pattern length, 1 … 5. -/
def TL_CLK_M (t : Nat) : Fld := ⟨0x80000004 + 0x10000 * t, 4, 3, 1⟩
/-- R219 TL_CLK.POINT: point 0 … 3. -/
def TL_CLK_POINT (t : Nat) : Fld := ⟨0x80000004 + 0x10000 * t, 8, 2, 3⟩
/-- R219 TL_ECC.CE: saturating. -/
def TL_ECC_CE (t : Nat) : Fld := ⟨0x80000008 + 0x10000 * t, 0, 16, 0⟩
/-- R219 TL_ECC.UE: saturating. -/
def TL_ECC_UE (t : Nat) : Fld := ⟨0x80000008 + 0x10000 * t, 16, 16, 0⟩
/-- R219 TL_SAT.COUNT: conversion saturations (R200), wraps. -/
def TL_SAT_COUNT (t : Nat) : Fld := ⟨0x8000000C + 0x10000 * t, 0, 32, 0⟩
/-- R219 TL_MACBUSY.CYCLES: tile cycles in which the array accumulated, wraps. -/
def TL_MACBUSY_CYCLES (t : Nat) : Fld := ⟨0x80000010 + 0x10000 * t, 0, 32, 0⟩
/-- R219 TL_CYCLES.CYCLES: tile cycles since power-up, wraps. -/
def TL_CYCLES_CYCLES (t : Nat) : Fld := ⟨0x80000014 + 0x10000 * t, 0, 32, 0⟩
/-- R253 TL_SEQ.PC: bundle index being fetched. -/
def TL_SEQ_PC (t : Nat) : Fld := ⟨0x80000018 + 0x10000 * t, 0, 12, 0⟩
/-- R253 TL_SEQ.BANK: active bank. -/
def TL_SEQ_BANK (t : Nat) : Fld := ⟨0x80000018 + 0x10000 * t, 12, 1, 0⟩
/-- R253 TL_SEQ.STATE: 0 IDLE, 1 RUN, 2 SEAMWAIT, 3 HALTED, 4 ABORTING, 5 FAULTED. -/
def TL_SEQ_STATE (t : Nat) : Fld := ⟨0x80000018 + 0x10000 * t, 13, 3, 0⟩
/-- R253 TL_SEQ.LOOPS: loop stack depth, 0 … 4. -/
def TL_SEQ_LOOPS (t : Nat) : Fld := ⟨0x80000018 + 0x10000 * t, 16, 3, 0⟩
/-- R253 TL_SEQ.TENANT: tenant of the current program. -/
def TL_SEQ_TENANT (t : Nat) : Fld := ⟨0x80000018 + 0x10000 * t, 20, 4, 0⟩
/-- R253 TL_PBANK.ENTRY: first bundle. -/
def TL_PBANK_ENTRY (t : Nat) (b : Nat) : Fld := ⟨0x8000001C + 0x10000 * t + 4 * b, 0, 12, 0⟩
/-- R253 TL_PBANK.LEN: bundles loaded, 0 … 4,096. -/
def TL_PBANK_LEN (t : Nat) (b : Nat) : Fld := ⟨0x8000001C + 0x10000 * t + 4 * b, 12, 13, 0⟩
/-- R253 TL_PBANK.VALID: bank ready to start. -/
def TL_PBANK_VALID (t : Nat) (b : Nat) : Fld := ⟨0x8000001C + 0x10000 * t + 4 * b, 31, 1, 0⟩
/-- R253 TL_SWAP.KIND: 1 SWAP, 2 STOP, 3 START. -/
def TL_SWAP_KIND (t : Nat) : Fld := ⟨0x80000024 + 0x10000 * t, 0, 2, 0⟩
/-- R253 TL_SWAP.BANK: bank to start. -/
def TL_SWAP_BANK (t : Nat) : Fld := ⟨0x80000024 + 0x10000 * t, 2, 1, 0⟩
/-- R253 TL_SWAP.REASON: for STOP: 0 handoff, 1 revoke, 2 reset. -/
def TL_SWAP_REASON (t : Nat) : Fld := ⟨0x80000024 + 0x10000 * t, 4, 2, 0⟩
/-- R253 TL_SWAP.TENANT: tenant of the program started (R240). -/
def TL_SWAP_TENANT (t : Nat) : Fld := ⟨0x80000024 + 0x10000 * t, 8, 4, 0⟩
/-- R253 TL_LIMIT.SWAPTO_US: 1 … 10,000 µs. -/
def TL_LIMIT_SWAPTO_US (t : Nat) : Fld := ⟨0x80000028 + 0x10000 * t, 0, 14, 50⟩
/-- R253 TL_FAULT.CODE: first tile fault. -/
def TL_FAULT_CODE (t : Nat) : Fld := ⟨0x8000002C + 0x10000 * t, 0, 8, 0⟩
/-- R253 TL_FAULT.PC: bundle of the fault. -/
def TL_FAULT_PC (t : Nat) : Fld := ⟨0x8000002C + 0x10000 * t, 8, 12, 0⟩
/-- R253 TL_FAULT.FIELD: 0 SEQ, 1 MAC, 2 VEC, 3 MOV. -/
def TL_FAULT_FIELD (t : Nat) : Fld := ⟨0x8000002C + 0x10000 * t, 20, 2, 0⟩
/-- R253 TL_FAULT.MORE: further faults in the same cycle. -/
def TL_FAULT_MORE (t : Nat) : Fld := ⟨0x8000002C + 0x10000 * t, 30, 1, 0⟩
/-- R253 TL_FAULT.VALID: cleared by START. -/
def TL_FAULT_VALID (t : Nat) : Fld := ⟨0x8000002C + 0x10000 * t, 31, 1, 0⟩
/-- R253 TL_ABORT.QMASK: queues cancelled in the last abort. -/
def TL_ABORT_QMASK (t : Nat) : Fld := ⟨0x80000030 + 0x10000 * t, 0, 8, 0⟩
/-- R253 TL_ABORT.POISONED: lines poisoned by it. -/
def TL_ABORT_POISONED (t : Nat) : Fld := ⟨0x80000030 + 0x10000 * t, 8, 16, 0⟩
/-- R253 TL_ABORT.CAUSE: 1 SWAP limit, 2 STOP limit, 3 fault. -/
def TL_ABORT_CAUSE (t : Nat) : Fld := ⟨0x80000030 + 0x10000 * t, 24, 2, 0⟩
/-- R253 TL_ABORT.WITHDRAWN: a withdrawal was received (R243). -/
def TL_ABORT_WITHDRAWN (t : Nat) : Fld := ⟨0x80000030 + 0x10000 * t, 26, 1, 0⟩
/-- R253 TL_ABORT.STRAY: stray withdrawals, saturating. -/
def TL_ABORT_STRAY (t : Nat) : Fld := ⟨0x80000030 + 0x10000 * t, 27, 5, 0⟩
/-- R253 TL_TOKA.T: token n, n = 1 … 7; [3:0] read 0. -/
def TL_TOKA_T (t : Nat) (n : Nat) : Fld := ⟨0x80000034 + 0x10000 * t, 4 * n, 4, 0⟩
/-- R253 TL_TOKB.T: token n, n = 8 … 15. -/
def TL_TOKB_T (t : Nat) (n : Nat) : Fld := ⟨0x80000038 + 0x10000 * t, 4 * n, 4, 0⟩
/-- R253 TL_SEAMS.COUNT: seams reached, wraps. -/
def TL_SEAMS_COUNT (t : Nat) : Fld := ⟨0x8000003C + 0x10000 * t, 0, 32, 0⟩
/-- R253 TL_SEAMMAX.INTERVAL: largest interval, tile cycles, saturating. -/
def TL_SEAMMAX_INTERVAL (t : Nat) : Fld := ⟨0x80000040 + 0x10000 * t, 0, 16, 0⟩
/-- R253 TL_SEAMMAX.DRAIN: largest drain, tile cycles, saturating. -/
def TL_SEAMMAX_DRAIN (t : Nat) : Fld := ⟨0x80000040 + 0x10000 * t, 16, 16, 0⟩
/-- R253 TL_INT.HALTED: program reached HALT. -/
def TL_INT_HALTED (t : Nat) : Fld := ⟨0x80000044 + 0x10000 * t, 0, 1, 0⟩
/-- R253 TL_INT.STOPPED: STOP satisfied. -/
def TL_INT_STOPPED (t : Nat) : Fld := ⟨0x80000044 + 0x10000 * t, 1, 1, 0⟩
/-- R253 TL_INT.FAULT: tile fault. -/
def TL_INT_FAULT (t : Nat) : Fld := ⟨0x80000044 + 0x10000 * t, 2, 1, 0⟩
/-- R253 TL_INT.ABORT: abort completed. -/
def TL_INT_ABORT (t : Nat) : Fld := ⟨0x80000044 + 0x10000 * t, 3, 1, 0⟩
/-- R253 TL_INT.WITHDRAWN: R243. -/
def TL_INT_WITHDRAWN (t : Nat) : Fld := ⟨0x80000044 + 0x10000 * t, 4, 1, 0⟩
/-- R253 TL_INT.PROGBUSY: R238. -/
def TL_INT_PROGBUSY (t : Nat) : Fld := ⟨0x80000044 + 0x10000 * t, 5, 1, 0⟩
/-- R253 TL_INT.REFUSED: R247. -/
def TL_INT_REFUSED (t : Nat) : Fld := ⟨0x80000044 + 0x10000 * t, 6, 1, 0⟩
/-- R253 TL_INTEN.EN: one enable per TL_INT bit. -/
def TL_INTEN_EN (t : Nat) : Fld := ⟨0x80000048 + 0x10000 * t, 0, 7, 0⟩
/-- R219 TL_POISON.W: poison bits, word 16b + l div 32. -/
def TL_POISON_W (t : Nat) (k : Nat) : Fld := ⟨0x80000100 + 0x10000 * t + 4 * k, 0, 32, 0xFFFFFFFF⟩
/-- R219 TL_TAG.TENANT: owner; a write zero-fills first (R91). -/
def TL_TAG_TENANT (t : Nat) (k : Nat) (n : Nat) : Fld := ⟨0x80000D00 + 0x10000 * t + 4 * k, 8 * n, 4, 0⟩
/-- R219 TL_TAG.TAGGED: tagged. -/
def TL_TAG_TAGGED (t : Nat) (k : Nat) (n : Nat) : Fld := ⟨0x80000D00 + 0x10000 * t + 4 * k, 7 + 8 * n, 1, 0⟩
/-- R328 TL_XSEED.SEED: seed of the current run. -/
def TL_XSEED_SEED (t : Nat) : Fld := ⟨0x80000E00 + 0x10000 * t, 0, 32, 0⟩
/-- R328 TL_XFORM.CHUNK: entry e = 0 … 255. -/
def TL_XFORM_CHUNK (t : Nat) (e : Nat) : Fld := ⟨0x80001000 + 0x10000 * t + 4 * e, 0, 16, 0⟩
/-- R328 TL_XFORM.R: column rotation. -/
def TL_XFORM_R (t : Nat) (e : Nat) : Fld := ⟨0x80001000 + 0x10000 * t + 4 * e, 16, 6, 0⟩
/-- R328 TL_XFORM.Q: row rotation. -/
def TL_XFORM_Q (t : Nat) (e : Nat) : Fld := ⟨0x80001000 + 0x10000 * t + 4 * e, 22, 6, 0⟩
/-- R328 TL_XFORM.N: negation. -/
def TL_XFORM_N (t : Nat) (e : Nat) : Fld := ⟨0x80001000 + 0x10000 * t + 4 * e, 30, 1, 0⟩
/-- R328 TL_XFORM.VALID: entry in use. -/
def TL_XFORM_VALID (t : Nat) (e : Nat) : Fld := ⟨0x80001000 + 0x10000 * t + 4 * e, 31, 1, 0⟩
/-- R219 NOC_PAR.COUNT: parity errors, saturating. -/
def NOC_PAR_COUNT : Fld := ⟨0x80100000, 0, 16, 0⟩
/-- R219 SHF_TAG.TENANT: owner; a write zero-fills first (R91). -/
def SHF_TAG_TENANT (k : Nat) (n : Nat) : Fld := ⟨0x80110000 + 4 * k, 8 * n, 4, 0⟩
/-- R219 SHF_TAG.TAGGED: tagged. -/
def SHF_TAG_TAGGED (k : Nat) (n : Nat) : Fld := ⟨0x80110000 + 4 * k, 7 + 8 * n, 1, 0⟩
/-- R219 SHF_ECC.CE: saturating. -/
def SHF_ECC_CE : Fld := ⟨0x80110100, 0, 16, 0⟩
/-- R219 SHF_ECC.UE: saturating. -/
def SHF_ECC_UE : Fld := ⟨0x80110100, 16, 16, 0⟩
/-- R219 MC_CFG.SPEED: 0 8,533, 1 7,500, 2 6,400 MT/s, 3 untrained. -/
def MC_CFG_SPEED : Fld := ⟨0x80120000, 0, 2, 0⟩
/-- R219 MC_CFG.DENSITY: GiB per channel. -/
def MC_CFG_DENSITY : Fld := ⟨0x80120000, 2, 4, 0⟩
/-- R219 MC_TRAIN.STEP: step of R209 in progress. -/
def MC_TRAIN_STEP : Fld := ⟨0x80120004, 0, 4, 0⟩
/-- R219 MC_TRAIN.DONE: trained. -/
def MC_TRAIN_DONE : Fld := ⟨0x80120004, 4, 1, 0⟩
/-- R219 MC_TRAIN.FAIL: no rate passed. -/
def MC_TRAIN_FAIL : Fld := ⟨0x80120004, 5, 1, 0⟩
/-- R219 MC_MR4.MR4: last MR4 of channel c. -/
def MC_MR4_MR4 (c : Nat) : Fld := ⟨0x80120008 + 4 * c, 0, 8, 0⟩
/-- R219 MC_RGN.W: word k of the 64 two-word region entries. -/
def MC_RGN_W (k : Nat) : Fld := ⟨0x80120100 + 4 * k, 0, 32, 0⟩
/-- R219 ACG_FTOP.POINT: APLL_T point. -/
def ACG_FTOP_POINT : Fld := ⟨0x80130000, 0, 2, 3⟩
/-- R219 ACG_STAT.SLEWING: slew in progress. -/
def ACG_STAT_SLEWING : Fld := ⟨0x80130004, 0, 1, 0⟩
/-- R219 ACG_STAT.LOCK: APLL locked. -/
def ACG_STAT_LOCK : Fld := ⟨0x80130004, 1, 1, 0⟩
/-- R520 UPD_STAT.BUSY: action running. -/
def UPD_STAT_BUSY : Fld := ⟨0x80140000, 0, 1, 0⟩
/-- R520 UPD_STAT.ACTION: ARG0 of the running action. -/
def UPD_STAT_ACTION : Fld := ⟨0x80140000, 1, 3, 0⟩
/-- R520 UPD_STAT.TENANT: tenant served. -/
def UPD_STAT_TENANT : Fld := ⟨0x80140000, 4, 4, 0⟩
/-- R520 UPD_BYTES.BYTES: bytes moved, in units of 64, wraps. -/
def UPD_BYTES_BYTES : Fld := ⟨0x80140004, 0, 32, 0⟩
/-- R520 UPD_JOBS.COUNT: actions completed, wraps. -/
def UPD_JOBS_COUNT : Fld := ⟨0x80140008, 0, 32, 0⟩
/-- R520 UPD_NONFIN.COUNT: NORMs with a non-finite tensor, saturating. -/
def UPD_NONFIN_COUNT : Fld := ⟨0x8014000C, 0, 16, 0⟩
/-- R520 UPD_NONFIN.POISON: actions that read poison, saturating. -/
def UPD_NONFIN_POISON : Fld := ⟨0x8014000C, 16, 16, 0⟩

end R

/-- The rows of the SYS register tables, part 0. -/
def rowsSYS0 : List RegRow := [
  -- SYS_ID
  ⟨0x40000000, 0, 1, 0, 1, fun _ _ => [⟨R.SYS_ID_PART, .ro, none, none⟩, ⟨R.SYS_ID_STEP_MAJOR, .ro, none, none⟩, ⟨R.SYS_ID_STEP_MINOR, .ro, none, none⟩, ⟨R.SYS_ID_GRADE, .ro, none, none⟩]⟩,
  -- SYS_RSTCAUSE
  ⟨0x40000010, 0, 1, 0, 1, fun _ _ => [⟨R.SYS_RSTCAUSE_POR, .w1c, none, none⟩, ⟨R.SYS_RSTCAUSE_WAKE, .w1c, none, none⟩, ⟨R.SYS_RSTCAUSE_SUPPLY, .w1c, none, none⟩, ⟨R.SYS_RSTCAUSE_CLOCK, .w1c, none, none⟩, ⟨R.SYS_RSTCAUSE_PG_LOST, .w1c, none, none⟩, ⟨R.SYS_RSTCAUSE_SW_SYS, .w1c, none, none⟩, ⟨R.SYS_RSTCAUSE_SW_CORE, .w1c, none, none⟩, ⟨R.SYS_RSTCAUSE_WDT0, .w1c, none, none⟩, ⟨R.SYS_RSTCAUSE_WDT1, .w1c, none, none⟩, ⟨R.SYS_RSTCAUSE_LCK, .w1c, none, none⟩, ⟨R.SYS_RSTCAUSE_SPLIT_TO, .w1c, none, none⟩, ⟨R.SYS_RSTCAUSE_DEBUG, .w1c, none, none⟩]⟩,
  -- SYS_RSTCTL
  ⟨0x40000014, 0, 1, 0, 1, fun _ _ => [⟨R.SYS_RSTCTL_SYS, .wo, none, none⟩, ⟨R.SYS_RSTCTL_CORE, .wo, none, none⟩, ⟨R.SYS_RSTCTL_AD, .wo, none, none⟩, ⟨R.SYS_RSTCTL_CODE, .wo, none, none⟩]⟩,
  -- SYS_BOOT
  ⟨0x40000018, 0, 1, 0, 1, fun _ _ => [⟨R.SYS_BOOT_BL_SLOT, .ro, none, none⟩, ⟨R.SYS_BOOT_BL_VALID, .ro, none, none⟩, ⟨R.SYS_BOOT_DF_SLOT, .ro, none, none⟩, ⟨R.SYS_BOOT_DF_VALID, .ro, none, none⟩, ⟨R.SYS_BOOT_RECOVERY, .ro, none, none⟩]⟩,
  -- SYS_ADRST
  ⟨0x4000001C, 0, 1, 0, 1, fun _ _ => [⟨R.SYS_ADRST_CAUSE, .ro, none, none⟩, ⟨R.SYS_ADRST_COUNT, .ro, none, none⟩]⟩,
  -- SYS_ADLOAD
  ⟨0x40000020, 0, 1, 0, 1, fun _ _ => [⟨R.SYS_ADLOAD_SENT, .ro, none, none⟩, ⟨R.SYS_ADLOAD_FAIL, .ro, none, none⟩, ⟨R.SYS_ADLOAD_DONE, .ro, none, none⟩]⟩,
  -- SYS_CORE
  ⟨0x40000100, 0, 1, 0, 1, fun _ _ => [⟨R.SYS_CORE_STATE, .ro, none, none⟩, ⟨R.SYS_CORE_HANDOVER_OK, .ro, none, none⟩, ⟨R.SYS_CORE_JOIN_WAIT, .ro, none, none⟩, ⟨R.SYS_CORE_JOIN_CORE, .ro, none, none⟩]⟩,
  -- SYS_CORECMD
  ⟨0x40000104, 0, 1, 0, 1, fun _ _ => [⟨R.SYS_CORECMD_SPLIT, .wo, none, none⟩, ⟨R.SYS_CORECMD_JOIN, .wo, none, none⟩]⟩,
  -- SYS_C1PC
  ⟨0x40000108, 0, 1, 0, 1, fun _ _ => [⟨R.SYS_C1PC_ADDR, .rw, none, none⟩]⟩,
  -- SYS_JOINPC
  ⟨0x4000010C, 0, 1, 0, 1, fun _ _ => [⟨R.SYS_JOINPC_ADDR, .rw, none, none⟩]⟩,
  -- SYS_SPLITLIM
  ⟨0x40000110, 0, 1, 0, 1, fun _ _ => [⟨R.SYS_SPLITLIM_SPLIT_MS, .rw, (some (1, 1000)), none⟩]⟩,
  -- SYS_SPLITCNT
  ⟨0x40000114, 0, 1, 0, 1, fun _ _ => [⟨R.SYS_SPLITCNT_REMAIN_MS, .ro, none, none⟩, ⟨R.SYS_SPLITCNT_SPLITS, .ro, none, none⟩]⟩,
  -- SYS_LCKSTAT
  ⟨0x40000118, 0, 1, 0, 1, fun _ _ => [⟨R.SYS_LCKSTAT_GROUP, .ro, none, none⟩, ⟨R.SYS_LCKSTAT_COUNT_1H, .ro, none, none⟩, ⟨R.SYS_LCKSTAT_HOLD, .ro, none, none⟩]⟩,
  -- SYS_LCKADDR
  ⟨0x4000011C, 0, 1, 0, 1, fun _ _ => [⟨R.SYS_LCKADDR_ADDR, .ro, none, none⟩]⟩,
  -- SYS_WDT0
  ⟨0x40000120, 0, 1, 0, 1, fun _ _ => [⟨R.SYS_WDT0_KEY, .wo, none, none⟩]⟩,
  -- SYS_WDT1
  ⟨0x40000124, 0, 1, 0, 1, fun _ _ => [⟨R.SYS_WDT1_KEY, .wo, none, none⟩]⟩,
  -- SYS_WDTSTAT
  ⟨0x40000128, 0, 1, 0, 1, fun _ _ => [⟨R.SYS_WDTSTAT_REMAIN0_MS, .ro, none, none⟩, ⟨R.SYS_WDTSTAT_REMAIN1_MS, .ro, none, none⟩, ⟨R.SYS_WDTSTAT_RUN0, .ro, none, none⟩, ⟨R.SYS_WDTSTAT_RUN1, .ro, none, none⟩]⟩,
  -- SYS_MSIP
  ⟨0x40000130, 0, 1, 0, 1, fun _ _ => [⟨R.SYS_MSIP_MSIP, .rw, none, none⟩]⟩,
  -- SYS_MTIME_LO
  ⟨0x40000138, 0, 1, 0, 1, fun _ _ => [⟨R.SYS_MTIME_LO_LO, .ro, none, none⟩]⟩,
  -- SYS_MTIME_HI
  ⟨0x4000013C, 0, 1, 0, 1, fun _ _ => [⟨R.SYS_MTIME_HI_HI, .ro, none, none⟩]⟩,
  -- SYS_MTIMECMP
  ⟨0x40000140, 0, 1, 4, 4, fun _ k => [⟨R.SYS_MTIMECMP_W k, .rw, none, none⟩]⟩,
  -- SYS_SRAMECC
  ⟨0x40000150, 0, 1, 0, 1, fun _ _ => [⟨R.SYS_SRAMECC_CE, .ro, none, none⟩, ⟨R.SYS_SRAMECC_UE, .ro, none, none⟩]⟩,
  -- SYS_SRAMERR
  ⟨0x40000154, 0, 1, 0, 1, fun _ _ => [⟨R.SYS_SRAMERR_ADDR, .ro, none, none⟩]⟩,
  -- SYS_SCRUB
  ⟨0x40000158, 0, 1, 0, 1, fun _ _ => [⟨R.SYS_SCRUB_EN, .rw, none, none⟩, ⟨R.SYS_SCRUB_PERIOD_US, .rw, (some (1, 255)), none⟩]⟩,
  -- SYS_OTPADDR
  ⟨0x40000160, 0, 1, 0, 1, fun _ _ => [⟨R.SYS_OTPADDR_WORD, .rw, none, none⟩]⟩,
  -- SYS_OTPDATA
  ⟨0x40000164, 0, 1, 0, 1, fun _ _ => [⟨R.SYS_OTPDATA_DATA, .ro, none, none⟩]⟩,
  -- SYS_OTPST
  ⟨0x40000168, 0, 1, 0, 1, fun _ _ => [⟨R.SYS_OTPST_BUSY, .ro, none, none⟩, ⟨R.SYS_OTPST_DISAGREE, .ro, none, none⟩, ⟨R.SYS_OTPST_FIRST_DIS, .ro, none, none⟩]⟩,
  -- SYS_DBG
  ⟨0x40000170, 0, 1, 0, 1, fun _ _ => [⟨R.SYS_DBG_ACTIVE, .ro, none, none⟩, ⟨R.SYS_DBG_HALTED, .ro, none, none⟩, ⟨R.SYS_DBG_LOCKED, .ro, none, none⟩, ⟨R.SYS_DBG_REPLAYS, .ro, none, none⟩, ⟨R.SYS_DBG_OVF, .ro, none, none⟩]⟩,
  -- SYS_CINT
  ⟨0x40000180, 0, 1, 0, 1, fun _ _ => [⟨R.SYS_CINT_SPLIT, .w1c, none, none⟩, ⟨R.SYS_CINT_JOINED, .w1c, none, none⟩, ⟨R.SYS_CINT_SRAM_CE, .w1c, none, none⟩, ⟨R.SYS_CINT_SRAM_UE, .w1c, none, none⟩, ⟨R.SYS_CINT_DEBUG, .w1c, none, none⟩, ⟨R.SYS_CINT_OTPDIS, .w1c, none, none⟩, ⟨R.SYS_CINT_REFUSED, .w1c, none, none⟩, ⟨R.SYS_CINT_CLAMP, .w1c, none, none⟩]⟩,
  -- SYS_CINTEN
  ⟨0x40000184, 0, 1, 0, 1, fun _ _ => [⟨R.SYS_CINTEN_EN, .rw, none, none⟩]⟩]

/-- The rows of the SYS register tables, part 1. -/
def rowsSYS1 : List RegRow := [
  -- SYS_SELFTEST
  ⟨0x40000190, 0, 1, 0, 1, fun _ _ => [⟨R.SYS_SELFTEST_RAN, .ro, none, none⟩, ⟨R.SYS_SELFTEST_PASS, .ro, none, none⟩, ⟨R.SYS_SELFTEST_SKIPPED, .ro, none, none⟩, ⟨R.SYS_SELFTEST_FAILMASK, .ro, none, none⟩, ⟨R.SYS_SELFTEST_COUNT, .ro, none, none⟩]⟩]

/-- The rows of the SYS register tables. -/
def rowsSYS : List RegRow := rowsSYS0 ++ rowsSYS1

/-- The rows of the PMU register tables. -/
def rowsPMU : List RegRow := [
  -- PMU_STATE
  ⟨0x40010000, 0, 1, 0, 1, fun _ _ => [⟨R.PMU_STATE_STATE, .ro, none, none⟩, ⟨R.PMU_STATE_LEARN, .ro, none, none⟩, ⟨R.PMU_STATE_TRANS, .ro, none, none⟩, ⟨R.PMU_STATE_HELD, .ro, none, none⟩, ⟨R.PMU_STATE_RETAINED, .ro, none, none⟩]⟩,
  -- PMU_CMD
  ⟨0x40010004, 0, 1, 0, 1, fun _ _ => [⟨R.PMU_CMD_CMD, .wo, none, none⟩]⟩,
  -- PMU_DOMST
  ⟨0x40010008, 0, 1, 0, 1, fun _ _ => [⟨R.PMU_DOMST_ON, .ro, none, none⟩]⟩,
  -- PMU_DOMREQ
  ⟨0x4001000C, 0, 1, 0, 1, fun _ _ => [⟨R.PMU_DOMREQ_UPD, .rw, none, none⟩]⟩,
  -- PMU_DOMRST
  ⟨0x40010010, 0, 1, 0, 1, fun _ _ => [⟨R.PMU_DOMRST_RST, .wo, none, none⟩]⟩,
  -- PMU_REG
  ⟨0x40010014, 0, 1, 0, 1, fun _ _ => [⟨R.PMU_REG_EN, .ro, none, none⟩, ⟨R.PMU_REG_PG, .ro, none, none⟩, ⟨R.PMU_REG_USE, .ro, none, none⟩, ⟨R.PMU_REG_FAILED, .ro, none, none⟩]⟩,
  -- PMU_CLK
  ⟨0x40010018, 0, 1, 0, 1, fun _ _ => [⟨R.PMU_CLK_XTAL32_OK, .ro, none, none⟩, ⟨R.PMU_CLK_ON_RC32, .ro, none, none⟩, ⟨R.PMU_CLK_XO25_OK, .ro, none, none⟩, ⟨R.PMU_CLK_CPLL, .ro, none, none⟩, ⟨R.PMU_CLK_NPLL, .ro, none, none⟩, ⟨R.PMU_CLK_SPLL, .ro, none, none⟩]⟩,
  -- PMU_RTC_LO
  ⟨0x40010020, 0, 1, 0, 1, fun _ _ => [⟨R.PMU_RTC_LO_TICKS, .ro, none, none⟩]⟩,
  -- PMU_RTC_HI
  ⟨0x40010024, 0, 1, 0, 1, fun _ _ => [⟨R.PMU_RTC_HI_TICKS, .ro, none, none⟩]⟩,
  -- PMU_ALARM
  ⟨0x40010028, 0, 1, 4, 2, fun _ k => [⟨R.PMU_ALARM_W k, .rw, none, none⟩]⟩,
  -- PMU_WAKE
  ⟨0x40010030, 0, 1, 0, 1, fun _ _ => [⟨R.PMU_WAKE_EN, .rw, none, none⟩, ⟨R.PMU_WAKE_SRC, .ro, none, none⟩]⟩,
  -- PMU_RETAIN
  ⟨0x40010034, 0, 1, 0, 1, fun _ _ => [⟨R.PMU_RETAIN_EN, .rw, none, none⟩]⟩,
  -- PMU_PMB
  ⟨0x40010038, 0, 1, 0, 1, fun _ _ => [⟨R.PMU_PMB_STATUS, .ro, none, none⟩, ⟨R.PMU_PMB_ERRORS, .ro, none, none⟩, ⟨R.PMU_PMB_VOUT_MODE, .ro, none, none⟩]⟩,
  -- PMU_PMBMEAS
  ⟨0x4001003C, 0, 1, 0, 1, fun _ _ => [⟨R.PMU_PMBMEAS_IOUT, .ro, none, none⟩, ⟨R.PMU_PMBMEAS_TEMP, .ro, none, none⟩]⟩,
  -- PMU_INT
  ⟨0x40010100, 0, 1, 0, 1, fun _ _ => [⟨R.PMU_INT_STATE, .w1c, none, none⟩, ⟨R.PMU_INT_PGTO, .w1c, none, none⟩, ⟨R.PMU_INT_PGLOST, .w1c, none, none⟩, ⟨R.PMU_INT_AVS, .w1c, none, none⟩, ⟨R.PMU_INT_NOREADY, .w1c, none, none⟩, ⟨R.PMU_INT_CLK, .w1c, none, none⟩, ⟨R.PMU_INT_REFUSED, .w1c, none, none⟩, ⟨R.PMU_INT_DVFS, .w1c, none, none⟩]⟩,
  -- PMU_INTEN
  ⟨0x40010104, 0, 1, 0, 1, fun _ _ => [⟨R.PMU_INTEN_EN, .rw, none, none⟩]⟩,
  -- PMU_TPOINT
  ⟨0x40010200, 0, 1, 0, 1, fun _ _ => [⟨R.PMU_TPOINT_REQ 0, .rw, none, none⟩, ⟨R.PMU_TPOINT_REQ 1, .rw, none, none⟩, ⟨R.PMU_TPOINT_REQ 2, .rw, none, none⟩, ⟨R.PMU_TPOINT_REQ 3, .rw, none, none⟩, ⟨R.PMU_TPOINT_REQ 4, .rw, none, none⟩, ⟨R.PMU_TPOINT_REQ 5, .rw, none, none⟩, ⟨R.PMU_TPOINT_REQ 6, .rw, none, none⟩, ⟨R.PMU_TPOINT_REQ 7, .rw, none, none⟩, ⟨R.PMU_TPOINT_REQ 8, .rw, none, none⟩, ⟨R.PMU_TPOINT_REQ 9, .rw, none, none⟩, ⟨R.PMU_TPOINT_REQ 10, .rw, none, none⟩, ⟨R.PMU_TPOINT_REQ 11, .rw, none, none⟩, ⟨R.PMU_TPOINT_REQ 12, .rw, none, none⟩, ⟨R.PMU_TPOINT_REQ 13, .rw, none, none⟩, ⟨R.PMU_TPOINT_REQ 14, .rw, none, none⟩, ⟨R.PMU_TPOINT_REQ 15, .rw, none, none⟩]⟩,
  -- PMU_TCAP
  ⟨0x40010204, 0, 1, 0, 1, fun _ _ => [⟨R.PMU_TCAP_CAP, .rw, none, none⟩]⟩,
  -- PMU_TPOINT_EFF
  ⟨0x40010208, 0, 1, 0, 1, fun _ _ => [⟨R.PMU_TPOINT_EFF_EFF 0, .ro, none, none⟩, ⟨R.PMU_TPOINT_EFF_EFF 1, .ro, none, none⟩, ⟨R.PMU_TPOINT_EFF_EFF 2, .ro, none, none⟩, ⟨R.PMU_TPOINT_EFF_EFF 3, .ro, none, none⟩, ⟨R.PMU_TPOINT_EFF_EFF 4, .ro, none, none⟩, ⟨R.PMU_TPOINT_EFF_EFF 5, .ro, none, none⟩, ⟨R.PMU_TPOINT_EFF_EFF 6, .ro, none, none⟩, ⟨R.PMU_TPOINT_EFF_EFF 7, .ro, none, none⟩, ⟨R.PMU_TPOINT_EFF_EFF 8, .ro, none, none⟩, ⟨R.PMU_TPOINT_EFF_EFF 9, .ro, none, none⟩, ⟨R.PMU_TPOINT_EFF_EFF 10, .ro, none, none⟩, ⟨R.PMU_TPOINT_EFF_EFF 11, .ro, none, none⟩, ⟨R.PMU_TPOINT_EFF_EFF 12, .ro, none, none⟩, ⟨R.PMU_TPOINT_EFF_EFF 13, .ro, none, none⟩, ⟨R.PMU_TPOINT_EFF_EFF 14, .ro, none, none⟩, ⟨R.PMU_TPOINT_EFF_EFF 15, .ro, none, none⟩]⟩,
  -- PMU_DVFS
  ⟨0x4001020C, 0, 1, 0, 1, fun _ _ => [⟨R.PMU_DVFS_FTOP, .ro, none, none⟩, ⟨R.PMU_DVFS_BUSY, .ro, none, none⟩, ⟨R.PMU_DVFS_PSEQ, .ro, none, none⟩, ⟨R.PMU_DVFS_VDD_AD_MV, .ro, none, none⟩]⟩,
  -- PMU_AVS
  ⟨0x40010210, 0, 1, 0, 1, fun _ _ => [⟨R.PMU_AVS_OFFSET_MV, .ro, none, none⟩]⟩]

/-- The rows of the CIL register tables. -/
def rowsCIL : List RegRow := [
  -- CIL_CTL
  ⟨0x40020000, 0, 1, 0, 1, fun _ _ => [⟨R.CIL_CTL_CMD, .wo, none, none⟩]⟩,
  -- CIL_STATUS
  ⟨0x40020004, 0, 1, 0, 1, fun _ _ => [⟨R.CIL_STATUS_BUSY, .ro, none, none⟩, ⟨R.CIL_STATUS_NOIMAGE, .ro, none, none⟩, ⟨R.CIL_STATUS_ACTIVE_SLOT, .ro, none, none⟩, ⟨R.CIL_STATUS_AUTH_NEEDED, .ro, none, none⟩, ⟨R.CIL_STATUS_RESULT, .ro, none, none⟩, ⟨R.CIL_STATUS_REASON, .ro, none, none⟩, ⟨R.CIL_STATUS_REPORT_N, .ro, none, none⟩, ⟨R.CIL_STATUS_REPORT_OVF, .ro, none, none⟩]⟩,
  -- CIL_SLOTST
  ⟨0x40020008, 0, 1, 0, 1, fun _ _ => [⟨R.CIL_SLOTST_A, .ro, none, none⟩, ⟨R.CIL_SLOTST_B, .ro, none, none⟩, ⟨R.CIL_SLOTST_DIS_A, .ro, none, none⟩, ⟨R.CIL_SLOTST_DIS_B, .ro, none, none⟩]⟩,
  -- CIL_ACTSEQ
  ⟨0x4002000C, 0, 1, 0, 1, fun _ _ => [⟨R.CIL_ACTSEQ_SEQ, .ro, none, none⟩]⟩,
  -- CIL_BUFADDR
  ⟨0x40020010, 0, 1, 0, 1, fun _ _ => [⟨R.CIL_BUFADDR_ADDR, .rw, none, none⟩]⟩,
  -- CIL_BUFLEN
  ⟨0x40020014, 0, 1, 0, 1, fun _ _ => [⟨R.CIL_BUFLEN_LEN, .rw, none, none⟩]⟩,
  -- CIL_INT
  ⟨0x40020018, 0, 1, 0, 1, fun _ _ => [⟨R.CIL_INT_DONE, .w1c, none, none⟩, ⟨R.CIL_INT_REJECT, .w1c, none, none⟩, ⟨R.CIL_INT_CLAMP, .w1c, none, none⟩, ⟨R.CIL_INT_REFUSED, .w1c, none, none⟩, ⟨R.CIL_INT_APPLYFAIL, .w1c, none, none⟩]⟩,
  -- CIL_INTEN
  ⟨0x4002001C, 0, 1, 0, 1, fun _ _ => [⟨R.CIL_INTEN_EN, .rw, none, none⟩]⟩,
  -- CIL_LOGSEQ
  ⟨0x40020020, 0, 1, 0, 1, fun _ _ => [⟨R.CIL_LOGSEQ_SEQ, .ro, none, none⟩]⟩,
  -- CIL_STAGEOFF
  ⟨0x40020024, 0, 1, 0, 1, fun _ _ => [⟨R.CIL_STAGEOFF_OFF, .ro, none, none⟩]⟩,
  -- CIL_REPORT
  ⟨0x40021000, 0, 1, 4, 1024, fun _ k => [⟨R.CIL_REPORT_W k, .ro, none, none⟩]⟩]

/-- The rows of the TEN register tables. -/
def rowsTEN : List RegRow := [
  -- TEN_CTL
  ⟨0x40030000, 0, 1, 0, 1, fun _ _ => [⟨R.TEN_CTL_AUDIT_EN, .rw, none, none⟩, ⟨R.TEN_CTL_AUTORESET_EN, .rw, none, none⟩]⟩,
  -- TEN_CMD
  ⟨0x40030004, 0, 1, 0, 1, fun _ _ => [⟨R.TEN_CMD_TENANT, .wo, none, none⟩, ⟨R.TEN_CMD_ACTION, .wo, none, none⟩]⟩,
  -- TEN_WINSEL
  ⟨0x40030008, 0, 1, 0, 1, fun _ _ => [⟨R.TEN_WINSEL_TENANT, .rw, none, none⟩, ⟨R.TEN_WINSEL_BASE256, .rw, none, none⟩]⟩,
  -- TEN_STATE
  ⟨0x40030010, 0, 1, 4, 16, fun _ k => [⟨R.TEN_STATE_STATE k, .ro, none, none⟩, ⟨R.TEN_STATE_CLASS k, .ro, none, none⟩, ⟨R.TEN_STATE_LEND_OK k, .ro, none, none⟩, ⟨R.TEN_STATE_RESETS_1H k, .ro, none, none⟩, ⟨R.TEN_STATE_FAULT k, .ro, none, none⟩]⟩,
  -- TEN_SQDB
  ⟨0x40030100, 0, 1, 4, 64, fun _ k => [⟨R.TEN_SQDB_TAIL k, .wo, none, none⟩]⟩,
  -- TEN_SQHD
  ⟨0x40030200, 0, 1, 4, 64, fun _ k => [⟨R.TEN_SQHD_HEAD k, .ro, none, none⟩]⟩,
  -- TEN_CQHD
  ⟨0x40030300, 0, 1, 4, 64, fun _ k => [⟨R.TEN_CQHD_HEAD k, .rw, none, none⟩]⟩,
  -- TEN_FAULTED
  ⟨0x40030400, 0, 1, 0, 1, fun _ _ => [⟨R.TEN_FAULTED_MASK, .ro, none, none⟩]⟩,
  -- TEN_AUDIT
  ⟨0x40030404, 0, 1, 0, 1, fun _ _ => [⟨R.TEN_AUDIT_PASSED, .ro, none, none⟩, ⟨R.TEN_AUDIT_SKIPPED, .ro, none, none⟩, ⟨R.TEN_AUDIT_FAILED, .ro, none, none⟩]⟩,
  -- TEN_AUDFAIL
  ⟨0x40030408, 0, 1, 0, 1, fun _ _ => [⟨R.TEN_AUDFAIL_REGION, .ro, none, none⟩, ⟨R.TEN_AUDFAIL_STEP, .ro, none, none⟩]⟩,
  -- TEN_VIOL
  ⟨0x4003040C, 0, 1, 0, 1, fun _ _ => [⟨R.TEN_VIOL_COUNT, .ro, none, none⟩, ⟨R.TEN_VIOL_LAST, .ro, none, none⟩]⟩,
  -- TEN_MAJOR
  ⟨0x40030410, 0, 1, 0, 1, fun _ _ => [⟨R.TEN_MAJOR_K, .ro, none, none⟩]⟩,
  -- TEN_LEND
  ⟨0x40030414, 0, 1, 0, 1, fun _ _ => [⟨R.TEN_LEND_LENDS, .ro, none, none⟩, ⟨R.TEN_LEND_LATE, .ro, none, none⟩]⟩,
  -- TEN_BW
  ⟨0x40030420, 0, 1, 4, 16, fun _ k => [⟨R.TEN_BW_STALL k, .ro, none, none⟩]⟩,
  -- TEN_INT
  ⟨0x40030480, 0, 1, 0, 1, fun _ _ => [⟨R.TEN_INT_FAULT, .w1c, none, none⟩, ⟨R.TEN_INT_CANARY, .w1c, none, none⟩, ⟨R.TEN_INT_DBREFUSED, .w1c, none, none⟩, ⟨R.TEN_INT_CMDREFUSED, .w1c, none, none⟩, ⟨R.TEN_INT_VIOL, .w1c, none, none⟩, ⟨R.TEN_INT_RESETDONE, .w1c, none, none⟩, ⟨R.TEN_INT_COMPL, .w1c, none, none⟩]⟩,
  -- TEN_INTEN
  ⟨0x40030484, 0, 1, 0, 1, fun _ _ => [⟨R.TEN_INTEN_EN, .rw, none, none⟩]⟩]

/-- The rows of the ASY register tables. -/
def rowsASY : List RegRow := [
  -- ASY_CTL
  ⟨0x40040000, 0, 1, 0, 1, fun _ _ => [⟨R.ASY_CTL_INTAKE, .ro, none, none⟩, ⟨R.ASY_CTL_COPIES_OK, .ro, none, none⟩]⟩,
  -- ASY_CMD
  ⟨0x40040004, 0, 1, 0, 1, fun _ _ => [⟨R.ASY_CMD_ACTION, .wo, none, none⟩]⟩,
  -- ASY_TRUST
  ⟨0x40040008, 0, 1, 0, 1, fun _ _ => [⟨R.ASY_TRUST_STATE, .ro, none, none⟩, ⟨R.ASY_TRUST_QUAL, .ro, none, none⟩, ⟨R.ASY_TRUST_ATTEMPT, .ro, none, none⟩, ⟨R.ASY_TRUST_CLEAN, .ro, none, none⟩]⟩,
  -- ASY_LADDER
  ⟨0x4004000C, 0, 1, 0, 1, fun _ _ => [⟨R.ASY_LADDER_IN_1S, .ro, none, none⟩, ⟨R.ASY_LADDER_LAST, .ro, none, none⟩, ⟨R.ASY_LADDER_TOTAL, .ro, none, none⟩]⟩,
  -- ASY_CFG0
  ⟨0x40040010, 0, 1, 0, 1, fun _ _ => [⟨R.ASY_CFG0_ZONE_EXPIRY_MS, .rwk, (some (50, 2000)), none⟩, ⟨R.ASY_CFG0_FLINT_MAXAGE_MS, .rwk, (some (125, 1000)), none⟩]⟩,
  -- ASY_CFG1
  ⟨0x40040014, 0, 1, 0, 1, fun _ _ => [⟨R.ASY_CFG1_STALE_MS, .rwk, (some (10, 100)), none⟩, ⟨R.ASY_CFG1_ABSENT_RUN, .rwk, (some (1, 8)), none⟩, ⟨R.ASY_CFG1_DEMOTE_REFUTED, .rwk, (some (1, 16)), none⟩]⟩,
  -- ASY_CFG2
  ⟨0x40040018, 0, 1, 0, 1, fun _ _ => [⟨R.ASY_CFG2_PROMOTE_CLEAN, .rwk, (some (100, 10000)), none⟩]⟩,
  -- ASY_ZONE
  ⟨0x4004001C, 0, 1, 0, 1, fun _ _ => [⟨R.ASY_ZONE_BITS, .ro, none, none⟩]⟩,
  -- ASY_ZEXP
  ⟨0x40040020, 0, 1, 4, 8, fun _ k => [⟨R.ASY_ZEXP_REMAIN_MS k, .ro, none, none⟩, ⟨R.ASY_ZEXP_RUNS k, .ro, none, none⟩]⟩,
  -- ASY_VB
  ⟨0x40040040, 0, 1, 0, 1, fun _ _ => [⟨R.ASY_VB_BELIEVED, .ro, none, none⟩]⟩,
  -- ASY_VW
  ⟨0x40040044, 0, 1, 0, 1, fun _ _ => [⟨R.ASY_VW_WITHHELD, .ro, none, none⟩]⟩,
  -- ASY_VR
  ⟨0x40040048, 0, 1, 0, 1, fun _ _ => [⟨R.ASY_VR_REFUTED, .ro, none, none⟩]⟩,
  -- ASY_VS
  ⟨0x4004004C, 0, 1, 0, 1, fun _ _ => [⟨R.ASY_VS_STALE, .ro, none, none⟩]⟩,
  -- ASY_INTAKE
  ⟨0x40040050, 0, 1, 0, 1, fun _ _ => [⟨R.ASY_INTAKE_FULL, .ro, none, none⟩, ⟨R.ASY_INTAKE_CLOSED, .ro, none, none⟩]⟩,
  -- ASY_LASTREF
  ⟨0x40040054, 0, 1, 0, 1, fun _ _ => [⟨R.ASY_LASTREF_REASON, .ro, none, none⟩, ⟨R.ASY_LASTREF_TENANT, .ro, none, none⟩, ⟨R.ASY_LASTREF_CAMERA, .ro, none, none⟩, ⟨R.ASY_LASTREF_RSEQ, .ro, none, none⟩]⟩,
  -- ASY_VHEAD
  ⟨0x40040058, 0, 1, 0, 1, fun _ _ => [⟨R.ASY_VHEAD_NEXT, .ro, none, none⟩, ⟨R.ASY_VHEAD_WRAPS, .ro, none, none⟩]⟩,
  -- ASY_RSEQ
  ⟨0x40040080, 0, 1, 4, 16, fun _ k => [⟨R.ASY_RSEQ_EXPECT k, .ro, none, none⟩]⟩,
  -- ASY_ZMAP
  ⟨0x40040100, 0, 1, 4, 64, fun _ k => [⟨R.ASY_ZMAP_W k, .rwk, none, none⟩]⟩,
  -- ASY_INT
  ⟨0x40040200, 0, 1, 0, 1, fun _ _ => [⟨R.ASY_INT_REFUTED, .w1c, none, none⟩, ⟨R.ASY_INT_TRUST, .w1c, none, none⟩, ⟨R.ASY_INT_ZONE, .w1c, none, none⟩, ⟨R.ASY_INT_QUALDONE, .w1c, none, none⟩, ⟨R.ASY_INT_QUALFAIL, .w1c, none, none⟩, ⟨R.ASY_INT_GIVEUP, .w1c, none, none⟩, ⟨R.ASY_INT_INTAKEDROP, .w1c, none, none⟩, ⟨R.ASY_INT_GAP, .w1c, none, none⟩, ⟨R.ASY_INT_REFUSED, .w1c, none, none⟩, ⟨R.ASY_INT_CLAMP, .w1c, none, none⟩]⟩,
  -- ASY_INTEN
  ⟨0x40040204, 0, 1, 0, 1, fun _ _ => [⟨R.ASY_INTEN_EN, .rw, none, none⟩]⟩,
  -- ASY_VRING
  ⟨0x40048000, 0, 1, 4, 5120, fun _ k => [⟨R.ASY_VRING_W k, .ro, none, none⟩]⟩]

/-- The rows of the STK register tables. -/
def rowsSTK : List RegRow := [
  -- STK_CTL
  ⟨0x40050000, 0, 1, 0, 1, fun _ _ => [⟨R.STK_CTL_NEGATE, .rwk, none, none⟩, ⟨R.STK_CTL_ROTATE, .rwk, none, none⟩]⟩,
  -- STK_RNG
  ⟨0x40050004, 0, 1, 0, 1, fun _ _ => [⟨R.STK_RNG_OK, .ro, none, none⟩, ⟨R.STK_RNG_FAILS, .ro, none, none⟩]⟩,
  -- STK_COV
  ⟨0x40050010, 0, 1, 4, 16, fun _ k => [⟨R.STK_COV_MIN_COVER_PCT k, .rwk, (some (50, 100)), none⟩, ⟨R.STK_COV_L k, .ro, none, none⟩, ⟨R.STK_COV_NSEL k, .ro, none, none⟩]⟩,
  -- STK_RUNS
  ⟨0x40050050, 0, 1, 4, 16, fun _ k => [⟨R.STK_RUNS_RUNS k, .ro, none, none⟩]⟩,
  -- STK_PAIRS_OK
  ⟨0x40050090, 0, 1, 0, 1, fun _ _ => [⟨R.STK_PAIRS_OK_COUNT, .ro, none, none⟩]⟩,
  -- STK_PAIRS_BAD
  ⟨0x40050094, 0, 1, 0, 1, fun _ _ => [⟨R.STK_PAIRS_BAD_COUNT, .ro, none, none⟩]⟩,
  -- STK_UNPROVEN
  ⟨0x40050098, 0, 1, 0, 1, fun _ _ => [⟨R.STK_UNPROVEN_COUNT, .ro, none, none⟩]⟩,
  -- STK_LASTBAD
  ⟨0x4005009C, 0, 1, 0, 1, fun _ _ => [⟨R.STK_LASTBAD_CHUNK, .ro, none, none⟩, ⟨R.STK_LASTBAD_TENANT, .ro, none, none⟩, ⟨R.STK_LASTBAD_CAMERA, .ro, none, none⟩, ⟨R.STK_LASTBAD_N, .ro, none, none⟩, ⟨R.STK_LASTBAD_R, .ro, none, none⟩]⟩,
  -- STK_INT
  ⟨0x400500A0, 0, 1, 0, 1, fun _ _ => [⟨R.STK_INT_MISMATCH, .w1c, none, none⟩, ⟨R.STK_INT_COVERSHORT, .w1c, none, none⟩, ⟨R.STK_INT_RNGFAIL, .w1c, none, none⟩, ⟨R.STK_INT_CLAMP, .w1c, none, none⟩]⟩,
  -- STK_INTEN
  ⟨0x400500A4, 0, 1, 0, 1, fun _ _ => [⟨R.STK_INTEN_EN, .rw, none, none⟩]⟩,
  -- STK_CHUNKS
  ⟨0x40051000, 0, 1, 4, 2048, fun _ k => [⟨R.STK_CHUNKS_W k, .rwk, none, none⟩]⟩]

/-- The rows of the FLT register tables. -/
def rowsFLT : List RegRow := [
  -- FLT_STAT
  ⟨0x40060000, 0, 1, 0, 1, fun _ _ => [⟨R.FLT_STAT_READY, .ro, none, none⟩, ⟨R.FLT_STAT_FAULTED, .ro, none, none⟩, ⟨R.FLT_STAT_KAT_OK, .ro, none, none⟩, ⟨R.FLT_STAT_KAT_FAILS, .ro, none, none⟩]⟩,
  -- FLT_CFG
  ⟨0x40060004, 0, 1, 0, 1, fun _ _ => [⟨R.FLT_CFG_THRESH, .rwk, (some (1, 254)), none⟩, ⟨R.FLT_CFG_FPS 0, .rwk, (some (1, 8)), none⟩, ⟨R.FLT_CFG_FPS 1, .rwk, (some (1, 8)), none⟩, ⟨R.FLT_CFG_FPS 2, .rwk, (some (1, 8)), none⟩, ⟨R.FLT_CFG_FPS 3, .rwk, (some (1, 8)), none⟩]⟩,
  -- FLT_ZMASK
  ⟨0x40060008, 0, 1, 4, 8, fun _ k => [⟨R.FLT_ZMASK_W k, .rwk, none, none⟩]⟩,
  -- FLT_RUN
  ⟨0x40060040, 0, 1, 4, 4, fun _ k => [⟨R.FLT_RUN_COPIES k, .ro, none, none⟩]⟩,
  -- FLT_CNT
  ⟨0x40060050, 0, 1, 0, 1, fun _ _ => [⟨R.FLT_CNT_OVERRUN, .ro, none, none⟩, ⟨R.FLT_CNT_CE, .ro, none, none⟩]⟩,
  -- FLT_SCORE
  ⟨0x40060100, 0, 1, 4, 64, fun _ k => [⟨R.FLT_SCORE_W k, .ro, none, none⟩]⟩,
  -- FLT_INT
  ⟨0x40060200, 0, 1, 0, 1, fun _ _ => [⟨R.FLT_INT_FAULT, .w1c, none, none⟩, ⟨R.FLT_INT_KATFAIL, .w1c, none, none⟩, ⟨R.FLT_INT_OVERRUN, .w1c, none, none⟩, ⟨R.FLT_INT_CLAMP, .w1c, none, none⟩]⟩,
  -- FLT_INTEN
  ⟨0x40060204, 0, 1, 0, 1, fun _ _ => [⟨R.FLT_INTEN_EN, .rw, none, none⟩]⟩]

/-- The rows of the ING register tables. -/
def rowsING : List RegRow := [
  -- ING_CTL
  ⟨0x40070000, 0, 1, 0, 1, fun _ _ => [⟨R.ING_CTL_RX_EN, .rw, none, none⟩]⟩,
  -- ING_RX
  ⟨0x40070010, 0, 1, 4, 2, fun _ k => [⟨R.ING_RX_LANES k, .rw, none, (some [1, 2, 4])⟩, ⟨R.ING_RX_LANEMAP k, .rw, none, none⟩, ⟨R.ING_RX_CLK_CONT k, .rw, none, none⟩, ⟨R.ING_RX_RATE_MBPS k, .rw, (some (80, 2500)), none⟩]⟩,
  -- ING_RXST
  ⟨0x40070020, 0, 1, 4, 2, fun _ k => [⟨R.ING_RXST_SOT_ERR k, .ro, none, none⟩, ⟨R.ING_RXST_DROP k, .ro, none, none⟩, ⟨R.ING_RXST_ULPS k, .ro, none, none⟩, ⟨R.ING_RXST_DESKEWED k, .ro, none, none⟩]⟩,
  -- ING_CAM_CFG
  ⟨0x40070100, 0, 1, 32, 4, fun _ k => [⟨R.ING_CAM_CFG_EN k, .rwk, none, none⟩, ⟨R.ING_CAM_CFG_PORT k, .rwk, none, none⟩, ⟨R.ING_CAM_CFG_VC k, .rwk, none, none⟩, ⟨R.ING_CAM_CFG_DTYPE k, .rwk, none, (some [0, 1, 2])⟩, ⟨R.ING_CAM_CFG_SAFE k, .ro, none, none⟩]⟩,
  -- ING_CAM_GEOM
  ⟨0x40070104, 0, 1, 32, 4, fun _ k => [⟨R.ING_CAM_GEOM_WIDTH k, .rwk, none, none⟩, ⟨R.ING_CAM_GEOM_HEIGHT k, .rwk, none, none⟩]⟩,
  -- ING_CAM_TIME
  ⟨0x40070108, 0, 1, 32, 4, fun _ k => [⟨R.ING_CAM_TIME_FTO_MS k, .rw, (some (10, 255)), none⟩, ⟨R.ING_CAM_TIME_MIN_FI_MS k, .rw, (some (1, 100)), none⟩]⟩,
  -- ING_CAM_SIL
  ⟨0x4007010C, 0, 1, 32, 4, fun _ k => [⟨R.ING_CAM_SIL_SILENCE_MS k, .rw, (some (50, 10000)), none⟩]⟩,
  -- ING_CAM_FCNT
  ⟨0x40070110, 0, 1, 32, 4, fun _ k => [⟨R.ING_CAM_FCNT_FCNT k, .ro, none, none⟩]⟩,
  -- ING_CAM_STAT
  ⟨0x40070114, 0, 1, 32, 4, fun _ k => [⟨R.ING_CAM_STAT_HEALTH k, .ro, none, none⟩, ⟨R.ING_CAM_STAT_LAST k, .ro, none, none⟩, ⟨R.ING_CAM_STAT_BAD_1S k, .ro, none, none⟩, ⟨R.ING_CAM_STAT_OK_RUN k, .ro, none, none⟩]⟩,
  -- ING_CAM_ERR
  ⟨0x40070118, 0, 1, 32, 4, fun _ k => [⟨R.ING_CAM_ERR_HDR_CE k, .ro, none, none⟩, ⟨R.ING_CAM_ERR_DROP k, .ro, none, none⟩]⟩,
  -- ING_CAM_COPY
  ⟨0x4007011C, 0, 1, 32, 4, fun _ k => [⟨R.ING_CAM_COPY_COPIED k, .ro, none, none⟩, ⟨R.ING_CAM_COPY_DROPPED k, .ro, none, none⟩]⟩,
  -- ING_INT
  ⟨0x40070200, 0, 1, 0, 1, fun _ _ => [⟨R.ING_INT_FRAMEBAD, .w1c, none, none⟩, ⟨R.ING_INT_UNHEALTHY, .w1c, none, none⟩, ⟨R.ING_INT_HEALTHY, .w1c, none, none⟩, ⟨R.ING_INT_FWDOVF, .w1c, none, none⟩, ⟨R.ING_INT_PHY, .w1c, none, none⟩, ⟨R.ING_INT_COPYDROP, .w1c, none, none⟩, ⟨R.ING_INT_CFGREFUSED, .w1c, none, none⟩, ⟨R.ING_INT_CLAMP, .w1c, none, none⟩]⟩,
  -- ING_INTEN
  ⟨0x40070204, 0, 1, 0, 1, fun _ _ => [⟨R.ING_INTEN_EN, .rw, none, none⟩]⟩]

/-- The rows of the SIL register tables. -/
def rowsSIL : List RegRow := [
  -- SIL_CTL
  ⟨0x40080000, 0, 1, 0, 1, fun _ _ => [⟨R.SIL_CTL_RETRAIN, .wo, none, none⟩, ⟨R.SIL_CTL_FULLTRAIN, .wo, none, none⟩, ⟨R.SIL_CTL_SILLRST, .wo, none, none⟩]⟩,
  -- SIL_STATUS
  ⟨0x40080004, 0, 1, 0, 1, fun _ _ => [⟨R.SIL_STATUS_STATE, .ro, none, none⟩, ⟨R.SIL_STATUS_LANES, .ro, none, none⟩, ⟨R.SIL_STATUS_READY, .ro, none, none⟩, ⟨R.SIL_STATUS_TXSEQ, .ro, none, none⟩]⟩,
  -- SIL_PM
  ⟨0x40080008, 0, 1, 0, 1, fun _ _ => [⟨R.SIL_PM_DOZE_IDLE_US, .rw, (some (1, 1000)), none⟩, ⟨R.SIL_PM_SLEEP_AFTER_US, .rw, (some (0, 65535)), none⟩, ⟨R.SIL_PM_SLEEP_REQ, .wo, none, none⟩, ⟨R.SIL_PM_RESUME, .wo, none, none⟩]⟩,
  -- SIL_ARB
  ⟨0x4008000C, 0, 1, 0, 1, fun _ _ => [⟨R.SIL_ARB_VC1_SHARE, .rw, (some (4, 12)), none⟩]⟩,
  -- SIL_CRED
  ⟨0x40080010, 0, 1, 4, 4, fun _ k => [⟨R.SIL_CRED_TX k, .ro, none, none⟩, ⟨R.SIL_CRED_RX k, .ro, none, none⟩]⟩,
  -- SIL_VCCNT
  ⟨0x40080020, 0, 1, 4, 4, fun _ k => [⟨R.SIL_VCCNT_TXMSG k, .ro, none, none⟩, ⟨R.SIL_VCCNT_RXMSG k, .ro, none, none⟩]⟩,
  -- SIL_ERR
  ⟨0x40080030, 0, 1, 0, 1, fun _ _ => [⟨R.SIL_ERR_CRC, .ro, none, none⟩, ⟨R.SIL_ERR_NAK, .ro, none, none⟩, ⟨R.SIL_ERR_RETRAIN, .ro, none, none⟩, ⟨R.SIL_ERR_EVDROP, .ro, none, none⟩]⟩,
  -- SIL_VIOL
  ⟨0x40080034, 0, 1, 0, 1, fun _ _ => [⟨R.SIL_VIOL_COUNT, .ro, none, none⟩, ⟨R.SIL_VIOL_LAST, .ro, none, none⟩]⟩,
  -- SIL_DBG
  ⟨0x40080038, 0, 1, 0, 1, fun _ _ => [⟨R.SIL_DBG_EN, .rwk, none, none⟩]⟩,
  -- SIL_INT
  ⟨0x40080040, 0, 1, 0, 1, fun _ _ => [⟨R.SIL_INT_UP, .w1c, none, none⟩, ⟨R.SIL_INT_RETRAIN, .w1c, none, none⟩, ⟨R.SIL_INT_DOWN, .w1c, none, none⟩, ⟨R.SIL_INT_VIOL, .w1c, none, none⟩, ⟨R.SIL_INT_MEMTO, .w1c, none, none⟩, ⟨R.SIL_INT_READY, .w1c, none, none⟩, ⟨R.SIL_INT_CLAMP, .w1c, none, none⟩]⟩,
  -- SIL_INTEN
  ⟨0x40080044, 0, 1, 0, 1, fun _ _ => [⟨R.SIL_INTEN_EN, .rw, none, none⟩]⟩]

/-- The rows of the NET register tables. -/
def rowsNET : List RegRow := [
  -- NET_CTL
  ⟨0x40090000, 0, 1, 0, 1, fun _ _ => [⟨R.NET_CTL_PORT_EN, .rw, none, none⟩, ⟨R.NET_CTL_LEARN_EN, .rw, none, none⟩]⟩,
  -- NET_MACLO
  ⟨0x40090004, 0, 1, 0, 1, fun _ _ => [⟨R.NET_MACLO_MAC, .rw, none, none⟩]⟩,
  -- NET_MACHI
  ⟨0x40090008, 0, 1, 0, 1, fun _ _ => [⟨R.NET_MACHI_MAC, .rw, none, none⟩]⟩,
  -- NET_MCAST
  ⟨0x4009000C, 0, 1, 0, 1, fun _ _ => [⟨R.NET_MCAST_HASH, .rw, none, none⟩]⟩,
  -- NET_PORT_ST
  ⟨0x40090010, 0, 1, 32, 2, fun _ k => [⟨R.NET_PORT_ST_MODE k, .ro, none, none⟩, ⟨R.NET_PORT_ST_LINK k, .ro, none, none⟩, ⟨R.NET_PORT_ST_OFF k, .ro, none, none⟩, ⟨R.NET_PORT_ST_DOWNS k, .ro, none, none⟩]⟩,
  -- NET_PORT_LAT
  ⟨0x40090014, 0, 1, 32, 2, fun _ k => [⟨R.NET_PORT_LAT_RX_PHY_NS k, .rw, (some (0, 4000)), none⟩, ⟨R.NET_PORT_LAT_TX_PHY_NS k, .rw, (some (0, 4000)), none⟩]⟩,
  -- NET_PORT_LINKDLY
  ⟨0x40090018, 0, 1, 32, 2, fun _ k => [⟨R.NET_PORT_LINKDLY_DLY k, .rw, none, none⟩]⟩,
  -- NET_PORT_STORM
  ⟨0x4009001C, 0, 1, 32, 2, fun _ k => [⟨R.NET_PORT_STORM_FPS k, .rw, (some (100, 65535)), none⟩]⟩,
  -- NET_PORT_RX
  ⟨0x40090020, 0, 1, 32, 2, fun _ k => [⟨R.NET_PORT_RX_FRAMES k, .ro, none, none⟩]⟩,
  -- NET_PORT_BAD
  ⟨0x40090024, 0, 1, 32, 2, fun _ k => [⟨R.NET_PORT_BAD_FCS k, .ro, none, none⟩, ⟨R.NET_PORT_BAD_OTHER k, .ro, none, none⟩]⟩,
  -- NET_MDIO_CMD
  ⟨0x40090080, 0, 1, 0, 1, fun _ _ => [⟨R.NET_MDIO_CMD_OP, .wo, none, none⟩, ⟨R.NET_MDIO_CMD_PHYAD, .wo, none, none⟩, ⟨R.NET_MDIO_CMD_REG, .wo, none, none⟩, ⟨R.NET_MDIO_CMD_GO, .wo, none, none⟩]⟩,
  -- NET_MDIO_DATA
  ⟨0x40090084, 0, 1, 0, 1, fun _ _ => [⟨R.NET_MDIO_DATA_DATA, .rw, none, none⟩]⟩,
  -- NET_MDIO_ST
  ⟨0x40090088, 0, 1, 0, 1, fun _ _ => [⟨R.NET_MDIO_ST_BUSY, .ro, none, none⟩, ⟨R.NET_MDIO_ST_RESULT, .ro, none, none⟩]⟩,
  -- NET_MDIO_CFG
  ⟨0x4009008C, 0, 1, 0, 1, fun _ _ => [⟨R.NET_MDIO_CFG_DIV, .rw, (some (25, 255)), none⟩]⟩,
  -- NET_RXQ_BASE
  ⟨0x40090100, 0, 1, 16, 17, fun _ k => [⟨R.NET_RXQ_BASE_ADDR k, .rw, none, none⟩]⟩,
  -- NET_RXQ_SIZE
  ⟨0x40090104, 0, 1, 16, 17, fun _ k => [⟨R.NET_RXQ_SIZE_N k, .rw, (some (16, 1024)), none⟩, ⟨R.NET_RXQ_SIZE_EN k, .rw, none, none⟩]⟩,
  -- NET_RXQ_TAIL
  ⟨0x40090108, 0, 1, 16, 17, fun _ k => [⟨R.NET_RXQ_TAIL_TAIL k, .rw, none, none⟩]⟩,
  -- NET_RXQ_HEAD
  ⟨0x4009010C, 0, 1, 16, 17, fun _ k => [⟨R.NET_RXQ_HEAD_HEAD k, .ro, none, none⟩, ⟨R.NET_RXQ_HEAD_DROP k, .ro, none, none⟩]⟩,
  -- NET_TXR_BASE
  ⟨0x40090300, 0, 1, 0, 1, fun _ _ => [⟨R.NET_TXR_BASE_ADDR, .rw, none, none⟩]⟩,
  -- NET_TXR_SIZE
  ⟨0x40090304, 0, 1, 0, 1, fun _ _ => [⟨R.NET_TXR_SIZE_N, .rw, (some (16, 1024)), none⟩, ⟨R.NET_TXR_SIZE_EN, .rw, none, none⟩]⟩,
  -- NET_TXR_TAIL
  ⟨0x40090308, 0, 1, 0, 1, fun _ _ => [⟨R.NET_TXR_TAIL_TAIL, .rw, none, none⟩]⟩,
  -- NET_TXR_HEAD
  ⟨0x4009030C, 0, 1, 0, 1, fun _ _ => [⟨R.NET_TXR_HEAD_HEAD, .ro, none, none⟩, ⟨R.NET_TXR_HEAD_DROP, .ro, none, none⟩]⟩,
  -- NET_TXSTAMP1
  ⟨0x40090310, 0, 1, 0, 1, fun _ _ => [⟨R.NET_TXSTAMP1_STAMP, .ro, none, none⟩]⟩,
  -- NET_PTPSTAT
  ⟨0x40090400, 0, 1, 0, 1, fun _ _ => [⟨R.NET_PTPSTAT_CORRECTED, .ro, none, none⟩, ⟨R.NET_PTPSTAT_UNCORR, .ro, none, none⟩, ⟨R.NET_PTPSTAT_FUP_ORPHAN, .ro, none, none⟩]⟩,
  -- NET_INT
  ⟨0x40090480, 0, 1, 0, 1, fun _ _ => [⟨R.NET_INT_RX, .w1c, none, none⟩, ⟨R.NET_INT_TX, .w1c, none, none⟩, ⟨R.NET_INT_LINK, .w1c, none, none⟩, ⟨R.NET_INT_DROP, .w1c, none, none⟩, ⟨R.NET_INT_PTPBAD, .w1c, none, none⟩, ⟨R.NET_INT_RINGERR, .w1c, none, none⟩, ⟨R.NET_INT_MDIO, .w1c, none, none⟩, ⟨R.NET_INT_CLAMP, .w1c, none, none⟩]⟩,
  -- NET_INTEN
  ⟨0x40090484, 0, 1, 0, 1, fun _ _ => [⟨R.NET_INTEN_EN, .rw, none, none⟩]⟩]

/-- The rows of the TIM register tables. -/
def rowsTIM : List RegRow := [
  -- TIM_CMD
  ⟨0x400A0000, 0, 1, 0, 1, fun _ _ => [⟨R.TIM_CMD_SNAP, .wo, none, none⟩, ⟨R.TIM_CMD_TB3_ALIGN, .wo, none, none⟩, ⟨R.TIM_CMD_SEL_A, .wo, none, none⟩, ⟨R.TIM_CMD_SEL_B, .wo, none, none⟩]⟩,
  -- TIM_STAT
  ⟨0x400A0004, 0, 1, 0, 1, fun _ _ => [⟨R.TIM_STAT_SEL, .ro, none, none⟩, ⟨R.TIM_STAT_HOLDOVER, .ro, none, none⟩, ⟨R.TIM_STAT_ABSORBING, .ro, none, none⟩, ⟨R.TIM_STAT_A_ARRIVING, .ro, none, none⟩, ⟨R.TIM_STAT_B_ARRIVING, .ro, none, none⟩]⟩,
  -- TIM_DOM
  ⟨0x400A0008, 0, 1, 0, 1, fun _ _ => [⟨R.TIM_DOM_DOMAIN_A, .ro, none, none⟩, ⟨R.TIM_DOM_DOMAIN_B, .ro, none, none⟩, ⟨R.TIM_DOM_TC_MODE, .ro, none, none⟩, ⟨R.TIM_DOM_SYNCTO_MS, .rw, (some (10, 10000)), none⟩, ⟨R.TIM_DOM_LOCK_A, .rw, none, none⟩, ⟨R.TIM_DOM_LOCK_B, .rw, none, none⟩]⟩,
  -- TIM_SWITCH
  ⟨0x400A000C, 0, 1, 0, 1, fun _ _ => [⟨R.TIM_SWITCH_SWITCH_NS, .rw, (some (100, 1000000)), none⟩]⟩,
  -- TIM_SLEW
  ⟨0x400A0010, 0, 1, 0, 1, fun _ _ => [⟨R.TIM_SLEW_SLEW_PPB, .rw, (some (1000, 100000)), none⟩]⟩,
  -- TIM_D
  ⟨0x400A0014, 0, 1, 0, 1, fun _ _ => [⟨R.TIM_D_D, .ro, none, none⟩]⟩,
  -- TIM_TB_NS
  ⟨0x400A0020, 0, 1, 16, 4, fun _ k => [⟨R.TIM_TB_NS_NS k, .ro, none, none⟩]⟩,
  -- TIM_TB_ADJ
  ⟨0x400A0024, 0, 1, 16, 4, fun _ k => [⟨R.TIM_TB_ADJ_PPB k, (if k < 2 then .rw else .ro), (some (-500000, 500000)), none⟩]⟩,
  -- TIM_TB_STEP
  ⟨0x400A0028, 0, 1, 16, 4, fun _ k => [⟨R.TIM_TB_STEP_NS k, .wo, none, none⟩]⟩,
  -- TIM_TB_SNAP
  ⟨0x400A002C, 0, 1, 16, 4, fun _ k => [⟨R.TIM_TB_SNAP_NS k, .ro, none, none⟩]⟩,
  -- TIM_TTRG_CFG
  ⟨0x400A0080, 0, 1, 16, 8, fun _ k => [⟨R.TIM_TTRG_CFG_TARGET k, .rw, none, none⟩, ⟨R.TIM_TTRG_CFG_BASE k, .rw, none, none⟩, ⟨R.TIM_TTRG_CFG_EN k, .rw, none, none⟩, ⟨R.TIM_TTRG_CFG_HALF k, .rw, none, none⟩, ⟨R.TIM_TTRG_CFG_WIDTH_NS k, .rw, (some (16, 65535)), none⟩]⟩,
  -- TIM_TTRG_PERIOD
  ⟨0x400A0084, 0, 1, 16, 8, fun _ k => [⟨R.TIM_TTRG_PERIOD_NS k, .rw, (some (1000, 4000000000)), none⟩]⟩,
  -- TIM_TTRG_PHASE
  ⟨0x400A0088, 0, 1, 16, 8, fun _ k => [⟨R.TIM_TTRG_PHASE_NS k, .rw, none, none⟩]⟩,
  -- TIM_TTRG_NEXT
  ⟨0x400A008C, 0, 1, 16, 8, fun _ k => [⟨R.TIM_TTRG_NEXT_NS k, .rw, none, none⟩]⟩,
  -- TIM_TTRGCNT
  ⟨0x400A0100, 0, 1, 4, 8, fun _ k => [⟨R.TIM_TTRGCNT_FIRED k, .ro, none, none⟩, ⟨R.TIM_TTRGCNT_MISSED k, .ro, none, none⟩]⟩,
  -- TIM_INT
  ⟨0x400A0200, 0, 1, 0, 1, fun _ _ => [⟨R.TIM_INT_WRAP, .w1c, none, none⟩, ⟨R.TIM_INT_SWITCH, .w1c, none, none⟩, ⟨R.TIM_INT_LOSS_A, .w1c, none, none⟩, ⟨R.TIM_INT_LOSS_B, .w1c, none, none⟩, ⟨R.TIM_INT_HOLDOVER, .w1c, none, none⟩, ⟨R.TIM_INT_TTRG, .w1c, none, none⟩, ⟨R.TIM_INT_MISS, .w1c, none, none⟩, ⟨R.TIM_INT_REFUSED, .w1c, none, none⟩, ⟨R.TIM_INT_CLAMP, .w1c, none, none⟩]⟩,
  -- TIM_INTEN
  ⟨0x400A0204, 0, 1, 0, 1, fun _ _ => [⟨R.TIM_INTEN_EN, .rw, none, none⟩]⟩]

/-- The rows of the CRN register tables. -/
def rowsCRN : List RegRow := [
  -- CRN_CTL
  ⟨0x400B0000, 0, 1, 0, 1, fun _ _ => [⟨R.CRN_CTL_EN, .rw, none, none⟩]⟩,
  -- CRN_CMD
  ⟨0x400B0004, 0, 1, 0, 1, fun _ _ => [⟨R.CRN_CMD_RESTART, .wo, none, none⟩, ⟨R.CRN_CMD_REVERT, .wo, none, none⟩]⟩,
  -- CRN_STAT
  ⟨0x400B0008, 0, 1, 0, 1, fun _ _ => [⟨R.CRN_STAT_STATE, .ro, none, none⟩, ⟨R.CRN_STAT_COUNT, .ro, none, none⟩, ⟨R.CRN_STAT_EPOCH, .ro, none, none⟩]⟩,
  -- CRN_HEADKEY
  ⟨0x400B000C, 0, 1, 4, 2, fun _ k => [⟨R.CRN_HEADKEY_W k, .ro, none, none⟩]⟩,
  -- CRN_SELF
  ⟨0x400B0014, 0, 1, 0, 1, fun _ _ => [⟨R.CRN_SELF_RANK, .ro, none, none⟩, ⟨R.CRN_SELF_POSITION, .ro, none, none⟩, ⟨R.CRN_SELF_ACTING, .ro, none, none⟩]⟩,
  -- CRN_SUCC
  ⟨0x400B0018, 0, 1, 4, 2, fun _ k => [⟨R.CRN_SUCC_W k, .ro, none, none⟩]⟩,
  -- CRN_PRED
  ⟨0x400B0020, 0, 1, 4, 2, fun _ k => [⟨R.CRN_PRED_W k, .ro, none, none⟩]⟩,
  -- CRN_TIMER
  ⟨0x400B0028, 0, 1, 0, 1, fun _ _ => [⟨R.CRN_TIMER_HELLO_MS, .rw, (some (10, 1000)), none⟩, ⟨R.CRN_TIMER_ROSTER_MS, .rw, (some (100, 1000)), none⟩]⟩,
  -- CRN_RXWIN_BASELO
  ⟨0x400B0040, 0, 1, 16, 3, fun _ k => [⟨R.CRN_RXWIN_BASELO_ADDR (k + 1), .rw, none, none⟩]⟩,
  -- CRN_RXWIN_BASEHI
  ⟨0x400B0044, 0, 1, 16, 3, fun _ k => [⟨R.CRN_RXWIN_BASEHI_ADDR (k + 1), .rw, none, none⟩]⟩,
  -- CRN_RXWIN_SIZE
  ⟨0x400B0048, 0, 1, 16, 3, fun _ k => [⟨R.CRN_RXWIN_SIZE_BYTES (k + 1), .rw, none, none⟩]⟩,
  -- CRN_TXQ_BASE
  ⟨0x400B0080, 0, 1, 0, 1, fun _ _ => [⟨R.CRN_TXQ_BASE_ADDR, .rw, none, none⟩]⟩,
  -- CRN_TXQ_SIZE
  ⟨0x400B0084, 0, 1, 0, 1, fun _ _ => [⟨R.CRN_TXQ_SIZE_N, .rw, (some (16, 1024)), none⟩, ⟨R.CRN_TXQ_SIZE_EN, .rw, none, none⟩]⟩,
  -- CRN_TXQ_TAIL
  ⟨0x400B0088, 0, 1, 0, 1, fun _ _ => [⟨R.CRN_TXQ_TAIL_TAIL, .rw, none, none⟩]⟩,
  -- CRN_TXQ_HEAD
  ⟨0x400B008C, 0, 1, 0, 1, fun _ _ => [⟨R.CRN_TXQ_HEAD_HEAD, .ro, none, none⟩, ⟨R.CRN_TXQ_HEAD_DROP, .ro, none, none⟩]⟩,
  -- CRN_MRX_BASE
  ⟨0x400B0090, 0, 1, 0, 1, fun _ _ => [⟨R.CRN_MRX_BASE_ADDR, .rw, none, none⟩]⟩,
  -- CRN_MRX_SIZE
  ⟨0x400B0094, 0, 1, 0, 1, fun _ _ => [⟨R.CRN_MRX_SIZE_N, .rw, (some (16, 1024)), none⟩, ⟨R.CRN_MRX_SIZE_EN, .rw, none, none⟩]⟩,
  -- CRN_MRX_TAIL
  ⟨0x400B0098, 0, 1, 0, 1, fun _ _ => [⟨R.CRN_MRX_TAIL_TAIL, .rw, none, none⟩]⟩,
  -- CRN_MRX_HEAD
  ⟨0x400B009C, 0, 1, 0, 1, fun _ _ => [⟨R.CRN_MRX_HEAD_HEAD, .ro, none, none⟩, ⟨R.CRN_MRX_HEAD_DROP, .ro, none, none⟩]⟩,
  -- CRN_MTX_BASE
  ⟨0x400B00A0, 0, 1, 0, 1, fun _ _ => [⟨R.CRN_MTX_BASE_ADDR, .rw, none, none⟩]⟩,
  -- CRN_MTX_SIZE
  ⟨0x400B00A4, 0, 1, 0, 1, fun _ _ => [⟨R.CRN_MTX_SIZE_N, .rw, (some (16, 1024)), none⟩, ⟨R.CRN_MTX_SIZE_EN, .rw, none, none⟩]⟩,
  -- CRN_MTX_TAIL
  ⟨0x400B00A8, 0, 1, 0, 1, fun _ _ => [⟨R.CRN_MTX_TAIL_TAIL, .rw, none, none⟩]⟩,
  -- CRN_MTX_HEAD
  ⟨0x400B00AC, 0, 1, 0, 1, fun _ _ => [⟨R.CRN_MTX_HEAD_HEAD, .ro, none, none⟩, ⟨R.CRN_MTX_HEAD_DROP, .ro, none, none⟩]⟩,
  -- CRN_CNT
  ⟨0x400B00C0, 0, 1, 0, 1, fun _ _ => [⟨R.CRN_CNT_YIELDS, .ro, none, none⟩, ⟨R.CRN_CNT_STALE, .ro, none, none⟩, ⟨R.CRN_CNT_RXEXPIRED, .ro, none, none⟩, ⟨R.CRN_CNT_XFAIL, .ro, none, none⟩]⟩,
  -- CRN_VIOL
  ⟨0x400B00C4, 0, 1, 0, 1, fun _ _ => [⟨R.CRN_VIOL_COUNT, .ro, none, none⟩, ⟨R.CRN_VIOL_LOOPS, .ro, none, none⟩]⟩,
  -- CRN_ROSTER
  ⟨0x400B0100, 0, 1, 4, 256, fun _ k => [⟨R.CRN_ROSTER_W k, .ro, none, none⟩]⟩,
  -- CRN_INT
  ⟨0x400B0800, 0, 1, 0, 1, fun _ _ => [⟨R.CRN_INT_STATE, .w1c, none, none⟩, ⟨R.CRN_INT_ROSTER, .w1c, none, none⟩, ⟨R.CRN_INT_MSG, .w1c, none, none⟩, ⟨R.CRN_INT_TXDONE, .w1c, none, none⟩, ⟨R.CRN_INT_XFAIL, .w1c, none, none⟩, ⟨R.CRN_INT_RINGERR, .w1c, none, none⟩, ⟨R.CRN_INT_CLAMP, .w1c, none, none⟩]⟩,
  -- CRN_INTEN
  ⟨0x400B0804, 0, 1, 0, 1, fun _ _ => [⟨R.CRN_INTEN_EN, .rw, none, none⟩]⟩]

/-- The rows of the LUX register tables. -/
def rowsLUX : List RegRow := [
  -- LUX_CTL
  ⟨0x400C0000, 0, 1, 0, 1, fun _ _ => [⟨R.LUX_CTL_CH_EN, .rwk, none, none⟩, ⟨R.LUX_CTL_FAILOVER, .rwk, none, none⟩]⟩,
  -- LUX_CFG0
  ⟨0x400C0004, 0, 1, 0, 1, fun _ _ => [⟨R.LUX_CFG0_FLOOR_OCC, .rwk, (some (10, 100)), none⟩, ⟨R.LUX_CFG0_FLOOR_DARK, .rwk, (some (1, 100)), none⟩, ⟨R.LUX_CFG0_DIM_RATE, .rwk, (some (1, 50)), none⟩, ⟨R.LUX_CFG0_FAILOVER_LEVEL, .rwk, (some (10, 100)), none⟩]⟩,
  -- LUX_CFG1
  ⟨0x400C0008, 0, 1, 0, 1, fun _ _ => [⟨R.LUX_CFG1_RAMP_UP, .rwk, (some (10, 1000)), none⟩, ⟨R.LUX_CFG1_ZONES, .rwk, (some (1, 8)), none⟩, ⟨R.LUX_CFG1_DARK_SRC, .rwk, none, (some [0, 1, 2])⟩, ⟨R.LUX_CFG1_DARK_LUX, .rwk, (some (1, 200)), none⟩]⟩,
  -- LUX_CH
  ⟨0x400C0010, 0, 1, 32, 2, fun _ k => [⟨R.LUX_CH_I_MAX_MA k, .rwk, (some (100, 3000)), none⟩, ⟨R.LUX_CH_OC_MA k, .rwk, (some (110, 3300)), none⟩]⟩,
  -- LUX_GATE
  ⟨0x400C0014, 0, 1, 32, 2, fun _ k => [⟨R.LUX_GATE_SLOPE k, .rw, none, none⟩, ⟨R.LUX_GATE_LEB_NS k, .rw, (some (100, 400)), none⟩]⟩,
  -- LUX_ST
  ⟨0x400C0018, 0, 1, 32, 2, fun _ k => [⟨R.LUX_ST_STATE k, .ro, none, none⟩, ⟨R.LUX_ST_FAILOVER k, .ro, none, none⟩, ⟨R.LUX_ST_PHASE k, .ro, none, none⟩, ⟨R.LUX_ST_RETRIES k, .ro, none, none⟩, ⟨R.LUX_ST_CAUSE k, .ro, none, none⟩, ⟨R.LUX_ST_LEVEL k, .ro, none, none⟩]⟩,
  -- LUX_MEAS
  ⟨0x400C001C, 0, 1, 32, 2, fun _ k => [⟨R.LUX_MEAS_I_AVG_MA k, .ro, none, none⟩, ⟨R.LUX_MEAS_VSTR k, .ro, none, none⟩]⟩,
  -- LUX_STR
  ⟨0x400C0020, 0, 1, 32, 2, fun _ k => [⟨R.LUX_STR_OV_CODE k, .rw, none, none⟩, ⟨R.LUX_STR_UV_CODE k, .rw, none, none⟩]⟩,
  -- LUX_LEVEL
  ⟨0x400C0100, 0, 1, 0, 1, fun _ _ => [⟨R.LUX_LEVEL_TARGET, .ro, none, none⟩, ⟨R.LUX_LEVEL_OUT, .ro, none, none⟩]⟩,
  -- LUX_ZREQ
  ⟨0x400C0104, 0, 1, 4, 8, fun _ k => [⟨R.LUX_ZREQ_REQ k, .rw, (some (0, 1000)), none⟩]⟩,
  -- LUX_DARK
  ⟨0x400C0140, 0, 1, 0, 1, fun _ _ => [⟨R.LUX_DARK_LUXIN, .rw, none, none⟩, ⟨R.LUX_DARK_SCHED, .rw, none, none⟩, ⟨R.LUX_DARK_DARK, .ro, none, none⟩, ⟨R.LUX_DARK_LUXIN_TO, .ro, none, none⟩, ⟨R.LUX_DARK_SCHED_TO, .ro, none, none⟩, ⟨R.LUX_DARK_PIR, .ro, none, none⟩]⟩,
  -- LUX_INT
  ⟨0x400C0200, 0, 1, 0, 1, fun _ _ => [⟨R.LUX_INT_SC, .w1c, none, none⟩, ⟨R.LUX_INT_OC, .w1c, none, none⟩, ⟨R.LUX_INT_LATCHED, .w1c, none, none⟩, ⟨R.LUX_INT_FAILOVER, .w1c, none, none⟩, ⟨R.LUX_INT_STRING, .w1c, none, none⟩, ⟨R.LUX_INT_MON, .w1c, none, none⟩, ⟨R.LUX_INT_PREEMPT, .w1c, none, none⟩, ⟨R.LUX_INT_DARK, .w1c, none, none⟩, ⟨R.LUX_INT_SFL1, .w1c, none, none⟩, ⟨R.LUX_INT_CLAMP, .w1c, none, none⟩]⟩,
  -- LUX_INTEN
  ⟨0x400C0204, 0, 1, 0, 1, fun _ _ => [⟨R.LUX_INTEN_EN, .rw, none, none⟩]⟩]

/-- The rows of the TLT register tables. -/
def rowsTLT : List RegRow := [
  -- TLT_CTL
  ⟨0x400D0000, 0, 1, 0, 1, fun _ _ => [⟨R.TLT_CTL_HOME, .wo, none, none⟩, ⟨R.TLT_CTL_STOP, .wo, none, none⟩]⟩,
  -- TLT_TARGET
  ⟨0x400D0004, 0, 1, 0, 1, fun _ _ => [⟨R.TLT_TARGET_COUNT, .rw, none, none⟩]⟩,
  -- TLT_SPEED
  ⟨0x400D0008, 0, 1, 0, 1, fun _ _ => [⟨R.TLT_SPEED_CPS, .rw, (some (1, 20000)), none⟩]⟩,
  -- TLT_STATE
  ⟨0x400D000C, 0, 1, 0, 1, fun _ _ => [⟨R.TLT_STATE_STATE, .ro, none, none⟩, ⟨R.TLT_STATE_CAUSE, .ro, none, none⟩, ⟨R.TLT_STATE_HOMED, .ro, none, none⟩]⟩,
  -- TLT_POS
  ⟨0x400D0010, 0, 1, 0, 1, fun _ _ => [⟨R.TLT_POS_COUNT, .ro, none, none⟩]⟩,
  -- TLT_VEL
  ⟨0x400D0014, 0, 1, 0, 1, fun _ _ => [⟨R.TLT_VEL_CPS, .ro, none, none⟩]⟩,
  -- TLT_POT
  ⟨0x400D0018, 0, 1, 0, 1, fun _ _ => [⟨R.TLT_POT_CODE, .ro, none, none⟩, ⟨R.TLT_POT_PRED, .ro, none, none⟩]⟩,
  -- TLT_HOME0
  ⟨0x400D001C, 0, 1, 0, 1, fun _ _ => [⟨R.TLT_HOME0_POT_LO, .ro, none, none⟩, ⟨R.TLT_HOME0_POT_HI, .ro, none, none⟩]⟩,
  -- TLT_HOME1
  ⟨0x400D0020, 0, 1, 0, 1, fun _ _ => [⟨R.TLT_HOME1_COUNT_HI, .ro, none, none⟩]⟩,
  -- TLT_IDX
  ⟨0x400D0024, 0, 1, 0, 1, fun _ _ => [⟨R.TLT_IDX_Z0, .ro, none, none⟩, ⟨R.TLT_IDX_ZP, .ro, none, none⟩]⟩,
  -- TLT_CFG
  ⟨0x400D0028, 0, 1, 0, 1, fun _ _ => [⟨R.TLT_CFG_SLS_CPS, .rwk, (some (10, 20000)), none⟩, ⟨R.TLT_CFG_POT_TOL, .rwk, (some (1, 4095)), none⟩, ⟨R.TLT_CFG_SDI, .rwk, none, (some [0, 1, 2])⟩, ⟨R.TLT_CFG_ENABLE, .rwk, none, none⟩]⟩,
  -- TLT_SLPLO
  ⟨0x400D002C, 0, 1, 0, 1, fun _ _ => [⟨R.TLT_SLPLO_COUNT, .rwk, none, none⟩]⟩,
  -- TLT_SLPHI
  ⟨0x400D0030, 0, 1, 0, 1, fun _ _ => [⟨R.TLT_SLPHI_COUNT, .rwk, none, none⟩]⟩,
  -- TLT_DRV
  ⟨0x400D0034, 0, 1, 0, 1, fun _ _ => [⟨R.TLT_DRV_ILIM_MA, .rw, (some (100, 4000)), none⟩]⟩,
  -- TLT_INT
  ⟨0x400D0200, 0, 1, 0, 1, fun _ _ => [⟨R.TLT_INT_STO, .w1c, none, none⟩, ⟨R.TLT_INT_VIOL, .w1c, none, none⟩, ⟨R.TLT_INT_HOMED, .w1c, none, none⟩, ⟨R.TLT_INT_HOMEFAIL, .w1c, none, none⟩, ⟨R.TLT_INT_REFUSED, .w1c, none, none⟩, ⟨R.TLT_INT_CLAMP, .w1c, none, none⟩]⟩,
  -- TLT_INTEN
  ⟨0x400D0204, 0, 1, 0, 1, fun _ _ => [⟨R.TLT_INTEN_EN, .rw, none, none⟩]⟩]

/-- The rows of the SIO register tables. -/
def rowsSIO : List RegRow := [
  -- SIO_SAFECTL
  ⟨0x400E0000, 0, 1, 0, 1, fun _ _ => [⟨R.SIO_SAFECTL_ARM_A, .w1s, none, none⟩, ⟨R.SIO_SAFECTL_TRIP_A, .w1s, none, none⟩, ⟨R.SIO_SAFECTL_ARM_B, .w1s, none, none⟩, ⟨R.SIO_SAFECTL_TRIP_B, .w1s, none, none⟩, ⟨R.SIO_SAFECTL_ON_A, .ro, none, none⟩, ⟨R.SIO_SAFECTL_ON_B, .ro, none, none⟩]⟩,
  -- SIO_TRIP
  ⟨0x400E0004, 0, 1, 0, 1, fun _ _ => [⟨R.SIO_TRIP_LATCHED, .ro, none, none⟩]⟩,
  -- SIO_TRIPNOW
  ⟨0x400E0008, 0, 1, 0, 1, fun _ _ => [⟨R.SIO_TRIPNOW_ACTIVE, .ro, none, none⟩]⟩,
  -- SIO_IN
  ⟨0x400E000C, 0, 1, 0, 1, fun _ _ => [⟨R.SIO_IN_A 0, .ro, none, none⟩, ⟨R.SIO_IN_A 1, .ro, none, none⟩, ⟨R.SIO_IN_A 2, .ro, none, none⟩, ⟨R.SIO_IN_A 3, .ro, none, none⟩, ⟨R.SIO_IN_B 0, .ro, none, none⟩, ⟨R.SIO_IN_B 1, .ro, none, none⟩, ⟨R.SIO_IN_B 2, .ro, none, none⟩, ⟨R.SIO_IN_B 3, .ro, none, none⟩, ⟨R.SIO_IN_STATE 0, .ro, none, none⟩, ⟨R.SIO_IN_STATE 1, .ro, none, none⟩, ⟨R.SIO_IN_STATE 2, .ro, none, none⟩, ⟨R.SIO_IN_STATE 3, .ro, none, none⟩]⟩,
  -- SIO_PAIRFLT
  ⟨0x400E0010, 0, 1, 0, 1, fun _ _ => [⟨R.SIO_PAIRFLT_CODE 0, .ro, none, none⟩, ⟨R.SIO_PAIRFLT_CODE 1, .ro, none, none⟩, ⟨R.SIO_PAIRFLT_CODE 2, .ro, none, none⟩, ⟨R.SIO_PAIRFLT_CODE 3, .ro, none, none⟩]⟩,
  -- SIO_TPCFG
  ⟨0x400E0014, 0, 1, 0, 1, fun _ _ => [⟨R.SIO_TPCFG_TP_PERIOD_MS, .rwk, (some (1, 100)), none⟩, ⟨R.SIO_TPCFG_TP_WIDTH_US, .rwk, (some (100, 1000)), none⟩]⟩,
  -- SIO_OFFTEST
  ⟨0x400E0018, 0, 1, 0, 1, fun _ _ => [⟨R.SIO_OFFTEST_OFFTEST_US, .rwk, (some (20, 500)), none⟩]⟩,
  -- SIO_DISC01
  ⟨0x400E001C, 0, 1, 0, 1, fun _ _ => [⟨R.SIO_DISC01_DISCREP_MS 0, .rwk, (some (5, 500)), none⟩, ⟨R.SIO_DISC01_DISCREP_MS 1, .rwk, (some (5, 500)), none⟩]⟩,
  -- SIO_DISC23
  ⟨0x400E0020, 0, 1, 0, 1, fun _ _ => [⟨R.SIO_DISC23_DISCREP_MS 0, .rwk, (some (5, 500)), none⟩, ⟨R.SIO_DISC23_DISCREP_MS 1, .rwk, (some (5, 500)), none⟩]⟩,
  -- SIO_USE
  ⟨0x400E0024, 0, 1, 0, 1, fun _ _ => [⟨R.SIO_USE_ROLE 0, .rwk, none, (some [0, 1, 2, 3, 4])⟩, ⟨R.SIO_USE_ROLE 1, .rwk, none, (some [0, 1, 2, 3, 4])⟩, ⟨R.SIO_USE_ROLE 2, .rwk, none, (some [0, 1, 2, 3, 4])⟩, ⟨R.SIO_USE_ROLE 3, .rwk, none, (some [0, 1, 2, 3, 4])⟩]⟩,
  -- SIO_RST
  ⟨0x400E0028, 0, 1, 0, 1, fun _ _ => [⟨R.SIO_RST_WIN_MS, .rwk, (some (50, 2000)), none⟩, ⟨R.SIO_RST_ACCEPTED, .ro, none, none⟩, ⟨R.SIO_RST_REJECTED, .ro, none, none⟩]⟩,
  -- SIO_INT
  ⟨0x400E0200, 0, 1, 0, 1, fun _ _ => [⟨R.SIO_INT_TRIP, .w1c, none, none⟩, ⟨R.SIO_INT_PAIRFLT, .w1c, none, none⟩, ⟨R.SIO_INT_DEMAND, .w1c, none, none⟩, ⟨R.SIO_INT_RESET, .w1c, none, none⟩, ⟨R.SIO_INT_RSTREJ, .w1c, none, none⟩, ⟨R.SIO_INT_ARMREFUSED, .w1c, none, none⟩, ⟨R.SIO_INT_CLAMP, .w1c, none, none⟩, ⟨R.SIO_INT_CFGREFUSED, .w1c, none, none⟩]⟩,
  -- SIO_INTEN
  ⟨0x400E0204, 0, 1, 0, 1, fun _ _ => [⟨R.SIO_INTEN_EN, .rw, none, none⟩]⟩]

/-- The rows of the EVL register tables. -/
def rowsEVL : List RegRow := [
  -- EVL_CTL
  ⟨0x400F0000, 0, 1, 0, 1, fun _ _ => [⟨R.EVL_CTL_LOG_MODE, .ro, none, none⟩, ⟨R.EVL_CTL_PERSIST, .ro, none, none⟩]⟩,
  -- EVL_WR
  ⟨0x400F0004, 0, 1, 0, 1, fun _ _ => [⟨R.EVL_WR_SLOT, .ro, none, none⟩]⟩,
  -- EVL_SEQ
  ⟨0x400F0008, 0, 1, 0, 1, fun _ _ => [⟨R.EVL_SEQ_NEXT, .ro, none, none⟩]⟩,
  -- EVL_RD
  ⟨0x400F000C, 0, 1, 0, 1, fun _ _ => [⟨R.EVL_RD_SLOT, .rw, none, none⟩]⟩,
  -- EVL_LOST01
  ⟨0x400F0010, 0, 1, 0, 1, fun _ _ => [⟨R.EVL_LOST01_SAFETY, .ro, none, none⟩, ⟨R.EVL_LOST01_FAULT, .ro, none, none⟩]⟩,
  -- EVL_LOST23
  ⟨0x400F0014, 0, 1, 0, 1, fun _ _ => [⟨R.EVL_LOST23_WARN, .ro, none, none⟩, ⟨R.EVL_LOST23_INFO, .ro, none, none⟩]⟩,
  -- EVL_Q
  ⟨0x400F0018, 0, 1, 0, 1, fun _ _ => [⟨R.EVL_Q_LEVEL, .ro, none, none⟩, ⟨R.EVL_Q_MAX, .rc, none, none⟩, ⟨R.EVL_Q_OPEN, .ro, none, none⟩]⟩,
  -- EVL_CNT
  ⟨0x400F001C, 0, 1, 0, 1, fun _ _ => [⟨R.EVL_CNT_OVWR, .ro, none, none⟩, ⟨R.EVL_CNT_ADBAD, .ro, none, none⟩]⟩,
  -- EVL_PST
  ⟨0x400F0020, 0, 1, 0, 1, fun _ _ => [⟨R.EVL_PST_BUSY, .ro, none, none⟩, ⟨R.EVL_PST_PAGE, .ro, none, none⟩, ⟨R.EVL_PST_FAILS, .ro, none, none⟩, ⟨R.EVL_PST_STOPPED, .ro, none, none⟩, ⟨R.EVL_PST_PAGES, .ro, none, none⟩]⟩,
  -- EVL_PCFG
  ⟨0x400F0024, 0, 1, 0, 1, fun _ _ => [⟨R.EVL_PCFG_FLUSH_MS, .rw, (some (10, 60000)), none⟩]⟩,
  -- EVL_CMD
  ⟨0x400F0028, 0, 1, 0, 1, fun _ _ => [⟨R.EVL_CMD_PRESTART, .wo, none, none⟩, ⟨R.EVL_CMD_FLUSH, .wo, none, none⟩]⟩,
  -- EVL_SWEV
  ⟨0x400F002C, 0, 1, 0, 1, fun _ _ => [⟨R.EVL_SWEV_IDLO, .wo, none, none⟩, ⟨R.EVL_SWEV_CLASS, .wo, none, none⟩, ⟨R.EVL_SWEV_GO, .wo, none, none⟩]⟩,
  -- EVL_SWARG
  ⟨0x400F0030, 0, 1, 0, 1, fun _ _ => [⟨R.EVL_SWARG_ARG0, .rw, none, none⟩]⟩,
  -- EVL_IRQROUTE
  ⟨0x400F0040, 0, 1, 0, 1, fun _ _ => [⟨R.EVL_IRQROUTE_C1, .rw, none, none⟩]⟩,
  -- EVL_IRQPEND
  ⟨0x400F0044, 0, 1, 0, 1, fun _ _ => [⟨R.EVL_IRQPEND_LINE, .ro, none, none⟩]⟩,
  -- EVL_NEWCLASS
  ⟨0x400F0048, 0, 1, 0, 1, fun _ _ => [⟨R.EVL_NEWCLASS_CLASS, .rw, none, none⟩]⟩,
  -- EVL_INT
  ⟨0x400F0200, 0, 1, 0, 1, fun _ _ => [⟨R.EVL_INT_NEW, .w1c, none, none⟩, ⟨R.EVL_INT_LOST, .w1c, none, none⟩, ⟨R.EVL_INT_PDONE, .w1c, none, none⟩, ⟨R.EVL_INT_PFAIL, .w1c, none, none⟩, ⟨R.EVL_INT_OVWR, .w1c, none, none⟩, ⟨R.EVL_INT_RAMERR, .w1c, none, none⟩, ⟨R.EVL_INT_ADBAD, .w1c, none, none⟩, ⟨R.EVL_INT_REFUSED, .w1c, none, none⟩, ⟨R.EVL_INT_CLAMP, .w1c, none, none⟩]⟩,
  -- EVL_INTEN
  ⟨0x400F0204, 0, 1, 0, 1, fun _ _ => [⟨R.EVL_INTEN_EN, .rw, none, none⟩]⟩]

/-- The rows of the LCK register tables. -/
def rowsLCK : List RegRow := [
  -- LCK_PW
  ⟨0x40100000, 0, 1, 4, 8, fun _ k => [⟨R.LCK_PW_BYTES k, .wo, none, none⟩]⟩,
  -- LCK_PWCTL
  ⟨0x40100020, 0, 1, 0, 1, fun _ _ => [⟨R.LCK_PWCTL_LEN, .wo, none, none⟩, ⟨R.LCK_PWCTL_GO, .wo, none, none⟩]⟩,
  -- LCK_AUTH
  ⟨0x40100024, 0, 1, 0, 1, fun _ _ => [⟨R.LCK_AUTH_SESSION, .ro, none, none⟩, ⟨R.LCK_AUTH_BUSY, .ro, none, none⟩, ⟨R.LCK_AUTH_FAILS, .ro, none, none⟩, ⟨R.LCK_AUTH_LOCKED, .ro, none, none⟩, ⟨R.LCK_AUTH_REMAIN_S, .ro, none, none⟩, ⟨R.LCK_AUTH_WINDOW_S, .ro, none, none⟩]⟩,
  -- LCK_AUTHEND
  ⟨0x40100028, 0, 1, 0, 1, fun _ _ => [⟨R.LCK_AUTHEND_END, .wo, none, none⟩]⟩,
  -- LCK_KEY
  ⟨0x4010002C, 0, 1, 0, 1, fun _ _ => [⟨R.LCK_KEY_BLOCK, .wo, none, none⟩, ⟨R.LCK_KEY_OPEN, .wo, none, none⟩, ⟨R.LCK_KEY_CODE, .wo, none, none⟩]⟩,
  -- LCK_KEYST
  ⟨0x40100030, 0, 1, 0, 1, fun _ _ => [⟨R.LCK_KEYST_OPEN, .ro, none, none⟩]⟩,
  -- LCK_OTP
  ⟨0x40100034, 0, 1, 0, 1, fun _ _ => [⟨R.LCK_OTP_INT1_PROG, .ro, none, none⟩, ⟨R.LCK_OTP_INT1_REV, .ro, none, none⟩, ⟨R.LCK_OTP_INT2_PROG, .ro, none, none⟩, ⟨R.LCK_OTP_INT2_REV, .ro, none, none⟩, ⟨R.LCK_OTP_ROOT_OK, .ro, none, none⟩]⟩,
  -- LCK_INT
  ⟨0x40100038, 0, 1, 0, 1, fun _ _ => [⟨R.LCK_INT_AUTHDONE, .w1c, none, none⟩, ⟨R.LCK_INT_AUTHFAIL, .w1c, none, none⟩, ⟨R.LCK_INT_LOCKOUT, .w1c, none, none⟩, ⟨R.LCK_INT_KEYVIOL, .w1c, none, none⟩]⟩,
  -- LCK_INTEN
  ⟨0x4010003C, 0, 1, 0, 1, fun _ _ => [⟨R.LCK_INTEN_EN, .rw, none, none⟩]⟩]

/-- The rows of the THM register tables. -/
def rowsTHM : List RegRow := [
  -- THM_CTL
  ⟨0x40110000, 0, 1, 0, 1, fun _ _ => [⟨R.THM_CTL_EN, .rw, none, none⟩, ⟨R.THM_CTL_FORECAST, .ro, none, none⟩]⟩,
  -- THM_CMD
  ⟨0x40110004, 0, 1, 0, 1, fun _ _ => [⟨R.THM_CMD_STEP, .wo, none, none⟩, ⟨R.THM_CMD_ABORT, .wo, none, none⟩]⟩,
  -- THM_CFG
  ⟨0x40110008, 0, 1, 0, 1, fun _ _ => [⟨R.THM_CFG_MARGIN_C, .rw, (some (2, 20)), none⟩, ⟨R.THM_CFG_HYST_C, .rw, (some (1, 10)), none⟩, ⟨R.THM_CFG_AD_TJ_C, .ro, none, none⟩, ⟨R.THM_CFG_CD_TJ_C, .ro, none, none⟩]⟩,
  -- THM_TEMP0
  ⟨0x4011000C, 0, 1, 0, 1, fun _ _ => [⟨R.THM_TEMP0_CASTING, .ro, none, none⟩, ⟨R.THM_TEMP0_AMBIENT, .ro, none, none⟩]⟩,
  -- THM_TEMP1
  ⟨0x40110010, 0, 1, 0, 1, fun _ _ => [⟨R.THM_TEMP1_CD_J, .ro, none, none⟩, ⟨R.THM_TEMP1_AD_EST, .ro, none, none⟩]⟩,
  -- THM_PWR
  ⟨0x40110014, 0, 1, 0, 1, fun _ _ => [⟨R.THM_PWR_AD_MEAS, .ro, none, none⟩, ⟨R.THM_PWR_LED, .ro, none, none⟩]⟩,
  -- THM_FCST
  ⟨0x40110018, 0, 1, 0, 1, fun _ _ => [⟨R.THM_FCST_AD_PEAK, .ro, none, none⟩, ⟨R.THM_FCST_CD_PEAK, .ro, none, none⟩]⟩,
  -- THM_FCST1
  ⟨0x4011001C, 0, 1, 0, 1, fun _ _ => [⟨R.THM_FCST1_AT_S, .ro, none, none⟩, ⟨R.THM_FCST1_G, .ro, none, none⟩]⟩,
  -- THM_ACT
  ⟨0x40110020, 0, 1, 0, 1, fun _ _ => [⟨R.THM_ACT_PARK, .ro, none, none⟩, ⟨R.THM_ACT_LEARN_HOLD, .ro, none, none⟩, ⟨R.THM_ACT_CAP, .ro, none, none⟩, ⟨R.THM_ACT_WATCHORD, .ro, none, none⟩, ⟨R.THM_ACT_OVER, .ro, none, none⟩]⟩,
  -- THM_LVSDIV
  ⟨0x40110024, 0, 1, 0, 1, fun _ _ => [⟨R.THM_LVSDIV_RATIO, .rw, (some (1000, 100000)), none⟩]⟩,
  -- THM_STCFG
  ⟨0x40110028, 0, 1, 0, 1, fun _ _ => [⟨R.THM_STCFG_TEST_S, .rw, (some (600, 14400)), none⟩, ⟨R.THM_STCFG_LED_HEAT, .rw, (some (300, 950)), none⟩]⟩,
  -- THM_STST
  ⟨0x4011002C, 0, 1, 0, 1, fun _ _ => [⟨R.THM_STST_STATE, .ro, none, none⟩, ⟨R.THM_STST_REASON, .ro, none, none⟩, ⟨R.THM_STST_ELAPSED_S, .ro, none, none⟩]⟩,
  -- THM_FIT0
  ⟨0x40110030, 0, 1, 0, 1, fun _ _ => [⟨R.THM_FIT0_R_CA, .ro, none, none⟩]⟩,
  -- THM_FIT1
  ⟨0x40110034, 0, 1, 0, 1, fun _ _ => [⟨R.THM_FIT1_C_C, .ro, none, none⟩]⟩,
  -- THM_CNT
  ⟨0x40110038, 0, 1, 0, 1, fun _ _ => [⟨R.THM_CNT_BADPLAN, .ro, none, none⟩, ⟨R.THM_CNT_MISSES, .ro, none, none⟩]⟩,
  -- THM_INT
  ⟨0x40110200, 0, 1, 0, 1, fun _ _ => [⟨R.THM_INT_ACT, .w1c, none, none⟩, ⟨R.THM_INT_OVER, .w1c, none, none⟩, ⟨R.THM_INT_HOT, .w1c, none, none⟩, ⟨R.THM_INT_STEPGO, .w1c, none, none⟩, ⟨R.THM_INT_STEPEND, .w1c, none, none⟩, ⟨R.THM_INT_SENSOR, .w1c, none, none⟩, ⟨R.THM_INT_REFUSED, .w1c, none, none⟩, ⟨R.THM_INT_CLAMP, .w1c, none, none⟩]⟩,
  -- THM_INTEN
  ⟨0x40110204, 0, 1, 0, 1, fun _ _ => [⟨R.THM_INTEN_EN, .rw, none, none⟩]⟩]

/-- The rows of the I2C register tables. -/
def rowsI2C : List RegRow := [
  -- I2C_CFG
  ⟨0x40120000, 65536, 2, 0, 1, fun i _ => [⟨R.I2C_CFG_MODE i, .ro, none, none⟩, ⟨R.I2C_CFG_TOUT_MS i, .rw, (some (1, 100)), none⟩, ⟨R.I2C_CFG_IDLE_US i, .rw, (some (10, 1000)), none⟩, ⟨R.I2C_CFG_RETRY i, .rw, (some (0, 3)), none⟩]⟩,
  -- I2C_CMD
  ⟨0x40120004, 65536, 2, 0, 1, fun i _ => [⟨R.I2C_CMD_ADDR i, .wo, none, none⟩, ⟨R.I2C_CMD_A10 i, .wo, none, none⟩, ⟨R.I2C_CMD_RD i, .wo, none, none⟩, ⟨R.I2C_CMD_LEN i, .wo, none, none⟩, ⟨R.I2C_CMD_RSTART i, .wo, none, none⟩, ⟨R.I2C_CMD_GO i, .wo, none, none⟩]⟩,
  -- I2C_STATUS
  ⟨0x40120008, 65536, 2, 0, 1, fun i _ => [⟨R.I2C_STATUS_BUSY i, .ro, none, none⟩, ⟨R.I2C_STATUS_BUSFREE i, .ro, none, none⟩, ⟨R.I2C_STATUS_RESULT i, .ro, none, none⟩, ⟨R.I2C_STATUS_ATTEMPT i, .ro, none, none⟩, ⟨R.I2C_STATUS_XFERRED i, .ro, none, none⟩]⟩,
  -- I2C_ARB
  ⟨0x4012000C, 65536, 2, 0, 1, fun i _ => [⟨R.I2C_ARB_BYTE i, .ro, none, none⟩, ⟨R.I2C_ARB_BIT i, .ro, none, none⟩]⟩,
  -- I2C_TXD
  ⟨0x40120010, 65536, 2, 0, 1, fun i _ => [⟨R.I2C_TXD_DATA i, .wo, none, none⟩]⟩,
  -- I2C_RXD
  ⟨0x40120014, 65536, 2, 0, 1, fun i _ => [⟨R.I2C_RXD_DATA i, .rc, none, none⟩]⟩,
  -- I2C_FIFO
  ⟨0x40120018, 65536, 2, 0, 1, fun i _ => [⟨R.I2C_FIFO_TXLVL i, .ro, none, none⟩, ⟨R.I2C_FIFO_RXLVL i, .ro, none, none⟩]⟩,
  -- I2C_CNT
  ⟨0x4012001C, 65536, 2, 0, 1, fun i _ => [⟨R.I2C_CNT_ARBLOST i, .ro, none, none⟩, ⟨R.I2C_CNT_GIVEUP i, .ro, none, none⟩]⟩,
  -- I2C_INT
  ⟨0x40120020, 65536, 2, 0, 1, fun i _ => [⟨R.I2C_INT_DONE i, .w1c, none, none⟩, ⟨R.I2C_INT_ARBLOST_ADDR i, .w1c, none, none⟩, ⟨R.I2C_INT_ARBLOST_DATA i, .w1c, none, none⟩, ⟨R.I2C_INT_NACK i, .w1c, none, none⟩, ⟨R.I2C_INT_GIVEUP i, .w1c, none, none⟩, ⟨R.I2C_INT_STUCK i, .w1c, none, none⟩, ⟨R.I2C_INT_BUSERR i, .w1c, none, none⟩, ⟨R.I2C_INT_TGT_UNKNOWN i, .w1c, none, none⟩, ⟨R.I2C_INT_REFUSED i, .w1c, none, none⟩]⟩,
  -- I2C_INTEN
  ⟨0x40120024, 65536, 2, 0, 1, fun i _ => [⟨R.I2C_INTEN_EN i, .rw, none, none⟩]⟩]

/-- The rows of the QSPI register tables. -/
def rowsQSPI : List RegRow := [
  -- QSPI_CFG
  ⟨0x40140000, 0, 1, 0, 1, fun _ _ => [⟨R.QSPI_CFG_OCTAL, .ro, none, none⟩, ⟨R.QSPI_CFG_DENSITY_KIB, .ro, none, none⟩]⟩,
  -- QSPI_ADDR
  ⟨0x40140004, 0, 1, 0, 1, fun _ _ => [⟨R.QSPI_ADDR_ADDR, .rw, none, none⟩]⟩,
  -- QSPI_CMD
  ⟨0x40140008, 0, 1, 0, 1, fun _ _ => [⟨R.QSPI_CMD_OP, .wo, none, none⟩, ⟨R.QSPI_CMD_LEN, .wo, none, none⟩]⟩,
  -- QSPI_STATUS
  ⟨0x4014000C, 0, 1, 0, 1, fun _ _ => [⟨R.QSPI_STATUS_BUSY, .ro, none, none⟩, ⟨R.QSPI_STATUS_FLASHBUSY, .ro, none, none⟩]⟩,
  -- QSPI_INT
  ⟨0x40140010, 0, 1, 0, 1, fun _ _ => [⟨R.QSPI_INT_DONE, .w1c, none, none⟩, ⟨R.QSPI_INT_WRPROT, .w1c, none, none⟩, ⟨R.QSPI_INT_TIMEOUT, .w1c, none, none⟩, ⟨R.QSPI_INT_REFUSED, .w1c, none, none⟩]⟩,
  -- QSPI_INTEN
  ⟨0x40140014, 0, 1, 0, 1, fun _ _ => [⟨R.QSPI_INTEN_EN, .rw, none, none⟩]⟩,
  -- QSPI_BUF
  ⟨0x40140100, 0, 1, 4, 64, fun _ k => [⟨R.QSPI_BUF_W k, .rw, none, none⟩]⟩]

/-- The rows of the SPI register tables. -/
def rowsSPI : List RegRow := [
  -- SPI_CFG
  ⟨0x40150000, 0, 1, 0, 1, fun _ _ => [⟨R.SPI_CFG_MODE, .rw, none, none⟩, ⟨R.SPI_CFG_LSBFIRST, .rw, none, none⟩, ⟨R.SPI_CFG_DIV, .rw, (some (2, 255)), none⟩]⟩,
  -- SPI_CMD
  ⟨0x40150004, 0, 1, 0, 1, fun _ _ => [⟨R.SPI_CMD_LEN, .wo, none, none⟩, ⟨R.SPI_CMD_CS, .wo, none, none⟩, ⟨R.SPI_CMD_HOLD, .wo, none, none⟩, ⟨R.SPI_CMD_GO, .wo, none, none⟩]⟩,
  -- SPI_STATUS
  ⟨0x40150008, 0, 1, 0, 1, fun _ _ => [⟨R.SPI_STATUS_BUSY, .ro, none, none⟩, ⟨R.SPI_STATUS_XFERRED, .ro, none, none⟩]⟩,
  -- SPI_TXD
  ⟨0x4015000C, 0, 1, 0, 1, fun _ _ => [⟨R.SPI_TXD_DATA, .wo, none, none⟩]⟩,
  -- SPI_RXD
  ⟨0x40150010, 0, 1, 0, 1, fun _ _ => [⟨R.SPI_RXD_DATA, .rc, none, none⟩]⟩,
  -- SPI_FIFO
  ⟨0x40150014, 0, 1, 0, 1, fun _ _ => [⟨R.SPI_FIFO_TXLVL, .ro, none, none⟩, ⟨R.SPI_FIFO_RXLVL, .ro, none, none⟩]⟩,
  -- SPI_INT
  ⟨0x40150018, 0, 1, 0, 1, fun _ _ => [⟨R.SPI_INT_DONE, .w1c, none, none⟩, ⟨R.SPI_INT_REFUSED, .w1c, none, none⟩, ⟨R.SPI_INT_CLAMP, .w1c, none, none⟩]⟩,
  -- SPI_INTEN
  ⟨0x4015001C, 0, 1, 0, 1, fun _ _ => [⟨R.SPI_INTEN_EN, .rw, none, none⟩]⟩]

/-- The rows of the UART register tables. -/
def rowsUART : List RegRow := [
  -- UART_CFG
  ⟨0x40160000, 32768, 2, 0, 1, fun i _ => [⟨R.UART_CFG_PARITY i, .rw, none, none⟩, ⟨R.UART_CFG_STOP2 i, .rw, none, none⟩, ⟨R.UART_CFG_FLOW i, .rw, none, none⟩]⟩,
  -- UART_BAUD
  ⟨0x40160004, 32768, 2, 0, 1, fun i _ => [⟨R.UART_BAUD_RATE i, .rw, (some (9600, 3000000)), none⟩]⟩,
  -- UART_TXD
  ⟨0x40160008, 32768, 2, 0, 1, fun i _ => [⟨R.UART_TXD_DATA i, .wo, none, none⟩]⟩,
  -- UART_RXD
  ⟨0x4016000C, 32768, 2, 0, 1, fun i _ => [⟨R.UART_RXD_DATA i, .rc, none, none⟩]⟩,
  -- UART_FIFO
  ⟨0x40160010, 32768, 2, 0, 1, fun i _ => [⟨R.UART_FIFO_TXLVL i, .ro, none, none⟩, ⟨R.UART_FIFO_RXLVL i, .ro, none, none⟩]⟩,
  -- UART_CNT
  ⟨0x40160014, 32768, 2, 0, 1, fun i _ => [⟨R.UART_CNT_FRAME i, .ro, none, none⟩, ⟨R.UART_CNT_OVERRUN i, .ro, none, none⟩]⟩,
  -- UART_INT
  ⟨0x40160018, 32768, 2, 0, 1, fun i _ => [⟨R.UART_INT_RXDATA i, .w1c, none, none⟩, ⟨R.UART_INT_TXEMPTY i, .w1c, none, none⟩, ⟨R.UART_INT_FRAMING i, .w1c, none, none⟩, ⟨R.UART_INT_PARITY i, .w1c, none, none⟩, ⟨R.UART_INT_OVERRUN i, .w1c, none, none⟩, ⟨R.UART_INT_BREAK i, .w1c, none, none⟩, ⟨R.UART_INT_CLAMP i, .w1c, none, none⟩]⟩,
  -- UART_INTEN
  ⟨0x4016001C, 32768, 2, 0, 1, fun i _ => [⟨R.UART_INTEN_EN i, .rw, none, none⟩]⟩]

/-- The rows of the GPIO register tables. -/
def rowsGPIO : List RegRow := [
  -- GPIO_IN
  ⟨0x40170000, 0, 1, 0, 1, fun _ _ => [⟨R.GPIO_IN_LEVEL, .ro, none, none⟩]⟩,
  -- GPIO_OUT
  ⟨0x40170004, 0, 1, 0, 1, fun _ _ => [⟨R.GPIO_OUT_LEVEL, .rw, none, none⟩]⟩,
  -- GPIO_SET
  ⟨0x40170008, 0, 1, 0, 1, fun _ _ => [⟨R.GPIO_SET_SET, .wo, none, none⟩]⟩,
  -- GPIO_CLR
  ⟨0x4017000C, 0, 1, 0, 1, fun _ _ => [⟨R.GPIO_CLR_CLR, .wo, none, none⟩]⟩,
  -- GPIO_FN0
  ⟨0x40170010, 0, 1, 0, 1, fun _ _ => [⟨R.GPIO_FN0_FN 0, .ro, none, none⟩, ⟨R.GPIO_FN0_FN 1, .ro, none, none⟩, ⟨R.GPIO_FN0_FN 2, .ro, none, none⟩, ⟨R.GPIO_FN0_FN 3, .ro, none, none⟩, ⟨R.GPIO_FN0_FN 4, .ro, none, none⟩, ⟨R.GPIO_FN0_FN 5, .ro, none, none⟩, ⟨R.GPIO_FN0_FN 6, .ro, none, none⟩, ⟨R.GPIO_FN0_FN 7, .ro, none, none⟩, ⟨R.GPIO_FN0_FN 8, .ro, none, none⟩, ⟨R.GPIO_FN0_FN 9, .ro, none, none⟩, ⟨R.GPIO_FN0_FN 10, .ro, none, none⟩, ⟨R.GPIO_FN0_FN 11, .ro, none, none⟩, ⟨R.GPIO_FN0_FN 12, .ro, none, none⟩, ⟨R.GPIO_FN0_FN 13, .ro, none, none⟩, ⟨R.GPIO_FN0_FN 14, .ro, none, none⟩, ⟨R.GPIO_FN0_FN 15, .ro, none, none⟩]⟩,
  -- GPIO_FN1
  ⟨0x40170014, 0, 1, 0, 1, fun _ _ => [⟨R.GPIO_FN1_FN 0, .ro, none, none⟩, ⟨R.GPIO_FN1_FN 1, .ro, none, none⟩, ⟨R.GPIO_FN1_FN 2, .ro, none, none⟩, ⟨R.GPIO_FN1_FN 3, .ro, none, none⟩, ⟨R.GPIO_FN1_FN 4, .ro, none, none⟩, ⟨R.GPIO_FN1_FN 5, .ro, none, none⟩, ⟨R.GPIO_FN1_FN 6, .ro, none, none⟩, ⟨R.GPIO_FN1_FN 7, .ro, none, none⟩]⟩,
  -- GPIO_PULL0
  ⟨0x40170018, 0, 1, 0, 1, fun _ _ => [⟨R.GPIO_PULL0_PULL 0, .rw, none, none⟩, ⟨R.GPIO_PULL0_PULL 1, .rw, none, none⟩, ⟨R.GPIO_PULL0_PULL 2, .rw, none, none⟩, ⟨R.GPIO_PULL0_PULL 3, .rw, none, none⟩, ⟨R.GPIO_PULL0_PULL 4, .rw, none, none⟩, ⟨R.GPIO_PULL0_PULL 5, .rw, none, none⟩, ⟨R.GPIO_PULL0_PULL 6, .rw, none, none⟩, ⟨R.GPIO_PULL0_PULL 7, .rw, none, none⟩, ⟨R.GPIO_PULL0_PULL 8, .rw, none, none⟩, ⟨R.GPIO_PULL0_PULL 9, .rw, none, none⟩, ⟨R.GPIO_PULL0_PULL 10, .rw, none, none⟩, ⟨R.GPIO_PULL0_PULL 11, .rw, none, none⟩, ⟨R.GPIO_PULL0_PULL 12, .rw, none, none⟩, ⟨R.GPIO_PULL0_PULL 13, .rw, none, none⟩, ⟨R.GPIO_PULL0_PULL 14, .rw, none, none⟩, ⟨R.GPIO_PULL0_PULL 15, .rw, none, none⟩]⟩,
  -- GPIO_PULL1
  ⟨0x4017001C, 0, 1, 0, 1, fun _ _ => [⟨R.GPIO_PULL1_PULL 0, .rw, none, none⟩, ⟨R.GPIO_PULL1_PULL 1, .rw, none, none⟩, ⟨R.GPIO_PULL1_PULL 2, .rw, none, none⟩, ⟨R.GPIO_PULL1_PULL 3, .rw, none, none⟩, ⟨R.GPIO_PULL1_PULL 4, .rw, none, none⟩, ⟨R.GPIO_PULL1_PULL 5, .rw, none, none⟩, ⟨R.GPIO_PULL1_PULL 6, .rw, none, none⟩, ⟨R.GPIO_PULL1_PULL 7, .rw, none, none⟩]⟩,
  -- GPIO_EDGE0
  ⟨0x40170020, 0, 1, 0, 1, fun _ _ => [⟨R.GPIO_EDGE0_EDGE 0, .rw, none, none⟩, ⟨R.GPIO_EDGE0_EDGE 1, .rw, none, none⟩, ⟨R.GPIO_EDGE0_EDGE 2, .rw, none, none⟩, ⟨R.GPIO_EDGE0_EDGE 3, .rw, none, none⟩, ⟨R.GPIO_EDGE0_EDGE 4, .rw, none, none⟩, ⟨R.GPIO_EDGE0_EDGE 5, .rw, none, none⟩, ⟨R.GPIO_EDGE0_EDGE 6, .rw, none, none⟩, ⟨R.GPIO_EDGE0_EDGE 7, .rw, none, none⟩, ⟨R.GPIO_EDGE0_EDGE 8, .rw, none, none⟩, ⟨R.GPIO_EDGE0_EDGE 9, .rw, none, none⟩, ⟨R.GPIO_EDGE0_EDGE 10, .rw, none, none⟩, ⟨R.GPIO_EDGE0_EDGE 11, .rw, none, none⟩, ⟨R.GPIO_EDGE0_EDGE 12, .rw, none, none⟩, ⟨R.GPIO_EDGE0_EDGE 13, .rw, none, none⟩, ⟨R.GPIO_EDGE0_EDGE 14, .rw, none, none⟩, ⟨R.GPIO_EDGE0_EDGE 15, .rw, none, none⟩]⟩,
  -- GPIO_EDGE1
  ⟨0x40170024, 0, 1, 0, 1, fun _ _ => [⟨R.GPIO_EDGE1_EDGE 0, .rw, none, none⟩, ⟨R.GPIO_EDGE1_EDGE 1, .rw, none, none⟩, ⟨R.GPIO_EDGE1_EDGE 2, .rw, none, none⟩, ⟨R.GPIO_EDGE1_EDGE 3, .rw, none, none⟩, ⟨R.GPIO_EDGE1_EDGE 4, .rw, none, none⟩, ⟨R.GPIO_EDGE1_EDGE 5, .rw, none, none⟩, ⟨R.GPIO_EDGE1_EDGE 6, .rw, none, none⟩, ⟨R.GPIO_EDGE1_EDGE 7, .rw, none, none⟩]⟩,
  -- GPIO_INT
  ⟨0x40170030, 0, 1, 0, 1, fun _ _ => [⟨R.GPIO_INT_EDGE, .w1c, none, none⟩]⟩,
  -- GPIO_INTEN
  ⟨0x40170034, 0, 1, 0, 1, fun _ _ => [⟨R.GPIO_INTEN_EN, .rw, none, none⟩]⟩]

/-- The rows of the TILE register tables. -/
def rowsTILE : List RegRow := [
  -- TL_ID
  ⟨0x80000000, 65536, 16, 0, 1, fun i _ => [⟨R.TL_ID_TILE i, .ro, none, none⟩]⟩,
  -- TL_CLK
  ⟨0x80000004, 65536, 16, 0, 1, fun i _ => [⟨R.TL_CLK_K i, .rw, none, none⟩, ⟨R.TL_CLK_M i, .rw, none, some [1, 2, 3, 4, 5]⟩, ⟨R.TL_CLK_POINT i, .rw, none, none⟩]⟩,
  -- TL_ECC
  ⟨0x80000008, 65536, 16, 0, 1, fun i _ => [⟨R.TL_ECC_CE i, .ro, none, none⟩, ⟨R.TL_ECC_UE i, .ro, none, none⟩]⟩,
  -- TL_SAT
  ⟨0x8000000C, 65536, 16, 0, 1, fun i _ => [⟨R.TL_SAT_COUNT i, .ro, none, none⟩]⟩,
  -- TL_MACBUSY
  ⟨0x80000010, 65536, 16, 0, 1, fun i _ => [⟨R.TL_MACBUSY_CYCLES i, .ro, none, none⟩]⟩,
  -- TL_CYCLES
  ⟨0x80000014, 65536, 16, 0, 1, fun i _ => [⟨R.TL_CYCLES_CYCLES i, .ro, none, none⟩]⟩,
  -- TL_SEQ
  ⟨0x80000018, 65536, 16, 0, 1, fun i _ => [⟨R.TL_SEQ_PC i, .ro, none, none⟩, ⟨R.TL_SEQ_BANK i, .ro, none, none⟩, ⟨R.TL_SEQ_STATE i, .ro, none, none⟩, ⟨R.TL_SEQ_LOOPS i, .ro, none, none⟩, ⟨R.TL_SEQ_TENANT i, .ro, none, none⟩]⟩,
  -- TL_PBANK
  ⟨0x8000001C, 65536, 16, 4, 2, fun i k => [⟨R.TL_PBANK_ENTRY i k, .rw, none, none⟩, ⟨R.TL_PBANK_LEN i k, .rw, none, none⟩, ⟨R.TL_PBANK_VALID i k, .rw, none, none⟩]⟩,
  -- TL_SWAP
  ⟨0x80000024, 65536, 16, 0, 1, fun i _ => [⟨R.TL_SWAP_KIND i, .wo, none, none⟩, ⟨R.TL_SWAP_BANK i, .wo, none, none⟩, ⟨R.TL_SWAP_REASON i, .wo, none, none⟩, ⟨R.TL_SWAP_TENANT i, .wo, none, none⟩]⟩,
  -- TL_LIMIT
  ⟨0x80000028, 65536, 16, 0, 1, fun i _ => [⟨R.TL_LIMIT_SWAPTO_US i, .rw, (some (1, 10000)), none⟩]⟩,
  -- TL_FAULT
  ⟨0x8000002C, 65536, 16, 0, 1, fun i _ => [⟨R.TL_FAULT_CODE i, .ro, none, none⟩, ⟨R.TL_FAULT_PC i, .ro, none, none⟩, ⟨R.TL_FAULT_FIELD i, .ro, none, none⟩, ⟨R.TL_FAULT_MORE i, .ro, none, none⟩, ⟨R.TL_FAULT_VALID i, .ro, none, none⟩]⟩,
  -- TL_ABORT
  ⟨0x80000030, 65536, 16, 0, 1, fun i _ => [⟨R.TL_ABORT_QMASK i, .ro, none, none⟩, ⟨R.TL_ABORT_POISONED i, .ro, none, none⟩, ⟨R.TL_ABORT_CAUSE i, .ro, none, none⟩, ⟨R.TL_ABORT_WITHDRAWN i, .ro, none, none⟩, ⟨R.TL_ABORT_STRAY i, .ro, none, none⟩]⟩,
  -- TL_TOKA
  ⟨0x80000034, 65536, 16, 0, 1, fun i _ => [⟨R.TL_TOKA_T i 0, .ro, none, none⟩, ⟨R.TL_TOKA_T i 1, .ro, none, none⟩, ⟨R.TL_TOKA_T i 2, .ro, none, none⟩, ⟨R.TL_TOKA_T i 3, .ro, none, none⟩, ⟨R.TL_TOKA_T i 4, .ro, none, none⟩, ⟨R.TL_TOKA_T i 5, .ro, none, none⟩, ⟨R.TL_TOKA_T i 6, .ro, none, none⟩, ⟨R.TL_TOKA_T i 7, .ro, none, none⟩]⟩,
  -- TL_TOKB
  ⟨0x80000038, 65536, 16, 0, 1, fun i _ => [⟨R.TL_TOKB_T i 0, .ro, none, none⟩, ⟨R.TL_TOKB_T i 1, .ro, none, none⟩, ⟨R.TL_TOKB_T i 2, .ro, none, none⟩, ⟨R.TL_TOKB_T i 3, .ro, none, none⟩, ⟨R.TL_TOKB_T i 4, .ro, none, none⟩, ⟨R.TL_TOKB_T i 5, .ro, none, none⟩, ⟨R.TL_TOKB_T i 6, .ro, none, none⟩, ⟨R.TL_TOKB_T i 7, .ro, none, none⟩]⟩,
  -- TL_SEAMS
  ⟨0x8000003C, 65536, 16, 0, 1, fun i _ => [⟨R.TL_SEAMS_COUNT i, .ro, none, none⟩]⟩,
  -- TL_SEAMMAX
  ⟨0x80000040, 65536, 16, 0, 1, fun i _ => [⟨R.TL_SEAMMAX_INTERVAL i, .rc, none, none⟩, ⟨R.TL_SEAMMAX_DRAIN i, .rc, none, none⟩]⟩,
  -- TL_INT
  ⟨0x80000044, 65536, 16, 0, 1, fun i _ => [⟨R.TL_INT_HALTED i, .w1c, none, none⟩, ⟨R.TL_INT_STOPPED i, .w1c, none, none⟩, ⟨R.TL_INT_FAULT i, .w1c, none, none⟩, ⟨R.TL_INT_ABORT i, .w1c, none, none⟩, ⟨R.TL_INT_WITHDRAWN i, .w1c, none, none⟩, ⟨R.TL_INT_PROGBUSY i, .w1c, none, none⟩, ⟨R.TL_INT_REFUSED i, .w1c, none, none⟩]⟩,
  -- TL_INTEN
  ⟨0x80000048, 65536, 16, 0, 1, fun i _ => [⟨R.TL_INTEN_EN i, .rw, none, none⟩]⟩,
  -- TL_POISON
  ⟨0x80000100, 65536, 16, 4, 768, fun i k => [⟨R.TL_POISON_W i k, .ro, none, none⟩]⟩,
  -- TL_TAG
  ⟨0x80000D00, 65536, 16, 4, 12, fun i k => [⟨R.TL_TAG_TENANT i k 0, .rw, none, none⟩, ⟨R.TL_TAG_TENANT i k 1, .rw, none, none⟩, ⟨R.TL_TAG_TENANT i k 2, .rw, none, none⟩, ⟨R.TL_TAG_TENANT i k 3, .rw, none, none⟩, ⟨R.TL_TAG_TAGGED i k 0, .rw, none, none⟩, ⟨R.TL_TAG_TAGGED i k 1, .rw, none, none⟩, ⟨R.TL_TAG_TAGGED i k 2, .rw, none, none⟩, ⟨R.TL_TAG_TAGGED i k 3, .rw, none, none⟩]⟩,
  -- TL_XSEED
  ⟨0x80000E00, 65536, 16, 0, 1, fun i _ => [⟨R.TL_XSEED_SEED i, .rw, none, none⟩]⟩,
  -- TL_XFORM
  ⟨0x80001000, 65536, 16, 4, 256, fun i k => [⟨R.TL_XFORM_CHUNK i k, .rw, none, none⟩, ⟨R.TL_XFORM_R i k, .rw, none, none⟩, ⟨R.TL_XFORM_Q i k, .rw, none, none⟩, ⟨R.TL_XFORM_N i k, .rw, none, none⟩, ⟨R.TL_XFORM_VALID i k, .rw, none, none⟩]⟩]

/-- The rows of the ADX register tables. -/
def rowsADX : List RegRow := [
  -- NOC_PAR
  ⟨0x80100000, 0, 1, 0, 1, fun _ _ => [⟨R.NOC_PAR_COUNT, .ro, none, none⟩]⟩,
  -- SHF_TAG
  ⟨0x80110000, 0, 1, 4, 64, fun _ k => [⟨R.SHF_TAG_TENANT k 0, .rw, none, none⟩, ⟨R.SHF_TAG_TENANT k 1, .rw, none, none⟩, ⟨R.SHF_TAG_TENANT k 2, .rw, none, none⟩, ⟨R.SHF_TAG_TENANT k 3, .rw, none, none⟩, ⟨R.SHF_TAG_TAGGED k 0, .rw, none, none⟩, ⟨R.SHF_TAG_TAGGED k 1, .rw, none, none⟩, ⟨R.SHF_TAG_TAGGED k 2, .rw, none, none⟩, ⟨R.SHF_TAG_TAGGED k 3, .rw, none, none⟩]⟩,
  -- SHF_ECC
  ⟨0x80110100, 0, 1, 0, 1, fun _ _ => [⟨R.SHF_ECC_CE, .ro, none, none⟩, ⟨R.SHF_ECC_UE, .ro, none, none⟩]⟩,
  -- MC_CFG
  ⟨0x80120000, 0, 1, 0, 1, fun _ _ => [⟨R.MC_CFG_SPEED, .ro, none, none⟩, ⟨R.MC_CFG_DENSITY, .ro, none, none⟩]⟩,
  -- MC_TRAIN
  ⟨0x80120004, 0, 1, 0, 1, fun _ _ => [⟨R.MC_TRAIN_STEP, .ro, none, none⟩, ⟨R.MC_TRAIN_DONE, .ro, none, none⟩, ⟨R.MC_TRAIN_FAIL, .ro, none, none⟩]⟩,
  -- MC_MR4
  ⟨0x80120008, 0, 1, 4, 2, fun _ k => [⟨R.MC_MR4_MR4 k, .ro, none, none⟩]⟩,
  -- MC_RGN
  ⟨0x80120100, 0, 1, 4, 128, fun _ k => [⟨R.MC_RGN_W k, .rw, none, none⟩]⟩,
  -- ACG_FTOP
  ⟨0x80130000, 0, 1, 0, 1, fun _ _ => [⟨R.ACG_FTOP_POINT, .rw, none, none⟩]⟩,
  -- ACG_STAT
  ⟨0x80130004, 0, 1, 0, 1, fun _ _ => [⟨R.ACG_STAT_SLEWING, .ro, none, none⟩, ⟨R.ACG_STAT_LOCK, .ro, none, none⟩]⟩,
  -- UPD_STAT
  ⟨0x80140000, 0, 1, 0, 1, fun _ _ => [⟨R.UPD_STAT_BUSY, .ro, none, none⟩, ⟨R.UPD_STAT_ACTION, .ro, none, none⟩, ⟨R.UPD_STAT_TENANT, .ro, none, none⟩]⟩,
  -- UPD_BYTES
  ⟨0x80140004, 0, 1, 0, 1, fun _ _ => [⟨R.UPD_BYTES_BYTES, .ro, none, none⟩]⟩,
  -- UPD_JOBS
  ⟨0x80140008, 0, 1, 0, 1, fun _ _ => [⟨R.UPD_JOBS_COUNT, .ro, none, none⟩]⟩,
  -- UPD_NONFIN
  ⟨0x8014000C, 0, 1, 0, 1, fun _ _ => [⟨R.UPD_NONFIN_COUNT, .ro, none, none⟩, ⟨R.UPD_NONFIN_POISON, .ro, none, none⟩]⟩]

end Sys2Proof.Machine
end

