-- ==== Sys2Proof/Machine/State.lean ====
section
/-! DEFINITION. The state of the device as plain data. Registers that the spec's tables name are held field by field in
`State.regs` (see Machine/Regs.lean); the sub-structures hold what the spec gives a block beside its registers. -/

namespace Sys2Proof.Machine

/-- What the machine stops with. No command of this device stops it: where the spec describes a bus error, a refusal
or a ladder report, that is the command's effect (R3, R5, R654). The type has no constructor. -/
inductive Fault where
deriving DecidableEq, Repr

/-- Why a command has no meaning here. -/
inductive Refusal where
  /-- Raised by `exec` for a row without a meaning; safe, since nothing can be proved of it. -/
  | notModelled (mnemonic : String)
deriving DecidableEq, Repr

/-- The answer that the access of a command received on the bus: what a core, the debug module or a bus master sees. -/
inductive Resp where
  | none
  | ok
  | data (w : Word)
  | bytes (l : List Byte)
  | busError
  /-- A load, store or fetch address-misaligned exception of a core (R652). -/
  | misaligned
  /-- A load, store or instruction access fault of a core (R395, R398, R652). -/
  | accessFault
deriving DecidableEq, Repr

/-- The timers of the device. A command that stands for an expiry acts only when its timer is armed and its time has
come (log entry 1). -/
inductive Timer where
  | session | lockout | key (b : Nat)
  | applyStep
  | stateAck (n : Nat) | scrub (n : Nat) | canary | major | frameReport | slot | stopLead
  | fto (c : Nat)
  | trainStep | trainRetry | ackTimer (ad : Bool) | replay (ad : Bool) | pmAck | wakeHeld
  | vout | voutPoll | planAck | slew | mr4 | wck
  | swapLimit (t : Nat) | stopLimit (t : Nat)
  | flintTest | qualRecord
  | luxin | sched | lightHold | control (c : Nat) | hiccup (c : Nat) | sfl1
  | homing | sls | pot | demand | discrep (n : Nat) | offTest (o : Nat) | resetStuck | testPeriod
  | split | wdt (n : Nat) | kick (n : Nat) | scrubber
  | learn (mac : Nat) | storm (p : Nat) | fup (k : Nat) | sync (d : Nat) | fsync (k : Nat)
  | tListen | claimWait | followTo | joinRetry | backoff | hello (p : Nat) | neighbour (p : Nat) | rosterMs
  | beat | headTo | beatTo (key : Nat) | rankWait | publish | resend (k : Nat) | chunkAck (k : Nat) | xferIdle (k : Nat)
  | clockReset | wdtReset | startRetry | pgTimeout (n : Nat) | pgFall (n : Nat) | pgReraise | avs | ready
  | qspi | ntc | cdSensor | forecast | planMiss | watchord | stepTest | xoStart
deriving DecidableEq, Repr

/-- One event as EVL holds it (R584), with `uid` its place in the order of intake and `at_` the time it was presented. -/
structure Occ where
  uid       : Nat
  id        : Nat
  cls       : Nat
  src       : Nat
  arg0      : Nat
  arg1      : Nat
  arg2      : Nat
  rtc       : Nat
  tb2       : Nat
  count     : Nat
  lastDt    : Nat
  held      : Bool
  untrusted : Bool
  at_       : Nat
deriving DecidableEq, Repr

/-- An open coalescing entry (R588). -/
structure Coal where
  uid     : Nat
  id      : Nat
  src     : Nat
  arg0    : Nat
  firstAt : Nat
  count   : Nat
  lastDt  : Nat
deriving DecidableEq, Repr

/-- A slot of the ring: the record, its SEQ, whether it has been persisted, whether firmware released the slot, and
when its coalescing entry closed. -/
structure LogSlot where
  occ       : Occ
  seq       : Nat
  persisted : Bool
  released  : Bool
  closedAt  : Option Nat
deriving DecidableEq, Repr

/-- A record write in progress (R590): its slot, the record it writes, when it began; `back`: it is a write-back of R588;
`released`: firmware has released the slot meanwhile (R606). -/
structure LogWrite where
  slot     : Nat
  occ      : Occ
  at_      : Nat
  back     : Bool
  released : Bool
deriving DecidableEq, Repr

/-- The event log (R584 to R611): what is not a register of it. `backs` are the closed coalescing entries whose write-back is still to
be made, in the order they closed (R588); `writing` the record write in progress; `wrote` the slot of the last new record and when its
write ended (R606). -/
structure EvlState where
  queue     : List Occ
  coal      : List Coal
  ring      : Sparse LogSlot
  nextUid   : Nat
  aonHeld   : List Occ
  aonLost   : List Nat
  page      : Option (List LogSlot)
  pageSeq   : Nat
  flushSeqs : List Nat
  backs     : List Coal
  writing   : Option LogWrite
  wrote     : Option (Nat × Nat)
deriving DecidableEq, Repr

/-- Reset: nothing logged. -/
def EvlState.init : EvlState := ⟨[], [], [], 0, [], [0, 0, 0, 0], none, 1, [], [], none, none⟩

/-- An apply under way (R58, R60, R63): slot, step, when step 1 began; `boot`: it writes no change-log entry; `adPart`: the AD was powered when it began, so its part is not left out (R539); `load`: it is
the AD's part alone, as step 3 of R311; `acked`: the dispatcher's answer to the plan, 0 when accepted, else its reason; `bad`: a blob
has failed its hash or its load. -/
structure Apply where
  slot     : Nat
  step     : Nat
  startAt  : Nat
  boot     : Bool
  adPart   : Bool
  load     : Bool := false
  acked    : Option Nat := none
  bad      : Bool := false
deriving DecidableEq, Repr

/-- The image loader: what is not a register of it. `settings` holds the values the applied image gives, by
(section, field, index); `loads` are the runs of blob bytes that apply step 6 still has to write into AD memory (address, flash
offset, length), `resident` the blobs AD memory holds (hash, address). -/
structure CilState where
  apply     : Option Apply
  settings  : Sparse Nat
  chain     : List Byte
  logPos    : Nat
  nextSeq   : Nat
  tornPrev  : Bool
  bootDone  : Bool
  loads     : List (Nat × Nat × Nat)
  resident  : List (Nat × Nat)
deriving DecidableEq, Repr

def CilState.init : CilState := ⟨none, [], List.replicate 16 0, 0, 0, false, false, [], []⟩

/-- Keys and locks: the length of the password under verification, if one runs. -/
structure LckState where
  busy   : Option Nat
deriving DecidableEq, Repr

def LckState.init : LckState := ⟨none⟩

/-- A Sill message (R161 to R163): virtual channel, type code, tenant, count, tag, body. -/
structure Msg where
  vc     : Nat
  typ    : Nat
  tenant : Nat
  count  : Nat
  tag    : Nat
  body   : List Byte
deriving DecidableEq, Repr

/-- A tenant as TEN tracks it beside its registers: the command waiting for the dispatcher's acknowledgement and whether
it was repeated, whether LOADING follows a reset, the times of its automatic resets and of its BORROW_LATE faults. -/
structure TenantSt where
  cmd      : Option Nat
  again    : Bool
  wasReset : Bool
  resetsAt : List Nat
  lateAt   : List Nat
deriving DecidableEq, Repr

def TenantSt.init : TenantSt := ⟨none, false, false, [], []⟩

/-- TEN: what is not a register of it. `nonce` and `prevNonce` give the canary values of this round and the one before;
`first` says that the next round only writes, `passed` how the first round since the plan ended, once it has; `audit` lists the answers the round under way still misses, with the time of
each request that has been made; `probeTile` rotates; `lateSAt` are the times of REVOKE_LATE for S owners; `waiting` is
the major frame whose report is awaited, `nextK` the number of the next. -/
structure TenState where
  tenants   : List TenantSt
  nonce     : Nat
  prevNonce : Nat
  first     : Bool
  passed    : Option Bool
  audit     : Option (List (Nat × Option Nat))
  probeTile : Nat
  lateSAt   : List Nat
  waiting   : Option Nat
  nextK     : Nat
deriving DecidableEq, Repr

def TenState.init : TenState :=
  ⟨List.replicate 16 .init, 0, 0, true, none, none, 0, [], none, 0⟩

/-- A trailer in the stamp table (R297). -/
structure Stamp where
  cam    : Nat
  ctr    : Nat
  fs     : Nat
  fe     : Nat
  status : Nat
deriving DecidableEq, Repr

/-- One transform of a run (R286). -/
structure Xform where
  chunk : Nat
  r     : Nat
  q     : Nat
  neg   : Bool
deriving DecidableEq, Repr

/-- A run entry (R297): the transforms, which pairs arrived, how many are unproven, whether one failed, the record
number expected next, and the OBJECT records its ZONES record announced, once that has come. -/
structure RunEntry where
  tenant   : Nat
  cam      : Nat
  ctr      : Nat
  seed     : Nat
  xf       : List Xform
  arrived  : List Nat
  unproven : Nat
  bad      : Bool
  recno    : Nat
  objs     : Option Nat
  judged   : Bool
deriving DecidableEq, Repr

/-- A Flint score set (R292). -/
structure ScoreSet where
  cam    : Nat
  ctr    : Nat
  fs     : Nat
  scores : List Nat
deriving DecidableEq, Repr

/-- A received RECORD message (R294): header fields and the record with its pairs. -/
structure RecMsg where
  tenant : Nat
  count  : Nat
  tag    : Nat
  bytes  : List Byte
deriving DecidableEq, Repr

/-- A qualification under way (R313): the case, whether its second run is on, that run's transforms and the record awaited;
a case number beyond the last says that all records have come and agreed. -/
structure Qual where
  idx    : Nat
  second : Bool
  xf     : List Xform
  next   : Nat
deriving DecidableEq, Repr

/-- The Assay: what is not a register of it; `headTb2` is TB2 when the record at the head of the intake queue came there (R318),
`cleared` when each zone-map entry was last cleared (its time plus 1, R316), and `trustWas` the trust state before a change and the
time of the change, until a verdict has been given (R319). -/
structure AsyState where
  intake    : List RecMsg
  stamps    : List Stamp
  runs      : List RunEntry
  flint     : List ScoreSet
  stkRuns   : Sparse Nat
  runCnt    : Sparse Nat
  good      : Sparse Nat
  refutedAt : List Nat
  ladderAt  : List Nat
  gapAt     : List Nat
  staleAt   : List Nat
  shortAt   : List Nat
  resetsAt  : List Nat
  headTb2   : Nat
  cleared   : Sparse Nat
  trustWas  : Option (Nat × Nat)
  qual      : Option Qual
  qualBad   : Bool
deriving DecidableEq, Repr

def AsyState.init : AsyState := ⟨[], [], [], [], [], [], [], [], [], [], [], [], [], 0, [], none, none, false⟩

/-- The time block (R432 to R442): the four bases in units of 2⁻³² ns, 64 bits each; TB3's offset D in the same unit; the bases
whose bit 31 has fallen and whose wrap is not yet shown; which of the domains A and B were good when last looked at; when Syncs
of each came within the last second; the FSYNC pins that are high; when each of the two domains last ceased to be good (its time
plus 1). -/
structure TimState where
  tb      : List Nat
  d       : Int
  wraps   : List Nat
  good    : Bool × Bool
  syncAt  : List (List Nat)
  fsync   : List Nat
  lostAt  : List Nat
deriving DecidableEq, Repr

def TimState.init : TimState := ⟨[0, 0, 0, 0], 0, [], (false, false), [[], []], [], [0, 0]⟩

/-- Who waits for a memory request's answer: a core's AD-window access, or the canary audit, with which answer of the
round it is (0 to 63 a region's canary read, 64 to 127 its write, 128 and 129 the probes); or a Cairn transfer (by serial
number), reading its object or writing what it received; or the image loader, writing a blob. -/
inductive MemUser where
  | window
  | audit (key : Nat)
  | xfer (tx : Bool) (ser : Nat) (off : Nat)
  | load
deriving DecidableEq, Repr

/-- A memory access the CD wants (R165): scope, tenant-local address, bytes to read or the data to write. -/
structure MemAsk where
  write  : Bool
  tenant : Nat
  addr   : Nat
  len    : Nat
  data   : List Byte
  user   : MemUser
deriving DecidableEq, Repr

/-- An outstanding memory request of the CD (R165). -/
structure MemReq where
  tag   : Nat
  write : Bool
  user  : MemUser
  at_   : Nat
deriving DecidableEq, Repr

/-- The control rows of Sill (R148). -/
inductive CtlRow where
  | idle
  | trn1 (attempt : Nat)
  | trn2 (lanes capacity : Nat)
  | eidle
  | sync
deriving DecidableEq, Repr

/-- A message in reception on a VC (R162): SEQ and TTYPE of its first flit, its bytes so far, and whether the rest of it is
discarded. -/
structure PartMsg where
  seq  : Nat
  typ  : Nat
  data : List Byte
  drop : Bool
deriving DecidableEq, Repr

/-- One end of the link (R149 to R162). Sending: `txq` the messages with flits still to send, with how many; `seq` the next SEQ; `replay`
the unacknowledged flits, oldest first; `resent` how often the oldest was resent, `again` the SEQ from which to resend at the end of the
cycle (R175), `cap` the replay capacity; `cred` the credits held and `credTot` the totals last received; `slot` the next flit slot, `used0`
and `used1` the slots VC0 and VC1 took of their guarantee in its window, `rr` the round-robin position; `pos` the flits of the group of 16
under way (R147). Receiving: `rxExp` the SEQ expected, `got` whether a flit was taken, `rxUnack` the flits taken since the last ACK,
`nakSent` whether the episode has had its NAK; `part` the messages in reception by VC; `free` the free flits of the receive buffers and
`freed` the totals freed since training. -/
structure LinkEnd where
  txq     : List (Msg × Nat)
  seq     : Nat
  replay  : List (Nat × List Byte)
  resent  : Nat
  again   : Option Nat
  cap     : Nat
  cred    : List Nat
  credTot : List Nat
  slot    : Nat
  used0   : Nat
  used1   : Nat
  rr      : Nat
  pos     : Nat
  rxExp   : Nat
  got     : Bool
  rxUnack : Nat
  nakSent : Bool
  part    : List (Option PartMsg)
  free    : List Nat
  freed   : List Nat
deriving DecidableEq, Repr

def LinkEnd.init : LinkEnd :=
  { txq := [], seq := 0, replay := [], resent := 0, again := none, cap := 128, cred := [0, 0, 0, 0], credTot := [0, 0, 0, 0], slot := 0,
    used0 := 0, used1 := 0, rr := 0, pos := 0, rxExp := 0, got := false, rxUnack := 0, nakSent := false,
    part := [none, none, none, none], free := [0, 0, 0, 0], freed := [0, 0, 0, 0] }

/-- The Sill link: what is not a register of it. `cd` and `ad` are its ends, `wireAd` and `wireCd` the flits on their way to the AD and
to the CD. `toAd` lists the messages that have reached the AD and it has not yet taken; `toCd` those that have reached the CD, with the SEQ
of their first flit. `rows`: the control rows the CD sends; `step` the last step of R152 that has finished and `failed` the lanes that
failed; `fast`, `fastAt`, `fastRow`: a fast retrain runs, the last ones, and those in a row; `upAt` and `actNs` when ACTIVE began and how
long it had lasted before, since the last retrain. `pmTarget`, `pmAcked`, `pmSpoilt`: the entry under way, whether PM_ACK came, or never
came; `adQuiet`: the AD has answered PM_ENTER; `sleepWant`: SLEEP_REQ waits for the link; `restAt` since when DOZE lasts; `awaitAck`: the
AD has not had RESUME_ACK. `reqs` are the memory requests outstanding and `memWait` those that wait for one of the sixteen places.
`loadOwed`: SB_ADRST_N has been released and the dispatcher firmware not yet sent (R543). -/
structure SilState where
  cd       : LinkEnd
  ad       : LinkEnd
  wireAd   : List (List Byte)
  wireCd   : List (List Byte)
  toAd     : List Msg
  toCd     : List (Msg × Nat)
  rows     : List CtlRow
  step     : Nat
  failed   : Nat
  loadOwed : Bool
  attempts : Nat
  fast     : Bool
  fastAt   : List Nat
  fastRow  : Nat
  upAt     : Nat
  actNs    : Nat
  crcAt    : List Nat
  readyAt  : Option Nat
  pmTarget : Nat
  pmAcked  : Bool
  pmSpoilt : Bool
  adQuiet  : Bool
  sleepWant : Bool
  idleAt   : Nat
  restAt   : Nat
  resumeAt : Option Nat
  wakeAt   : Option Nat
  cause    : Bool
  awaitAck : Bool
  reqs     : List MemReq
  memWait  : List MemAsk
  nextTag  : Nat
  recAt    : List Nat
  evAt     : List Nat
deriving DecidableEq, Repr

def SilState.init : SilState :=
  { cd := .init, ad := .init, wireAd := [], wireCd := [], toAd := [], toCd := [], rows := [], step := 0, failed := 0,
    loadOwed := false, attempts := 0, fast := false, fastAt := [], fastRow := 0, upAt := 0, actNs := 0, crcAt := [], readyAt := none,
    pmTarget := 0, pmAcked := false, pmSpoilt := false, adQuiet := false, sleepWant := false, idleAt := 0, restAt := 0,
    resumeAt := none, wakeAt := none, cause := false, awaitAck := false, reqs := [], memWait := [], nextTag := 0,
    recAt := [], evAt := [] }

/-- A copy for Flint (R128 to R130). -/
structure FlintCopy where
  ctr : Nat
  fs  : Nat
  pix : List Byte
  at_ : Nat
deriving DecidableEq, Repr

/-- A frame in reception (R120 to R126): its stamp, the settings it runs under, its statuses, what has been received of
it, the running block CRC, whether it is being forwarded and on which VC, whether its trailer has been sent, and whether
it is copied for Flint, with last_copy before it. -/
structure IngFrame where
  rx       : Nat
  chan     : Nat
  ctr      : Nat
  fs       : Nat
  dtype    : Nat
  width    : Nat
  height   : Nat
  vc       : Nat
  fwd      : Bool
  opened   : Bool
  trailed  : Bool
  status   : Nat
  errmask  : Nat
  lines    : Nat
  bytes    : Nat
  blocks   : List Nat
  crc      : BitVec 32
  copy     : Bool
  prevCopy : Option Nat
  rows     : List (List Byte)
deriving DecidableEq, Repr

/-- A camera of the ingress beside its registers: the open frame, when the last frame started, last_copy, the FPS it was
taken under, the moments of frames that were not OK and of those that the camera caused, when the run of OK frames began, a finished
copy awaiting hand-over, since when no frame start has come while it is enabled, and the receiver of its last frame. -/
structure IngCam where
  frame   : Option IngFrame
  lastFs  : Option Nat
  lastCopy : Option Nat
  copyFps : Nat
  nokAt   : List Nat
  badAt   : List Nat
  okAt    : Option Nat
  done    : Option FlintCopy
  quietAt : Option Nat
  rx      : Nat
deriving DecidableEq, Repr

def IngCam.init : IngCam := ⟨none, none, none, 0, [], [], none, none, none, 0⟩

/-- Camera ingress: what is not a register of it; `ends` the trailers of the frame ends of this cycle, in ascending camera number
(R138). -/
structure IngState where
  cams : List IngCam
  ends : List (Nat × Msg)
deriving DecidableEq, Repr

def IngState.init : IngState := ⟨List.replicate 4 .init, []⟩

/-- Flint's input queues, one per camera, and whether a passed model check stands. -/
structure FltState where
  queue   : List (List FlintCopy)
  modelOk : Bool
deriving DecidableEq, Repr

def FltState.init : FltState := ⟨List.replicate 4 [], false⟩

/-- An I²C controller beside its registers: the FIFOs, from when on it takes the bus as free, when nothing else happens on it (R133), whether its transfer is on the bus, and whether it holds the bus for
a repeated START. -/
structure I2cState where
  tx      : List Byte
  rx      : List Byte
  freeAt  : Option Nat
  run     : Bool
  held    : Bool
deriving DecidableEq, Repr

def I2cState.init : I2cState := ⟨[], [], some 0, false, false⟩



/-- A shift of the move engine (R229, R232): kind 0 MLOAD, 1 MSTORE, 2 MSEND, 3 MRECV; the token to signal; the
tenant-local address; first line, number of lines, lines moved; peer tile and queue; when it was issued or last moved. -/
structure Shift where
  kind  : Nat
  st    : Nat
  addr  : Nat
  line  : Nat
  lines : Nat
  done  : Nat
  peer  : Nat
  peerQ : Nat
  at_   : Nat
  pc    : Nat
deriving DecidableEq, Repr

/-- An operation in an engine: its slot, and the bundle it came from. -/
structure QOp where
  word : Nat
  pc   : Nat
deriving DecidableEq, Repr

/-- A line in the receive buffer of a shift queue (R233): the tile and queue that sent it, its data and mark. -/
structure RxLine where
  tile : Nat
  q    : Nat
  data : Nat
  mark : Bool
deriving DecidableEq, Repr

/-- An abort under way (R241): its cause, what follows it (0 IDLE, 1 a program, 2 FAULTED), when step 6 comes, and the withdrawals on
their way: own queue, far tile and queue, kind of shift. -/
structure TileAbort where
  cause  : Nat
  after  : Nat
  bank   : Nat
  tenant : Nat
  until_ : Nat
  far    : List (Nat × Nat × Nat × Nat)
deriving DecidableEq, Repr

/-- An open pass signature (R289, R290): chunk, generator, sum, reads so far, and whether it feeds (R287). -/
structure Sig where
  chunk : Nat
  x     : Nat
  sum   : Nat
  feeds : Bool
deriving DecidableEq, Repr

/-- A request written to TL_SWAP and not yet taken (R239): 1 SWAP, 2 STOP. -/
structure TileReq where
  kind   : Nat
  bank   : Nat
  reason : Nat
  tenant : Nat
deriving DecidableEq, Repr

/-- A tile beside its registers. `disp`: the bundle at PC has been dispatched; `seam`: the seam it carries has been
reached; `halting`: HALT was dispatched. `q` are the issue queues and `cur` the operations in progress of the MAC, vector
and move engines; `rx` what waits in the receive buffers of the shift queues; `tenths` what TL_CYCLES has left over; `banks` the FMT and SPASS of each accumulator bank; `sigo` the chunk of the program's last
SIGO (R287). Vector registers, accumulators and lines are in
`AdState`. -/
structure TileSt where
  disp    : Bool
  seam    : Bool
  halting : Bool
  q       : List (List QOp)
  cur     : List (Option QOp)
  ma      : List Nat
  va      : List Nat
  dd      : List Nat
  fmt     : Nat
  spass   : Bool
  wAct    : List Nat
  wActM   : Bool
  wSh     : List Nat
  wShM    : Bool
  banks   : List (Option (Nat × Bool))
  params  : List Nat
  paramM  : List Bool
  loops   : List (Nat × Nat)
  shifts  : List (List Shift)
  rx      : List (List RxLine)
  abort   : Option TileAbort
  tenths  : Nat
  sig     : Option Sig
  sigo    : Option Nat
  posted  : List (Nat × Nat)
  req     : Option TileReq
deriving DecidableEq, Repr

/-- A tile at power-up (R202). -/
def TileSt.init : TileSt :=
  { disp := false, seam := false, halting := false, q := [[], [], []], cur := [none, none, none],
    ma := List.replicate 8 0, va := List.replicate 8 0, dd := List.replicate 8 0, fmt := 0, spass := false, wAct := [],
    wActM := false, wSh := [], wShM := false, banks := List.replicate 8 none, params := List.replicate 128 0,
    paramM := [false, false], loops := [], shifts := List.replicate 8 [], rx := List.replicate 8 [],
    abort := none, tenths := 0, sig := none, sigo := none, posted := [], req := none }

/-- A job at the dispatcher (R81, R84): its tenant, the ring it came from (none for a frame job), its descriptor, when
it was taken, FE_TIME and buffer of a frame job, the tiles it holds once started, its phase, whether it read poison,
how much it has written. `batch` is 0 outside ragged batches, 1 in the tenant's open batch, else the number of a closed one; `verdict` a
status decided and not yet written, `cutFrom` the tiles it was last cut off from (R272) with what it had written. -/
structure Job where
  tenant  : Nat
  ring    : Option Nat
  desc    : List Byte
  at_     : Nat
  fe      : Nat
  buf     : Nat
  batch   : Nat
  started : Bool
  tiles   : List Nat
  phase   : Nat
  poison  : Bool
  out     : Nat
  verdict : Option Nat
  cutFrom : List Nat
  cutOut  : Nat
deriving DecidableEq, Repr

/-- A frame the dispatcher is receiving (R84, R164): the tenants it is written for, with the buffer of each, and the payload received,
by offset. -/
structure DFrame where
  cam  : Nat
  ctr  : Nat
  fs   : Nat
  big  : Bool
  dest : List (Nat × Nat)
  data : List (Nat × List Byte)
deriving DecidableEq, Repr

/-- A present tenant as the plan data gives it (R258). -/
structure PlanTenant where
  n        : Nat
  cls      : Nat
  model    : Nat
  cams     : Nat
  borrower : Bool
  queues   : Nat
  mib      : Nat
  rate     : Nat
  burst    : Nat
  pkgLen   : Nat
  pkgAt    : Nat
  chunks   : List Nat
deriving DecidableEq, Repr

/-- A clock-plan item (R203), and when it arrived (R215). -/
structure ClockItem where
  tag    : Nat
  ftop   : Nat
  points : List Nat
  at_    : Nat
deriving DecidableEq, Repr

/-- The dispatcher: what it keeps beside the registers of the AD control space. `st` are the tenant states it has
entered, `slots` the slot plan, `loans` the lent tiles with their borrowers, `rr` the next tenant for a memory grant in each class, `turn` each tenant's next ring, `lendRr` the next borrower, `batches` the last closed batch,
`tokens` each tenant's bucket in
thousandths of a token, below 0 while transfers that were made at once are still owed, with the time it was brought up to, `runs` the STREAK_SETs (tenant, camera, FRAME_CTR, seed,
transforms), `items` the clock-plan items that wait and `slew` the one under way with the points before it, `faults` the
tenant faults not yet reported, `sram` the firmware that the load has put into its SRAM (R193, R543), `dm` the system-bus registers of its debug module by their number (sbcs 0x38, sbaddress0 0x39, sbdata0 0x3C), `wake` SB_WAKE and `held` what waits behind it. -/
structure Dsp where
  running  : Bool
  sram     : List Byte
  plan     : List PlanTenant
  planOk   : Bool
  planBuf  : List Byte
  lend     : Bool
  slots    : List (List Nat)
  st       : List Nat
  lendOk   : List Bool
  jobs     : List Job
  frames   : List DFrame
  bufNext  : Sparse Nat
  sqTail   : Sparse Nat
  sqHead   : Sparse Nat
  cqTail   : Sparse Nat
  cqPhase  : Sparse Nat
  cqHead   : Sparse Nat
  slot     : Nat
  loans    : List (Nat × Nat)
  lends    : Nat
  late     : Nat
  rr       : List Nat
  turn     : List Nat
  lendRr   : Nat
  batches  : Nat
  tokens   : List (Int × Nat)
  runs     : List (Nat × Nat × Nat × Nat × List Xform)
  items    : List ClockItem
  slew     : Option (ClockItem × ClockItem)
  faults   : List (Nat × Nat × Nat)
  refresh  : List Nat
  mr4Next  : List Nat
  dm       : Sparse Nat
  wake     : Bool
deriving DecidableEq, Repr

def Dsp.init : Dsp :=
  { running := false, sram := [], plan := [], planOk := false, planBuf := [], lend := false,
    slots := [], st := List.replicate 16 0, lendOk := List.replicate 16 true, jobs := [], frames := [], bufNext := [],
    sqTail := [], sqHead := [], cqTail := [], cqPhase := [], cqHead := [], slot := 0, loans := [], lends := 0,
    late := 0, rr := [0, 0, 0], turn := List.replicate 16 0, lendRr := 0, batches := 1, tokens := List.replicate 16 (0, 0), runs := [], items := [],
    slew := none, faults := [], refresh := [1, 1], mr4Next := [1, 1], dm := [(0x38, 0x40000)], wake := false }

/-- The accelerator die: tiles, their memories and the dispatcher. `store` holds the tile-store lines as 512-bit
numbers (key: tile × 24,576 + line), `acc` and `accM` the accumulator entries and their poison marks (tile × 16,384 +
entry), `vreg` and `vmark` the vector registers as 2,048-bit numbers and their marks as one bit per byte (tile × 32 +
register), `prog` the program bundles (tile × 8,192 + bank × 4,096 + index), `shfPoison` the poison bits of shelf lines.
-/
structure AdState where
  tiles     : List TileSt
  store     : Sparse Nat
  acc       : Sparse Nat
  accM      : Sparse Nat
  vreg      : Sparse Nat
  vmark     : Sparse Nat
  prog      : Sparse Nat
  shfPoison : Sparse Nat
  dsp       : Dsp
deriving DecidableEq, Repr

def AdState.init : AdState :=
  ⟨List.replicate 16 TileSt.init, [], [], [], [], [], [], [], Dsp.init⟩


/-- A transition of the power manager (R533, R534, R538, R542, R545, R547). `kind`: 0 cold or wake start, 1 the CD enables of
the boot apply, 2 entry into WORK, 3 the way back to WATCH, 4 entry into STANDBY, 5 PWR_EN2 after its loss, 6 everything
lowered before a new cold start. `todo` lists the enables still to be raised, or lowered when `down`; `raised` those the
transition has raised; `failed` says that it is lowering them again; `times` how long, in ns, each power-good may take, as POWER stood when
the transition began (R533). -/
structure Trans where
  kind   : Nat
  down   : Bool
  todo   : List Nat
  raised : List Nat
  failed : Bool
  times  : List Nat
deriving DecidableEq, Repr

/-- An operating-point change under way (R205, R206): 0 the voltage rises, 1 the clock-plan item is out, 2 the voltage
falls; the points (0xFF for a tile that is off), F_top, the item's TAG, whether the item was sent again, and the voltages
before and after, mV. -/
structure Dvfs where
  phase : Nat
  pts   : List Nat
  ftop  : Nat
  tag   : Nat
  again : Bool
  oldMv : Nat
  newMv : Nat
deriving DecidableEq, Repr

/-- The power manager: what is not a register of it. `held`: AON holds the device in POR. `porAt`: when the real-time
counter was 0. `retries` of the present start; `lossAt` the losses of power-good (enable, time) and `chatter` the enables held
low for them (R560); `powerKnown`: the boot apply has written POWER; `sramLost`: CD_CORE has lost power since SRAM was
last filled; `tileAt` when the last tile was switched on; `dvfsHeld` a request that waits (R215); `pseq` the last plan sequence
number; `vout` the last VOUT_COMMAND word; `wakeSrc` a wake that came during an entry into STANDBY;
`retained`: the DRAM has been kept in self-refresh since the last exit from WORK;
`fresh`: nothing has booted since POR. -/
structure PmuState where
  held       : Bool
  porAt      : Nat
  trans      : Option Trans
  retries    : Nat
  lossAt     : List (Nat × Nat)
  chatter    : List Nat
  powerKnown : Bool
  sramLost   : Bool
  tileAt     : Option Nat
  dvfs       : Option Dvfs
  dvfsHeld   : Bool
  told       : Nat × List Nat
  pseq       : Nat
  vout       : Nat
  wakeSrc    : Nat
  retained   : Bool
  fresh      : Bool
  domRst     : List Nat
deriving DecidableEq, Repr

def PmuState.init : PmuState :=
  { held := true, porAt := 0, trans := none, retries := 0, lossAt := [], chatter := [], powerKnown := false, sramLost := true,
    tileAt := none, dvfs := none, dvfsHeld := false, told := (3, List.replicate 16 3), pseq := 0, vout := 0, wakeSrc := 0, retained := false, fresh := true, domRst := [] }

/-- A core as far as this spec describes it: its registers by debug register number (CSRs at their number, general register
n at 0x1000 + n; an unlisted one reads 0), its pc, and its interrupt lines as released to it (R384): bit 0 software, 1
timer, 2 external. -/
structure CoreSt where
  regs : Sparse Nat
  pc   : Nat
  irq  : Nat
deriving DecidableEq, Repr

/-- A core as it leaves reset (R376). -/
def CoreSt.init : CoreSt := ⟨[], 0, 0⟩

/-- A watchdog (R392): when it was last kicked or started, and whether a first kick half has come. -/
structure Wdt where
  since : Nat
  half  : Bool
deriving DecidableEq, Repr

/-- The debug module beside SYS_DBG (R400 to R403): the TAP's instruction register, data0, the program buffer, whether a
hart other than 0 is selected, cmderr, sberror, the address and data of the last system-bus access, the replay log and whether it has
overflowed. -/
structure DbgState where
  ir      : Nat
  data0   : Nat
  progbuf : List Nat
  absent  : Bool
  cmderr  : Nat
  sberror : Nat
  sbaddr  : Nat
  sbdata  : Nat
  log     : List (Nat × Nat)
  ovf     : Bool
deriving DecidableEq, Repr

def DbgState.init : DbgState := ⟨1, 0, List.replicate 8 0, false, 0, 0, 0, 0, [], false⟩

/-- The companion cores and SYS: what is not a register of it. `ready`: SRAM is filled and the cores may leave reset; `running`:
they have; `stopped`: a mismatch has stopped them; `cause` the SYS_RSTCAUSE bit of a CORE reset that is due; `bootRom`:
the boot ROM has not yet handed over; `mtimeAt` when SYS_MTIME was 0; `mismAt` the mismatches of the last 60 minutes;
`joinDue`: both cores wait at JOIN while C0 is halted there (R409); `scrub` the scrubber's word; `otpBusy` the offset of the word being read from OTP;
`recv` the bytes that the recovery mode has received (R529). -/
structure CpuState where
  c0      : CoreSt
  c1      : CoreSt
  ready   : Bool
  running : Bool
  stopped : Bool
  bootRom : Bool
  cause   : Nat
  wdt     : List Wdt
  mtimeAt : Nat
  mismAt  : List Nat
  scrub   : Nat
  otpBusy : Option Nat
  recv    : List Byte
  dbg     : DbgState
  joinDue : Bool
deriving DecidableEq, Repr

def CpuState.init : CpuState :=
  { c0 := .init, c1 := .init, ready := false, running := false, stopped := false, bootRom := false, cause := 0,
    wdt := [⟨0, false⟩, ⟨0, false⟩], mtimeAt := 0, mismAt := [], scrub := 0, otpBusy := none, recv := [], dbg := .init, joinDue := false }


/-- One LED channel beside its registers (R335 to R342): the level it gets under failover with 24 fraction bits, whether
this control cycle was ended by the overcurrent comparator, consecutive such cycles, consecutive cycles of string
over-voltage and under-voltage, since when the average current has been off, the retries made, and when it last failed
and when failover was last set on it. -/
structure LuxCh where
  fo      : Nat
  ocThis  : Bool
  ocNew   : Bool
  ocRun   : Nat
  ovRun   : Nat
  uvRun   : Nat
  monAt   : Option Nat
  retryAt : List Nat
  failAt  : Option Nat
  setAt   : Option Nat
deriving DecidableEq, Repr

/-- A channel that has not run. -/
def LuxCh.init : LuxCh := ⟨0, false, false, 0, 0, 0, none, [], none, none⟩

/-- The light drive: what is not a register of it. `o` is R334's output level with 24 fraction bits; `ch` the channels,
0 first. -/
structure LuxState where
  o          : Nat
  ch         : List LuxCh
  sensorDark : Bool
  vgdLow     : Bool
deriving DecidableEq, Repr

def LuxState.init : LuxState := ⟨0, [.init, .init], true, false⟩

/-- The tilt drive: what is not a register of it. `step` is the homing step 1 to 4, 0 outside homing. -/
structure TltState where
  step     : Nat
  began    : Int
  winStart : Int
  index    : Nat
  potOffAt : Option Nat
  ocAt     : List Nat
  idxDue   : Option Bool
deriving DecidableEq, Repr

def TltState.init : TltState := ⟨0, 0, 0, 0, none, [], none⟩

/-- A safety input pair: consecutive open and closed samples, whether a cleared fault still awaits a clean test period,
and when it last left demand. -/
structure SioPair where
  openRun   : Nat
  closedRun : Nat
  retest    : Bool
  leftAt    : Option Nat
deriving DecidableEq, Repr

/-- Safety I/O: what is not a register of it. `rstLow` is when SAFE_RESET_N fell, while it is low; `rstHigh` since when
it is high; `rstOk` whether the high before the fall was long enough; `stuck` the RST_STUCK condition. -/
structure SioState where
  pairs   : List SioPair
  rstLow  : Option Nat
  rstHigh : Nat
  rstOk   : Bool
  stuck   : Bool
deriving DecidableEq, Repr

def SioState.init : SioState := ⟨List.replicate 4 ⟨0, 0, false, none⟩, none, 0, false, false⟩


/-- An ENERGY_PLAN as THM keeps it (R567): FTOP, the entries (base, borrow, learn, 0.1 W), the highest tile temperature. -/
structure EnergyPlan where
  ftop    : Nat
  entries : List (Nat × Nat × Nat)
  temp    : Option Int
deriving DecidableEq, Repr

/-- THM: what is not a register of it. `missed`: no plan for 100 ms; `pmeas` the samples of P_meas of the last second, as FP32,
with their times; `ioutAt` the last READ_IOUT; `parked` the borrowers parked; `changeAt` the last change to the actions; `clean` the
consecutive forecasts that would let one be undone; `hot` the consecutive seconds at AD_TJ_C; `low` the consecutive forecasts with
g above 1.3; `bad0`, `bad1` a fault of the thermistors and `apart` the disagreement of the CD sensors; `cdSince` and `trip` since
when the CD junction has been at CD_TJ_C and above 125 °C; `free`: 60 s have passed since WATCHORD was set; `step` the samples of the step
test, newest first (casting, ambient, LED power). -/
structure ThmState where
  plan     : Option EnergyPlan
  missed   : Bool
  pmeas    : List (Nat × Nat)
  ioutAt   : Option Nat
  parked   : List Nat
  changeAt : Option Nat
  clean    : Nat
  hot      : Nat
  low      : Nat
  bad0     : Bool
  bad1     : Bool
  apart    : Bool
  cdSince  : Option Nat
  trip     : Option Nat
  free     : Bool
  step     : List (Int × Int × Nat)
deriving DecidableEq, Repr

def ThmState.init : ThmState := ⟨none, false, [], none, [], none, 0, 0, 0, false, false, false, none, none, false, []⟩

/-- A command of the flash controller under way (R658): 1 program, 2 and 3 erase, 4 read; flash offset, length, program data. -/
structure QspiCmd where
  op   : Nat
  addr : Nat
  len  : Nat
  data : List Byte
deriving DecidableEq, Repr

/-- A UART's FIFOs, oldest byte first (R640). -/
structure UartState where
  tx : List Byte
  rx : List Byte
deriving DecidableEq, Repr

/-- The SPI controller beside its registers (R641): its FIFOs, the length of the transfer under way, the bytes its target has still
to answer, the select asserted, and whether it stays so. -/
structure SpiState where
  tx   : List Byte
  rx   : List Byte
  len  : Nat
  miso : List Byte
  sel  : Option Nat
  hold : Bool
deriving DecidableEq, Repr

def SpiState.init : SpiState := ⟨[], [], 0, [], none, false⟩


/-- The transmit descriptor behind a frame of firmware: its address and its FLAGS (R425). -/
structure TxRef where
  desc  : Nat
  flags : Nat
deriving DecidableEq, Repr

/-- A frame waiting on a line port (R422): its bytes without FCS, its egress class; `kind` 0 sent as it stands, 1 Δ is added to
its own correctionField, 2 its Δ is recorded, 3 it takes a recorded Δ (R429, R430); the base and t_in of that Δ with L; the
descriptor it came from; when it was queued. -/
structure OutFrame where
  bytes : List Byte
  cls   : Nat
  kind  : Nat
  base  : Nat
  tin   : Nat
  delay : Nat
  tx    : Option TxRef
  at_   : Nat
deriving DecidableEq, Repr

/-- An entry of R430's table: egress port, key (domainNumber, sourcePortIdentity, sequenceId) and Δ. -/
structure FupEntry where
  port  : Nat
  key   : List Byte
  delta : Nat
deriving DecidableEq, Repr

/-- A Cairn frame that CRN has still to take: port, bytes without FCS, stamp in TB2, VLAN tag present, when it came. -/
structure CrnIn where
  port  : Nat
  bytes : List Byte
  stamp : Nat
  vlan  : Bool
  at_   : Nat
deriving DecidableEq, Repr

/-- An MDIO operation under way (R417). -/
structure MdioOp where
  op   : Nat
  phy  : Nat
  reg  : Nat
  data : Nat
deriving DecidableEq, Repr

/-- The switch beside its registers: the learning table (address, port), the broadcasts and multicasts counted in this window
per port, the egress queues per port, R430's table, the transmit descriptors whose frames are under way with the ports still to
send them, the MDIO operation, when each port's link went down in the last 60 s, what CRN has still to take, and the frame each
line port sent last. -/
structure NetState where
  learn  : List (Nat × Nat)
  storm  : List Nat
  queues : List (List OutFrame)
  fup    : List (Option FupEntry)
  txOpen : List (Nat × Nat)
  mdio   : Option MdioOp
  downAt : List (List Nat)
  crnIn  : List CrnIn
  sent   : List (List Byte)
deriving DecidableEq, Repr

def NetState.init : NetState :=
  { learn := [], storm := [0, 0], queues := [[], []], fup := List.replicate 16 none, txOpen := [], mdio := none, downAt := [[], []],
    crnIn := [], sent := [[], []] }

/-- A Cairn message that CRN has accepted and delivers (R455, R457): header fields, body, port, stamp, VLAN tag, when it came. -/
structure CrnMsg where
  typ   : Nat
  src   : Nat
  dst   : Nat
  epoch : Nat
  body  : List Byte
  port  : Nat
  stamp : Nat
  vlan  : Bool
  at_   : Nat
deriving DecidableEq, Repr

/-- A roster entry (R464). -/
structure RosterEntry where
  key    : Nat
  pos    : Nat
  role   : Nat
  rank   : Nat
  state  : Nat
  prio   : Nat
  head   : Bool
  acting : Bool
deriving DecidableEq, Repr

/-- A node as the head knows it: its roster entry, the neighbour keys and the rank of its JOIN, and when that came. -/
structure CrnNode where
  ent  : RosterEntry
  n0   : Nat
  n1   : Nat
  want : Nat
  at_  : Nat
deriving DecidableEq, Repr

/-- A receive transfer (R475): serial number, source, XFER_ID, TOTAL, DEST_OFF, OBJ_CRC, STEP, KIND, the fragments held by index,
how many are unacknowledged. -/
structure XferRx where
  ser   : Nat
  src   : Nat
  id    : Nat
  total : Nat
  dest  : Nat
  crc   : Nat
  step  : Nat
  kind  : Nat
  frags : Sparse (List Byte)
  unack : Nat
deriving DecidableEq, Repr

/-- A send transfer (R476): serial number, XFER_ID, descriptor address, the descriptor's fields, the parts of the object read so far by
offset, how far it has been asked for, its CRC-32C once all is read, the offset of the next new fragment, CUM and SACK as acknowledged, time-outs without progress. -/
structure XferTx where
  ser   : Nat
  id    : Nat
  desc  : Nat
  src   : Nat
  len   : Nat
  dest  : Nat
  dst   : Nat
  step  : Nat
  kind  : Nat
  parts : Sparse (List Byte)
  asked : Nat
  crc   : Option Nat
  next  : Nat
  cum   : Nat
  sack  : Nat
  tries : Nat
deriving DecidableEq, Repr

/-- Cairn beside its registers: the message counter and the highest epoch seen; the current roster with its RING_SIZE and
ROSTER_MS; the head's table of nodes, the roster change not yet published, the first break reported; the keys of the neighbours
by port; the head's standing and the claim followed; JOINs sent; duplicate keys in the last
60 s and whether CRN stays in LISTEN for them; the acting rank; RANK_WAIT has passed; control messages of the last second by
source; what has been accepted and not yet handled; transfers; completed XFER_IDs, newest first; the next XFER_ID and serial
number; memory requests that wait; HELLOs and the BEAT that wait for a slot edge. -/
structure CrnState where
  seq      : Nat
  seen     : Nat
  roster   : List RosterEntry
  ring     : Nat
  rosterMs : Nat
  nodes    : List CrnNode
  dirty    : Bool
  topo     : Option Nat
  nbr      : List Nat
  headPrio : Nat
  followed : Nat × Nat
  joins    : Nat
  dupAt    : List Nat
  stuck    : Bool
  acting   : Option Nat
  rankOpen : Bool
  flood    : List (Nat × List Nat)
  inbox    : List CrnMsg
  rx       : List XferRx
  tx       : List XferTx
  doneIds  : List (Nat × Nat)
  nextId   : Nat
  nextSer  : Nat
  asks     : List MemAsk
  helloDue : List Bool
  beatDue  : Bool
deriving DecidableEq, Repr

def CrnState.init : CrnState :=
  { seq := 0, seen := 0, roster := [], ring := 0, rosterMs := 1000, nodes := [], dirty := false, topo := none, nbr := [0, 0], headPrio := 0, followed := (0, 0), joins := 0, dupAt := [], stuck := false, acting := none,
    rankOpen := false, flood := [], inbox := [], rx := [], tx := [], doneIds := [], nextId := 0, nextSer := 0, asks := [],
    helloDue := [false, false], beatDue := false }


/-- The machine: everything the spec gives it, as plain data, and the commands that wait. -/
structure State where
  /-- Time since the start, ns. -/
  now      : Nat
  /-- How many free values have been drawn (the model's own field, log entry 4). -/
  freeCtr  : Nat
  /-- The answer to the last bus access. -/
  resp     : Resp
  /-- The register file: the fields that differ from, or were written since, reset, by `Fld.key`. -/
  regs     : Sparse Nat
  /-- When hardware last set bits of a W1C field, or last changed an RC field, and which bits it set then, or what the RC
  field held before, by `Fld.key` (R7). -/
  flagAt   : Sparse (Nat × Nat)
  timers   : List (Timer × Nat)
  sram     : Sparse Byte
  flash    : Sparse Byte
  otp      : Sparse Byte
  rom      : Sparse Byte
  dram     : Sparse Byte
  shelf    : Sparse Byte
  /-- Outcomes of the flash programs of the command under way, from its operand. -/
  progs    : List Prog
  evl      : EvlState
  cil      : CilState
  lck      : LckState
  ten      : TenState
  asy      : AsyState
  ing      : IngState
  flt      : FltState
  i2c      : List I2cState
  lux      : LuxState
  tlt      : TltState
  sio      : SioState
  tim      : TimState
  sil      : SilState
  ad       : AdState
  pmu      : PmuState
  cpu      : CpuState
  thm      : ThmState
  qspi     : Option QspiCmd
  uart     : List UartState
  spi      : SpiState
  net      : NetState
  crn      : CrnState
  pending  : List Instr
deriving DecidableEq, Repr

/-- The machine held in POR (R530): every register at its reset value, nothing powered but AON, every memory at what
its unlisted addresses read as, no timer running and no command waiting. -/
def State.reset : State :=
  { now := 0, freeCtr := 0, resp := .none, regs := [], flagAt := [], timers := [], sram := [], flash := [], otp := [], rom := [],
    dram := [], shelf := [], progs := [], evl := .init, cil := .init, lck := .init, ten := .init, asy := .init,
    ing := .init, flt := .init, i2c := [.init, .init], lux := .init, tlt := .init, sio := .init, tim := .init, sil := .init, ad := .init, pmu := .init, cpu := .init, thm := .init, qspi := none,
    uart := [⟨[], []⟩, ⟨[], []⟩], spi := .init, net := .init, crn := .init, pending := [] }

end Sys2Proof.Machine
end

