-- ==== Sys2Proof/Machine/Ops.lean ====
section
/-! DEFINITION. The named operations over State: register fields, counters, timers, power domains, time, memories and
the raising of events (R586 to R591, R599). -/

namespace Sys2Proof.Machine

/-! ### Register fields -/

/-- The value of a register field. -/
def State.getF (s : State) (f : Fld) : Nat := (Sparse.find s.regs f.key).getD f.rst

/-- Set a register field; only its width is kept. -/
def State.setF (s : State) (f : Fld) (v : Nat) : State :=
  { s with regs := Sparse.put s.regs f.key (v % 2 ^ f.width) }

/-- Set several fields, in order. -/
def State.setFs (s : State) (l : List (Fld × Nat)) : State := l.foldl (fun s p => s.setF p.1 p.2) s

/-- The bits of a W1C field that hardware has set in the cycle that lasts (R7, R650). -/
def State.setNow (s : State) (f : Fld) : Nat :=
  match Sparse.find s.flagAt f.key with
  | some (t, b) => if t = s.now then b else 0
  | none => 0

/-- Hardware sets bits of a W1C field: a clear of the same cycle leaves them set (R7). -/
def State.flagBits (s : State) (f : Fld) (b : Nat) : State :=
  { s.setF f (s.getF f ||| b) with flagAt := Sparse.put s.flagAt f.key (s.now, s.setNow f ||| b) }

/-- Hardware sets a flag of one bit. -/
def State.flag (s : State) (f : Fld) : State := s.flagBits f 1

/-- Set several fields, in order, and then the flags that tell of it. -/
def State.setFlags (s : State) (flags : List Fld) (l : List (Fld × Nat)) : State := flags.foldl (fun s f => s.flag f) (s.setFs l)

/-- Hardware changes an RC field: a read of the same cycle returns what the field held before that cycle (R7). -/
def State.changeRc (s : State) (f : Fld) (v : Nat) : State :=
  let before := match Sparse.find s.flagAt f.key with
    | some (t, b) => if t = s.now then b else s.getF f
    | none => s.getF f
  { s.setF f v with flagAt := Sparse.put s.flagAt f.key (s.now, before) }

/-- What a read of an RC field returns: what it held before a change of the same cycle (R7). -/
def State.readRc (s : State) (f : Fld) : Nat :=
  match Sparse.find s.flagAt f.key with
  | some (t, b) => if t = s.now then b else s.getF f
  | none => s.getF f

/-- A read clears an RC field, but for a change of the same cycle, which stays (R7). -/
def State.clearRc (s : State) (f : Fld) : State :=
  match Sparse.find s.flagAt f.key with
  | some (t, _) => if t = s.now then s else s.setF f 0
  | none => s.setF f 0

/-- The field is not 0. -/
def State.isSet (s : State) (f : Fld) : Bool := decide (s.getF f ≠ 0)

/-- Add to a counter that saturates at its width (R4's counters marked saturating). -/
def State.satAdd (s : State) (f : Fld) (n : Nat) : State := s.setF f (min (s.getF f + n) (2 ^ f.width - 1))

/-- Count one in a saturating counter. -/
def State.satInc (s : State) (f : Fld) : State := s.satAdd f 1

/-- Count in a counter that wraps. -/
def State.wrapAdd (s : State) (f : Fld) (n : Nat) : State := s.setF f (s.getF f + n)

/-- Count one in a counter that wraps. -/
def State.wrapInc (s : State) (f : Fld) : State := s.wrapAdd f 1

/-- Bit `n` of a field used as a bit map. -/
def State.bitF (s : State) (f : Fld) (n : Nat) : Bool := (s.getF f).testBit n

/-- A number with bit `n` set or cleared. -/
def withBit (v n : Nat) (b : Bool) : Nat :=
  if b then v ||| 2 ^ n else if v.testBit n then v - 2 ^ n else v

/-- Set or clear bit `n` of a field used as a bit map. -/
def State.setBitF (s : State) (f : Fld) (n : Nat) (b : Bool) : State := s.setF f (withBit (s.getF f) n b)

/-- Every field of the addresses `[lo, lo + n)` back to reset. -/
def State.clearRegs (s : State) (lo n : Nat) : State :=
  { s with regs := Sparse.clear s.regs (lo * 32) (n * 32), flagAt := Sparse.clear s.flagAt (lo * 32) (n * 32) }

/-! ### Timers -/

/-- When the timer runs out, if it is armed. -/
def State.deadline (s : State) (t : Timer) : Option Nat := (s.timers.find? fun p => p.1 == t).map (·.2)

def State.disarm (s : State) (t : Timer) : State := { s with timers := s.timers.filter fun p => !(p.1 == t) }

/-- Arm a timer to run out at `d`, ns. -/
def State.armAt (s : State) (t : Timer) (d : Nat) : State :=
  { s with timers := (t, d) :: s.timers.filter fun p => !(p.1 == t) }

/-- Arm a timer to run out `n` ns from now. -/
def State.arm (s : State) (t : Timer) (n : Nat) : State := s.armAt t (s.now + n)

def State.armed (s : State) (t : Timer) : Bool := (s.deadline t).isSome

/-- The timer is armed and its time has come. -/
def State.due (s : State) (t : Timer) : Bool :=
  match s.deadline t with
  | some d => decide (d ≤ s.now)
  | none => false

/-- The moment of a periodic happening has come, or it has not happened yet. -/
def State.dueOrNew (s : State) (t : Timer) : Bool :=
  match s.deadline t with
  | some d => decide (d ≤ s.now)
  | none => true

/-- Arm the next occurrence of a periodic happening `n` ns after the one due now. -/
def State.rearm (s : State) (t : Timer) (n : Nat) : State :=
  match s.deadline t with
  | some d => s.armAt t (d + n)
  | none => s.arm t n

/-- Time left, in units of `u` ns, rounded up; 0 when run out or not timed (R655). -/
def State.remain (s : State) (t : Timer) (u : Nat) : Nat :=
  match s.deadline t with
  | some d => (d - s.now + (u - 1)) / u
  | none => 0

def usNs : Nat := 1000
def msNs : Nat := 1000000
def secNs : Nat := 1000000000

/-- The moments of `l` that lie within the last `w` ns, with the present one added. -/
def State.window (s : State) (w : Nat) (l : List Nat) : List Nat := s.now :: l.filter fun t => decide (s.now < t + w)

/-- The moments of `l` that lie within the last `w` ns. -/
def State.recent (s : State) (w : Nat) (l : List Nat) : List Nat := l.filter fun t => decide (s.now < t + w)

/-! ### Power domains and time -/

namespace Dom
def aon : Nat := 0
def core : Nat := 1
def flint : Nat := 2
def ingress : Nat := 3
def net : Nat := 4
def drive : Nat := 5
def sill : Nat := 6
def adCtl : Nat := 7
def adShelf : Nat := 8
def adMem : Nat := 9
def adUpd : Nat := 10
/-- AD_TILEn. -/
def tile (t : Nat) : Nat := 11 + t
end Dom

/-- The power domain is on (PMU_DOMST). -/
def State.on (s : State) (d : Nat) : Bool := s.bitF R.PMU_DOMST_ON d

/-- Device states of PMU_STATE.STATE. -/
def State.devState (s : State) : Nat := s.getF R.PMU_STATE_STATE
def State.inWork (s : State) : Bool := decide (s.devState = 2)
def State.inWatch (s : State) : Bool := decide (s.devState = 1)

/-- The AON real-time counter, 32.768 kHz ticks since POR (R530). -/
def State.rtc (s : State) : Nat := (s.now - s.pmu.porAt) * 32768 / secNs

/-- Base `n` in whole nanoseconds, 32 bits. -/
def State.base (s : State) (n : Nat) : Nat := s.tim.tb.getD n 0 / 2 ^ 32 % 2 ^ 32

/-- TB2 in nanoseconds; 0 while CD_NET is off (R584). -/
def State.tb2 (s : State) : Nat := if s.on Dom.net then s.base 2 else 0

/-! ### Free values -/

/-- A fresh value of `w` bits that the spec leaves open (log entry 4), and the state with the draw counted. -/
def State.draw (s : State) (w : Nat) : Nat × State :=
  ((Config.freeBits w s.freeCtr).toNat, { s with freeCtr := s.freeCtr + 1 })

/-- A fresh value below `n`. -/
def State.drawBelow (s : State) (n : Nat) : Nat × State :=
  let p := s.draw 64
  (p.1 % n, p.2)

/-! ### Memories -/

/-- An unlisted flash byte reads as erased. -/
def erasedByte : Byte := 0xFF#8

def State.flashBytes (s : State) (a n : Nat) : List Byte := Sparse.getList erasedByte s.flash a n
def State.flashWord (s : State) (a : Nat) : Nat := leNat (s.flashBytes a 4)

/-- Program bytes: a program only clears bits. -/
def flashProgram (m : Sparse Byte) (a : Nat) : List Byte → Sparse Byte
  | [] => m
  | b :: bs => flashProgram (Sparse.set erasedByte m a (Sparse.get erasedByte m a &&& b)) (a + 1) bs

def State.program (s : State) (a : Nat) (l : List Byte) : State := { s with flash := flashProgram s.flash a l }

/-- Erase `n` bytes from `a`. -/
def State.erase (s : State) (a n : Nat) : State := { s with flash := Sparse.clear s.flash a n }

/-- Put `l` into flash whatever stood there (what an operation that failed left behind). -/
def State.flashLeave (s : State) (a : Nat) (l : List Byte) : State := { s with flash := Sparse.setList erasedByte s.flash a l }

def State.sramBytes (s : State) (a n : Nat) : List Byte := Sparse.getList 0 s.sram a n
def State.sramWrite (s : State) (a : Nat) (l : List Byte) : State := { s with sram := Sparse.setList 0 s.sram a l }
def State.dramBytes (s : State) (a n : Nat) : List Byte := Sparse.getList 0 s.dram a n
def State.dramWrite (s : State) (a : Nat) (l : List Byte) : State := { s with dram := Sparse.setList 0 s.dram a l }
def State.otpBytes (s : State) (a n : Nat) : List Byte := Sparse.getList 0 s.otp a n

/-- The value the applied image gives a setting, its default where the image gives none (R37). -/
def State.cfg (s : State) (f : ImgField) (i : Nat) : Nat :=
  (Sparse.find s.cil.settings ((f.sec * 256 + f.id) * 1024 + i)).getD (f.dflt i)

/-- The applied image gives the setting. -/
def State.cfgPresent (s : State) (f : ImgField) (i : Nat) : Bool :=
  (Sparse.find s.cil.settings ((f.sec * 256 + f.id) * 1024 + i)).isSome

/-! ### Sequences of updates -/

/-- Do `f` when `b` holds. -/
def State.doIf (s : State) (b : Bool) (f : State → State) : State := if b then f s else s

/-- Do `f` for every index below `n`, in ascending order. -/
def State.forN (s : State) (n : Nat) (f : Nat → State → State) : State := (List.range n).foldl (fun s i => f i s) s

/-- Do `f` for every entry of a list, in order. -/
def State.forL {α : Type} (s : State) (l : List α) (f : α → State → State) : State := l.foldl (fun s a => f a s) s

/-! ### Events -/

/-- The LOST counter of a class (R589). -/
def lostFld (cls : Nat) : Fld :=
  match cls with
  | 0 => R.EVL_LOST01_SAFETY
  | 1 => R.EVL_LOST01_FAULT
  | 2 => R.EVL_LOST23_WARN
  | _ => R.EVL_LOST23_INFO

/-- The state with a change to EVL's own part. -/
def State.evlSet (s : State) (f : EvlState → EvlState) : State := { s with evl := f s.evl }

/-- An event of class `cls` finds room in the input queue (R589). -/
def State.evRoom (s : State) (cls : Nat) : Bool :=
  if cls = 0 then decide (s.evl.queue.length < 64)
  else decide ((s.evl.queue.filter fun o => !(o.cls == 0)).length < 48) && decide (s.evl.queue.length < 64)

/-- The slot whose record has `uid` (R588). -/
def EvlState.slotOf (e : EvlState) (uid : Nat) : Option (Nat × LogSlot) := e.ring.find? fun p => p.2.occ.uid == uid

/-- Close a coalescing entry: note when it closed with the record that stands in the ring, and list its write-back when more than one
event folded into it (R588). -/
def State.closeCoal (s : State) (uid : Nat) : State :=
  match s.evl.coal.find? fun c => c.uid == uid with
  | none => s
  | some c =>
    let ring := match s.evl.slotOf uid with
      | some (k, sl) => Sparse.put s.evl.ring k { sl with closedAt := some s.now }
      | none => s.evl.ring
    s.evlSet fun e => { e with
      ring := ring
      coal := e.coal.filter fun c => !(c.uid == uid)
      backs := if 1 < c.count then e.backs ++ [c] else e.backs }

/-- Close every entry whose millisecond has ended, in the order they opened (R588). -/
def State.closeDue (s : State) : State :=
  s.forL (s.evl.coal.filter fun c => decide (c.firstAt + msNs ≤ s.now)) fun c s => s.closeCoal c.uid

/-- The queue with an event more: events of one cycle stand in ascending SOURCE (R589). -/
def queueOcc (o : Occ) : List Occ → List Occ
  | [] => [o]
  | p :: q => if p.at_ = o.at_ ∧ o.src < p.src then o :: p :: q else p :: queueOcc o q

/-- Queue an event and open a coalescing entry for it, closing the one opened earliest when all sixteen are open
(R588); note the highest queue level (EVL_Q.MAX). -/
def State.evQueue (s : State) (o : Occ) (coalesce : Bool) : State :=
  let s := if coalesce ∧ 16 ≤ s.evl.coal.length then
      (match s.evl.coal with | c :: _ => s.closeCoal c.uid | [] => s) else s
  let u := s.evl.nextUid
  let o := { o with uid := u }
  let s := s.evlSet fun e => { e with
    queue := queueOcc o e.queue
    nextUid := u + 1
    coal := if coalesce then e.coal ++ [⟨u, o.id, o.src, o.arg0, s.now, 1, 0⟩] else e.coal }
  if s.getF R.EVL_Q_MAX < s.evl.queue.length then s.changeRc R.EVL_Q_MAX s.evl.queue.length else s

/-- EVL's intake of an event: an entry that closes in this cycle closes first; then the event folds into an open entry, or is queued, or
counted lost (R588, R589). -/
def State.evIntake (s : State) (o : Occ) : State :=
  let s := s.closeDue
  match s.evl.coal.find? fun c => c.id == o.id && c.src == o.src && c.arg0 == o.arg0 with
  | some c =>
    s.evlSet fun e => { e with coal := e.coal.map fun d =>
      if d.uid == c.uid then { d with count := min (d.count + 1) 65535, lastDt := min ((s.now - d.firstAt) / usNs) 1000 }
      else d }
  | none =>
    if s.evRoom o.cls then s.evQueue o true
    else (s.satInc (lostFld o.cls)).flag R.EVL_INT_LOST

/-- An event in AON's care while CD_CORE is off: up to eight are held, a further one counts in the AON copy of its
class's LOST counter (R599). -/
def State.evHold (s : State) (o : Occ) : State :=
  if s.evl.aonHeld.length < 8 then s.evlSet fun e => { e with aonHeld := e.aonHeld ++ [{ o with held := true }] }
  else s.evlSet fun e => { e with aonLost := e.aonLost.set o.cls (min (e.aonLost.getD o.cls 0 + 1) 65535) }

/-- The occurrence of an event now. -/
def State.occ (s : State) (id cls src a0 a1 a2 : Nat) : Occ :=
  { uid := 0, id := id, cls := cls, src := src, arg0 := a0 % 2 ^ 32, arg1 := a1 % 2 ^ 32, arg2 := a2 % 2 ^ 16,
    rtc := s.rtc % 2 ^ 48, tb2 := s.tb2, count := 1, lastDt := 0, held := false, untrusted := false,
    at_ := s.now }

/-- Present an occurrence to EVL, or to AON while CD_CORE is off. -/
def State.present (s : State) (o : Occ) : State := if s.on Dom.core then s.evIntake o else s.evHold o

/-- Raise an event (R586): EVL takes the time of the cycle; no block waits for it (R587). -/
def State.raise (s : State) (e : EvId) (a0 : Nat := 0) (a1 : Nat := 0) (a2 : Nat := 0) : State :=
  s.present (s.occ e.id e.cls e.src a0 a1 a2)

/-- Raise an event whose source is given (the two I²C controllers). -/
def State.raiseFrom (s : State) (e : EvId) (src a0 a1 : Nat) : State := s.present (s.occ e.id e.cls src a0 a1 0)

/-- An event with its interrupt flag. -/
def State.raiseInt (s : State) (e : EvId) (i : Fld) (a0 : Nat := 0) (a1 : Nat := 0) : State := (s.flag i).raise e a0 a1

/-- A step test under way fails with a reason (R568). -/
def State.stepFail (s : State) (reason : Nat) : State :=
  if s.getF R.THM_STST_STATE = 1 ∨ s.getF R.THM_STST_STATE = 2 then
    ((s.setFs [(R.THM_STST_STATE, 4), (R.THM_STST_REASON, reason)]).disarm .stepTest).raiseInt Ev.THM_STEP_FAIL R.THM_INT_STEPEND reason
  else s

/-! ### Answers and messages -/

def State.answer (s : State) (r : Resp) : State := { s with resp := r }

/-- A firmware access to a block in domain `d`: its effect, answered ok; or a bus error while the domain is off
(R651). -/
def State.access (s : State) (d : Nat) (f : State → State) : State :=
  if s.on d then f (s.answer .ok) else s.answer .busError

/-- The outcome of a meaning that goes on. -/
abbrev Out := Host.Outcome State Fault Refusal

end Sys2Proof.Machine
end

