-- ==== Sys2Proof/Machine/ImageCheck.lean ====
section
/-! DEFINITION. The Configuration Image and the ordered check of it (spec/02_configuration_image.md, R32 to R51). -/

namespace Sys2Proof.Machine

/-- A report entry (R49). -/
structure RepEntry where
  sec     : Nat
  fld     : Nat
  idx     : Nat
  outcome : Nat
  reason  : Nat
  written : Nat
  stored  : Nat
deriving DecidableEq, Repr

/-- Outcome codes of R49. -/
def RepEntry.rejected (sec fld idx reason written : Nat) : RepEntry := ⟨sec, fld, idx, 0x80, reason, written, 0⟩

/-- The 16 bytes of a report entry. -/
def RepEntry.bytes (e : RepEntry) : List Byte :=
  leBytes 1 e.sec ++ leBytes 1 e.fld ++ leBytes 2 e.idx ++ leBytes 1 e.outcome ++ leBytes 1 e.reason ++ leBytes 2 0
    ++ leBytes 4 e.written ++ leBytes 4 e.stored

/-- The low 32 bits of a value's bytes (R49). -/
def low32 (l : List Byte) : Nat := leNat (l.take 4)

/-- A section as it stands in an image: ID, version, flags, length and where its fields begin. -/
structure SecHdr where
  id    : Nat
  ver   : Nat
  flags : Nat
  len   : Nat
  off   : Nat
deriving DecidableEq, Repr

/-- The section header at offset `o`. -/
def secHdrAt (l : List Byte) (o : Nat) : SecHdr :=
  ⟨byteAt l o, byteAt l (o + 1), fieldAt l (o + 2) 2, fieldAt l (o + 4) 4, o + 8⟩

/-- A field entry: its header, its value bytes, and what is wrong with its structure. -/
structure FieldEnt where
  id   : Nat
  typ  : Nat
  idx  : Nat
  val  : List Byte
  bad  : Bool
  past : Bool
deriving DecidableEq, Repr

/-- The field entries of a section's bytes, up to the first that runs past the end (R35). -/
def fieldEnts : Nat → List Byte → List FieldEnt
  | 0, _ => []
  | n + 1, l =>
    if l = [] then []
    else
      let len := fieldAt l 4 2
      let pad := (len + 3) / 4 * 4
      if l.length < 8 + pad then [⟨byteAt l 0, byteAt l 1, fieldAt l 2 2, [], true, true⟩]
      else
        let v := (l.drop 8).take len
        let z := (l.drop (8 + len)).take (pad - len)
        let bad := decide (fieldAt l 6 2 ≠ 0) || z.any fun b => decide (b ≠ 0)
        ⟨byteAt l 0, byteAt l 1, fieldAt l 2 2, v, bad, false⟩ :: fieldEnts n (l.drop (8 + pad))

/-- The field table's row for a field ID in a section. -/
def imgField (sec id : Nat) : Option ImgField := Img.fields.find? fun f => f.sec == sec && f.id == id

/-- The section is of the safety class. -/
def secSafety (id : Nat) : Bool := Img.sections.any fun p => p.1 == id && p.2

def secKnown (id : Nat) : Bool := Img.sections.any fun p => p.1 == id

/-- The settings key of (section, field, index). -/
def setKey (sec id idx : Nat) : Nat := (sec * 256 + id) * 1024 + idx

/-- A signed reading of `n` bits. -/
def signedOf (n v : Nat) : Int := if v < 2 ^ (n - 1) then v else (v : Int) - 2 ^ n

/-- A value read as its field's type is compared: I32 signed, the rest unsigned. -/
def ImgField.value (f : ImgField) (v : List Byte) : Int := if f.typ = 5 then signedOf 32 (leNat v) else leNat v

/-- What a field's value stores as: variable-length octet strings keep their length by a closing 1 byte. -/
def ImgField.store (f : ImgField) (v : List Byte) : Nat :=
  if f.lenMin ≠ f.lenMax then leNat (v ++ [1]) else leNat v

/-- The octets of a stored variable-length value. -/
def octets : Nat → Nat → List Byte
  | 0, _ => []
  | n + 1, v => if v ≤ 1 then [] else BitVec.ofNat 8 v :: octets n (v / 256)

/-- Strictly rising. -/
def rising : List Nat → Bool
  | a :: b :: l => decide (a < b) && rising (b :: l)
  | _ => true

/-- Little-endian u16 values of an octet string. -/
def u16s : List Byte → List Nat
  | a :: b :: l => (a.toNat + 256 * b.toNat) :: u16s l
  | _ => []

/-- THERMAL.MODEL meets R566. -/
def thermalOk (v : List Byte) : Bool :=
  let u := fun o n => fieldAt v o n
  let within := fun x lo hi => decide (lo ≤ x) && decide (x ≤ hi)
  decide (v.length = 32) && decide (u 0 1 = 1) && decide (u 1 1 ≤ 1)
    && decide (-400 ≤ signedOf 16 (u 2 2)) && decide (signedOf 16 (u 2 2) ≤ 600)
    && within (u 4 4) 50 20000 && within (u 8 4) 500 200000 && within (u 0xC 2) 100 5000 && within (u 0xE 2) 100 10000
    && within (u 0x10 2) 10 3000 && within (u 0x12 2) 300 950 && within (u 0x14 2) 0 200 && within (u 0x16 2) 5 100
    && within (u 0x18 4) 1000 1000000 && within (u 0x1C 2) 2000 6000 && decide (u 0x1E 2 = 0)
    && decide (60 ≤ u 4 4 * u 8 4 / 1000)

/-- A value's judgement: good, clamped to a limit, or not allowed. -/
inductive Judged where
  | good
  | clampLow (v : Int)
  | clampHigh (v : Int)
  | bad
deriving DecidableEq, Repr

/-- Judge a value of the right type and length (R37, R45, R441, R566). `flint` is the FL-P2 hash of the boot ROM. -/
def ImgField.judge (f : ImgField) (flint : List Byte) (v : List Byte) : Judged :=
  let n := f.value v
  let test := fun b => if b then Judged.good else Judged.bad
  match f.rule with
  | .any => .good
  | .range lo hi =>
    if n < lo then (if f.cls = .clamp then .clampLow lo else .bad)
    else if hi < n then (if f.cls = .clamp then .clampHigh hi else .bad)
    else .good
  | .etype => test (decide (n = 0 ∨ 0x600 ≤ n))
  | .rank => test (decide (n ≤ 31 ∨ n = 0xFF))
  | .entry => test (decide (0x10000000 ≤ n ∧ n ≤ 0x1007FFFC ∧ n % 4 = 0))
  | .ascii => test (decide (1 ≤ v.length ∧ v.length ≤ 32) && v.all fun b => decide (0x20 ≤ b.toNat ∧ b.toNat ≤ 0x7E))
  | .keyProg => test (decide (byteAt v 0 = 1 ∨ byteAt v 0 = 2))
  | .plan => test (v.all fun b => decide (b.toNat ≤ 15 ∨ b.toNat = 0xFF))
  | .chunks => test (rising (u16s v))
  | .ttrg => test (decide (byteAt v 0 ≤ 9 ∧ byteAt v 1 ≤ 3 ∧ fieldAt v 2 2 = 0 ∧ 1000 ≤ fieldAt v 4 4
      ∧ fieldAt v 4 4 ≤ 4000000000 ∧ fieldAt v 8 4 < fieldAt v 4 4))
  | .thermal => test (thermalOk v)
  | .flint => test (decide (v = flint))

/-- The value length fits the field (a STR's length is judged as a value, R45; an odd CHUNKS length is a format
failure, R37). -/
def ImgField.lenOk (f : ImgField) (n : Nat) : Bool :=
  if f.typ = 11 then true
  else decide (f.lenMin ≤ n ∧ n ≤ f.lenMax) && (if f.rule = .chunks then decide (n % 2 = 0) else true)

/-- What the check of an image gives. -/
structure Checked where
  report   : List RepEntry
  settings : Sparse Nat
  sections : List (Nat × List Byte)
  seq      : Nat
  id16     : List Byte
deriving DecidableEq, Repr

/-- The report holds a rejection. -/
def Checked.rejected (c : Checked) : Bool := c.report.any fun e => e.outcome == 0x80

/-- The report holds a clamp. -/
def Checked.clamped (c : Checked) : Bool := c.report.any fun e => e.outcome == 1 || e.outcome == 2

/-- The first reject reason, 0 if none. -/
def Checked.reason (c : Checked) : Nat := ((c.report.find? fun e => e.outcome == 0x80).map (·.reason)).getD 0

/-! ### Steps 1 to 7 -/

/-- The first header field of step 1 that fails: its offset and its size. -/
def headerFault (l : List Byte) (staged : Option Nat) : Option (Nat × Nat) :=
  let total := fieldAt l 8 4
  if l.take 4 ≠ [0x53#8, 0x4B#8, 0x43#8, 0x49#8] then some (0, 4)
  else if fieldAt l 4 2 ≠ 1 then some (4, 2)
  else if fieldAt l 6 2 ≠ 64 then some (6, 2)
  else if total % 4 ≠ 0 ∨ total < 128 ∨ 262144 < total ∨ (staged.any fun n => decide (n ≠ total)) = true then some (8, 4)
  else if byteAt l 0xF ≠ 0 then some (0xF, 1)
  else if fieldAt l 0x10 4 = 0 then some (0x10, 4)
  else if fieldAt l 0x1A 2 ≠ 0 then some (0x1A, 2)
  else none

/-- A header-level finding on the field of `n` bytes at `o`. -/
def headerEntry (l : List Byte) (o n reason : Nat) : RepEntry := .rejected 0 0 o reason (low32 ((l.drop o).take n))

/-- Step 3: the SIGNATURE section stands at SIG_OFFSET and ends at TOTAL_LEN. -/
def sigPlaced (l : List Byte) : Bool :=
  let o := fieldAt l 0x1C 4
  let total := fieldAt l 8 4
  let h := secHdrAt l o
  decide (o % 4 = 0 ∧ 64 ≤ o ∧ o < total ∧ h.id = 0xFF ∧ o + 8 + h.len = total)

/-- A field value of the SIGNATURE section. -/
def sigField (l : List Byte) (id : Nat) : Option (List Byte) :=
  let h := secHdrAt l (fieldAt l 0x1C 4)
  let ents := fieldEnts 64 ((l.drop h.off).take h.len)
  (ents.find? fun e => e.id == id && e.idx == 0 && !e.past).map (·.val)

/-- What the check needs to know of a key slot: its hash, where it is usable. -/
structure Keys where
  root : Option (List Byte)
  int1 : Option (List Byte)
  int2 : Option (List Byte)
deriving DecidableEq, Repr

/-- The hash of the key that KEY_SLOT names, where that key may sign. -/
def Keys.hash (k : Keys) (slot : Nat) : Option (List Byte) :=
  match slot with
  | 0 => k.root
  | 1 => k.int1
  | 2 => k.int2
  | _ => none

/-- The verification of steps 5 and 6 on KEY_SLOT, PUBKEY, SIG and the signed bytes: the failing SIGNATURE field and
the reason. An unreadable root hash fails every image (reason 0x07). -/
def signatureFault (k : Keys) (slot : Option (List Byte)) (pub sig : Option (List Byte)) (signed : List Byte) :
    Option (Nat × Nat) :=
  match slot, pub with
  | some sl, some pk =>
    if k.root.isNone then some (1, 0x07)
    else match k.hash (leNat sl) with
      | none => some (1, 0x07)
      | some h =>
        let x := leNat (pk.take 32)
        let y := leNat (pk.drop 32)
        if pk.length ≠ 64 ∨ sha256 pk ≠ h ∨ P256.onCurve x y = false then some (2, 0x07)
        else match sig with
          | none => some (3, 0x08)
          | some sg =>
            if sg.length = 64 ∧ P256.verify (beNat (sha256 signed)) (leNat (sg.take 32)) (leNat (sg.drop 32)) x y then none
            else some (3, 0x08)
  | none, _ => some (1, 0x07)
  | _, none => some (2, 0x07)

/-- The rejection of steps 1 to 7, if one fails (R44, R46): `staged` is the staged length where one is known, `active`
the SEQ to exceed where step 7 runs. -/
def earlyFault (l : List Byte) (staged : Option Nat) (k : Keys) (active : Option Nat) : Option RepEntry :=
  match headerFault l staged with
  | some (o, n) => some (headerEntry l o n 0x01)
  | none =>
    if fieldAt l 0xC 2 ≠ 0x1640 then some (headerEntry l 0xC 2 0x02)
    else if byteAt l 0xE ≠ 0 then some (headerEntry l 0xE 1 0x02)
    else if sigPlaced l = false then some (headerEntry l 0x1C 4 0x03)
    else
      let so := fieldAt l 0x1C 4
      if sha256 ((l.drop 64).take (so - 64)) ≠ (l.drop 0x20).take 32 then some (headerEntry l 0x20 32 0x06)
      else match signatureFault k (sigField l 1) (sigField l 2) (sigField l 3) (l.take so) with
        | some (f, r) => some (.rejected 0xFF f 0 r (low32 ((sigField l f).getD [])))
        | none =>
          match active with
          | some a => if fieldAt l 0x10 4 ≤ a then some (headerEntry l 0x10 4 0x09) else none
          | none => none

/-! ### Steps 8 and 9 -/

/-- The sections from offset `o` up to SIG_OFFSET: those whose fields are read, and the findings of step 8. `seen`
lists the IDs so far. A section that runs past SIG_OFFSET, or whose length is not a multiple of 4, ends the walk with 0x0A: where a
next section would begin is then not defined (log entry 96, DESIGN CHOICE for the latter). -/
def secWalk : Nat → List Byte → Nat → Nat → List Nat → List (SecHdr × List Byte) × List RepEntry
  | 0, _, _, _, _ => ([], [])
  | n + 1, l, o, so, seen =>
    if o = so then ([], [])
    else if so < o + 8 then ([], [.rejected (byteAt l o) 0 0 0x0A 0])
    else
      let h := secHdrAt l o
      if so < o + 8 + h.len ∨ h.len % 4 ≠ 0 then ([], [.rejected h.id 0 0 0x0A h.len])
      else
        let dup := seen.contains h.id
        let known := secKnown h.id && h.id != 0xFF
        let asc := seen.all fun i => decide (i < h.id)
        let flagsOk := decide (h.flags = if secSafety h.id then 1 else 0)
        let bad := dup || !known || !asc || decide (h.ver ≠ 1) || !flagsOk
        let r := secWalk n l (o + 8 + h.len) so (h.id :: seen)
        (if known && !dup then (h, (l.drop h.off).take h.len) :: r.1 else r.1,
          if bad then .rejected h.id 0 0 0x0A h.len :: r.2 else r.2)

/-- How many whole sections stand from offset `o` up to SIG_OFFSET. -/
def secCount : Nat → List Byte → Nat → Nat → Nat
  | 0, _, _, _ => 0
  | n + 1, l, o, so =>
    let e := o + 8 + fieldAt l (o + 4) 4
    if so < o + 8 ∨ so < e ∨ e % 4 ≠ 0 then 0 else secCount n l e so + 1

/-- The findings and values of one field entry (R45, R47, R48), given the (field, index) pairs before it. Of an entry that runs past
its section no value is read; a pair's later occurrence gets 0x0D and the check of its structure alone (R35). -/
def fieldCheck (flint : List Byte) (sec : Nat) (seen : List (Nat × Nat)) (e : FieldEnt) :
    List RepEntry × Option (Nat × Nat) :=
    let w := low32 e.val
    let fmtE := if e.bad then [RepEntry.rejected sec e.id e.idx 0x0B w] else []
    let dup := seen.contains (e.id, e.idx)
    let asc := seen.all fun p => decide (p.1 < e.id ∨ (p.1 = e.id ∧ p.2 < e.idx))
    match imgField sec e.id with
    | none =>
      let ord := if dup ∨ !asc then [RepEntry.rejected sec e.id e.idx 0x0D w] else []
      let unk := if dup then [] else
        if secSafety sec then [RepEntry.rejected sec e.id e.idx 0x0C w] else [⟨sec, e.id, e.idx, 3, 0, w, 0⟩]
      (fmtE ++ unk ++ ord, none)
    | some f =>
      let ord := if dup ∨ !asc ∨ f.count ≤ e.idx then [RepEntry.rejected sec e.id e.idx 0x0D w] else []
      if dup ∨ e.past then (fmtE ++ ord, none)
      else if e.typ ≠ f.typ ∨ f.lenOk e.val.length = false then
        ((if e.bad then fmtE else [.rejected sec e.id e.idx 0x0B w]) ++ ord, none)
      else
        let k := setKey sec e.id e.idx
        let within := decide (e.idx < f.count)
        let clamp := fun code (v : Int) => (fmtE ++ ord ++ (if within then [⟨sec, e.id, e.idx, code, 0, w, v.toNat⟩] else []),
          if within then some (k, v.toNat) else none)
        match f.judge flint e.val with
        | .good => (fmtE ++ ord, if within then some (k, f.store e.val) else none)
        | .clampLow v => clamp 1 v
        | .clampHigh v => clamp 2 v
        | .bad => (fmtE ++ ord ++ [.rejected sec e.id e.idx 0x0E w], none)

/-- Step 9 over a section's entries. -/
def secFields (flint : List Byte) (sec : Nat) :
    List FieldEnt → List (Nat × Nat) → List RepEntry → Sparse Nat → List RepEntry × Sparse Nat
  | [], _, r, m => (r, m)
  | e :: es, seen, r, m =>
    let c := fieldCheck flint sec seen e
    secFields flint sec es ((e.id, e.idx) :: seen) (r ++ c.1)
      (match c.2 with | some kv => Sparse.put m kv.1 kv.2 | none => m)

/-! ### Steps 10 and 11 -/

/-- The value of a setting in a checked image; of a field that is absent, or whose entry is rejected, its default (log entry 97, DESIGN
CHOICE: the spec does not say what step 11 takes for a rejected entry). -/
def cval (m : Sparse Nat) (f : ImgField) (i : Nat) : Nat := (Sparse.find m (setKey f.sec f.id i)).getD (f.dflt i)

/-- The checked image gives the setting. -/
def chas (m : Sparse Nat) (f : ImgField) (i : Nat) : Bool := (Sparse.find m (setKey f.sec f.id i)).isSome

/-- Tenants, regions and models the image uses. -/
def tenantsIn (m : Sparse Nat) : List Nat := (List.range 16).filter fun n => chas m Img.TENANTS_CLASS n
def regionsIn (m : Sparse Nat) : List Nat := (List.range 64).filter fun n => chas m Img.MEMORY_OWNER n
def modelsIn (m : Sparse Nat) : List Nat := (List.range 32).filter fun n => chas m Img.MODELS_BLOB n

/-- Step 10: what is mandatory and absent (R37). `given` lists the (section, field, index) entries present, well formed or
not. -/
def missingEntries (m : Sparse Nat) (secs : List Nat) (given : List (Nat × Nat × Nat)) : List RepEntry :=
  let has := fun (f : ImgField) i => given.contains (f.sec, f.id, i)
  let need := fun (f : ImgField) i => if has f i then [] else [RepEntry.rejected f.sec f.id i 0x0F 0]
  let anyS := (tenantsIn m).any fun n => cval m Img.TENANTS_CLASS n == 0
  let anyPort := (List.range 2).any fun p => cval m Img.NET_PORT_MODE p != 0
  (Img.sections.map (·.1)).flatMap fun sec =>
    (if Img.mandatorySections.contains sec && !secs.contains sec then [RepEntry.rejected sec 0 0 0x0F 0] else [])
    ++ ((Img.fields.filter fun f => f.sec == sec && f.mand).flatMap fun f => need f 0)
    ++ (if sec = 9 then [Img.MODELS_SIZE, Img.MODELS_FORMAT].flatMap fun f =>
          ((List.range 32).filter fun i => has Img.MODELS_BLOB i).flatMap fun i => need f i
        else if sec = 0x0C ∧ anyS then need Img.ASSAY_KAT_BLOB 0
        else if sec = 0x12 ∧ anyPort then need Img.CAIRN_NODE_KEY 0
        else if sec = 0x14 ∧ cval m Img.THERMAL_FORECAST 0 = 1 then need Img.THERMAL_MODEL 0
        else [])

/-- The index at which the running sum of `g` over `l` first exceeds `lim`. -/
def firstOver (g : Nat → Nat) (lim : Nat) : List Nat → Nat → Option Nat
  | [], _ => none
  | i :: l, acc => if lim < acc + g i then some i else firstOver g lim l (acc + g i)

/-- Step 11: the consistency rules of R38, in the order of their codes. -/
def consistency (m : Sparse Nat) : List RepEntry :=
  let v := cval m
  let e := fun code (f : ImgField) i => RepEntry.rejected f.sec f.id i 0x10 code
  let ts := tenantsIn m
  let rs := regionsIn m
  let planIdx := (List.range 400).filter fun n => chas m Img.SLOTS_PLAN n
  let ends := fun r => v Img.MEMORY_BASE_MIB r + v Img.MEMORY_SIZE_MIB r
  let roles := fun c => ((List.range 4).filter fun p => v Img.SAFEIO_SIN_USE p == c).length
  let planByte := fun n t => v Img.SLOTS_PLAN n / 256 ^ t % 256
  (ts.flatMap fun n => if chas m Img.MODELS_BLOB (v Img.TENANTS_MODEL n) then [] else [e 1 Img.TENANTS_MODEL n])
  ++ (ts.flatMap fun n =>
      if v Img.TENANTS_CLASS n = 0 ∧ (v Img.TENANTS_BORROWER n ≠ 0 ∨ chas m Img.STREAK_CHUNKS n = false
        ∨ (rs.any fun r => v Img.MEMORY_OWNER r == n && v Img.MEMORY_ECC r != 1)) then [e 2 Img.TENANTS_CLASS n] else [])
  ++ (rs.flatMap fun r =>
      (rs.flatMap fun q => if q < r ∧ v Img.MEMORY_BASE_MIB q < ends r ∧ v Img.MEMORY_BASE_MIB r < ends q
        then [e 3 Img.MEMORY_BASE_MIB r] else [])
      ++ (if 16384 < ends r then [e 3 Img.MEMORY_BASE_MIB r] else []))
  ++ (planIdx.flatMap fun n =>
      if v Img.SLOTS_MAJOR_MS 0 * 4 ≤ n ∨ ((List.range 16).any fun t =>
          let b := planByte n t
          b != 0xFF && !(ts.contains b && (v Img.TENANTS_TILES b).testBit t)) then [e 4 Img.SLOTS_PLAN n] else [])
  ++ (match firstOver (v Img.BANDWIDTH_RATE) 1706 (ts.filter fun n => v Img.TENANTS_CLASS n != 2) 0 with
      | some n => [e 5 Img.BANDWIDTH_RATE n] | none => [])
  ++ (if v Img.LIGHT_FLOOR_OCC 0 < v Img.LIGHT_FLOOR_DARK 0 then [e 6 Img.LIGHT_FLOOR_DARK 0] else [])
  ++ ((List.range 2).flatMap fun c => if (v Img.LIGHT_CH_EN 0).testBit c ∧ v Img.LIGHT_OC_MA c * 10 < v Img.LIGHT_I_MAX_MA c * 11
      then [e 6 Img.LIGHT_OC_MA c] else [])
  ++ ((List.range 32).flatMap fun z => if chas m Img.ASSAY_ZONEMAP z ∧ v Img.LIGHT_ZONES 0 ≤ z / 4 then [e 6 Img.ASSAY_ZONEMAP z] else [])
  ++ (if v Img.TILT_ENABLE 0 = 1 then
        (if signedOf 32 (v Img.TILT_SLP_LO 0) < signedOf 32 (v Img.TILT_SLP_HI 0) then [] else [e 7 Img.TILT_SLP_HI 0])
        ++ [1, 2, 3].flatMap fun c => if roles c = 1 then [] else [e 7 Img.SAFEIO_SIN_USE c]
      else if roles 1 = 1 then [] else [e 7 Img.SAFEIO_SIN_USE 1])
  ++ (if v Img.LEARN_ENABLE 0 = 1 then
        (if ts.contains (v Img.LEARN_TENANT 0) ∧ v Img.TENANTS_CLASS (v Img.LEARN_TENANT 0) = 2 then [] else [e 8 Img.LEARN_TENANT 0])
        ++ (if v Img.LEARN_START_MIN 0 = v Img.LEARN_END_MIN 0 then [e 8 Img.LEARN_END_MIN 0] else [])
        ++ (if chas m Img.CAIRN_NODE_KEY 0 then [] else [e 8 Img.CAIRN_NODE_KEY 0])
      else [])
  ++ (if (v Img.CAIRN_RANK 0 = 0xFF) = (v Img.CAIRN_ROLE 0 = 1) then [] else [e 9 Img.CAIRN_RANK 0])
  ++ (if (v Img.LOG_PERSIST 0).testBit 0 then [] else [e 0x0A Img.LOG_PERSIST 0])
  ++ (if v Img.CORE_HANDOVER 0 = 1 ∧ v Img.CORE_MODE 0 ≠ 0 then [e 0x0B Img.CORE_HANDOVER 0] else [])
  ++ (match firstOver (v Img.MODELS_SIZE) 125829120 (modelsIn m) 0 with
      | some n => [e 0x0C Img.MODELS_SIZE n] | none => [])
  ++ (if 2 * v Img.SAFEIO_TP_WIDTH_US 0 + 500 ≤ 1000 * v Img.SAFEIO_TP_PERIOD_MS 0 then [] else [e 0x0D Img.SAFEIO_TP_WIDTH_US 0])

/-! ### Step 12: the blob store -/

/-- A blob of the store: the flash offset of its payload, its length and its hash. -/
structure Blob where
  at_  : Nat
  len  : Nat
  hash : Nat
deriving DecidableEq, Repr

/-- The blobs from flash offset `o` on, up to the first header that ends the store (R39); `flashEnd` is the end of the
flash fitted. -/
def State.blobsFrom (s : State) : Nat → Nat → Nat → List Blob
  | 0, _, _ => []
  | n + 1, o, flashEnd =>
    let h := s.flashBytes o 64
    let len := fieldAt h 4 4
    if flashEnd < o + 64 ∨ h.take 4 ≠ [0x53#8, 0x4B#8, 0x42#8, 0x4C#8] ∨ fieldAt h 8 4 ≠ 0 ∨ fieldAt h 0xC 4 ≠ 0
      ∨ fieldAt h 0x30 16 ≠ 0 ∨ flashEnd < o + 64 + len then []
    else ⟨o + 64, len, fieldAt h 0x10 32⟩ :: s.blobsFrom n (0x710000 + (o - 0x710000 + 64 + len + 4095) / 4096 * 4096) flashEnd

/-- The bytes of flash fitted (QSPI_CFG.DENSITY_KIB). -/
def State.flashSize (s : State) : Nat := s.getF R.QSPI_CFG_DENSITY_KIB * 1024

/-- The blobs of the store. -/
def State.blobs (s : State) : List Blob := s.blobsFrom (s.flashSize / 4096) 0x710000 s.flashSize

/-- Step 12: blobs the store does not hold (R44). -/
def State.blobEntries (s : State) (m : Sparse Nat) : List RepEntry :=
  let bs := s.blobs
  ((modelsIn m).flatMap fun i =>
    if bs.any fun b => b.hash == cval m Img.MODELS_BLOB i && b.len == cval m Img.MODELS_SIZE i then []
    else [RepEntry.rejected 9 1 i 0x11 (cval m Img.MODELS_BLOB i % 2 ^ 32)])
  ++ (if chas m Img.ASSAY_KAT_BLOB 0 ∧ (bs.any fun b => b.hash == cval m Img.ASSAY_KAT_BLOB 0) = false then
      [RepEntry.rejected 0x0C 8 0 0x11 (cval m Img.ASSAY_KAT_BLOB 0 % 2 ^ 32)] else [])

/-! ### Keys in OTP (R50, R51, R374) -/

/-- A flag is set when at least two of its three bits are burnt (R374). -/
def State.otpFlag (s : State) (o : Nat) : Bool :=
  let v := (Sparse.get 0 s.otp o).toNat
  decide (2 ≤ v % 2 + v / 2 % 2 + v / 4 % 2)

/-- The key hash of slot 0 (root), 1 or 2 in OTP (R374). -/
def State.keyHash (s : State) (slot : Nat) : List Byte := s.otpBytes ([0x20, 0x60, 0xC0].getD slot 0) 32

/-- The keys that may sign, from LCK_OTP and OTP. -/
def State.keys (s : State) : Keys :=
  { root := if s.isSet R.LCK_OTP_ROOT_OK then some (s.keyHash 0) else none
    int1 := if s.isSet R.LCK_OTP_INT1_PROG ∧ ¬ s.isSet R.LCK_OTP_INT1_REV then some (s.keyHash 1) else none
    int2 := if s.isSet R.LCK_OTP_INT2_PROG ∧ ¬ s.isSet R.LCK_OTP_INT2_REV then some (s.keyHash 2) else none }

/-- The copy of that hash. -/
def State.keyCopy (s : State) (slot : Nat) : List Byte := s.otpBytes ([0x40, 0x80, 0xE0].getD slot 0) 32

/-- The PROG flag of slot `k` (1 or 2); its REVOKE flag as burnt, whatever the hash copies (R51). -/
def State.keyProg (s : State) (k : Nat) : Bool := s.otpFlag (if k = 1 then 0xA0 else 0x100)
def State.keyRev (s : State) (k : Nat) : Bool := s.otpFlag (if k = 1 then 0xA1 else 0x101)

/-- The slot an image asks to program, with its hash. -/
def progRequest (m : Sparse Nat) : Option (Nat × List Byte) :=
  if chas m Img.IDENT_INTKEY_PROG 0 then
    let v := cval m Img.IDENT_INTKEY_PROG 0
    some (v % 256, leBytes 32 (v / 256))
  else none

/-- The slots an image asks to revoke. -/
def revokeRequests (m : Sparse Nat) : List Nat :=
  [1, 2].filter fun k => (cval m Img.IDENT_INTKEY_REVOKE 0).testBit (k - 1)

/-- Slot `k` is programmed with exactly this hash: both copies hold it. -/
def State.keyIs (s : State) (k : Nat) (h : List Byte) : Bool :=
  s.keyProg k && decide (s.keyHash k = h ∧ s.keyCopy k = h)

/-- Bits are burnt in the hash of slot `k`, or in its copy, that `h` does not hold. -/
def State.keyClash (s : State) (k : Nat) (h : List Byte) : Bool :=
  ((s.keyHash k).zip h).any (fun p => decide (p.1 &&& ~~~p.2 ≠ 0)) || ((s.keyCopy k).zip h).any fun p => decide (p.1 &&& ~~~p.2 ≠ 0)

/-- The image's key requests conflict with OTP or with its signer (reason 0x13; R50, R51, R73). -/
def State.keyConflict (s : State) (m : Sparse Nat) : Bool :=
  let signer := cval m Img.SIGNATURE_KEY_SLOT 0
  let revs := revokeRequests m
  revs.contains signer ||
  (match progRequest m with
    | none => false
    | some (k, h) =>
      decide (signer = k) || revs.contains k || (!s.keyIs k h && (s.keyRev k || s.keyProg k || s.keyClash k h)))

/-- The key burns an apply of the image makes: programming and revocations not already in force (R50, R51). What conflicts with OTP is
never burnt. -/
def State.keyBurns (s : State) (m : Sparse Nat) : Option (Nat × List Byte) × List Nat :=
  if s.keyConflict m then (none, [])
  else
    (match progRequest m with
      | some (k, h) => if s.keyIs k h then none else some (k, h)
      | none => none,
     (revokeRequests m).filter fun k => !s.keyRev k)

/-! ### The whole check -/

/-- The ordered check of the image bytes `l` (R44 to R49). -/
def State.checkImage (s : State) (l : List Byte) (staged active : Option Nat) : Checked :=
  let seq := fieldAt l 0x10 4
  let id16 := (l.drop 0x20).take 16
  match earlyFault l staged s.keys active with
  | some e => ⟨[e], [], [], seq, id16⟩
  | none =>
    let so := fieldAt l 0x1C 4
    let flint := (List.range 32).map fun i => Sparse.get 0 s.rom i
    let w := secWalk 4096 l 64 so []
    let sig := secHdrAt l so
    let secs := w.1 ++ [(sig, (l.drop sig.off).take sig.len)]
    let sigE := if sig.ver = 1 ∧ sig.flags = 0 ∧ sig.len % 4 = 0 then [] else [RepEntry.rejected 0xFF 0 0 0x0A sig.len]
    -- SECTION_COUNT counts the sections that stand in the image, SIGNATURE included
    let cntE := if fieldAt l 0x18 2 = secCount 4096 l 64 so + 1 then [] else [headerEntry l 0x18 2 0x0A]
    let r9 := secs.foldl (fun (a : List RepEntry × Sparse Nat) p =>
      secFields flint p.1.id (fieldEnts 65536 p.2) [] a.1 a.2) (w.2 ++ sigE ++ cntE, [])
    let given := secs.flatMap fun p => (fieldEnts 65536 p.2).map fun e => (p.1.id, e.id, e.idx)
    let m := r9.2
    ⟨r9.1 ++ missingEntries m (secs.map (·.1.id)) given ++ consistency m ++ s.blobEntries m, m,
      secs.map fun p => (p.1.id, (l.drop (p.1.off - 8)).take (8 + p.1.len)), seq, id16⟩

end Sys2Proof.Machine
end

