-- ==== Sys2Proof/Machine/ChangeLog.lean ====
section
/-! DEFINITION. The slot state words and the hash-chained change log (R31, R42, R43, R64 to R67), and the OTP fields of
R374 and R375. -/

namespace Sys2Proof.Machine

/-! ### Slots -/

/-- Flash offset of a slot, and of its state sector (R31); slot 0 is A, 1 is B. -/
def slotAt (k : Nat) : Nat := if k = 0 then 0x80000 else 0xC0000
def stateSectorAt (k : Nat) : Nat := if k = 0 then 0x108000 else 0x109000

/-- The word of a slot state, EMPTY 0 to RETIRED 5 (R42). -/
def stateWord (n : Nat) : Nat := [0xFFFFFFFF, 0xFFFFFFC0, 0xFFFFF000, 0xFFFC0000, 0xFF000000, 0xC0000000].getD n 0xC0000000

/-- How many groups from group 1 upwards are cleared (R42). -/
def clearedGroups (w : Nat) : Nat → Nat
  | 0 => 0
  | n + 1 => if w % 64 = 0 then 1 + clearedGroups (w / 64) n else 0

/-- The state one copy shows. -/
def copyState (w : Nat) : Nat := clearedGroups (w % 2 ^ 30) 5

/-- The state of three copies: what at least two show, else the earliest (R43). -/
def vote (a b c : Nat) : Nat := if a = b ∨ a = c then a else if b = c then b else min a (min b c)

/-- The three copies of a slot's state. -/
def State.slotCopies (s : State) (k : Nat) : List Nat :=
  (List.range 3).map fun i => copyState (s.flashWord (stateSectorAt k + 4 * i))

/-- A slot's state as it stands in flash. -/
def State.slotState (s : State) (k : Nat) : Nat :=
  match s.slotCopies k with
  | [a, b, c] => vote a b c
  | _ => 0

/-- The slot that is ACTIVE: of two, the one with the higher SEQ. -/
def State.activeSlot (s : State) : Option Nat :=
  let a := s.slotState 0
  let b := s.slotState 1
  if a = 4 ∧ b = 4 then (if s.flashWord (slotAt 1 + 0x10) ≤ s.flashWord (slotAt 0 + 0x10) then some 0 else some 1)
  else if a = 4 then some 0
  else if b = 4 then some 1
  else none

/-- The slot that staging uses: the one that is not ACTIVE, A when neither is (log entry 9). -/
def State.stageSlot (s : State) : Nat := if s.activeSlot = some 0 then 1 else 0

/-- Bring CIL_SLOTST, CIL_ACTSEQ and CIL_STATUS.ACTIVE_SLOT to what flash shows (R43, R68a). DIS, once set, stays until the register
is reset (log entry 98, DESIGN CHOICE: R43 says when it is set and not when it clears). -/
def State.showSlots (s : State) : State :=
  let dis : Nat → Bool := fun k => match s.slotCopies k with | [a, b, c] => !(a == b && b == c) | _ => false
  let s := (s.setF R.CIL_SLOTST_A (s.slotState 0)).setF R.CIL_SLOTST_B (s.slotState 1)
  let s := if dis 0 ∧ ¬ s.isSet R.CIL_SLOTST_DIS_A then (s.setF R.CIL_SLOTST_DIS_A 1).raise Ev.CI_SLOT_DISAGREE 0 else s
  let s := if dis 1 ∧ ¬ s.isSet R.CIL_SLOTST_DIS_B then (s.setF R.CIL_SLOTST_DIS_B 1).raise Ev.CI_SLOT_DISAGREE 1 else s
  match s.activeSlot with
  | some k => (s.setF R.CIL_ACTSEQ_SEQ (s.flashWord (slotAt k + 0x10))).setF R.CIL_STATUS_ACTIVE_SLOT k
  | none => s.setF R.CIL_ACTSEQ_SEQ 0

/-- Move a slot to a later state: clear the groups of all three copies in order (R42, R43). -/
def State.setSlot (s : State) (k n : Nat) : State :=
  (s.forN 3 fun i s => s.program (stateSectorAt k + 4 * i) (leBytes 4 (stateWord n))).showSlots

/-- Erase a slot and its state sector: EMPTY. -/
def State.eraseSlot (s : State) (k : Nat) : State :=
  ((s.erase (slotAt k) 262144).erase (stateSectorAt k) 4096).showSlots

/-- The bytes of the image in a slot, by its header's TOTAL_LEN (at least a header, at most the slot). -/
def State.slotImage (s : State) (k : Nat) : List Byte :=
  s.flashBytes (slotAt k) (max 64 (min (s.flashWord (slotAt k + 8)) 262144))

/-- The image in the ACTIVE slot, if there is one. -/
def State.activeImage (s : State) : Option (List Byte) := s.activeSlot.map s.slotImage

/-! ### The change log -/

/-- Kinds of change-log entries (R64). -/
def kSTAGED : Nat := 1
def kREJECTED : Nat := 2
def kBEGUN : Nat := 3
def kDONE : Nat := 4
def kINTERRUPTED : Nat := 5
def kFALLBACK : Nat := 6
def kAUTH_OK : Nat := 7
def kAUTH_FAIL : Nat := 8
def kLOCKOUT : Nat := 9
def kLOCK_END : Nat := 10
def kKEY_PROG : Nat := 11
def kKEY_REVOKE : Nat := 12
def kNOIMAGE : Nat := 13

/-- Flash offset of a ring position. -/
def logAt (p : Nat) : Nat := 0x100000 + 64 * p

/-- What an entry says: kind, slot, safety-class change, image SEQ, detail, image ID, report CRC. -/
structure LogBody where
  kind   : Nat
  slot   : Nat
  safety : Bool
  seq    : Nat
  detail : Nat
  id16   : List Byte
  crc    : Nat
deriving DecidableEq, Repr

/-- A body with nothing but its kind and slot. -/
def LogBody.plain (kind slot : Nat) : LogBody := ⟨kind, slot, false, 0, 0, List.replicate 16 0, 0⟩

/-- Bytes 0x00 to 0x2F of an entry (R64). -/
def State.logHead (s : State) (b : LogBody) : List Byte :=
  leBytes 4 s.cil.nextSeq ++ leBytes 2 b.kind ++ leBytes 1 b.slot
    ++ leBytes 1 ((if b.safety then 1 else 0) + (if s.cil.tornPrev then 2 else 0))
    ++ leBytes 8 s.rtc ++ leBytes 4 b.seq ++ leBytes 4 b.detail ++ padTo 16 b.id16 ++ leBytes 4 b.crc ++ leBytes 4 0

/-- CHAIN of an entry whose bytes 0x00 to 0x2F are `h` (R65). -/
def chainOf (prev h : List Byte) : List Byte := (sha256 (prev ++ h)).take 16

/-- Write one entry, three attempts at most (R66); whether it stands in the log. -/
def State.logTry : Nat → State → LogBody → State × Bool
  | 0, s, _ => (s.raise Ev.CI_LOG_FAIL, false)
  | n + 1, s, b =>
    let p := s.cil.logPos
    let s := if p % 64 = 0 then s.erase (logAt p) 4096 else s
    let h := s.logHead b
    let ch := chainOf s.cil.chain h
    let outcome := s.progs.headD .done
    let s := { s with progs := s.progs.drop 1 }
    match outcome with
    | .done =>
      let s := s.program (logAt p) (h ++ ch)
      let s := s.setF R.CIL_LOGSEQ_SEQ s.cil.nextSeq
      ({ s with cil := { s.cil with chain := ch, logPos := (p + 1) % 512, nextSeq := s.cil.nextSeq + 1, tornPrev := false } }, true)
    | .erased => State.logTry n s b
    | .torn left =>
      let s := s.flashLeave (logAt p) (left.take 64)
      State.logTry n { s with cil := { s.cil with logPos := (p + 1) % 512, tornPrev := true } } b

/-- Write an entry; its fate in the second component. -/
def State.logWrite (s : State) (b : LogBody) : State × Bool := State.logTry 3 s b

/-- Write an entry whose loss stops nothing. -/
def State.log (s : State) (b : LogBody) : State := (s.logWrite b).1

/-- Is the position wholly erased? -/
def State.logErased (s : State) (p : Nat) : Bool := (s.flashBytes (logAt p) 64).all fun b => b == erasedByte

/-- Insert a position by its ENTRY_SEQ. -/
def insertPos (s : State) (p : Nat) : List Nat → List Nat
  | [] => [p]
  | q :: l => if s.flashWord (logAt p) ≤ s.flashWord (logAt q) then p :: q :: l else q :: insertPos s p l

/-- The written positions in ENTRY_SEQ order (R657). -/
def State.logOrder (s : State) : List Nat :=
  ((List.range 512).filter fun p => !s.logErased p).foldl (fun l p => insertPos s p l) []

/-- Walk the ring as R657's verifier does, from the chain `ch` of the last valid entry: the positions that verify. An entry verifies
against the last valid entry, the positions between being torn; or, marked `false`, against the CHAIN that the position before it
holds (`prev`) although that one does not verify: there the log has been altered. -/
def State.logVerify (s : State) (ch : List Byte) (prev : Option (List Byte)) : List Nat → List (Nat × Bool)
  | [] => []
  | p :: l =>
    let e := s.flashBytes (logAt p) 64
    let given := e.drop 0x30
    if chainOf ch (e.take 0x30) = given then (p, true) :: State.logVerify s given none l
    else if (prev.any fun c => decide (chainOf c (e.take 0x30) = given)) = true then (p, false) :: State.logVerify s given none l
    else State.logVerify s ch (some given) l

/-- The valid entries, oldest first, each with whether the log is unbroken before it (R67, R657): the oldest entry's CHAIN is taken as
given, unless its ENTRY_SEQ is 0; an oldest that its successor does not verify against is taken as torn. -/
def State.logValid (s : State) : Nat → List Nat → List (Nat × Bool)
  | 0, _ => []
  | _ + 1, [] => []
  | n + 1, p :: l =>
    let e := s.flashBytes (logAt p) 64
    let r := s.logVerify (e.drop 0x30) none l
    if fieldAt e 0 4 = 0 ∧ chainOf (List.replicate 16 0) (e.take 0x30) ≠ e.drop 0x30 then s.logValid n l
    else if l ≠ [] ∧ (r.head?.map (·.2)) ≠ some true then s.logValid n l
    else (p, true) :: r

/-- The valid entries of the log, oldest first. -/
def State.logEntries (s : State) : List (List Byte) :=
  (s.logValid 512 s.logOrder).map fun p => s.flashBytes (logAt p.1) 64

/-- The first position from `p` on that is not torn: erased, or holding a valid entry. -/
def State.logFree (s : State) (valid : List Nat) : Nat → Nat → Nat
  | 0, p => p
  | n + 1, p => if s.logErased p || valid.contains p then p else s.logFree valid n ((p + 1) % 512)

/-- Find the end of the log at boot: continue after the last entry whose chain verifies; the torn positions that follow it stay and are
reported (R67, CI_LOG_TORN); a break that is no torn position shows that the log has been altered (R657, CI_LOG_CHAIN). -/
def State.logFind (s : State) : State :=
  let v := s.logValid 512 s.logOrder
  let valid := v.map (·.1)
  match valid.getLast? with
  | none =>
    let pos := s.logFree valid 512 0
    let s := { s with cil := { s.cil with chain := List.replicate 16 0, logPos := pos, nextSeq := 0, tornPrev := decide (pos ≠ 0) } }
    s.doIf (decide (pos ≠ 0)) fun s => s.raise Ev.CI_LOG_TORN 0
  | some p =>
    let e := s.flashBytes (logAt p) 64
    let pos := s.logFree valid 512 ((p + 1) % 512)
    let torn := decide (pos ≠ (p + 1) % 512)
    let s := { s with cil := { s.cil with chain := e.drop 0x30, logPos := pos, nextSeq := fieldAt e 0 4 + 1, tornPrev := torn } }
    let s := s.setF R.CIL_LOGSEQ_SEQ (fieldAt e 0 4)
    let s := s.doIf torn fun s => s.raise Ev.CI_LOG_TORN p
    s.doIf (v.any fun q => !q.2) fun s => s.raise Ev.CI_LOG_CHAIN p

/-! ### OTP (R374, R375) -/

/-- The OTP fields that have a copy: offset, copy, size. -/
def otpPairs : List (Nat × Nat × Nat) :=
  [(0x10, 0x11, 1), (0x20, 0x40, 32), (0x60, 0x80, 32), (0xC0, 0xE0, 32)]

/-- The field at `p` is unreadable: its copies disagree. -/
def State.otpDiffers (s : State) (p : Nat × Nat × Nat) : Bool := decide (s.otpBytes p.1 p.2.2 ≠ s.otpBytes p.2.1 p.2.2)

def State.jtagLock (s : State) : Bool := s.otpFlag 0x110

/-- Burn bytes: a burn only sets bits. -/
def otpBurn (m : Sparse Byte) (a : Nat) : List Byte → Sparse Byte
  | [] => m
  | b :: bs => otpBurn (Sparse.set 0 m a (Sparse.get 0 m a ||| b)) (a + 1) bs

def State.burn (s : State) (a : Nat) (l : List Byte) : State := { s with otp := otpBurn s.otp a l }

/-- LCK_OTP as OTP shows it (R68b, R375). -/
def State.showKeys (s : State) : State :=
  let b := fun (c : Bool) => if c then 1 else 0
  s.setFs [(R.LCK_OTP_ROOT_OK, b (!s.otpDiffers (0x20, 0x40, 32))),
    (R.LCK_OTP_INT1_PROG, b (s.otpFlag 0xA0)), (R.LCK_OTP_INT1_REV, b (s.otpFlag 0xA1 || s.otpDiffers (0x60, 0x80, 32))),
    (R.LCK_OTP_INT2_PROG, b (s.otpFlag 0x100)), (R.LCK_OTP_INT2_REV, b (s.otpFlag 0x101 || s.otpDiffers (0xC0, 0xE0, 32)))]

/-- The boot ROM's check of the OTP copies: LCK_OTP, the AVS offset, SYS_OTPST.FIRST_DIS, and SYS_OTP_DIS once for each
field whose copies disagree (R375). -/
def State.otpCheck (s : State) : State :=
  let bad := otpPairs.filter fun p => s.otpDiffers p
  let s := s.showKeys
  let s := s.setF R.PMU_AVS_OFFSET_MV (if s.otpDiffers (0x10, 0x11, 1) then 50 else (Sparse.get 0 s.otp 0x10).toNat)
  let s := s.setF R.SYS_DBG_LOCKED (if s.jtagLock then 1 else 0)
  let s := match bad with | p :: _ => s.setF R.SYS_OTPST_FIRST_DIS p.1 | [] => s
  let s := s.forL bad fun p s => s.raiseInt Ev.SYS_OTP_DIS R.SYS_CINT_OTPDIS p.1
  s.doIf (s.otpDiffers (0x20, 0x40, 32)) fun s => s.raise Ev.CI_OTP

/-- Apply step 4: burn a hash and its copy, then PROG (R50, R73); or a REVOKE flag (R51). -/
def State.burnKey (s : State) (k : Nat) (h : List Byte) : State :=
  let o := if k = 1 then 0x60 else 0xC0
  ((s.burn o h).burn (o + 0x20) h).burn (if k = 1 then 0xA0 else 0x100) [7]

/-- A burn of a hash and its copy that has got as far as `n` bytes of the two, PROG still clear (R73). -/
def State.burnPart (s : State) (k : Nat) (h : List Byte) (n : Nat) : State :=
  let o := if k = 1 then 0x60 else 0xC0
  (s.burn o (h.take n)).burn (o + 0x20) (h.take (n - 32))

def State.burnRevoke (s : State) (k : Nat) : State := s.burn (if k = 1 then 0xA1 else 0x101) [7]

end Sys2Proof.Machine
end

