-- ==== Sys2Proof/Machine/Lck.lean ====
section
/-! DEFINITION. Keys and locks: the safety password, its sessions and lockout, and the block keys (R52 to R57, R656). -/

namespace Sys2Proof.Machine

/-! ### The password -/

/-- The password entered: its first `len` bytes. -/
def State.password (s : State) (len : Nat) : List Byte :=
  ((List.range 8).flatMap fun k => leBytes 4 (s.getF (R.LCK_PW_BYTES k))).take len

def State.clearPassword (s : State) : State := s.forN 8 fun k s => s.setF (R.LCK_PW_BYTES k) 0

/-- The repeated hash of R52. -/
def verifierLoop : Nat → List Byte → List Byte → List Byte
  | 0, _, v => v
  | n + 1, salt, v => verifierLoop n salt (sha256 (v ++ salt))

/-- The verifier of a password (R52). -/
def verifierOf (salt : List Byte) (iter : Nat) (pw : List Byte) : List Byte :=
  verifierLoop (iter - 1) salt (sha256 (salt ++ pw))

/-- The SAFETYAUTH section of the ACTIVE image, as it stands in flash, with its values as the check brings them into range (R48, R52). -/
def State.activeAuth (s : State) : Sparse Nat :=
  match s.activeImage with
  | none => []
  | some l =>
    let secs := ((secWalk 4096 l 64 (fieldAt l 0x1C 4) []).1).filter fun p => p.1.id == Img.SAFETYAUTH_VERIFIER.sec
    (secs.foldl (fun (a : List RepEntry × Sparse Nat) p => secFields [] p.1.id (fieldEnts 65536 p.2) [] a.1 a.2) ([], [])).2

/-- LCK holds a verifier: that of the ACTIVE image (R656). -/
def State.hasVerifier (s : State) : Bool := chas s.activeAuth Img.SAFETYAUTH_VERIFIER 0

/-- The password as entered matches SAFETYAUTH of the ACTIVE image (R52). -/
def State.passwordOk (s : State) (len : Nat) : Bool :=
  let m := s.activeAuth
  decide (verifierOf (leBytes 16 (cval m Img.SAFETYAUTH_SALT 0)) (cval m Img.SAFETYAUTH_ITER 0) (s.password len)
    = leBytes 32 (cval m Img.SAFETYAUTH_VERIFIER 0))

/-- A verification request is refused without evaluation (R656). -/
def State.passwordRefused (s : State) (len : Nat) : Bool :=
  !s.hasVerifier || decide (len < 8 ∨ 32 < len) || s.isSet R.LCK_AUTH_LOCKED
    || (s.password len).any fun b => decide (b.toNat < 0x20 ∨ 0x7E < b.toNat)

/-- A session is open now. A session that expires in this very cycle is not (R69). -/
def State.sessionOpen (s : State) : Bool := s.isSet R.LCK_AUTH_SESSION && !s.due .session

/-- End the session. -/
def State.endSession (s : State) : State := (s.setF R.LCK_AUTH_SESSION 0).disarm .session

/-- The timed part of a lockout: 15 minutes (R54). -/
def State.startLockout (s : State) : State :=
  (s.setF R.LCK_AUTH_LOCKED 1).arm .lockout (900 * secNs)

/-- PASSWORD_VERIFY: a write of LCK_PWCTL with GO = 1 (R54, R68, R656). -/
def execPasswordVerify (len : Nat) (s : State) : Out :=
  .next (s.access Dom.aon fun s =>
    if s.isSet R.LCK_AUTH_BUSY then s.flag R.CIL_INT_REFUSED
    else if s.passwordRefused (len % 64) then (s.flag R.LCK_INT_AUTHFAIL).clearPassword
    else { (s.setF R.LCK_AUTH_BUSY 1) with lck := ⟨some (len % 64)⟩ })

/-- A successful verification (R53, R54). -/
def State.authOk (s : State) : State :=
  let w := s.logWrite (.plain kAUTH_OK 0xFF)
  if w.2 then
    (((w.1.setF R.LCK_AUTH_SESSION 1).arm .session (cval w.1.activeAuth Img.SAFETYAUTH_WINDOW_S 0 * secNs)).setF R.LCK_AUTH_FAILS 0).raiseInt
      Ev.LCK_AUTH_OK R.LCK_INT_AUTHDONE
  else w.1

/-- A failed verification; the fifth in a row starts a lockout (R54). An entry that cannot be written abandons the
verification (R66). -/
def State.authFail (s : State) : State :=
  let w := s.logWrite (.plain kAUTH_FAIL 0xFF)
  if !w.2 then w.1
  else if w.1.getF R.LCK_AUTH_FAILS + 1 < 5 then
    (w.1.setF R.LCK_AUTH_FAILS (w.1.getF R.LCK_AUTH_FAILS + 1)).raiseInt Ev.LCK_AUTH_FAIL R.LCK_INT_AUTHFAIL
  else
    let w2 := w.1.logWrite (.plain kLOCKOUT 0xFF)
    if !w2.2 then w2.1
    else
      let s := (w2.1.setF R.LCK_AUTH_FAILS 5).raiseInt Ev.LCK_AUTH_FAIL R.LCK_INT_AUTHFAIL
      s.startLockout.raiseInt Ev.LCK_LOCKOUT R.LCK_INT_LOCKOUT

/-- VERIFICATION_DONE: the verification ends; its change-log entries are written before its outcome shows, and the
password registers are cleared (R53, R54). -/
def execVerificationDone (progs : List Prog) (s : State) : Out :=
  .next (match s.lck.busy with
    | none => s
    | some len =>
      let s := { s with progs := progs }
      let s := if s.passwordOk len then s.authOk else s.authFail
      { ((s.setF R.LCK_AUTH_BUSY 0).clearPassword) with lck := ⟨none⟩, progs := [] })

/-- AUTH_END: a write of 1 to LCK_AUTHEND.END (R53). -/
def execAuthEnd (s : State) : Out := .next (s.access Dom.aon State.endSession)

/-- SESSION_EXPIRY: the session's WINDOW_S has run out (R53). -/
def execSessionExpiry (s : State) : Out := .next (if s.due .session then s.endSession else s)

/-- LOCK_END: the lockout's 15 minutes have run out (R54). -/
def execLockEnd (progs : List Prog) (s : State) : Out :=
  .next (if s.due .lockout then
      let s := (((s.disarm .lockout).setF R.LCK_AUTH_LOCKED 0).setF R.LCK_AUTH_FAILS 0)
      { (State.log { s with progs := progs } (.plain kLOCK_END 0xFF)) with progs := [] }
    else s)

/-! ### Block keys -/

/-- The keys that open only while a session is open (R57): ASY, STK, FLT, LUX, TLT, SIO, LCK. -/
def sessionKeys : List Nat := [4, 5, 6, 12, 13, 14, 16]

/-- The block's key is open now; a key that closes in this very cycle is closed (R70). -/
def State.keyOpen (s : State) (b : Nat) : Bool := s.bitF R.LCK_KEYST_OPEN b && !s.due (.key b)

def State.closeKey (s : State) (b : Nat) : State := (s.setBitF R.LCK_KEYST_OPEN b false).disarm (.key b)

/-- KEY_OPEN: a write of LCK_KEY with OPEN = 1 (R57); while the cores are split the session keys stay closed (R391). -/
def execKeyOpen (block code : Nat) (s : State) : Out :=
  .next (s.access Dom.aon fun s =>
    let b := block % 32
    if code % 65536 ≠ 0xC1A0 ∨ 24 < b then s.flag R.LCK_INT_KEYVIOL
    else if sessionKeys.contains b ∧ (s.sessionOpen = false ∨ s.isSet R.SYS_CORE_STATE) then
      s.raiseInt Ev.LCK_KEY_REFUSED R.LCK_INT_KEYVIOL b
    else (s.setBitF R.LCK_KEYST_OPEN b true).arm (.key b) secNs)

/-- KEY_CLOSE: a write of LCK_KEY with OPEN = 0 (R57). -/
def execKeyClose (block code : Nat) (s : State) : Out :=
  .next (s.access Dom.aon fun s =>
    let b := block % 32
    if code % 65536 ≠ 0xC1A0 ∨ 24 < b then s.flag R.LCK_INT_KEYVIOL else s.closeKey b)

/-- KEY_EXPIRY: the key's second has ended (R57). -/
def execKeyExpiry (block : Nat) (s : State) : Out := .next (if s.due (.key block) then s.closeKey block else s)

end Sys2Proof.Machine
end

