-- ==== Sys2Proof/Machine/Keyed.lean ====
section
/-! DEFINITION. Writes to keyed registers (R6, R57, R70) and clamping (R8). -/

namespace Sys2Proof.Machine

/-- The answer to a write of a keyed register while the block's key is closed: a bus error, nothing changes, and LCK's
event (R6). -/
def State.keyViolation (s : State) (block : Nat) : State :=
  (s.answer .busError).raiseInt Ev.LCK_KEY_CLOSED R.LCK_INT_KEYVIOL block

/-- A write of a keyed register of `block`, which lies in domain `dom`. -/
def State.keyed (s : State) (dom block : Nat) (f : State → State) : State :=
  if s.on dom = false then s.answer .busError
  else if s.keyOpen block then f (s.answer .ok)
  else s.keyViolation block

/-- A value brought into `[lo, hi]` (R8). -/
def clampTo (lo hi v : Nat) : Nat := max lo (min hi v)

end Sys2Proof.Machine
end

