-- ==== Sys2Proof/Machine/Sio.lean ====
section
/-! DEFINITION. Safety I/O (R348 to R357, R363 to R366, R371): the trip aggregator, the safe-state outputs, the safety
input pairs and the safety reset, and, as far as they reach it, the tilt drive's STO (R344). -/

namespace Sys2Proof.Machine

/-! ### Trip sources -/

namespace Src
def lckMismatch : Nat := 0
def wdt : Nat := 1
def asySelf : Nat := 2
def luxSfl1 : Nat := 3
def luxCopy : Nat := 4
def tltSafe : Nat := 5
def sinHatch : Nat := 6
def sinFault : Nat := 7
def rbFail : Nat := 8
def supply : Nat := 9
def clock : Nat := 10
def fwA : Nat := 11
def fwB : Nat := 12
end Src

/-- The sources of SAFE_A, of SAFE_B (R352). -/
def maskA : Nat := 0xFE3
def maskB : Nat := 0x171F

/-- A source of the output is active or latched. -/
def State.tripped (s : State) (mask : Nat) : Bool :=
  decide ((s.getF R.SIO_TRIP_LATCHED ||| s.getF R.SIO_TRIPNOW_ACTIVE) &&& mask ≠ 0)

/-- The pair is in demand or faulted, or its fault awaits a clean test period (R350). -/
def State.pairDemand (s : State) (n : Nat) : Bool := decide (s.getF (R.SIO_IN_STATE n) ≠ 0)

/-- Some pair of role `r` is in demand (R351). -/
def State.roleDemand (s : State) (r : Nat) : Bool :=
  (List.range 4).any fun n => s.getF (R.SIO_USE_ROLE n) == r && s.pairDemand n

/-! ### STO (R344) -/

/-- An apply that holds the tilt in STO: steps 2 to 8 of R58. -/
def State.applyHolds (s : State) : Bool :=
  match s.cil.apply with
  | some a => !a.load && decide (2 ≤ a.step ∧ a.step ≤ 8)
  | none => false

/-- Every condition for STO to be released holds (R344), and no apply holds the tilt (R58). -/
def State.stoFree (s : State) : Bool :=
  s.on Dom.drive && !s.applyHolds && s.isSet R.TLT_CFG_ENABLE && s.isSet R.SIO_SAFECTL_ON_A && !s.tripped maskA && !s.roleDemand 1
    && (s.getF R.TLT_STATE_STATE == 1 || s.isSet R.TLT_STATE_HOMED)

/-- Bring the tilt into STO. -/
def State.enterSto (s : State) : State :=
  { (((s.setF R.TLT_STATE_STATE 0).disarm .homing).raiseInt Ev.TLT_STO R.TLT_INT_STO) with tlt := { s.tlt with step := 0, idxDue := none } }

/-- Enter or leave STO as R344's conditions say. FAULT is left only by a safety reset. -/
def State.tltRefresh (s : State) : State :=
  let st := s.getF R.TLT_STATE_STATE
  if st = 4 then s
  else if st = 0 then (if s.stoFree then (s.setF R.TLT_STATE_STATE 2).raise Ev.TLT_STO else s)
  else if s.stoFree then s else s.enterSto

/-! ### The aggregator -/

/-- De-energise the outputs of a source, clearing their ARM (R352, R353). -/
def State.deEnergise (s : State) (b : Nat) : State :=
  let a := maskA.testBit b
  let c := maskB.testBit b
  let fell := (a && s.isSet R.SIO_SAFECTL_ON_A) || (c && s.isSet R.SIO_SAFECTL_ON_B)
  let s := s.doIf a fun s => (s.setF R.SIO_SAFECTL_ON_A 0).setF R.SIO_SAFECTL_ARM_A 0
  let s := s.doIf c fun s => (s.setF R.SIO_SAFECTL_ON_B 0).setF R.SIO_SAFECTL_ARM_B 0
  s.doIf fell fun s => s.flag R.SIO_INT_TRIP

/-- A trip source asserts: it latches, but for SIN_HATCH, and its outputs fall; `lasting` sources stay active until they
end (R352). SIO_TRIP is raised when the source newly latches, and for SIN_HATCH when it newly activates. -/
def State.assertTrip (s : State) (b : Nat) (lasting : Bool) : State :=
  let fresh := if b = Src.sinHatch then !s.bitF R.SIO_TRIPNOW_ACTIVE b else !s.bitF R.SIO_TRIP_LATCHED b
  let s := if b = Src.sinHatch then s else s.flagBits R.SIO_TRIP_LATCHED (2 ^ b)
  let s := s.doIf lasting fun s => s.setBitF R.SIO_TRIPNOW_ACTIVE b true
  let s := s.deEnergise b
  (s.doIf fresh fun s => s.raise Ev.SIO_TRIP b).tltRefresh

/-- The condition of a source ends. -/
def State.endTrip (s : State) (b : Nat) : State := (s.setBitF R.SIO_TRIPNOW_ACTIVE b false).tltRefresh

/-- Follow a condition: assert the source while it holds, end it when it does not. -/
def State.followTrip (s : State) (b : Nat) (holds : Bool) : State :=
  if holds then (if s.bitF R.SIO_TRIPNOW_ACTIVE b then s else s.assertTrip b true)
  else if s.bitF R.SIO_TRIPNOW_ACTIVE b then s.endTrip b else s

/-! ### Outputs -/

/-- An ARM of an output is allowed (R353, R541). -/
def State.armOk (s : State) (mask : Nat) : Bool :=
  !s.tripped mask && (s.inWatch || s.inWork) && s.cil.bootDone && !s.isSet R.CIL_STATUS_NOIMAGE

/-- ARM_A (R353). -/
def execArmA (s : State) : Out :=
  .next (s.access Dom.aon fun s =>
    if s.armOk maskA ∧ s.isSet R.TLT_CFG_ENABLE then
      ((s.setF R.SIO_SAFECTL_ARM_A 1).setF R.SIO_SAFECTL_ON_A 1).tltRefresh
    else s.flag R.SIO_INT_ARMREFUSED)

/-- ARM_B (R353). -/
def execArmB (s : State) : Out :=
  .next (s.access Dom.aon fun s =>
    if s.armOk maskB then (s.setF R.SIO_SAFECTL_ARM_B 1).setF R.SIO_SAFECTL_ON_B 1
    else s.flag R.SIO_INT_ARMREFUSED)

/-- TRIP_A: firmware's trip of SAFE_A, source FW_A (R352). -/
def execTripA (s : State) : Out :=
  .next (s.access Dom.aon fun s => (s.setF R.SIO_SAFECTL_TRIP_A 1).assertTrip Src.fwA false)

/-- TRIP_B: firmware's trip of SAFE_B, source FW_B (R352). -/
def execTripB (s : State) : Out :=
  .next (s.access Dom.aon fun s => (s.setF R.SIO_SAFECTL_TRIP_B 1).assertTrip Src.fwB false)

/-- The read-back of an output differs from its commanded state (R354). -/
def State.rbFail (s : State) : State := (s.raise Ev.SIO_RB_FAIL).assertTrip Src.rbFail false

/-- OFF_TEST: once a second an energised output is driven low for OFFTEST_US; its read-back must follow down and up. A
test of a de-energised output is skipped (R354, R364). The two outputs' tests are 500 ms apart. -/
def execOffTest (out : Fin 2) (lowOk highOk : Bool) (s : State) : Out :=
  .next (if s.dueOrNew (.offTest out.val) then
      let s := s.rearm (.offTest out.val) secNs
      let s := if s.armed (.offTest (1 - out.val)) then s else s.arm (.offTest (1 - out.val)) (500 * msNs)
      let on := s.isSet (if out.val = 0 then R.SIO_SAFECTL_ON_A else R.SIO_SAFECTL_ON_B)
      if on ∧ ¬ (lowOk ∧ highOk) then s.rbFail else s
    else s)

/-- READBACK_MISMATCH (R354). -/
def execReadbackMismatch (s : State) : Out := .next s.rbFail

/-- TPCFG_WRITE (R8, R349): the timing rule is judged after clamping; a refused write stores nothing and sets no CLAMP
flag. -/
def execTpcfgWrite (period width : Nat) (s : State) : Out :=
  .next (s.keyed Dom.aon 14 fun s =>
    let p := clampTo 1 100 (period % 256)
    let w := clampTo 100 1000 (width % 1024)
    if 2 * w + 500 ≤ 1000 * p then
      let s := (s.setF R.SIO_TPCFG_TP_PERIOD_MS p).setF R.SIO_TPCFG_TP_WIDTH_US w
      s.doIf (decide (p ≠ period % 256 ∨ w ≠ width % 1024)) fun s => s.flag R.SIO_INT_CLAMP
    else s.raiseInt Ev.SIO_CFG_REFUSED R.SIO_INT_CFGREFUSED)

/-! ### The tilt's violations (R346) -/

/-- A violation of a monitored tilt function: STO, TLT_SAFE and FAULT; homing is required again. -/
def State.tltViolation (s : State) (e : EvId) : State :=
  if s.getF R.TLT_STATE_STATE = 4 then s
  else
    let s := s.setFs [(R.TLT_STATE_STATE, 4), (R.TLT_STATE_CAUSE, e.id % 256), (R.TLT_STATE_HOMED, 0)]
    let s := { s with tlt := { s.tlt with step := 0, potOffAt := none } }
    ((s.disarm .homing).raiseInt e R.TLT_INT_VIOL).assertTrip Src.tltSafe false

/-- The tilt homes. -/
def State.homing (s : State) : Bool := s.getF R.TLT_STATE_STATE == 1

/-- Enter a homing step, which has 120 s (R345). -/
def State.homeStep (s : State) (n : Nat) : State := { s with tlt := { s.tlt with step := n } }.arm .homing (120 * secNs)

/-- A failed homing: FAULT (R345). -/
def State.homeFail (s : State) : State :=
  let s := (s.setFs [(R.TLT_STATE_STATE, 4), (R.TLT_STATE_HOMED, 0)]).disarm .homing
  { s with tlt := { s.tlt with step := 0 } }.raiseInt Ev.TLT_HOME_FAIL R.TLT_INT_HOMEFAIL

/-- The encoder count as a signed number; the SLP limits; COUNT_HI. -/
def State.tltCount (s : State) : Int := (BitVec.ofNat 32 (s.getF R.TLT_POS_COUNT)).toInt
def State.signedF (s : State) (f : Fld) : Int := (BitVec.ofNat 32 (s.getF f)).toInt

/-- Set a signed 32-bit register. -/
def State.setSigned (s : State) (f : Fld) (v : Int) : State := s.setF f (BitVec.ofInt 32 v).toNat

/-- Step 1 ends: the lower-limit pair is in demand; the count becomes 0 and POT_LO is recorded (R345). -/
def State.homeLower (s : State) : State :=
  let s := (s.setF R.TLT_POS_COUNT 0).setF R.TLT_HOME0_POT_LO (s.getF R.TLT_POT_CODE)
  { s with tlt := { s.tlt with index := 0, winStart := 0, began := 0 } }.homeStep 2

/-- Step 3 ends: the upper-limit pair is in demand; COUNT_HI and POT_HI are recorded and judged (R345). -/
def State.homeUpper (s : State) : State :=
  let s := (s.setF R.TLT_HOME1_COUNT_HI (s.getF R.TLT_POS_COUNT)).setF R.TLT_HOME0_POT_HI (s.getF R.TLT_POT_CODE)
  let d : Int := (s.getF R.TLT_HOME0_POT_HI : Int) - s.getF R.TLT_HOME0_POT_LO
  if s.signedF R.TLT_SLPLO_COUNT < 0 ∨ s.signedF R.TLT_HOME1_COUNT_HI < s.signedF R.TLT_SLPHI_COUNT ∨ d.natAbs < 64 then
    s.homeFail
  else { s with tlt := { s.tlt with began := s.tltCount } }.homeStep 4

/-- What the tilt does when a limit pair enters demand (R345, R346, R366); `up` is the upper-limit pair. -/
def State.limitDemand (s : State) (up : Bool) : State :=
  if s.on Dom.drive = false ∨ ¬ s.isSet R.TLT_CFG_ENABLE then s
  else if s.homing then
    if s.roleDemand 2 ∧ s.roleDemand 3 then s.tltViolation Ev.TLT_SLP
    else match up, s.tlt.step with
      | false, 1 => s.homeLower
      | true, 3 => s.homeUpper
      | true, 1 => s.tltViolation Ev.TLT_SLP
      | true, 4 => s.tltViolation Ev.TLT_SLP
      | false, 2 => s.tltViolation Ev.TLT_SLP
      | false, 3 => s.tltViolation Ev.TLT_SLP
      | _, _ => s
  else s.tltViolation Ev.TLT_SLP

/-! ### Demand and pair faults -/

/-- The source SIN_FAULT: a hatch or limit pair has a fault (R351). -/
def State.sinFault (s : State) : Bool :=
  (List.range 4).any fun n =>
    let r := s.getF (R.SIO_USE_ROLE n)
    (r == 1 || r == 2 || r == 3) && s.isSet (R.SIO_PAIRFLT_CODE n)

/-- Bring the two input sources to the pairs' state (R351). -/
def State.sioSources (s : State) : State :=
  (s.followTrip Src.sinHatch (s.roleDemand 1)).followTrip Src.sinFault s.sinFault

def State.sioPair (s : State) (n : Nat) : SioPair := s.sio.pairs.getD n ⟨0, 0, false, none⟩

def State.setPair (s : State) (n : Nat) (p : SioPair) : State :=
  { s with sio := { s.sio with pairs := s.sio.pairs.set n p } }

/-- A pair's demand changes; its role acts (R350, R351). -/
def State.setDemand (s : State) (n : Nat) (d : Bool) : State :=
  let s := (s.setF (R.SIO_IN_STATE n) (if d then 1 else 0)).raiseInt Ev.SIO_DEMAND R.SIO_INT_DEMAND n (if d then 1 else 0)
  let s := if d then s else s.setPair n { s.sioPair n with leftAt := some s.now }
  let s := s.sioSources
  let r := s.getF (R.SIO_USE_ROLE n)
  let s := s.doIf (d && (r == 2 || r == 3)) fun s => s.limitDemand (r == 2)
  s.tltRefresh

/-- A pair fault latches; the pair counts as in demand (R348, R350). -/
def State.pairFault (s : State) (n code : Nat) (e : EvId) : State :=
  if s.isSet (R.SIO_PAIRFLT_CODE n) then s
  else
    let was := s.pairDemand n
    let s := (s.setF (R.SIO_PAIRFLT_CODE n) code).raiseInt e R.SIO_INT_PAIRFLT n
    let s := if was then s else s.setDemand n true
    (s.setF (R.SIO_IN_STATE n) 2).sioSources.tltRefresh

/-- The pair's DISCREP_MS. -/
def State.discrepMs (s : State) (n : Nat) : Nat :=
  s.getF (if n < 2 then R.SIO_DISC01_DISCREP_MS n else R.SIO_DISC23_DISCREP_MS (n - 2))

/-- One demand sample of pair `n`: contacts `a`, `b`, true when closed (R350). -/
def State.demandSample (s : State) (n : Nat) (a b : Bool) : State :=
  let p := s.sioPair n
  let p := if a ∧ b then { p with openRun := 0, closedRun := min (p.closedRun + 1) 3 }
           else { p with openRun := min (p.openRun + 1) 3, closedRun := 0 }
  let s := s.setPair n p
  let s := (s.setF (R.SIO_IN_A n) (if a then 1 else 0)).setF (R.SIO_IN_B n) (if b then 1 else 0)
  let s := if a = b then s.disarm (.discrep n)
           else if s.armed (.discrep n) then s else s.arm (.discrep n) (s.discrepMs n * msNs)
  let st := s.getF (R.SIO_IN_STATE n)
  if st = 0 ∧ p.openRun = 3 then s.setDemand n true
  else if st = 1 ∧ p.closedRun = 3 ∧ p.retest = false then s.setDemand n false
  else s

/-- A pulse of TPA or of TPB, which starts half a period later, is on or ended less than 50 µs ago (R348, R350); periods are counted
from power-on (log entry 120). In STANDBY there are none (R547). -/
def State.inPulse (s : State) : Bool :=
  let per := s.getF R.SIO_TPCFG_TP_PERIOD_MS * msNs
  let w := (s.getF R.SIO_TPCFG_TP_WIDTH_US + 50) * usNs
  decide (s.devState ≠ 3) && (decide (s.now % per < w) || decide ((s.now + per / 2) % per < w))

/-- DEMAND_SAMPLE: outside the pulse windows every contact is sampled every 50 µs (R350). `a`, `b`: bit `n` is contact A,
B of pair `n` closed. -/
def execDemandSample (a b : Fin 16) (s : State) : Out :=
  .next (if s.dueOrNew .demand ∧ s.inPulse = false then
      (s.arm .demand (50 * usNs)).forN 4 fun n s => s.demandSample n (a.val.testBit n) (b.val.testBit n)
    else s)

/-- The samples of one contact in a test period (R348): pre, in, foreign. The fault they show. -/
def contactFault (pre in_ foreign : Bool) : Nat := if in_ then 1 else if pre ∧ ¬ foreign then 2 else 0

/-- The test period of pair `n` (R348); a clean one ends the wait of a cleared fault (R350). -/
def State.testPeriod (s : State) (n : Nat) (fa fb : Nat) : State :=
  if s.getF (R.SIO_USE_ROLE n) = 0 then s
  else if fa = 1 ∨ fb = 1 then s.pairFault n 1 Ev.SIO_STUCK
  else if fa = 2 ∨ fb = 2 then s.pairFault n 2 Ev.SIO_XSHORT
  else if (s.sioPair n).retest then
    let s := s.setPair n { s.sioPair n with retest := false }
    if s.getF (R.SIO_IN_STATE n) = 1 ∧ (s.sioPair n).closedRun = 3 then s.setDemand n false else s
  else s

/-- TEST_PULSE_SAMPLE: the samples of one test period, bit `n` for pair `n` (R348). In STANDBY there are no test pulses
(R547). -/
def execTestPulseSample (preA inA forA preB inB forB : Fin 16) (s : State) : Out :=
  .next (if s.dueOrNew .testPeriod ∧ s.devState ≠ 3 then
      (s.rearm .testPeriod (s.getF R.SIO_TPCFG_TP_PERIOD_MS * msNs)).forN 4 fun n s =>
        s.testPeriod n (contactFault (preA.val.testBit n) (inA.val.testBit n) (forA.val.testBit n))
          (contactFault (preB.val.testBit n) (inB.val.testBit n) (forB.val.testBit n))
    else s)

/-- DISCREPANCY_TIMEOUT: the contacts of a used pair have disagreed for DISCREP_MS (R348). -/
def execDiscrepancyTimeout (pair : Fin 4) (s : State) : Out :=
  .next (if s.due (.discrep pair.val) then
      let s := s.disarm (.discrep pair.val)
      if s.getF (R.SIO_USE_ROLE pair.val) = 0 then s else s.pairFault pair.val 3 Ev.SIO_DISCREP
    else s)

/-! ### The safety reset -/

/-- A LATCHED channel enters RUN with its retry count at 0, and failover ends (R356, R342). -/
def State.unlatchChannels (s : State) : State :=
  let s := s.forN 2 fun c s =>
    if s.getF (R.LUX_ST_STATE c) = 5 then
      let s := s.setFs [(R.LUX_ST_STATE c, 1), (R.LUX_ST_CAUSE c, 0)]
      let s := { s with lux := { s.lux with ch := s.lux.ch.set c LuxCh.init } }
      s.setF (R.LUX_ST_FAILOVER (1 - c)) 0
    else s
  s

/-- An accepted safety reset (R356): a source that is active stays latched, and so does one that asserted in this very cycle (R363). -/
def State.safetyReset (s : State) : State :=
  let s := s.forN 4 fun n s =>
    if s.isSet (R.SIO_PAIRFLT_CODE n) then
      (((s.setF (R.SIO_PAIRFLT_CODE n) 0).setF (R.SIO_IN_STATE n) 1).setPair n { s.sioPair n with retest := true }).disarm (.discrep n)
    else s
  let s := s.sioSources
  let s := s.setF R.SIO_TRIP_LATCHED (s.getF R.SIO_TRIP_LATCHED &&& (s.getF R.SIO_TRIPNOW_ACTIVE ||| s.setNow R.SIO_TRIP_LATCHED))
  let s := (s.setF R.SIO_SAFECTL_TRIP_A 0).setF R.SIO_SAFECTL_TRIP_B 0
  let s := s.doIf (s.on Dom.drive) State.unlatchChannels
  let s := s.doIf (s.getF R.TLT_STATE_STATE == 4) fun s => s.setF R.TLT_STATE_STATE 0
  s.tltRefresh

/-- SAFE_RESET_FALL (R355): the pin must have been high for 100 ms, and for 1 s after RST_STUCK. -/
def execSafeResetFall (s : State) : Out :=
  .next (match s.sio.rstLow with
    | some _ => s
    | none =>
      let high := s.now - s.sio.rstHigh
      let stuck := s.sio.stuck && decide (high < secNs)
      { s with sio := { s.sio with rstLow := some s.now, rstOk := decide (100 * msNs ≤ high) && !stuck, stuck := stuck } }.arm
        .resetStuck (5 * secNs))

/-- SAFE_RESET_RISE (R355). -/
def execSafeResetRise (s : State) : Out :=
  .next (match s.sio.rstLow with
    | none => s
    | some t =>
      let low := s.now - t
      let ok := s.sio.rstOk && decide (50 * msNs ≤ low) && decide (low ≤ s.getF R.SIO_RST_WIN_MS * msNs)
      let s := { s with sio := { s.sio with rstLow := none, rstHigh := s.now } }.disarm .resetStuck
      if ok then ((s.satInc R.SIO_RST_ACCEPTED).raiseInt Ev.SIO_RESET R.SIO_INT_RESET).safetyReset
      else (s.satInc R.SIO_RST_REJECTED).raiseInt Ev.SIO_RST_REJECT R.SIO_INT_RSTREJ)

/-- RESET_STUCK: SAFE_RESET_N has been low for 5 s (R355). -/
def execResetStuck (s : State) : Out :=
  .next (if s.due .resetStuck then
      { (s.disarm .resetStuck) with sio := { s.sio with stuck := true, rstOk := false } }.raise Ev.SIO_RST_STUCK
    else s)

end Sys2Proof.Machine
end

