-- ==== Sys2Proof/Machine/Zones.lean ====
section
/-! DEFINITION. The believed-absent bits (R303 to R306): run counts, terms and the bits they give. -/

namespace Sys2Proof.Machine

/-- ZONEMAP entry `e` = L × 4 + c: the camera zones of camera c in lighting zone L. -/
def State.zmap (s : State) (e : Nat) : Nat := s.getF (R.ASY_ZMAP_W (2 * e)) + s.getF (R.ASY_ZMAP_W (2 * e + 1)) % 65536 * 2 ^ 32

/-- run(L, c) and good(L, c); `e` = L × 4 + c. -/
def State.runOf (s : State) (e : Nat) : Nat := Sparse.get 0 s.asy.runCnt e
def State.goodOf (s : State) (e : Nat) : Nat := Sparse.get 0 s.asy.good e

/-- A of R306. -/
def State.absentRuns (s : State) : Nat :=
  if s.getF R.ASY_TRUST_STATE = 2 then s.getF R.ASY_CFG1_ABSENT_RUN else 2 * s.getF R.ASY_CFG1_ABSENT_RUN

/-- The bit of lighting zone L (R306), as LUX sees it: only while the copies agree (R307). A term that ends in this very cycle has
not expired (R317). -/
def State.zoneBit (s : State) (L : Nat) : Bool :=
  let cams := (List.range 4).filter fun c => s.zmap (4 * L + c) != 0
  decide (L < s.getF R.LUX_CFG1_ZONES) && !cams.isEmpty && s.inWork && s.isSet R.ASY_CTL_COPIES_OK && decide (s.getF R.ASY_TRUST_STATE ≠ 0)
    && cams.all fun c => decide (s.absentRuns ≤ s.runOf (4 * L + c)) && decide (s.now ≤ s.goodOf (4 * L + c))

/-- All eight bits. -/
def State.zoneBits (s : State) : Nat := (List.range 8).foldl (fun b L => if s.zoneBit L then b + 2 ^ L else b) 0

/-- Reset the run counts of the entries that `p` selects; what clears them in this cycle outweighs a claim of absence in it (R316,
R319). -/
def State.resetRuns (s : State) (p : Nat → Bool) : State :=
  { s with asy := { s.asy with
    runCnt := s.asy.runCnt.filter fun q => !p q.1
    cleared := (List.range 32).foldl (fun m e => if p e then Sparse.set 0 m e (s.now + 1) else m) s.asy.cleared } }

/-- Entry `e` was cleared in this very cycle. -/
def State.clearedNow (s : State) (e : Nat) : Bool := Sparse.get 0 s.asy.cleared e == s.now + 1

/-- Chunks selected per run (R285). -/
def State.stkNsel (s : State) (n : Nat) : Nat := (s.getF (R.STK_COV_L n) * s.getF (R.STK_COV_MIN_COVER_PCT n) + 99) / 100

end Sys2Proof.Machine
end

