-- ==== Sys2Proof/Machine/Access.lean ====
section
/-! DEFINITION. Register words (R3 to R6, R652): which register an address holds, what a read of it returns, and the interrupt lines
(R602). -/

namespace Sys2Proof.Machine

/-- The domain of a block of the CD address map, by its place in the map (R23). -/
def blockDom (k : Nat) : Nat :=
  [1, 0, 1, 1, 1, 1, 2, 3, 6, 4, 4, 4, 5, 5, 0, 1, 0, 1, 1, 1, 1, 1, 1, 1, 5].getD k 1

/-- The register rows of a block. -/
def blockRows (k : Nat) : List RegRow :=
  match k with
  | 0 => rowsSYS | 1 => rowsPMU | 2 => rowsCIL | 3 => rowsTEN | 4 => rowsASY | 5 => rowsSTK | 6 => rowsFLT | 7 => rowsING
  | 8 => rowsSIL | 9 => rowsNET | 10 => rowsTIM | 11 => rowsCRN | 12 => rowsLUX | 13 => rowsTLT | 14 => rowsSIO | 15 => rowsEVL
  | 16 => rowsLCK | 17 => rowsTHM | 18 => rowsI2C | 19 => rowsI2C | 20 => rowsQSPI | 21 => rowsSPI | 22 => rowsUART
  | 23 => rowsGPIO | _ => []

/-- The block of a register address. -/
def blockOf (a : Nat) : Nat := (a - 0x40000000) / 0x10000

/-- The fields of the register at an address of the block map. -/
def fieldsAt (a : Nat) : Option (List FieldRow) := if a < 0x40000000 ∨ a % 4 ≠ 0 then none else findFields (blockRows (blockOf a)) a

/-- The place of the interrupt enable register of a block; its flags stand in the word below (R7). -/
def intenAt (k : Nat) : Option Fld :=
  [some R.SYS_CINTEN_EN, some R.PMU_INTEN_EN, some R.CIL_INTEN_EN, some R.TEN_INTEN_EN, some R.ASY_INTEN_EN, some R.STK_INTEN_EN,
   some R.FLT_INTEN_EN, some R.ING_INTEN_EN, some R.SIL_INTEN_EN, some R.NET_INTEN_EN, some R.TIM_INTEN_EN, some R.CRN_INTEN_EN,
   some R.LUX_INTEN_EN, some R.TLT_INTEN_EN, some R.SIO_INTEN_EN, some R.EVL_INTEN_EN, some R.LCK_INTEN_EN, some R.THM_INTEN_EN,
   some (R.I2C_INTEN_EN 0), some (R.I2C_INTEN_EN 1), some R.QSPI_INTEN_EN, some R.SPI_INTEN_EN, some (R.UART_INTEN_EN 0),
   some R.GPIO_INTEN_EN].getD k none

/-- The plain values of a register's fields, put together. -/
def State.fieldWord (s : State) (l : List FieldRow) : Nat := l.foldl (fun w r => w + s.getF r.fld * 2 ^ r.fld.lo) 0

/-- The flags of an enable register that are enabled. -/
def State.flagsOn (s : State) (f : Fld) : Bool :=
  match fieldsAt (f.addr - 4) with
  | some l => decide (s.fieldWord l &&& s.getF f ≠ 0)
  | none => false

/-- Interrupt line `k` of a block is asserted (R602). -/
def State.irqLine (s : State) (k : Nat) : Bool :=
  s.on (blockDom k) &&
  (match intenAt k with
   | some f => s.flagsOn f || (decide (k = 22) && s.flagsOn (R.UART_INTEN_EN 1))
   | none => false)

/-- EVL_IRQPEND. -/
def State.irqPend (s : State) : Nat := (List.range 25).foldl (fun w k => if s.irqLine k then w + 2 ^ k else w) 0

/-- The machine external interrupt of a core (R602). -/
def State.irqExt (s : State) (core : Nat) : Bool :=
  let p := s.irqPend
  let route := s.getF R.EVL_IRQROUTE_C1
  if s.getF R.SYS_CORE_STATE = 0 then decide (p ≠ 0)
  else if core = 1 then decide (p &&& route ≠ 0) else decide (p &&& (p ^^^ (p &&& route)) ≠ 0)

/-- SYS_MTIME, in µs since the last reset of the cores (R394). -/
def State.mtime (s : State) : Nat := (s.now - s.cpu.mtimeAt) / usNs

/-- The time to the end of a zone's bit (ASY_ZEXP.REMAIN_MS). -/
def State.zoneLeft (s : State) (L : Nat) : Nat :=
  if s.zoneBit L then
    let ends := ((List.range 4).filter fun c => s.zmap (4 * L + c) != 0).map fun c => s.goodOf (4 * L + c)
    match ends with
    | e :: l => (l.foldl min e - s.now + (msNs - 1)) / msNs
    | [] => 0
  else 0

/-- An I²C controller takes its bus as free (R133). -/
def State.i2cFree (s : State) (i : Nat) : Bool :=
  let k := s.i2c.getD i .init
  !k.run && !k.held && (match k.freeAt with | some t => decide (t ≤ s.now) | none => false)

/-- BUSFREE and the FIFO levels of an I²C controller (R146). -/
def State.readI2c (s : State) (i k : Nat) : Nat :=
  if k = (R.I2C_STATUS_BUSFREE i).key then (if s.i2cFree i then 1 else 0)
  else if k = (R.I2C_FIFO_TXLVL i).key then (s.i2c.getD i .init).tx.length
  else (s.i2c.getD i .init).rx.length

/-- What a field reads as: the fields that follow something in time are worked out, the others stand in the register file. -/
def State.readF (s : State) (f : Fld) : Nat :=
  let k := f.key
  let pos (x : Int) : Nat := (x % 2 ^ 32).toNat
  (if k = R.SYS_SPLITCNT_REMAIN_MS.key then s.remain .split msNs
  else if k = R.SYS_WDTSTAT_REMAIN0_MS.key then s.remain (.wdt 0) msNs
  else if k = R.SYS_WDTSTAT_REMAIN1_MS.key then s.remain (.wdt 1) msNs
  else if k = R.SYS_LCKSTAT_COUNT_1H.key then min 15 (s.recent (3600 * secNs) s.cpu.mismAt).length
  else if k = R.SYS_MTIME_LO_LO.key then s.mtime
  else if k = R.PMU_RTC_LO_TICKS.key then s.rtc
  else if k = R.LCK_AUTH_REMAIN_S.key then s.remain .lockout secNs
  else if k = R.LCK_AUTH_WINDOW_S.key then (if s.isSet R.LCK_AUTH_SESSION then s.remain .session secNs else 0)
  else if k = R.EVL_IRQPEND_LINE.key then s.irqPend
  else if k = R.ASY_ZONE_BITS.key then s.zoneBits
  else if k = R.ASY_LADDER_IN_1S.key then min 15 (s.recent secNs s.asy.ladderAt).length
  else if k = R.ASY_TRUST_ATTEMPT.key then min 7 (s.recent (3600 * secNs) s.asy.resetsAt).length
  else if k = R.EVL_Q_LEVEL.key then s.evl.queue.length
  else if k = R.EVL_Q_OPEN.key then s.evl.coal.length
  else if k = R.QSPI_STATUS_FLASHBUSY.key then max (s.getF f) (s.getF R.EVL_PST_BUSY)
  else if k = R.TIM_D_D.key then pos (s.tim.d / 2 ^ 32)
  else if k = R.TIM_STAT_ABSORBING.key then (if s.tim.d = 0 then 0 else 1)
  else match (List.range 4).find? fun n => (R.TIM_TB_NS_NS n).key == k with
    | some n => s.base n
    | none =>
      match (List.range 8).find? fun z => (R.ASY_ZEXP_REMAIN_MS z).key == k with
      | some z => s.zoneLeft z
      | none =>
        match (List.range 8).find? fun z => (R.ASY_ZEXP_RUNS z).key == k with
        | some z => (List.range 4).foldl (fun w c => w + min 31 (s.runOf (4 * z + c)) * 2 ^ (5 * c)) 0
        | none =>
          if k = R.SIL_STATUS_TXSEQ.key then s.sil.cd.seq else
          match (List.range 4).find? fun v => (R.SIL_CRED_TX v).key == k || (R.SIL_CRED_RX v).key == k with
          | some v => (if k = (R.SIL_CRED_TX v).key then s.sil.cd.cred else s.sil.cd.free).getD v 0
          | none =>
          match (List.range 4).find? fun c => (R.ING_CAM_STAT_BAD_1S c).key == k with
          | some c => min 255 (s.recent secNs (s.ing.cams.getD c .init).nokAt).length
          | none =>
          match (List.range 2).find? fun i => (R.I2C_STATUS_BUSFREE i).key == k || (R.I2C_FIFO_TXLVL i).key == k || (R.I2C_FIFO_RXLVL i).key == k with
          | some i => s.readI2c i k
          | none =>
          match (List.range 2).find? fun c => (R.LUX_ST_RETRIES c).key == k with
          | some c => min 3 (s.recent secNs (s.lux.ch.getD c .init).retryAt).length
          | none =>
          match (List.range 16).find? fun n => (R.STK_COV_NSEL n).key == k with
          | some n => s.stkNsel n
          | none =>
          match (List.range 16).find? fun n => (R.TEN_STATE_RESETS_1H n).key == k with
          | some n => min 255 (s.recent (3600 * secNs) (s.ten.tenants.getD n .init).resetsAt).length
          | none =>
          match (List.range 2).find? fun p => (R.NET_PORT_ST_DOWNS p).key == k with
          | some p => min 255 (s.recent (60 * secNs) (s.net.downAt.getD p [])).length
          | none => s.getF f) % 2 ^ f.width

/-- What a read of a register returns; a WO field reads as 0 (R6), an RC field as it was before a change of the same cycle (R7). -/
def State.readWord (s : State) (l : List FieldRow) : Nat :=
  l.foldl (fun w r => match r.acc with
    | .wo => w
    | .rc => w + s.readRc r.fld % 2 ^ r.fld.width * 2 ^ r.fld.lo
    | _ => w + s.readF r.fld * 2 ^ r.fld.lo) 0

/-- What a read leaves behind: RC fields are cleared (R6), but for a change of the same cycle (R7). -/
def State.afterRead (s : State) (l : List FieldRow) : State :=
  s.forL l fun r s => match r.acc with | .rc => s.clearRc r.fld | _ => s

/-! ### Writes -/

/-- The part of a written word that falls to a field. -/
def FieldRow.part (r : FieldRow) (v : Nat) : Nat := v / 2 ^ r.fld.lo % 2 ^ r.fld.width

/-- SIL_PM.SLEEP_AFTER_US may be 0 or at least 10 (R178): what lies between goes to the nearer end, 5, as near to both, up (log
entry 95). -/
def sleepGap (r : FieldRow) (x : Nat) : Nat :=
  if r.fld.key = R.SIL_PM_SLEEP_AFTER_US.key ∧ 0 < x ∧ x < 10 then (if x < 5 then 0 else 10) else x

/-- A value of a field as R8 stores it: brought into its range, which is signed where its lower end is negative. -/
def FieldRow.clamped (r : FieldRow) (v : Nat) : Nat :=
  let x := sleepGap r v
  match r.lim with
  | none => x
  | some (lo, hi) =>
    let i : Int := if lo < 0 ∧ 2 ^ (r.fld.width - 1) ≤ x then Int.ofNat x - 2 ^ r.fld.width else Int.ofNat x
    ((max lo (min hi i)) % 2 ^ r.fld.width).toNat

/-- The field stores what is written to it (RW, RWK). -/
def FieldRow.stores (r : FieldRow) : Bool := match r.acc with | .rw => true | .rwk => true | _ => false

/-- The value written is outside the field's range. -/
def FieldRow.outside (r : FieldRow) (v : Nat) : Bool := r.stores && decide (r.clamped (r.part v) ≠ r.part v)

/-- The value written has a meaning (R654). -/
def FieldRow.meaning (r : FieldRow) (v : Nat) : Bool :=
  match r.codes with
  | some l => !r.stores || l.contains (r.part v)
  | none => true

/-- The new value of a field from a written word (R6, R8); a W1C bit that hardware sets in the same cycle stays set (R7). -/
def State.newF (s : State) (r : FieldRow) (v : Nat) : Nat :=
  let old := s.getF r.fld
  let x := r.part v
  match r.acc with
  | .rw => r.clamped x
  | .rwk => r.clamped x
  | .w1c => (old ^^^ (old &&& x)) ||| s.setNow r.fld
  | .w1s => old ||| x
  | _ => old

/-- Store a word by the access codes of its register's fields. -/
def State.storeWord (s : State) (l : List FieldRow) (v : Nat) : State :=
  s.setFs ((l.filter fun r => match r.acc with | .ro => false | .wo => false | .rc => false | _ => true).map fun r => (r.fld, s.newF r v))

/-- The rows with the range of TLT_SPEED.CPS as it stands, 1 … TLT_CFG.SLS_CPS (R347). -/
def State.bounded (s : State) (l : List FieldRow) : List FieldRow :=
  l.map fun r => if r.fld.key = R.TLT_SPEED_CPS.key then { r with lim := some (1, Int.ofNat (s.getF R.TLT_CFG_SLS_CPS)) } else r

/-- Store a word; its block's CLAMP flag is set when a value was brought into its range (R8). -/
def State.storeClamp (s : State) (rows : List FieldRow) (v : Nat) (flag : Option Fld) : State :=
  let l := s.bounded rows
  let c := l.any fun r => r.outside v
  let s := s.storeWord l v
  match c, flag with
  | true, some f => s.flag f
  | _, _ => s

/-- Store a word at a register address, with its block's CLAMP flag. -/
def State.storeAt (s : State) (a v : Nat) (flag : Fld) : State :=
  match fieldsAt a with
  | some l => s.storeClamp l v (some flag)
  | none => s

end Sys2Proof.Machine
end

