-- ==== Sys2Proof/Machine/Float.lean ====
section
/-! DEFINITION. The number formats of R198 and the arithmetic on them (R183, R188, R200, R201): exact values, and one
rounding to nearest, ties to even. -/

namespace Sys2Proof.Machine

/-- A floating-point format: exponent and mantissa bits, bias, whether it has infinities (R198). -/
structure FpFmt where
  eb   : Nat
  mb   : Nat
  bias : Nat
  inf  : Bool
deriving DecidableEq, Repr

def FpFmt.e4m3 : FpFmt := ⟨4, 3, 7, false⟩
def FpFmt.e5m2 : FpFmt := ⟨5, 2, 15, true⟩
def FpFmt.bf16 : FpFmt := ⟨8, 7, 127, true⟩
def FpFmt.fp16 : FpFmt := ⟨5, 10, 15, true⟩
def FpFmt.fp32 : FpFmt := ⟨8, 23, 127, true⟩

/-- A value: not a number, an infinity, or ±m · 2^e. -/
inductive FpV where
  | nan
  | inf (neg : Bool)
  | fin (neg : Bool) (m : Nat) (e : Int)
deriving DecidableEq, Repr

/-- The value of a bit pattern (R198, R199). -/
def FpFmt.decode (f : FpFmt) (b : Nat) : FpV :=
  let m := b % 2 ^ f.mb
  let x := b / 2 ^ f.mb % 2 ^ f.eb
  let neg := b.testBit (f.eb + f.mb)
  let top := decide (x + 1 = 2 ^ f.eb)
  if f.inf && top then (if m = 0 then .inf neg else .nan)
  else if top && decide (m + 1 = 2 ^ f.mb) then .nan
  else if x = 0 then .fin neg m (1 - (f.bias : Int) - f.mb)
  else .fin neg (2 ^ f.mb + m) ((x : Int) - f.bias - f.mb)

/-- The canonical NaN, the infinity and the largest finite magnitude of a format (R198). -/
def FpFmt.nan (f : FpFmt) : Nat :=
  if f.inf then (2 ^ f.eb - 1) * 2 ^ f.mb + 2 ^ (f.mb - 1) else 2 ^ (f.eb + f.mb) - 1
def FpFmt.infty (f : FpFmt) : Nat := (2 ^ f.eb - 1) * 2 ^ f.mb
def FpFmt.largest (f : FpFmt) : Nat := if f.inf then f.infty - 1 else 2 ^ (f.eb + f.mb) - 2

/-- `m / 2^n` rounded to nearest, ties to even. -/
def roundShift (m n : Nat) : Nat :=
  if n = 0 then m
  else
    let t := m / 2 ^ n
    let rem := m % 2 ^ n
    let half := 2 ^ (n - 1)
    if half < rem ∨ (rem = half ∧ t % 2 = 1) then t + 1 else t

/-- The magnitude bits of m · 2^e rounded to the format, were there no largest value. -/
def FpFmt.magnitude (f : FpFmt) (m : Nat) (e : Int) : Nat :=
  if m = 0 then 0
  else
    let emin : Int := 1 - (f.bias : Int) - f.mb
    let q := max (e + m.log2 - f.mb) emin
    let r := if q ≤ e then m * 2 ^ (e - q).toNat else roundShift m (q - e).toNat
    (q - emin).toNat * 2 ^ f.mb + r

/-- The bit pattern of a value in the format, and whether it overflowed (R200): with `sat` an overflow gives the largest
finite value, without it infinity, or the NaN where the format has none. -/
def FpFmt.encode (f : FpFmt) (sat : Bool) (v : FpV) : Nat × Bool :=
  let sgn : Bool → Nat := fun n => if n then 2 ^ (f.eb + f.mb) else 0
  match v with
  | .nan => (f.nan, false)
  | .inf n => if f.inf then (sgn n + f.infty, false) else if sat then (sgn n + f.largest, true) else (f.nan, true)
  | .fin n m e =>
    let b := f.magnitude m e
    if b ≤ f.largest then (sgn n + b, false)
    else if sat then (sgn n + f.largest, true)
    else if f.inf then (sgn n + f.infty, true) else (f.nan, true)

/-- The bit pattern, overflow to infinity. -/
def FpFmt.bits (f : FpFmt) (v : FpV) : Nat := (f.encode false v).1

/-- The exact signed integer of a finite value at exponent `e`, at or below its own. -/
def scaled (neg : Bool) (m : Nat) (e0 e : Int) : Int :=
  let v : Int := m * 2 ^ (e0 - e).toNat
  if neg then -v else v

/-- Exact sum. -/
def FpV.add : FpV → FpV → FpV
  | .nan, _ => .nan
  | _, .nan => .nan
  | .inf a, .inf b => if a = b then .inf a else .nan
  | .inf a, _ => .inf a
  | _, .inf b => .inf b
  | .fin n1 m1 e1, .fin n2 m2 e2 =>
    let e := min e1 e2
    let s := scaled n1 m1 e1 e + scaled n2 m2 e2 e
    .fin (if s = 0 then n1 && n2 else decide (s < 0)) s.natAbs e

def FpV.neg : FpV → FpV
  | .nan => .nan
  | .inf a => .inf (!a)
  | .fin n m e => .fin (!n) m e

/-- Exact product; ∞ × 0 is NaN (R183). -/
def FpV.mul : FpV → FpV → FpV
  | .nan, _ => .nan
  | _, .nan => .nan
  | .inf a, .inf b => .inf (a != b)
  | .inf a, .fin n m _ => if m = 0 then .nan else .inf (a != n)
  | .fin n m _, .inf b => if m = 0 then .nan else .inf (n != b)
  | .fin n1 m1 e1, .fin n2 m2 e2 => .fin (n1 != n2) (m1 * m2) (e1 + e2)

/-- `a < b`; false when either is NaN. -/
def FpV.lt (a b : FpV) : Bool :=
  match a, b with
  | .nan, _ => false
  | _, .nan => false
  | .inf x, .inf y => x && !y
  | .inf x, _ => x
  | _, .inf y => !y
  | .fin n1 m1 e1, .fin n2 m2 e2 => let e := min e1 e2; decide (scaled n1 m1 e1 e < scaled n2 m2 e2 e)

/-- Neither is NaN and neither is less. -/
def FpV.eq (a b : FpV) : Bool := a != .nan && b != .nan && !a.lt b && !b.lt a

def FpV.isNan (a : FpV) : Bool := a == .nan
def FpV.isZero : FpV → Bool
  | .fin _ m _ => m == 0
  | _ => false

/-- The exact value of an integer. -/
def FpV.ofInt (i : Int) : FpV := .fin (decide (i < 0)) i.natAbs 0

/-- A signed integer brought into INT8's range, and whether that changed it. -/
def satInt8 (i : Int) : Int × Bool := let y := max (-128) (min 127 i); (y, y != i)

/-- FP to INT8: nearest-even, saturated; NaN gives 0 (R200). -/
def FpV.toInt8 : FpV → Int × Bool
  | .nan => (0, false)
  | .inf n => (if n then -128 else 127, true)
  | .fin n m e =>
    let r : Int := if 0 ≤ e then m * 2 ^ e.toNat else roundShift m (-e).toNat
    satInt8 (if n then -r else r)

/-- Requantisation of an INT40 entry (R201), and whether it saturated. -/
def requantise (a m : Int) (s : Nat) (z : Int) : Int × Bool :=
  let p := a * m
  let t :=
    if s = 0 then p
    else
      let t := p / 2 ^ s
      let rem := p - t * 2 ^ s
      let half : Int := 2 ^ (s - 1)
      if half < rem ∨ (rem = half ∧ t % 2 = 1) then t + 1 else t
  satInt8 (t + z)

/-- The signed value of the low `w` bits, and the low `w` bits of an integer. -/
def toSigned (w v : Nat) : Int := let u := v % 2 ^ w; if u < 2 ^ (w - 1) then u else (u : Int) - 2 ^ w
def ofSigned (w : Nat) (i : Int) : Nat := (i % 2 ^ w).toNat

/-- IEEE binary64, in which the update unit accumulates squares (R489). -/
def FpFmt.fp64 : FpFmt := ⟨11, 52, 1023, true⟩

/-- The integer square root, bit by bit from bit `k` − 1 down. -/
def isqrtFrom (n : Nat) : Nat → Nat → Nat
  | 0, r => r
  | k + 1, r => if (r + 2 ^ k) * (r + 2 ^ k) ≤ n then isqrtFrom n k (r + 2 ^ k) else isqrtFrom n k r

def isqrt (n : Nat) : Nat := isqrtFrom n (n.log2 / 2 + 1) 0

/-- A quotient carried to 64 bits beyond both operands, its last bit standing for whatever remains: any later rounding to
one of the formats is that of the exact quotient. -/
def FpV.div : FpV → FpV → FpV
  | .nan, _ => .nan
  | _, .nan => .nan
  | .inf _, .inf _ => .nan
  | .inf a, .fin n _ _ => .inf (a != n)
  | .fin n _ _, .inf b => .fin (n != b) 0 0
  | .fin n1 m1 e1, .fin n2 m2 e2 =>
    if m2 = 0 then (if m1 = 0 then .nan else .inf (n1 != n2))
    else
      let k := 64 + m2.log2
      let q := m1 * 2 ^ k / m2
      .fin (n1 != n2) (2 * q + (if m1 * 2 ^ k % m2 = 0 then 0 else 1)) (e1 - e2 - (k : Int) - 1)

/-- A square root, in the same way. -/
def FpV.sqrt : FpV → FpV
  | .nan => .nan
  | .inf n => if n then .nan else .inf false
  | .fin n m e =>
    if m = 0 then .fin n 0 0
    else if n then .nan
    else
      let k : Nat := if e % 2 = 0 then 128 else 129
      let r := isqrt (m * 2 ^ k)
      .fin false (2 * r + (if r * r = m * 2 ^ k then 0 else 1)) ((e - (k : Int)) / 2 - 1)

/-! ### The special functions' error bound (R188) -/

/-- v · 2^d is at most 1; at least 1. -/
def leOne (v : Nat) (d : Int) : Bool := if 0 ≤ d then decide (v * 2 ^ d.toNat ≤ 1) else decide (v ≤ 2 ^ (-d).toNat)
def geOne (v : Nat) (d : Int) : Bool := if 0 ≤ d then decide (1 ≤ v * 2 ^ d.toNat) else decide (2 ^ (-d).toNat ≤ v)

/-- y is within 2 ulp of the exact result of a special function of x (0 exp2, 1 log2, 2 reciprocal, 3 reciprocal square root), where
the function has a real result there; exact, in integers. -/
def sfuNear (sub : Nat) (x y : FpV) : Bool :=
  match x, y with
  | .fin xn m e, .fin yn ym q =>
    let v : Int := if yn then -ym else ym
    let lo := v - 2
    let hi := v + 2
    let k : Nat := 2 ^ (if sub = 0 then -e else -q).toNat
    match sub with
    | 0 =>
      let a : Int := (if xn then -1 else 1) * m * 2 ^ (e + (-e).toNat).toNat
      (decide (lo ≤ 0) || leOne (lo.toNat ^ k) (q * k - a)) && decide (0 < hi) && geOne (hi.toNat ^ k) (q * k - a)
    | 1 =>
      let u : Int := 2 ^ (q + (-q).toNat).toNat
      decide (0 < m) && !xn && geOne (m ^ k) (e * k - lo * u) && leOne (m ^ k) (e * k - hi * u)
    | 2 => decide (0 < m) && yn == xn && leOne ((ym - 2) * m) (q + e) && geOne ((ym + 2) * m) (q + e)
    | _ => decide (0 < m) && !xn && !yn && leOne ((ym - 2) * (ym - 2) * m) (2 * q + e) && geOne ((ym + 2) * (ym + 2) * m) (2 * q + e)
  | _, _ => false

/-- The first bit pattern from `y` on, around all 2^32, that satisfies `p`; `y` where none does. -/
def firstFrom (p : Nat → Bool) : Nat → Nat → Nat
  | 0, y => y
  | n + 1, y => if p y then y else firstFrom p n ((y + 1) % 2 ^ 32)

/-- A NaN that the device produces is the canonical one (R198). -/
def FpFmt.canon (f : FpFmt) (b : Nat) : Nat := if (f.decode b).isNan then f.nan else b

/-! FP32 operations on bit patterns, one rounding each (R489). -/

def f32 (b : Nat) : FpV := FpFmt.fp32.decode b
def fadd (a b : Nat) : Nat := FpFmt.fp32.bits ((f32 a).add (f32 b))
def fsub (a b : Nat) : Nat := FpFmt.fp32.bits ((f32 a).add (f32 b).neg)
def fmul (a b : Nat) : Nat := FpFmt.fp32.bits ((f32 a).mul (f32 b))
def fdiv (a b : Nat) : Nat := FpFmt.fp32.bits ((f32 a).div (f32 b))
def fsqrt (a : Nat) : Nat := FpFmt.fp32.bits (f32 a).sqrt
def fOne : Nat := 0x3F800000
def fFinite (a : Nat) : Bool := match f32 a with | .fin _ _ _ => true | _ => false

/-- A sum of squares: accumulated in FP64 in ascending order, rounded once to FP32 (R489). -/
def sumSquares (l : List Nat) : Nat :=
  let d := FpFmt.fp64
  let t := l.foldl (fun a x => d.bits ((d.decode a).add (d.decode (d.bits ((f32 x).mul (f32 x)))))) 0
  FpFmt.fp32.bits (d.decode t)

end Sys2Proof.Machine
end

