-- ==== Sys2Proof/Machine/SillTx.lean ====
section
/-! DEFINITION. Sending on Sill (R147 to R151, R156, R157, R159 to R163): rows, flits, messages, credits and the arbitration of flit
slots, for both ends. The flag `ad` names the AD's end. -/

namespace Sys2Proof.Machine

/-! Message types (R163). -/

namespace TT
def ready : Nat := 0x01
def tenCmd : Nat := 0x02
def tenAck : Nat := 0x03
def doorbell : Nat := 0x04
def majorTick : Nat := 0x05
def frameReport : Nat := 0x06
def probe : Nat := 0x07
def probeResult : Nat := 0x08
def config : Nat := 0x09
def configAck : Nat := 0x0A
def event : Nat := 0x0B
def energyPlan : Nat := 0x0C
def pmEnter : Nat := 0x0D
def pmAck : Nat := 0x0E
def resumeAck : Nat := 0x0F
def debug : Nat := 0x10
def debugRsp : Nat := 0x11
def nakMsg : Nat := 0x12
def frameOpen : Nat := 0x20
def frameData : Nat := 0x21
def frameTrailer : Nat := 0x22
def streakSet : Nat := 0x23
def record : Nat := 0x24
def complNote : Nat := 0x25
def memRd : Nat := 0x30
def memRdData : Nat := 0x31
def memWr : Nat := 0x32
def memWrAck : Nat := 0x33
end TT

/-- TENANT of a message with no tenant, and of the audit scope (R162). -/
def noTenant : Nat := 0xFF
def auditScope : Nat := 0xFE

/-! ### Rows (R147, R148) -/

/-- The block that a control row carries on a lane. -/
def CtlRow.block (ad : Bool) (lane : Nat) : CtlRow → List Byte
  | .idle => leBytes 1 0x33 ++ leBytes 7 0
  | .trn1 attempt => leBytes 1 0x4B ++ leBytes 1 lane ++ leBytes 1 (if ad then 1 else 0) ++ leBytes 1 attempt ++ leBytes 4 0
  | .trn2 lanes capacity => leBytes 1 0x55 ++ leBytes 1 1 ++ leBytes 1 lanes ++ leBytes 1 capacity ++ leBytes 4 0
  | .eidle => leBytes 1 0x66 ++ leBytes 7 0
  | .sync => leBytes 1 0x78 ++ leBytes 7 0

/-- What the sync headers of a row's lanes make it: 0b01 on every lane a data row, 0b10 a control row, and else a lane error. -/
inductive RowKind where
  | data
  | control
  | laneError
deriving DecidableEq, Repr

def rowKind (headers : List Nat) : RowKind :=
  if headers.all (fun h => h == 1) then .data else if headers.all (fun h => h == 2) then .control else .laneError

/-- The block of a lane in a data row of `w` lanes: row byte j travels on lane j mod w, in byte j div w of its block. -/
def laneBlock (w : Nat) (row : List Byte) (lane : Nat) : List Byte := (List.range 8).map fun i => row.getD (w * i + lane) 0

/-- The rows of a group of 16 flits, 9 in x8 operation and 18 in x4: the flits back to back, in their byte order, 8 × `w` bytes a row. -/
def groupRows (w : Nat) (flits : List (List Byte)) : List (List (List Byte)) :=
  let l := flits.flatten
  (List.range (576 / (8 * w))).map fun r => (List.range w).map (laneBlock w ((l.drop (8 * w * r)).take (8 * w)))

/-! ### Flits (R149, R150) -/

/-- One bit of the flit CRC. -/
def crc16Bit (c : BitVec 16) : BitVec 16 := if c.getMsbD 0 then (c <<< 1) ^^^ 0x8BB7#16 else c <<< 1

/-- One byte of the flit CRC. -/
def crc16Byte (c : BitVec 16) (b : Byte) : BitVec 16 :=
  (List.range 8).foldl (fun c _ => crc16Bit c) (c ^^^ BitVec.ofNat 16 (b.toNat * 256))

/-- The flit CRC (R150). -/
def crc16 (l : List Byte) : Nat := (l.foldl crc16Byte 0#16).toNat

/-- A flit as it is read (R149). -/
structure Flit where
  seq  : Nat
  vc   : Nat
  som  : Bool
  eom  : Bool
  ft   : Nat
  pay  : List Byte
  good : Bool
deriving DecidableEq, Repr

def flitOf (l : List Byte) : Flit :=
  let l := padTo 36 l
  let h := fieldAt l 0 2
  ⟨h % 1024, h / 1024 % 4, h.testBit 12, h.testBit 13, h / 16384, (l.drop 2).take 32, crc16 (l.take 34) == fieldAt l 34 2⟩

/-- The 36 bytes of a flit. -/
def flitBytes (seq vc : Nat) (som eom : Bool) (ft : Nat) (pay : List Byte) : List Byte :=
  let l := leBytes 2 (seq + 1024 * vc + (if som then 4096 else 0) + (if eom then 8192 else 0) + 16384 * ft) ++ padTo 32 pay
  l ++ leBytes 2 (crc16 l)

/-- The flit that fills a slot nothing else can use (R160). -/
def nullFlit : List Byte := flitBytes 0 0 false false 2 []

/-! ### Messages (R162) -/

/-- The data flits of a message. -/
def Msg.flits (m : Msg) : Nat := (8 + m.body.length + 31) / 32

/-- Header and body, padded to whole flits; FLAGS is 0. -/
def Msg.bytes (m : Msg) : List Byte :=
  padTo (32 * m.flits) (leBytes 1 m.typ ++ leBytes 1 0 ++ leBytes 2 m.body.length ++ leBytes 2 m.tag ++ leBytes 1 m.tenant
    ++ leBytes 1 m.count ++ m.body)

/-- The flit of message `m` that goes out when `n` are still to send. -/
def Msg.flit (m : Msg) (n seq : Nat) : List Byte :=
  flitBytes seq m.vc (n == m.flits) (n == 1) 0 ((m.bytes.drop (32 * (m.flits - n))).take 32)

/-! ### The ends -/

/-- A change to the link's own part. -/
def State.silSet (s : State) (f : SilState → SilState) : State := { s with sil := f s.sil }

def State.link (s : State) (ad : Bool) : LinkEnd := if ad then s.sil.ad else s.sil.cd

def State.setLink (s : State) (ad : Bool) (f : LinkEnd → LinkEnd) : State :=
  s.silSet fun l => if ad then { l with ad := f l.ad } else { l with cd := f l.cd }

/-- A flit leaves an end: it takes the next place of the group under way, and is on its way to the other end (R147). -/
def State.onWire (s : State) (ad : Bool) (b : List Byte) : State :=
  (s.setLink ad fun e => { e with pos := (e.pos + 1) % 16 }).silSet fun l =>
    if ad then { l with wireCd := l.wireCd ++ [b] } else { l with wireAd := l.wireAd ++ [b] }

/-- Null flits end the group under way, so that a control row may follow (R147). -/
def State.endGroup (s : State) (ad : Bool) : State :=
  if (s.link ad).pos = 0 then s else s.forN (16 - (s.link ad).pos) fun _ s => s.onWire ad nullFlit

/-- Link states of SIL_STATUS.STATE. -/
def State.linkState (s : State) : Nat := s.getF R.SIL_STATUS_STATE
def State.linkActive (s : State) : Bool := s.linkState == 2 && !s.sil.fast

/-! ### Slots and credits (R159, R160) -/

/-- VC `v` has a flit to send and a credit for it (R159). -/
def LinkEnd.vcReady (e : LinkEnd) (v : Nat) : Bool := (e.txq.any fun q => q.1.vc == v) && decide (0 < e.cred.getD v 0)

/-- The flit slot that time has come to: one lasts 9.281 ns in x8 operation and twice that in x4 (R148). -/
def State.slotNow (s : State) : Nat := s.now * 1000 / (if s.getF R.SIL_STATUS_LANES = 1 then 9281 else 18562)

/-- The end at a slot: the slots before it that it did not use carried null flits, and each window of 16 has guarantees of its own
(R160). -/
def LinkEnd.atSlot (e : LinkEnd) (k : Nat) : LinkEnd :=
  if e.slot / 16 < k / 16 then { e with slot := k, used0 := 0, used1 := 0 } else { e with slot := max e.slot k }

/-- The VC that takes the next slot: VC0 and VC1 within their guarantee, then round-robin (R160). -/
def LinkEnd.nextVc (e : LinkEnd) (share : Nat) : Option Nat :=
  if e.used0 < 2 ∧ e.vcReady 0 then some 0
  else if e.used1 < share ∧ e.vcReady 1 then some 1
  else ((List.range 4).map fun i => (e.rr + i) % 4).find? fun v => e.vcReady v

/-- The end after VC `v` took a slot. -/
def LinkEnd.slotTaken (e : LinkEnd) (share v : Nat) : LinkEnd :=
  let g0 := decide (v = 0 ∧ e.used0 < 2)
  let g1 := decide (v = 1 ∧ e.used1 < share)
  let rr := if g0 ∨ g1 then e.rr else (v + 1) % 4
  if e.slot % 16 = 15 then { e with slot := e.slot + 1, used0 := 0, used1 := 0, rr := rr }
  else { e with slot := e.slot + 1, used0 := if g0 then e.used0 + 1 else e.used0, used1 := if g1 then e.used1 + 1 else e.used1, rr := rr }

/-! ### Data flits (R156, R157, R161, R162) -/

/-- Take one flit off the oldest message of VC `v`: the queue after it, and the message with the flits it still had. -/
def takeFlit (v : Nat) : List (Msg × Nat) → List (Msg × Nat) × Option (Msg × Nat)
  | [] => ([], none)
  | (m, n) :: q =>
    if m.vc = v then (if n ≤ 1 then q else (m, n - 1) :: q, some (m, n))
    else let r := takeFlit v q; ((m, n) :: r.1, r.2)

/-- Send one data flit of VC `v`: it takes a SEQ, a credit, a slot and a place in the replay buffer (R156, R157, R159). -/
def State.sendFlit (s : State) (ad : Bool) (v : Nat) : State :=
  let e := s.link ad
  let r := takeFlit v e.txq
  match r.2 with
  | none => s
  | some (m, n) =>
    let b := m.flit n e.seq
    let s := s.doIf e.replay.isEmpty fun s => s.arm (.replay ad) (2 * usNs)
    let s := s.setLink ad fun e => { (e.slotTaken (s.getF R.SIL_ARB_VC1_SHARE) v) with
      txq := r.1, seq := (e.seq + 1) % 1024, replay := e.replay ++ [(e.seq, b)], cred := e.cred.set v (e.cred.getD v 0 - 1) }
    let s := (s.onWire ad b).silSet fun l => { l with idleAt := s.now }
    if n ≤ 1 ∧ ad = false then s.wrapInc (R.SIL_VCCNT_TXMSG v) else s

/-- The message still waits for its last flit. -/
def LinkEnd.queued (e : LinkEnd) (typ : Nat) : Bool := e.txq.any fun q => q.1.typ == typ

/-- The VC that may send. While an entry into DOZE or SLEEP is under way only PM_ENTER, and PM_ACK from the AD, go out, and what stands
before them on VC0 (R168, R174). After a resume RESUME_ACK is the CD's first flit, and the AD waits for it (R169). -/
def State.sendVc (s : State) (ad : Bool) : Option Nat :=
  let e := (s.link ad).atSlot s.slotNow
  let only0 := if e.vcReady 0 then some 0 else none
  let all := e.nextVc (s.getF R.SIL_ARB_VC1_SHARE)
  if ad then
    if s.sil.awaitAck then none
    else if s.sil.adQuiet then (if e.queued TT.pmAck then only0 else none)
    else all
  else if s.sil.pmTarget ≠ 0 then (if e.queued TT.pmEnter then only0 else none)
  else if e.queued TT.resumeAck then only0
  else all

/-- Send what credits and the replay buffer allow, `fuel` flits at most; nothing new goes out while a replay is due (R175). -/
def State.pump : Nat → Bool → State → State
  | 0, _, s => s
  | n + 1, ad, s =>
    if s.linkActive ∧ (s.link ad).again = none ∧ (s.link ad).replay.length < (s.link ad).cap then
      match s.sendVc ad with
      | some v => State.pump n ad ((s.setLink ad fun e => e.atSlot s.slotNow).sendFlit ad v)
      | none => s
    else s

/-- Send all that can be sent now: the replay buffer holds at most 128 flits. -/
def State.transmit (s : State) (ad : Bool) : State := State.pump 128 ad s

/-! ### Link-control flits (R151, R156) -/

/-- A link-control flit: ACK of the last flit in order, a NAK of the SEQ expected, the totals freed; of KIND 1 the sizes of the receive
buffers, all free after training. -/
def LinkEnd.ctlFlit (e : LinkEnd) (nak : Bool) (kind : Nat) : List Byte :=
  flitBytes 0 0 false false 1 (leBytes 2 (if e.got then 0x8000 + (e.rxExp + 1023) % 1024 else 0)
    ++ leBytes 2 (if nak then 0x8000 + e.rxExp else 0) ++ (if kind = 1 then e.free else e.freed).flatMap (leBytes 2) ++ leBytes 1 kind)

/-- An ACK goes out, with the credits. -/
def State.sendAck (s : State) (ad : Bool) : State :=
  if s.linkActive then
    ((s.onWire ad ((s.link ad).ctlFlit false 0)).setLink ad fun e => { e with rxUnack := 0 }).disarm (.ackTimer ad)
  else s

/-- One NAK per episode (R156). -/
def State.sendNak (s : State) (ad : Bool) : State :=
  if (s.link ad).nakSent ∨ s.linkActive = false then s
  else
    let s := (s.onWire ad ((s.link ad).ctlFlit true 0)).setLink ad fun e => { e with nakSent := true, rxUnack := 0 }
    (s.disarm (.ackTimer ad)).doIf (!ad) fun s => s.satInc R.SIL_ERR_NAK

/-- Flits of a receive buffer are free again: the totals go out with the next link-control flit (R151, R159). -/
def State.freeFlits (s : State) (ad : Bool) (v n : Nat) : State :=
  s.setLink ad fun e => { e with
    free := e.free.set v (e.free.getD v 0 + n), freed := e.freed.set v ((e.freed.getD v 0 + n) % 65536) }

/-! ### Messages on their way -/

/-- Decide to resume the link from DOZE or SLEEP (R169); `wake` when SB_WAKE caused it. From SLEEP, steps 2 to 5 of training run. -/
def State.startResume (s : State) (wake : Bool) : State :=
  if (s.linkState = 3 ∨ s.linkState = 4) ∧ s.sil.resumeAt.isNone then
    s.silSet fun l => { l with resumeAt := some s.now, cause := wake, step := 1, rows := [.sync, .sync, .sync, .sync] }
  else s

/-- Queue a message for the AD; a link in DOZE or SLEEP resumes for it (R168, R169, R174). -/
def State.sendAd (s : State) (m : Msg) : State :=
  ((s.setLink false fun e => { e with txq := e.txq ++ [(m, m.flits)] }).startResume false).transmit false

/-- A message on VC0 without a tenant. -/
def mgmt (typ tag : Nat) (body : List Byte) : Msg := ⟨0, typ, noTenant, 0, tag, body⟩

/-- The AD queues a message for the CD; in DOZE or SLEEP it asserts SB_WAKE for it (R170). -/
def State.adQueue (s : State) (m : Msg) : State :=
  (s.setLink true fun e => { e with txq := e.txq ++ [(m, m.flits)] }).transmit true

end Sys2Proof.Machine
end

