-- ==== Sys2Proof/Machine/TileOps.lean ====
section
/-! DEFINITION. Operations of a tile and of the memories it reaches (R75, R77, R80, R184 to R192, R234, R240 to R245):
lines with their poison and owner checks, tenant-local memory, aborts and faults. -/

namespace Sys2Proof.Machine

/-! ### The AD as a whole -/

def State.adSet (s : State) (f : AdState → AdState) : State := { s with ad := f s.ad }
def State.dspSet (s : State) (f : Dsp → Dsp) : State := s.adSet fun a => { a with dsp := f a.dsp }
def State.tile (s : State) (t : Nat) : TileSt := s.ad.tiles.getD t .init
def State.tileSet (s : State) (t : Nat) (f : TileSt → TileSt) : State :=
  s.adSet fun a => { a with tiles := a.tiles.set t (f (s.tile t)) }

/-- The AD is powered and out of reset. -/
def State.adLive (s : State) : Bool := s.on Dom.adCtl && s.linkState != 0

/-- The dispatcher runs its firmware. -/
def State.dspLive (s : State) : Bool := s.adLive && s.ad.dsp.running

/-- The tile is powered and the AD out of reset. -/
def State.tileLive (s : State) (t : Nat) : Bool := s.adLive && s.on (Dom.tile t)

/-- The AD sends a message; in DOZE or SLEEP it holds it and asserts SB_WAKE (R170). -/
def State.adSend (s : State) (m : Msg) : State :=
  let s := s.adQueue m
  if s.linkState = 3 ∨ s.linkState = 4 then s.dspSet fun d => { d with wake := true } else s

/-- The AD reports an event of its own in an EVENT message (R584); what it claims as source is open. -/
def State.adRaise (s : State) (id cls a0 a1 : Nat) : State :=
  let d := s.draw 8
  d.2.adSend (mgmt TT.event 0 (leBytes 2 id ++ leBytes 1 (cls + 128) ++ leBytes 1 d.1 ++ leBytes 4 0 ++ leBytes 6 0 ++ leBytes 2 1
    ++ leBytes 4 0 ++ leBytes 4 a0 ++ leBytes 4 a1 ++ leBytes 2 0 ++ leBytes 2 0))

/-- The AD has a tenant fault to report (R96). -/
def State.adFault (s : State) (n code arg : Nat) : State :=
  s.dspSet fun d => { d with faults := d.faults ++ [(n, code, arg)] }

/-! ### Tile states -/

def tsIdle : Nat := 0
def tsRun : Nat := 1
def tsSeamwait : Nat := 2
def tsHalted : Nat := 3
def tsAborting : Nat := 4
def tsFaulted : Nat := 5

def State.tstate (s : State) (t : Nat) : Nat := s.getF (R.TL_SEQ_STATE t)
def State.tenantOf (s : State) (t : Nat) : Nat := s.getF (R.TL_SEQ_TENANT t)

/-- Token n of a tile, 1 to 15 (R224). -/
def tokFld (t n : Nat) : Fld := if n < 8 then R.TL_TOKA_T t n else R.TL_TOKB_T t (n - 8)

/-! ### Tile-store lines -/

/-- The bank of a line belongs to the tile's tenant (R91). -/
def State.ownLine (s : State) (t l : Nat) : Bool :=
  let b := l / 512
  s.isSet (R.TL_TAG_TAGGED t (b / 4) (b % 4)) && s.getF (R.TL_TAG_TENANT t (b / 4) (b % 4)) == s.tenantOf t

def State.linePoison (s : State) (t l : Nat) : Bool := s.bitF (R.TL_POISON_W t (l / 32)) (l % 32)
def State.setPoison (s : State) (t l : Nat) (b : Bool) : State := s.setBitF (R.TL_POISON_W t (l / 32)) (l % 32) b

/-- The data of a line, unchecked. -/
def State.rawLine (s : State) (t l : Nat) : Nat := Sparse.get 0 s.ad.store (t * 24576 + l)

/-- A line as 64 bytes; a line from bytes. -/
def lineOf (l : List Byte) : Nat := leNat (l.take 64)

/-- Read a line: its data and poison mark (R186); of a foreign bank poison with unknown data, and a REGION fault
(R91). -/
def State.readLine (s : State) (t l : Nat) : (Nat × Bool) × State :=
  if s.ownLine t l then ((s.rawLine t l, s.linePoison t l), s)
  else let d := s.draw 512; ((d.1, true), d.2.adFault (s.tenantOf t) 1 0)

/-- Read several lines in order. -/
def State.readLines : List Nat → Nat → State → List (Nat × Bool) × State
  | [], _, s => ([], s)
  | l :: ls, t, s =>
    let a := s.readLine t l
    let b := State.readLines ls t a.2
    (a.1 :: b.1, b.2)

/-- What a read of the tile store meets on a line: a single-bit error is corrected; a line with an uncorrectable error becomes poison, as
one with a parity error on its poison bit reads (R185, R186). -/
def State.lineError (s : State) (t l : Nat) : LineErr → State
  | .ce => (s.satInc (R.TL_ECC_CE t)).adRaise 0x2101 3 t l
  | .ue => ((s.satInc (R.TL_ECC_UE t)).setPoison t l true).adRaise 0x2102 1 t l
  | .par => (s.setPoison t l true).adRaise 0x2103 2 t l

/-- The errors met on some of the lines, by their place among them. -/
def State.lineErrors (s : State) (t : Nat) (lines : List Nat) (errs : List (Nat × LineErr)) : State :=
  s.forL errs fun e s => match lines[e.1]? with | some l => s.lineError t l e.2 | none => s

/-- Read lines that may meet errors. -/
def State.readChecked (s : State) (t : Nat) (lines : List Nat) (errs : List (Nat × LineErr)) : List (Nat × Bool) × State :=
  State.readLines lines t (s.lineErrors t lines errs)

/-- Write a whole line with its mark (R186); a write to a foreign bank is not performed and is a REGION fault (R91). -/
def State.writeLine (s : State) (t l v : Nat) (mark : Bool) : State :=
  if s.ownLine t l then
    (s.adSet fun a => { a with store := Sparse.set 0 a.store (t * 24576 + l) (v % 2 ^ 512) }).setPoison t l mark
  else s.adFault (s.tenantOf t) 1 0

/-! ### Registers of the vector unit and the accumulators -/

def State.vreg (s : State) (t v : Nat) : Nat := Sparse.get 0 s.ad.vreg (t * 32 + v)
def State.vmark (s : State) (t v : Nat) : Nat := Sparse.get 0 s.ad.vmark (t * 32 + v)
def State.setVreg (s : State) (t v x m : Nat) : State :=
  s.adSet fun a => { a with vreg := Sparse.set 0 a.vreg (t * 32 + v) (x % 2 ^ 2048), vmark := Sparse.set 0 a.vmark (t * 32 + v) (m % 2 ^ 256) }

/-- Output columns N, accumulator banks and depth K of a format code (R180, R225). -/
def fmtCols (fmt : Nat) : Nat := if fmt = 0 then 64 else if fmt = 1 then 128 else 32
def fmtBanks (fmt : Nat) : Nat := if fmt = 0 then 4 else if fmt = 1 then 2 else 8
def fmtDepth (fmt : Nat) : Nat := if fmt < 6 then 64 else 32

/-- The key of an accumulator entry. -/
def accKey (t fmt bank row c : Nat) : Nat := t * 16384 + (bank * 64 + row) * fmtCols fmt + c

def State.accAt (s : State) (t fmt bank row c : Nat) : Nat := Sparse.get 0 s.ad.acc (accKey t fmt bank row c)
def State.accMark (s : State) (t fmt bank row c : Nat) : Bool := Sparse.get 0 s.ad.accM (accKey t fmt bank row c) != 0
def State.setAcc (s : State) (t fmt bank row c v : Nat) (m : Bool) : State :=
  let k := accKey t fmt bank row c
  s.adSet fun a => { a with
    acc := Sparse.set 0 a.acc k (v % 2 ^ 40)
    accM := if m then Sparse.set 0 a.accM k 1 else Sparse.erase a.accM k }

/-- A bank's entries to 0 and unmarked (ACLR, CLR). -/
def State.clearBank (s : State) (t fmt bank : Nat) : State :=
  let n := 64 * fmtCols fmt
  s.adSet fun a => { a with acc := Sparse.clear a.acc (accKey t fmt bank 0 0) n, accM := Sparse.clear a.accM (accKey t fmt bank 0 0) n }

/-- Mark a bank as a whole (R241). -/
def State.markBank (s : State) (t fmt bank : Nat) : State :=
  s.forN (64 * fmtCols fmt) fun i s => s.adSet fun a => { a with accM := Sparse.set 0 a.accM (accKey t fmt bank 0 0 + i) 1 }

/-! ### Tenant-local memory (R75, R77, R78, R80) -/

/-- A region entry as the plan data gives it (R258) and MC_RGN holds it: owner, ECC, access; base and size in MiB. Size 0
is an unused entry. -/
structure Region where
  idx   : Nat
  owner : Nat
  ecc   : Bool
  ro    : Bool
  base  : Nat
  size  : Nat
deriving DecidableEq, Repr

/-- The two words of a region entry: u8 index, u8 owner, u8 ECC, u8 access; u16 base, u16 size (R258). -/
def State.region (s : State) (i : Nat) : Region :=
  let a := s.getF (R.MC_RGN_W (2 * i))
  let b := s.getF (R.MC_RGN_W (2 * i + 1))
  ⟨i, a / 256 % 256, decide (a / 65536 % 256 ≠ 0), decide (a / 2 ^ 24 = 1), b % 65536, b / 65536⟩

/-- The regions of a tenant, in ascending index. -/
def State.regionsOf (s : State) (n : Nat) : List Region :=
  ((List.range 64).map s.region).filter fun r => decide (r.size ≠ 0) && r.owner == n

def mib : Nat := 1048576

/-- Fitted memory: two channels of MC_CFG.DENSITY GiB (R208, R219). -/
def State.fittedBytes (s : State) : Nat := s.getF R.MC_CFG_DENSITY * 2 ^ 31

/-- A tenant's total size in bytes. -/
def State.spaceOf (s : State) (n : Nat) : Nat := (s.regionsOf n).foldl (fun a r => a + r.size * mib) 0

/-- Where a tenant-local offset lies: the region and the physical address (R75). -/
def placeIn : List Region → Nat → Option (Region × Nat)
  | [], _ => none
  | r :: rs, x => if x < r.size * mib then some (r, r.base * mib + x) else placeIn rs (x - r.size * mib)

/-- Physical address `p` lies in the canary cell of a region in use (R80). -/
def Region.canary (r : Region) (p : Nat) : Bool :=
  let e := (r.base + r.size) * mib
  decide (e - 64 ≤ p ∧ p < e)

/-- Physical address of one byte of a tenant's space for an access, or none where the access is refused (R77, R80). -/
def State.place (s : State) (n x : Nat) (write : Bool) : Option Nat :=
  match placeIn (s.regionsOf n) x with
  | none => none
  | some (r, p) => if r.canary p ∨ (write ∧ r.ro) then none else some p

/-- Every byte of the range may be accessed. -/
def State.mayAccess (s : State) (n x len : Nat) (write : Bool) : Bool :=
  (List.range len).all fun i => (s.place n (x + i) write).isSome

/-- Bytes of a tenant's space; an unplaced byte reads as 0 (only used where `mayAccess` holds). -/
def State.tenRead (s : State) (n x len : Nat) : List Byte :=
  (List.range len).map fun i => match s.place n (x + i) false with
    | some p => Sparse.get 0 s.dram p
    | none => 0

/-- Write bytes into a tenant's space, byte by byte where placed. -/
def State.tenWrite (s : State) (n x : Nat) (l : List Byte) : State :=
  { s with dram := (l.foldl (fun (a : Sparse Byte × Nat) b =>
      ((match s.place n (x + a.2) true with | some p => Sparse.set 0 a.1 p b | none => a.1), a.2 + 1)) (s.dram, 0)).1 }

/-- The dispatcher's own write into a tenant's space (R84): what lies in a read-only region or a canary cell is not written, and is
the tenant's fault REGION (R77, R80). -/
def State.tenStore (s : State) (n x : Nat) (l : List Byte) : State :=
  (s.tenWrite n x l).doIf (!s.mayAccess n x l.length true) fun s => s.adFault n 1 0

/-- The shelf units of a tenant, ascending (R192). -/
def State.unitsOf (s : State) (n : Nat) : List Nat :=
  (List.range 256).filter fun u => s.isSet (R.SHF_TAG_TAGGED (u / 4) (u % 4)) && s.getF (R.SHF_TAG_TENANT (u / 4) (u % 4)) == n

/-- The shelf byte address of an offset in a tenant's allotment. -/
def State.shelfPlace (s : State) (n x : Nat) : Option Nat := ((s.unitsOf n)[x / 65536]?).map fun u => u * 65536 + x % 65536

/-- The shelf byte of a tenant-local address with bit 47 set. -/
def State.shelfAt (s : State) (n a : Nat) : Option Nat := s.shelfPlace n (a % 2 ^ 47)

/-- Bytes of a tenant's shelf. -/
def State.shelfBytes (s : State) (n a len : Nat) : List Byte :=
  (List.range len).map fun i => match s.shelfAt n (a + i) with | some p => Sparse.get 0 s.shelf p | none => 0

/-- A line of the range carries the poison mark (R186, R192). -/
def State.shelfPoisoned (s : State) (n a len : Nat) : Bool :=
  (List.range len).any fun i => match s.shelfAt n (a + i) with | some p => Sparse.get 0 s.ad.shfPoison (p / 64) != 0 | none => false

/-- Write bytes of a tenant's shelf; those outside its allotment are not written and are its fault REGION (R192). -/
def State.shelfPut (s : State) (n a : Nat) (l : List Byte) : State :=
  let r := { s with shelf := (l.foldl (fun (x : Sparse Byte × Nat) b =>
    ((match s.shelfAt n (a + x.2) with | some p => Sparse.set 0 x.1 p b | none => x.1), x.2 + 1)) (s.shelf, 0)).1 }
  r.doIf ((List.range l.length).any fun i => (s.shelfAt n (a + i)).isNone) fun s => s.adFault n 1 0

/-- Mark the shelf line of an address as poison. -/
def State.markShelf (s : State) (n a : Nat) : State :=
  match s.shelfAt n a with
  | some p => s.adSet fun x => { x with shfPoison := Sparse.set 0 x.shfPoison (p / 64) 1 }
  | none => s

/-- The marks of the lines a write covers: set by marked data, cleared by unmarked data that cover a whole line (R186, R192). -/
def State.shelfMark (s : State) (n a len : Nat) (mark : Bool) : State :=
  if mark then (s.markShelf n a).markShelf n (a + len - 1)
  else match s.shelfAt n a with
    | some p => if p % 64 = 0 ∧ len = 64 then s.adSet fun x => { x with shfPoison := Sparse.erase x.shfPoison (p / 64) } else s
    | none => s

/-- Read 64 aligned bytes at a tenant-local address, bit 47 selecting the shelf: the line, whether it is poison (R77,
R186, R192), the state with a REGION fault where the access is refused. -/
def State.readMem64 (s : State) (n a : Nat) : (Nat × Bool) × State :=
  if a.testBit 47 then
    match s.shelfPlace n (a % 2 ^ 47) with
    | some p => ((lineOf (Sparse.getList 0 s.shelf p 64), Sparse.get 0 s.ad.shfPoison (p / 64) != 0), s)
    | none => let d := s.draw 512; ((d.1, true), d.2.adFault n 1 0)
  else if s.mayAccess n a 64 false then ((lineOf (s.tenRead n a 64), false), s)
  else let d := s.draw 512; ((d.1, true), d.2.adFault n 1 0)

/-- Write 64 aligned bytes. -/
def State.writeMem64 (s : State) (n a v : Nat) (mark : Bool) : State :=
  if a.testBit 47 then
    match s.shelfPlace n (a % 2 ^ 47) with
    | some p =>
      { s with shelf := Sparse.setList 0 s.shelf p (leBytes 64 v) }.adSet fun x => { x with shfPoison := if mark then Sparse.set 0 x.shfPoison (p / 64) 1 else Sparse.erase x.shfPoison (p / 64) }
    | none => s.adFault n 1 0
  else if s.mayAccess n a 64 true then s.tenWrite n a (leBytes 64 v)
  else s.adFault n 1 0

/-! ### Errors on the way, and whole ranges (R79, R186, R191, R192) -/

/-- A DRAM error met in a region with ECC (R79): a single-bit error is corrected and written back, a double-bit error is
the owner's fault MEM_UE. Whether the data are lost. -/
def State.eccError (s : State) (r : Option Region) (err : Nat) : Bool × State :=
  match r with
  | some r =>
    if r.ecc ∧ err = 1 then (false, s.raise Ev.TEN_MEM_CE r.owner r.idx)
    else if r.ecc ∧ err = 2 then (true, s.adFault r.owner 2 r.idx)
    else (false, s)
  | none => (false, s)

/-- A parity error on the NoC is counted and reported (R191). -/
def State.nocError (s : State) (t : Nat) : State := (s.satInc R.NOC_PAR_COUNT).adRaise 0x2201 2 t 0

/-- What 64 bytes at a tenant-local address meet on their way, and whether they arrive as poison (R79, R191, R192). -/
def State.meetError (s : State) (n a : Nat) : MemErr → Bool × State
  | .dramCe => if a.testBit 47 then (false, s) else s.eccError ((placeIn (s.regionsOf n) a).map (·.1)) 1
  | .dramUe => if a.testBit 47 then (false, s) else s.eccError ((placeIn (s.regionsOf n) a).map (·.1)) 2
  | .shelfCe => if a.testBit 47 then (false, (s.satInc R.SHF_ECC_CE).adRaise 0x2301 3 0 0) else (false, s)
  | .shelfUe => if a.testBit 47 then (true, ((s.markShelf n a).satInc R.SHF_ECC_UE).adRaise 0x2302 1 0 0) else (false, s)
  | .shelfPar => (a.testBit 47, s)
  | .noc => (true, s.nocError 0)

/-- Read `len` bytes, in pieces of 64 from `a`: the bytes, the pieces that arrive as poison, and the state with what it meets (R77, R79,
R186, R192). `errs` names the errors met, by piece. The bytes of a piece that is refused or lost are open. -/
def State.fetch (s : State) (n a len : Nat) (errs : List (Nat × MemErr)) : List (List Byte × Bool) × State :=
  (List.range ((len + 63) / 64)).foldl (fun r i =>
    let s := r.2
    let x := a + 64 * i
    let k := min 64 (len - 64 * i)
    let shelf := x.testBit 47
    let ok := if shelf then (s.shelfPlace n (x % 2 ^ 47)).isSome && (s.shelfPlace n ((x + k - 1) % 2 ^ 47)).isSome
      else s.mayAccess n x k false
    let s := if ok then s else s.adFault n 1 0
    let e := match errs.find? fun e => e.1 == i with | some e => s.meetError n x e.2 | none => (false, s)
    let d := e.2.draw 512
    if ok = false ∨ (e.1 ∧ shelf = false) then (r.1 ++ [(leBytes k d.1, true)], d.2)
    else if shelf then (r.1 ++ [(e.2.shelfBytes n x k, e.1 || e.2.shelfPoisoned n x k)], e.2)
    else (r.1 ++ [(e.2.tenRead n x k, false)], e.2)) ([], s)

/-- Write pieces of 64 bytes from `a`, marks and all: the shelf keeps them, DRAM has none (R186, R192). -/
def State.store (s : State) (n a : Nat) (l : List (List Byte × Bool)) : State :=
  (l.foldl (fun (r : State × Nat) p =>
    (if r.2.testBit 47 then (r.1.shelfPut n r.2 p.1).shelfMark n r.2 p.1.length p.2 else r.1.tenStore n r.2 p.1, r.2 + 64)) (s, a)).1

/-! ### Bandwidth buckets (R85, R109) -/

/-- Bring a tenant's bucket up to the present: filled at RATE × 16 MB/s, at most BURST_KIB × 1,024 tokens. -/
def State.refill (s : State) (n : Nat) : State :=
  match s.ad.dsp.plan.find? fun p => p.n == n with
  | none => s
  | some p =>
    let b := s.ad.dsp.tokens.getD n (0, 0)
    let v := min (b.1 + Int.ofNat ((s.now - b.2) * p.rate * 16)) (Int.ofNat (p.burst * 1024 * 1000))
    s.dspSet fun d => { d with tokens := d.tokens.set n (v, s.now) }

/-- A bucket filled to its burst. -/
def State.fillBucket (s : State) (n : Nat) : State :=
  match s.ad.dsp.plan.find? fun p => p.n == n with
  | none => s
  | some p => s.dspSet fun d => { d with tokens := d.tokens.set n (Int.ofNat (p.burst * 1024 * 1000), s.now) }

def State.tokensOf (s : State) (n : Nat) : Int := (s.ad.dsp.tokens.getD n (0, 0)).1 / 1000

/-- A request of the tenant need not wait: its bucket, refilled first, holds 64 tokens (R85, R109). -/
def State.mayMove (s : State) (n : Nat) : Bool :=
  match s.ad.dsp.plan.find? fun p => p.n == n with
  | none => true
  | some _ => decide (64 ≤ (s.refill n).tokensOf n)

/-- Take 64 tokens for each 64-byte transfer (R85). Transfers that the model makes at once can take the bucket below 0, and the requests
after them wait until it is made up (log entry 56). -/
def State.charge (s : State) (n transfers : Nat) : State :=
  let s := s.refill n
  let b := s.ad.dsp.tokens.getD n (0, 0)
  s.dspSet fun d => { d with tokens := d.tokens.set n (b.1 - Int.ofNat (transfers * 64000), b.2) }

/-! ### Programs -/

/-- Bundle `i` of bank `b`. -/
def State.bundle (s : State) (t b i : Nat) : Nat := Sparse.get 0 s.ad.prog (t * 8192 + b * 4096 + i)

/-- A program starts on the tile (R240); its entry counts as a reached seam (R235). -/
def State.progStart (s : State) (t bank tenant : Nat) : State :=
  let old := s.tenantOf t
  let k := s.tile t
  let fresh : TileSt := { TileSt.init with posted := k.posted, tenths := k.tenths }
  let keep : TileSt := { k with
    disp := false, seam := false, halting := false, q := [[], [], []], cur := [none, none, none], loops := [],
    shifts := List.replicate 8 [], rx := List.replicate 8 [], abort := none, sig := none, sigo := none, req := none }
  let s := s.tileSet t fun _ => if tenant = old then keep else fresh
  let s := if tenant = old then s else s.adSet fun a => { a with
    vreg := Sparse.clear a.vreg (t * 32) 32, vmark := Sparse.clear a.vmark (t * 32) 32
    acc := Sparse.clear a.acc (t * 16384) 16384, accM := Sparse.clear a.accM (t * 16384) 16384 }
  let s := s.forN 16 fun n s => if n = 0 then s else s.setF (tokFld t n) 0
  let s := s.setFs [(R.TL_SEQ_BANK t, bank), (R.TL_SEQ_PC t, s.getF (R.TL_PBANK_ENTRY t bank)), (R.TL_SEQ_STATE t, tsRun),
    (R.TL_SEQ_LOOPS t, 0), (R.TL_SEQ_TENANT t, tenant)]
  ((s.wrapInc (R.TL_SEAMS_COUNT t)).disarm (.swapLimit t)).disarm (.stopLimit t)

/-! ### Shifts -/

/-- Cancel a line range of an incoming shift: the lines not completely written become poison (R241 step 5). -/
def Shift.lost (h : Shift) : List Nat :=
  if h.kind = 0 ∨ h.kind = 3 then (List.range (h.lines - h.done)).map fun i => h.line + h.done + i else []

def State.poisonLost (s : State) (t : Nat) (h : Shift) : State := s.forL h.lost fun l s => s.setPoison t l true

def setShifts (k : TileSt) (q : Nat) (l : List Shift) : TileSt := { k with shifts := k.shifts.set q l }
def TileSt.shiftsOf (k : TileSt) (q : Nat) : List Shift := k.shifts.getD q []

/-- Signal a token; a count above 15 is for the caller to judge. -/
def State.addToken (s : State) (t n : Nat) : State := if n = 0 then s else s.setF (tokFld t n) (s.getF (tokFld t n) + 1)

/-- A withdrawal of a shift that the tile does not hold is counted as stray (R243). -/
def State.stray (s : State) (t : Nat) : State := s.setF (R.TL_ABORT_STRAY t) (min (s.getF (R.TL_ABORT_STRAY t) + 1) 31)

/-- The shift's kind, peer and queue are those given. -/
def Shift.pairs (h : Shift) (kind t q : Nat) : Bool := h.kind == kind && h.peer == t && h.peerQ == q

/-- Tile `t` receives "shift withdrawn" for an MSEND (kind 2) or MRECV of queue `pq` of tile `pt`: it ends the first shift of its
queue `q` that pairs with it, and its buffer is free (R243). A withdrawal of a shift that its own abort has cancelled is discarded
(R250). -/
def State.withdrawn (s : State) (t q pt pq kind : Nat) : State :=
  let k := s.tile t
  match (k.shiftsOf q).find? fun h => h.pairs (5 - kind) pt pq with
  | some h =>
    let s := (s.poisonLost t h).tileSet t fun k => { setShifts k q ((k.shiftsOf q).erase h) with
      rx := if h.kind = 3 then k.rx.set q [] else k.rx }
    let s := if s.getF (tokFld t h.st) < 15 then s.addToken t h.st else s
    ((s.setF (R.TL_ABORT_WITHDRAWN t) 1).flag (R.TL_INT_WITHDRAWN t)).adRaise 0x2604 3 t 0
  | none => if s.tstate t = tsAborting ∧ (s.getF (R.TL_ABORT_QMASK t)).testBit q then s else s.stray t

/-! ### Aborts and faults -/

/-- Operation code of a slot: the MAC slot has 32 bits, the others 36 (R222). -/
def slotOp (e w : Nat) : Nat := if e = 0 then w / 2 ^ 26 % 64 else w / 2 ^ 30 % 64
def slotWt (e w : Nat) : Nat := if e = 0 then w / 2 ^ 22 % 16 else w / 2 ^ 26 % 16
def slotSt (e w : Nat) : Nat := if e = 0 then w / 2 ^ 18 % 16 else w / 2 ^ 22 % 16

/-- Bits [hi:lo] of a word. -/
def bitsOf (w hi lo : Nat) : Nat := w / 2 ^ lo % 2 ^ (hi - lo + 1)

/-- Open lines. -/
def State.openLines : Nat → State → List Nat × State
  | 0, s => ([], s)
  | n + 1, s => let d := s.draw 512; let r := State.openLines n d.2; (d.1 :: r.1, r.2)

/-- What a cancelled MAC operation leaves: it writes nothing more, and how far it had come is open; the bank of an MMA is marked as a
whole (R241, log entry 116). -/
def State.cancelMac (s : State) (t w : Nat) : State :=
  let k := s.tile t
  let bank := bitsOf w 14 12
  match slotOp 0 w with
  | 3 =>
    let r := State.openLines k.wSh.length s
    let m := r.2.draw 1
    m.2.tileSet t fun k => { k with wSh := r.1, wShM := m.1 == 1 }
  | 5 =>
    let s := s.forN (bitsOf w 5 0 + 1) fun j s => s.forN (fmtCols k.fmt) fun c s =>
      let d := s.draw 40
      d.2.setAcc t k.fmt bank (8 * bitsOf w 8 6 + j) c d.1 true
    s.markBank t k.fmt bank
  | 8 => s.forN 64 fun r s => s.forN (fmtCols k.fmt) fun c s =>
    let d := s.draw 41
    d.2.setAcc t k.fmt bank r c (d.1 % 2 ^ 40) (d.1.testBit 40)
  | _ => s

/-- What a cancelled vector operation leaves: its destination is open (R241, log entry 116). -/
def State.cancelVec (s : State) (t w : Nat) : State :=
  let k := s.tile t
  let vd := bitsOf w 21 17
  let d := s.draw 2048
  let m := d.2.draw 256
  match slotOp 1 w with
  | 0 => s
  | 10 =>
    let a := k.va.getD (bitsOf w 16 14) 0 - bitsOf w 13 13
    s.forN 4 fun q s => let d := s.draw 513; d.2.writeLine t (a + 512 * q) (d.1 % 2 ^ 512) (d.1.testBit 512)
  | 12 =>
    let p := bitsOf w 5 4
    let old := s.vreg t vd
    let oldM := s.vmark t vd
    m.2.setVreg t vd (old - old / 2 ^ (512 * p) % 2 ^ 512 * 2 ^ (512 * p) + d.1 % 2 ^ 512 * 2 ^ (512 * p))
      (oldM - oldM / 2 ^ (64 * p) % 2 ^ 64 * 2 ^ (64 * p) + m.1 % 2 ^ 64 * 2 ^ (64 * p))
  | 14 =>
    let h := bitsOf w 13 13
    let r := State.openLines 64 s
    let m := r.2.draw 1
    let es := r.1.map fun x => x % 2 ^ 64
    m.2.tileSet t fun k => { k with
      params := if h = 0 then es ++ k.params.drop 64 else k.params.take 64 ++ es
      paramM := k.paramM.set h (m.1 == 1) }
  | 16 => s
  | _ => m.2.setVreg t vd d.1 m.1

/-- One tile cycle at F_top's clock, in tenths of a nanosecond (R195). -/
def State.tileCycle (s : State) : Nat :=
  match s.getF R.ACG_FTOP_POINT with
  | 0 => 25
  | 1 => 17
  | 2 => 13
  | _ => 10

/-- The abort of R241 up to its step 5: operations and shifts are cancelled, the destination lines of cancelled incoming shifts become poison,
the far sides are to receive "shift withdrawn". `cause` is 1 SWAP limit, 2 STOP limit, 3 fault; `after` what follows: 0 IDLE, 1 the program
named, 2 FAULTED. The tile is ABORTING until step 6. -/
def State.abortTile (s : State) (t cause after bank tenant : Nat) : State :=
  let k := s.tile t
  let s := match k.cur.getD 0 none with | some o => s.cancelMac t o.word | none => s
  let s := match k.cur.getD 1 none with | some o => s.cancelVec t o.word | none => s
  let mask := (List.range 8).foldl (fun m q => if (k.shiftsOf q).isEmpty then m else m + 2 ^ q) 0
  let all := (List.range 8).flatMap fun q => k.shiftsOf q
  let n := (all.map fun h => h.lost.length).foldl (· + ·) 0
  let s := s.forL all fun h s => s.poisonLost t h
  let s := s.tileSet t fun k => { k with
    q := [[], [], []], cur := [none, none, none], shifts := List.replicate 8 [], rx := List.replicate 8 [], disp := false, seam := false,
    halting := false, sig := none, req := none,
    abort := some ⟨cause, after, bank, tenant, s.now + (5 + (n + 31) / 32) * s.tileCycle / 10,
      (List.range 8).flatMap fun q => ((k.shiftsOf q).filter fun h => decide (2 ≤ h.kind)).map fun h => (q, h.peer, h.peerQ, h.kind)⟩ }
  let s := s.setFs [(R.TL_SEQ_STATE t, tsAborting), (R.TL_ABORT_QMASK t, mask), (R.TL_ABORT_POISONED t, n)]
  (s.disarm (.swapLimit t)).disarm (.stopLimit t)

/-- Step 4 of the abort, at the end of its cycle: the far sides receive "shift withdrawn"; a tile that has cancelled its shift in the same
cycle does not act on it (R250). -/
def State.sendWithdrawals (s : State) (t : Nat) : State :=
  match (s.tile t).abort with
  | none => s
  | some a => (s.tileSet t fun k => { k with abort := some { a with far := [] } }).forL a.far fun f s => s.withdrawn f.2.1 f.2.2.1 t f.1 f.2.2.2

/-- The bundle that a fault in field `field` belongs to: the one being fetched, or that of the engine's operation (R244, R253). -/
def State.faultPc (s : State) (t field : Nat) : Nat :=
  match (s.tile t).cur.getD (field - 1) none with
  | some o => if field = 0 then s.getF (R.TL_SEQ_PC t) else o.pc
  | none => s.getF (R.TL_SEQ_PC t)

/-- Record a tile fault and report it as tenant fault TILE (R244); the first fault stands until START. -/
def State.recordFault (s : State) (t code pc field : Nat) (more : Bool) : State :=
  let s := if s.isSet (R.TL_FAULT_VALID t) then s else s.setFs
    [(R.TL_FAULT_CODE t, code), (R.TL_FAULT_PC t, pc), (R.TL_FAULT_FIELD t, field),
     (R.TL_FAULT_MORE t, if more then 1 else 0), (R.TL_FAULT_VALID t, 1)]
  ((s.flag (R.TL_INT_FAULT t)).adFault (s.tenantOf t) 3 code).adRaise 0x2602 1 t code

/-- A tile fault of the bundle `pc`: recorded, the tile aborts and then stays FAULTED (R241, R244). -/
def State.tileFaultAt (s : State) (t code pc field : Nat) (more : Bool := false) : State :=
  (s.recordFault t code pc field more).abortTile t 3 2 0 0

/-- A tile fault of an engine's operation, which then writes nothing, or of the bundle being fetched. -/
def State.tileFault (s : State) (t code field : Nat) (more : Bool := false) : State :=
  let pc := s.faultPc t field
  let s := if field = 0 then s else s.tileSet t fun k => { k with cur := k.cur.set (field - 1) none }
  s.tileFaultAt t code pc field more

def tfIllegal : Nat := 1
def tfOperand : Nat := 2
def tfAddr : Nat := 3
def tfLoop : Nat := 4
def tfPc : Nat := 5
def tfToken : Nat := 6
def tfDeadlock : Nat := 7
def tfPeer : Nat := 8
def tfShiftAbort : Nat := 9
def tfSeamLate : Nat := 10
def tfCreditStall : Nat := 11

/-- Signal a token (R224); a count above 15 is TILE_TOKEN, in field `e + 1`, of the bundle `pc`. -/
def State.signal (s : State) (t n pc field : Nat) : State :=
  if n = 0 then s
  else if s.getF (tokFld t n) = 15 then s.tileFaultAt t tfToken pc field
  else s.addToken t n

end Sys2Proof.Machine
end

