-- ==== Sys2Proof/Machine/TileSeq.lean ====
section
/-! DEFINITION. The tile's sequencer (R221 to R224, R230, R235, R236), tokens and completions, program banks and changes
(R238 to R251). -/

namespace Sys2Proof.Machine

/-! ### Bundles -/

def macOf (b : Nat) : Nat := b / 2 ^ 72 % 2 ^ 32
def vecOf (b : Nat) : Nat := b / 2 ^ 36 % 2 ^ 36
def movOf (b : Nat) : Nat := b % 2 ^ 36

def seqSeam (b : Nat) : Bool := b.testBit 127
def seqSop (b : Nat) : Nat := bitsOf b 126 124
def seqCtok (b : Nat) : Nat := bitsOf b 123 120
def seqImm (b : Nat) : Nat := bitsOf b 115 104

/-- The slot of engine `e`. -/
def slotOf (b e : Nat) : Nat := if e = 0 then macOf b else if e = 1 then vecOf b else movOf b

/-- A MAC slot uses a listed operation and leaves reserved fields 0 (R225). -/
def macLegal (w : Nat) : Bool :=
  let x := w % 2 ^ 18
  match slotOp 0 w with
  | 0 => x == 0
  | 1 => true
  | 2 => bitsOf x 13 0 == 0
  | 3 => bitsOf x 14 0 == 0
  | 4 => x == 0
  | 5 => true
  | 6 => bitsOf x 17 16 == 0
  | 7 => x == 0
  | 8 => bitsOf x 17 15 == 0 && bitsOf x 11 0 == 0
  | _ => false

/-- The conversions of R200 between the types a slot can name (R227). -/
def cvtPair (ty td : Nat) : Bool :=
  (ty == 0 && (td == 1 || td == 2 || td == 5)) || ((ty == 1 || ty == 2 || ty == 5) && td == 0)

/-- A VEC slot uses a listed operation, a type it accepts, and leaves reserved fields 0 (R227). -/
def vecLegal (w : Nat) : Bool :=
  let x := w % 2 ^ 22
  let ty := bitsOf x 6 4
  let sub := bitsOf x 2 0
  match slotOp 1 w with
  | 0 => x == 0
  | 1 => decide (ty ≤ 5) && (decide (sub ≤ 4) || decide (3 ≤ ty))
  | 2 => decide (ty ≤ 5) && sub == 0
  | 3 => decide (ty ≤ 5) && decide (sub ≤ 2)
  | 4 => decide (3 ≤ ty ∧ ty ≤ 5) && decide (sub ≤ 2)
  | 5 => ty == 0 && decide (sub ≤ 3)
  | 6 => bitsOf x 11 10 == 0 && cvtPair ty (bitsOf x 9 7)
  | 7 => decide (ty ≤ 5) && sub == 0
  | 8 => (ty == 0 || ty == 3) && decide (sub ≤ 2)
  | 9 => bitsOf x 12 0 == 0
  | 10 => bitsOf x 12 0 == 0
  | 11 => bitsOf x 6 0 == 0
  | 12 => bitsOf x 3 0 == 0
  | 13 => bitsOf x 5 0 == 0
  | 14 => bitsOf x 21 17 == 0 && bitsOf x 12 0 == 0
  | 15 => true
  | 16 => bitsOf x 18 15 == 0
  | 17 => bitsOf x 13 0 == 0
  | _ => false

/-- A MOV slot uses a listed operation and leaves reserved fields 0 (R229). -/
def movLegal (w : Nat) : Bool :=
  let x := w % 2 ^ 22
  match slotOp 2 w with
  | 0 => x == 0
  | 1 => bitsOf x 16 16 == 0
  | 2 => bitsOf x 12 0 == 0
  | 3 => bitsOf x 12 0 == 0
  | 4 => bitsOf x 12 0 == 0
  | 5 => bitsOf x 12 0 == 0
  | 6 => bitsOf x 17 0 == 0
  | _ => false

/-- The fault of the sequencer field, 0 if none (R222, R223). -/
def seqFault (b len depth : Nat) : Nat :=
  let imm := seqImm b
  if bitsOf b 119 116 ≠ 0 then tfIllegal
  else match seqSop b with
    | 0 => if imm = 0 then 0 else tfIllegal
    | 1 => if imm = 0 ∨ 4 ≤ depth then tfLoop else 0
    | 2 => if imm ≠ 0 then tfIllegal else if depth = 0 then tfLoop else 0
    | 3 => if len ≤ imm then tfPc else 0
    | 4 => if imm = 0 then 0 else tfIllegal
    | 5 => if imm = 0 then 0 else tfIllegal
    | _ => tfIllegal

/-- The faults a bundle shows at dispatch: code and field, SEQ first (R248). -/
def bundleFaults (b len depth : Nat) : List (Nat × Nat) :=
  (if seqFault b len depth = 0 then [] else [(seqFault b len depth, 0)])
    ++ (if macLegal (macOf b) then [] else [(tfIllegal, 1)])
    ++ (if vecLegal (vecOf b) then [] else [(tfIllegal, 2)])
    ++ (if movLegal (movOf b) then [] else [(tfIllegal, 3)])

/-! ### Dispatch -/

/-- Every issue queue is empty and every engine has retired. -/
def TileSt.retired (k : TileSt) : Bool := k.q.all List.isEmpty && k.cur.all Option.isNone

/-- No shift is outstanding. -/
def TileSt.noShift (k : TileSt) : Bool := k.shifts.all List.isEmpty

/-- The tile is drained (R235). -/
def TileSt.drained (k : TileSt) : Bool := k.retired && k.noShift

/-- The slot is queued: it names an operation, or a NOP with a token (R224). -/
def slotQueued (e w : Nat) : Bool := slotOp e w != 0 || slotWt e w != 0 || slotSt e w != 0

/-- A queue that the bundle needs is full (R230). -/
def TileSt.full (k : TileSt) (b : Nat) : Bool :=
  (List.range 3).any fun e => slotQueued e (slotOf b e) && decide (16 ≤ (k.q.getD e []).length)

/-- Queue the slots of the bundle at `pc`. -/
def TileSt.enqueue (k : TileSt) (b pc : Nat) : TileSt :=
  { k with
    q := (List.range 3).map fun e => if slotQueued e (slotOf b e) then k.q.getD e [] ++ [⟨slotOf b e, pc⟩] else k.q.getD e []
    disp := true }

/-- A token's count is taken down by a wait; token 0 is none. -/
def State.takeToken (s : State) (t n : Nat) : State := if n = 0 then s else s.setF (tokFld t n) (s.getF (tokFld t n) - 1)
def State.tokenOk (s : State) (t n : Nat) : Bool := n == 0 || s.isSet (tokFld t n)

/-- The bundle at PC. -/
def State.atPc (s : State) (t : Nat) : Nat := s.bundle t (s.getF (R.TL_SEQ_BANK t)) (s.getF (R.TL_SEQ_PC t))
def State.progLen (s : State) (t : Nat) : Nat := s.getF (R.TL_PBANK_LEN t (s.getF (R.TL_SEQ_BANK t)))

/-- Dispatch the fetched bundle whole, if it can be dispatched now (R223, R230, R235): at a seam the tile drains
first; faults are judged; the CTOK wait, a SYNC and a full queue hold it back. -/
def State.dispatch (s : State) (t : Nat) : State :=
  let k := s.tile t
  if s.tileLive t = false ∨ s.tstate t ≠ tsRun ∨ k.disp ∨ k.halting then s
  else if s.progLen t ≤ s.getF (R.TL_SEQ_PC t) then s.tileFault t tfPc 0
  else
    let b := s.atPc t
    if seqSeam b ∧ k.seam = false then s.setF (R.TL_SEQ_STATE t) tsSeamwait
    else match bundleFaults b (s.progLen t) k.loops.length with
      | (code, field) :: more => s.tileFault t code field (!more.isEmpty)
      | [] =>
        if s.tokenOk t (seqCtok b) = false ∨ (seqSop b = 5 ∧ k.retired = false) ∨ k.full b then s
        else (s.takeToken t (seqCtok b)).tileSet t fun k => k.enqueue b (s.getF (R.TL_SEQ_PC t))

/-- BUNDLE_DISPATCH (R230). -/
def execBundleDispatch (tile : Fin 16) (s : State) : Out := .next (s.dispatch tile.val)

/-- The sequencer goes on at index `p`; at or beyond LEN it is TILE_PC (R223). -/
def State.goTo (s : State) (t p : Nat) : State :=
  let s := (s.tileSet t fun k => { k with disp := false, seam := false }).setF (R.TL_SEQ_PC t) p
  if s.progLen t ≤ p then s.tileFault t tfPc 0 else s

/-- A sequencer operation: the bundle that carries it is dispatched, if that has not happened yet, and the operation
takes its effect after it (R223). -/
def State.seqOp (s : State) (t sop : Nat) (f : Nat → State → State) : State :=
  if seqSop (s.atPc t) ≠ sop then s
  else
    let s := s.dispatch t
    if s.tileLive t ∧ s.tstate t = tsRun ∧ (s.tile t).disp ∧ (s.tile t).halting = false then f (s.getF (R.TL_SEQ_PC t)) s else s

/-- Set the loop stack and its depth. -/
def State.setLoops (s : State) (t : Nat) (l : List (Nat × Nat)) : State :=
  (s.tileSet t fun k => { k with loops := l }).setF (R.TL_SEQ_LOOPS t) l.length

/-- NEXT (R223). -/
def execNextBundle (tile : Fin 16) (s : State) : Out := .next (s.seqOp tile.val 0 fun pc s => s.goTo tile.val (pc + 1))

/-- LOOP (R223): push (index + 1, count). -/
def execLoop (tile : Fin 16) (s : State) : Out :=
  .next (s.seqOp tile.val 1 fun pc s =>
    let t := tile.val
    (s.setLoops t ((pc + 1, seqImm (s.atPc t)) :: (s.tile t).loops)).goTo t (pc + 1))

/-- ENDL (R223): repeat or pop the top entry. -/
def execEndl (tile : Fin 16) (s : State) : Out :=
  .next (s.seqOp tile.val 2 fun pc s =>
    let t := tile.val
    match (s.tile t).loops with
    | (start, n) :: rest => if 1 < n then (s.setLoops t ((start, n - 1) :: rest)).goTo t start else (s.setLoops t rest).goTo t (pc + 1)
    | [] => s)

/-- JUMP (R223). -/
def execJump (tile : Fin 16) (s : State) : Out := .next (s.seqOp tile.val 3 fun _ s => s.goTo tile.val (seqImm (s.atPc tile.val)))

/-- HALT (R223): fetching stops. -/
def execHalt (tile : Fin 16) (s : State) : Out :=
  .next (s.seqOp tile.val 4 fun _ s => s.tileSet tile.val fun k => { k with halting := true })

/-- SYNC (R223): its bundle is dispatched once every queue is empty and every engine has retired. -/
def execSync (tile : Fin 16) (s : State) : Out := .next (s.seqOp tile.val 5 fun pc s => s.goTo tile.val (pc + 1))

/-! ### Seams and requests -/

/-- The tile goes IDLE on a STOP. -/
def State.goIdle (s : State) (t : Nat) : State :=
  let s := s.tileSet t fun k => { k with req := none, disp := false, seam := false, halting := false, sig := none }
  ((s.disarm (.swapLimit t)).disarm (.stopLimit t)).setFlags [R.TL_INT_STOPPED t] [(R.TL_SEQ_STATE t, tsIdle)]

/-- Step 6 of the abort, once it is due: its record is complete, and the tile enters the state its cause leads to; a STOP that came
meanwhile is taken there, as at a seam (R239, R241). -/
def State.endAbort (s : State) (t : Nat) : State :=
  match (s.tile t).abort with
  | none => s
  | some a =>
    if s.now < a.until_ then s
    else
      let stop := (s.tile t).req.isSome
      let s := s.tileSet t fun k => { k with abort := none, req := none }
      let s := (s.setFlags [R.TL_INT_ABORT t] [(R.TL_ABORT_CAUSE t, a.cause)]).adRaise 0x2603 2 t a.cause
      if stop ∨ a.after = 0 then s.goIdle t
      else if a.after = 1 then s.progStart t a.bank a.tenant
      else s.setF (R.TL_SEQ_STATE t) tsFaulted

/-- At a reached seam the tile takes its pending request (R235, R239). -/
def State.takeReq (s : State) (t : Nat) : State :=
  match (s.tile t).req with
  | some r => if r.kind = 1 then s.progStart t r.bank r.tenant else s.goIdle t
  | none => s

/-- A maximum of TL_SEAMMAX takes in a new measurement; it saturates (R236). -/
def State.seamMax (s : State) (f : Fld) (n : Nat) : State :=
  if s.getF f < min 65535 n then s.changeRc f (min 65535 n) else s

/-- SEAM_REACHED: the tile is drained at a seam; `interval` and `drain` are the cycles it measured, those of stalled
shifts left out; a seam that comes after more than 4,800 of them is TILE_SEAM_LATE (R235, R236). -/
def execSeamReached (tile : Fin 16) (interval drain : Nat) (s : State) : Out :=
  .next (let t := tile.val
    if s.tileLive t ∧ s.tstate t = tsSeamwait ∧ (s.tile t).drained then
      if 4800 < interval + drain then s.tileFault t tfSeamLate 0
      else
      let s := ((s.wrapInc (R.TL_SEAMS_COUNT t)).seamMax (R.TL_SEAMMAX_INTERVAL t) interval).seamMax (R.TL_SEAMMAX_DRAIN t) drain
      match (s.tile t).req with
      | some _ => s.takeReq t
      | none => (s.tileSet t fun k => { k with seam := true }).setF (R.TL_SEQ_STATE t) tsRun
    else s)

/-- TILE_HALTED (R223): HALTED counts as a reached seam (R235). -/
def execTileHalted (tile : Fin 16) (s : State) : Out :=
  .next (let t := tile.val
    if s.tileLive t ∧ (s.tile t).halting ∧ (s.tile t).drained then
      (((s.tileSet t fun k => { k with halting := false, disp := false }).setFlags [R.TL_INT_HALTED t] [(R.TL_SEQ_STATE t, tsHalted)]).wrapInc
        (R.TL_SEAMS_COUNT t)).takeReq t
    else s)

/-- The interval and drain of TL_SEAMMAX read and clear (R253). -/
def execTlSeammax (tile : Fin 16) (s : State) : Out :=
  .next (let t := tile.val
    if s.tileLive t then
      ((s.answer (.data (BitVec.ofNat 32
        (s.readRc (R.TL_SEAMMAX_INTERVAL t) + 65536 * s.readRc (R.TL_SEAMMAX_DRAIN t))))).clearRc (R.TL_SEAMMAX_INTERVAL t)).clearRc
        (R.TL_SEAMMAX_DRAIN t)
    else s.answer .busError)

/-! ### TL_SWAP (R239, R247) -/

/-- A write of TL_SWAP is ignored with REFUSED. -/
def State.swapRefused (s : State) (t : Nat) : State := s.flag (R.TL_INT_REFUSED t)

/-- A dispatcher access to a tile's registers. -/
def State.tileAccess (s : State) (t : Nat) (f : State → State) : State :=
  if s.tileLive t then f (s.answer .ok) else s.answer .busError

/-- The bank may be named by a SWAP or START (R238). -/
def State.bankReady (s : State) (t bank : Nat) : Bool := s.isSet (R.TL_PBANK_VALID t bank)

/-- A SWAP written to TL_SWAP: taken at the next reached seam, at once on a HALTED tile; the limit is SWAPTO_US (R239). -/
def State.swapTile (s : State) (t bank tenant : Nat) : State :=
  let st := s.tstate t
  if (s.tile t).req.isSome ∨ s.bankReady t bank = false ∨ bank = s.getF (R.TL_SEQ_BANK t) ∨ st = tsIdle ∨ st = tsFaulted ∨ st = tsAborting then
    s.swapRefused t
  else if st = tsHalted then s.progStart t bank tenant
  else (s.tileSet t fun k => { k with req := some ⟨1, bank, 0, tenant⟩ }).arm (.swapLimit t) (s.getF (R.TL_LIMIT_SWAPTO_US t) * usNs)

/-- SWAP (R239). -/
def execSwap (tile : Fin 16) (bank : Fin 2) (tenant : Fin 16) (s : State) : Out :=
  .next (s.tileAccess tile.val fun s => s.swapTile tile.val bank.val tenant.val)

/-- Ask a tile to stop: at once unless it runs or its abort is still to end; the limit is 12 µs; a pending SWAP is replaced (R239, R244,
R247). -/
def State.stopTile (s : State) (t reason : Nat) : State :=
  match (s.tile t).req with
  | some ⟨2, _, _, _⟩ => s.swapRefused t
  | _ =>
    let st := s.tstate t
    if st = tsRun ∨ st = tsSeamwait then
      ((s.tileSet t fun k => { k with req := some ⟨2, 0, reason, 0⟩ }).disarm (.swapLimit t)).arm (.stopLimit t) (12 * usNs)
    else if st = tsAborting then s.tileSet t fun k => { k with req := some ⟨2, 0, reason, 0⟩ }
    else s.goIdle t

/-- STOP (R239). -/
def execStop (tile : Fin 16) (reason : Fin 4) (s : State) : Out :=
  .next (s.tileAccess tile.val fun s => s.stopTile tile.val reason.val)

/-- A START written to TL_SWAP: an IDLE, HALTED or FAULTED tile starts at once; TL_FAULT is cleared (R239, R240). -/
def State.startTile (s : State) (t bank tenant : Nat) : State :=
  let st := s.tstate t
  if (s.tile t).req.isSome ∨ s.bankReady t bank = false ∨ ¬ (st = tsIdle ∨ st = tsHalted ∨ st = tsFaulted) then s.swapRefused t
  else (s.setFs [(R.TL_FAULT_CODE t, 0), (R.TL_FAULT_PC t, 0), (R.TL_FAULT_FIELD t, 0), (R.TL_FAULT_MORE t, 0),
    (R.TL_FAULT_VALID t, 0)]).progStart t bank tenant

/-- START (R239). -/
def execStart (tile : Fin 16) (bank : Fin 2) (tenant : Fin 16) (s : State) : Out :=
  .next (s.tileAccess tile.val fun s => s.startTile tile.val bank.val tenant.val)

/-- The fault an expired limit records: with a shift outstanding or without (R244). -/
def State.limitFault (s : State) (t : Nat) : Nat := if (s.tile t).noShift then tfSeamLate else tfShiftAbort

/-- The tile has drained at its seam: the seam is reached in this cycle, and an expiring limit has no effect (R246). -/
def State.atSeam (s : State) (t : Nat) : Bool := s.tstate t == tsSeamwait && (s.tile t).drained

/-- SWAP_LIMIT_EXPIRY: the fault is recorded, the tile aborts and the new bank starts (R239, R241, R244). -/
def execSwapLimitExpiry (tile : Fin 16) (s : State) : Out :=
  .next (let t := tile.val
    if s.tileLive t ∧ s.due (.swapLimit t) then
      match (s.tile t).req with
      | some ⟨1, bank, _, tenant⟩ =>
        if s.atSeam t then s else (s.recordFault t (s.limitFault t) (s.faultPc t 0) 0 false).abortTile t 1 1 bank tenant
      | _ => s.disarm (.swapLimit t)
    else s)

/-- TILE_SEAM_LATE: the watchdog of R236 fires on a running tile, whose interval and drain have come to 4,800 cycles. -/
def execTileSeamLate (tile : Fin 16) (cycles : Nat) (s : State) : Out :=
  .next (let t := tile.val
    if 4800 ≤ cycles ∧ s.tileLive t ∧ (s.tstate t = tsRun ∨ s.tstate t = tsSeamwait) then s.tileFault t tfSeamLate 0 else s)

/-- TILE_CREDIT_STALL: the oldest shift of a queue has moved no beat for 10 ms (R237). -/
def execTileCreditStall (tile : Fin 16) (queue : Fin 8) (s : State) : Out :=
  .next (let t := tile.val
    match (s.tile t).shiftsOf queue.val with
    | h :: _ => if s.tileLive t ∧ h.at_ + 10 * msNs ≤ s.now then s.tileFaultAt t tfCreditStall h.pc 3 else s
    | [] => s)

/-- The sequencer waits for a token, or holds its dispatch until queued operations retire. -/
def State.seqWaits (s : State) (t : Nat) : Bool :=
  let k := s.tile t
  k.halting || s.tstate t == tsSeamwait || (!k.disp && (!s.tokenOk t (seqCtok (s.atPc t)) || (seqSop (s.atPc t) == 5 && !k.retired) || k.full (s.atPc t)))

/-- Every engine queue of the tile is empty or its oldest operation waits for a token. -/
def State.headsWait (s : State) (t : Nat) : Bool :=
  (List.range 3).all fun e => match ((s.tile t).q.getD e []) with | o :: _ => !s.tokenOk t (slotWt e o.word) | [] => true

/-- TILE_DEADLOCK: for 64 cycles everything has waited on tokens, with nothing in progress (R244). -/
def execTileDeadlock (tile : Fin 16) (s : State) : Out :=
  .next (let t := tile.val
    let k := s.tile t
    if s.tileLive t ∧ (s.tstate t = tsRun ∨ s.tstate t = tsSeamwait) ∧ k.cur.all Option.isNone ∧ k.noShift ∧ s.headsWait t ∧ s.seqWaits t
        ∧ (¬ k.retired ∨ s.tokenOk t (seqCtok (s.atPc t)) = false) then
      s.tileFault t tfDeadlock 0
    else s)

/-- SHIFT_WITHDRAWN: a tile withdraws a shift with which one of this tile pairs, an MSEND or an MRECV of its own (R243). The memory
controller and the shelf hold nothing of a shift between commands that a withdrawal would drop. -/
def execShiftWithdrawn (tile : Fin 16) (queue : Fin 8) (peer : Fin 16) (peerQ : Fin 8) (send : Bool) (s : State) : Out :=
  .next (if s.tileLive tile.val then s.withdrawn tile.val queue.val peer.val peerQ.val (if send then 2 else 3) else s)

/-! ### Program banks (R238, R253, R254) -/

/-- The bank is active, or a pending request names it. -/
def State.bankBusy (s : State) (t b : Nat) : Bool :=
  b == s.getF (R.TL_SEQ_BANK t) ||
    (match (s.tile t).req with | some r => r.kind == 1 && r.bank == b | none => false) ||
    (match (s.tile t).abort with | some a => a.after == 1 && a.bank == b | none => false)

/-- PROGRAM_BANK_WRITE: word `offset` / 4 of a bank's window, or its TL_PBANKn; refused with a bus error while the bank is
active or pending. -/
def execProgramBankWrite (tile : Fin 16) (bank : Fin 2) (reg : Bool) (offset : Nat) (data : Word) (s : State) : Out :=
  .next (let t := tile.val
    let b := bank.val
    s.tileAccess t fun s =>
      if s.bankBusy t b then ((s.flag (R.TL_INT_PROGBUSY t)).adRaise 0x2601 2 t b).answer .busError
      else if reg then
        s.setFs [(R.TL_PBANK_ENTRY t b, data.toNat % 4096), (R.TL_PBANK_LEN t b, min 4096 (bitsOf data.toNat 24 12)),
          (R.TL_PBANK_VALID t b, bitsOf data.toNat 31 31)]
      else
        let off := offset % 65536
        let key := t * 8192 + b * 4096 + off / 16
        let sh := 2 ^ (32 * (off / 4 % 4))
        let old := Sparse.get 0 s.ad.prog key
        if off % 4 ≠ 0 then s.answer .misaligned
        else s.adSet fun a => { a with prog := Sparse.set 0 a.prog key (old - old / sh % 2 ^ 32 * sh + data.toNat * sh) })

/-! ### Engines -/

/-- A field (0 SEQ, 1 MAC, 2 VEC, 3 MOV) waits on token `n` now. -/
def State.waitsOn (s : State) (t n field : Nat) : Bool :=
  let k := s.tile t
  match field with
  | 0 => s.tstate t == tsRun && !k.disp && !k.halting && (k.seam || !seqSeam (s.atPc t)) && seqCtok (s.atPc t) == n
  | e + 1 => (k.cur.getD e none).isNone && (match k.q.getD e [] with | o :: _ => slotWt e o.word == n | [] => false)

/-- The token's count lasts for this field, after those that come before it have taken theirs (R249). -/
def State.tokenFor (s : State) (t n field : Nat) : Bool :=
  n == 0 || decide (((List.range field).filter fun f => s.waitsOn t n f).length < s.getF (tokFld t n))

/-- An engine takes the operation `op` from the head of its queue, once the engine is free, the operation's wait is
satisfied and `ready` holds: it takes its effect, and completes later (R224, R231). -/
def State.engineOp (s : State) (t e op : Nat) (ready : Nat → State → Bool) (f : Nat → State → State) : State :=
  let k := s.tile t
  if s.tileLive t = false ∨ (k.cur.getD e none).isSome then s
  else match k.q.getD e [] with
    | o :: rest =>
      let w := o.word
      if slotOp e w = op ∧ s.tokenFor t (slotWt e w) (e + 1) ∧ ready w s then
        let s := (s.takeToken t (slotWt e w)).tileSet t fun k => { k with q := k.q.set e rest, cur := k.cur.set e (some o) }
        f w s
      else s
    | [] => s

/-- No condition of its own. -/
def anyTime (_ : Nat) (_ : State) : Bool := true

/-- NOP (R222): completes once its wait is satisfied. -/
def execNop (tile : Fin 16) (engine : Fin 3) (s : State) : Out :=
  .next (s.engineOp tile.val engine.val 0 anyTime fun _ s => s)

/-- ENGINE_OP_COMPLETE: the operation in progress completes and signals its token (R224). -/
def execEngineOpComplete (tile : Fin 16) (engine : Fin 3) (s : State) : Out :=
  .next (let t := tile.val
    let e := engine.val
    match (s.tile t).cur.getD e none with
    | some o => if s.tileLive t then
        (s.tileSet t fun k => { k with cur := k.cur.set e none }).signal t (slotSt e o.word) o.pc (e + 1) else s
    | none => s)

end Sys2Proof.Machine
end

