-- ==== Sys2Proof/Machine/MacEngine.lean ====
section
/-! DEFINITION. The MAC engine (R180 to R183, R225, R226) and the pass signature (R287, R289 to R291). -/

namespace Sys2Proof.Machine

/-- Byte `k` of a line. -/
def lineByte (w k : Nat) : Nat := w / 256 ^ k % 256

/-- 16-bit element `k` of a line. -/
def lineHalf (w k : Nat) : Nat := w / 65536 ^ k % 65536

/-- Set a line-address register. -/
def State.setMa (s : State) (t i v : Nat) : State := s.tileSet t fun k => { k with ma := k.ma.set i v }

/-- MSETA (R225): a line index beyond 24,575 is TILE_ADDR. -/
def execMseta (tile : Fin 16) (s : State) : Out :=
  .next (s.engineOp tile.val 0 1 anyTime fun w s =>
    if 24575 < bitsOf w 14 0 then s.tileFault tile.val tfAddr 1 else s.setMa tile.val (bitsOf w 17 15) (bitsOf w 14 0))

/-- MMODE (R225): SPASS with an FP format is TILE_OPERAND (R226, log entry 92). -/
def execMmode (tile : Fin 16) (s : State) : Out :=
  .next (s.engineOp tile.val 0 2 anyTime fun w s =>
    if w.testBit 14 ∧ 2 ≤ bitsOf w 17 15 then s.tileFault tile.val tfOperand 1
    else s.tileSet tile.val fun k => { k with fmt := bitsOf w 17 15, spass := w.testBit 14 })

/-- Lines of a weight set (R225). -/
def weightLines (fmt : Nat) : Nat := if fmt < 2 then 64 else 32

/-- WLOAD (R185, R225). -/
def execWload (tile : Fin 16) (errs : List (Nat × LineErr)) (s : State) : Out :=
  .next (s.engineOp tile.val 0 3 anyTime fun w s =>
    let t := tile.val
    let k := s.tile t
    let a := k.ma.getD (bitsOf w 17 15) 0
    let n := weightLines k.fmt
    if 24576 < a + n then s.tileFault t tfAddr 1
    else
      let r := s.readChecked t ((List.range n).map fun i => a + i) errs
      r.2.tileSet t fun k => { k with wSh := r.1.map (·.1), wShM := r.1.any (·.2) })

/-- WSWAP (R225). -/
def execWswap (tile : Fin 16) (s : State) : Out :=
  .next (s.engineOp tile.val 0 4 anyTime fun _ s =>
    s.tileSet tile.val fun k => { k with wAct := k.wSh, wActM := k.wShM, wSh := k.wAct, wShM := k.wActM })

/-! ### The array -/

/-- The FP format of activations and of weights (R225). -/
def actFmt (fmt : Nat) : FpFmt :=
  match fmt with
  | 2 => .e4m3
  | 3 => .e4m3
  | 4 => .e5m2
  | 5 => .e5m2
  | 6 => .bf16
  | _ => .fp16
def weightFmt (fmt : Nat) : FpFmt :=
  match fmt with
  | 2 => .e4m3
  | 3 => .e5m2
  | 4 => .e4m3
  | 5 => .e5m2
  | 6 => .bf16
  | _ => .fp16

/-- Element size e of R226. -/
def elemSize (fmt : Nat) : Nat := if fmt < 6 then 1 else 2

/-- The raw bits of weight W[k][c] in a weight set (R199, R226). -/
def weightBits (fmt : Nat) (ws : List Nat) (k c : Nat) : Nat :=
  match fmt with
  | 0 => lineByte (ws.getD k 0) c
  | 1 => lineByte (ws.getD k 0) (c / 2) / 16 ^ (c % 2) % 16
  | 6 => lineHalf (ws.getD k 0) c
  | 7 => lineHalf (ws.getD k 0) c
  | _ => lineByte (ws.getD (k / 2) 0) (32 * (k % 2) + c)

/-- The exact integer sum of one column (R180, R181); negated for a second pass with N (R182). -/
def intColumn (fmt : Nat) (ws : List Nat) (neg : Bool) (acts : List Nat) (c : Nat) : Int :=
  let w := if fmt = 0 then 8 else 4
  let s := (acts.foldl (fun (p : Int × Nat) a =>
    (p.1 + toSigned 8 a * toSigned w (weightBits fmt ws p.2 c), p.2 + 1)) (0, 0)).1
  if neg then -s else s

/-- The FP sum of one column, exact and then rounded once to FP32 (R183). -/
def fpColumn (fmt : Nat) (ws : List Nat) (acts : List Nat) (c : Nat) : Nat :=
  let s := (acts.foldl (fun (p : FpV × Nat) a =>
    (p.1.add (((actFmt fmt).decode a).mul ((weightFmt fmt).decode (weightBits fmt ws p.2 c))), p.2 + 1))
    (FpV.fin false 0 0, 0)).1
  FpFmt.fp32.bits s

/-- An accumulator entry after one vector's contribution: INT40 wraps, FP32 rounds once more (R181, R183). -/
def accAdd (fmt : Nat) (ws : List Nat) (neg : Bool) (acts : List Nat) (c old : Nat) : Nat :=
  if fmt < 2 then ofSigned 40 (toSigned 40 old + intColumn fmt ws neg acts c)
  else FpFmt.fp32.bits ((FpFmt.fp32.decode old).add (FpFmt.fp32.decode (fpColumn fmt ws acts c)))

/-- The activation vector in a line, or vector `j` of the transposed block in `lines` (R187, R226). -/
def actVector (fmt : Nat) (transposed : Bool) (lines : List (Nat × Bool)) (j : Nat) : List Nat :=
  let e := elemSize fmt
  let elem : Nat → Nat → Nat := fun w i => if e = 1 then lineByte w i else lineHalf w i
  (List.range (fmtDepth fmt)).map fun k =>
    if transposed then elem (lines.getD k (0, false)).1 j else elem (lines.getD j (0, false)).1 k

/-- The TL_XFORM entry of a chunk (R287): whether it negates. -/
def State.xformOf (s : State) (t chunk : Nat) : Option Bool :=
  ((List.range 256).find? fun e => s.isSet (R.TL_XFORM_VALID t e) && s.getF (R.TL_XFORM_CHUNK t e) == chunk).map fun e =>
    s.isSet (R.TL_XFORM_N t e)

/-- The bank is recorded with another FMT or SPASS than the engine's (R226). -/
def TileSt.bankDiffers (k : TileSt) (bank : Nat) : Bool :=
  match k.banks.getD bank none with
  | some r => r != (k.fmt, k.spass)
  | none => false

/-- The operand rules of an MMA (R187, R226): the fault it makes, 0 if none. -/
def mmaFault (k : TileSt) (w : Nat) : Nat :=
  let a := k.ma.getD (bitsOf w 17 15) 0
  let n := bitsOf w 5 0 + 1
  let bank := bitsOf w 14 12
  let tr := w.testBit 10
  if k.spass ∧ 2 ≤ k.fmt then tfOperand
  else if fmtBanks k.fmt ≤ bank then tfOperand
  else if 64 < 8 * bitsOf w 8 6 + n then tfOperand
  else if tr ∧ 64 / elemSize k.fmt < n then tfOperand
  else if w.testBit 11 = false ∧ k.bankDiffers bank then tfOperand
  else if tr ∧ 512 < a % 512 + 64 then tfOperand
  else if 24576 < a + (if tr then 64 else n) then tfAddr
  else 0

/-- Stream the vectors into the bank's rows. -/
def State.mmaRows (s : State) (t fmt bank row0 n : Nat) (tr neg : Bool) (lines : List (Nat × Bool)) : State :=
  let k := s.tile t
  let all := lines.any (·.2)
  s.forN n fun j s =>
    let acts := actVector fmt tr lines j
    let mark := k.wActM || (if tr then all else (lines.getD j (0, false)).2)
    s.forN (fmtCols fmt) fun c s =>
      s.setAcc t fmt bank (row0 + j) c (accAdd fmt k.wAct neg acts c (s.accAt t fmt bank (row0 + j) c))
        (mark || s.accMark t fmt bank (row0 + j) c)

/-- Start a bank: its entries 0 and unmarked, its FMT and SPASS recorded (R226). -/
def State.startBank (s : State) (t bank : Nat) : State :=
  let k := s.tile t
  (s.clearBank t k.fmt bank).tileSet t fun k => { k with banks := k.banks.set bank (some (k.fmt, k.spass)) }

/-- What remains of the operation in progress of the MAC engine is its token, as in a NOP. -/
def State.macAsNop (s : State) (t : Nat) : State :=
  s.tileSet t fun k => { k with cur := k.cur.set 0 ((k.cur.getD 0 none).map fun o => { o with word := o.word % 2 ^ 26 }) }

/-- MMA (R180 to R183, R226). With SPASS and no valid transform for the chunk of the last SIGO it accumulates and reads
nothing, and the signature feeds no more (R287): what remains of it is its token, as in a NOP. An MMA that breaks an
operand rule adds into no bank, so its abort marks none (R241). -/
def execMma (tile : Fin 16) (errs : List (Nat × LineErr)) (s : State) : Out :=
  .next (s.engineOp tile.val 0 5 anyTime fun w s =>
    let t := tile.val
    let k := s.tile t
    let f := mmaFault k w
    let chunk := match k.sigo with | some c => s.xformOf t c | none => none
    if f ≠ 0 then s.tileFault t f 1
    else if k.spass ∧ chunk.isNone then
      (s.macAsNop t).tileSet t fun k => { k with sig := k.sig.map fun g => { g with feeds := false } }
    else
      let a := k.ma.getD (bitsOf w 17 15) 0
      let n := bitsOf w 5 0 + 1
      let tr := w.testBit 10
      let r := s.readChecked t ((List.range (if tr then 64 else n)).map fun i => a + i) errs
      let s := if w.testBit 11 then r.2.startBank t (bitsOf w 14 12) else r.2
      let s := s.mmaRows t k.fmt (bitsOf w 14 12) (8 * bitsOf w 8 6) n tr (k.spass && chunk == some true) r.1
      let s := if w.testBit 9 then s.setMa t (bitsOf w 17 15) (a + n) else s
      s.wrapAdd (R.TL_MACBUSY_CYCLES t) n)

/-- ACLR (R225). -/
def execAclr (tile : Fin 16) (s : State) : Out :=
  .next (s.engineOp tile.val 0 8 anyTime fun w s =>
    if fmtBanks (s.tile tile.val).fmt ≤ bitsOf w 14 12 then s.tileFault tile.val tfOperand 1 else s.startBank tile.val (bitsOf w 14 12))

/-! ### Signatures -/

def sigP : Nat := 2147483647

/-- One step of the weight generator (R289). -/
def sigNext (x : Nat) : Nat := if x % 2 = 1 then Nat.xor (x / 2) 0x80200003 else x / 2

/-- The weight of a generator state. -/
def sigWeight (x : Nat) : Nat := let w := x % 2 ^ 31 % sigP; if w = 0 then 1 else w

/-- Feed one raw entry (R290). -/
def Sig.feed (g : Sig) (y : Int) : Sig :=
  let x := sigNext g.x
  { g with x := x, sum := (g.sum + sigWeight x * (y % (sigP : Int)).toNat) % sigP }

/-- SIGO: open a pass signature; the weights restart from TL_XSEED (R225, R289). -/
def execSigo (tile : Fin 16) (s : State) : Out :=
  .next (s.engineOp tile.val 0 6 anyTime fun w s =>
    s.tileSet tile.val fun k => { k with
      sig := some ⟨bitsOf w 15 0, s.getF (R.TL_XSEED_SEED tile.val), 0, true⟩
      sigo := some (bitsOf w 15 0) })

/-- SIGC: close the signature and post it to the dispatcher, unless it feeds none (R225, R287). -/
def execSigc (tile : Fin 16) (s : State) : Out :=
  .next (s.engineOp tile.val 0 7 anyTime fun _ s =>
    s.tileSet tile.val fun k => { k with
      posted := match k.sig with | some g => if g.feeds then k.posted ++ [(g.chunk, g.sum)] else k.posted | none => k.posted
      sig := none })

/-- A SIG read of 64 entries (R228, R290). -/
def State.sigRead (s : State) (t : Nat) (ys : List Int) : State :=
  s.tileSet t fun k => { k with sig := k.sig.map fun g => if g.feeds then ys.foldl Sig.feed g else g }

end Sys2Proof.Machine
end

