-- ==== Sys2Proof/Machine/VecEngine.lean ====
section
/-! DEFINITION. The vector engine (R187, R188, R200, R201, R227, R228). A vector register is a 2,048-bit number; its marks
are one bit per byte. -/

namespace Sys2Proof.Machine

/-! ### Lanes -/

/-- Lane width in bits of a type code (R227). -/
def tyBits (ty : Nat) : Nat := if ty = 0 ∨ ty = 3 then 32 else if ty = 5 then 8 else 16

def laneAt (w x i : Nat) : Nat := x / 2 ^ (w * i) % 2 ^ w

/-- A register from its lanes, lane 0 lowest. -/
def ofLanes (w : Nat) : List Nat → Nat
  | [] => 0
  | v :: l => v % 2 ^ w + 2 ^ w * ofLanes w l

def lanesOf (w x : Nat) : List Nat := (List.range (2048 / w)).map (laneAt w x)

/-- The lane is marked when any of its bytes is. -/
def laneMarked (w m i : Nat) : Bool := laneAt (w / 8) m i != 0

/-- Marks of lanes as byte marks. -/
def ofMarks (w : Nat) (l : List Bool) : Nat := ofLanes (w / 8) (l.map fun b => if b then 2 ^ (w / 8) - 1 else 0)

/-- The FP format of a type code. -/
def tyFp (ty : Nat) : FpFmt := if ty = 0 then .fp32 else if ty = 1 then .bf16 else .fp16

/-- Operands of an R-form slot. -/
def vdOf (w : Nat) : Nat := bitsOf w 21 17
def vaOf (w : Nat) : Nat := bitsOf w 16 12
def vbOf (w : Nat) : Nat := bitsOf w 11 7
def tyOf (w : Nat) : Nat := bitsOf w 6 4

/-- An integer result: wraps, or saturates in INT8 when the slot says so (R188). -/
def intResult (ty : Nat) (sat : Bool) (i : Int) : Nat :=
  ofSigned (tyBits ty) (if sat ∧ ty = 5 then (satInt8 i).1 else i)

/-- Minimum (`mx` false) or maximum of two FP lanes; a NaN or zeros of opposite sign leave it open (log entry 5). -/
def fpMinMax (mx : Bool) (ty a b : Nat) : Nat :=
  let f := tyFp ty
  let x := f.decode a
  let y := f.decode b
  if x.isNan ∨ y.isNan ∨ (x.isZero ∧ y.isZero ∧ a ≠ b) then f.canon ((Config.vecOpen (if mx then 4 else 3) ty a b).toNat % 2 ^ tyBits ty)
  else if x.lt y = mx then b else a

/-- An FP result as it is written: rounded once to the format. For BF16 and FP16 that is the conversion from FP32: an
overflow follows SAT, and counts (R188, R200, log entry 93). -/
def fpWrite (ty : Nat) (sat : Bool) (v : FpV) : Nat × Bool :=
  let r := (tyFp ty).encode (sat && ty != 0) v
  (r.1, r.2 && ty != 0)

/-- One VALU lane, and whether it overflowed (R227, R188). -/
def valuLane (sub ty : Nat) (sat : Bool) (a b : Nat) : Nat × Bool :=
  let w := tyBits ty
  if ty < 3 then
    let f := tyFp ty
    match sub with
    | 0 => fpWrite ty sat ((f.decode a).add (f.decode b))
    | 1 => fpWrite ty sat ((f.decode a).add (f.decode b).neg)
    | 2 => fpWrite ty sat ((f.decode a).mul (f.decode b))
    | 3 => (fpMinMax false ty a b, false)
    | _ => (fpMinMax true ty a b, false)
  else
    let x := toSigned w a
    let y := toSigned w b
    (match sub with
      | 0 => intResult ty sat (x + y)
      | 1 => intResult ty sat (x - y)
      | 2 => intResult ty sat (x * y)
      | 3 => if x < y then a else b
      | 4 => if x < y then b else a
      | 5 => Nat.land a b
      | 6 => Nat.lor a b
      | _ => Nat.xor a b, false)

/-- One VFMA lane: exact product and sum, rounded once (R188), and whether it overflowed. -/
def vfmaLane (ty : Nat) (sat : Bool) (a b d : Nat) : Nat × Bool :=
  if ty < 3 then let f := tyFp ty; fpWrite ty sat (((f.decode a).mul (f.decode b)).add (f.decode d))
  else (intResult ty sat (toSigned (tyBits ty) a * toSigned (tyBits ty) b + toSigned (tyBits ty) d), false)

/-- One VCMP lane. -/
def vcmpLane (sub ty a b : Nat) : Nat :=
  let w := tyBits ty
  let r :=
    if ty < 3 then
      let f := tyFp ty
      let x := f.decode a
      let y := f.decode b
      match sub with
      | 0 => x.eq y
      | 1 => x.lt y
      | _ => x.lt y || x.eq y
    else
      match sub with
      | 0 => a == b
      | 1 => decide (toSigned w a < toSigned w b)
      | _ => decide (toSigned w a ≤ toSigned w b)
  if r then 2 ^ w - 1 else 0

/-- One VSH lane; a count of the width or more leaves it open (log entry 5). -/
def vshLane (sub ty a n : Nat) : Nat :=
  let w := tyBits ty
  if w ≤ n then (Config.vecOpen (8 + sub) ty a n).toNat % 2 ^ w
  else match sub with
    | 0 => a * 2 ^ n % 2 ^ w
    | 1 => a / 2 ^ n
    | _ => ofSigned w (toSigned w a / 2 ^ n)

/-- Run a lane-wise operation of three sources; marks follow the sources used. -/
def State.lanewise (s : State) (t w vd va vb : Nat) (usesVd : Bool) (f : Nat → Nat → Nat → Nat) : State :=
  let a := s.vreg t va
  let b := s.vreg t vb
  let d := s.vreg t vd
  let ma := s.vmark t va
  let mb := s.vmark t vb
  let md := s.vmark t vd
  let n := List.range (2048 / w)
  s.setVreg t vd (ofLanes w (n.map fun i => f (laneAt w a i) (laneAt w b i) (laneAt w d i)))
    (ofMarks w (n.map fun i => laneMarked w ma i || laneMarked w mb i || (usesVd && laneMarked w md i)))

/-- A lane-wise operation whose overflows TL_SAT counts (R200). -/
def State.lanewiseSat (s : State) (t w vd va vb : Nat) (usesVd : Bool) (f : Nat → Nat → Nat → Nat × Bool) : State :=
  let n := ((List.range (2048 / w)).filter fun i =>
    (f (laneAt w (s.vreg t va) i) (laneAt w (s.vreg t vb) i) (laneAt w (s.vreg t vd) i)).2).length
  (s.lanewise t w vd va vb usesVd fun a b d => (f a b d).1).wrapAdd (R.TL_SAT_COUNT t) n

/-- VALU (R227). -/
def execValu (tile : Fin 16) (s : State) : Out :=
  .next (s.engineOp tile.val 1 1 anyTime fun w s =>
    s.lanewiseSat tile.val (tyBits (tyOf w)) (vdOf w) (vaOf w) (vbOf w) false fun a b _ => valuLane (bitsOf w 2 0) (tyOf w) (w.testBit 3) a b)

/-- VFMA (R227): vd = va × vb + vd. -/
def execVfma (tile : Fin 16) (s : State) : Out :=
  .next (s.engineOp tile.val 1 2 anyTime fun w s =>
    s.lanewiseSat tile.val (tyBits (tyOf w)) (vdOf w) (vaOf w) (vbOf w) true fun a b d => vfmaLane (tyOf w) (w.testBit 3) a b d)

/-- VCMP (R227). -/
def execVcmp (tile : Fin 16) (s : State) : Out :=
  .next (s.engineOp tile.val 1 3 anyTime fun w s =>
    s.lanewise tile.val (tyBits (tyOf w)) (vdOf w) (vaOf w) (vbOf w) false fun a b _ => vcmpLane (bitsOf w 2 0) (tyOf w) a b)

/-- VSH (R227). -/
def execVsh (tile : Fin 16) (s : State) : Out :=
  .next (s.engineOp tile.val 1 4 anyTime fun w s =>
    s.lanewise tile.val (tyBits (tyOf w)) (vdOf w) (vaOf w) (vbOf w) false fun a b _ => vshLane (bitsOf w 2 0) (tyOf w) a b)

/-- One VSFU lane: a free value among those within 2 ulp of the exact result; where there is no such result it is open, and a NaN
canonical (R188, R198, log entry 5). -/
def sfuLane (sub a : Nat) : Nat :=
  let f := FpFmt.fp32
  f.canon (firstFrom (fun y => sfuNear sub (f.decode a) (f.decode y)) (2 ^ 32) (Config.vsfu sub (BitVec.ofNat 32 a)).toNat)

/-- VSFU (R188, R227). -/
def execVsfu (tile : Fin 16) (s : State) : Out :=
  .next (s.engineOp tile.val 1 5 anyTime fun w s =>
    s.lanewise tile.val 32 (vdOf w) (vaOf w) (vaOf w) false fun a _ _ => sfuLane (bitsOf w 2 0) a)

/-- One conversion (R200): the result and whether it saturated or overflowed. -/
def cvtLane (ty td : Nat) (sat : Bool) (a : Nat) : Nat × Bool :=
  if ty = 0 then
    if td = 5 then let r := (FpFmt.fp32.decode a).toInt8; (ofSigned 8 r.1, r.2) else (tyFp td).encode sat (FpFmt.fp32.decode a)
  else if ty = 5 then (FpFmt.fp32.bits (FpV.ofInt (toSigned 8 a)), false)
  else (FpFmt.fp32.bits ((tyFp ty).decode a), false)

/-- VCVT (R200, R227): the first 64 lanes of the source become the first 64 lanes of the destination; bytes of the
destination beyond them are open. -/
def execVcvt (tile : Fin 16) (s : State) : Out :=
  .next (s.engineOp tile.val 1 6 anyTime fun w s =>
    let t := tile.val
    let td := bitsOf w 9 7
    let ws := tyBits (tyOf w)
    let wd := tyBits td
    let a := s.vreg t (vaOf w)
    let ma := s.vmark t (vaOf w)
    let r := (List.range 64).map fun i => cvtLane (tyOf w) td (w.testBit 3) (laneAt ws a i)
    let d := s.draw 2048
    let x := ofLanes wd (r.map (·.1)) + d.1 / 2 ^ (64 * wd) * 2 ^ (64 * wd)
    let s := d.2.setVreg t (vdOf w) x (ofMarks wd ((List.range 64).map fun i => laneMarked ws ma i))
    s.wrapAdd (R.TL_SAT_COUNT t) (r.filter (·.2)).length)

/-- VSEL (R227): lanes where vb is not 0. -/
def execVsel (tile : Fin 16) (s : State) : Out :=
  .next (s.engineOp tile.val 1 7 anyTime fun w s =>
    s.lanewise tile.val (tyBits (tyOf w)) (vdOf w) (vaOf w) (vbOf w) true fun a b d => if b ≠ 0 then a else d)

/-- A reduction (R227). The FP32 sum, and an FP32 extreme over a NaN or over zeros of both signs, are open (log entry
5). -/
def vredOf (sub ty : Nat) (l : List Nat) : Nat :=
  if ty = 3 then
    match sub with
    | 0 => ofSigned 32 (l.foldl (fun a x => a + toSigned 32 x) 0)
    | 1 => l.foldl (fun a x => if toSigned 32 a < toSigned 32 x then x else a) (l.headD 0)
    | _ => l.foldl (fun a x => if toSigned 32 x < toSigned 32 a then x else a) (l.headD 0)
  else
    let f := FpFmt.fp32
    let bad := l.any fun x => (f.decode x).isNan
    let zeros := l.any (· == 0) && l.any (· == 2 ^ 31)
    if sub = 0 ∨ bad ∨ zeros then f.canon (Config.vecReduce sub l).toNat
    else if sub = 1 then l.foldl (fun a x => if (f.decode a).lt (f.decode x) then x else a) (l.headD 0)
    else l.foldl (fun a x => if (f.decode x).lt (f.decode a) then x else a) (l.headD 0)

/-- VRED (R227). -/
def execVred (tile : Fin 16) (s : State) : Out :=
  .next (s.engineOp tile.val 1 8 anyTime fun w s =>
    let t := tile.val
    s.setVreg t (vdOf w) (vredOf (bitsOf w 2 0) (tyOf w) (lanesOf 32 (s.vreg t (vaOf w)))) (if s.vmark t (vaOf w) = 0 then 0 else 15))

/-! ### Loads and stores -/

def State.vaReg (s : State) (t i : Nat) : Nat := (s.tile t).va.getD i 0
def State.setVa (s : State) (t i v : Nat) : State := s.tileSet t fun k => { k with va := k.va.set i v }

/-- The four lines of a VLD or VST: line l of banks b to b + 3. -/
def fourLines (a : Nat) : List Nat := [a, a + 512, a + 1024, a + 1536]

/-- VLD (R227, R228). -/
def execVld (tile : Fin 16) (errs : List (Nat × LineErr)) (s : State) : Out :=
  .next (s.engineOp tile.val 1 9 anyTime fun w s =>
    let t := tile.val
    let i := bitsOf w 16 14
    let a := s.vaReg t i
    if 44 < a / 512 then s.tileFault t tfOperand 2
    else
      let r := s.readChecked t (fourLines a) errs
      let s := r.2.setVreg t (vdOf w) (ofLanes 512 (r.1.map (·.1))) (ofMarks 512 (r.1.map (·.2)))
      if w.testBit 13 then s.setVa t i (a + 1) else s)

/-- VST (R227, R228). -/
def execVst (tile : Fin 16) (s : State) : Out :=
  .next (s.engineOp tile.val 1 10 anyTime fun w s =>
    let t := tile.val
    let i := bitsOf w 16 14
    let a := s.vaReg t i
    if 44 < a / 512 then s.tileFault t tfOperand 2
    else
      let x := s.vreg t (vdOf w)
      let m := s.vmark t (vdOf w)
      let s := s.forN 4 fun q s => s.writeLine t (a + 512 * q) (laneAt 512 x q) (laneMarked 512 m q)
      if w.testBit 13 then s.setVa t i (a + 1) else s)

/-- VLDT (R187, R227, R228): vectors J, J + 1 … of the 64 lines at VA; poisoned if any line is. -/
def execVldt (tile : Fin 16) (errs : List (Nat × LineErr)) (s : State) : Out :=
  .next (s.engineOp tile.val 1 11 anyTime fun w s =>
    let t := tile.val
    let a := s.vaReg t (bitsOf w 16 14)
    let e := 1 + bitsOf w 13 13
    let j := bitsOf w 12 7
    let n := 4 / e
    if 512 < a % 512 + 64 ∨ j % n ≠ 0 ∨ 64 / e < j + n then s.tileFault t tfOperand 2
    else if 24576 < a + 64 then s.tileFault t tfAddr 2
    else
      let r := s.readChecked t ((List.range 64).map fun i => a + i) errs
      let vec := (List.range n).flatMap fun v => r.1.map fun l => laneAt (8 * e) l.1 (j + v)
      r.2.setVreg t (vdOf w) (ofLanes (8 * e) vec) (if r.1.any (·.2) then 2 ^ 256 - 1 else 0))

/-! ### Accumulator reads -/

/-- The format under which a bank is read: the one it was started with, else the mode's. -/
def State.bankFmt (s : State) (t bank : Nat) : Nat :=
  match (s.tile t).banks.getD bank none with
  | some r => r.1
  | none => (s.tile t).fmt

/-- The operand rules of VRQ and VACC (R189, R226, R228). -/
def State.accFault (s : State) (t bank half : Nat) (sig : Bool) : Bool :=
  let f := s.bankFmt t bank
  decide (fmtBanks f ≤ bank) || (half == 1 && f != 1) || (sig && (decide (2 ≤ f) || (s.tile t).sig.isNone))

/-- The 64 raw entries of a row half, signed, with their marks. -/
def State.accRow (s : State) (t bank row half : Nat) : List (Int × Bool) :=
  let f := s.bankFmt t bank
  (List.range 64).map fun c => (toSigned 40 (s.accAt t f bank row (64 * half + c)), s.accMark t f bank row (64 * half + c))

/-- VRQ (R201, R227, R228). Of an FP32 bank the result is open. -/
def execVrq (tile : Fin 16) (s : State) : Out :=
  .next (s.engineOp tile.val 1 12 anyTime fun w s =>
    let t := tile.val
    let bank := bitsOf w 16 14
    let half := bitsOf w 6 6
    let q := bitsOf w 5 4
    let vd := vdOf w
    if s.accFault t bank half (w.testBit 7) then s.tileFault t tfOperand 2
    else
      let k := s.tile t
      let row := s.accRow t bank (bitsOf w 13 8) half
      let s := if w.testBit 7 then s.sigRead t (row.map (·.1)) else s
      let res := (List.range 64).map fun c =>
        let p := k.params.getD (64 * half + c) 0
        requantise (row.getD c (0, false)).1 (toSigned 32 p) (p / 2 ^ 32 % 256) (toSigned 8 (p / 2 ^ 40))
      let marks := (List.range 64).map fun c => (row.getD c (0, false)).2 || k.paramM.getD half false
      let fp := decide (2 ≤ s.bankFmt t bank)
      let d := if fp then s.draw 512 else (ofLanes 8 (res.map fun r => ofSigned 8 r.1), s)
      let old := s.vreg t vd
      let oldM := s.vmark t vd
      let put : Nat → Nat → Nat → Nat := fun wd o v => o - laneAt wd o q * 2 ^ (wd * q) + v * 2 ^ (wd * q)
      let s := d.2.setVreg t vd (put 512 old d.1) (put 64 oldM (ofMarks 8 marks))
      if fp then s else s.wrapAdd (R.TL_SAT_COUNT t) (res.filter (·.2)).length)

/-- VACC (R227, R228): an integer row half to FP32, or an FP32 row copied to lanes 0 to 31. -/
def execVacc (tile : Fin 16) (s : State) : Out :=
  .next (s.engineOp tile.val 1 13 anyTime fun w s =>
    let t := tile.val
    let bank := bitsOf w 16 14
    let half := bitsOf w 6 6
    if s.accFault t bank half (w.testBit 7) then s.tileFault t tfOperand 2
    else
      let f := s.bankFmt t bank
      let rowN := bitsOf w 13 8
      if f < 2 then
        let row := s.accRow t bank rowN half
        let s := if w.testBit 7 then s.sigRead t (row.map (·.1)) else s
        s.setVreg t (vdOf w) (ofLanes 32 (row.map fun e => FpFmt.fp32.bits (FpV.ofInt e.1))) (ofMarks 32 (row.map (·.2)))
      else
        let cs := List.range 32
        s.setVreg t (vdOf w) (ofLanes 32 (cs.map fun c => s.accAt t f bank rowN c)) (ofMarks 32 (cs.map fun c => s.accMark t f bank rowN c)))

/-- VPARAM (R227, R228): 64 parameter entries of 8 bytes; a shift above 63 is TILE_OPERAND. -/
def execVparam (tile : Fin 16) (errs : List (Nat × LineErr)) (s : State) : Out :=
  .next (s.engineOp tile.val 1 14 anyTime fun w s =>
    let t := tile.val
    let a := s.vaReg t (bitsOf w 16 14)
    let h := bitsOf w 13 13
    if 512 < a % 512 + 8 then s.tileFault t tfOperand 2
    else
      let r := s.readChecked t ((List.range 8).map fun i => a + i) errs
      let es := r.1.flatMap fun l => (List.range 8).map fun i => laneAt 64 l.1 i
      if es.any fun p => decide (63 < p / 2 ^ 32 % 256) then r.2.tileFault t tfOperand 2
      else r.2.tileSet t fun k => { k with
        params := if h = 0 then es ++ k.params.drop 64 else k.params.take 64 ++ es
        paramM := k.paramM.set h (r.1.any (·.2)) })

/-- VSPL (R227). -/
def execVspl (tile : Fin 16) (s : State) : Out :=
  .next (s.engineOp tile.val 1 15 anyTime fun w s =>
    let imm := bitsOf w 16 1
    let v := if w.testBit 0 then imm * 65536 else ofSigned 32 (toSigned 16 imm)
    s.setVreg tile.val (vdOf w) (ofLanes 32 (List.replicate 64 v)) 0)

/-- VSETA (R227): a line index beyond 24,575 is TILE_ADDR. -/
def execVseta (tile : Fin 16) (s : State) : Out :=
  .next (s.engineOp tile.val 1 16 anyTime fun w s =>
    if 24575 < bitsOf w 14 0 then s.tileFault tile.val tfAddr 2 else s.setVa tile.val (bitsOf w 21 19) (bitsOf w 14 0))

/-- VPMAP (R227): the poison bits of 2,048 lines from VA; lines past the last read 0. -/
def execVpmap (tile : Fin 16) (s : State) : Out :=
  .next (s.engineOp tile.val 1 17 anyTime fun w s =>
    let t := tile.val
    let a := s.vaReg t (bitsOf w 16 14)
    let lane : Nat → Nat := fun i => (List.range 32).foldl (fun x k =>
      let l := a + 32 * i + k
      if l < 24576 ∧ s.linePoison t l then x + 2 ^ k else x) 0
    s.setVreg t (vdOf w) (ofLanes 32 ((List.range 64).map lane)) 0)

end Sys2Proof.Machine
end

