-- ==== Sys2Proof/Machine/MoveEngine.lean ====
section
/-! DEFINITION. The move engine (R229, R232 to R234, R237) and the grants of the memory controller (R85, R86). -/

namespace Sys2Proof.Machine

/-- MSETD (R229): 16 bits of a descriptor register. -/
def execMsetd (tile : Fin 16) (s : State) : Out :=
  .next (s.engineOp tile.val 2 1 anyTime fun w s =>
    let d := bitsOf w 21 19
    let p := 2 ^ (16 * bitsOf w 18 17)
    s.tileSet tile.val fun k =>
      let old := k.dd.getD d 0
      { k with dd := k.dd.set d (old - old / p % 65536 * p + bitsOf w 15 0 * p) })

/-- A descriptor as DL: first line, lines; the fault it makes, 0 if none (R229). -/
def dlFault (d : Nat) : Nat :=
  let n := bitsOf d 28 16
  if n = 0 ∨ 4096 < n then tfOperand else if 24576 < bitsOf d 14 0 + n then tfAddr else 0

/-- The queue of a shift slot can take another shift (R232). -/
def shiftRoom (t : Nat) (w : Nat) (s : State) : Bool := decide (((s.tile t).shiftsOf (bitsOf w 21 19)).length < 4)

/-- Issue a shift: the move engine is free again at once, the shift stays outstanding (R232). -/
def State.issue (s : State) (t q : Nat) (h : Shift) : State :=
  s.tileSet t fun k => { setShifts k q (k.shiftsOf q ++ [h]) with cur := k.cur.set 2 none }

/-- Issue an MLOAD (kind 0) or MSTORE (kind 1). -/
def State.issueMem (s : State) (t kind w : Nat) : State :=
  let k := s.tile t
  let dm := k.dd.getD (bitsOf w 18 16) 0
  let dl := k.dd.getD (bitsOf w 15 13) 0
  if dm % 64 ≠ 0 ∨ bitsOf dm 63 48 ≠ 0 then s.tileFault t tfOperand 3
  else if dlFault dl ≠ 0 then s.tileFault t (dlFault dl) 3
  else s.issue t (bitsOf w 21 19) ⟨kind, slotSt 2 w, dm, bitsOf dl 14 0, bitsOf dl 28 16, 0, 0, 0, s.now, s.faultPc t 3⟩

/-- Issue an MSEND (kind 2) or MRECV (kind 3). -/
def State.issuePeer (s : State) (t kind w : Nat) : State :=
  let k := s.tile t
  let dl := k.dd.getD (bitsOf w 18 16) 0
  let dp := k.dd.getD (bitsOf w 15 13) 0
  if bitsOf dp 3 0 = t then s.tileFault t tfPeer 3
  else if dlFault dl ≠ 0 then s.tileFault t (dlFault dl) 3
  else s.issue t (bitsOf w 21 19) ⟨kind, slotSt 2 w, 0, bitsOf dl 14 0, bitsOf dl 28 16, 0, bitsOf dp 3 0, bitsOf dp 6 4, s.now, s.faultPc t 3⟩

/-- MLOAD (R229, R233): memory or shelf to tile store. -/
def execMload (tile : Fin 16) (s : State) : Out :=
  .next (s.engineOp tile.val 2 2 (shiftRoom tile.val) fun w s => s.issueMem tile.val 0 w)

/-- MSTORE (R229, R233): tile store to memory or shelf. -/
def execMstore (tile : Fin 16) (s : State) : Out :=
  .next (s.engineOp tile.val 2 3 (shiftRoom tile.val) fun w s => s.issueMem tile.val 1 w)

/-- MSEND (R229, R233): tile store to another tile. -/
def execMsend (tile : Fin 16) (s : State) : Out :=
  .next (s.engineOp tile.val 2 4 (shiftRoom tile.val) fun w s => s.issuePeer tile.val 2 w)

/-- MRECV (R229, R233): another tile to tile store. -/
def execMrecv (tile : Fin 16) (s : State) : Out :=
  .next (s.engineOp tile.val 2 5 (shiftRoom tile.val) fun w s => s.issuePeer tile.val 3 w)

/-- MFENCE (R229): waits until the named queues have no shift outstanding. -/
def execMfence (tile : Fin 16) (s : State) : Out :=
  .next (s.engineOp tile.val 2 6
    (fun w s => let k := s.tile tile.val; if w.testBit 18 then k.noShift else (k.shiftsOf (bitsOf w 21 19)).isEmpty)
    fun _ s => s)

/-! ### Beats -/

/-- Put the head shift of a queue back with `n` more lines moved now. -/
def State.advance (s : State) (t q n : Nat) : State :=
  s.tileSet t fun k => match k.shiftsOf q with
    | h :: rest => setShifts k q ({ h with done := h.done + n, at_ := s.now } :: rest)
    | [] => k

/-- The job that runs on a tile has read or written poison (R186). -/
def State.jobPoison (s : State) (t : Nat) : State :=
  s.dspSet fun d => { d with jobs := d.jobs.map fun j => if j.started && j.tiles.contains t then { j with poison := true } else j }

/-- Bytes a tile writes to memory count as its job's output. -/
def State.jobWrote (s : State) (t n : Nat) : State :=
  s.dspSet fun d => { d with jobs := d.jobs.map fun j => if j.started && j.tiles.contains t then { j with out := j.out + n } else j }

/-- An error of the tile store at the source line of a shift; on its way none, as an error there is another's. -/
def State.sourceError (s : State) (t l : Nat) : Option BeatErr → State
  | some (.line e) => s.lineError t l e
  | _ => s

/-- What a line meets on its way, and whether it arrives as poison (R79, R191, R192). -/
def State.wayError (s : State) (n a : Nat) : Option BeatErr → Bool × State
  | some (.mem e) => s.meetError n a e
  | _ => (false, s)

/-- Move one 64-byte line of a memory or shelf shift, with what it meets (R233, R234). The data of a line that DRAM has lost are open. -/
def State.moveLine (s : State) (t q : Nat) (h : Shift) (err : Option BeatErr) : State :=
  let n := s.tenantOf t
  let a := h.addr + 64 * h.done
  let l := h.line + h.done
  if h.kind = 0 then
    let e := s.wayError n a err
    let r := e.2.readMem64 n a
    let lost := e.1 && err == some (.mem .dramUe)
    let d := r.2.draw 512
    let s := if lost then d.2 else r.2
    let mark := r.1.2 || e.1
    let s := s.doIf mark fun s => s.jobPoison t
    (s.writeLine t l (if lost then d.1 else r.1.1) mark).advance t q 1
  else
    let r := (s.sourceError t l err).readLine t l
    let e := if err = some (.mem .noc) then r.2.wayError n a err else (false, r.2)
    let mark := r.1.2 || e.1
    let s := e.2.doIf mark fun s => s.jobPoison t
    ((s.writeMem64 n a r.1.1 mark).jobWrote t 64).advance t q 1

/-- Move up to `n` lines of a shelf shift; `errs` names what they meet, by place. -/
def State.moveLines : Nat → Nat → List (Nat × BeatErr) → State → Nat → Nat → State
  | 0, _, _, s, _, _ => s
  | n + 1, i, errs, s, t, q =>
    match (s.tile t).shiftsOf q with
    | h :: _ =>
      if h.lines ≤ h.done then s
      else State.moveLines n (i + 1) errs (s.moveLine t q h ((errs.find? fun e => e.1 == i).map (·.2))) t q
    | [] => s

/-- The oldest shift of a queue. -/
def State.headShift (s : State) (t q : Nat) : Option Shift := ((s.tile t).shiftsOf q).head?

def TileSt.rxOf (k : TileSt) (q : Nat) : List RxLine := k.rx.getD q []

/-- Queue `q` of tile `t` sends a line: the receiver must have posted the matching shift, and its buffer of 2 KiB have room, which is the
credit for both beats (R233). -/
def State.sendLine (s : State) (t q : Nat) (err : Option BeatErr) : State :=
  match s.headShift t q with
  | none => s
  | some h =>
    match s.headShift h.peer h.peerQ with
    | none => s
    | some p =>
      if h.kind ≠ 2 ∨ h.lines ≤ h.done ∨ p.pairs 3 t q = false ∨ 32 ≤ ((s.tile h.peer).rxOf h.peerQ).length then s
      else
        let r := (s.sourceError t (h.line + h.done) err).readLine t (h.line + h.done)
        let e := if err = some (.mem .noc) then (true, r.2.nocError t) else (false, r.2)
        (e.2.advance t q 1).tileSet h.peer fun k => { k with rx := k.rx.set h.peerQ (k.rxOf h.peerQ ++ [⟨t, q, r.1.1, r.1.2 || e.1⟩]) }

/-- Queue `q` of tile `t` writes a line from its buffer, mark and all, which returns the credit (R233, R234). -/
def State.receiveLine (s : State) (t q : Nat) : State :=
  match s.headShift t q, (s.tile t).rxOf q with
  | some h, x :: rest =>
    if h.kind ≠ 3 ∨ h.lines ≤ h.done ∨ x.tile ≠ h.peer ∨ x.q ≠ h.peerQ then s
    else ((s.tileSet t fun k => { k with rx := k.rx.set q rest }).writeLine t (h.line + h.done) x.data x.mark).advance t q 1
  | _, _ => s

/-- A peer shift moves up to `n` lines: a sender as far as it has credit, a receiver what waits in its buffer and what the sender then can
send; nothing until the peer has posted the matching shift (R233, R252). -/
def State.movePeer : Nat → Nat → List (Nat × BeatErr) → State → Nat → Nat → State
  | 0, _, _, s, _, _ => s
  | n + 1, i, errs, s, t, q =>
    match s.headShift t q with
    | none => s
    | some h =>
      let err := (errs.find? fun e => e.1 == i).map (·.2)
      let s := if h.kind = 2 then s.sendLine t q err
        else (s.doIf ((s.tile t).rxOf q).isEmpty fun s => s.sendLine h.peer h.peerQ err).receiveLine t q
      State.movePeer n (i + 1) errs s t q

/-- The peer of a shift has posted the matching one under another tenant (R252). -/
def State.peerForeign (s : State) (t q : Nat) (h : Shift) : Bool :=
  match s.headShift h.peer h.peerQ with
  | some p => p.pairs (5 - h.kind) t q && s.tenantOf h.peer != s.tenantOf t
  | none => false

/-- Nothing of the shift remains to be done: its last line is written, or the peer has acknowledged it (R229, R232). -/
def State.shiftOver (s : State) (t q : Nat) (h : Shift) : Bool :=
  decide (h.lines ≤ h.done) && (h.kind != 2 || !(((s.tile h.peer).rxOf h.peerQ).any fun x => x.tile == t && x.q == q))

/-- The oldest shift of a queue ends: its token is signalled (R232). -/
def State.endShift (s : State) (t q : Nat) (h : Shift) : State :=
  (s.tileSet t fun k => setShifts k q (k.shiftsOf q).tail).signal t h.st h.pc 3

/-- SHIFT_COMPLETE: the oldest shift of a queue moves up to `count` lines of what remains of it (a memory shift only by the controller's
grants) and, once its last line has moved, completes (R232 to R234). `errs` names what these lines meet, by place. -/
def execShiftComplete (tile : Fin 16) (queue : Fin 8) (count : Nat) (errs : List (Nat × BeatErr)) (s : State) : Out :=
  .next (let t := tile.val
    let q := queue.val
    match s.headShift t q with
    | none => s
    | some h =>
      if s.tileLive t = false then s
      else if (h.kind = 3 ∧ errs.any fun e => e.2 == .overrun) ∨ (2 ≤ h.kind ∧ s.peerForeign t q h) then s.tileFaultAt t tfPeer h.pc 3
      else
        let s :=
          if 2 ≤ h.kind then State.movePeer count 0 errs s t q
          else if h.addr.testBit 47 then State.moveLines count 0 errs s t q
          else s
        match s.headShift t q with
        | some g => if s.shiftOver t q g then s.endShift t q g else s
        | none => s)

/-! ### Grants (R85, R86) -/

/-- The memory shifts at the head of their queues that still have lines to move: tile, queue, shift. -/
def State.memWaiting (s : State) : List (Nat × Nat × Shift) :=
  (List.range 16).flatMap fun t => (List.range 8).filterMap fun q =>
    match (s.tile t).shiftsOf q with
    | h :: _ => if s.tileLive t ∧ h.kind < 2 ∧ h.addr.testBit 47 = false ∧ h.done < h.lines then some (t, q, h) else none
    | [] => none

/-- The class of a tenant in the plan: 0 S, 1 Q, 2 B. -/
def State.planClass (s : State) (n : Nat) : Nat := ((s.ad.dsp.plan.find? fun p => p.n == n).map (·.cls)).getD 2

/-- The request to grant: of those whose tenants hold 64 tokens the first class, round-robin among its tenants, the
request that has waited longest. -/
def State.grantee (s : State) : Option (Nat × Nat × Shift) :=
  let w := s.memWaiting.filter fun r => decide (64 ≤ s.tokensOf (s.tenantOf r.1))
  let key : Nat × Nat × Shift → Nat := fun r =>
    let n := s.tenantOf r.1
    let c := s.planClass n
    (c * 16 + (n + 16 - s.ad.dsp.rr.getD c 0) % 16) * 2 ^ 64 + r.2.2.at_
  w.foldl (fun b r => match b with | none => some r | some x => if key r < key x then some r else some x) none

/-- MEMORY_GRANT: one 64-byte transfer takes 64 tokens (R85, R86, R109); DRAM must be trained. `err` is what it meets. -/
def execMemoryGrant (err : Option BeatErr) (s : State) : Out :=
  .next (if s.adLive ∧ s.isSet R.MC_TRAIN_DONE then
      let s := s.forN 16 fun n s => s.refill n
      match s.grantee with
      | some (t, q, h) =>
        let n := s.tenantOf t
        let s := (s.charge n 1).dspSet fun d => { d with rr := d.rr.set (s.planClass n) ((n + 1) % 16) }
        s.moveLine t q h err
      | none => s
    else s)

end Sys2Proof.Machine
end

