-- ==== Sys2Proof/Machine/Lux.lean ====
section
/-! DEFINITION. The light drive (R330 to R343, R358 to R362, R367 to R369): darkness, the lantern level, the control
cycle, and the channels' faults. -/

namespace Sys2Proof.Machine

/-! ### Darkness (R331) -/

/-- The lantern is dark by the sources DARK_SRC names. -/
def State.isDark (s : State) : Bool :=
  let sched := s.isSet R.LUX_DARK_SCHED || s.isSet R.LUX_DARK_SCHED_TO
  match s.getF R.LUX_CFG1_DARK_SRC with
  | 0 => s.lux.sensorDark
  | 1 => sched
  | _ => s.lux.sensorDark || sched

/-- A PIR pair is in demand or left it less than 10 s ago (R332). -/
def State.pirHeld (s : State) : Bool :=
  (List.range 4).any fun n => s.getF (R.SIO_USE_ROLE n) == 4 &&
    (s.pairDemand n || (match (s.sioPair n).leftAt with | some t => decide (s.now < t + 10 * secNs) | none => false))

/-! ### The lantern level (R332, R333) -/

/-- req(L) in units of 0.1 %. -/
def State.zoneReq (s : State) (L : Nat) : Nat :=
  let r := s.getF (R.LUX_ZREQ_REQ L)
  if s.isDark = false then r
  else
    let r := max r (10 * s.getF R.LUX_CFG0_FLOOR_DARK)
    if s.zoneBit L && !s.pirHeld && s.isSet R.SIO_SAFECTL_ON_B then r
    else max r (10 * s.getF R.LUX_CFG0_FLOOR_OCC)

/-- The lantern target T. -/
def State.luxTarget (s : State) : Nat := (List.range (s.getF R.LUX_CFG1_ZONES)).foldl (fun t L => max t (s.zoneReq L)) 0

/-- Show darkness, the PIR hold and T; a change of darkness is reported (R331, R369). -/
def State.luxShow (s : State) : State :=
  if s.on Dom.drive = false then s
  else
    let d := s.isDark
    let s := if s.isSet R.LUX_DARK_DARK = d then s
             else (((s.setF R.LUX_DARK_DARK (if d then 1 else 0)).raiseInt Ev.LUX_DARK R.LUX_INT_DARK (if d then 1 else 0)).doIf d fun s => s.stepFail 1)
    (s.setF R.LUX_DARK_PIR (if s.pirHeld then 1 else 0)).setF R.LUX_LEVEL_TARGET s.luxTarget

/-- LUX answers the clearing of a zone bit: where that raises T, the dim is pre-empted (R358). `old` is T before. -/
def State.luxPreempt (s : State) (old : Nat) : State :=
  if s.on Dom.drive = false then s
  else if old < s.luxTarget then (s.raiseInt Ev.LUX_PREEMPT R.LUX_INT_PREEMPT).setF R.LUX_LEVEL_TARGET s.luxTarget
  else s

/-- Bring ASY_ZONE to the bits that hold, and let LUX answer a bit that fell. `old` is T before the change. -/
def State.refreshZones (s : State) (old : Nat) : State :=
  let b := s.zoneBits
  if b = s.getF R.ASY_ZONE_BITS then s
  else ((s.setF R.ASY_ZONE_BITS b).flag R.ASY_INT_ZONE).luxPreempt old

/-- TRIP: a source registers, or its condition ends (R352, R357); the end of ASY_SELF's is the agreement of the Assay's copies (R307,
log entry 119). -/
def execTrip (src : Fin 13) (asserted : Bool) (s : State) : Out :=
  .next (if asserted then s.assertTrip src.val true
    else
      let old := s.luxTarget
      let s := s.endTrip src.val
      if src.val = Src.asySelf ∧ s.on Dom.core then (s.setF R.ASY_CTL_COPIES_OK 1).refreshZones old else s)

/-- Clear the bits, and reset the run counts, of the entries that `p` selects (R303, R304). -/
def State.clearZones (s : State) (p : Nat → Bool) : State :=
  let old := s.luxTarget
  (s.resetRuns p).refreshZones old

/-- Clear every bit and every run count. -/
def State.clearAllZones (s : State) : State := s.clearZones fun _ => true

/-- Clear what camera `c` feeds (R304). -/
def State.clearCamera (s : State) (c : Nat) : State := s.clearZones fun e => e % 4 == c

/-- Presence in camera zone `z` of camera `c` (R303). -/
def State.presence (s : State) (c z : Nat) : State := s.clearZones fun e => e % 4 == c && (s.zmap e).testBit z

/-! ### The occupancy floor trip (R343) -/

def State.chEnabled (s : State) (c : Nat) : Bool := s.bitF R.LUX_CTL_CH_EN c && !s.isSet R.CIL_STATUS_NOIMAGE
def State.chState (s : State) (c : Nat) : Nat := s.getF (R.LUX_ST_STATE c)

/-- Every enabled channel, of at least one, is LATCHED. -/
def State.allLatched (s : State) : Bool :=
  decide (s.getF R.LUX_CTL_CH_EN ≠ 0) && (List.range 2).all fun c => !s.chEnabled c || s.chState c == 5

/-- Some enabled channel is in RUN. -/
def State.someRun (s : State) : Bool := (List.range 2).any fun c => s.chEnabled c && s.chState c == 1

/-- Follow the conditions of LUX_SFL1 while light is required: latched channels at once, or no channel in RUN for 20 ms, which are
counted whether light is required or not (R343). -/
def State.sfl1Refresh (s : State) : State :=
  if s.on Dom.drive = false then s
  else
    let s := if s.someRun then s.disarm .sfl1 else if s.armed .sfl1 then s else s.arm .sfl1 (20 * msNs)
    if s.isDark && (s.allLatched || s.due .sfl1) then
      if s.bitF R.SIO_TRIPNOW_ACTIVE Src.luxSfl1 then s
      else (s.raiseInt Ev.LUX_SFL1 R.LUX_INT_SFL1).assertTrip Src.luxSfl1 true
    else if s.isDark = false ∨ s.someRun then s.followTrip Src.luxSfl1 false
    else s

/-- SFL1_TIMEOUT (R343). -/
def execSfl1Timeout (s : State) : Out := .next (if s.due .sfl1 then s.sfl1Refresh else s)

/-- Everything that follows from a change of darkness. -/
def State.luxDarkRefresh (s : State) : State := s.luxShow.sfl1Refresh

/-- LUX_DARK_WRITE: both inputs are refreshed (R331). -/
def execLuxDarkWrite (luxin : Nat) (sched : Bool) (s : State) : Out :=
  .next (s.access Dom.drive fun s =>
    let v := luxin % 65536
    let lim := s.getF R.LUX_CFG1_DARK_LUX
    let s := s.setFs [(R.LUX_DARK_LUXIN, v), (R.LUX_DARK_LUXIN_TO, 0), (R.LUX_DARK_SCHED, if sched then 1 else 0), (R.LUX_DARK_SCHED_TO, 0)]
    let s := (s.arm .luxin (2 * secNs)).arm .sched (60 * secNs)
    let s := if v < lim then { (s.disarm .lightHold) with lux := { s.lux with sensorDark := true } }
             else if v < 2 * lim then s.disarm .lightHold
             else if s.lux.sensorDark ∧ s.armed .lightHold = false then s.arm .lightHold (60 * secNs) else s
    s.luxDarkRefresh)

/-- LUXIN_TIMEOUT: no refresh for 2 s (R331). -/
def execLuxinTimeout (s : State) : Out :=
  .next (if s.due .luxin then
      let s := (((s.disarm .luxin).disarm .lightHold).setF R.LUX_DARK_LUXIN_TO 1).raise Ev.LUX_DARK_TO
      State.luxDarkRefresh { s with lux := { s.lux with sensorDark := true } }
    else s)

/-- SCHED_TIMEOUT: no refresh for 60 s (R331). -/
def execSchedTimeout (s : State) : Out :=
  .next (if s.due .sched then (((s.disarm .sched).setF R.LUX_DARK_SCHED_TO 1).raise Ev.LUX_DARK_TO).luxDarkRefresh else s)

/-- LIGHT_HOLD_EXPIRY: LUXIN has been at or above 2 × DARK_LUX for 60 s (R331). -/
def execLightHoldExpiry (s : State) : Out :=
  .next (if s.due .lightHold then
      let s := s.disarm .lightHold
      State.luxDarkRefresh { s with lux := { s.lux with sensorDark := false } }
    else s)

/-! ### Channel faults (R337 to R342) -/

def State.luxCh (s : State) (c : Nat) : LuxCh := s.lux.ch.getD c .init

def State.setCh (s : State) (c : Nat) (f : LuxCh → LuxCh) : State :=
  { s with lux := { s.lux with ch := s.lux.ch.set c (f (s.luxCh c)) } }

/-- A fault on the target of a failover in the cycle that sets it undoes the failover (R360). -/
def State.undoFailover (s : State) (c : Nat) : State :=
  let s := s.setCh c fun h => { h with failAt := some s.now }
  if (s.luxCh c).setAt = some s.now then (s.setF (R.LUX_ST_FAILOVER c) 0).setCh c fun h => { h with setAt := none } else s

/-- Failover onto the other channel of `c`, which has just become LATCHED (R342, R360). -/
def State.failover (s : State) (c : Nat) : State :=
  let d := 1 - c
  if s.isSet R.LUX_CTL_FAILOVER ∧ s.chEnabled d ∧ s.chState d ≠ 5 ∧ (s.luxCh d).failAt ≠ some s.now
      ∧ ¬ s.isSet (R.LUX_ST_FAILOVER d) then
    let lv := s.getF (R.LUX_ST_LEVEL d)
    ((s.setF (R.LUX_ST_FAILOVER d) 1).setCh d fun h => { h with fo := max s.lux.o (lv * 2 ^ 24), setAt := some s.now }).raiseInt
      Ev.LUX_FAILOVER R.LUX_INT_FAILOVER d
  else s

/-- The channel becomes LATCHED: its gate stays low until a safety reset (R341). -/
def State.latchCh (s : State) (c cause : Nat) : State :=
  let s := (s.undoFailover c).setFs
    [(R.LUX_ST_STATE c, 5), (R.LUX_ST_CAUSE c, cause), (R.LUX_ST_LEVEL c, 0)]
  ((s.disarm (.hiccup c)).raiseInt Ev.LUX_LATCHED R.LUX_INT_LATCHED c cause).failover c

/-- The channel enters FAULT_SC (2) or FAULT_OC (3): after three retries within 1 s it latches, else it retries after
2 ms (R341). -/
def State.chFault (s : State) (c st : Nat) : State :=
  let r := s.recent secNs (s.luxCh c).retryAt
  if 3 ≤ r.length then s.latchCh c (st - 1)
  else
    let s := (s.undoFailover c).setCh c fun h => { h with retryAt := r, ocRun := 0, ocThis := false }
    (s.setFs [(R.LUX_ST_STATE c, st), (R.LUX_ST_LEVEL c, 0)]).arm (.hiccup c) (2 * msNs)

/-- OC_TRIP: the comparator ended the on-time of this control cycle; the 64th in a row is FAULT_OC (R337). -/
def execOcTrip (ch : Fin 2) (s : State) : Out :=
  .next (let c := ch.val
    if s.on Dom.drive ∧ s.chState c = 1 ∧ (s.luxCh c).ocThis = false then
      let s := s.setCh c fun h => { h with ocThis := true, ocRun := h.ocRun + 1 }
      if 64 ≤ (s.luxCh c).ocRun then
        (((s.raiseInt Ev.LUX_OC R.LUX_INT_OC c).chFault c 3).setCh c fun h => { h with ocNew := true }).sfl1Refresh
      else s
    else s)

/-- SC_TRIP: the gate is pulled down and the channel enters FAULT_SC; the gate phase is recorded (R338). An overcurrent fault of the
same control cycle counts as this one (R359). -/
def execScTrip (ch : Fin 2) (ramp : Bool) (s : State) : Out :=
  .next (let c := ch.val
    if s.on Dom.drive ∧ s.chState c = 1 then
      let ph := if ramp then 1 else 2
      let s := (s.setF (R.LUX_ST_PHASE c) ph).raiseInt Ev.LUX_SC R.LUX_INT_SC c ph
      (s.chFault c 2).sfl1Refresh
    else if s.on Dom.drive ∧ (s.luxCh c).ocNew then
      let ph := if ramp then 1 else 2
      let s := ((s.setF (R.LUX_ST_PHASE c) ph).raiseInt Ev.LUX_SC R.LUX_INT_SC c ph).setCh c fun h => { h with ocNew := false }
      if s.chState c = 5 then s.setF (R.LUX_ST_CAUSE c) 1 else s.setF (R.LUX_ST_STATE c) 2
    else s)

/-- HICCUP_RETRY: 2 ms after FAULT_SC or FAULT_OC the channel retries (R341). -/
def execHiccupRetry (ch : Fin 2) (s : State) : Out :=
  .next (let c := ch.val
    if s.due (.hiccup c) then
      let s := (s.disarm (.hiccup c)).setCh c fun h => { h with retryAt := s.window secNs h.retryAt }
      (s.setF (R.LUX_ST_STATE c) (if s.lux.vgdLow then 4 else 1)).sfl1Refresh
    else s)

/-- VGD_UNDERVOLTAGE: both gates low, every running channel in FAULT_UV (R340). -/
def execVgdUndervoltage (s : State) : Out :=
  .next (if s.on Dom.drive = false then s
    else
      let s := { s with lux := { s.lux with vgdLow := true } }.raise Ev.LUX_VGD_UV
      (s.forN 2 fun c s => if s.chState c = 1 then s.setFs [(R.LUX_ST_STATE c, 4), (R.LUX_ST_LEVEL c, 0)] else s).sfl1Refresh)

/-- VGD_RECOVERY: VGD above 9.0 V for 1 ms (R340). -/
def execVgdRecovery (s : State) : Out :=
  .next (if s.on Dom.drive = false then s
    else
      let s := { s with lux := { s.lux with vgdLow := false } }
      (s.forN 2 fun c s => if s.chState c = 4 then s.setF (R.LUX_ST_STATE c) 1 else s).sfl1Refresh)

/-- LUX_COPY: the copies differ for more than 1 µs (R336). -/
def execLuxCopy (s : State) : Out :=
  .next (if s.on Dom.drive then (s.raise Ev.LUX_COPY).assertTrip Src.luxCopy false else s)

/-! ### The control cycle -/

/-- The change per control cycle at `rate` %/s, with 24 fraction bits (R334). -/
def perCycle (rate : Nat) : Nat := rate * 20 * 2 ^ 24 / 1000000

/-- One step of the limiter from `o` towards `t` (R334). -/
def limit (o t up dn : Nat) : Nat := if o < t then min t (o + up) else max t (o - dn)

/-- The level a channel gets from an output level with 24 fraction bits (R335). -/
def levelOf (o : Nat) : Nat :=
  let l := o / 2 ^ 24
  if 1 ≤ l ∧ l ≤ 9 then 10 else l

/-- The string comparators and the current monitor over one cycle (R339): the latch cause they give, 0 if none. -/
def State.chMeasure (s : State) (c vstr iavg : Nat) : State × Nat :=
  let lv := s.getF (R.LUX_ST_LEVEL c)
  let h := s.luxCh c
  let ov := if s.getF (R.LUX_STR_OV_CODE c) < vstr then h.ovRun + 1 else 0
  let uv := if vstr < s.getF (R.LUX_STR_UV_CODE c) ∧ 100 ≤ lv then h.uvRun + 1 else 0
  let set := lv * s.getF (R.LUX_CH_I_MAX_MA c)
  let diff := ((iavg * 1000 : Int) - set).natAbs
  let mon := if 100 ≤ lv ∧ set < 5 * diff then some (h.monAt.getD s.now) else none
  let oc := if h.ocThis then h.ocRun else 0
  let s := s.setCh c fun h => { h with ovRun := ov, uvRun := uv, monAt := mon, ocRun := oc, ocThis := false }
  let s := s.setFs [(R.LUX_MEAS_I_AVG_MA c, iavg), (R.LUX_MEAS_VSTR c, vstr)]
  let late := match mon with | some t => decide (t + 50 * msNs ≤ s.now) | none => false
  (s, if 10 ≤ ov then 3 else if 10 ≤ uv then 4 else if late then 5 else 0)

/-- The event of a latch cause. -/
def State.latchEvent (s : State) (c cause : Nat) : State :=
  match cause with
  | 3 => s.raiseInt Ev.LUX_OPEN R.LUX_INT_STRING c
  | 4 => s.raiseInt Ev.LUX_STR R.LUX_INT_STRING c
  | _ => s.raiseInt Ev.LUX_MON R.LUX_INT_MON c

/-- Measure one channel's cycle, if it runs; a latch cause counts as a fault of this cycle. Cycles in which it does not run break every
count of consecutive ones. -/
def State.judgeChannel (s : State) (c vstr iavg : Nat) : State × Nat :=
  if s.chEnabled c ∧ s.chState c = 1 then
    let r := s.chMeasure c (vstr % 4096) (iavg % 4096)
    if r.2 = 0 then r else ((r.1.undoFailover c).latchEvent c r.2, r.2)
  else (s.setCh c fun h => { h with ocThis := false, ocNew := false, ocRun := 0, ovRun := 0, uvRun := 0, monAt := none }, 0)

/-- Judge both channels' cycle, then latch; two latches in one cycle set no failover (R360). -/
def State.judgeChannels (s : State) (v0 v1 i0 i1 : Nat) : State :=
  let r := s.judgeChannel 0 v0 i0
  let q := r.1.judgeChannel 1 v1 i1
  let s := q.1.doIf (decide (r.2 ≠ 0)) fun s => s.latchCh 0 r.2
  s.doIf (decide (q.2 ≠ 0)) fun s => s.latchCh 1 q.2

/-- Give each channel its setpoint for the next cycle (R335, R342). -/
def State.applyLevels (s : State) (up dn : Nat) : State :=
  s.forN 2 fun c s =>
    if s.chEnabled c = false then s.setFs [(R.LUX_ST_STATE c, if s.chState c = 5 then 5 else 0), (R.LUX_ST_LEVEL c, 0)]
    else
      let s := s.doIf (s.chState c == 0) fun s => s.setF (R.LUX_ST_STATE c) (if s.lux.vgdLow then 4 else 1)
      if s.chState c = 1 then
        if s.isSet (R.LUX_ST_FAILOVER c) then
          let t := max s.lux.o (10 * s.getF R.LUX_CFG0_FAILOVER_LEVEL * 2 ^ 24)
          let f := limit (s.luxCh c).fo t up dn
          (s.setCh c fun h => { h with fo := f }).setF (R.LUX_ST_LEVEL c) (levelOf (max f s.lux.o))
        else s.setF (R.LUX_ST_LEVEL c) (levelOf s.lux.o)
      else s

/-- CONTROL_CYCLE: the comparators' measurements of the cycle are judged, then the limiter moves o towards T and the
channels get their setpoints for the next (R334 to R342). `v0`, `v1` are the string-voltage codes, `i0`, `i1` the average
currents in mA. -/
def execControlCycle (v0 v1 i0 i1 : Nat) (s : State) : Out :=
  .next (if s.on Dom.drive ∧ s.dueOrNew (.control 0) then
      let s := s.rearm (.control 0) (2 * usNs)
      let s := s.judgeChannels v0 v1 i0 i1
      let up := perCycle (s.getF R.LUX_CFG1_RAMP_UP)
      let dn := perCycle (s.getF R.LUX_CFG0_DIM_RATE)
      let s := (s.refreshZones (s.getF R.LUX_LEVEL_TARGET)).luxShow
      let s := { s with lux := { s.lux with o := limit s.lux.o (s.luxTarget * 2 ^ 24) up dn } }
      ((s.setF R.LUX_LEVEL_OUT (s.lux.o / 2 ^ 24)).applyLevels up dn).sfl1Refresh
    else s)

end Sys2Proof.Machine
end

