-- ==== Sys2Proof/Machine/Streak.lean ====
section
/-! DEFINITION. Streak (R285, R286, R288): which chunks of a run execute twice and under which transforms. -/

namespace Sys2Proof.Machine

/-- Chunk ID `i` of tenant `n`'s list. -/
def State.stkChunk (s : State) (n i : Nat) : Nat := s.getF (R.STK_CHUNKS_W (128 * n + i / 2)) / 65536 ^ (i % 2) % 65536

/-- Insert into an ascending list. -/
def insertNat (x : Nat) : List Nat → List Nat
  | [] => [x]
  | y :: l => if x ≤ y then x :: y :: l else y :: insertNat x l

def sortNat (l : List Nat) : List Nat := l.foldl (fun a x => insertNat x a) []

/-- The chunks selected in run number `runs` of tenant `n`, ascending (R285). -/
def State.stkSelect (s : State) (n runs : Nat) : List Nat :=
  let L := s.getF (R.STK_COV_L n)
  let k := s.stkNsel n
  if L = 0 then [] else sortNat ((List.range k).map fun i => s.stkChunk n ((runs * k % L + i) % L))

/-- Draw the transform of one chunk (R285). -/
def State.drawXform (s : State) (chunk : Nat) : Xform × State :=
  let ng := if s.isSet R.STK_CTL_NEGATE then s.draw 1 else (0, s)
  let rot := ng.2.isSet R.STK_CTL_ROTATE
  let r := if rot then ng.2.drawBelow 63 else (0, ng.2)
  let q := if rot then r.2.draw 6 else (0, r.2)
  (⟨chunk, if rot then 1 + r.1 else 0, q.1, decide (ng.1 ≠ 0)⟩, q.2)

/-- Draw the transforms of several chunks, in order. -/
def drawXforms : List Nat → State → List Xform × State
  | [], s => ([], s)
  | c :: cs, s =>
    let a := s.drawXform c
    let b := drawXforms cs a.2
    (a.1 :: b.1, b.2)

/-- The four bytes of a transform entry (R286). -/
def Xform.bytes (x : Xform) : List Byte :=
  leBytes 2 x.chunk ++ leBytes 1 (x.r % 64 + (if x.neg then 128 else 0)) ++ leBytes 1 (x.q % 64)

/-- The body of a STREAK_SET (R286). -/
def streakBody (cam ctr seed : Nat) (xf : List Xform) : List Byte :=
  leBytes 1 cam ++ leBytes 1 0 ++ leBytes 2 xf.length ++ leBytes 4 ctr ++ leBytes 4 seed ++ leBytes 4 0 ++ xf.flatMap Xform.bytes

/-- Send a STREAK_SET and enter the run in the run table (R286, R297). -/
def State.sendStreak (s : State) (n cam ctr seed : Nat) (xf : List Xform) : State :=
  let s := s.sendAd ⟨1, TT.streakSet, n, 0, ctr % 65536, streakBody cam ctr seed xf⟩
  let s := s.wrapInc (R.STK_RUNS_RUNS n)
  { s with asy := { s.asy with runs := s.asy.runs ++ [⟨n, cam, ctr, seed, xf, [], 0, false, 0, none, false⟩] } }

/-- A non-zero random seed. -/
def State.drawSeed (s : State) : Nat × State := let p := s.drawBelow (2 ^ 32 - 1); (p.1 + 1, p.2)

/-- STK's part of a frame start: the draw and the STREAK_SET of one S tenant; nothing while the random generator is
unhealthy (R285, R286, R324). -/
def State.streakRun (s : State) (n cam ctr : Nat) : State :=
  if s.isSet R.STK_RNG_OK = false ∨ s.getF (R.STK_COV_L n) = 0 then s
  else
    let k := n * 4 + cam
    let runs := Sparse.get 0 s.asy.stkRuns k
    let s := { s with asy := { s.asy with stkRuns := Sparse.put s.asy.stkRuns k (runs + 1) } }
    let sd := s.drawSeed
    let x := drawXforms (s.stkSelect n runs) sd.2
    x.2.sendStreak n cam ctr sd.1 x.1

/-- Tenant `n` is an S tenant that is present and subscribes to camera `c`. -/
def State.subscribesS (s : State) (n c : Nat) : Bool :=
  decide (s.getF (R.TEN_STATE_STATE n) ≠ 0) && s.getF (R.TEN_STATE_CLASS n) == 0 && (s.cfg Img.TENANTS_CAMERAS n).testBit c

end Sys2Proof.Machine
end

