-- ==== Sys2Proof/Machine/Ingress.lean ====
section
/-! DEFINITION. Camera ingress (R112 to R132, R138 to R145): frames, stamps, forwarding, the Flint copy and camera
health. -/

namespace Sys2Proof.Machine

def State.ingCam (s : State) (c : Nat) : IngCam := s.ing.cams.getD c .init

def State.setCam (s : State) (c : Nat) (f : IngCam → IngCam) : State :=
  { s with ing := { s.ing with cams := s.ing.cams.set c (f (s.ingCam c)) } }

def State.setFrame (s : State) (c : Nat) (f : IngFrame) : State := s.setCam c fun k => { k with frame := some f }

/-- Payload bytes of a line (R113). -/
def lineBytes (dtype width : Nat) : Nat :=
  match dtype with
  | 0 => width * 5 / 4
  | 1 => width * 3 / 2
  | _ => width * 2

/-- The CSI-2 code of a DTYPE field value (R112). -/
def dtCode (dtype : Nat) : Nat :=
  match dtype with
  | 0 => 0x2B
  | 1 => 0x2C
  | _ => 0x1E

/-- The geometry is one the data type accepts (R113). -/
def geomOk (dtype w h : Nat) : Bool :=
  match dtype with
  | 0 => decide (320 ≤ w ∧ w ≤ 4096 ∧ w % 4 = 0 ∧ 240 ≤ h ∧ h ≤ 4096 ∧ h % 2 = 0)
  | 1 => decide (320 ≤ w ∧ w ≤ 4096 ∧ w % 2 = 0 ∧ 240 ≤ h ∧ h ≤ 4096 ∧ h % 2 = 0)
  | 2 => decide (160 ≤ w ∧ w ≤ 4096 ∧ w % 2 = 0 ∧ 120 ≤ h ∧ h ≤ 4096)
  | _ => false

/-- The receiver takes packets: its domain has power and it is enabled. -/
def State.rxOn (s : State) (rx : Nat) : Bool := s.on Dom.ingress && s.bitF R.ING_CTL_RX_EN rx

/-- The enabled camera on a receiver and virtual channel; a packet with non-zero VCX bits has a channel from 4 on, on which there is
none (R112, R119, log entry 106). -/
def State.camOn (s : State) (rx vc : Nat) : Option Nat :=
  (List.range 4).find? fun c =>
    s.isSet (R.ING_CAM_CFG_EN c) && s.getF (R.ING_CAM_CFG_PORT c) == rx && s.getF (R.ING_CAM_CFG_VC c) == vc

/-- The camera whose frame in progress came on that receiver and channel: a write of its pair acts at its next frame start (R139). -/
def State.frameOn (s : State) (rx vc : Nat) : Option Nat :=
  (List.range 4).find? fun c => match (s.ingCam c).frame with | some f => f.rx == rx && f.chan == vc | none => false

/-- The frame in progress on a receiver and channel, with its camera. -/
def State.frameAt (s : State) (rx vc : Nat) : Option (Nat × IngFrame) :=
  (s.frameOn rx vc).bind fun c => (s.ingCam c).frame.map fun f => (c, f)

/-- A dropped packet counts for the camera on its receiver and channel, if one exists, and else for the receiver (R119). -/
def State.dropPacket (s : State) (rx vc : Nat) : State :=
  match (s.frameOn rx vc).or (s.camOn rx vc) with
  | some c => s.satInc (R.ING_CAM_ERR_DROP c)
  | none => s.satInc (R.ING_RXST_DROP rx)

/-- What the lanes do about a packet: a packet needs them out of ULPS (R112, R145). -/
def State.rxLanes (s : State) (rx : Nat) (l : LaneNote) : State :=
  let s := if l.deskew then s.setF (R.ING_RXST_DESKEWED rx) 1 else s
  s.setF (R.ING_RXST_ULPS rx) (if l.ulps then 1 else 0)

/-- The frame takes a status: the first found is its STATUS (R117). -/
def IngFrame.mark (f : IngFrame) (code : Nat) : IngFrame :=
  { f with status := if f.status = 0 then code else f.status, errmask := f.errmask ||| 2 ^ code }

/-! ### Trailers and health -/

/-- A trailer (R117): `code` is its DTYPE byte, `lb` the bytes of a line. -/
def trailerOf (cam status errmask ctr fs fe code lines lb bytes : Nat) (blocks : List Nat) : List Byte :=
  let l := leBytes 1 cam ++ leBytes 1 status ++ leBytes 2 errmask ++ leBytes 4 ctr ++ leBytes 4 fs ++ leBytes 4 fe
    ++ leBytes 1 code ++ leBytes 1 0 ++ leBytes 2 lines ++ leBytes 2 lb
    ++ leBytes 2 blocks.length ++ leBytes 4 bytes ++ leBytes 4 0 ++ blocks.flatMap (leBytes 4)
  l ++ leBytes 4 (crc32c l)

/-- The trailer of a frame. -/
def trailerBytes (c : Nat) (f : IngFrame) (fe : Nat) : List Byte :=
  let blocks := if f.lines % 16 = 0 then f.blocks else f.blocks ++ [(~~~f.crc).toNat]
  trailerOf c f.status f.errmask f.ctr f.fs fe (dtCode f.dtype) f.lines (lineBytes f.dtype f.width) f.bytes blocks

/-- The Assay keeps the last 8 trailers of each camera (R297). -/
def State.stamp (s : State) (t : Stamp) : State :=
  let own := (s.asy.stamps.filter fun q => q.cam == t.cam) ++ [t]
  let rest := s.asy.stamps.filter fun q => !(q.cam == t.cam)
  { s with asy := { s.asy with stamps := rest ++ own.drop (own.length - 8) } }

/-- The camera becomes UNHEALTHY: the Assay clears what it feeds, and the run of OK frames begins anew (R131, R304, log entry 109). -/
def State.camUnhealthy (s : State) (c : Nat) : State :=
  let s := (s.setCam c fun k => { k with okAt := none }).setF (R.ING_CAM_STAT_OK_RUN c) 0
  if s.isSet (R.ING_CAM_STAT_HEALTH c) then s
  else (((s.setF (R.ING_CAM_STAT_HEALTH c) 1).raiseInt Ev.ING_CAM_UNHEALTHY R.ING_INT_UNHEALTHY c).clearCamera c)

/-- Health after a frame of the given status; OVERFLOW and ABORTED do not count (R131, R145). -/
def State.camHealth (s : State) (c status : Nat) : State :=
  let s := s.setF (R.ING_CAM_STAT_LAST c) status
  let s := s.doIf (decide (status ≠ 0)) fun s =>
    (s.flag R.ING_INT_FRAMEBAD).setCam c fun k => { k with nokAt := s.window secNs k.nokAt }
  if status = 7 ∨ status = 10 then s
  else if status = 0 then
    let n := min (s.getF (R.ING_CAM_STAT_OK_RUN c) + 1) 65535
    let t := (s.ingCam c).okAt.getD s.now
    let s := (s.setF (R.ING_CAM_STAT_OK_RUN c) n).setCam c fun k => { k with okAt := some t }
    if s.isSet (R.ING_CAM_STAT_HEALTH c) ∧ 30 ≤ n ∧ t + 2 * secNs ≤ s.now then
      (s.setF (R.ING_CAM_STAT_HEALTH c) 0).raiseInt Ev.ING_CAM_HEALTHY R.ING_INT_HEALTHY c
    else s
  else
    let bad := s.window secNs (s.ingCam c).badAt
    let s := (s.setCam c fun k => { k with badAt := bad, okAt := none }).setF (R.ING_CAM_STAT_OK_RUN c) 0
    let s := s.raise Ev.ING_FRAME_BAD c status
    if 4 ≤ bad.length then s.camUnhealthy c else s

/-- The trailers of this cycle's frame ends go out, in ascending camera number (R138). -/
def State.sendEnds (s : State) : State :=
  let l := s.ing.ends
  { s with ing := { s.ing with ends := [] } }.forL l fun p s => s.sendAd p.2

/-- Send the frame's trailer: on Sill where the frame was opened there, to the Assay always; FCNT takes its counter
(R122, R124). Where frames of several cameras may end in one cycle (`wait`), the trailer goes out at the cycle's end (R138). -/
def State.sendTrailer (s : State) (c : Nat) (f : IngFrame) (wait : Bool) : State :=
  let fe := s.tb2
  let s := s.doIf f.opened fun s =>
    let m : Msg := ⟨f.vc, TT.frameTrailer, noTenant, 0, f.ctr % 65536, trailerBytes c f fe⟩
    if wait then
      let l := s.ing.ends
      { s with ing := { s.ing with ends := l.filter (fun p => decide (p.1 ≤ c)) ++ (c, m) :: l.filter fun p => decide (c < p.1) } }
    else s.sendEnds.sendAd m
  let s := s.stamp ⟨c, f.ctr, f.fs, fe, f.status⟩
  let s := s.setF (R.ING_CAM_FCNT_FCNT c) f.ctr
  (s.setFrame c { f with trailed := true, fwd := false }).camHealth c f.status

/-- Forwarding of a frame ends early with a status; its trailer goes at once, stamping and the Flint copy go on (R124,
R126, R140). -/
def State.cutFrame (s : State) (c code : Nat) : State :=
  match (s.ingCam c).frame with
  | some f => if f.trailed ∨ f.opened = false then s else s.sendTrailer c (f.mark code) false
  | none => s

/-- An AD reset or an exit from WORK ends forwarding, in ascending camera number (R138, R140). -/
def State.abortForward (s : State) : State := s.sendEnds.forN 4 fun c s => s.cutFrame c 10

/-! ### The Flint copy (R128) -/

/-- The samples of a RAW10 line: four in five bytes, the low bits of all in the fifth. -/
def raw10 : List Byte → List Nat
  | a :: b :: c :: d :: e :: l =>
    (4 * a.toNat + e.toNat % 4) :: (4 * b.toNat + e.toNat / 4 % 4) :: (4 * c.toNat + e.toNat / 16 % 4)
      :: (4 * d.toNat + e.toNat / 64) :: raw10 l
  | _ => []

/-- The samples of a RAW12 line: two in three bytes, the low bits of both in the third. -/
def raw12 : List Byte → List Nat
  | a :: b :: c :: l => (16 * a.toNat + c.toNat % 16) :: (16 * b.toNat + c.toNat / 16) :: raw12 l
  | _ => []

/-- The Y bytes of a YUV422 line (UYVY order). -/
def ySamples : List Byte → List Nat
  | _ :: y :: l => y.toNat :: ySamples l
  | _ => []

/-- The luma sums of two RAW lines, quad by quad. -/
def quadSums : List Nat → List Nat → List Nat
  | a :: b :: l, c :: d :: m => (a + b + c + d) :: quadSums l m
  | _, _ => []

/-- The luma rows of a RAW frame: one per pair of lines. -/
def rawLuma (samples : List Byte → List Nat) : List (List Byte) → List (List Nat)
  | r0 :: r1 :: l => quadSums (samples r0) (samples r1) :: rawLuma samples l
  | _ => []

/-- The luma plane of a frame, row by row. -/
def lumaRows (dtype : Nat) (rows : List (List Byte)) : List (List Nat) :=
  match dtype with
  | 0 => rawLuma raw10 rows
  | 1 => rawLuma raw12 rows
  | _ => rows.map ySamples

/-- One pixel of the copy: the mean over its box, scaled to eight bits (R128). -/
def copyPixel (dtype : Nat) (luma : List (List Nat)) (wl hl u v : Nat) : Byte :=
  let x0 := u * wl / 160
  let x1 := (u + 1) * wl / 160
  let y0 := v * hl / 120
  let y1 := (v + 1) * hl / 120
  let n := (x1 - x0) * (y1 - y0)
  let sum := ((luma.drop y0).take (y1 - y0)).foldl (fun a r => ((r.drop x0).take (x1 - x0)).foldl (· + ·) a) 0
  let a := (sum + n / 2) / n
  BitVec.ofNat 8 (if dtype = 0 then a / 16 else if dtype = 1 then a / 64 else a)

/-- The 160 × 120 copy of a frame, row by row. -/
def flintPixels (f : IngFrame) : List Byte :=
  let luma := lumaRows f.dtype f.rows
  let wl := if f.dtype = 2 then f.width else f.width / 2
  let hl := if f.dtype = 2 then f.height else f.height / 2
  (List.range 120).flatMap fun v => (List.range 160).map fun u => copyPixel f.dtype luma wl hl u v

/-! ### Frames -/

/-- The frame is over. The copy of a frame whose STATUS is not OK is not handed over, and last_copy is what it was (R129; log entry
47 on R126 and R140). -/
def State.frameOver (s : State) (c : Nat) (f : IngFrame) : State :=
  let good := decide (f.status = 0)
  let s := (s.setCam c fun k => { k with
    frame := none
    done := if f.copy ∧ good then some ⟨f.ctr, f.fs, flintPixels f, s.now⟩ else k.done
    lastCopy := if f.copy ∧ !good then f.prevCopy else k.lastCopy })
  s.disarm (.fto c)

/-- Close the frame in progress with a status (0 for none); `fe` when a frame end closes it. -/
def State.closeFrame (s : State) (c code : Nat) (fe : Bool) : State :=
  match (s.ingCam c).frame with
  | none => s
  | some f =>
    let f := if code = 0 then f else f.mark code
    let s := if f.trailed then s else s.sendTrailer c f fe
    s.frameOver c f

/-- The copy test of R129 at a frame start. -/
def State.copyTest (s : State) (c fs : Nat) : Bool :=
  let k := s.ingCam c
  let fps := s.getF (R.FLT_CFG_FPS c)
  match k.lastCopy with
  | none => true
  | some t => k.copyFps != fps || decide (1000000000 / fps ≤ (fs + 2 ^ 32 - t) % 2 ^ 32 + 2000000)

/-- The ingress may forward a frame that starts now (R27, R125). -/
def State.mayForward (s : State) : Bool :=
  s.inWork && s.isSet R.SIL_STATUS_READY && (match s.sil.readyAt with | some t => decide (t < s.now) | none => false)

/-- The frame-open message (R116); `code` is its DTYPE byte. -/
def frameOpenBytes (cam code ctr fs : Nat) : List Byte :=
  let l := leBytes 1 cam ++ leBytes 1 code ++ leBytes 2 0 ++ leBytes 4 ctr ++ leBytes 4 fs
  l ++ leBytes 4 (crc32c l)

/-- Open the new frame of camera `c` (R121, R125, R129). A frame that comes too soon is stamped on Sill too, without payload (R124,
R143). -/
def State.openFrame (s : State) (c rx chan : Nat) : State :=
  let fs := s.tb2
  let ctr := (s.getF (R.ING_CAM_FCNT_FCNT c) + 1) % 2 ^ 32
  let k := s.ingCam c
  let fast := match k.lastFs with
    | some t => decide (s.now < t + s.getF (R.ING_CAM_TIME_MIN_FI_MS c) * msNs)
    | none => false
  let safe := s.isSet (R.ING_CAM_CFG_SAFE c)
  let opened := s.mayForward
  let fwd := !fast && opened
  let copy := !fast && s.copyTest c fs
  let dt := s.getF (R.ING_CAM_CFG_DTYPE c)
  let f : IngFrame :=
    { rx := rx, chan := chan, ctr := ctr, fs := fs, dtype := dt, width := s.getF (R.ING_CAM_GEOM_WIDTH c), height := s.getF (R.ING_CAM_GEOM_HEIGHT c),
      vc := if safe then 1 else 2, fwd := fwd, opened := opened, trailed := false, status := if fast then 8 else 0,
      errmask := if fast then 2 ^ 8 else 0, lines := 0, bytes := 0, blocks := [], crc := BitVec.allOnes 32, copy := copy,
      prevCopy := k.lastCopy, rows := [] }
  let s := s.setCam c fun k => { k with
    frame := some f, lastFs := some s.now, lastCopy := if copy then some fs else k.lastCopy, copyFps := s.getF (R.FLT_CFG_FPS c)
    quietAt := some s.now, rx := rx }
  let s := s.arm (.fto c) (s.getF (R.ING_CAM_TIME_FTO_MS c) * msNs)
  if opened then
    let s := s.sendEnds.sendAd ⟨f.vc, TT.frameOpen, noTenant, 0, ctr % 65536, frameOpenBytes c (dtCode dt) ctr fs⟩
    if fwd && safe then s.forN 16 fun n s => if s.subscribesS n c then s.streakRun n c ctr else s else s
  else s

/-- A packet header: a corrected one counts; the camera it names (R118, R119). -/
def State.hdrCount (s : State) (c : Nat) (h : HdrEcc) : State :=
  if h = .corrected then s.satInc (R.ING_CAM_ERR_HDR_CE c) else s

/-- A packet with an uncorrectable header is dropped; the frame it falls into takes HDR_UE (R118). -/
def State.hdrBad (s : State) (rx vc : Nat) : State :=
  match s.frameAt rx vc with
  | some (c, f) => if f.trailed then s else s.setFrame c (f.mark 1)
  | none => s

/-- FRAME_START (R118, R119, R121, R139, R141). The frame in progress on its channel, or of its camera on the camera's old channel, is
closed. -/
def execFrameStart (rx : Fin 2) (vc : Fin 16) (lanes : LaneNote) (hdr : HdrEcc) (s : State) : Out :=
  .next (if s.rxOn rx.val = false then s
    else
      let s := s.rxLanes rx.val lanes
      if hdr = .bad then s.hdrBad rx.val vc.val
      else
        let s := match s.frameOn rx.val vc.val with
          | some c => s.closeFrame c (if s.due (.fto c) then 5 else 4) false
          | none => s
        match s.camOn rx.val vc.val with
        | none => s.dropPacket rx.val vc.val
        | some c =>
          let s := s.hdrCount c hdr
          (s.closeFrame c (if s.due (.fto c) then 5 else 4) false).openFrame c rx.val vc.val)

/-- The kept payload of a line enters its block and, while the frame is forwarded, goes out on Sill in FRAME_DATA
messages of up to 2,040 bytes (R120, R123, R164). -/
def State.forwardLine (s : State) (c : Nat) (f : IngFrame) (p : List Byte) : State :=
  let crc := p.foldl (crcByte 0x82F63B78#32) f.crc
  let n := f.lines + 1
  let full := decide (n % 16 = 0)
  let g := { f with
    lines := n
    bytes := if f.fwd then f.bytes + p.length else f.bytes
    blocks := if full then f.blocks ++ [(~~~crc).toNat] else f.blocks
    crc := if full then BitVec.allOnes 32 else crc
    rows := if f.copy then f.rows ++ [p] else f.rows }
  let s := s.setFrame c g
  if f.fwd then
    s.forN ((p.length + 2039) / 2040) fun i s =>
      s.sendAd ⟨f.vc, TT.frameData, noTenant, 0, f.ctr % 65536,
        leBytes 1 c ++ leBytes 3 0 ++ leBytes 4 (f.bytes + 2040 * i) ++ (p.drop (2040 * i)).take 2040⟩
  else s

/-- Payload of a receiver that waits in its forward buffer: what its cameras' FRAME_DATA still queue for Sill (R126, log entry 45). -/
def State.fwdLevel (s : State) (rx : Nat) : Nat :=
  (s.sil.cd.txq.filter fun q => q.1.typ == TT.frameData && decide (byteAt q.1.body 0 < 4) && (s.ingCam (byteAt q.1.body 0)).rx == rx).foldl
    (fun a q => a + (q.1.body.length - 8)) 0

/-- The forward buffer of a receiver holds 64 KiB. When a line finds no room, forwarding of the receiver's frames ends with OVERFLOW
(R126). -/
def State.makeRoom (s : State) (rx : Nat) (f : IngFrame) (bytes : Nat) : State :=
  if f.fwd ∧ 65536 < s.fwdLevel rx + bytes then
    (s.forN 4 fun k s => match (s.ingCam k).frame with
      | some g => if g.rx = rx ∧ g.fwd then s.cutFrame k 7 else s
      | none => s).raiseInt Ev.ING_FWD_OVF R.ING_INT_FWDOVF rx
  else s

/-- A long packet of the camera's data type within a frame (R117, R120): of a bad checksum and a wrong length the checksum is found
first (log entry 107), and after 4,096 lines, for which a trailer has blocks, none is kept (log entry 105). -/
def State.takeLine (s : State) (c : Nat) (f : IngFrame) (payload : List Byte) (crcOk : Bool) : State :=
  let lb := lineBytes f.dtype f.width
  let p := payload.take lb
  let f := if crcOk then f else f.mark 2
  let f := if payload.length = lb ∧ f.lines < 4096 then f else f.mark 3
  let s := s.setFrame c f
  if 4096 ≤ f.lines then s
  else
    let s := s.makeRoom f.rx f p.length
    match (s.ingCam c).frame with
    | some f => s.forwardLine c f p
    | none => s

/-- LINE_PACKET: a packet between frame start and frame end: its header's channel and data type, its payload, and whether its checksum
holds (R112, R118 to R120, R123, R126). A line of the camera's type outside a frame is dropped and counted (log entry 106); a line-start
or line-end short packet has no effect, and a short packet of another type is dropped. -/
def execLinePacket (rx : Fin 2) (vc : Fin 16) (lanes : LaneNote) (hdr : HdrEcc) (dtype : Nat) (payload : List Byte)
    (crcOk : Bool) (s : State) : Out :=
  .next (if s.rxOn rx.val = false then s
    else
      let s := s.rxLanes rx.val lanes
      if hdr = .bad then s.hdrBad rx.val vc.val
      else match (s.frameOn rx.val vc.val).or (s.camOn rx.val vc.val) with
        | none => s.dropPacket rx.val vc.val
        | some c =>
          let s := s.hdrCount c hdr
          if dtype = 2 ∨ dtype = 3 then s
          else if dtype < 0x18 then s.dropPacket rx.val vc.val
          else match s.frameAt rx.val vc.val with
            | none => s.dropPacket rx.val vc.val
            | some (c, f) =>
              if dtype ≠ dtCode f.dtype then (if f.trailed then s else s.setFrame c (f.mark 6))
              else s.takeLine c f payload crcOk)

/-- FRAME_END (R120, R124): a wrong line count is GEOMETRY; a frame end without a frame is dropped. -/
def execFrameEnd (rx : Fin 2) (vc : Fin 16) (lanes : LaneNote) (hdr : HdrEcc) (s : State) : Out :=
  .next (if s.rxOn rx.val = false then s
    else
      let s := s.rxLanes rx.val lanes
      if hdr = .bad then s.hdrBad rx.val vc.val
      else match s.frameAt rx.val vc.val with
        | some (c, f) => (s.hdrCount c hdr).closeFrame c (if f.lines = f.height then 0 else 3) true
        | none =>
          let s := match s.camOn rx.val vc.val with | some c => s.hdrCount c hdr | none => s
          s.dropPacket rx.val vc.val)

/-- FRAME_TIMEOUT (R141). -/
def execFrameTimeout (cam : Fin 4) (s : State) : Out :=
  .next (if s.due (.fto cam.val) then s.closeFrame cam.val 5 false else s)

/-- CAMERA_SILENCE: no frame start for SILENCE_MS while the camera is enabled (R131). -/
def execCameraSilence (cam : Fin 4) (s : State) : Out :=
  .next (match (s.ingCam cam.val).quietAt with
    | some t =>
      if t + s.getF (R.ING_CAM_SIL_SILENCE_MS cam.val) * msNs ≤ s.now then
        ((s.setCam cam.val fun k => { k with quietAt := none }).raise Ev.ING_CAM_SILENT cam.val).camUnhealthy cam.val
      else s
    | none => s)

/-- FLINT_COPY: the finished copy joins Flint's queue of two; a third displaces the older (R129, R130). -/
def execFlintCopy (cam : Fin 4) (s : State) : Out :=
  .next (let c := cam.val
    match (s.ingCam c).done with
    | none => s
    | some k =>
      let s := s.setCam c fun q => { q with done := none }
      let s := s.wrapInc (R.ING_CAM_COPY_COPIED c)
      let q := s.flt.queue.getD c []
      let past := decide (2 ≤ q.length)
      let q' := (if past then q.drop 1 else q) ++ [{ k with at_ := s.now }]
      let s := { s with flt := { s.flt with queue := s.flt.queue.set c q' } }
      s.doIf past fun s => (s.satInc (R.ING_CAM_COPY_DROPPED c)).raiseInt Ev.ING_COPY_DROP R.ING_INT_COPYDROP c)

/-- PHY_ERROR: counted, and the frames in progress on the receiver take PHY (R143). -/
def execPhyError (rx : Fin 2) (s : State) : Out :=
  .next (if s.rxOn rx.val = false then s
    else
      let s := (s.satInc (R.ING_RXST_SOT_ERR rx.val)).raiseInt Ev.ING_PHY_ERR R.ING_INT_PHY rx.val
      s.forN 4 fun c s =>
        match (s.ingCam c).frame with
        | some f => if f.rx = rx.val ∧ f.trailed = false then s.setFrame c (f.mark 9) else s
        | none => s)

/-- The configuration that registers would hold is allowed (R113). -/
def State.camCfgOk (s : State) (c en port vc dt w h : Nat) : Bool :=
  decide (dt ≤ 2) && (en == 0 || (geomOk dt w h && (List.range 4).all fun k =>
    k == c || !s.isSet (R.ING_CAM_CFG_EN k) || s.getF (R.ING_CAM_CFG_PORT k) != port || s.getF (R.ING_CAM_CFG_VC k) != vc))

/-- A refused configuration write (R113). -/
def State.camRefuse (s : State) (c : Nat) : State := s.raiseInt Ev.ING_CFG_REFUSED R.ING_INT_CFGREFUSED c

/-- CAMERA_CONFIG_WRITE: a write of ING_CAMn.CFG, or of GEOM (R113, R139). Clearing EN ends a frame with ABORTED. -/
def execCameraConfigWrite (cam : Fin 4) (geom : Bool) (data : Word) (s : State) : Out :=
  .next (s.keyed Dom.ingress 7 fun s =>
    let c := cam.val
    let d := data.toNat
    if geom then
      let w := d % 8192
      let h := d / 65536 % 8192
      if s.camCfgOk c (s.getF (R.ING_CAM_CFG_EN c)) (s.getF (R.ING_CAM_CFG_PORT c)) (s.getF (R.ING_CAM_CFG_VC c))
          (s.getF (R.ING_CAM_CFG_DTYPE c)) w h then
        (s.setF (R.ING_CAM_GEOM_WIDTH c) w).setF (R.ING_CAM_GEOM_HEIGHT c) h
      else s.camRefuse c
    else
      let en := d % 2
      let port := d / 2 % 2
      let vc := d / 4 % 4
      let dt := d / 16 % 4
      if s.camCfgOk c en port vc dt (s.getF (R.ING_CAM_GEOM_WIDTH c)) (s.getF (R.ING_CAM_GEOM_HEIGHT c)) then
        let was := s.isSet (R.ING_CAM_CFG_EN c)
        let s := if was ∧ en = 0 then (s.closeFrame c 10 false).setCam c fun k => { k with quietAt := none }
                 else if was = false ∧ en = 1 then s.setCam c fun k => { k with quietAt := some s.now } else s
        s.setFs [(R.ING_CAM_CFG_EN c, en), (R.ING_CAM_CFG_PORT c, port), (R.ING_CAM_CFG_VC c, vc), (R.ING_CAM_CFG_DTYPE c, dt)]
      else s.camRefuse c)

end Sys2Proof.Machine
end

