-- ==== Sys2Proof/Machine/AdReset.lean ====
section
/-! DEFINITION. The AD reset (R28, R95, R140, R172, R308, R549, R561): what it clears and in which order, and the trust
state it leaves. -/

namespace Sys2Proof.Machine

/-- A timer that runs on the AD or on the link to it: an AD reset stops it. -/
def Timer.ofAd : Timer → Bool
  | .swapLimit _ => true
  | .stopLimit _ => true
  | .scrub _ => true
  | .slew => true
  | .mr4 => true
  | .wck => true
  | .slot => true
  | .major => true
  | .stopLead => true
  | .trainStep => true
  | .trainRetry => true
  | .ackTimer _ => true
  | .replay _ => true
  | .pmAck => true
  | .wakeHeld => true
  | .ready => true
  | .stateAck _ => true
  | .frameReport => true
  | .qualRecord => true
  | .vout => true
  | .voutPoll => true
  | .planAck => true
  | _ => false

/-- The link layer as it is before training; memory requests stay outstanding, to end by their time-out (R172). -/
def SilState.cut (l : SilState) : SilState :=
  { SilState.init with reqs := l.reqs, memWait := l.memWait, nextTag := l.nextTag, fastAt := l.fastAt, upAt := l.upAt, recAt := l.recAt, evAt := l.evAt }

/-- The link off. -/
def State.linkOff (s : State) : State :=
  (s.silSet SilState.cut).setFs [(R.SIL_STATUS_STATE, 0), (R.SIL_STATUS_LANES, 0), (R.SIL_STATUS_READY, 0)]

/-! ### Tenants as the CD holds them (R95) -/

def tnAbsent : Nat := 0
def tnLoading : Nat := 1
def tnReady : Nat := 2
def tnRunning : Nat := 3
def tnSuspended : Nat := 4
def tnFaulted : Nat := 5
def tnResetting : Nat := 6

def State.tnState (s : State) (n : Nat) : Nat := s.getF (R.TEN_STATE_STATE n)

/-- Move a tenant to a state; the transition is reported (R95). -/
def State.setTenant (s : State) (n st : Nat) : State :=
  if s.tnState n = st then s
  else ((s.setF (R.TEN_STATE_STATE n) st).setBitF R.TEN_FAULTED_MASK n (st == tnFaulted)).raise Ev.TEN_STATE n st

def State.tenantSt (s : State) (n : Nat) : TenantSt := s.ten.tenants.getD n .init
def State.tenantSet (s : State) (n : Nat) (f : TenantSt → TenantSt) : State :=
  { s with ten := { s.ten with tenants := s.ten.tenants.set n (f (s.tenantSt n)) } }

/-- A tenant is gone: its state, its ring indices and what TEN tracked of it. -/
def State.dropTenant (s : State) (n : Nat) : State :=
  let s := (s.setTenant n tnAbsent).tenantSet n fun t => { t with cmd := none, again := false, wasReset := false }
  s.forN 4 fun q s => (s.setF (R.TEN_SQHD_HEAD (4 * n + q)) 0).setF (R.TEN_CQHD_HEAD (4 * n + q)) 0

/-! ### Trust (R308) -/

/-- Move the trust state. Entry into PROBATION starts the clean count from 0; the window of refutations starts anew with
each state (log entry 24). A verdict of this cycle still goes by the state before (R319). -/
def State.setTrust (s : State) (st : Nat) : State :=
  let old := s.getF R.ASY_TRUST_STATE
  if old = st then s
  else
    let t := s.luxTarget
    let was := match s.asy.trustWas with | some (t0, w) => if t0 = s.now then w else old | none => old
    let s := { s with asy := { s.asy with refutedAt := [], trustWas := some (s.now, was) } }.setFs [(R.ASY_TRUST_STATE, st), (R.ASY_TRUST_CLEAN, 0)]
    let s := s.raiseInt Ev.ASY_TRUST R.ASY_INT_TRUST st old
    if st = 0 then (s.resetRuns fun _ => true).refreshZones t else s.refreshZones t

/-! ### The reset -/

/-- What goes before the reset reaches the AD: the zone bits are cleared first (R28), forwarding ends (R140), the AD is
DISTRUSTED (R308). -/
def State.adBefore (s : State) : State := s.clearAllZones.abortForward.setTrust 0

/-- What is lost with the AD's logic: the audit, the timers, the link, an operating-point change, the dispatcher and the tiles,
which start at P3 again, as the PMU knows; and, unless it is retained, the DRAM. -/
def State.adLose (s : State) (keepDram : Bool) : State :=
  let s := { s with ten := { s.ten with first := true, passed := none, audit := none, waiting := none } }
  let s := { s with timers := s.timers.filter fun p => !p.1.ofAd }
  let s := s.linkOff
  let s := { s with pmu := { s.pmu with dvfs := none, dvfsHeld := false, told := (3, List.replicate 16 3), domRst := [] } }.setF R.PMU_DVFS_BUSY 0
  let s := { s with
    ad := .init, dram := if keepDram then s.dram else [], shelf := [], asy := { s.asy with qual := none, qualBad := false },
    cil := { s.cil with loads := [], resident := if keepDram then s.cil.resident else [] } }
  (s.clearRegs 0x80000000 0x150000).setF R.ASY_TRUST_QUAL 0

/-- Record an AD reset in SYS_ADRST (R561). -/
def State.adCount (s : State) (cause : Nat) : State := (s.setF R.SYS_ADRST_CAUSE cause).wrapInc R.SYS_ADRST_COUNT

/-- An AD reset of a cause of R561: every tenant goes ABSENT (R95, R311). The reset line stays asserted until training
begins. -/
def State.adReset (s : State) (cause : Nat) : State :=
  ((s.adBefore.adCount cause).forN 16 fun n s => s.dropTenant n).adLose false

/-- The AD reset of an entry into WORK: SUSPENDED tenants wait for their LOADING (R95), and retained DRAM keeps its contents
(R211). -/
def State.adEntryReset (s : State) : State :=
  ((s.adBefore.adCount 1).forN 16 fun n s => if s.tnState n = tnSuspended then s else s.dropTenant n).adLose
    (s.isSet R.PMU_STATE_RETAINED)

/-- Bits of DOMST that are AD domains: AD_CTL, AD_SHELF, AD_MEM, AD_UPD and the tiles. -/
def adDomains : List Nat := (List.range 20).map fun i => 7 + i

/-- The AD's domains are switched off. -/
def State.adDomainsOff (s : State) : State := s.forL adDomains fun d s => s.setBitF R.PMU_DOMST_ON d false

/-- Tile `t` is used by a slot of the loaded slot plan (R556). -/
def State.tileUsed (s : State) (t : Nat) : Bool :=
  (List.range (4 * s.cfg Img.SLOTS_MAJOR_MS 0)).any fun n =>
    s.cfgPresent Img.SLOTS_PLAN n && decide (s.cfg Img.SLOTS_PLAN n / 256 ^ t % 256 ≠ 0xFF)

/-- The domains of tiles that no slot of the plan uses are switched off, at once (R19, R88, R523). -/
def State.dropTiles (s : State) : State :=
  s.forN 16 fun t s => if s.tileUsed t then s else s.setBitF R.PMU_DOMST_ON (Dom.tile t) false

def State.tilesUsed (s : State) : List Nat := (List.range 16).filter s.tileUsed

end Sys2Proof.Machine
end

