-- ==== Sys2Proof/Machine/Belief.lean ====
section
/-! DEFINITION. Trust and escalation (R308, R309, R311, R314, R322): ladder reports, demotion and the AD resets they
bring. -/

namespace Sys2Proof.Machine

def State.asySet (s : State) (f : AsyState → AsyState) : State := { s with asy := f s.asy }

def hourNs : Nat := 3600 * secNs

/-- Escalation resets of the last 60 minutes. -/
def State.escalations (s : State) : List Nat := s.recent hourNs s.asy.resetsAt

/-- The Assay gives up: the AD stays in reset with its domains off (R314). -/
def State.giveUp (s : State) : State :=
  ((s.adReset 3).adDomainsOff.setF R.ASY_TRUST_QUAL 4).raiseInt Ev.ASY_AD_GIVEUP R.ASY_INT_GIVEUP

/-- An AD reset requested by the Assay: held off by debug (R171), the fifth within 60 minutes is not made (R314).
`counted` says whether it counts as an escalation. -/
def State.requestAdReset (s : State) (counted : Bool) : State :=
  if s.isSet R.SIL_DBG_EN then s.setF R.ASY_TRUST_QUAL 5
  else if s.on Dom.adCtl = false then s
  else if counted ∧ 4 ≤ s.escalations.length then s.giveUp
  else
    let s := s.doIf counted fun s => s.asySet fun a => { a with resetsAt := s.window hourNs a.resetsAt }
    ((s.adReset 3).setF R.ASY_TRUST_QUAL 1).raise Ev.ASY_AD_RESET s.escalations.length

/-- The AD becomes DISTRUSTED, and the escalation reset is requested (R308, R311). -/
def State.distrust (s : State) : State :=
  if s.getF R.ASY_TRUST_STATE = 0 then s else (s.setTrust 0).requestAdReset true

/-- A failed qualification: back to step 1 of R311, within the budget. -/
def State.qualFail (s : State) : State :=
  ((s.asySet fun a => { a with qual := none, qualBad := false }).disarm .qualRecord
    |>.raiseInt Ev.ASY_QUAL_FAIL R.ASY_INT_QUALFAIL).flag R.ASY_INT_QUALDONE |>.requestAdReset true

/-- A ladder report of a block (LCK_KEY order): counted whatever the trust state; the first demotes to PROBATION, the
fourth within 1 s distrusts (R308, R309). -/
def State.ladder (s : State) (block : Nat) : State :=
  let l := s.window secNs s.asy.ladderAt
  let s := (s.asySet fun a => { a with ladderAt := l }).setF R.ASY_LADDER_LAST block
  let s := s.satInc R.ASY_LADDER_TOTAL
  match s.getF R.ASY_TRUST_STATE with
  | 0 => s
  | st => if 4 ≤ l.length then s.distrust else if st = 2 then s.setTrust 1 else s.setF R.ASY_TRUST_CLEAN 0

/-- A report marked "DISTRUSTED at once"; it counts as a report too. -/
def State.ladderAtOnce (s : State) (block : Nat) : State := (s.ladder block).distrust

/-- Block numbers of the reporters. -/
def bPmu : Nat := 1
def bCil : Nat := 2
def bTen : Nat := 3
def bAsy : Nat := 4
def bSil : Nat := 8

/-- A partition violation (R110): counted, reported with its code; the escalation is the caller's. -/
def State.tenViolCount (s : State) (code : Nat) : State :=
  ((s.satInc R.TEN_VIOL_COUNT).setF R.TEN_VIOL_LAST code).flag R.TEN_INT_VIOL

def State.tenViol (s : State) (code : Nat) : State := ((s.tenViolCount code).raise Ev.TEN_VIOL code).ladder bTen

/-- A verdict's weight on trust (R308): a BELIEVED record counts in PROBATION, PROMOTE_CLEAN of them promote; refutations
demote. -/
def State.trustVerdict (s : State) (believed refuted : Bool) : State :=
  let st := s.getF R.ASY_TRUST_STATE
  if believed then
    if st = 1 then
      let s := s.satInc R.ASY_TRUST_CLEAN
      if s.getF R.ASY_CFG2_PROMOTE_CLEAN ≤ s.getF R.ASY_TRUST_CLEAN then s.setTrust 2 else s
    else s
  else if refuted then
    let l := s.window secNs s.asy.refutedAt
    let s := s.asySet fun a => { a with refutedAt := l }
    let s := if st = 1 then s.setF R.ASY_TRUST_CLEAN 0 else s
    if s.getF R.ASY_CFG1_DEMOTE_REFUTED ≤ l.length then
      if st = 2 then s.setTrust 1 else if st = 1 then s.distrust else s
    else s
  else s

/-- An ASY command that R322 refuses. -/
def State.asyRefused (s : State) : State := s.flag R.ASY_INT_REFUSED

/-- DEMOTE (R308, R322). -/
def execDemote (s : State) : Out :=
  .next (s.access Dom.core fun s => if s.getF R.ASY_TRUST_STATE = 2 then s.setTrust 1 else s.asyRefused)

/-- DISTRUST (R308, R322). -/
def execDistrust (s : State) : Out :=
  .next (s.access Dom.core fun s => if s.getF R.ASY_TRUST_STATE = 0 then s.asyRefused else s.distrust)

/-- The AD's domains are switched on again; its tiles follow one by one (R523). -/
def State.adDomainsOn (s : State) : State :=
  s.forL [7, 8, 9] fun d s => s.setBitF R.PMU_DOMST_ON d true

/-- RETRY (R314, R322): after giving up, a new attempt that does not count; refused while a qualification runs, and when
the AD was not given up. -/
def execRetry (s : State) : Out :=
  .next (s.access Dom.core fun s =>
    if s.getF R.ASY_TRUST_QUAL = 4 ∧ s.inWork then s.adDomainsOn.requestAdReset false else s.asyRefused)

/-- CLEARZONES (R322). -/
def execClearzones (s : State) : Out := .next (s.access Dom.core fun s => s.clearAllZones)

/-- ASSAY_SELF_CHECK: the copies differ for more than 1 µs, or a table error cannot be corrected (R307, R324). -/
def execAssaySelfCheck (copies : Bool) (s : State) : Out :=
  .next (if s.on Dom.core then
      ((s.doIf copies fun s => s.setF R.ASY_CTL_COPIES_OK 0).clearAllZones.raise Ev.ASY_SELF).assertTrip Src.asySelf copies
    else s)

/-- STK_RNG_FAIL (R324): no STREAK_SET is sent while the generator is unhealthy, which it stays until STK is reset (log entry 119). -/
def execStkRngFail (s : State) : Out :=
  .next (if s.on Dom.core then
      ((s.satInc R.STK_RNG_FAILS).setF R.STK_RNG_OK 0).raiseInt Ev.STK_RNG_FAIL R.STK_INT_RNGFAIL
    else s)

end Sys2Proof.Machine
end

