-- ==== Sys2Proof/Machine/CodeImage.lean ====
section
/-! DEFINITION. Code images: the boot loader (SKBT) and the dispatcher firmware (SKDF), their layout, their check and the
selection between two slots (R527 to R529). -/

namespace Sys2Proof.Machine

/-- The header of a code image (R528). -/
structure CodeHdr where
  seq     : Nat
  load    : Nat
  entry   : Nat
  bodyLen : Nat
  hash    : List Byte
deriving DecidableEq, Repr

def codeHdr (h : List Byte) : CodeHdr :=
  ⟨fieldAt h 0x10 4, fieldAt h 0x14 4, fieldAt h 0x18 4, fieldAt h 0x1C 4, (h.drop 0x20).take 32⟩

/-- The 64 header bytes hold what R528 states; `boot` for SKBT, otherwise SKDF. -/
def codeHdrOk (boot : Bool) (h : List Byte) : Bool :=
  let c := codeHdr h
  decide (h.take 4 = if boot then [0x53, 0x4B, 0x42, 0x54] else [0x53, 0x4B, 0x44, 0x46])
    && fieldAt h 4 2 == 1 && fieldAt h 6 2 == 64 && fieldAt h 8 4 == 64 + c.bodyLen + 136
    && fieldAt h 0xC 2 == 0x1640 && fieldAt h 0xE 2 == 0 && c.seq != 0
    && c.entry % 2 == 0 && decide (c.entry < c.bodyLen) && c.bodyLen % 4 == 0 && decide (4 ≤ c.bodyLen)
    && (if boot then c.load % 4 == 0 && decide (0x10000000 ≤ c.load ∧ c.bodyLen ≤ 196608 ∧ c.load + c.bodyLen ≤ 0x10080000)
        else c.load == 0 && decide (c.bodyLen ≤ 262144))

/-- The signature block verifies (R528, steps 5 and 6 of R44). -/
def State.codeSigned (s : State) (boot : Bool) (img : List Byte) (bodyLen : Nat) : Bool :=
  let b := img.drop (64 + bodyLen)
  let slot := b.take 1
  (boot || leNat slot == 0) && ((b.drop 1).take 7).all (fun x => x == 0)
    && (signatureFault s.keys (some slot) (some ((b.drop 8).take 64)) (some ((b.drop 72).take 64))
        (img.take (64 + bodyLen))).isNone

/-- The code image at flash offset `a`, if a valid one stands there. -/
def State.codeAt (s : State) (boot : Bool) (a : Nat) : Option CodeHdr :=
  let h := s.flashBytes a 64
  if codeHdrOk boot h then
    let c := codeHdr h
    let img := s.flashBytes a (200 + c.bodyLen)
    if sha256 ((img.drop 64).take c.bodyLen) = c.hash ∧ s.codeSigned boot img c.bodyLen then some c else none
  else none

/-- Flash offsets of the code slots (R527). -/
def codeSlotAt (boot : Bool) (k : Nat) : Nat :=
  if boot then (if k = 0 then 0 else 0x40000) else if k = 0 then 0x210000 else 0x410000

/-- The slot selected and its image: the valid one with the higher SEQ, A when they are equal (R529). -/
def State.selectCode (s : State) (boot : Bool) : Option (Nat × CodeHdr) :=
  match s.codeAt boot (codeSlotAt boot 0), s.codeAt boot (codeSlotAt boot 1) with
  | some a, some b => if a.seq < b.seq then some (1, b) else some (0, a)
  | some a, none => some (0, a)
  | none, some b => some (1, b)
  | none, none => none

/-- The body of a code image. -/
def State.codeBody (s : State) (boot : Bool) (k : Nat) (c : CodeHdr) : List Byte :=
  s.flashBytes (codeSlotAt boot k + 64) c.bodyLen

end Sys2Proof.Machine
end

