-- ==== Sys2Proof/Machine/SillLink.lean ====
section
/-! DEFINITION. The Sill link layer (R147 to R159, R161, R172, R175 to R177): training, retraining, receiving at both ends, violations,
and the load of the dispatcher firmware (R543). -/

namespace Sys2Proof.Machine

/-! ### Violations (R177) -/

/-- Count and report a link violation; `typ` is the offending TTYPE. -/
def State.silCount (s : State) (code typ : Nat) : State :=
  (((s.satInc R.SIL_VIOL_COUNT).setF R.SIL_VIOL_LAST code).flag R.SIL_INT_VIOL).raise Ev.SIL_VIOL code typ

/-- A violation on the ladder. -/
def State.silViol (s : State) (code typ : Nat) : State := (s.silCount code typ).ladder bSil

/-- Answer a violating message with NAK_MSG: code, TTYPE, SEQ of its first flit. -/
def State.nakMsg (s : State) (code typ seq : Nat) : State :=
  s.sendAd (mgmt TT.nakMsg 0 (leBytes 1 code ++ leBytes 1 typ ++ leBytes 2 seq ++ leBytes 4 0))

/-- A violation by a message: discarded, NAK_MSG, the ladder. -/
def State.silBadMsg (s : State) (code typ seq : Nat) : State := (s.nakMsg code typ seq).silViol code typ

/-! ### Training -/

def trainNs : Nat := 50 * usNs

/-- Receive buffers of the CD (R152). -/
def cdBuf : List Nat := [32, 128, 256, 128]
/-- Least receive buffers of the AD. -/
def adBufMin : List Nat := [16, 64, 128, 64]

/-- A queued message survives a full training: it has not been begun on the wire, and belongs neither to a memory request, which ends by
its time-out, nor to an entry or exit that the training ends (R172, R176). -/
def keptMsg (q : Msg × Nat) : Bool :=
  q.2 == q.1.flits && !([TT.memRd, TT.memWr, TT.memRdData, TT.memWrAck, TT.pmEnter, TT.pmAck, TT.resumeAck].contains q.1.typ)

/-- What a full training keeps of the link layer: queued messages not begun, and what lies above the link; requests outstanding go
unanswered (R165, R172). -/
def SilState.fresh (l : SilState) : SilState :=
  { SilState.init with
    cd := { LinkEnd.init with txq := l.cd.txq.filter keptMsg, free := cdBuf }, ad := { LinkEnd.init with txq := l.ad.txq.filter keptMsg },
    toAd := l.toAd.filter fun m => keptMsg (m, m.flits), toCd := l.toCd.filter fun q => keptMsg (q.1, q.1.flits),
    loadOwed := l.loadOwed, attempts := 1, fastAt := l.fastAt, step := 1,
    upAt := l.upAt, reqs := l.reqs, memWait := l.memWait, nextTag := l.nextTag, recAt := l.recAt, evAt := l.evAt }

/-- Stop the timers of the link. -/
def State.linkTimersOff (s : State) : State :=
  [Timer.trainStep, .trainRetry, .ackTimer false, .ackTimer true, .replay false, .replay true, .pmAck, .wakeHeld].foldl (fun s t => s.disarm t) s

/-- Begin a full training: both replay buffers and every partly received message are discarded, the record of the ready
report is cleared (R152, R155, R172); SPLL runs. -/
def State.startTraining (s : State) : State :=
  ((s.linkTimersOff.silSet SilState.fresh).setFs
    [(R.SIL_STATUS_STATE, 1), (R.SIL_STATUS_LANES, 0), (R.SIL_STATUS_READY, 0), (R.PMU_CLK_SPLL, 1)]).arm .trainStep trainNs

/-- A full training that R158 calls for counts one ladder step (R177). -/
def State.fullTraining (s : State) : State := s.startTraining.ladder bSil

/-- The link is DOWN: DISTRUSTED at once, and an AD reset (R152, R177 code 0x01). -/
def State.linkDown (s : State) : State :=
  let s := (s.linkTimersOff.setF R.SIL_STATUS_STATE 5).raiseInt Ev.SIL_DOWN R.SIL_INT_DOWN
  let s := (s.silCount 1 0).ladder bSil
  if s.linkState ≠ 5 then s
  else if s.getF R.ASY_TRUST_STATE ≠ 0 then s.distrust
  else s.requestAdReset true

/-- A training attempt has failed: the next one follows 100 µs later, three in all (R152). Steps 3 to 5 that fail in a fast retrain or
in the exit from SLEEP call for a full training (R158, log entry 112). -/
def State.attemptFails (s : State) : State :=
  if s.linkState ≠ 1 then s.fullTraining
  else
    let s := (s.disarm .trainStep).silSet fun l => { l with step := 0, rows := [] }
    if s.sil.attempts < 3 then s.arm .trainRetry (100 * usNs) else s.linkDown

/-- TRAINING_STEP_TIMEOUT: step 2 + `step` of R152 has not finished by its time. -/
def execTrainingStepTimeout (step : Fin 5) (s : State) : Out :=
  .next (match s.deadline .trainStep with
    | some d => if s.linkState = 1 ∧ s.sil.step < 2 + step.val ∧ d + 10 * usNs * (step.val + 1) ≤ s.now + trainNs then s.attemptFails else s
    | none => s)

/-- TRAINING_RETRY: the next of the three attempts. -/
def execTrainingRetry (s : State) : Out :=
  .next (if s.linkState = 1 ∧ s.due .trainRetry then
      (((s.disarm .trainRetry).silSet fun l => { l with attempts := l.attempts + 1, step := 1 }).setF R.SIL_STATUS_LANES 0).arm .trainStep trainNs
    else s)

/-- The link trains: from reset, in a fast retrain, or in the exit from SLEEP (R152, R154, R169). -/
def State.training (s : State) : Bool := (s.linkState == 1 || s.sil.fast || (s.linkState == 4 && s.sil.resumeAt.isSome))

/-- The lanes in use: 1 x8, 2 x4 low, 3 x4 high, 0 when both halves hold a failed lane (R152, R153). -/
def trainedLanes (failed : Nat) : Nat :=
  if failed = 0 then 1 else if failed % 16 = 0 then 2 else if failed / 16 = 0 then 3 else 0

/-- The code of TRN2 for lanes in use (R148). -/
def lanesCode (lanes : Nat) : Nat := if lanes = 1 then 0xFF else if lanes = 2 then 0x0F else 0xF0

/-- The lanes that cannot be used: no block lock, no TRN1 of the AD with the lane's number, or a skew beyond 4 row times (R148, R152). -/
def failedLanes (l : List (Option (Nat × List Byte))) : Nat :=
  (List.range 8).foldl (fun a i =>
    let good : Bool := match l.getD i none with
      | some (skew, b) => decide (skew ≤ 4) && b.take 3 == leBytes 1 0x4B ++ leBytes 1 i ++ leBytes 1 1 && (b.drop 4).all fun x => x == 0
      | none => false
    if good then a else a + 2 ^ i) 0

/-- The lanes that training chooses. A link in x4 stays so until the next full training (R153). -/
def State.chooseLanes (s : State) : Nat :=
  let f := s.sil.failed
  match (if s.linkState = 1 then 1 else s.getF R.SIL_STATUS_LANES) with
  | 2 => if f % 16 = 0 then 2 else 0
  | 3 => if f / 16 = 0 then 3 else 0
  | _ => trainedLanes f

/-- Step `k` of R152 has finished by its time; a fast retrain has 5 µs in all (R154). -/
def State.inTime (s : State) (k : Nat) : Bool :=
  match s.deadline .trainStep with
  | some d => if s.linkState = 1 then decide (s.now + trainNs ≤ d + 10 * usNs * (k - 1)) else decide (s.now ≤ d)
  | none => true

/-- A step has finished, and the CD sends the rows of the next. -/
def State.trained (s : State) (step : Nat) (rows : List CtlRow) : State := s.silSet fun l => { l with step := step, rows := rows }

/-- Step 4 (R148, R152): the lanes are settled, and the CD sends its INIT_FC. -/
def State.trn2 (s : State) (b : List Byte) : State :=
  let lanes := s.chooseLanes
  if lanes = 0 then s.attemptFails
  else if b.take 3 ≠ leBytes 1 0x55 ++ leBytes 1 1 ++ leBytes 1 (lanesCode lanes) then s
  else
    let s := ((s.setF R.SIL_STATUS_LANES lanes).trained 4 []).setLink true fun e => { e with cap := min 128 (byteAt b 3) }
    s.onWire false ({ s.sil.cd with free := cdBuf }.ctlFlit false 1)

/-- LINK_TRAINING: SB_ADRST_N is released, training begins, on the link and of the memory, and the APLL locks (R209, R542), or a step of it has finished (R148, R152, R209, R544). -/
def execLinkTraining (ev : TrainEv) (s : State) : Out :=
  .next (match ev with
    | .release =>
      if s.on Dom.sill ∧ s.on Dom.adCtl ∧ s.linkState = 0 then
        ((s.startTraining.silSet fun l => { l with loadOwed := true }).setFs [(R.ACG_STAT_LOCK, 1), (R.MC_TRAIN_STEP, 1)]).arm .ready (100 * msNs)
      else s
    | .clock =>
      if s.training ∧ s.sil.step = 1 then if s.inTime 2 = false then s.attemptFails else (s.setF R.PMU_CLK_SPLL 1).trained 2 [.trn1 s.sil.attempts] else s
    | .trn1 l =>
      if s.training ∧ s.sil.step = 2 then
        if s.inTime 3 = false then s.attemptFails
        else
        let f := failedLanes l
        let s := (s.silSet fun k => { k with failed := f }).doIf (decide (s.linkState = 1)) fun s =>
          s.setF R.SIL_STATUS_LANES (if f = 0 then 1 else 0)
        s.trained 3 [.trn2 (lanesCode s.chooseLanes) 128]
      else s
    | .trn2 b => if s.training ∧ s.sil.step = 3 then (if s.inTime 4 then s.trn2 b else s.attemptFails) else s)

/-- Step 5: the AD's INIT_FC, checked against the least sizes; only a full training takes it for the credits (R152 to R154, R177 code
0x02). -/
def State.initFc (s : State) (sizes : List Nat) : State :=
  if s.training ∧ s.sil.step = 4 then
    if s.inTime 5 = false then s.attemptFails
    else if (List.range 4).any fun v => decide (sizes.getD v 0 < adBufMin.getD v 0) then (s.silCount 2 0).attemptFails
    else
      let s := s.trained 5 []
      if s.linkState = 1 then
        (s.setLink false fun e => { e with cred := sizes }).setLink true fun e => { e with cred := cdBuf, free := sizes }
      else s
  else s

/-! ### The dispatcher firmware (R543) -/

/-- A CONFIG message with up to 2,040 bytes of data. -/
def configMsg (tag offset total : Nat) (l : List Byte) : Msg := mgmt TT.config tag (leBytes 4 offset ++ leBytes 4 total ++ l)

/-- Send the body in fragments from `off` on, `fuel` at most. The last fragment is sent only when the hash agrees, so
that nothing starts otherwise. -/
def State.sendBody : Nat → Nat → Nat → List Byte → Bool → State → State
  | 0, _, _, _, _, s => s
  | n + 1, off, total, l, ok, s =>
    if l.length ≤ 2040 then
      if ok then (s.sendAd (configMsg 0xFFFF (2 ^ 31 + off) total l)).setF R.SYS_ADLOAD_SENT total
      else (s.setF R.SYS_ADLOAD_FAIL 1).raise Ev.SYS_ADLOAD_FAIL
    else
      let s := (s.sendAd (configMsg 0xFFFF (2 ^ 31 + off) total (l.take 2040))).setF R.SYS_ADLOAD_SENT (off + 2040)
      State.sendBody n (off + 2040) total (l.drop 2040) ok s

/-- Load the selected SKDF image. -/
def State.loadFirmware (s : State) : State :=
  let s := (s.silSet fun l => { l with loadOwed := false }).setFs
    [(R.SYS_ADLOAD_SENT, 0), (R.SYS_ADLOAD_FAIL, 0), (R.SYS_ADLOAD_DONE, 0)]
  if s.isSet R.SYS_BOOT_DF_VALID then
    let k := s.getF R.SYS_BOOT_DF_SLOT
    let c := codeHdr (s.flashBytes (codeSlotAt false k) 64)
    let b := s.codeBody false k c
    s.sendBody (b.length / 2040 + 1) 0 c.bodyLen b (sha256 b == c.hash)
  else s

/-! ### ACTIVE -/

/-- LINK_UP: training has ended (R152, R153). -/
def execLinkUp (s : State) : Out :=
  .next (if s.linkState = 1 ∧ s.sil.step = 5 ∧ s.armed .trainStep ∧ s.due .trainStep = false then
      let lanes := s.getF R.SIL_STATUS_LANES
      let s := (s.disarm .trainStep).silSet fun l => { l with fastRow := 0, upAt := s.now, actNs := 0, idleAt := s.now, attempts := 0, step := 0 }
      let s := (s.setF R.SIL_STATUS_STATE 2).raiseInt Ev.SIL_UP R.SIL_INT_UP lanes
      let s := if lanes = 1 then s else s.raise Ev.SIL_DEGRADED lanes
      let s := (s.transmit false).transmit true
      if s.sil.loadOwed then s.loadFirmware else s
    else s)

/-! ### Entry into DOZE and SLEEP (R168) -/

/-- Begin an entry into DOZE (1) or SLEEP (2): PM_ENTER is sent, and 2 µs run for PM_ACK (R168). -/
def State.startEntry (s : State) (target : Nat) : State :=
  let m := mgmt TT.pmEnter 0 (leBytes 8 target)
  (((s.silSet fun l => { l with pmTarget := target, pmAcked := false, pmSpoilt := false, sleepWant := false }).setLink false fun e =>
    { e with txq := e.txq ++ [(m, m.flits)] }).arm .pmAck (2 * usNs)).transmit false

/-- No entry or resume is under way in ACTIVE. -/
def State.mayEnter (s : State) : Bool := s.linkActive && s.sil.pmTarget == 0 && !s.sil.awaitAck

/-- A SLEEP_REQ that had to wait is taken up as soon as the link may enter (R168). -/
def State.wantedSleep (s : State) : State := if s.sil.sleepWant ∧ s.mayEnter then s.startEntry 2 else s

/-! ### Fast retrain (R154, R157, R158) -/

/-- Start a fast retrain; the third in a row without 1 ms of ACTIVE between, or the eighth within 1 s, is a full training (R158). Flits
on their way are lost, and are replayed afterwards. Meanwhile SIL_STATUS keeps ACTIVE, for which the register table has no other code, and
the record of the ready report (log entry 111). -/
def State.startFast (s : State) : State :=
  if s.linkActive then
    let row := if s.sil.actNs + (s.now - s.sil.upAt) < msNs then s.sil.fastRow + 1 else 1
    let l := s.window secNs s.sil.fastAt
    let s := (s.satInc R.SIL_ERR_RETRAIN).raiseInt Ev.SIL_RETRAIN R.SIL_INT_RETRAIN
    let s := s.silSet fun k => { k with
      fast := true, fastRow := row, fastAt := l, step := 2, rows := [.trn1 1], wireAd := [], wireCd := [],
      cd := { k.cd with resent := 0, again := none, nakSent := false, pos := 0 },
      ad := { k.ad with resent := 0, again := none, nakSent := false, pos := 0 } }
    if 3 ≤ row ∨ 8 ≤ l.length then s.fullTraining
    else ((s.disarm (.replay false)).disarm (.replay true)).arm .trainStep (5 * usNs)
  else s

/-- Send an end's unacknowledged flits again, from SEQ `q` on (R154, R157). -/
def State.replayFrom (s : State) (ad : Bool) (q : Nat) : State :=
  let l := (s.link ad).replay.dropWhile fun p => p.1 != q
  if l.isEmpty then s
  else
    let s := (s.forL l fun p s => s.onWire ad p.2).silSet fun k => { k with idleAt := s.now }
    if (s.link ad).replay.head?.map (·.1) = some q then s.arm (.replay ad) (2 * usNs) else s

/-- After a fast retrain each side replays all it has not had acknowledged. -/
def State.replayAll (s : State) (ad : Bool) : State :=
  match (s.link ad).replay with
  | (q, _) :: _ => s.replayFrom ad q
  | [] => s

/-- FAST_RETRAIN: a fast retrain ends, in time with all its steps, or not; afterwards each side replays every unacknowledged flit (R154).
An entry into DOZE or SLEEP that it fell into goes on from step 3 (R176). -/
def execFastRetrain (s : State) : Out :=
  .next (if s.sil.fast ∧ s.armed .trainStep then
      if s.now > (s.deadline .trainStep).getD 0 then s.fullTraining
      else if s.sil.step ≠ 5 then s
      else
        let s := (s.disarm .trainStep).silSet fun l => { l with fast := false, upAt := s.now, actNs := 0, step := 0 }
        let s := s.doIf (decide (s.sil.pmTarget ≠ 0) && !s.sil.cd.queued TT.pmEnter) fun s =>
          (s.silSet fun l => { l with pmAcked := true }).disarm .pmAck
        let s := if s.getF R.SIL_STATUS_LANES ≠ 1 ∧ s.sil.failed ≠ 0 then s.raise Ev.SIL_DEGRADED (s.getF R.SIL_STATUS_LANES) else s
        ((((s.replayAll false).replayAll true).transmit false).transmit true).wantedSleep
    else s)

/-- The sync headers of 64 rows on a lane cost it block lock: 16 of them are bad. In a row whose lanes differ every lane that has not the
header most lanes have counts, on a draw all of them (R147, R177). -/
def lockLost (headers : List (List Nat)) (lane : Nat) : Bool :=
  let bad := headers.filter fun r =>
    let h := r.getD lane 0
    h = 0 || h = 3 || (rowKind r == .laneError && decide (2 * (r.filter fun x => x == h).length ≤ r.length))
  decide (16 ≤ bad.length)

/-- BLOCK_LOCK_LOST: the sync headers of 64 rows, lane by lane, show that a lane in use has lost block lock (R177). -/
def execBlockLockLost (headers : List (List Nat)) (s : State) : Out :=
  .next (
    let used := match s.getF R.SIL_STATUS_LANES with | 2 => [0, 1, 2, 3] | 3 => [4, 5, 6, 7] | _ => List.range 8
    if used.any (lockLost headers) then s.startFast else s)

/-- RETRAIN: SIL_CTL.RETRAIN (R178). -/
def execRetrain (s : State) : Out := .next (s.access Dom.sill fun s => s.startFast)

/-- FULLTRAIN: SIL_CTL.FULLTRAIN (R178). With the AD held in reset there is nothing to train. -/
def execFulltrain (s : State) : Out :=
  .next (s.access Dom.sill fun s => if s.linkState = 0 then s else s.startTraining)

/-- SILLRST: the link layer of both dies is reset, then a full training runs (R172, R176). -/
def execSillrst (s : State) : Out :=
  .next (s.access Dom.sill fun s => if s.linkState = 0 then s else s.startTraining)

/-! ### Acknowledgements, credits and replay (R151, R156, R157, R175) -/

/-- A CRC error at the CD: counted, reported; more than 16 within 1 ms start a fast retrain (R158, R177). -/
def State.crcError (s : State) : State :=
  let l := s.window msNs s.sil.crcAt
  let s := ((s.satInc R.SIL_ERR_CRC).raise Ev.SIL_CRC).silSet fun k => { k with crcAt := l }
  if 16 < l.length then s.startFast else s

/-- The flit in order is taken: the expected SEQ advances, an ACK follows after 16 flits or 0.5 µs (R156). -/
def State.takeSeq (s : State) (ad : Bool) : State :=
  let n := (s.link ad).rxUnack + 1
  let s := (s.setLink ad fun e => { e with rxExp := (e.rxExp + 1) % 1024, got := true, rxUnack := n, nakSent := false }).silSet fun l =>
    { l with idleAt := s.now }
  if 16 ≤ n then s.sendAck ad else if n = 1 then s.arm (.ackTimer ad) 500 else s

/-- Drop the flits up to SEQ `a` from the front of the replay buffer; none if `a` is not in it. -/
def ackReplay (a : Nat) (l : List (Nat × List Byte)) : List (Nat × List Byte) :=
  if l.any fun p => p.1 == a then (l.dropWhile fun p => !(p.1 == a)).drop 1 else l

/-- The cumulative ACK (R151, R157). -/
def State.applyAck (s : State) (ad : Bool) (ack : Nat) : State :=
  let old := (s.link ad).replay
  let l := if ack.testBit 15 then ackReplay (ack % 1024) old else old
  if l.length = old.length then s
  else
    let s := s.setLink ad fun e => { e with replay := l, resent := 0, again := if l.any (fun p => some p.1 == e.again) then e.again else none }
    if l.isEmpty then s.disarm (.replay ad) else s.arm (.replay ad) (2 * usNs)

/-- The cumulative credits of a VC (R151, R159). -/
def State.applyCred (s : State) (ad : Bool) (v total : Nat) : State :=
  s.setLink ad fun e => { e with
    credTot := e.credTot.set v total, cred := e.cred.set v (e.cred.getD v 0 + (total + 65536 - e.credTot.getD v 0) % 65536) }

/-- A replay is due from SEQ `q`; of two causes in one cycle the earlier SEQ counts. The oldest flit, resent four times without advance
of the ACK, starts a fast retrain (R157, R175). -/
def State.askReplay (s : State) (ad : Bool) (q : Nat) : State :=
  let e := s.link ad
  if e.replay.all (fun p => p.1 != q) then s
  else if e.replay.head?.map (·.1) = some q ∧ 4 ≤ e.resent then s.startFast
  else
    let first := (e.replay.find? fun p => p.1 == q || some p.1 == e.again).map (·.1)
    s.setLink ad fun e => { e with again := first }

/-- At the end of the cycle the replay that is due goes out, then what waited for it. -/
def State.replayDue (s : State) (ad : Bool) : State :=
  match (s.link ad).again with
  | some q =>
    if s.linkActive then
      let oldest := decide ((s.link ad).replay.head?.map (·.1) = some q)
      let s := s.setLink ad fun e => { e with again := none, resent := if oldest then e.resent + 1 else e.resent }
      (s.replayFrom ad q).transmit ad
    else s
  | none => s

/-- A link-control flit arrives: ACK first, then the credits and the NAK (R151, R175); of KIND 1 the sizes of the sender's buffers. -/
def State.takeCtl (s : State) (ad : Bool) (p : List Byte) : State :=
  let words := (List.range 4).map fun v => fieldAt p (4 + 2 * v) 2
  if byteAt p 12 = 1 then (if ad then s else s.initFc words)
  else if byteAt p 12 ≠ 0 ∨ s.linkActive = false then s
  else
    let nak := fieldAt p 2 2
    let s := s.applyAck ad (fieldAt p 0 2)
    let s := s.forN 4 fun v s => s.applyCred ad v (words.getD v 0)
    (s.doIf (nak.testBit 15) fun s => s.askReplay ad (nak % 1024)).transmit ad

/-! ### Receiving (R156, R159, R161, R162) -/

def State.setPart (s : State) (ad : Bool) (v : Nat) (p : Option PartMsg) : State := s.setLink ad fun e => { e with part := e.part.set v p }

/-- TTYPE codes that travel from the AD to the CD, with their VC (R163). -/
def cdBound : List (Nat × Nat) :=
  [(0x01, 0), (0x03, 0), (0x06, 0), (0x08, 0), (0x0A, 0), (0x0B, 0), (0x0C, 0), (0x0E, 0), (0x11, 0), (0x24, 1), (0x25, 2),
   (0x31, 3), (0x33, 3)]

/-- TTYPE codes that travel from the CD to the AD only. -/
def adBound : List Nat := [0x02, 0x04, 0x05, 0x07, 0x09, 0x0D, 0x0F, 0x10, 0x12, 0x20, 0x21, 0x22, 0x23, 0x30, 0x32]

/-- The message that the bytes of its flits spell, on VC `v`. -/
def msgOf (v : Nat) (l : List Byte) : Msg := ⟨v, byteAt l 0, byteAt l 6, byteAt l 7, fieldAt l 4 2, (l.drop 8).take (fieldAt l 2 2)⟩

/-- A whole message has arrived at the CD on VC `v`: its header is checked (R162, R163, R177). What is refused frees its buffer. -/
def State.wholeMsg (s : State) (v seq : Nat) (l : List Byte) : State :=
  let m := msgOf v l
  let len := fieldAt l 2 2
  let freed := fun (s : State) => s.freeFlits false v (l.length / 32)
  if 2048 < len ∨ l.length ≠ 32 * ((8 + len + 31) / 32) then (freed s).silBadMsg 4 m.typ seq
  else if adBound.contains m.typ then (((freed s).nakMsg 6 m.typ seq).silCount 6 m.typ).ladderAtOnce bSil
  else if cdBound.contains (m.typ, v) then
    (s.silSet fun k => { k with toCd := k.toCd ++ [(m, seq)] }).wrapInc (R.SIL_VCCNT_RXMSG v)
  else (freed s).silBadMsg 5 m.typ seq

/-- A violation in the middle of a message: its buffer is free, and unless this was its last flit the rest of it is discarded. -/
def State.spoilt (s : State) (f : Flit) (code : Nat) (p : PartMsg) : State :=
  let s := s.freeFlits false f.vc (p.data.length / 32)
  (s.setPart false f.vc (if f.eom then none else some { p with data := [], drop := true })).silBadMsg code p.typ p.seq

/-- An in-order data flit at the CD: credit, order of first and last flits, assembly (R159, R161, R162, R177). A flit without credit has
no place in the buffer. -/
def State.assemble (s : State) (f : Flit) : State :=
  let cur := s.sil.cd.part.getD f.vc none
  let new : PartMsg := ⟨f.seq, byteAt f.pay 0, [], false⟩
  let room := s.sil.cd.free.getD f.vc 0
  let took := fun (s : State) => s.setLink false fun e => { e with free := e.free.set f.vc (room - 1) }
  let whole := fun (s : State) (p : PartMsg) (d : List Byte) =>
    if f.eom then (s.setPart false f.vc none).wholeMsg f.vc p.seq d else s.setPart false f.vc (some { p with data := d })
  match cur, f.som with
  | some p, false =>
    if p.drop then (if f.eom then s.setPart false f.vc none else s)
    else if room = 0 then s.spoilt f 3 p
    else if s.sil.awaitAck then s.spoilt f 0xB p
    else whole (took s) p (p.data ++ f.pay)
  | some p, true =>
    let s := s.freeFlits false f.vc (p.data.length / 32)
    (s.setPart false f.vc (if f.eom then none else some { new with drop := true })).silBadMsg 4 p.typ p.seq
  | none, true =>
    if room = 0 then s.spoilt f 3 new
    else if s.sil.awaitAck then s.spoilt f 0xB new
    else whole (took s) new f.pay
  | none, false => s.spoilt f (if room = 0 then 3 else 4) new

/-- An in-order data flit at the AD. -/
def State.adAssemble (s : State) (f : Flit) : State :=
  let s := s.setLink true fun e => { e with free := e.free.set f.vc (e.free.getD f.vc 0 - 1) }
  let p : Option PartMsg := if f.som then some ⟨f.seq, byteAt f.pay 0, [], false⟩ else s.sil.ad.part.getD f.vc none
  match p with
  | none => s.freeFlits true f.vc 1
  | some p =>
    let d := p.data ++ f.pay
    if f.eom then (s.setPart true f.vc none).silSet fun l => { l with toAd := l.toAd ++ [msgOf f.vc d] }
    else s.setPart true f.vc (some { p with data := d })

/-- A flit arrives at an end (R156). -/
def State.takeFlit (s : State) (ad : Bool) (f : Flit) : State :=
  if f.good = false then
    let s := if ad then s else s.crcError
    if f.ft = 1 ∨ f.ft = 2 then s else s.sendNak ad
  else if f.ft = 1 then s.takeCtl ad f.pay
  else if s.linkActive = false ∨ f.ft = 2 then s
  else if f.ft = 3 then (if ad then s else s.silBadMsg 4 (byteAt f.pay 0) f.seq)
  else
    let d := (f.seq + 1024 - (s.link ad).rxExp) % 1024
    if d = 0 then (if ad then (s.takeSeq ad).adAssemble f else (s.takeSeq ad).assemble f)
    else if d ≤ 511 then s.sendNak ad
    else s.sendAck ad

/-- The next flit leaves the wire to an end. -/
def State.offWire (s : State) (ad : Bool) : State :=
  s.silSet fun l => if ad then { l with wireAd := l.wireAd.drop 1 } else { l with wireCd := l.wireCd.drop 1 }

/-- Arrival of a flit with the bytes given, in place of the next on the wire. The AD receives what the CD sends alone; what the CD receives
is the AD's. -/
def State.arrive (s : State) (ad : Bool) (f : Flit) : State :=
  if ad ∧ s.sil.wireAd = [] then s else (s.offWire ad).takeFlit ad f

/-- DATA_FLIT: a flit that is not link control arrives at an end, as its bytes and the sync headers of the rows that carry it show it; a
row with a lane error spoils it (R147, R156). -/
def execDataFlit (ad : Bool) (headers : List (List Nat)) (flit : List Byte) (s : State) : Out :=
  .next (
    let f := flitOf flit
    let f := { f with good := f.good && headers.all fun h => rowKind h == .data }
    if s.linkActive = false ∨ (f.good ∧ f.ft = 1) then s else s.arrive ad f)

/-- LINK_CONTROL_FLIT: a link-control flit arrives at an end (R151, R156, R157, R175). -/
def execLinkControlFlit (ad : Bool) (flit : List Byte) (s : State) : Out :=
  .next (
    let f := flitOf flit
    if (s.linkActive = false ∧ s.training = false) ∨ (f.good ∧ f.ft ≠ 1) then s
    else s.arrive ad { f with ft := 1 })

/-- What is on its way to an end arrives undamaged: what DATA_FLIT and LINK_CONTROL_FLIT do not bring otherwise (log entry 113). -/
def State.drain (s : State) (ad : Bool) : State :=
  let l := if ad then s.sil.wireAd else s.sil.wireCd
  (s.silSet fun k => if ad then { k with wireAd := [] } else { k with wireCd := [] }).forL l fun b s => s.takeFlit ad (flitOf b)

/-- ACK_TIMER (R156). -/
def execAckTimer (ad : Bool) (s : State) : Out := .next (if s.linkActive ∧ s.due (.ackTimer ad) then s.sendAck ad else s)

/-- REPLAY_TIMEOUT: the oldest flit has had no ACK for 2 µs (R157). -/
def execReplayTimeout (ad : Bool) (s : State) : Out :=
  .next (match (s.link ad).replay with
    | (q, _) :: _ => if s.linkActive ∧ s.due (.replay ad) then s.askReplay ad q else s
    | [] => s)

/-- The end of a cycle on the link: what is on its way arrives, then the replays due go out. -/
def State.linkTick (s : State) : State := (((s.drain true).drain false).replayDue false).replayDue true

/-! ### Messages taken (R161) -/

/-- A doorbell or a memory request waits at the AD for its tenant's tokens, and does not hold up what came after it (R85). -/
def State.parked (s : State) (m : Msg) : Bool :=
  [TT.doorbell, TT.memRd, TT.memWr].contains m.typ && decide (m.tenant < 16) && !s.mayMove m.tenant

/-- The AD takes the oldest message of type `t` that satisfies `p`, when those before it on its VC only wait; its flits are free
again. -/
def State.takeAd (s : State) (t : Nat) (p : Msg → Bool) : Option (Msg × State) :=
  let s := s.drain true
  match s.sil.toAd.find? fun m => m.typ == t && p m with
  | none => none
  | some m =>
    if (s.sil.toAd.takeWhile fun q => q != m).any fun q => q.vc == m.vc && !s.parked q then none
    else some (m, ((s.silSet fun l => { l with toAd := l.toAd.erase m }).freeFlits true m.vc m.flits).sendAck true)

/-- A message of the AD is taken at the CD, with the SEQ of its first flit: the oldest of its VC, if that is of its type; its flits are
free again. What the AD has put into it is not held to what the model's AD would (log entry 114). Where none of the VC has come by flits,
a message whose flits the model does not follow has, and its SEQ is free. -/
def State.takeCd (s : State) (m : Msg) : Option (Nat × State) :=
  let s := s.drain false
  match s.sil.toCd.find? fun q => q.1.vc == m.vc with
  | some q =>
    if q.1.typ ≠ m.typ then none
    else some (q.2, ((s.silSet fun l => { l with toCd := l.toCd.erase q }).freeFlits false m.vc q.1.flits).sendAck false)
  | none =>
    if s.linkActive then
      let d := s.draw 10
      some (d.1, (d.2.silSet fun l => { l with idleAt := s.now }).wrapInc (R.SIL_VCCNT_RXMSG m.vc))
    else none

end Sys2Proof.Machine
end

