-- ==== Sys2Proof/Machine/MemWin.lean ====
section
/-! DEFINITION. The memory window (R24, R25, R165, R166): the CD's memory requests and the AD's answers to them. -/

namespace Sys2Proof.Machine

/-- Note when an answer of the audit round was asked for (R101). -/
def State.auditAsked (s : State) (key : Nat) : State :=
  { s with ten := { s.ten with audit := s.ten.audit.map fun l => l.map fun p => if p.1 = key then (key, some s.now) else p } }

/-- Send a memory request; one of the sixteen places is free. -/
def State.memIssue (s : State) (a : MemAsk) : State :=
  let tag := s.sil.nextTag
  let body := leBytes 8 a.addr ++ leBytes 2 a.len ++ leBytes 6 0 ++ (if a.write then padTo a.len a.data else [])
  let s := s.silSet fun l => { l with nextTag := (tag + 1) % 65536, reqs := l.reqs ++ [⟨tag, a.write, a.user, s.now⟩] }
  let s := match a.user with | .audit k => s.auditAsked k | _ => s
  s.sendAd ⟨3, if a.write then TT.memWr else TT.memRd, a.tenant, 0, tag, body⟩

/-- Ask for a memory access; at most sixteen requests are outstanding (R165). -/
def State.memAsk (s : State) (a : MemAsk) : State :=
  if s.sil.reqs.length < 16 then s.memIssue a else s.silSet fun l => { l with memWait := l.memWait ++ [a] }

/-- The image loader's writes of models, of up to 256 bytes each, while one of the sixteen places is free; the plan that gives the
tenants their regions comes only in step 7, so they run in audit scope (R165, log entry 100). -/
def State.loadPump : Nat → State → State
  | 0, s => s
  | n + 1, s =>
    match s.cil.loads with
    | [] => s
    | (a, f, len) :: rest =>
      if 16 ≤ s.sil.reqs.length then s
      else
        let k := min 256 len
        let next := if len ≤ 256 then rest else (a + 256, f + 256, len - 256) :: rest
        let s := { s with cil := { s.cil with loads := next } }
        State.loadPump n (s.memIssue ⟨true, auditScope, a, k, s.flashBytes f k, .load⟩)

/-- A write of a model has failed: the step fails. -/
def State.loadFailed (s : State) : State :=
  { s with cil := { s.cil with loads := [], apply := s.cil.apply.map fun a => { a with bad := true } } }

/-- A request has ended: its place goes to the next that waits, then to the image loader. -/
def State.memDone (s : State) (tag : Nat) : State :=
  let s := s.silSet fun l => { l with reqs := l.reqs.filter fun r => !(r.tag == tag) }
  match s.sil.memWait with
  | a :: rest => (s.silSet fun l => { l with memWait := rest }).memIssue a
  | [] => State.loadPump 16 s

/-- A core access in the AD window is refused before it becomes a request (R25, R165). -/
def State.windowRefused (s : State) (offset size : Nat) : Bool :=
  !s.on Dom.sill || !s.on Dom.adCtl || decide (0x10000000 ≤ offset) || !(size == 1 || size == 2 || size == 4)
    || decide (offset % size ≠ 0)

/-- The tenant-local address of an offset in the window. -/
def State.windowAddr (s : State) (offset : Nat) : Nat := s.getF R.TEN_WINSEL_BASE256 * 2 ^ 28 + offset

/-- AD_WINDOW_READ: the access waits for its response (R24, R25, R165). -/
def execAdWindowRead (offset size : Nat) (s : State) : Out :=
  .next (if s.windowRefused offset size then s.answer .busError
    else (s.answer .none).memAsk ⟨false, s.getF R.TEN_WINSEL_TENANT, s.windowAddr offset, size, [], .window⟩)

/-- AD_WINDOW_WRITE. -/
def execAdWindowWrite (offset size : Nat) (data : Word) (s : State) : Out :=
  .next (if s.windowRefused offset size then s.answer .busError
    else (s.answer .none).memAsk ⟨true, s.getF R.TEN_WINSEL_TENANT, s.windowAddr offset, size, leBytes size data.toNat, .window⟩)

/-! ### At the AD -/

/-- The request was a probe of TEN's audit: its refusal is the audit's answer and no tenant's fault (R100). -/
def State.isProbe (s : State) (tag : Nat) : Bool :=
  s.sil.reqs.any fun r => r.tag == tag && (match r.user with | .audit _ => true | _ => false)

/-- Status of an access in the scope of a tenant or of the audit, and the region it falls in (R77, R80, R166). -/
def State.memScope (s : State) (tenant addr len : Nat) (write : Bool) : Nat × Option Region :=
  if tenant < 16 then
    if len ≠ 0 ∧ s.mayAccess tenant addr len write then (0, (placeIn (s.regionsOf tenant) addr).map (·.1)) else (1, none)
  else if tenant = auditScope ∧ addr + len ≤ s.fittedBytes then
    (0, ((List.range 64).map s.region).find? fun r => decide (r.base * mib ≤ addr ∧ addr < (r.base + r.size) * mib))
  else (1, none)

/-- A refusal is the tenant's fault REGION. -/
def State.memFault (s : State) (tenant tag : Nat) : State :=
  if tenant < 16 ∧ s.isProbe tag = false then s.adFault tenant 1 0 else s

/-- The request need not wait: a tenant's needs 64 tokens unless it is refused, the audit scope takes precedence (R85, R86). -/
def State.memGoes (s : State) (write : Bool) (m : Msg) : Bool :=
  decide (16 ≤ m.tenant) || s.mayMove m.tenant || (s.memScope m.tenant (fieldAt m.body 0 8) (min 256 (fieldAt m.body 8 2)) write).1 != 0

/-- What the data of a request meet: the status they end it with, 0 when they come through (R79, R163, R191). -/
def State.memMeets (s : State) (r : Option Region) : Option MemErr → Nat × State
  | some .dramCe => (0, (s.eccError r 1).2)
  | some .dramUe => let e := s.eccError r 2; (if e.1 then 3 else 0, e.2)
  | some .noc => (2, s.nocError 0)
  | _ => (0, s)

/-- MEM_RD: the AD reads in the request's scope (R77, R79, R80, R85, R86, R166, R191). -/
def execMemRd (err : Option MemErr) (s : State) : Out :=
  .next (match s.takeAd TT.memRd (s.memGoes false) with
    | none => s
    | some (m, s) =>
      if s.adLive = false ∨ s.isSet R.MC_TRAIN_DONE = false then s
      else
        let addr := fieldAt m.body 0 8
        let len := min 256 (fieldAt m.body 8 2)
        let sc := s.memScope m.tenant addr len false
        if sc.1 ≠ 0 then
          let d := s.draw (8 * len)
          (d.2.memFault m.tenant m.tag).adSend ⟨3, TT.memRdData, m.tenant, 0, m.tag, leBytes 8 1 ++ leBytes len d.1⟩
        else
          let s := if m.tenant < 16 then s.charge m.tenant ((len + 63) / 64) else s
          let e := s.memMeets sc.2 err
          let data := if m.tenant < 16 then s.tenRead m.tenant addr len else s.dramBytes addr len
          if e.1 ≠ 0 then
            let d := e.2.draw (8 * len)
            d.2.adSend ⟨3, TT.memRdData, m.tenant, 0, m.tag, leBytes 8 e.1 ++ leBytes len d.1⟩
          else e.2.adSend ⟨3, TT.memRdData, m.tenant, 0, m.tag, leBytes 8 0 ++ data⟩)

/-- MEM_WR: the AD writes in the request's scope; data that met an error are not written (log entry 55). -/
def execMemWr (err : Option MemErr) (s : State) : Out :=
  .next (match s.takeAd TT.memWr (s.memGoes true) with
    | none => s
    | some (m, s) =>
      if s.adLive = false ∨ s.isSet R.MC_TRAIN_DONE = false then s
      else
        let addr := fieldAt m.body 0 8
        let len := min 256 (fieldAt m.body 8 2)
        let data := padTo len (m.body.drop 16)
        let sc := s.memScope m.tenant addr len true
        let ack : Nat → Msg := fun st => ⟨3, TT.memWrAck, m.tenant, 0, m.tag, leBytes 8 st⟩
        if sc.1 ≠ 0 then (s.memFault m.tenant m.tag).adSend (ack 1)
        else
          let s := if m.tenant < 16 then s.charge m.tenant ((len + 63) / 64) else s
          let e := s.memMeets sc.2 err
          if e.1 ≠ 0 then e.2.adSend (ack e.1)
          else
            let s := if m.tenant < 16 then e.2.tenWrite m.tenant addr data else e.2.dramWrite addr data
            s.adSend (ack 0))

end Sys2Proof.Machine
end

