-- ==== Sys2Proof/Machine/Ten.lean ====
section
/-! DEFINITION. Tenants as the CD holds them (R83, R87, R94 to R110): commands and their acknowledgements, faults and
resets, doorbells, canary audits, the major frame and its report. -/

namespace Sys2Proof.Machine

/-! ### What the applied image says -/

/-- The tenant is present in the applied image. -/
def State.tenantPresent (s : State) (n : Nat) : Bool := s.cfgPresent Img.TENANTS_CLASS n

/-- The regions of the applied image, ascending. -/
def State.imgRegions (s : State) : List Region :=
  ((List.range 64).filter fun i => s.cfgPresent Img.MEMORY_OWNER i).map fun i =>
    ⟨i, s.cfg Img.MEMORY_OWNER i, decide (s.cfg Img.MEMORY_ECC i ≠ 0), decide (s.cfg Img.MEMORY_ACCESS i = 1),
     s.cfg Img.MEMORY_BASE_MIB i, s.cfg Img.MEMORY_SIZE_MIB i⟩

/-- A tenant's regions, and their total size, as the image gives them. -/
def State.imgRegionsOf (s : State) (n : Nat) : List Region := s.imgRegions.filter fun r => r.owner == n
def State.imgSpace (s : State) (n : Nat) : Nat := (s.imgRegionsOf n).foldl (fun a r => a + r.size * mib) 0

/-- Where the package of `size` bytes lies in a tenant's space (log entry 25): at the top of the highest region that
holds it below its canary cell, aligned down to 64 bytes; 0 where none does. -/
def packageIn : List Region → Nat → Nat → Nat → Nat
  | [], _, _, best => best
  | r :: rs, size, base, best =>
    packageIn rs size (base + r.size * mib) (if size + 64 ≤ r.size * mib then (base + r.size * mib - 64 - size) / 64 * 64 else best)

def State.packageAt (s : State) (n : Nat) : Nat :=
  packageIn (s.imgRegionsOf n) (s.cfg Img.MODELS_SIZE (s.cfg Img.TENANTS_MODEL n)) 0 0

/-! ### Commands to the dispatcher (R95, R110) -/

/-- The state an acknowledged command results in. -/
def cmdTarget (a : Nat) : Nat :=
  if a = 1 then tnSuspended else if a = 2 then tnReady else if a = 3 then tnResetting else if a = 6 then tnLoading else tnAbsent

/-- The command that brings a tenant to a state. A FAULTED tenant's dispatcher is told to suspend it: the dispatcher has no command of
its own for FAULTED, and its tile-slots are idle as a SUSPENDED one's are (R92, R95, log entry 104). -/
def cmdFor (st : Nat) : Option Nat :=
  if st = tnAbsent then some 7 else if st = tnLoading then some 6 else if st = tnReady ∨ st = tnRunning then some 2
  else if st = tnSuspended ∨ st = tnFaulted then some 1 else if st = tnResetting then some 3 else none

def State.sendCmd (s : State) (n a : Nat) : State := s.sendAd ⟨0, TT.tenCmd, n, 0, 0, leBytes 8 a⟩

/-- There is a dispatcher to command. -/
def State.tenLive (s : State) : Bool := s.linkState != 0 && s.linkState != 5

/-- Command the dispatcher and wait 5 ms for its acknowledgement. -/
def State.command (s : State) (n a : Nat) : State :=
  ((s.tenantSet n fun t => { t with cmd := some a, again := false }).sendCmd n a).arm (.stateAck n) (5 * msNs)

/-- No command waits for its acknowledgement any more. -/
def State.dropCmd (s : State) (n : Nat) : State :=
  (s.tenantSet n fun t => { t with cmd := none, again := false }).disarm (.stateAck n)

/-- Bits and run counts of the cameras of a tenant are cleared (R304). -/
def State.clearTenantCams (s : State) (n : Nat) : State :=
  s.forN 4 fun c s => if (s.cfg Img.TENANTS_CAMERAS n).testBit c then s.clearCamera c else s

/-- Step 1 of a tenant reset (R98, R304); without a dispatcher nothing is commanded, and the tenant stays RESETTING until the AD is
loaded again. -/
def State.startReset (s : State) (n : Nat) : State :=
  let s := if s.getF (R.TEN_STATE_CLASS n) = 0 then s.clearTenantCams n else s
  let s := (s.setTenant n tnResetting).tenantSet n fun t => { t with wasReset := true }
  if s.tenLive then s.command n 3 else s

/-- The tenant stays FAULTED: its dispatcher is told, so that its tile-slots are idle (R92, R95). -/
def State.stayFaulted (s : State) (n : Nat) : State := if s.tenLive then s.command n 1 else s

/-- The tenant becomes FAULTED, and is reset automatically within its budget (R96, R97). -/
def State.becomeFaulted (s : State) (n : Nat) : State :=
  let s := (s.dropCmd n).setTenant n tnFaulted
  if s.isSet R.TEN_CTL_AUTORESET_EN then
    let l := s.recent hourNs (s.tenantSt n).resetsAt
    if l.length < s.cfg Img.TENANTS_RESETS_PER_H n then
      (s.tenantSet n fun t => { t with resetsAt := s.now :: l }).startReset n
    else (s.stayFaulted n).raise Ev.TEN_RESET_CAP n
  else s.stayFaulted n

/-- Record a tenant fault (R96). -/
def State.noteFault (s : State) (n code arg : Nat) : State :=
  (s.setF (R.TEN_STATE_FAULT n) code).raiseInt Ev.TEN_FAULT R.TEN_INT_FAULT code arg

/-- A BORROW_LATE fault: the third within 60 s withdraws lending (R94). -/
def State.borrowLate (s : State) (n : Nat) : State :=
  let l := s.window (60 * secNs) (s.tenantSt n).lateAt
  if 3 ≤ l.length ∧ s.isSet (R.TEN_STATE_LEND_OK n) then
    (((s.tenantSet n fun t => { t with lateAt := [] }).setF (R.TEN_STATE_LEND_OK n) 0).raise Ev.TEN_LEND_WITHDRAWN n).sendCmd n 5
  else if 3 ≤ l.length ∧ s.thm.parked.contains n then -- R578
    { ((s.tenantSet n fun t => { t with lateAt := [] }).raise Ev.TEN_LEND_WITHDRAWN n) with
      thm := { s.thm with parked := s.thm.parked.filter fun m => m != n } }
  else s.tenantSet n fun t => { t with lateAt := l }

/-- A tenant fault takes effect: READY, RUNNING and SUSPENDED tenants become FAULTED, LOADING ones only for MODEL_HASH
(R95, R96). -/
def State.tenantFault (s : State) (n code arg : Nat) : State :=
  if s.tnState n = tnAbsent then s
  else
    let s := s.noteFault n code arg
    let s := if code = 2 then s.raise Ev.TEN_MEM_UE n arg else s
    let st := s.tnState n
    if code = 5 then s.borrowLate n
    else if st = tnReady ∨ st = tnRunning ∨ st = tnSuspended ∨ (st = tnLoading ∧ code = 4) then s.becomeFaulted n
    else s

/-- TENANT_FAULT: a fault that the AD reports of one tenant (R96). -/
def execTenantFault (tenant : Fin 16) (code arg : Nat) (s : State) : Out :=
  .next (if s.on Dom.core then
      ((s.dspSet fun d => { d with faults := d.faults.erase (tenant.val, code, arg) }).tenantFault tenant.val code arg)
    else s)

/-! ### Firmware's commands (R94, R95, R105) -/

/-- The command is refused: one is still pending (R105), or R95's table has no row for it in the tenant's state, or there is no
dispatcher to carry it out; of the last two the spec says nothing and the model refuses them alike (DESIGN CHOICE, log entry 101). -/
def State.cmdRefused (s : State) : State := s.flag R.TEN_INT_CMDREFUSED

/-- Every tenant that runs is suspended: commanded at the dispatcher, where there is one (R95, R108). -/
def State.suspendAll (s : State) : State :=
  s.forN 16 fun n s =>
    if s.tnState n = tnReady ∨ s.tnState n = tnRunning then
      let s := s.setTenant n tnSuspended
      if s.tenLive then s.command n 1 else s
    else s

/-- No suspension waits for its acknowledgement any more. -/
def State.suspended (s : State) : Bool := s.ten.tenants.all fun t => t.cmd != some 1

/-- SUSPEND. -/
def execSuspend (tenant : Fin 16) (s : State) : Out :=
  .next (s.access Dom.core fun s =>
    let n := tenant.val
    if (s.tnState n = tnReady ∨ s.tnState n = tnRunning) ∧ (s.tenantSt n).cmd = none ∧ s.tenLive then
      (s.setTenant n tnSuspended).command n 1
    else s.cmdRefused)

/-- RESUME, only in WORK. -/
def execResume (tenant : Fin 16) (s : State) : Out :=
  .next (s.access Dom.core fun s =>
    let n := tenant.val
    if s.tnState n = tnSuspended ∧ s.inWork ∧ (s.tenantSt n).cmd = none ∧ s.tenLive then
      (s.setTenant n tnReady).command n 2
    else s.cmdRefused)

/-- RESET: always carried out, not counted; it overrides a pending command (R97, R98, R105). -/
def execReset (tenant : Fin 16) (s : State) : Out :=
  .next (s.access Dom.core fun s =>
    let n := tenant.val
    if s.tnState n ≠ tnAbsent ∧ s.tnState n ≠ tnResetting then (s.dropCmd n).startReset n else s.cmdRefused)

/-- Give or take a tenant's lending permission. -/
def State.lendPermit (s : State) (n action v : Nat) : State :=
  if s.tnState n ≠ tnAbsent ∧ (s.tenantSt n).cmd = none then
    (s.setF (R.TEN_STATE_LEND_OK n) v).sendCmd n action
  else s.cmdRefused

/-- LENDON (R94). -/
def execLendon (tenant : Fin 16) (s : State) : Out := .next (s.access Dom.core fun s => s.lendPermit tenant.val 4 1)

/-- LENDOFF. -/
def execLendoff (tenant : Fin 16) (s : State) : Out := .next (s.access Dom.core fun s => s.lendPermit tenant.val 5 0)

/-! ### Acknowledgements (R95, R110) -/

/-- A state the dispatcher reports and TEN did not command: TEN keeps its own and commands it again. -/
def State.uncommanded (s : State) (n : Nat) : State :=
  let s := s.tenViol 5
  match (s.tenantSt n).cmd with
  | some a => s.command n a
  | none => match cmdFor (s.tnState n) with | some a => s.command n a | none => s

/-- An acknowledgement of the dispatcher. ACTION 0 reports that a READY tenant has a job to run, or a RUNNING one none left (log
entry 26). -/
def State.takeTenAck (s : State) (tenant action state : Fin 256) : State :=
  let n := tenant.val
  match s.takeCd ⟨0, TT.tenAck, n, 0, 0, leBytes 1 action.val ++ leBytes 1 state.val ++ leBytes 6 0⟩ with
  | none => s
  | some (_, s) =>
  if 16 ≤ n then s.tenViol 6
  else
    let st := s.tnState n
    let job := decide (st = tnReady ∨ st = tnRunning) && decide (state.val = tnReady ∨ state.val = tnRunning)
    match (s.tenantSt n).cmd with
    | some a =>
      if action.val = a ∧ state.val = cmdTarget a then s.dropCmd n
      else if action.val = 0 ∧ (job ∨ state.val = st) then s.setTenant n state.val
      else s.uncommanded n
    | none =>
      if action.val = 0 ∧ job then s.setTenant n state.val
      else if state.val = st then s
      else s.uncommanded n

/-- 5 ms have passed without an acknowledgement: the command is repeated once, then the tenant is FAULTED (R110 code 0x04). -/
def State.stateAckTimeout (s : State) (tenant : Fin 16) : State :=
  let n := tenant.val
  match (s.tenantSt n).cmd with
  | some a =>
    if s.due (.stateAck n) then
      let again := (s.tenantSt n).again
      let s := (s.disarm (.stateAck n)).tenViol 4
      if s.tnState n = tnAbsent then s
      else if again then (s.noteFault n 3 0).becomeFaulted n
      else ((s.sendCmd n a).tenantSet n fun t => { t with again := true }).arm (.stateAck n) (5 * msNs)
    else s
  | none => s

/-! ### The end of a reset (R98, R99) -/

/-- MODEL_VERIFIED: the CD has read the tenant's model back and compares its hash with MODELS.BLOB; READY, or FAULTED
with MODEL_HASH; so too where the read met an error that spoilt the data (R79, R95, R98, R99, R315). -/
def execModelVerified (tenant : Fin 16) (err : Option MemErr) (s : State) : Out :=
  .next (
    let n := tenant.val
    if s.tnState n = tnLoading ∧ s.tenLive ∧ s.isSet R.SIL_STATUS_READY ∧ s.mayMove n then
      let m := s.cfg Img.TENANTS_MODEL n
      let len := s.cfg Img.MODELS_SIZE m
      let s := s.charge n ((len + 63) / 64)
      let e := s.memMeets ((placeIn (s.regionsOf n) (s.packageAt n)).map (·.1)) err
      let s := e.2
      if e.1 = 0 ∧ leNat (sha256 (s.tenRead n (s.packageAt n) len)) = s.cfg Img.MODELS_BLOB m then
        let was := (s.tenantSt n).wasReset
        let s := s.setTenant n tnReady
        let s := if was then
            ((s.raiseInt Ev.TEN_RESET R.TEN_INT_RESETDONE n).setF (R.ASY_RSEQ_EXPECT n) 0).tenantSet n fun t => { t with wasReset := false }
          else s
        s.command n 2
      else (s.noteFault n 4 0).becomeFaulted n
    else s)

/-! ### Queues (R83, R104) -/

/-- TEN_SQDB: a new submission tail, forwarded to the dispatcher. -/
def execTenSqdb (tenant : Fin 16) (queue : Fin 4) (tail : Nat) (s : State) : Out :=
  .next (s.access Dom.core fun s =>
    let n := tenant.val
    let st := s.tnState n
    if st = tnResetting ∨ st = tnLoading ∨ st = tnAbsent then s.raiseInt Ev.TEN_DB_REFUSED R.TEN_INT_DBREFUSED n queue.val
    else s.sendAd ⟨0, TT.doorbell, n, 0, 0, leBytes 1 queue.val ++ leBytes 1 0 ++ leBytes 2 (tail % 1024) ++ leBytes 4 0⟩)

/-- COMPL_NOTE: a new completion tail (R110 code 0x06, R163). The note shows that completions with FLAGS bit 0 came when
its third field names one. -/
def execComplNote (tenant queue : Fin 256) (tail tag : Fin 65536) (s : State) : Out :=
  .next (
    let n := tenant.val
    match s.takeCd ⟨2, TT.complNote, n, 0, 0, leBytes 1 queue.val ++ leBytes 1 0 ++ leBytes 2 tail.val ++ leBytes 2 tag.val ++ leBytes 2 0⟩ with
    | none => s
    | some (_, s) =>
    if 16 ≤ n ∨ s.tnState n = tnAbsent ∨ s.tnState n = tnResetting then s.tenViol 6
    else s.flag R.TEN_INT_COMPL)

/-! ### Canary audits (R100, R101, R107) -/

/-- The 64-byte canary value of a region in the round of nonce `c` (log entry 28). -/
def canaryVal (c region : Nat) : List Byte :=
  (List.range 16).flatMap fun i => leBytes 4 (crc32c (leBytes 4 c ++ leBytes 1 region ++ leBytes 1 i))

/-- Physical address of a region's canary cell (R80). -/
def Region.cell (r : Region) : Nat := (r.base + r.size) * mib - 64

/-- A tenant that does not own a region, present if one is. -/
def State.stranger (s : State) (owner : Nat) : Nat :=
  (((List.range 16).filter fun n => n != owner && s.tenantPresent n).head?).getD ((owner + 1) % 16)

/-- A round has ended: the first since the plan was accepted is the one that step 8 waits for (R107). -/
def State.roundEnded (s : State) (ok : Bool) : State :=
  { s with ten := { s.ten with audit := none, passed := s.ten.passed.or (some ok) } }

/-- A failed round (R101, R110): counted, reported, DISTRUSTED at once. -/
def State.auditFailed (s : State) (code region step : Nat) : State :=
  let s := ((s.roundEnded false).satInc R.TEN_AUDIT_FAILED).setFs
    [(R.TEN_AUDFAIL_REGION, region), (R.TEN_AUDFAIL_STEP, step)]
  let s := (s.tenViolCount code).raiseInt Ev.TEN_CANARY_FAIL R.TEN_INT_CANARY code region
  (s.raise Ev.TEN_VIOL code).ladderAtOnce bTen

/-- An answer of the round has come; with the last one the round has passed. -/
def State.auditAnswered (s : State) (key : Nat) : State :=
  match s.ten.audit with
  | none => s
  | some l =>
    let l := l.filter fun p => !(p.1 == key)
    if l.isEmpty then (s.roundEnded true).wrapInc R.TEN_AUDIT_PASSED
    else { s with ten := { s.ten with audit := some l } }

/-- The tiles that are on. -/
def State.tilesOn (s : State) : List Nat := (List.range 16).filter fun t => s.on (Dom.tile t)

/-- The tile the round probes: the next powered one (R100). -/
def State.nextProbe (s : State) : Option Nat :=
  (s.tilesOn.find? fun t => decide (s.ten.probeTile ≤ t)).or s.tilesOn.head?

/-- The two probes over the memory window: a foreign canary cell read, and a write to a read-only region of another
tenant or a second read. Their addresses lie above the scope's space by the target's address (log entry 28). -/
def State.probes (s : State) (rs : List Region) : State :=
  match rs.head? with
  | none => s
  | some r =>
    let w := (rs.find? fun q => q.ro).getD r
    let n1 := s.stranger r.owner
    let n2 := s.stranger w.owner
    let s := s.memAsk ⟨false, n1, s.imgSpace n1 + r.cell, 64, [], .audit 128⟩
    s.memAsk ⟨w.ro, n2, s.imgSpace n2 + w.base * mib, 64, List.replicate 64 0, .audit 129⟩

/-- One round's requests, in R100's order. The tile's scope is that of the tenant it last ran (TL_SEQ.TENANT). -/
def State.auditRound (s : State) : State :=
  let d := s.draw 32
  let rs := d.2.imgRegions
  let first := d.2.ten.first
  let keys := (if first then [] else rs.map (·.idx)) ++ rs.map (fun r => 64 + r.idx) ++ (if rs.isEmpty then [] else [128, 129])
    ++ (match d.2.nextProbe with | some _ => [130] | none => [])
  let s := { d.2 with ten := { d.2.ten with prevNonce := d.2.ten.nonce, nonce := d.1, first := false, audit := some (keys.map fun k => (k, none)) } }
  let s := if first then s else s.forL rs fun r s => s.memAsk ⟨false, auditScope, r.cell, 64, [], .audit r.idx⟩
  let s := s.forL rs fun r s => s.memAsk ⟨true, auditScope, r.cell, 64, canaryVal d.1 r.idx, .audit (64 + r.idx)⟩
  let s := s.probes rs
  match s.nextProbe with
  | some t =>
    let n := s.tenantOf t
    let s := ({ s with ten := { s.ten with probeTile := t + 1 } }.auditAsked 130)
    s.sendAd ⟨0, TT.probe, noTenant, 0, 0, leBytes 1 t ++ leBytes 1 n ++ leBytes 6 0 ++ leBytes 8 (s.imgSpace n)⟩
  | none => s

/-- A round cannot start: the AD is in reset, the link not up, no plan loaded, or an apply in steps 2 to 7 (R101,
R107). -/
def State.auditSkips (s : State) : Bool :=
  s.linkState == 0 || s.linkState == 1 || s.linkState == 5 || s.ad.dsp.planOk == false
    || (match s.cil.apply with | some a => decide (2 ≤ a.step ∧ a.step ≤ 7) | none => false)

/-- CANARY_AUDIT_ROUND: every CANARY_MS in WORK. -/
def execCanaryAuditRound (s : State) : Out :=
  .next (if s.inWork ∧ s.isSet R.TEN_CTL_AUDIT_EN ∧ s.dueOrNew .canary ∧ s.ten.audit = none then
      let s := s.rearm .canary (s.cfg Img.MEMORY_CANARY_MS 0 * msNs)
      if s.auditSkips then (s.satInc R.TEN_AUDIT_SKIPPED).raise Ev.TEN_CANARY_MISS else s.auditRound
    else s)

/-- An answer of the audit's round is missing 1 ms after its request (R100). -/
def State.answerLate (s : State) (p : Nat × Option Nat) : Bool := match p.2 with | some t => decide (t + msNs ≤ s.now) | none => false

/-- AUDIT_ANSWER_TIMEOUT: an answer is missing 1 ms after its request (R101, R110 code 0x02). -/
def execAuditAnswerTimeout (s : State) : Out :=
  .next (match s.ten.audit with
    | some l => (match l.find? s.answerLate with
      | some p => s.auditFailed 2 (if p.1 < 128 then p.1 % 64 else 0)
          (if p.1 < 64 then 1 else if p.1 < 128 then 2 else if p.1 < 130 then 3 else 4)
      | none => s)
    | none => s)

/-- The data are the canary value of a region, of this round or the last. -/
def State.isCanary (s : State) (data : List Byte) : Bool :=
  s.imgRegions.any fun r => data == canaryVal s.ten.nonce r.idx || data == canaryVal s.ten.prevNonce r.idx

/-- TEN judges an answer that reached it over the memory window. -/
def State.auditJudge (s : State) (key status : Nat) (data : List Byte) : State :=
  if s.ten.audit = none then s
  else if key < 64 then
    if status = 0 ∧ data = canaryVal s.ten.prevNonce key then s.auditAnswered key else s.auditFailed 1 key 1
  else if key < 128 then s.auditAnswered key
  else if status ≠ 1 ∨ s.isCanary data then s.auditFailed 1 0 3
  else s.auditAnswered key

/-- PROBE: the tile's NoC ingress tries the two reads in the scope named (R77, R100). -/
def execProbe (s : State) : Out :=
  .next (match s.takeAd TT.probe fun _ => true with
    | none => s
    | some (m, s) =>
      let t := byteAt m.body 0
      let n := byteAt m.body 1
      if s.tileLive (t % 16) = false ∨ 16 ≤ t ∨ 16 ≤ n then s
      else
        let a := fieldAt m.body 8 8
        let r1 := !s.mayAccess n (s.spaceOf n) 64 false
        let r2 := !s.mayAccess n a 64 false
        let d := if r2 then s.draw 512 else (leNat (s.tenRead n a 64), s)
        d.2.adSend (mgmt TT.probeResult 0
          (leBytes 1 t ++ leBytes 1 ((if r1 then 1 else 0) + (if r2 then 2 else 0)) ++ leBytes 6 0 ++ leBytes 64 d.1)))

/-- PROBE_RESULT: both reads must have been refused and no canary value come back (R100, R101). An answer to no round is
ignored. -/
def execProbeResult (tile bits : Fin 256) (data : List Byte) (s : State) : Out :=
  .next (match s.takeCd (mgmt TT.probeResult 0 (leBytes 1 tile.val ++ leBytes 1 bits.val ++ leBytes 6 0 ++ padTo 64 data)) with
    | none => s
    | some (_, s) =>
      if (match s.ten.audit with | some l => l.any fun p => p.1 == 130 | none => false) then
        if bits.val % 4 = 3 ∧ s.isCanary data = false then s.auditAnswered 130 else s.auditFailed 1 0 4
      else s)

/-! ### Major frames (R87, R110) -/

/-- MAJOR_FRAME_START: at TB2 = E + k × MAJOR_MS the CD sends MAJOR_TICK, and expects frame k − 1's report within 1 ms. -/
def execMajorFrameStart (s : State) : Out :=
  .next (if s.inWork ∧ s.due .major ∧ s.tenLive then
      let k := s.ten.nextK
      let s := (s.rearm .major (s.cfg Img.SLOTS_MAJOR_MS 0 * msNs)).sendAd (mgmt TT.majorTick 0 (leBytes 4 k ++ leBytes 4 s.tb2))
      let s := { s with ten := { s.ten with nextK := (k + 1) % 2 ^ 32 } }.setF R.TEN_MAJOR_K k
      if k = 0 then s else { s with ten := { s.ten with waiting := some (k - 1) } }.arm .frameReport msNs
    else s)

/-- REVOKE_LATE of S owners, one after the other: ladder from the second within 1 s (R110 code 0x07). -/
def State.revokeLate : Nat → State → State
  | 0, s => s
  | n + 1, s =>
    let l := s.window secNs s.ten.lateSAt
    let s := { s with ten := { s.ten with lateSAt := l } }
    let s := ((s.tenViolCount 7).raise Ev.TEN_REVOKE_LATE 7).raise Ev.TEN_VIOL 7
    State.revokeLate n (if 2 ≤ l.length then s.ladder bTen else s)

/-- FRAME_REPORT: frame k's lending and bucket counts (R110, R111). Of the late revocations, `lateS` were of S owners' slots (log
entry 29); only they count. -/
def execFrameReport (k : Nat) (lends late lateS : Fin 65536) (stalls : List Nat) (s : State) : Out :=
  .next (
      let body := leBytes 4 k ++ leBytes 2 lends.val ++ leBytes 2 late.val ++ (List.range 16).flatMap fun i => leBytes 4 (stalls.getD i 0)
      match s.takeCd (mgmt TT.frameReport 0 body) with
      | none => s
      | some (_, s) =>
      let s := if s.ten.waiting = some k then { s with ten := { s.ten with waiting := none } }.disarm .frameReport else s.tenViol 3
      let s := s.setFs [(R.TEN_LEND_LENDS, lends.val), (R.TEN_LEND_LATE, min 255 late.val)]
      let s := s.forN 16 fun n s => s.setF (R.TEN_BW_STALL n) (stalls.getD n 0)
      s.revokeLate (min lateS.val late.val))

/-- FRAME_REPORT_TIMEOUT: no report 1 ms after the next tick (R110 code 0x03). -/
def execFrameReportTimeout (s : State) : Out :=
  .next (if s.due .frameReport then ({ s with ten := { s.ten with waiting := none } }.disarm .frameReport).tenViol 3 else s)

end Sys2Proof.Machine
end

