-- ==== Sys2Proof/Machine/Plan.lean ====
section
/-! DEFINITION. What the dispatcher is told (R76, R78, R192, R203, R255 to R260, R288, R543): the firmware load, the plan data
with the model packages it names, and clock-plan items. -/

namespace Sys2Proof.Machine

/-! ### Model packages (R255, R256) -/

/-- The header of a model package. -/
structure PkgHdr where
  phases  : Nat
  format  : Nat
  units   : Nat
  batchUs : Nat
  cycles  : Nat
  stallNs : Nat
  table   : Nat
deriving DecidableEq, Repr

/-- A phase descriptor. -/
structure PhaseDesc where
  kind    : Nat
  width   : Nat
  barrier : Bool
  progOff : Nat
  progLen : Nat
  first   : Nat
  count   : Nat
deriving DecidableEq, Repr

def pkgHdrOf (b : List Byte) : PkgHdr :=
  ⟨byteAt b 6, byteAt b 7, fieldAt b 8 2, fieldAt b 10 2, fieldAt b 12 4, fieldAt b 16 4, fieldAt b 20 4⟩

def phaseOf (b : List Byte) : PhaseDesc :=
  ⟨byteAt b 0, byteAt b 1, decide (byteAt b 2 = 1), fieldAt b 4 4, fieldAt b 8 4, fieldAt b 12 2, fieldAt b 14 2⟩

/-- Bytes of a tenant's package, read in its space. -/
def State.pkgBytes (s : State) (p : PlanTenant) (off len : Nat) : List Byte := s.tenRead p.n (p.pkgAt + off) len

def State.pkgHdr (s : State) (p : PlanTenant) : PkgHdr := pkgHdrOf (s.pkgBytes p 0 64)

/-- The phases of a tenant's model, in order. -/
def State.phasesOf (s : State) (p : PlanTenant) : List PhaseDesc :=
  let h := s.pkgHdr p
  (List.range h.phases).map fun i => phaseOf (s.pkgBytes p (h.table + 16 * i) 16)

/-- ENTRY and LEN of the program image at a package offset. -/
def State.imageHead (s : State) (p : PlanTenant) (off : Nat) : Nat × Nat :=
  let b := s.pkgBytes p off 4
  (fieldAt b 0 2, fieldAt b 2 2)

/-- Bytes of a program image. -/
def State.imageLen (s : State) (p : PlanTenant) (off : Nat) : Nat := 4 + 16 * (s.imageHead p off).2

/-- The offset `k` images after `off`. -/
def State.skipImages (s : State) (p : PlanTenant) : Nat → Nat → Nat
  | 0, off => off
  | k + 1, off => s.skipImages p k (off + s.imageLen p off)

/-- Program images a phase has: one per position in a PIPELINE, otherwise one. -/
def PhaseDesc.images (d : PhaseDesc) : Nat := if d.kind = 1 then d.width else 1

/-- The image that position `pos` of a phase loads. -/
def State.imageOf (s : State) (p : PlanTenant) (d : PhaseDesc) (pos : Nat) : Nat :=
  if d.kind = 1 then s.skipImages p pos d.progOff else d.progOff

/-- A phase descriptor and its images keep the stated ranges (R256). -/
def State.phaseOk (s : State) (p : PlanTenant) (off : Nat) : Bool :=
  let b := s.pkgBytes p off 16
  let d := phaseOf b
  let heads := (List.range d.images).map fun i => s.imageHead p (s.skipImages p i d.progOff)
  decide (1 ≤ d.kind ∧ d.kind ≤ 4 ∧ 1 ≤ d.width ∧ d.width ≤ 16) && (d.kind != 3 || d.width == 1)
    && decide (byteAt b 2 ≤ 1 ∧ byteAt b 3 = 0 ∧ d.count ≤ 512 ∧ d.progOff + d.progLen ≤ p.pkgLen)
    && (heads.all fun h => decide (1 ≤ h.2 ∧ h.2 ≤ 4096 ∧ h.1 < h.2))
    && s.skipImages p d.images d.progOff == d.progOff + d.progLen

/-- A model package keeps its layout (R255); `format` is MODELS.FORMAT of the model. -/
def State.pkgOk (s : State) (p : PlanTenant) (format : Nat) : Bool :=
  let b := s.pkgBytes p 0 64
  let h := pkgHdrOf b
  fieldAt b 0 4 == 0x504D4B53 && fieldAt b 4 2 == 1 && decide (64 ≤ p.pkgLen)
    && decide (1 ≤ h.phases ∧ h.phases ≤ 8 ∧ h.format = format ∧ h.units ≤ 256 ∧ h.batchUs ≤ 10000)
    && h.table % 16 == 0 && decide (h.table + 16 * h.phases ≤ p.pkgLen) && ((b.drop 24).all fun x => x == 0)
    && (List.range h.phases).all fun i => s.phaseOk p (h.table + 16 * i)

/-- The widest phase of a tenant's model. -/
def State.widest (s : State) (p : PlanTenant) : Nat := (s.phasesOf p).foldl (fun m d => max m d.width) 0

/-- T_svc(P0) in ns, rounded up: SERVICE_CYC at 2.5 ns, and SERVICE_STALL_NS. -/
def State.serviceNs (s : State) (p : PlanTenant) : Nat :=
  let h := s.pkgHdr p
  (5 * h.cycles + 1) / 2 + h.stallNs

/-! ### The slot plan (R88, R262) -/

def slotNs : Nat := 250000

/-- The owner byte of tile `t` in slot `j` of a plan, slots counted cyclically. -/
def ownerIn (slots : List (List Nat)) (j t : Nat) : Nat := (slots.getD (j % slots.length) []).getD t 0xFF

/-- How many consecutive slots from `j` on tenant `n` owns tile `t`, `fuel` at most. -/
def ownRun (slots : List (List Nat)) (t n : Nat) : Nat → Nat → Nat
  | 0, _ => 0
  | k + 1, j => if ownerIn slots j t = n then 1 + ownRun slots t n k (j + 1) else 0

/-- Length of the window that begins in slot `j`: it ends 12 µs before the tile changes tenant; a tile that never does has
no end (`none`). -/
def windowNs (slots : List (List Nat)) (t n j : Nat) : Option Nat :=
  let r := ownRun slots t n slots.length j
  if r = slots.length then none else some (r * slotNs - 12 * usNs)

/-- Some window of the tenant is at least `need` long. -/
def hasWindow (slots : List (List Nat)) (n need : Nat) : Bool :=
  (List.range slots.length).any fun j => (List.range 16).any fun t =>
    ownerIn slots j t == n && (match windowNs slots t n j with | some w => decide (need ≤ w) | none => true)

/-- The most tiles a tenant owns in a single slot. -/
def mostTiles (slots : List (List Nat)) (n : Nat) : Nat :=
  slots.foldl (fun m sl => max m (sl.filter fun x => x == n).length) 0

/-! ### Plan data (R257 to R260) -/

/-- Cut plan data into records, kinds ascending, ended by END with the right CRC. -/
def planRecords (whole : List Byte) : Nat → List Byte → Nat → Nat → Option (List (Nat × List Byte))
  | 0, _, _, _ => none
  | k + 1, l, at_, last =>
    let kind := byteAt l 0
    let len := fieldAt l 2 2
    let body := (l.drop 4).take len
    if l.length < 4 + len ∨ byteAt l 1 ≠ 0 ∨ kind ≤ last then none
    else if kind = 0xFF then
      (if len = 4 ∧ l.length = 8 ∧ leNat body = crc32c (whole.take at_) then some [] else none)
    else if 7 < kind then none
    else (planRecords whole k (l.drop (4 + len)) (at_ + 4 + len) kind).map fun r => (kind, body) :: r

/-- The rows of `n` bytes of a record. -/
def rowsOf (n : Nat) (l : List Byte) : List (List Byte) := (List.range (l.length / n)).map fun i => (l.drop (n * i)).take n

def recOf (rs : List (Nat × List Byte)) (k : Nat) : List Byte := ((rs.find? fun r => r.1 == k).map (·.2)).getD []

/-- The STREAK record's entries: tenant and chunk IDs, the whole padded to a multiple of 4 (R288). -/
def streakRows : Nat → List Byte → Option (List (Nat × List Nat))
  | 0, _ => none
  | k + 1, l =>
    if l.length < 4 then (if l.all fun b => b == 0 then some [] else none)
    else
      let n := fieldAt l 2 2
      if byteAt l 1 ≠ 0 ∨ l.length < 4 + 2 * n then none
      else (streakRows k (l.drop (4 + 2 * n))).map fun r =>
        (byteAt l 0, (List.range n).map fun i => fieldAt l (4 + 2 * i) 2) :: r

/-- The present tenants of a plan. -/
def planTenants (rs : List (Nat × List Byte)) (chunks : List (Nat × List Nat)) : List PlanTenant :=
  (rowsOf 8 (recOf rs 1)).map fun t =>
    let n := byteAt t 0
    let b := ((rowsOf 8 (recOf rs 3)).find? fun r => byteAt r 0 == n).getD []
    let m := ((rowsOf 16 (recOf rs 7)).find? fun r => byteAt r 0 == n).getD []
    { n := n, cls := byteAt t 1, model := byteAt t 5, cams := byteAt t 2, borrower := decide (byteAt t 3 = 1), queues := byteAt t 4,
      mib := fieldAt t 6 2, rate := fieldAt b 2 2, burst := fieldAt b 4 2, pkgLen := fieldAt m 4 4, pkgAt := fieldAt m 8 8,
      chunks := ((chunks.find? fun c => c.1 == n).map (·.2)).getD [] }

/-- Every tenant of the list has a row in a record. -/
def covers (ts : List Nat) (rows : List (List Byte)) : Bool := ts.all fun n => rows.any fun r => byteAt r 0 == n

/-- The records keep their layout (R258). -/
def planShape (rs : List (Nat × List Byte)) : Bool :=
  let ts := rowsOf 8 (recOf rs 1)
  let ns := ts.map fun t => byteAt t 0
  let sl := recOf rs 4
  (recOf rs 1).length % 8 == 0 && (recOf rs 2).length % 8 == 0 && (recOf rs 3).length % 8 == 0 && (recOf rs 6).length % 8 == 0
    && (recOf rs 7).length % 16 == 0 && decide (8 ≤ sl.length) && rising ns
    && (ts.all fun t => decide (byteAt t 0 < 16 ∧ byteAt t 1 ≤ 2 ∧ byteAt t 2 < 16 ∧ byteAt t 3 ≤ 1 ∧ 1 ≤ byteAt t 4 ∧ byteAt t 4 ≤ 4
        ∧ byteAt t 5 < 32))
    && ((rowsOf 8 (recOf rs 2)).all fun r => decide (byteAt r 0 < 64 ∧ byteAt r 1 < 16 ∧ byteAt r 2 ≤ 1 ∧ byteAt r 3 ≤ 1 ∧ 1 ≤ fieldAt r 6 2))
    && ((rowsOf 8 (recOf rs 3)).all fun r => byteAt r 1 == 0 && fieldAt r 6 2 == 0)
    && ((rowsOf 8 (recOf rs 6)).all fun r => decide (byteAt r 0 < 16) && byteAt r 1 == 0 && fieldAt r 6 2 == 0)
    && ((rowsOf 16 (recOf rs 7)).all fun r => fieldAt r 2 2 == 0) && fieldAt sl 2 2 == 0
    && covers ns (rowsOf 8 (recOf rs 3)) && covers ns (rowsOf 16 (recOf rs 7))
    && decide (5 ≤ byteAt sl 0 ∧ byteAt sl 0 ≤ 100 ∧ byteAt sl 1 ≤ 1 ∧ sl.length = 8 + 64 * byteAt sl 0)

/-- The slot plan of a SLOTS record. -/
def planSlots (sl : List Byte) : List (List Nat) := (rowsOf 16 (sl.drop 8)).map fun r => r.map BitVec.toNat

/-- Load the region entries, entries the plan leaves out unused. -/
def State.loadRegions (s : State) (rows : List (List Byte)) : State :=
  let s := s.forN 128 fun k s => s.setF (R.MC_RGN_W k) 0
  s.forL rows fun r s => (s.setF (R.MC_RGN_W (2 * byteAt r 0)) (fieldAt r 0 4)).setF (R.MC_RGN_W (2 * byteAt r 0 + 1)) (fieldAt r 4 4)

/-- The units a SHELF row gives. -/
def shelfUnits (r : List Byte) : List Nat := (List.range (fieldAt r 4 2)).map fun i => fieldAt r 2 2 + i

/-- No number comes twice. -/
def distinct : List Nat → Bool
  | [] => true
  | x :: l => !l.contains x && distinct l

/-- The listed chunk lies in some phase of the tenant's model (R288). -/
def chunkKnown (ds : List PhaseDesc) (c : Nat) : Bool := ds.any fun d => decide (d.first ≤ c ∧ c < d.first + d.count)

/-- The reason for which the dispatcher refuses a plan whose records keep their layout, 0 for none (R260); `s` has the
plan's regions loaded. -/
def State.planReason (s : State) (rs : List (Nat × List Byte)) (ts : List PlanTenant) (slots : List (List Nat)) : Nat :=
  let units := (rowsOf 8 (recOf rs 6)).flatMap shelfUnits
  if ts.any fun p => !s.pkgOk p (s.cfg Img.MODELS_FORMAT p.model) || !rising p.chunks
      || (p.chunks.any fun c => !chunkKnown (s.phasesOf p) c) then 0x14
  else if (rowsOf 8 (recOf rs 2)).any fun r => decide (s.fittedBytes / 16 * 15 < (fieldAt r 4 2 + fieldAt r 6 2) * mib) then 0x13
  else if ts.any fun p => decide (s.spaceOf p.n < mib + (if p.cams = 0 then 0 else 16 * mib * ((List.range 4).filter fun c => p.cams.testBit c).length) + p.pkgLen) then 0x12
  else if 256 < units.length ∨ distinct units = false ∨ (units.any fun u => decide (256 ≤ u)) then 0x10
  else if ts.any fun p => decide (0 < mostTiles slots p.n ∧ mostTiles slots p.n < s.widest p) then 0x11
  else if ts.any fun p => p.cams != 0 && !hasWindow slots p.n (s.serviceNs p) then 0x15
  else 0

/-- Give a shelf unit to a tenant: it is zero-filled before the tag takes effect (R192). -/
def State.tagUnit (s : State) (u n : Nat) : State :=
  let s := ({ s with shelf := Sparse.clear s.shelf (u * 65536) 65536 }).adSet fun a => { a with shfPoison := Sparse.clear a.shfPoison (u * 1024) 1024 }
  (s.setF (R.SHF_TAG_TENANT (u / 4) (u % 4)) n).setF (R.SHF_TAG_TAGGED (u / 4) (u % 4)) 1

/-- Apply a plan that has passed its checks; `s` has the plan's regions loaded. -/
def State.applyPlan (s : State) (rs : List (Nat × List Byte)) (ts : List PlanTenant) (slots : List (List Nat)) : State :=
  let sl := recOf rs 4
  let s := s.forN 256 fun u s => s.setF (R.SHF_TAG_TAGGED (u / 4) (u % 4)) 0
  let s := s.forL (rowsOf 8 (recOf rs 6)) fun r s => s.forL (shelfUnits r) fun u s => s.tagUnit u (byteAt r 0)
  let s := s.forN 16 fun t s => s.setF (R.TL_LIMIT_SWAPTO_US t) (max 1 (min 10000 (fieldAt sl 4 4)))
  s.dspSet fun d => { d with
    plan := ts, planOk := true, lend := decide (byteAt sl 1 = 1), slots := slots,
    lendOk := List.replicate 16 true, loans := [], slot := 0 }

/-- Check and apply a whole plan: the reason of a refusal, 0 once applied (R257, R260). -/
def State.takePlan (s : State) (l : List Byte) : Nat × State :=
  match planRecords l 9 l 0 0 with
  | none => (0x14, s)
  | some rs =>
    match streakRows 17 (recOf rs 5) with
    | none => (0x14, s)
    | some ch =>
      if planShape rs = false then (0x14, s)
      else
        let ts := planTenants rs ch
        let slots := planSlots (recOf rs 4)
        let u := s.loadRegions (rowsOf 8 (recOf rs 2))
        match u.planReason rs ts slots with
        | 0 => (0, u.applyPlan rs ts slots)
        | r => (r, s)

/-! ### CONFIG (R203, R257, R543) -/

/-- The dispatcher's acknowledgement. -/
def State.configAck (s : State) (tag status reason : Nat) : State :=
  s.adSend (mgmt TT.configAck tag (leBytes 1 status ++ leBytes 1 reason ++ leBytes 6 0))

/-- A fragment of the firmware load, in order; after the last byte the dispatcher starts it and answers (R543). -/
def State.takeFirmware (s : State) (off total : Nat) (l : List Byte) : State :=
  if s.ad.dsp.running ∨ off ≠ s.ad.dsp.sram.length then s
  else
    let s := s.dspSet fun d => { d with sram := d.sram ++ l, running := decide (total ≤ off + l.length) }
    if total ≤ off + l.length then s.configAck 0xFFFF 0 0 else s

/-- A fragment of the plan: a plan begins at offset 0; at its end it is checked and applied (R257). -/
def State.takePlanPart (s : State) (off total : Nat) (data : List Byte) : State :=
  let have_ := if off = 0 then [] else s.ad.dsp.planBuf
  if off ≠ have_.length ∨ 65536 < total then s
  else
    let l := have_ ++ data
    if l.length < total then s.dspSet fun d => { d with planBuf := l }
    else
      let r := (s.dspSet fun d => { d with planBuf := [] }).takePlan (l.take total)
      r.2.configAck 0xFFFF (if r.1 = 0 then 0 else 1) r.1

/-- The reason for which a clock-plan item is refused on receipt, 0 for none (R203). -/
def itemReason (tag total : Nat) (b : List Byte) : Nat :=
  let ftop := byteAt b 1
  if total ≠ 24 ∨ b.length ≠ 24 ∨ byteAt b 0 ≠ 1 ∨ 3 < ftop ∨ fieldAt b 2 2 ≠ tag ∨ fieldAt b 20 4 ≠ 0 then 1
  else if (List.range 16).any fun t => byteAt b (4 + t) != 0xFF && decide (ftop < byteAt b (4 + t)) then 3
  else 0

/-- A clock-plan item waits for a slot boundary (R204, R215). -/
def State.takeItem (s : State) (tag total : Nat) (b : List Byte) : State :=
  match itemReason tag total b with
  | 0 => s.dspSet fun d => { d with items := d.items ++ [⟨tag, byteAt b 1, (List.range 16).map fun t => byteAt b (4 + t), s.now⟩] }
  | r => s.configAck tag 1 r

/-- CONFIG: TAG and OFFSET tell what the message carries. -/
def execConfig (s : State) : Out :=
  .next (match s.takeAd TT.config fun _ => true with
    | none => s
    | some (m, s) =>
      let off := fieldAt m.body 0 4
      let total := fieldAt m.body 4 4
      let data := m.body.drop 8
      if s.adLive = false then s
      else if m.tag = 0xFFFF ∧ off.testBit 31 then s.takeFirmware (off % 2 ^ 31) total data
      else if s.ad.dsp.running = false then s
      else if m.tag = 0xFFFF then s.takePlanPart off total data
      else if off = 0x7FFFFF00 then s.takeItem m.tag total data
      else s)

end Sys2Proof.Machine
end

