-- ==== Sys2Proof/Machine/Lcb.lean ====
section
/-! DEFINITION. The learning control block and the segments, chunks and slots it defines (R482a, R486, R491, R492). -/

namespace Sys2Proof.Machine

/-- A tensor of the adapter image. -/
structure Tensor where
  off   : Nat
  elems : Nat
  clip  : Nat
  decay : Bool
deriving DecidableEq, Repr

/-- What a learning control block says. -/
structure Lcb where
  sgd     : Bool
  ring    : Nat
  pBytes  : Nat
  param   : Nat
  grad    : Nat
  mom     : Nat
  init    : Nat
  xch     : Nat
  areas   : List Nat
  lr      : Nat
  b1      : Nat
  b2      : Nat
  eps     : Nat
  wd      : Nat
  mu      : Nat
  batch   : Nat
  updates : Nat
  tensors : List Tensor
deriving DecidableEq, Repr

/-- Entry `t` of the tensor table. -/
def tensorAt (b : List Byte) (t : Nat) : Tensor :=
  let o := 128 + 16 * t
  ⟨fieldAt b o 4, fieldAt b (o + 4) 4, fieldAt b (o + 8) 4, decide (byteAt b (o + 12) = 1)⟩

/-- Read the block at an address of a tenant's space. -/
def State.lcbBytes (s : State) (n a : Nat) : List Byte :=
  let nt := leNat (s.tenRead n (a + 8) 4)
  s.tenRead n a (128 + 16 * min 1024 nt + 4)

def lcbOf (b : List Byte) : Lcb :=
  { sgd := decide (byteAt b 6 = 1), ring := byteAt b 7, pBytes := fieldAt b 12 4, param := fieldAt b 16 8, grad := fieldAt b 24 8,
    mom := fieldAt b 32 8, init := fieldAt b 40 8, xch := fieldAt b 48 8,
    areas := [fieldAt b 56 8, fieldAt b 64 8, fieldAt b 72 8], lr := fieldAt b 80 4, b1 := fieldAt b 84 4, b2 := fieldAt b 88 4,
    eps := fieldAt b 92 4, wd := fieldAt b 96 4, mu := fieldAt b 100 4, batch := fieldAt b 104 2, updates := fieldAt b 112 4,
    tensors := (List.range (fieldAt b 8 4)).map (tensorAt b) }

def Tensor.bytes (t : Tensor) : Nat := 4 * t.elems

/-- The segment a tensor belongs to (R482a). -/
def Lcb.segOf (l : Lcb) (t : Tensor) : Nat := t.off * l.ring / l.pBytes

/-- The tensors of a segment, its first byte and its length. -/
def Lcb.segment (l : Lcb) (k : Nat) : List Tensor := l.tensors.filter fun t => l.segOf t == k
def Lcb.segOff (l : Lcb) (k : Nat) : Nat := ((l.segment k).head?.map (·.off)).getD 0
def Lcb.segBytes (l : Lcb) (k : Nat) : Nat := ((l.segment k).map Tensor.bytes).foldl (· + ·) 0

/-- Chunks of a segment, those before it, and all of them (R491). -/
def Lcb.segChunks (l : Lcb) (k : Nat) : Nat := (l.segBytes k + 65535) / 65536
def Lcb.chunksBefore (l : Lcb) (k : Nat) : Nat := ((List.range k).map l.segChunks).foldl (· + ·) 0
def Lcb.nch (l : Lcb) : Nat := l.chunksBefore l.ring

/-- Address of the byte of slot data that holds image offset `o` of segment `k`; `gather` for the gather pass (R492). -/
def Lcb.slotAddr (l : Lcb) (k o : Nat) (gather : Bool) : Nat :=
  let r := o - l.segOff k
  let j := l.chunksBefore k + r / 65536 + (if gather then l.nch else 0)
  l.xch + 65544 * j + r % 65536

/-- Bytes of a segment's checkpoint object: header, parameters and moments (R491, R507). -/
def Lcb.objectBytes (l : Lcb) (k : Nat) : Nat := 64 + (if l.sgd then 2 else 3) * l.segBytes k

/-- Tensor offsets ascend without gaps to P_BYTES (R486). -/
def tensorsOk (pBytes : Nat) : Nat → List Tensor → Bool
  | off, [] => off == pBytes
  | off, t :: ts => t.off == off && off % 64 == 0 && decide (0 < t.elems) && (FpV.lt (.fin false 0 0) (f32 t.clip)) && tensorsOk pBytes (off + t.bytes) ts

/-- 0 < x < 1. -/
def inUnit (x : Nat) : Bool := FpV.lt (.fin false 0 0) (f32 x) && (f32 x).lt (f32 fOne)

/-- MAGIC, VERSION, ranges, tensor order and CRC hold (R486, R491). -/
def State.lcbOk (s : State) (b : List Byte) : Bool :=
  let l := lcbOf b
  let zero : FpV := .fin false 0 0
  let nt := fieldAt b 8 4
  fieldAt b 0 4 == 0x434C4B53 && fieldAt b 4 2 == 1 && decide (byteAt b 6 ≤ 1) && l.ring == s.cfg Img.LEARN_RING_SIZE 0
    && decide (1 ≤ nt ∧ nt ≤ 1024 ∧ 64 ≤ l.pBytes ∧ l.pBytes ≤ 67108864) && l.pBytes % 64 == 0
    && (l.sgd || (inUnit l.b1 && inUnit l.b2 && zero.lt (f32 l.eps))) && (!l.sgd || inUnit l.mu)
    && !(f32 l.wd).isNan && !(f32 l.wd).lt zero
    && decide (1 ≤ l.batch ∧ l.batch ≤ 256 ∧ 10 ≤ fieldAt b 106 2 ∧ fieldAt b 106 2 ≤ 10000 ∧ 100 ≤ fieldAt b 108 2 ∧ fieldAt b 108 2 ≤ 2000
        ∧ 100 ≤ fieldAt b 110 2 ∧ fieldAt b 110 2 ≤ 10000)
    && fieldAt b 116 12 == 0
    && ((List.range nt).all fun t => decide (byteAt b (140 + 16 * t) ≤ 1) && fieldAt b (141 + 16 * t) 3 == 0)
    && tensorsOk l.pBytes 0 l.tensors
    && fieldAt b (128 + 16 * nt) 4 == crc32c (b.take 112 ++ (b.take (128 + 16 * nt)).drop 116)
    && (List.range l.ring).all fun k => decide (l.objectBytes k ≤ 33554432)

/-- The named areas lie in the tenant's space (R486); `k` is the segment whose moments are at MOM. -/
def State.lcbAreas (s : State) (n : Nat) (l : Lcb) (k : Nat) : Bool :=
  let sp := s.spaceOf n
  let within : Nat → Nat → Bool := fun a len => decide (a + len ≤ sp)
  within l.param l.pBytes && within l.grad l.pBytes && within l.init l.pBytes
    && within l.mom ((if l.sgd then 1 else 2) * l.segBytes k)
    && within l.xch (2 * l.nch * 65544) && l.areas.all fun a => within a (64 * mib)

end Sys2Proof.Machine
end

