-- ==== Sys2Proof/Machine/Jobs.lean ====
section
/-! DEFINITION. Jobs at the dispatcher (R81 to R84, R89, R91 to R93, R98, R261 to R272, R277 to R282, R287): descriptors,
completions, the choice of tiles, starts, phases, lending and revocation. -/

namespace Sys2Proof.Machine

/-! ### Descriptors and completions (R81, R82) -/

def Job.op (j : Job) : Nat := byteAt j.desc 0
def Job.flags (j : Job) : Nat := byteAt j.desc 1
def Job.tag (j : Job) : Nat := fieldAt j.desc 2 2
def Job.cam (j : Job) : Nat := byteAt j.desc 4
def Job.count (j : Job) : Nat := fieldAt j.desc 6 2
def Job.ctr (j : Job) : Nat := fieldAt j.desc 8 4
def Job.inAddr (j : Job) : Nat := fieldAt j.desc 16 8
def Job.inLen (j : Job) : Nat := fieldAt j.desc 24 4
def Job.outLen (j : Job) : Nat := fieldAt j.desc 28 4
def Job.outAddr (j : Job) : Nat := fieldAt j.desc 32 8
def Job.deadlineUs (j : Job) : Nat := fieldAt j.desc 40 4
def Job.arg (j : Job) (i : Nat) : Nat := fieldAt j.desc (44 + 4 * i) 4

/-- A job just taken. -/
def newJob (n : Nat) (ring : Option Nat) (desc : List Byte) (now : Nat) : Job :=
  { tenant := n, ring := ring, desc := desc, at_ := now, fe := 0, buf := 0, batch := 0, started := false, tiles := [], phase := 0,
    poison := false, out := 0, verdict := none, cutFrom := [], cutOut := 0 }

/-- The ring a job's completion goes to (R84). -/
def Job.cq (j : Job) : Nat := 4 * j.tenant + j.ring.getD 0

/-- The job's DEADLINE_US has passed. -/
def Job.overdue (j : Job) (now : Nat) : Bool := j.deadlineUs != 0 && decide (j.at_ + j.deadlineUs * usNs ≤ now)

/-- The range lies in the tenant's space, and outside its read-only regions when written; bit 47 names the shelf
(R75, R82, R192). -/
def State.rangeOk (s : State) (n x len : Nat) (write : Bool) : Bool :=
  if x.testBit 47 then decide (x % 2 ^ 47 + len ≤ (s.unitsOf n).length * 65536)
  else
    let rec clear : List Region → Nat → Bool
      | [], _ => true
      | r :: rs, base => (!(write && r.ro && decide (x < base + r.size * mib ∧ base < x + len))) && clear rs (base + r.size * mib)
    decide (x + len ≤ s.spaceOf n) && clear (s.regionsOf n) 0

/-- A plan's entry for a tenant. -/
def State.planOf (s : State) (n : Nat) : Option PlanTenant := s.ad.dsp.plan.find? fun p => p.n == n

/-- OP, FLAGS, TAG, CAMERA, COUNT, reserved bytes and CRC are as R81 asks; of a TRAIN_STEP also what R488 asks; COPY needs
room for its output. That a TAG of 0xFFFF, a CAMERA other than 0 to 3 and 0xFF, and a set FLAGS bit above 1 fail the check is log entry
102 (DESIGN CHOICE: R81 gives their ranges and not what a value outside does). -/
def State.descOk (s : State) (n : Nat) (d : List Byte) : Bool :=
  let j : Job := newJob n none d 0
  let op := j.op
  fieldAt d 60 4 == crc32c (d.take 60) && decide (1 ≤ op ∧ op ≤ 5) && decide (j.flags < 4) && j.tag != 0xFFFF
    && (decide (j.cam < 4) || j.cam == 0xFF) && byteAt d 5 == 0 && fieldAt d 56 4 == 0
    && decide (1 ≤ j.count ∧ j.count ≤ 4096) && (op == 2 || op == 3 || (op == 4 && j.arg 0 == 0) || j.count == 1)
    && (op != 5 || decide (j.inLen ≤ j.outLen))
    && (op != 4 || (s.cfgPresent Img.LEARN_TENANT 0 && n == s.cfg Img.LEARN_TENANT 0 && decide (j.arg 0 ≤ 4)
        && (j.arg 0 == 0 || s.on Dom.adUpd)))

/-- The block that a TRAIN_STEP names. -/
def Job.lcbAddr (j : Job) : Nat := j.arg 1 * 65536

/-- The segment a NORM or UPDATE names. -/
def Job.seg (j : Job) : Nat := if j.arg 0 = 3 then j.arg 2 else if j.arg 0 = 4 then j.arg 2 % 256 else 0

/-- A TRAIN_STEP's lengths and arguments are those of its action (R488). -/
def trainShape (l : Lcb) (j : Job) : Bool :=
  match j.arg 0 with
  | 0 => j.count == l.batch && j.arg 2 == 0
  | 1 => j.inLen % 4 == 0 && decide (j.inLen ≤ 65536) && j.outLen == j.inLen
  | 2 => j.inLen % 4 == 0 && decide (j.inLen ≤ 65536) && j.outLen == j.inLen
  | 3 => j.inAddr == 0 && j.inLen == 0 && decide (j.seg < l.ring) && j.outLen == 8 * (l.segment j.seg).length
  | _ => j.inAddr == 0 && j.inLen == 0 && j.outAddr == 0 && j.outLen == 0 && decide (j.seg < l.ring ∧ j.arg 2 < 2 ^ 22)

/-- What the check of the learning control block finds (R486, R488). -/
def State.trainStatus (s : State) (n : Nat) (j : Job) : Option Nat :=
  if s.spaceOf n < j.lcbAddr + 132 then some 2
  else
    let b := s.lcbBytes n j.lcbAddr
    if s.lcbOk b = false ∨ trainShape (lcbOf b) j = false then some 1
    else if s.lcbAreas n (lcbOf b) j.seg = false then some 2 else none

/-- The status with which a descriptor is refused, if it is. -/
def State.descStatus (s : State) (n : Nat) (d : List Byte) : Option Nat :=
  let j : Job := newJob n none d 0
  if s.descOk n d = false then some 1
  else if s.rangeOk n j.inAddr j.inLen false ∧ s.rangeOk n j.outAddr j.outLen true then
    (if j.op = 4 then s.trainStatus n j else none)
  else some 2

def State.jobs (s : State) : List Job := s.ad.dsp.jobs
def State.jobsSet (s : State) (f : List Job → List Job) : State := s.dspSet fun d => { d with jobs := f d.jobs }

def State.cqTail (s : State) (k : Nat) : Nat := Sparse.get 0 s.ad.dsp.cqTail k
def State.cqFull (s : State) (k : Nat) : Bool := (s.cqTail k + 1) % 1024 == Sparse.get 0 s.ad.dsp.cqHead k

/-- Write a completion entry (R82); FLAGS bit 0 of the descriptor asks for a note to the CD (R163). -/
def State.writeCompletion (s : State) (j : Job) (status : Nat) : State :=
  let k := j.cq
  let t := s.cqTail k
  let ph := Sparse.get 1 s.ad.dsp.cqPhase k
  let e := leBytes 2 j.tag ++ leBytes 1 status ++ leBytes 1 (ph + (if j.poison then 2 else 0)) ++ leBytes 4 j.ctr ++ leBytes 4 j.out
  let s := (s.charge j.tenant 1).tenStore j.tenant (0x40000 + j.ring.getD 0 * 0x4000 + 16 * t) (e ++ leBytes 4 (crc32c e))
  let t' := (t + 1) % 1024
  let s := s.dspSet fun d => { d with
    cqTail := Sparse.put d.cqTail k t', cqPhase := if t' = 0 then Sparse.put d.cqPhase k (1 - ph) else d.cqPhase }
  if j.flags % 2 = 1 then
    s.adSend ⟨2, TT.complNote, j.tenant, 0, 0,
      leBytes 1 (j.ring.getD 0) ++ leBytes 1 0 ++ leBytes 2 t' ++ leBytes 2 j.tag ++ leBytes 2 0⟩
  else s

/-- A job is over: its completion is written, or held while its ring is full (R83); the transforms of its frame are
forgotten. -/
def State.finish (s : State) (j : Job) (status : Nat) : State :=
  if s.cqFull j.cq then s.jobsSet fun l => l.replace j { j with verdict := some status, started := false, tiles := [], batch := 0 }
  else
    let s := (s.jobsSet fun l => l.erase j).writeCompletion j status
    match j.ring with
    | none => s.dspSet fun d => { d with runs := d.runs.filter fun r => !(r.1 == j.tenant && r.2.1 == j.cam && r.2.2.1 == j.ctr) }
    | some _ => s

/-- Completions held for ring `k` are written as room comes. -/
def State.flushHeld (s : State) (k : Nat) : State :=
  s.forL (s.jobs.filter fun j => j.cq == k && j.verdict.isSome && !j.started) fun j s =>
    if s.cqFull k then s else s.finish j (j.verdict.getD 0)

/-! ### Tenants at the dispatcher -/

def State.dspSt (s : State) (n : Nat) : Nat := s.ad.dsp.st.getD n 0
def State.setDspSt (s : State) (n st : Nat) : State := s.dspSet fun d => { d with st := d.st.set n st }
def State.tenAck (s : State) (n action st : Nat) : State :=
  s.adSend ⟨0, TT.tenAck, n, 0, 0, leBytes 1 action ++ leBytes 1 st ++ leBytes 6 0⟩

/-- The tenant may run jobs. -/
def State.live (s : State) (n : Nat) : Bool := s.dspSt n == tnReady || s.dspSt n == tnRunning

/-- No program runs on the tile and no request is pending. -/
def State.resting (s : State) (t : Nat) : Bool :=
  s.tstate t != tsRun && s.tstate t != tsSeamwait && s.tstate t != tsAborting && (s.tile t).req.isNone

/-- The job could start now but for tiles: its batch has closed, its completion ring has room, and the tiles it was cut off
from have stopped (R83, R269, R272). -/
def State.runnable (s : State) (j : Job) : Bool :=
  s.live j.tenant && !j.started && j.verdict.isNone && j.batch != 1 && (j.cutFrom.all fun t => s.resting t) && (j.ring.isNone || !s.cqFull j.cq)

/-- READY with a job to run becomes RUNNING, RUNNING without a job READY; the CD is told (R95, log entry 26). -/
def State.settle (s : State) (n : Nat) : State :=
  let mine := s.jobs.filter fun j => j.tenant == n && j.verdict.isNone
  if s.dspSt n = tnReady ∧ (mine.any fun j => s.runnable j) then (s.setDspSt n tnRunning).tenAck n 0 tnRunning
  else if s.dspSt n = tnRunning ∧ mine.isEmpty then (s.setDspSt n tnReady).tenAck n 0 tnReady
  else s

/-! ### The choice of job and tiles (R261, R262) -/

/-- The oldest frame job that could run. -/
def State.nextFrame (s : State) (n : Nat) : Option Job :=
  (s.jobs.filter fun j => j.tenant == n && j.ring.isNone && s.runnable j).foldl
    (fun b j => match b with
      | none => some j
      | some x => if (s.tb2 + 2 ^ 32 - x.fe) % 2 ^ 32 < (s.tb2 + 2 ^ 32 - j.fe) % 2 ^ 32 then some j else some x) none

/-- The next ring job: rings in turn, in ring order within each. -/
def State.nextRing (s : State) (n : Nat) : Option Job :=
  ((List.range 4).map fun i => (s.ad.dsp.turn.getD n 0 + i) % 4).findSome? fun q =>
    s.jobs.find? fun j => j.tenant == n && j.ring == some q && s.runnable j

def State.nextJob (s : State) (n : Nat) : Option Job := (s.nextFrame n).or (s.nextRing n)

/-- The job runs on tiles: any but COPY and the update unit's actions. -/
def Job.onTiles (j : Job) : Bool := j.op != 5 && !(j.op == 4 && j.arg 0 != 0)

def State.owner (s : State) (t : Nat) : Nat := ownerIn s.ad.dsp.slots s.ad.dsp.slot t

/-- Time left in the tenant's window on a tile it owns; none when the tile never changes tenant. -/
def State.windowLeft (s : State) (n t : Nat) : Option Nat :=
  let sl := s.ad.dsp.slots
  let r := ownRun sl t n sl.length (s.ad.dsp.slot + 1)
  if r = sl.length then none
  else some ((s.deadline .slot).getD s.now - s.now + r * slotNs - 12 * usNs)

def State.lentTo (s : State) (t : Nat) : Option Nat := (s.ad.dsp.loans.find? fun l => l.1 == t).map (·.2)

/-- The tile passes to another owner at the end of the present slot. -/
def State.changes (s : State) (t : Nat) : Bool :=
  ownerIn s.ad.dsp.slots (s.ad.dsp.slot + 1) t != ownerIn s.ad.dsp.slots s.ad.dsp.slot t

/-- A started job holds the tile. -/
def State.held (s : State) (t : Nat) : Bool := s.jobs.any fun j => j.started && j.tiles.contains t

/-- The tile is usable for the tenant's next job (R262). -/
def State.usable (s : State) (n need t : Nat) : Bool :=
  s.on (Dom.tile t) && !(s.jobs.any fun j => j.started && j.tenant == n && j.tiles.contains t)
    && (s.lentTo t == some n ||
        (s.owner t == n && (match s.windowLeft n t with | some w => decide (need ≤ w ∧ 0 < w) | none => true)))

/-- The tenant's next job and the tiles it would start on: the lowest-numbered usable ones, as many as its widest phase
needs. -/
def State.startable (s : State) (n : Nat) : Option (Job × List Nat) :=
  match s.nextJob n, s.planOf n with
  | some j, some p =>
    if j.onTiles = false then some (j, [])
    else
      let w := s.widest p
      let ts := ((List.range 16).filter fun t => s.usable n (s.serviceNs p) t).take w
      if ts.length = w then some (j, ts) else none
  | _, _ => none

/-- The tile is free for the tenant now. -/
def State.freeFor (s : State) (n t : Nat) : Bool :=
  s.resting t && !s.held t && !s.pmu.domRst.contains t && (match s.lentTo t with | some b => b == n | none => true)

/-! ### Stopping -/

/-- Stop a tile unless it rests or is being stopped. -/
def State.stopOnce (s : State) (t reason : Nat) : State :=
  match (s.tile t).req with
  | some ⟨2, _, _, _⟩ => s
  | _ =>
    if s.tstate t = tsRun ∨ s.tstate t = tsSeamwait ∨ s.tstate t = tsHalted ∨ s.tstate t = tsAborting ∨ (s.tstate t = tsFaulted ∧ reason = 2) then
      s.stopTile t reason
    else s

/-- Cut a job off (R272): every position stops, partial outputs are discarded, and it waits for its next start; with its
deadline passed it completes with TIMEOUT. -/
def State.cutJob (s : State) (reason : Nat) (j : Job) : State :=
  let s := s.forL j.tiles fun t s => s.stopOnce t reason
  let j' := { j with started := false, tiles := [], phase := 0, poison := false, out := 0, cutFrom := j.tiles, cutOut := j.out }
  let s := s.jobsSet fun l => l.replace j j'
  match j.verdict with
  | some v => s.finish j' v
  | none => if j.overdue s.now then s.finish j' 3 else s

/-- Cut every job that holds the tile, and stop what runs on it. -/
def State.cutOn (s : State) (t reason : Nat) : State :=
  (s.forL (s.jobs.filter fun j => j.started && j.tiles.contains t) fun j s => s.cutJob reason j).stopOnce t reason

/-- Take a lent tile back (R93). -/
def State.revoke (s : State) (t : Nat) : State :=
  (s.cutOn t 1).dspSet fun d => { d with loans := d.loans.filter fun l => !(l.1 == t) }

/-- Revoke the loans of the tiles that the owner's next job would start on (R93, R102, R282). -/
def State.revokeFor (s : State) (n : Nat) : State :=
  match s.startable n with
  | some (_, ts) => s.forL ts fun t s => (match s.lentTo t with | some b => if b = n then s else s.revoke t | none => s)
  | none => s

/-! ### Lending (R92) -/

/-- The tile-slot is idle. -/
def State.idleSlot (s : State) (t : Nat) : Bool :=
  let o := s.owner t
  s.tileLive t && s.resting t && !s.held t && (s.lentTo t).isNone &&
    (decide (16 ≤ o) || !s.live o || (match s.startable o with | some (_, ts) => !ts.contains t | none => true))

/-- The tenant may borrow now. -/
def State.mayBorrow (s : State) (t n : Nat) : Bool :=
  (match s.planOf n with | some p => p.borrower && p.cls != 0 | none => false)
    && s.ad.dsp.lendOk.getD n false && s.live n && (s.nextJob n).isSome && s.owner t != n

/-- Lend one tile-slot, if it is idle, to the next borrower in turn. -/
def State.lendTile (s : State) (t : Nat) : State :=
  if s.ad.dsp.lend ∧ s.idleSlot t then
    match ((List.range 16).map fun i => (s.ad.dsp.lendRr + i) % 16).find? fun n => s.mayBorrow t n with
    | some b => s.dspSet fun d => { d with loans := (t, b) :: d.loans, lends := d.lends + 1, lendRr := (b + 1) % 16 }
    | none => s
  else s

/-- Lend what is idle (R92). A loan whose borrower has nothing left to run ends first. -/
def State.lendAll (s : State) : State :=
  let s := s.dspSet fun d => { d with loans := d.loans.filter fun l => s.held l.1 || (s.nextJob l.2).isSome || !s.resting l.1 }
  s.forN 16 fun t s => s.lendTile t

/-! ### Starting (R91, R264, R287) -/

/-- Zero-fill a tile-store bank. -/
def State.fillBank (s : State) (t b : Nat) : State :=
  let s := s.adSet fun a => { a with store := Sparse.clear a.store (t * 24576 + b * 512) 512 }
  s.forN 16 fun i s => s.setF (R.TL_POISON_W t (16 * b + i)) 0

/-- Give a tile's banks to a tenant: each is zero-filled before its tag changes (R91, log entry 30). -/
def State.tagBanks (s : State) (t n : Nat) : State :=
  s.forN 48 fun b s =>
    if s.isSet (R.TL_TAG_TAGGED t (b / 4) (b % 4)) ∧ s.getF (R.TL_TAG_TENANT t (b / 4) (b % 4)) = n then s
    else
      let s := s.fillBank t b
      (s.setF (R.TL_TAG_TENANT t (b / 4) (b % 4)) n).setF (R.TL_TAG_TAGGED t (b / 4) (b % 4)) 1

/-- The inactive program bank of a tile. -/
def State.otherBank (s : State) (t : Nat) : Nat := 1 - s.getF (R.TL_SEQ_BANK t)

/-- Load a position's program of a phase into the tile's inactive bank, which is then VALID. -/
def State.loadProgram (s : State) (p : PlanTenant) (d : PhaseDesc) (t pos : Nat) : State :=
  let b := s.otherBank t
  let off := s.imageOf p d pos
  let h := s.imageHead p off
  let code := s.pkgBytes p (off + 4) (16 * h.2)
  let s := s.charge p.n ((16 * h.2 + 63) / 64)
  let at_ := t * 8192 + b * 4096
  let s := s.adSet fun a => { a with prog := Sparse.setList 0 (Sparse.clear a.prog at_ 4096) at_ ((rowsOf 16 code).map leNat) }
  s.setFs [(R.TL_PBANK_ENTRY t b, h.1), (R.TL_PBANK_LEN t b, h.2), (R.TL_PBANK_VALID t b, 1)]

/-- Write the run's seed, and the transforms of its selected chunks that lie in the given phases (R287). -/
def State.loadXforms (s : State) (j : Job) (t : Nat) (ds : List PhaseDesc) : State :=
  let s := s.forN 256 fun e s => s.setF (R.TL_XFORM_VALID t e) 0
  match s.ad.dsp.runs.find? fun r => r.1 == j.tenant && r.2.1 == j.cam && r.2.2.1 == j.ctr && j.ring.isNone with
  | none => s
  | some (_, _, _, seed, xf) =>
    let xs := xf.filter fun x => chunkKnown ds x.chunk
    let s := s.setF (R.TL_XSEED_SEED t) seed
    (xs.foldl (fun (a : State × Nat) x =>
      (a.1.setFs [(R.TL_XFORM_CHUNK t a.2, x.chunk), (R.TL_XFORM_R t a.2, x.r), (R.TL_XFORM_Q t a.2, x.q),
        (R.TL_XFORM_N t a.2, if x.neg then 1 else 0), (R.TL_XFORM_VALID t a.2, 1)], a.2 + 1)) (s, 0)).1

/-- The jobs that run as one with `j`: those of its batch, or itself. -/
def State.group (s : State) (j : Job) : List Job :=
  if j.batch < 2 then [j] else s.jobs.filter fun x => x.tenant == j.tenant && x.batch == j.batch && x.verdict.isNone

/-- Change every job of a group. -/
def State.groupSet (s : State) (g : List Job) (f : Job → Job) : State :=
  s.jobsSet fun l => l.map fun x => if g.contains x then f x else x

/-- Reading a tenant's package and programs met an error: whether they arrive as poison (R79, R191). -/
def State.pkgError (s : State) (p : PlanTenant) (err : Option MemErr) : Bool × State :=
  match err with
  | some e => s.meetError p.n p.pkgAt e
  | none => (false, s)

/-- A group of jobs whose programs could not be read completes with POISON. -/
def State.groupPoison (s : State) (j : Job) : State :=
  s.forL (s.group j) fun x s =>
    let x' := { x with poison := true }
    (s.jobsSet fun l => l.replace x x').finish x' 5

/-- Start a job on tiles that are free: the positions of its first phase (R262). -/
def State.launch (s : State) (p : PlanTenant) (j : Job) (ts : List Nat) : State :=
  let s := s.groupSet (s.group j) fun x => { x with started := true, tiles := ts, phase := 0, cutFrom := [] }
  let s := match j.ring with
    | some q => s.dspSet fun d => { d with turn := d.turn.set j.tenant ((q + 1) % 4) }
    | none => s
  match s.phasesOf p with
  | [] => s
  | d :: _ => s.forN d.width fun pos s =>
    let t := ts.getD pos 0
    (((s.tagBanks t p.n).loadProgram p d t pos).loadXforms j t [d]).startTile t (s.otherBank t) p.n

/-- `launch`, unless the programs arrive as poison. -/
def State.launchRead (s : State) (err : Option MemErr) (p : PlanTenant) (j : Job) (ts : List Nat) : State :=
  let e := s.pkgError p err
  if e.1 then e.2.groupPoison j else e.2.launch p j ts

/-- One of the rows that start a job: the tenant's next job, if it is one the row names, starts once its tiles are free and its
bucket lets it read (R85); loans in its way are revoked (R262, R282). -/
def State.startRow (s : State) (n : Nat) (is : Job → Bool) (f : PlanTenant → Job → List Nat → State → State) : State :=
  if s.dspLive = false ∨ s.ad.dsp.planOk = false then s
  else match s.startable n, s.planOf n with
    | some (j, ts), some p =>
      if is j = false then s
      else if s.mayMove n = false then s
      else if ts.all fun t => s.freeFor n t then (f p j ts s).settle n
      else s.revokeFor n
    | _, _ => s

/-- INFER_FRAME (R84, R261, R262). -/
def execInferFrame (tenant : Fin 16) (err : Option MemErr) (s : State) : Out :=
  .next (s.startRow tenant.val (fun j => j.op == 1) fun p j ts s => s.launchRead err p j ts)

/-- INFER_CROPS (R261, R262, R269). -/
def execInferCrops (tenant : Fin 16) (err : Option MemErr) (s : State) : Out :=
  .next (s.startRow tenant.val (fun j => j.op == 2) fun p j ts s => s.launchRead err p j ts)

/-- INFER_BATCH. -/
def execInferBatch (tenant : Fin 16) (err : Option MemErr) (s : State) : Out :=
  .next (s.startRow tenant.val (fun j => j.op == 3) fun p j ts s => s.launchRead err p j ts)

/-- GRAD (R488, R498): the model's TRAIN phase on tiles. -/
def execGrad (tenant : Fin 16) (err : Option MemErr) (s : State) : Out :=
  .next (s.startRow tenant.val (fun j => j.op == 4 && j.arg 0 == 0) fun p j ts s => s.launchRead err p j ts)

/-- A job without tiles has begun. -/
def State.beginPlain (s : State) (j : Job) (out : Nat) (poison : Bool) : State :=
  let s := s.jobsSet fun l => l.replace j { j with started := true, tiles := [], out := out, poison := poison }
  match j.ring with
  | some q => s.dspSet fun d => { d with turn := d.turn.set j.tenant ((q + 1) % 4) }
  | none => s

/-- COPY: IN_LEN bytes from IN_ADDR to OUT_ADDR (R81), charged to the tenant (R86), marks and all; poison that it reads, and what its
reads meet (`errs`, by 64 bytes), make it complete with POISON (R82, R186). -/
def execCopy (tenant : Fin 16) (errs : List (Nat × MemErr)) (s : State) : Out :=
  .next (s.startRow tenant.val (fun j => j.op == 5) fun _ j _ s =>
    let n := tenant.val
    let r := s.fetch n j.inAddr j.inLen errs
    ((r.2.charge n (2 * ((j.inLen + 63) / 64))).store n j.outAddr r.1).beginPlain j j.inLen (r.1.any (·.2)))

/-! ### Phases (R264 to R266, R270) -/

/-- The tiles of the first `w` positions. -/
def Job.positions (j : Job) (w : Nat) : List Nat := j.tiles.take w

/-- Every one of these tiles is HALTED, with no request pending. -/
def State.allHalted (s : State) (ts : List Nat) : Bool := ts.all fun t => s.tstate t == tsHalted && (s.tile t).req.isNone

/-- PHASE_BARRIER: the dispatcher loads the next phase's programs and moves the positions on: with BARRIER once every
position of the phase has halted, without it at once, each position taking its SWAP at its next seam. Positions
that no later phase uses are released (R264, R266). A STOP for the window's end that is due in this cycle wins (R279). -/
def execPhaseBarrier (job : Nat) (err : Option MemErr) (s : State) : Out :=
  .next (match s.jobs[job]? with
    | none => s
    | some j =>
      match s.planOf j.tenant with
      | none => s
      | some p =>
        let ds := s.phasesOf p
        match ds[j.phase]?, ds[j.phase + 1]? with
        | some cur, some d =>
          let ready := if d.barrier then s.allHalted (j.positions cur.width) else j.tiles.all fun t => (s.tile t).req.isNone
          let ready := ready && !(s.due .stopLead && j.tiles.any s.changes)
          if s.dspLive ∧ j.started ∧ j.onTiles ∧ j.verdict.isNone ∧ ready ∧ s.mayMove j.tenant then
            let e := s.pkgError p err
            if e.1 then
              let s := e.2.groupSet (e.2.group j) fun x => { x with poison := true, verdict := some 5 }
              s.forL j.tiles fun t s => s.stopOnce t 0
            else
            let s := e.2
            let s := s.forN d.width fun pos s =>
              let t := j.tiles.getD pos 0
              let b := s.otherBank t
              let s := ((if pos < cur.width then s else s.tagBanks t p.n).loadProgram p d t pos).loadXforms j t (if d.barrier then [d] else [cur, d])
              if pos < cur.width then s.swapTile t b p.n else s.startTile t b p.n
            let keep := (ds.drop (j.phase + 1)).foldl (fun m x => max m x.width) 0
            (s.groupSet (s.group j) fun x => { x with phase := j.phase + 1, tiles := x.tiles.take keep }).lendAll
          else s
        | _, _ => s)

/-! ### The end of a job -/

/-- The update unit is free again (R520). -/
def State.updDone (s : State) (j : Job) : State :=
  if j.op = 4 ∧ j.arg 0 ≠ 0 then (s.setF R.UPD_STAT_BUSY 0).wrapInc R.UPD_JOBS_COUNT else s

/-- The last phase of the job has halted on all its positions; of a closed batch with others still running, any item may be
the next to finish (R269). -/
def State.jobOver (s : State) (j : Job) : Bool :=
  match s.planOf j.tenant with
  | none => false
  | some p =>
    let ds := s.phasesOf p
    match ds[j.phase]? with
    | some d => j.phase + 1 == ds.length && (s.allHalted (j.positions d.width) || decide (1 < (s.group j).length))
    | none => false

/-- JOB_COMPLETE: the completion entry is written, idle tiles are lent on (R82, R92). -/
def execJobComplete (job : Nat) (s : State) : Out :=
  .next (match s.jobs[job]? with
    | none => s
    | some j =>
      let past : Bool := match j.verdict with
        | some _ => j.tiles.all fun t => s.resting t
        | none => j.onTiles == false || s.jobOver j
      if s.dspLive ∧ j.started ∧ past then
        let v := j.verdict.getD (if j.poison then 5 else 0)
        (((s.finish j v).updDone j).settle j.tenant).lendAll
      else s)

/-- The job's own work is over, and its completion due now. -/
def State.jobEnded (s : State) (j : Job) : Bool :=
  j.started && (j.onTiles == false ||
    (match s.planOf j.tenant with
    | some p =>
      let ds := s.phasesOf p
      (match ds[j.phase]? with | some d => j.phase + 1 == ds.length && s.allHalted (j.positions d.width) | none => false)
    | none => false))

/-- JOB_DEADLINE: a job not yet started completes with TIMEOUT; a running one is abandoned at its next seam (R82); one that completes in
the same cycle completes with OK (R106). -/
def execJobDeadline (job : Nat) (s : State) : Out :=
  .next (match s.jobs[job]? with
    | none => s
    | some j =>
      if s.dspLive ∧ j.overdue s.now ∧ j.verdict.isNone ∧ s.jobEnded j = false then
        if j.started = false ∨ j.tiles = [] then (s.finish j 3).settle j.tenant
        else
          let s := s.jobsSet fun l => l.replace j { j with verdict := some 3 }
          if 1 < (s.group j).length then s else s.forL j.tiles fun t s => s.stopOnce t 0
      else s)

/-! ### Batches (R268, R269, R278) -/

/-- The tenant's model batches raggedly and the descriptor permits it. -/
def State.batches (s : State) (n : Nat) (d : List Byte) : Bool :=
  (byteAt d 0 == 2 || byteAt d 0 == 3) && (byteAt d 1).testBit 1 &&
    (match s.planOf n with | some p => (s.pkgHdr p).batchUs != 0 | none => false)

/-- The row groups that fill every accumulator bank on each position; an item counts as one group (log entry 31). -/
def State.batchRoom (s : State) (p : PlanTenant) : Nat := 8 * fmtBanks (s.pkgHdr p).format * s.widest p

/-- The open batch of a tenant is to close. -/
def State.batchDue (s : State) (p : PlanTenant) (l : List Job) : Bool :=
  let svc := s.serviceNs p
  decide (s.batchRoom p ≤ (l.map Job.count).foldl (· + ·) 0) || l.any fun j =>
    decide (j.at_ + (s.pkgHdr p).batchUs * usNs ≤ s.now) ||
    (j.deadlineUs != 0 && decide (j.at_ + j.deadlineUs * usNs ≤ s.now + svc))

/-- BATCH_CLOSE: the open batch becomes runnable as one job; an item that arrives in the same cycle goes into the next (R278). -/
def execBatchClose (tenant : Fin 16) (s : State) : Out :=
  .next (match s.planOf tenant.val with
    | none => s
    | some p =>
      let l := s.jobs.filter fun j => j.tenant == tenant.val && j.batch == 1 && j.verdict.isNone && decide (j.at_ < s.now)
      if s.dspLive ∧ l.isEmpty = false ∧ s.batchDue p l then
        let b := s.ad.dsp.batches + 1
        let s := (s.dspSet fun d => { d with batches := b }).groupSet l fun j => { j with batch := b }
        ((s.settle tenant.val).revokeFor tenant.val).lendAll
      else s)

/-! ### Doorbells (R81, R83) -/

/-- Take one descriptor from a ring; one that arrives as poison fails its checks (log entry 55). -/
def State.takeDesc (s : State) (n q i : Nat) (errs : List (Nat × MemErr)) : State :=
  let r := s.fetch n (q * 0x10000 + i * 64) 64 errs
  let d := r.1.flatMap (·.1)
  let s := r.2.charge n 1
  let j : Job := { newJob n (some q) d s.now with batch := if s.batches n d then 1 else 0 }
  match if r.1.any (·.2) then some 1 else s.descStatus n d with
  | none => s.jobsSet fun l => l ++ [j]
  | some v => (s.jobsSet fun l => l ++ [{ j with batch := 0 }]).finish { j with batch := 0 } v

/-- Take every descriptor up to the tail; `errs` names what the reads of the descriptors meet, by their index in the ring. -/
def State.takeDescs : Nat → State → Nat → Nat → Nat → List (Nat × MemErr) → State
  | 0, s, _, _, _, _ => s
  | k + 1, s, n, q, tail, errs =>
    let h := Sparse.get 0 s.ad.dsp.sqHead (4 * n + q)
    if h = tail then s
    else
      let e := (errs.filter fun e => e.1 == h).map fun e => (0, e.2)
      let s := (s.takeDesc n q h e).dspSet fun d => { d with sqHead := Sparse.put d.sqHead (4 * n + q) ((h + 1) % 1024) }
      State.takeDescs k (s.setF (R.TEN_SQHD_HEAD (4 * n + q)) ((h + 1) % 1024)) n q tail errs

/-- DOORBELL: the descriptors up to the new tail are checked and queued; loans in the way of the next job are revoked
(R81, R83, R93). A tenant whose bucket is empty waits (R85). -/
def execDoorbell (errs : List (Nat × MemErr)) (s : State) : Out :=
  .next (match s.takeAd TT.doorbell fun m => s.mayMove m.tenant with
    | none => s
    | some (m, s) =>
      let n := m.tenant
      let q := byteAt m.body 0
      let st := s.dspSt n
      let known := match s.planOf n with | some p => decide (q < p.queues) | none => false
      if s.dspLive = false ∨ known = false ∨ st = tnAbsent ∨ st = tnLoading ∨ st = tnResetting then s
      else
        let tail := fieldAt m.body 2 2 % 1024
        let s := s.dspSet fun d => { d with sqTail := Sparse.put d.sqTail (4 * n + q) tail }
        (((State.takeDescs 1024 s n q tail errs).settle n).revokeFor n).lendAll)

/-- TEN_CQHD: firmware's consumption point; it reaches the dispatcher at once, which writes what it held (R83, log entry
27). -/
def execTenCqhd (tenant : Fin 16) (queue : Fin 4) (head : Nat) (s : State) : Out :=
  .next (s.access Dom.core fun s =>
    let k := 4 * tenant.val + queue.val
    let s := (s.setF (R.TEN_CQHD_HEAD k) head).dspSet fun d => { d with cqHead := Sparse.put d.cqHead k (head % 1024) }
    if s.dspLive then s.flushHeld k else s)

/-! ### Tenant commands and resets (R94, R95, R98) -/

/-- Jobs of a tenant that has been taken away. -/
def State.dropJobs (s : State) (n : Nat) : State :=
  (s.jobsSet fun l => l.filter fun j => !(j.tenant == n)).dspSet fun d => { d with loans := d.loans.filter fun l => !(l.2 == n) }

/-- Tiles that run a program of the tenant, or wait with one. -/
def State.tilesRunning (s : State) (n : Nat) : List Nat :=
  (List.range 16).filter fun t => s.tileLive t && s.tenantOf t == n && s.tstate t != tsIdle

/-- TEN_CMD: the dispatcher acts on a command and acknowledges it; lending permission it takes without one. -/
def execTenCmd (s : State) : Out :=
  .next (match s.takeAd TT.tenCmd fun _ => true with
    | none => s
    | some (m, s) =>
      let n := m.tenant
      if s.dspLive = false ∨ 16 ≤ n then s
      else match byteAt m.body 0 with
        | 1 =>
          let s := s.forL (s.jobs.filter fun j => j.tenant == n && j.started) fun j s => s.cutJob 0 j
          ((s.setDspSt n tnSuspended).tenAck n 1 tnSuspended).lendAll
        | 2 =>
          let s := if s.dspSt n = tnRunning then s else (s.setDspSt n tnReady).fillBucket n
          (((s.tenAck n 2 tnReady).settle n).revokeFor n).lendAll
        | 3 =>
          let s := s.forL (s.tilesRunning n) fun t s => s.stopOnce t 2
          let s := s.dspSet fun d => { d with
            loans := d.loans.filter fun l => !(l.2 == n)
            frames := d.frames.map fun f => { f with dest := f.dest.filter fun p => !(p.1 == n) } }
          ((s.setDspSt n tnResetting).tenAck n 3 tnResetting).arm (.scrub n) 0
        | 4 => (s.dspSet fun d => { d with lendOk := d.lendOk.set n true }).lendAll
        | 5 =>
          let s := s.dspSet fun d => { d with lendOk := d.lendOk.set n false }
          s.forL (s.ad.dsp.loans.filter fun l => l.2 == n) fun l s => s.revoke l.1
        | 6 => (s.setDspSt n tnLoading).tenAck n 6 tnLoading
        | 7 => ((s.dropJobs n).setDspSt n tnAbsent).tenAck n 7 tnAbsent
        | _ => s)

/-- Zero-fill a region but for its canary cell (R98). -/
def State.scrubRegion (s : State) (r : Region) : State :=
  if r.ro then s
  else
    let s := { s with dram := Sparse.clear s.dram (r.base * mib) (r.size * mib - 64) }
    s.charge r.owner (r.size * mib / 64)

/-- Zero-fill and untag every bank of the tenant. -/
def State.untagBanks (s : State) (n : Nat) : State :=
  s.forN 16 fun t s => s.forN 48 fun b s =>
    if s.isSet (R.TL_TAG_TAGGED t (b / 4) (b % 4)) ∧ s.getF (R.TL_TAG_TENANT t (b / 4) (b % 4)) = n then
      let s := s.fillBank t b
      (s.setF (R.TL_TAG_TENANT t (b / 4) (b % 4)) 0).setF (R.TL_TAG_TAGGED t (b / 4) (b % 4)) 0
    else s

/-- The ring indices of a tenant are 0 (R98, R99). -/
def State.resetRings (s : State) (n : Nat) : State :=
  let clr : Sparse Nat → Sparse Nat := fun m => Sparse.clear m (4 * n) 4
  let s := s.dspSet fun d => { d with
    sqTail := clr d.sqTail, sqHead := clr d.sqHead, cqTail := clr d.cqTail, cqPhase := clr d.cqPhase, cqHead := clr d.cqHead }
  s.forN 4 fun q s => (s.setF (R.TEN_SQHD_HEAD (4 * n + q)) 0).setF (R.TEN_CQHD_HEAD (4 * n + q)) 0

/-- Step 3 of a tenant reset: every job completes with ABORTED, or with the status already decided; a completion for a full ring is
held (R83, R98). -/
def State.abortJobs (s : State) (n : Nat) : State :=
  s.forL (s.jobs.filter fun j => j.tenant == n) fun j s => (s.finish j (j.verdict.getD 4)).doIf j.started fun s => s.updDone j

/-- SCRUB_COMPLETE: steps 2 to 5 of a tenant reset are done; the tenant enters LOADING (R98). It needs every tile of the tenant to have
stopped, at a seam or by its 12 µs limit, every completion to be written, and the tenant's bucket to let the scrub go (R85, R86). -/
def execScrubComplete (tenant : Fin 16) (s : State) : Out :=
  .next (
    let n := tenant.val
    if s.dspLive ∧ s.tnState n = tnResetting ∧ s.armed (.scrub n) ∧ s.tilesRunning n = [] ∧ s.mayMove n then
      let s := s.abortJobs n
      if s.jobs.any fun j => j.tenant == n then s
      else
        let s := (((s.disarm (.scrub n)).dropJobs n).resetRings n).untagBanks n
        let s := s.forL (s.regionsOf n) fun r s => s.scrubRegion r
        (s.setTenant n tnLoading).command n 6
    else s)

/-! ### Limits and slots (R88, R89, R93, R241, R244, R272) -/

/-- STOP_LIMIT_EXPIRY: 12 µs without a seam: the tile aborts to IDLE. On a handoff this is a tile fault; on a revocation
BORROW_LATE, reported as REVOKE_LATE, and the borrower's job completes with POISON (R245); on a reset neither. -/
def execStopLimitExpiry (tile : Fin 16) (s : State) : Out :=
  .next (let t := tile.val
    if s.tileLive t ∧ s.due (.stopLimit t) then
      match (s.tile t).req with
      | some ⟨2, _, reason, _⟩ =>
        let n := s.tenantOf t
        if s.atSeam t then s
        else
        let s := if reason = 0 then s.recordFault t (s.limitFault t) (s.faultPc t 0) 0 false else s
        let s := s.abortTile t 2 0 0 0
        let s := if reason = 1 then
            let s := (s.adFault n 5 0).dspSet fun d => { d with late := d.late + 1 }
            s.forL (s.jobs.filter fun j => j.tenant == n && j.cutFrom.contains t && !j.started) fun j s =>
              let j' := { j with poison := true, out := j.cutOut }
              (s.jobsSet fun l => l.replace j j').finish j' 5
          else s
        s.lendAll
      | _ => s.disarm (.stopLimit t)
    else s)

/-- At the end of a cycle withdrawals arrive, the aborts that are due end, and tiles that are free now are lent on (R92, R241). -/
def State.abortsDone (s : State) : State :=
  let s := s.forN 16 fun t s => s.sendWithdrawals t
  let due := (List.range 16).filter fun t => s.tileLive t && match (s.tile t).abort with | some a => decide (a.until_ ≤ s.now) | none => false
  if due.isEmpty then s else (s.forL due fun t s => s.endAbort t).doIf s.dspLive fun s => s.lendAll

/-- SLOT_STOP_LEAD: 12 µs before a boundary at which a tile changes tenant its program is stopped: an owner's for the handoff,
a borrower's as a revocation (R89, R93, R272). -/
def execSlotStopLead (s : State) : Out :=
  .next (if s.dspLive ∧ s.due .stopLead then
      (s.disarm .stopLead).forN 16 fun t s =>
        if s.tileLive t ∧ s.changes t then
          match s.lentTo t with
          | some _ => s.revoke t
          | none => s.cutOn t 0
        else s
    else s)

/-- K and M of a tile's divider for its point under F_top (R195, R196). -/
def pointMhz (p : Nat) : Nat := if p = 0 then 400 else if p = 1 then 600 else if p = 2 then 800 else 1000
def dividerOf (p top : Nat) : Nat × Nat :=
  let g := Nat.gcd (pointMhz p) (pointMhz top)
  (pointMhz p / g, pointMhz top / g)

/-- The powered tiles count the cycles of 8 ns at their points, TL_CYCLES and what is left over in tenths (R219, R273); the slew between two
points is not followed (log entry 118). -/
def State.countCycles (s : State) : State :=
  s.forN 16 fun t s =>
    if s.tileLive t then
      let n := (s.tile t).tenths + 8 * pointMhz (s.getF (R.TL_CLK_POINT t)) / 100
      (s.tileSet t fun k => { k with tenths := n % 10 }).wrapAdd (R.TL_CYCLES_CYCLES t) (n / 10)
    else s

/-- Set the dividers of every tile an item names. -/
def State.setDividers (s : State) (it : ClockItem) : State :=
  s.forN 16 fun t s =>
    let p := it.points.getD t 0xFF
    if p = 0xFF then s
    else
      let km := dividerOf p it.ftop
      s.setFs [(R.TL_CLK_K t, km.1), (R.TL_CLK_M t, km.2), (R.TL_CLK_POINT t, p)]

/-- The points in force, as an item. -/
def State.pointsNow (s : State) : ClockItem :=
  ⟨0, s.getF R.ACG_FTOP_POINT, (List.range 16).map fun t => if s.on (Dom.tile t) then s.getF (R.TL_CLK_POINT t) else 0xFF, s.now⟩

/-- At a boundary the next clock-plan item that arrived before it is applied, unless one is under way: dividers at once, and the slew
(R204, R215, R216). -/
def State.clockPlan (s : State) : State :=
  match s.ad.dsp.slew, s.ad.dsp.items with
  | none, it :: rest =>
    if s.now ≤ it.at_ then s
    else
      let old := s.pointsNow
      let s := (s.dspSet fun d => { d with items := rest, slew := some (it, old) }).setDividers it
      (s.setF R.ACG_STAT_SLEWING 1).arm .slew (10 * usNs)
  | _, _ => s

/-- A slot begins (R88): clock plan, owners' jobs before lending (R102), and the lead of the next boundary. -/
def State.beginSlot (s : State) (j : Nat) : State :=
  let s := s.dspSet fun d => { d with slot := j }
  let s := s.clockPlan
  let s := if (List.range 16).any fun t => s.changes t then s.arm .stopLead (slotNs - 12 * usNs) else s
  (s.forN 16 fun n s => s.revokeFor n).lendAll

/-- SLOT_BOUNDARY: slot n begins 250 µs × n after the tick; slot 0 begins with the next tick (R87, R88). -/
def execSlotBoundary (s : State) : Out :=
  .next (if s.dspLive ∧ s.ad.dsp.planOk ∧ s.due .slot ∧ s.ad.dsp.slot + 1 < s.ad.dsp.slots.length then
      let s := s.rearm .slot slotNs
      s.beginSlot (s.ad.dsp.slot + 1)
    else s)

end Sys2Proof.Machine
end

