-- ==== Sys2Proof/Machine/Flint.lean ====
section
/-! DEFINITION. Flint (R292, R293, R303, R324): scores, the self-test and the fault state. -/

namespace Sys2Proof.Machine

/-- The zone mask of a camera. -/
def State.zmask (s : State) (c : Nat) : Nat := s.getF (R.FLT_ZMASK_W (2 * c)) + s.getF (R.FLT_ZMASK_W (2 * c + 1)) % 65536 * 2 ^ 32

/-- What the score table holds for a zone outside the mask: neither present nor clear (R292). -/
def noScore : Nat := 256

/-- Score of zone `z` in a score set given as 48 bytes. -/
def scoreOf (scores z : Nat) : Nat := scores / 256 ^ z % 256

/-- The scores that Flint produces: those of the mask's zones. -/
def State.masked (s : State) (c scores : Nat) : List Nat :=
  (List.range 48).map fun z => if (s.zmask c).testBit z then scoreOf scores z else noScore

/-- FLT_SCOREc takes FRAME_CTR, FS_TIME and the scores; a zone without one reads 0 (R327). -/
def State.showScores (s : State) (c : Nat) (k : FlintCopy) (l : List Nat) : State :=
  let at4 : Nat → Nat := fun i => l.getD i 0 % 256
  let s := (s.setF (R.FLT_SCORE_W (16 * c)) k.ctr).setF (R.FLT_SCORE_W (16 * c + 1)) k.fs
  s.forN 12 fun i s => s.setF (R.FLT_SCORE_W (16 * c + 2 + i))
    (at4 (4 * i) + 256 * at4 (4 * i + 1) + 65536 * at4 (4 * i + 2) + 16777216 * at4 (4 * i + 3))

/-- The Assay's table of the last 4 score sets of each camera (R297). -/
def State.keepScores (s : State) (f : ScoreSet) : State :=
  s.asySet fun a =>
    let own := (a.flint.filter fun g => g.cam == f.cam) ++ [f]
    { a with flint := (a.flint.filter fun g => !(g.cam == f.cam)) ++ own.drop (own.length - 4) }

def State.dropCopy (s : State) (c : Nat) : State :=
  { s with flt := { s.flt with queue := s.flt.queue.set c ((s.flt.queue.getD c []).drop 1) } }

/-- Flint becomes or stays FAULTED: every bit is cleared (R293, R304). -/
def State.flintFault (s : State) : State :=
  ((s.setF R.FLT_STAT_FAULTED 1).flag R.FLT_INT_FAULT).clearAllZones

/-- What Flint's SRAM shows while it scores: `ecc` 1 an error that was corrected, 2 one that cannot be (R293, R324). -/
def State.flintSram (s : State) (ecc : Fin 3) : State :=
  match ecc.val with
  | 1 => (s.satInc R.FLT_CNT_CE).raise Ev.FLT_CE
  | 2 => s.flintFault
  | _ => s

/-- FLINT_SCORE: the oldest waiting copy of a camera is scored; `scores` has zone z's score in byte z (R292). Present
zones clear what they feed (R303); while FAULTED nothing is passed on (R293). -/
def execFlintScore (cam : Fin 4) (scores : Nat) (ecc : Fin 3) (s : State) : Out :=
  .next (
    let c := cam.val
    match (s.flt.queue.getD c []).head? with
    | none => s
    | some k =>
      if s.on Dom.flint = false ∨ s.flt.modelOk = false then s
      else
        let s := ((s.dropCopy c).wrapInc (R.FLT_RUN_COPIES c)).flintSram ecc
        if s.isSet R.FLT_STAT_FAULTED then s
        else
          let l := s.masked c scores
          let s := (s.showScores c k l).keepScores ⟨c, k.ctr, k.fs, l⟩
          let thr := s.getF R.FLT_CFG_THRESH
          s.forN 48 fun z s => if thr ≤ l.getD z 0 ∧ l.getD z noScore < noScore then s.presence c z else s)

/-- FLINT_SELF_TEST: once a second; `ok` tells whether all 48 scores agree (R293). -/
def execFlintSelfTest (ok : Bool) (s : State) : Out :=
  .next (if s.on Dom.flint ∧ s.flt.modelOk ∧ s.dueOrNew .flintTest then
      let s := s.rearm .flintTest secNs
      if ok then s.setFs [(R.FLT_STAT_KAT_OK, 1), (R.FLT_STAT_FAULTED, 0)]
      else (((s.setF R.FLT_STAT_KAT_OK 0).satInc R.FLT_STAT_KAT_FAILS).raiseInt Ev.FLT_KAT_FAIL R.FLT_INT_KATFAIL).flintFault
    else s)

/-- FLINT_OVERRUN: a copy waits 20 ms after its hand-over (R293). -/
def execFlintOverrun (cam : Fin 4) (s : State) : Out :=
  .next (match (s.flt.queue.getD cam.val []).head? with
    | none => s
    | some k =>
      if s.on Dom.flint ∧ k.at_ + 20 * msNs ≤ s.now then
        (((s.dropCopy cam.val).satInc R.FLT_CNT_OVERRUN).raiseInt Ev.FLT_OVERRUN R.FLT_INT_OVERRUN cam.val).flintFault
      else s)

/-- CD_FLINT has been powered up: the queues are empty, and FL-P2 is loaded from the flash Flint model area and its
SHA-256 compared with the hash that stands first in the boot ROM (R293, log entries 8, 35). -/
def State.flintPowerUp (s : State) : State :=
  let s := ((s.clearRegs 0x40060000 0x10000).disarm .flintTest)
  let ok := sha256 (s.flashBytes 0x610000 (min Config.flintModelLen 0x100000)) == Sparse.getList 0 s.rom 0 32
  let s := { s with flt := { FltState.init with modelOk := ok } }
  if ok then (s.setF R.FLT_STAT_READY 1).arm .flintTest secNs
  else (s.raise Ev.FLT_MODEL).flintFault

end Sys2Proof.Machine
end

