-- ==== Sys2Proof/Machine/Assay.lean ====
section
/-! DEFINITION. The Assay's judgement (R298 to R306, R315 to R323): intake, the seventeen checks, verdicts, and what they
do to the believed-absent bits. -/

namespace Sys2Proof.Machine

/-! ### Records (R294) -/

/-- The fields of a record, and its pairs. -/
structure Rec where
  kind    : Nat
  tenant  : Nat
  cam     : Nat
  flags   : Nat
  ctr     : Nat
  fs      : Nat
  rseq    : Nat
  recno   : Nat
  npair   : Nat
  model   : Nat
  first   : Nat
  nsel    : Nat
  res     : Nat
  occ     : Nat
  eval    : Nat
  objects : Nat
  nrec    : Nat
  zone    : Nat
  body    : List Byte
  pairs   : List (Nat × Nat)

def recOfBytes (b : List Byte) : Rec :=
  { kind := byteAt b 0, tenant := byteAt b 1, cam := byteAt b 2, flags := byteAt b 3, ctr := fieldAt b 4 4, fs := fieldAt b 8 4,
    rseq := fieldAt b 12 2, recno := byteAt b 14, npair := byteAt b 15, model := fieldAt b 16 8, first := fieldAt b 24 2,
    nsel := fieldAt b 26 2, res := fieldAt b 28 4, occ := fieldAt b 32 8, eval := fieldAt b 40 8, objects := byteAt b 48,
    nrec := byteAt b 49, zone := byteAt b 33, body := (b.drop 32).take 28,
    pairs := (List.range ((b.length - 64) / 8)).map fun i => (fieldAt b (64 + 8 * i) 4, fieldAt b (68 + 8 * i) 4) }

def Rec.isZones (r : Rec) : Bool := r.kind == 1
def Rec.isObject (r : Rec) : Bool := r.kind == 2

/-- The CRC over the record and its pairs holds. -/
def recCrcOk (b : List Byte) : Bool := decide (64 ≤ b.length) && crc32c (b.take 60 ++ b.drop 64) == fieldAt b 60 4

/-- SIG records that precede the ZONES record of a run of `nsel` pairs (R295). -/
def nSig (nsel : Nat) : Nat := (nsel - 1) / 16

def allZero (l : List Byte) : Bool := l.all fun b => b == 0

/-- Check 2, what one record shows: the header repeats it, KIND is known, reserved bytes are 0, and its place is that of
its kind (R294, R295). -/
def Rec.formOk (r : Rec) (m : RecMsg) : Bool :=
  let n := nSig r.nsel
  m.tenant == r.tenant && m.tag == r.rseq && m.count == r.npair && m.bytes.length == 64 + 8 * r.npair
    && decide (r.npair ≤ 16) && decide (r.flags < 4) && r.res == 0
    && (match r.kind with
        | 1 => decide (r.occ < 2 ^ 48 ∧ r.eval < 2 ^ 48) && allZero (r.body.drop 18) && r.recno == n && r.first == 16 * n
               && r.first + r.npair == r.nsel && r.nrec == r.recno + 1 + r.objects && (r.flags % 2 == 1) == (r.objects == 0)
        | 2 => allZero (r.body.drop 16) && r.npair == 0 && decide (n < r.recno)
        | 3 => allZero r.body && r.npair == 16 && decide (r.recno < n) && r.first == 16 * r.recno && r.flags % 2 == 0
        | _ => false)

/-- Check 2, against the run's earlier records: RECNO rises, an OBJECT record is one of those announced, and LAST marks the
last. -/
def Rec.orderOk (r : Rec) (e : RunEntry) : Bool :=
  decide (e.recno ≤ r.recno) && (match e.objs with
    | some k => if r.isObject then decide (r.recno ≤ nSig r.nsel + k) && (r.flags % 2 == 1) == (r.recno == nSig r.nsel + k) else true
    | none => true)

/-! ### The tables -/

def State.stampOf (s : State) (cam ctr fs : Nat) : Option Stamp :=
  s.asy.stamps.find? fun t => t.cam == cam && t.ctr == ctr && t.fs == fs

def State.runEntry (s : State) (n cam ctr : Nat) : Option RunEntry :=
  s.asy.runs.find? fun e => e.tenant == n && e.cam == cam && e.ctr == ctr

def State.setRun (s : State) (e : RunEntry) : State :=
  s.asySet fun a => { a with runs := a.runs.map fun q => if q.tenant = e.tenant ∧ q.cam = e.cam ∧ q.ctr = e.ctr then e else q }

/-- TB2 since a time stamp of it. -/
def State.sinceTb2 (s : State) (t : Nat) : Nat := (s.tb2 + 2 ^ 32 - t % 2 ^ 32) % 2 ^ 32

/-- A frame end of time `fe` was no longer recent when the record came to the head of the queue (R299, R318: exactly STALE_MS
passes). -/
def State.staleFe (s : State) (fe : Nat) : Bool :=
  decide (s.getF R.ASY_CFG1_STALE_MS * msNs < (s.asy.headTb2 + 2 ^ 32 - fe % 2 ^ 32) % 2 ^ 32)

/-! ### Sequence gaps (R298, R299, R304, R323) -/

/-- Count a report on the ladder's narrower windows: `lim` within 1 s make one report, and the window starts anew. -/
def State.onNth (s : State) (l : List Nat) (lim : Nat) (put : List Nat → AsyState → AsyState) : State :=
  let w := s.window secNs l
  if lim ≤ w.length then (s.asySet (put [])).ladder bAsy else s.asySet (put w)

/-- A gap of a tenant; from the second within 1 s on it is a ladder report. -/
def State.seqGap (s : State) (n rseq : Nat) : State :=
  let s := s.raiseInt Ev.ASY_SEQ_GAP R.ASY_INT_GAP n rseq
  let s := s.clearTenantCams n
  let w := s.window secNs s.asy.gapAt
  let s := s.asySet fun a => { a with gapAt := w }
  if 2 ≤ w.length then s.ladder bAsy else s

/-! ### Verdicts (R300) -/

/-- Add an entry to the verdict ring (R325). -/
def State.ringPut (s : State) (rec64 : List Byte) (verdict reason fe : Nat) : State :=
  let e := s.getF R.ASY_VHEAD_NEXT
  let l := rec64 ++ leBytes 1 verdict ++ leBytes 1 reason ++ leBytes 2 0 ++ leBytes 4 s.tb2 ++ leBytes 4 fe ++ leBytes 4 0
  let s := s.forN 20 fun i s => s.setF (R.ASY_VRING_W (20 * e + i)) (fieldAt l (4 * i) 4)
  let s := s.setF R.ASY_VHEAD_NEXT ((e + 1) % 256)
  if e = 255 then s.wrapInc R.ASY_VHEAD_WRAPS else s

def State.lastRef (s : State) (reason n cam rseq : Nat) : State :=
  s.setFs [(R.ASY_LASTREF_REASON, reason), (R.ASY_LASTREF_TENANT, n), (R.ASY_LASTREF_CAMERA, cam), (R.ASY_LASTREF_RSEQ, rseq)]

/-- The counter of a verdict: 0 BELIEVED, 1 WITHHELD, 2 REFUTED, 3 STALE. -/
def verdictCounter (v : Nat) : Fld :=
  match v with
  | 0 => R.ASY_VB_BELIEVED
  | 1 => R.ASY_VW_WITHHELD
  | 2 => R.ASY_VR_REFUTED
  | _ => R.ASY_VS_STALE

/-- Issue a verdict: counter, ring, ASY_LASTREF. -/
def State.giveVerdict (s : State) (v reason : Nat) (b : List Byte) (n cam rseq fe : Nat) : State :=
  let s := (s.wrapInc (verdictCounter v)).ringPut ((b ++ List.replicate 64 0).take 64) v reason fe
  if v = 0 then s else s.lastRef reason n cam rseq

/-- The verdict that the failed checks (outcome, reason) give. -/
def verdictOf (fails : List (Nat × Nat)) : Nat :=
  if fails.any fun f => f.1 == 2 then 2 else if fails.any fun f => f.1 == 3 then 3 else if fails.isEmpty then 0 else 1

def reasonOf (fails : List (Nat × Nat)) : Nat := (fails.head?.map (·.2)).getD 0

/-! ### Streak pairs (R301, R326) -/

/-- A pair satisfies the Streak equation. -/
def pairOk (x : Xform) (s1 s2 : Nat) : Bool := if x.neg then s2 == (sigP - s1) % sigP else s2 == s1

/-- STK's account of a pair that fails. -/
def State.badPair (s : State) (n cam : Nat) (x : Xform) : State :=
  ((s.satInc R.STK_PAIRS_BAD_COUNT).setFs
    [(R.STK_LASTBAD_CHUNK, x.chunk), (R.STK_LASTBAD_TENANT, n), (R.STK_LASTBAD_CAMERA, cam),
     (R.STK_LASTBAD_N, if x.neg then 1 else 0), (R.STK_LASTBAD_R, x.r)]).raiseInt Ev.STK_MISMATCH R.STK_INT_MISMATCH x.chunk n

/-- Check the pairs of a record against the run: those below p by the equation, unproven ones apart. -/
def takePairs : List (Nat × Nat) → Nat → RunEntry → State → RunEntry × State
  | [], _, e, s => (e, s)
  | (s1, s2) :: l, i, e, s =>
    match e.xf[i]? with
    | none => takePairs l (i + 1) e s
    | some x =>
      if sigP ≤ s1 ∨ sigP ≤ s2 then takePairs l (i + 1) { e with bad := true } s
      else
        let new := !(e.arrived.contains i)
        let e := if new then { e with arrived := i :: e.arrived } else e
        if s1 = 0 ∧ s2 = 0 then
          takePairs l (i + 1) (if new then { e with unproven := e.unproven + 1 } else e) (s.satInc R.STK_UNPROVEN_COUNT)
        else if pairOk x s1 s2 then takePairs l (i + 1) e (s.wrapInc R.STK_PAIRS_OK_COUNT)
        else takePairs l (i + 1) { e with bad := true } (s.badPair e.tenant e.cam x)

/-- Some pair of the record fails the equation. -/
def pairsFail (xf : List Xform) : List (Nat × Nat) → Nat → Bool
  | [], _ => false
  | (s1, s2) :: l, i =>
    (match xf[i]? with
     | some x => decide (s1 < sigP ∧ s2 < sigP ∧ ¬(s1 = 0 ∧ s2 = 0)) && !pairOk x s1 s2
     | none => false) || pairsFail xf l (i + 1)

/-- Check 15 (R301). -/
def State.coverOk (s : State) (r : Rec) : Option RunEntry → Bool
  | none => false
  | some e =>
    if r.isZones then
      !e.bad && !e.judged && r.nsel == e.xf.length && e.arrived.length == e.xf.length
        && decide ((e.xf.length * s.getF (R.STK_COV_MIN_COVER_PCT r.tenant) + 99) / 100 ≤ e.xf.length - e.unproven)
    else !e.bad

/-! ### Flint evidence (R302) -/

/-- Camera zones that some lighting zone takes from camera `c`. -/
def State.mappedZones (s : State) (c : Nat) : Nat := (List.range 8).foldl (fun m L => m ||| s.zmap (4 * L + c)) 0

/-- The record claims zone `z` absent. -/
def Rec.absent (r : Rec) (z : Nat) : Bool := r.eval.testBit z && !r.occ.testBit z

/-- The newest score set of the camera that is not later than `fs`. -/
def State.scoreSet (s : State) (c fs : Nat) : Option ScoreSet :=
  (s.asy.flint.filter fun f => f.cam == c && decide ((fs + 2 ^ 32 - f.fs) % 2 ^ 32 < 2 ^ 31)).getLast?

/-- Check 16: 0, or the reason it fails with. Where several hold, FAULT comes before STALE, STALE before DISAGREE. -/
def State.flintCheck (s : State) (r : Rec) : Nat :=
  let zs := (List.range 48).filter fun z => r.absent z && (s.mappedZones r.cam).testBit z
  if zs.isEmpty then 0
  else if s.isSet R.FLT_STAT_FAULTED then 0x11
  else match s.scoreSet r.cam r.fs with
    | none => 0x0F
    | some f =>
      let thr := s.getF R.FLT_CFG_THRESH
      if (r.fs + 2 ^ 32 - f.fs) % 2 ^ 32 > s.getF R.ASY_CFG0_FLINT_MAXAGE_MS * msNs then 0x0F
      else if zs.any fun z => !(s.zmask r.cam).testBit z || f.scores.getD z noScore == noScore then 0x0F
      else if zs.any fun z => decide (thr ≤ f.scores.getD z noScore) then 0x10
      else 0

/-! ### Presence and absence (R303, R305) -/

/-- Claims of presence act whatever the verdict. -/
def State.recPresence (s : State) (r : Rec) : State :=
  if r.isZones then s.forN 48 fun z s => if r.occ.testBit z then s.presence r.cam z else s
  else if r.isObject ∧ r.zone < 48 then s.presence r.cam r.zone
  else s

/-- Put run(L, c), good(L, c) of entry `e`. -/
def State.setRunOf (s : State) (e n : Nat) : State := s.asySet fun a => { a with runCnt := Sparse.set 0 a.runCnt e n }
def State.setGoodOf (s : State) (e t : Nat) : State := s.asySet fun a => { a with good := Sparse.set 0 a.good e t }

/-- A BELIEVED ZONES record counts for one entry of its camera (R305, R317), unless the entry was cleared in this very cycle (R316,
R319). -/
def State.earn (s : State) (r : Rec) (e : Nat) : State :=
  let m := s.zmap e
  let zs := (List.range 48).filter fun z => m.testBit z
  if zs.isEmpty ∨ s.clearedNow e then s
  else if zs.all r.absent then
    let good := s.now + s.getF R.ASY_CFG0_ZONE_EXPIRY_MS * msNs - s.sinceTb2 r.fs
    let run := if s.goodOf e < s.now then 0 else s.runOf e
    let run' := if s.goodOf e = s.now ∧ run = 0 then 0 else min 31 (run + 1)
    (s.setRunOf e run').setGoodOf e good
  else if zs.all fun z => r.eval.testBit z then s
  else s.setRunOf e 0

def State.earnAll (s : State) (r : Rec) : State :=
  let old := s.luxTarget
  (s.forN 8 fun L s => s.earn r (4 * L + r.cam)).refreshZones old

/-! ### Intake and judgement -/

/-- The record limit of R177: more than 20 in 1 ms. -/
def State.recordRate (s : State) : Bool × State :=
  let w := s.window msNs s.sil.recAt
  (decide (20 < w.length), s.silSet fun l => { l with recAt := w })

/-- A record comes to the intake (R298). A discarded one is a gap of its header's tenant, with the expected value after
it. -/
def State.intake (s : State) (m : RecMsg) : State :=
  if s.isSet R.ASY_CTL_INTAKE = false then s.satInc R.ASY_INTAKE_CLOSED
  else if 64 ≤ s.asy.intake.length then
    let s := (s.satInc R.ASY_INTAKE_FULL).raiseInt Ev.ASY_INTAKE_DROP R.ASY_INT_INTAKEDROP m.tenant m.tag
    if m.tenant < 16 then (s.setF (R.ASY_RSEQ_EXPECT m.tenant) ((m.tag + 1) % 65536)).seqGap m.tenant m.tag else s
  else
    let t := s.tb2
    s.asySet fun a => { a with intake := a.intake ++ [m], headTb2 := if a.intake.isEmpty then t else a.headTb2 }

/-- Check 1 fails: REFUTED; the camera is that of the stamp the record's FRAME_CTR and FS_TIME match, else every camera of
the header's tenant is cleared (R299, R304). -/
def State.judgeCrc (s : State) (m : RecMsg) : State :=
  let r := recOfBytes m.bytes
  let st := s.asy.stamps.find? fun t => t.ctr == r.ctr && t.fs == r.fs
  let s := match st with
    | some t => s.clearCamera t.cam
    | none => if m.tenant < 16 then s.clearTenantCams m.tenant else s
  let s := s.raiseInt Ev.ASY_REFUTED R.ASY_INT_REFUTED 1 m.tenant
  let s := s.giveVerdict 2 1 m.bytes m.tenant ((st.map (·.cam)).getD 0) m.tag 0
  s.trustVerdict false true

/-- The run entry after a record that passed checks 2 and 8. -/
def Rec.note (r : Rec) (e : RunEntry) : RunEntry :=
  { e with recno := r.recno + 1, objs := if r.isZones then some r.objects else e.objs }

/-- The run's ZONES record has been judged: its transforms and its bitmap are freed, and what remains is what its OBJECT records are
judged by (R297, log entry 61). -/
def State.freeRun (s : State) : Option RunEntry → State
  | some e => s.setRun { e with xf := [], arrived := [], judged := true }
  | none => s

/-- The trust state that a verdict goes by: a change in this cycle counts from the next record on (R319). -/
def State.trustSeen (s : State) : Nat :=
  match s.asy.trustWas with
  | some (t, w) => if t = s.now then w else s.getF R.ASY_TRUST_STATE
  | none => s.getF R.ASY_TRUST_STATE

/-- Checks 4 to 17 of a record that passed checks 1 and 3, and what follows from them. -/
def State.judgeRest (s : State) (m : RecMsg) (r : Rec) : State :=
  let n := r.tenant
  let trust := s.trustSeen
  let run := s.runEntry n r.cam r.ctr
  let formOk := r.formOk m && (match run with | some e => r.orderOk e | none => true)
  let st := s.stampOf r.cam r.ctr r.fs
  let d := (r.rseq + 65536 - s.getF (R.ASY_RSEQ_EXPECT n)) % 65536
  let back := decide (32768 ≤ d)
  let gap := decide (0 < d ∧ d < 32768)
  let reliable := formOk && !back
  let range := reliable && r.pairs.any fun p => decide (sigP ≤ p.1 ∨ sigP ≤ p.2)
  let streak := reliable && (match run with | some e => pairsFail e.xf r.pairs r.first | none => false)
  let s := s.setF (R.ASY_RSEQ_EXPECT n) ((r.rseq + 1) % 65536)
  let s := match run with
    | some e => if reliable then let q := takePairs r.pairs r.first e s; q.2.setRun (r.note q.1) else s
    | none => s
  let cover := reliable && !s.coverOk r (s.runEntry n r.cam r.ctr)
  let flint := if reliable ∧ r.isZones then s.flintCheck r else 0
  let stale := match st with | some t => s.staleFe t.fe | none => false
  let fails :=
    (if formOk then [] else [(2, 0x02)])
    ++ (if r.model = s.cfg Img.MODELS_BLOB (s.cfg Img.TENANTS_MODEL n) % 2 ^ 64 then [] else [(2, 0x04)])
    ++ (match st with | some t => if t.status = 0 then [] else [(2, 0x06)] | none => [(2, 0x05)])
    ++ (if (s.cfg Img.TENANTS_CAMERAS n).testBit r.cam then [] else [(2, 0x07)])
    ++ (if back then [(2, 0x0A)] else if gap then [(1, 0x0B)] else [])
    ++ (if range then [(2, 0x14)] else []) ++ (if streak then [(2, 0x0C)] else [])
    ++ (if 2 ≤ r.flags % 4 then [(1, 0x13)] else [])
    ++ (if stale then [(3, 0x09)] else [])
    ++ (if r.cam < 4 ∧ s.isSet (R.ING_CAM_STAT_HEALTH r.cam) then [(1, 0x08)] else [])
    ++ (if cover then [(1, 0x0D)] else [])
    ++ (if flint = 0 then [] else [(1, flint)])
    ++ (if trust = 0 then [(1, 0x12)] else [])
  let v := verdictOf fails
  let s := if r.isZones ∧ reliable then s.freeRun (s.runEntry n r.cam r.ctr) else s
  let s := s.giveVerdict v (reasonOf fails) m.bytes n r.cam r.rseq ((st.map (·.fe)).getD 0)
  let s := if r.isZones then (if v = 0 then s.earnAll r else if r.cam < 4 then s.clearCamera r.cam else s) else s
  let s := match fails.find? fun f => f.1 == 2 && f.2 != 0x0C with
    | some f => s.raiseInt Ev.ASY_REFUTED R.ASY_INT_REFUTED f.2 n
    | none => if v = 2 then s.flag R.ASY_INT_REFUTED else s
  let s := if flint = 0x10 then s.raise Ev.ASY_FLINT_DISAGREE r.cam n else s
  let s := s.trustVerdict (v == 0) (v == 2)
  let s := if gap then s.seqGap n r.rseq else s
  let s := if stale then (s.raise Ev.ASY_STALE n r.rseq).onNth s.asy.staleAt 16 fun l a => { a with staleAt := l } else s
  if cover ∧ r.isZones then
    (s.raiseInt Ev.STK_COVER_SHORT R.STK_INT_COVERSHORT n r.cam).onNth s.asy.shortAt 16 fun l a => { a with shortAt := l }
  else s

/-- A record's tenant is a present S tenant in READY or RUNNING (check 3). -/
def State.tenantMayRecord (s : State) (n : Nat) : Bool :=
  decide (n < 16) && s.getF (R.TEN_STATE_CLASS n) == 0 && (s.tnState n == tnReady || s.tnState n == tnRunning)

/-- Judge one record (R299, R303). A record dropped by check 3 has no verdict, no counter and no ring entry. -/
def State.judge (s : State) (m : RecMsg) : State :=
  if recCrcOk m.bytes = false then s.judgeCrc m
  else
    let r := recOfBytes m.bytes
    let s := s.recPresence r
    if s.tenantMayRecord r.tenant = false then
      let s := if r.isZones ∧ r.cam < 4 then s.clearCamera r.cam else s
      (s.lastRef 0x03 r.tenant r.cam r.rseq).tenViol 6
    else s.judgeRest m r

/-- The next record comes to the head of the queue, and goes by what the trust state is now (R318, R319). -/
def State.headOn (s : State) : State := let t := s.tb2; s.asySet fun a => { a with headTb2 := t, trustWas := none }

/-- ASSAY_JUDGE: the record at the head of the intake queue (R298); `ce` says that a table showed a single-bit error, which was
corrected (R324). -/
def execAssayJudge (ce : Bool) (s : State) : Out :=
  .next (match s.asy.intake with
    | [] => s
    | m :: l =>
      if s.on Dom.core then
        (((s.doIf ce fun s => s.raise Ev.ASY_CE).asySet fun a => { a with intake := l }).judge m).headOn
      else s)

/-- The intake closes: every bit is cleared, and what is still in the queue takes STALE (R26, R58). -/
def State.closeIntake (s : State) : State :=
  let s := s.clearAllZones
  let q := s.asy.intake
  let s := s.asySet fun a => { a with intake := [] }
  let s := s.forL q fun m s =>
    let r := recOfBytes m.bytes
    s.giveVerdict 3 0x09 m.bytes r.tenant r.cam r.rseq (((s.stampOf r.cam r.ctr r.fs).map (·.fe)).getD 0)
  s.setF R.ASY_CTL_INTAKE 0

/-- ZONE_EXPIRY: a countdown good(L, c) has reached 0 (R305), and the cycle in which a record could still refresh it has passed
(R317); `e` = L × 4 + c. -/
def execZoneExpiry (e : Fin 32) (s : State) : Out :=
  .next (if s.goodOf e.val ≠ 0 ∧ s.goodOf e.val < s.now then
      let old := s.luxTarget
      ((s.setRunOf e.val 0).setGoodOf e.val 0).refreshZones old
    else s)

/-- A run entry's time is up: STALE_MS after its frame's FE_TIME, or its stamp has left the table (R297). -/
def State.runOver (s : State) (e : RunEntry) : Bool :=
  let own := s.asy.stamps.filter fun t => t.cam == e.cam
  match own.find? fun t => t.ctr == e.ctr with
  | some t => decide (s.getF R.ASY_CFG1_STALE_MS * msNs ≤ s.sinceTb2 t.fe)
  | none => match own.getLast? with
    | some t => decide ((t.ctr + 2 ^ 32 - e.ctr) % 2 ^ 32 < 2 ^ 31)
    | none => false

/-- RUN_EXPIRY (R297). -/
def execRunExpiry (tenant : Fin 16) (cam : Fin 4) (ctr : Nat) (s : State) : Out :=
  .next (match s.runEntry tenant.val cam.val ctr with
    | none => s
    | some e => if s.runOver e then
        s.asySet fun a => { a with runs := a.runs.filter fun q => !(q.tenant == e.tenant && q.cam == e.cam && q.ctr == e.ctr) }
      else s)

end Sys2Proof.Machine
end

