-- ==== Sys2Proof/Machine/Qual.lean ====
section
/-! DEFINITION. The known-answer qualification (R311 to R313, R315). -/

namespace Sys2Proof.Machine

/-! ### The known-answer set (R312) -/

/-- A case's header, and where its parts stand in the set. -/
structure KatCase where
  cam    : Nat
  dtype  : Nat
  len    : Nat
  seed   : Nat
  nsel   : Nat
  nrec   : Nat
  at_    : Nat

def KatCase.xfAt (k : KatCase) : Nat := k.at_ + 32
def KatCase.frameAt (k : KatCase) : Nat := k.xfAt + 4 * k.nsel
def KatCase.recAt (k : KatCase) (i : Nat) : Nat := k.frameAt + k.len + 64 * i
def KatCase.pairAt (k : KatCase) (i : Nat) : Nat := k.recAt k.nrec + 8 * i
def KatCase.padAt (k : KatCase) : Nat := k.pairAt k.nsel
/-- Where the case ends: its parts fill a multiple of 64 bytes. -/
def KatCase.endAt (k : KatCase) : Nat := k.at_ + (k.padAt - k.at_ + 63) / 64 * 64

def katCase (b : List Byte) (o : Nat) : KatCase :=
  ⟨byteAt b o, byteAt b (o + 1), fieldAt b (o + 4) 4, fieldAt b (o + 8) 4, fieldAt b (o + 12) 2, fieldAt b (o + 14) 2, o⟩

/-- The cases of a set, in order. -/
def katCases (b : List Byte) : Nat → Nat → List KatCase
  | 0, _ => []
  | n + 1, o => let k := katCase b o; k :: katCases b n k.endAt

def katCount (b : List Byte) : Nat := byteAt b 6
def katTenant (b : List Byte) : Nat := byteAt b 7

/-- The zero bytes of a case, its records and its padding. -/
def KatCase.zeros (k : KatCase) (b : List Byte) : Bool :=
  fieldAt b (k.at_ + 2) 2 == 0 && allZero ((b.drop (k.at_ + 16)).take 16)
    && ((List.range k.nrec).all fun i =>
      fieldAt b (k.recAt i + 8) 4 == 0 && fieldAt b (k.recAt i + 12) 2 == 0 && fieldAt b (k.recAt i + 60) 4 == 0)
    && allZero ((b.drop k.padAt).take (k.endAt - k.padAt))

/-- A case is usable on this device (R313). -/
def State.caseOk (s : State) (b : List Byte) (k : KatCase) : Bool :=
  decide (k.cam < 4) && k.zeros b && s.isSet (R.ING_CAM_CFG_EN k.cam)
    && k.len == lineBytes (s.getF (R.ING_CAM_CFG_DTYPE k.cam)) (s.getF (R.ING_CAM_GEOM_WIDTH k.cam)) * s.getF (R.ING_CAM_GEOM_HEIGHT k.cam)

/-- The known-answer set that ASSAY.KAT_BLOB names. -/
def State.katSet (s : State) : Option (List Byte) :=
  if s.cfgPresent Img.ASSAY_KAT_BLOB 0 then
    (s.blobs.find? fun b => b.hash == s.cfg Img.ASSAY_KAT_BLOB 0).map fun b => s.flashBytes b.at_ b.len
  else none

/-- The set keeps R312 and R313. -/
def State.katOk (s : State) (b : List Byte) : Bool :=
  let ks := katCases b (katCount b) 32
  b.take 4 == [0x53#8, 0x4B#8, 0x4B#8, 0x41#8] && fieldAt b 4 2 == 1 && decide (1 ≤ katCount b ∧ katCount b ≤ 16)
    && decide (katTenant b < 16) && s.tenantPresent (katTenant b) && s.cfg Img.TENANTS_CLASS (katTenant b) == 0
    && allZero ((b.drop 16).take 16) && b.length == (match ks.getLast? with | some k => k.endAt | none => 32)
    && ks.all (s.caseOk b)

/-! ### A run -/

def qualNs : Nat := 100 * msNs

/-- Camera 0x10 + c of a case (R313). -/
def KatCase.qcam (k : KatCase) : Nat := 0x10 + k.cam

/-- The CRC of each block of 16 lines. -/
def blockCrcs (lb : Nat) : Nat → List Byte → List Nat
  | 0, _ => []
  | n + 1, l => crc32c (l.take (16 * lb)) :: blockCrcs lb n (l.drop (16 * lb))

/-- The transforms that stand in a case. -/
def KatCase.xforms (k : KatCase) (b : List Byte) : List Xform :=
  (List.range k.nsel).map fun i =>
    let rn := byteAt b (k.xfAt + 4 * i + 2)
    ⟨fieldAt b (k.xfAt + 4 * i) 2, rn % 64, byteAt b (k.xfAt + 4 * i + 3) % 64, decide (128 ≤ rn)⟩

/-- Send a case's frame under the given transforms, and wait for its records. FRAME_CTR is the one its expected records
carry. -/
def State.sendCase (s : State) (b : List Byte) (k : KatCase) (xf : List Xform) : State :=
  let n := katTenant b
  let ctr := fieldAt b (k.recAt 0 + 4) 4
  let tag := ctr % 65536
  let fs := s.tb2
  let lb := lineBytes (s.getF (R.ING_CAM_CFG_DTYPE k.cam)) (s.getF (R.ING_CAM_GEOM_WIDTH k.cam))
  let h := s.getF (R.ING_CAM_GEOM_HEIGHT k.cam)
  let pay := (b.drop k.frameAt).take k.len
  let s := s.sendAd ⟨1, TT.frameOpen, n, 0, tag, frameOpenBytes k.qcam k.dtype ctr fs⟩
  let s := (s.sendAd ⟨1, TT.streakSet, n, 0, tag, streakBody k.qcam ctr k.seed xf⟩).wrapInc (R.STK_RUNS_RUNS n)
  let s := s.forN ((k.len + 2039) / 2040) fun i s =>
    s.sendAd ⟨1, TT.frameData, n, 0, tag, leBytes 1 k.qcam ++ leBytes 3 0 ++ leBytes 4 (2040 * i) ++ (pay.drop (2040 * i)).take 2040⟩
  let s := s.sendAd ⟨1, TT.frameTrailer, n, 0, tag,
    trailerOf k.qcam 0 0 ctr fs s.tb2 k.dtype h lb k.len (blockCrcs lb ((h + 15) / 16) pay)⟩
  s.arm .qualRecord qualNs

/-- Begin the run that the qualification stands at; after the last case nothing more is sent. The second run keeps the
case's SEED and draws new transforms for the same chunks. -/
def State.beginRun (s : State) (b : List Byte) (idx : Nat) (second : Bool) : State :=
  match (katCases b (katCount b) 32)[idx]? with
  | none => (s.asySet fun a => { a with qual := some ⟨idx, second, [], 0⟩ }).disarm .qualRecord
  | some k =>
    let r := if second then drawXforms ((k.xforms b).map (·.chunk)) s else (k.xforms b, s)
    let s := r.2.asySet fun a => { a with qual := some ⟨idx, second, r.1, 0⟩ }
    s.sendCase b k r.1

/-- After the records of one run, the next run, then the next case. -/
def State.nextRun (s : State) (b : List Byte) (q : Qual) : State :=
  if q.second then s.beginRun b (q.idx + 1) false else s.beginRun b q.idx true

/-- The qualification may start: the AD is DISTRUSTED, its plan has been accepted and a canary round passed, no apply runs
before its step 9, and debug does not hold it. -/
def State.mayQualify (s : State) : Bool :=
  s.getF R.ASY_TRUST_STATE == 0 && s.getF R.ASY_TRUST_QUAL == 2 && (match s.cil.apply with | some a => a.step == 9 | none => true) && s.ten.passed == some true
    && s.isSet R.SIL_STATUS_READY && !s.isSet R.SIL_DBG_EN && s.asy.qual.isNone

/-- The set cannot be used: the AD stays DISTRUSTED, without a further reset (R313). -/
def State.katUnusable (s : State) : State :=
  ((s.setF R.ASY_TRUST_QUAL 0).flag R.ASY_INT_QUALDONE).raise Ev.ASY_KAT_UNUSABLE

/-- QUALIFICATION: step 4 of R311 begins. The expected RSEQ of every S tenant is 0 (R315). -/
def execQualification (s : State) : Out :=
  .next (if s.mayQualify = false ∨ s.on Dom.core = false then s
    else match s.katSet with
      | none => s.katUnusable
      | some b =>
        if s.katOk b = false then s.katUnusable
        else
          let s := s.setF R.ASY_TRUST_QUAL 3
          let s := s.forN 16 fun n s => if s.getF (R.TEN_STATE_CLASS n) = 0 then s.setF (R.ASY_RSEQ_EXPECT n) 0 else s
          s.beginRun b 0 false)

/-- A record agrees with the expected one outside FS_TIME, RSEQ and CRC. -/
def sameRecord (x e : List Byte) : Bool :=
  x.take 8 == e.take 8 && (x.drop 14).take 46 == (e.drop 14).take 46

/-- The pairs of a qualification record are what the run asks for (R313). -/
def qualPairsOk (b : List Byte) (k : KatCase) (q : Qual) (r : Rec) : Bool :=
  (List.range r.pairs.length).all fun i =>
    let p := r.pairs.getD i (0, 0)
    let e1 := fieldAt b (k.pairAt (r.first + i)) 4
    let e2 := fieldAt b (k.pairAt (r.first + i) + 4) 4
    if q.second then
      p.1 == e1 && !(p.1 == 0 && p.2 == 0) && (match q.xf[r.first + i]? with | some x => pairOk x p.1 p.2 | none => false)
    else p.1 == e1 && p.2 == e2

/-- A record of a qualification arrives: it is compared at once and touches no verdict counter and no bit (R313). -/
def State.qualRecord (s : State) (q : Qual) (m : RecMsg) : State :=
  match s.katSet with
  | none => s.asySet fun a => { a with qualBad := true }
  | some b =>
    let r := recOfBytes m.bytes
    let s := if r.tenant < 16 then s.setF (R.ASY_RSEQ_EXPECT r.tenant) ((r.rseq + 1) % 65536) else s
    match (katCases b (katCount b) 32)[q.idx]? with
    | none => s
    | some k =>
      let e := (b.drop (k.recAt q.next)).take 64
      if decide (q.next < k.nrec) && recCrcOk m.bytes && sameRecord (m.bytes.take 64) e && r.pairs.length == r.npair
          && decide (r.first + r.npair ≤ k.nsel ∨ r.npair = 0) && qualPairsOk b k q r then
        let q := { q with next := q.next + 1 }
        let s := s.asySet fun a => { a with qual := some q }
        if q.next < k.nrec then s else (s.disarm .qualRecord).nextRun b q
      else (s.asySet fun a => { a with qualBad := true }).disarm .qualRecord

/-- RECORD: a record message (R298); a qualification's own records apart (R177, R313). -/
def execRecord (tenant count : Fin 256) (tag : Fin 65536) (body : List Byte) (s : State) : Out :=
  .next (match s.takeCd ⟨1, TT.record, tenant.val, count.val, tag.val, body⟩ with
    | none => s
    | some (_, s) =>
      let p := s.recordRate
      let m : RecMsg := ⟨tenant.val, count.val, tag.val, body⟩
      if p.1 then p.2.silViol 0x0C TT.record
      else match p.2.asy.qual with
        | some q => if 0x10 ≤ byteAt body 2 ∧ byteAt body 2 < 0x14 then p.2.qualRecord q m else p.2.intake m
        | none => p.2.intake m)

/-- QUALIFICATION_DONE: every record came and agreed, or one did not (R311 step 5). -/
def execQualificationDone (s : State) : Out :=
  .next (match s.asy.qual with
    | none => s
    | some q =>
      if s.isSet R.SIL_DBG_EN then s
      else if s.asy.qualBad then s.qualFail
      else match s.katSet with
        | none => s.qualFail
        | some b =>
          if katCount b ≤ q.idx then
            let s := (s.asySet fun a => { a with qual := none }).disarm .qualRecord
            let s := (s.setF R.ASY_TRUST_QUAL 0).flag R.ASY_INT_QUALDONE
            (s.setTrust 1).raise Ev.ASY_QUAL_PASS
          else s)

/-- QUAL_RECORD_TIMEOUT: a record has not arrived 100 ms after its trailer (R313); where a case has no records none is
missing, and the next run begins. -/
def execQualRecordTimeout (s : State) : Out :=
  .next (match s.asy.qual with
    | none => s
    | some q =>
      if s.due .qualRecord = false then s
      else match s.katSet with
        | none => s.qualFail
        | some b => match (katCases b (katCount b) 32)[q.idx]? with
          | none => s
          | some k => if k.nrec = 0 then (s.disarm .qualRecord).nextRun b q else s.qualFail)

end Sys2Proof.Machine
end

