-- ==== Sys2Proof/Machine/SillPower.lean ====
section
/-! DEFINITION. Sill's power states, the wake lines, and debug access to the AD (R167 to R174, R177). -/

namespace Sys2Proof.Machine

/-- DOZE_IDLE_TIMEOUT (R168). -/
def execDozeIdleTimeout (s : State) : Out :=
  .next (if s.mayEnter ∧ s.sil.cd.replay = [] ∧ s.sil.ad.replay = [] ∧ s.sil.cd.txq = []
      ∧ s.sil.idleAt + s.getF R.SIL_PM_DOZE_IDLE_US * usNs ≤ s.now then s.startEntry 1 else s)

/-- PM_ENTER: the AD receives it and answers; after its PM_ACK it sends only link-control and null flits (R168). PM_ACK goes before what
has not been begun. -/
def execPmEnter (s : State) : Out :=
  .next (match s.takeAd TT.pmEnter fun _ => true with
    | some (m, s) =>
      if s.adLive then
        let a := mgmt TT.pmAck 0 (leBytes 8 (byteAt m.body 0))
        let begun := fun (q : Msg × Nat) => q.2 != q.1.flits
        ((s.setLink true fun e => { e with txq := e.txq.filter begun ++ (a, a.flits) :: e.txq.filter (fun q => !begun q) }).silSet fun l =>
          { l with adQuiet := true }).transmit true
      else s
    | none => s)

/-- PM_ACK reaches the CD (R168); outside an entry it answers nothing. -/
def execPmAck (target : Fin 256) (s : State) : Out :=
  .next (if s.linkActive then
      match s.takeCd (mgmt TT.pmAck 0 (leBytes 8 target.val)) with
      | none => s
      | some (_, s) =>
        if s.sil.pmTarget ≠ 0 ∧ s.sil.pmAcked = false then (s.silSet fun l => { l with pmAcked := true }).disarm .pmAck else s
    else s)

/-- PM_ACK_TIMEOUT: the entry completes by EIDLE all the same; the resume will retrain (R177 code 0x09). -/
def execPmAckTimeout (s : State) : Out :=
  .next (if s.linkActive ∧ s.sil.pmTarget ≠ 0 ∧ s.due .pmAck then
      ((s.silSet fun l => { l with pmAcked := true, pmSpoilt := true }).disarm .pmAck).silViol 9 TT.pmAck
    else s)

/-- The link rests in DOZE (3) or SLEEP (4), in which SPLL stops (R167, R168). -/
def State.rest (s : State) (st : Nat) : State :=
  let s := (s.setF R.SIL_STATUS_STATE st).raise Ev.SIL_PM st
  if st = 4 then s.setF R.PMU_CLK_SPLL 0 else s

/-- ELECTRICAL_IDLE: once both replay buffers are empty, the CD ends its group of flits, sends EIDLE and the lanes go idle (R147, R148,
R168); what came up during the entry resumes the link at once (R173, R174). -/
def execElectricalIdle (s : State) : Out :=
  .next (if s.linkActive ∧ s.sil.pmTarget ≠ 0 ∧ s.sil.pmAcked ∧ s.sil.cd.replay = [] ∧ s.sil.ad.replay = [] then
      let sleep := decide (s.sil.pmTarget = 2)
      let s := ((s.endGroup false).endGroup true).silSet fun l =>
        { l with pmTarget := 0, pmAcked := false, rows := [.eidle], wireAd := [], wireCd := [], restAt := s.now,
                 actNs := l.actNs + (s.now - l.upAt), adQuiet := true }
      let s := s.rest (if sleep then 4 else 3)
      let s := s.doIf (!s.sil.ad.txq.isEmpty) fun s => s.dspSet fun d => { d with wake := true }
      if s.sil.wakeAt.isSome then s.startResume true
      else if s.sil.cd.txq.isEmpty then s else s.startResume false
    else s)

/-- SLEEP_REQ: a write of SIL_PM.SLEEP_REQ. In DOZE the lanes are idle already and the SPLL stops; while the link cannot enter, the request
waits (R168). -/
def execSleepReq (s : State) : Out :=
  .next (s.access Dom.sill fun s =>
    if s.mayEnter then s.startEntry 2
    else if s.linkActive ∧ s.sil.pmTarget = 1 then s.silSet fun l => { l with pmTarget := 2 }
    else if s.linkState = 3 ∧ s.sil.resumeAt = none then s.rest 4
    else if s.linkState = 2 ∨ s.linkState = 3 then s.silSet fun l => { l with sleepWant := true }
    else s)

/-- SLEEP_AFTER_TIMEOUT: DOZE has lasted SLEEP_AFTER_US, where that is not 0 (R168). -/
def execSleepAfterTimeout (s : State) : Out :=
  .next (
    let n := s.getF R.SIL_PM_SLEEP_AFTER_US
    if s.linkState = 3 ∧ s.sil.resumeAt = none ∧ n ≠ 0 ∧ s.sil.restAt + n * usNs ≤ s.now then s.rest 4 else s)

/-- SIL_RESUME: a write of SIL_PM.RESUME (R169). -/
def execSilResume (s : State) : Out := .next (s.access Dom.sill fun s => s.startResume false)

/-- SB_WAKE rises or falls. In ACTIVE it is timed for R177; otherwise the CD resumes for it or absorbs it (R170, R173). -/
def execSbWake (high : Bool) (s : State) : Out :=
  .next (if s.on Dom.sill = false ∨ s.linkState < 2 ∨ s.linkState = 5 then s
    else if high = false then (s.silSet fun l => { l with wakeAt := none }).disarm .wakeHeld
    else
      let s := s.doIf s.sil.wakeAt.isNone fun s => s.silSet fun l => { l with wakeAt := some s.now }
      if s.linkActive ∧ s.sil.pmTarget = 0 ∧ s.armed .wakeHeld = false then s.arm .wakeHeld usNs else s)

/-- A wake asserted more than 200 ns before `t` (R173). -/
def SilState.woken (l : SilState) (t : Nat) : Bool :=
  match l.wakeAt with
  | some w => decide (w + 200 < t)
  | none => false

/-- RESUME_COMPLETE: the SYNC rows have been sent, from SLEEP steps 3 to 5 of training have run too, and the link is ACTIVE; RESUME_ACK
is the first data flit (R148, R169, R173). Without a decision of its own the CD has resumed for the wake, once it had passed its
filter. -/
def execResumeComplete (s : State) : Out :=
  .next (
    let t := s.sil.resumeAt.getD s.now
    let byWake := s.sil.cause || s.sil.woken t
    let ready := s.linkState = 3 ∨ (s.linkState = 4 ∧ s.sil.step = 5)
    if ready ∧ (s.sil.resumeAt.isSome ∨ byWake) then
      let absorbed := !byWake && s.sil.wakeAt.isSome
      let m := mgmt TT.resumeAck 0 (leBytes 8 ((if byWake then 1 else 0) + (if absorbed then 2 else 0)))
      let spoilt := s.sil.pmSpoilt
      let s := (s.silSet fun l => { l with
        resumeAt := none, cause := false, awaitAck := true, pmSpoilt := false, idleAt := s.now,
        upAt := s.now, step := 0, rows := [.sync, .sync, .sync, .sync] }).setLink false fun e => { e with txq := (m, m.flits) :: e.txq }
      let s := s.setF R.SIL_STATUS_STATE 2
      let s := if absorbed then s.raise Ev.SIL_WAKE_ABSORBED else s.raise Ev.SIL_PM 2
      let s := s.doIf s.sil.wakeAt.isSome fun s => s.arm .wakeHeld (10 * usNs)
      if spoilt then s.startFast else (((s.sendAck false).sendAck true).transmit false).transmit true
    else s)

/-- RESUME_ACK: the AD receives it, releases SB_WAKE (unless it misbehaves) and sends what it held (R170). -/
def execResumeAck (release : Bool) (s : State) : Out :=
  .next (match s.takeAd TT.resumeAck fun _ => true with
    | none => s
    | some (_, s) =>
      let s := s.silSet fun l => { l with awaitAck := false, adQuiet := false, wakeAt := if release then none else l.wakeAt }
      let s := (s.dspSet fun d => { d with wake := !release }).transmit true
      (if release then s.disarm .wakeHeld else s).wantedSleep)

/-- SB_WAKE_HELD (R177 code 0x0A). -/
def execSbWakeHeld (s : State) : Out :=
  .next (if s.linkState = 2 ∧ s.due .wakeHeld then
      ((s.disarm .wakeHeld).silSet fun l => { l with wakeAt := none }).silViol 0xA 0
    else s)

/-- DEBUG_ENABLE: a write of SIL_DBG.EN; keyed. Setting it holds the AD DISTRUSTED, clearing it causes an AD reset
(R171); a qualification under way ends with it. -/
def execDebugEnable (en : Bool) (s : State) : Out :=
  .next (s.keyed Dom.sill 8 fun s =>
    if en then
      if s.isSet R.SIL_DBG_EN then s
      else ((((s.setF R.SIL_DBG_EN 1).raise Ev.SIL_DEBUG).setTrust 0 |>.setF R.ASY_TRUST_QUAL 5).asySet fun a => { a with qual := none, qualBad := false }).disarm .qualRecord
    else if s.isSet R.SIL_DBG_EN then
      let s := s.setF R.SIL_DBG_EN 0
      if s.on Dom.adCtl then (s.adReset 6).setF R.ASY_TRUST_QUAL 1 else s.setF R.ASY_TRUST_QUAL 0
    else s)

/-- NAK_MSG: the AD receives it (R177). What the AD does about it is its own. -/
def execNakMsg (s : State) : Out :=
  .next (match s.takeAd TT.nakMsg fun _ => true with
    | some (_, s) => s
    | none => s)

end Sys2Proof.Machine
end

