-- ==== Sys2Proof/Machine/AdBus.lean ====
section
/-! DEFINITION. The AD control space (R219, R253, R254, R328) and the dispatcher's debug module, by which the CD reaches it (R171). -/

namespace Sys2Proof.Machine

/-- The tile of an address of the AD control space. -/
def adTile (a : Nat) : Nat := (a - 0x80000000) / 0x10000 % 16

/-- The domain of an address of the AD control space. -/
def adDom (a : Nat) : Nat :=
  if a < 0x80100000 then Dom.tile (adTile a)
  else if a < 0x80110000 then Dom.adCtl
  else if a < 0x80120000 then Dom.adShelf
  else if a < 0x80130000 then Dom.adMem
  else if a < 0x80140000 then Dom.adCtl
  else Dom.adUpd

/-- The fields of a register of the AD control space. -/
def adFieldsAt (a : Nat) : Option (List FieldRow) :=
  if a < 0x80000000 ∨ a % 4 ≠ 0 then none else findFields (if a < 0x80100000 then rowsTILE else rowsADX) a

/-- The tile, bank and word offset of an address in the program-bank windows (R254). -/
def progWindow (a : Nat) : Option (Nat × Nat × Nat) :=
  if 0x80200000 ≤ a ∧ a < 0x80400000 ∧ a % 4 = 0 then
    some ((a - 0x80200000) / 0x20000, (a - 0x80200000) / 0x10000 % 2, (a - 0x80200000) % 0x10000)
  else none

/-- The state an outcome leaves. -/
def State.after (s : State) (o : Out) : State :=
  match o with
  | .next t => t
  | _ => s

/-- A write of an owner-tag word: each of its four banks or units is zero-filled first (R91, R192). -/
def State.writeTags (s : State) (a v : Nat) : State :=
  s.forN 4 fun i s =>
    let b := v / 2 ^ (8 * i)
    if a < 0x80100000 then
      let t := adTile a
      let k := a % 0x10000 - 0xD00
      let s := s.fillBank t (k + i)
      (s.setF (R.TL_TAG_TENANT t (k / 4) i) (b % 16)).setF (R.TL_TAG_TAGGED t (k / 4) i) (b / 128 % 2)
    else
      let u := a % 0x10000 + i
      (s.tagUnit u (b % 16)).setF (R.SHF_TAG_TAGGED (u / 4) (u % 4)) (b / 128 % 2)

/-- A write of the TL_SWAP of tile `t` (R239); a STOP with a REASON that has no meaning is refused (R654). -/
def State.writeSwap (s : State) (t v : Nat) : State :=
  let bank := v / 4 % 2
  let tenant := v / 256 % 16
  match v % 4 with
  | 1 => s.swapTile t bank tenant
  | 2 => if v / 16 % 4 = 3 then s.swapRefused t else s.stopTile t (v / 16 % 4)
  | 3 => s.startTile t bank tenant
  | _ => s

/-- A write on the dispatcher's bus; its answer says whether it was performed (R3 to R8, R219, R654). -/
def State.adBusWrite (s : State) (a : Nat) (data : Word) : State :=
  let v := data.toNat
  match progWindow a with
  | some (t, b, o) => s.after (execProgramBankWrite (Fin.ofNat 16 t) (Fin.ofNat 2 b) false o data s)
  | none =>
    match adFieldsAt a with
    | none => s.answer .busError
    | some l =>
      if s.on (adDom a) = false then s.answer .busError
      else
        let o := a % 0x10000
        let t := adTile a
        let s := s.answer .ok
        if a < 0x80100000 ∧ (o = 0x1C ∨ o = 0x20) then
          s.after (execProgramBankWrite (Fin.ofNat 16 t) (Fin.ofNat 2 ((o - 0x1C) / 4)) true 0 data s)
        else if a < 0x80100000 ∧ o = 0x24 then s.writeSwap t v
        else if (a < 0x80100000 ∧ 0xD00 ≤ o ∧ o < 0xD30) ∨ (0x80110000 ≤ a ∧ a < 0x80110100) then s.writeTags a v
        else if l.all (fun r => r.meaning v) = false then (if a < 0x80100000 then s.swapRefused t else s)
        else s.storeClamp l v none

/-- A read on the dispatcher's bus. -/
def State.adBusRead (s : State) (a : Nat) : State :=
  match progWindow a with
  | some (t, b, o) =>
    if s.on (Dom.tile t) then
      s.answer (.data (BitVec.ofNat 32 (Sparse.get 0 s.ad.prog (t * 8192 + b * 4096 + o / 16) / 2 ^ (32 * (o / 4 % 4)))))
    else s.answer .busError
  | none =>
    match adFieldsAt a with
    | none => s.answer .busError
    | some l =>
      if s.on (adDom a) then (s.answer (.data (BitVec.ofNat 32 (s.readWord l)))).afterRead l else s.answer .busError

/-! ### The dispatcher's debug module: its system-bus registers, as the RISC-V debug specification numbers them -/

def State.dmGet (s : State) (r : Nat) : Nat := Sparse.get 0 s.ad.dsp.dm r

def State.dmPut (s : State) (r v : Nat) : State := s.dspSet fun d => { d with dm := Sparse.set 0 d.dm r (v % 2 ^ 32) }

/-- An error of a system-bus access stands in sbcs. -/
def State.dmErr (s : State) : Bool := decide (s.dmGet 0x38 / 2 ^ 12 % 8 ≠ 0)

/-- After a system-bus access: a bus error sets sberror to 2, and the address goes on by 4 where sbautoincrement asks for it. -/
def State.dmStep (s : State) : State :=
  if s.resp = .busError then s.dmPut 0x38 (s.dmGet 0x38 + 2 * 2 ^ 12)
  else if (s.dmGet 0x38).testBit 16 then s.dmPut 0x39 (s.dmGet 0x39 + 4) else s

/-- sbaccess asks for 32 bits: an access of another size is answered with a bus error and not performed (R3, R219). -/
def State.dmWide (s : State) : Bool := decide (s.dmGet 0x38 / 2 ^ 17 % 8 = 2)

/-- A system-bus read into sbdata0. -/
def State.dmRead (s : State) : State :=
  let s := if s.dmWide then s.adBusRead (s.dmGet 0x39) else s.answer .busError
  (match s.resp with | .data w => s.dmPut 0x3C w.toNat | _ => s).dmStep

/-- A write of a debug-module register; those the spec does not describe are left out. -/
def State.dmWrite (s : State) (r v : Nat) : State :=
  if r = 0x38 then
    let old := s.dmGet 0x38
    s.dmPut 0x38 (v % 2 ^ 21 / 2 ^ 15 * 2 ^ 15 + (old / 2 ^ 12 % 8 ^^^ (old / 2 ^ 12 % 8 &&& v / 2 ^ 12 % 8)) * 2 ^ 12)
  else if s.dmErr then s
  else if r = 0x39 then
    let s := s.dmPut 0x39 v
    if (s.dmGet 0x38).testBit 20 then s.dmRead else s
  else if r = 0x3C then
    let s := s.dmPut 0x3C v
    (if s.dmWide then s.adBusWrite (s.dmGet 0x39) (BitVec.ofNat 32 v) else s.answer .busError).dmStep
  else s

/-- A request reaches the dispatcher's debug module, which answers DEBUG_RSP (R219). The status, and the data of a write or of a register
the spec does not describe, are free. -/
def State.debugModule (s : State) (write : Bool) (r data : Nat) : State :=
  let keep := s.resp
  let x := s.draw 40
  let s := x.2
  let out := if write = false ∧ (r = 0x38 ∨ r = 0x39 ∨ r = 0x3C) then s.dmGet r else x.1 / 256
  let s := if write then s.dmWrite r data
           else if r = 0x3C ∧ (s.dmGet 0x38).testBit 15 ∧ s.dmErr = false then s.dmRead else s
  (s.answer keep).adSend ⟨0, TT.debugRsp, noTenant, 0, 0, leBytes 1 (x.1 % 256) ++ leBytes 3 0 ++ leBytes 4 out⟩

/-- DEBUG: the CD forwards a request for the debug module, which it does only while SIL_DBG.EN is 1 (R171); and the oldest DEBUG that has
reached the AD is carried out. -/
def execDebug (req : Option (Bool × Word × Word)) (s : State) : Out :=
  .next (
    let s := match req with
      | some (write, addr, data) =>
        if s.isSet R.SIL_DBG_EN ∧ s.on Dom.sill then
          s.sendAd (mgmt TT.debug 0 (leBytes 1 (if write then 1 else 0) ++ leBytes 3 0 ++ leBytes 4 addr.toNat ++ leBytes 4 data.toNat))
        else s
      | none => s
    match s.takeAd TT.debug fun _ => true with
    | some (m, s) => if s.adLive then s.debugModule (byteAt m.body 0 == 1) (fieldAt m.body 4 4) (fieldAt m.body 8 4) else s
    | none => s)

/-- DEBUG_RSP: the CD receives the debug module's answer (R163). -/
def execDebugRsp (status : Fin 256) (data : Word) (s : State) : Out :=
  .next (match s.takeCd ⟨0, TT.debugRsp, noTenant, 0, 0, leBytes 1 status.val ++ leBytes 3 0 ++ leBytes 4 data.toNat⟩ with
    | some (_, s) => s.answer (.data data)
    | none => s)

end Sys2Proof.Machine
end

