-- ==== Sys2Proof/Machine/Dvfs.lean ====
section
/-! DEFINITION. Operating points of the tiles (R195, R203 to R207, R215, R218, R220, R536): which point each tile gets, and how
the PMU raises and lowers the points. -/

namespace Sys2Proof.Machine

def State.pmuSet (s : State) (f : PmuState → PmuState) : State := { s with pmu := f s.pmu }

/-! ### Points and voltages (R195) -/

/-- Nominal VDD_AD of a point, mV. -/
def nominalMv (p : Nat) : Nat := [600, 650, 720, 800].getD p 800

/-- The part's signed AVS offset, mV. -/
def State.avsOffset (s : State) : Int := (BitVec.ofNat 8 (s.getF R.PMU_AVS_OFFSET_MV)).toInt

/-- The set voltage of a point. -/
def State.setMv (s : State) (p : Nat) : Nat := (Int.ofNat (nominalMv p) + s.avsOffset).toNat

/-- The highest available point at or below `p`; P0 where none is available (log entry 36). -/
def State.bestPoint (s : State) : Nat → Nat
  | 0 => 0
  | p + 1 => if s.setMv (p + 1) ≤ s.cfg Img.POWER_VDD_AD_MAX_MV 0 then p + 1 else s.bestPoint p

/-- The point that tile `t` is to have (R220). -/
def State.wantPoint (s : State) (t : Nat) : Nat := s.bestPoint (min (s.getF (R.PMU_TPOINT_REQ t)) (s.getF R.PMU_TCAP_CAP))

/-- F_top: the highest point of the powered tiles, and before any is powered of those that the slot plan will power (R194, R542). -/
def State.wantTop (s : State) : Nat :=
  let on := (List.range 16).filter fun t => s.on (Dom.tile t)
  (if on.isEmpty then s.tilesUsed else on).foldl (fun m t => max m (s.wantPoint t)) 0

/-- The points of an item: 0xFF for a tile that is off. -/
def State.wantPoints (s : State) : List Nat :=
  (List.range 16).map fun t => if s.on (Dom.tile t) then s.wantPoint t else 0xFF

/-- VOUT_COMMAND for a voltage under a linear VOUT_MODE: round(V × 2^(−N)), N its signed exponent (R536). -/
def voutWord (mode mv : Nat) : Nat :=
  let n := mode % 32
  if 16 ≤ n then (2 * mv * 2 ^ (32 - n) + 1000) / 2000 else (2 * mv + 1000 * 2 ^ n) / (2000 * 2 ^ n)

/-- Write VOUT_COMMAND for a set voltage and read READ_VOUT 20 µs later for the first time (R205, R206). -/
def State.writeVout (s : State) (mv : Nat) : State :=
  ((s.pmuSet fun p => { p with vout := voutWord (s.getF R.PMU_PMB_VOUT_MODE) mv }).setF R.PMU_DVFS_VDD_AD_MV mv).arm .voutPoll (20 * usNs)

/-! ### A change -/

/-- The body of a clock-plan item (R203). -/
def itemBody (tag ftop : Nat) (pts : List Nat) : List Byte :=
  [1#8] ++ leBytes 1 ftop ++ leBytes 2 tag ++ pts.flatMap (leBytes 1) ++ leBytes 4 0

/-- Send the item of a change and wait 1 ms for its CONFIG_ACK. -/
def State.sendItem (s : State) (d : Dvfs) : State :=
  (s.sendAd (configMsg d.tag 0x7FFFFF00 24 (itemBody d.tag d.ftop d.pts))).arm .planAck msNs

/-- Send the item for the first time. -/
def State.firstItem (s : State) (d : Dvfs) : State :=
  let tag := (s.pmu.pseq + 1) % 65535
  let d := { d with phase := 1, tag := tag }
  ((s.pmuSet fun p => { p with pseq := tag, dvfs := some d }).setF R.PMU_DVFS_PSEQ tag).sendItem d

/-- The dispatcher has F_top and every powered tile's point as they are wanted. A reset AD runs all at P3, and a tile that is switched on
runs at F_top (R202, log entry 14). -/
def State.pointsHeld (s : State) (top : Nat) (pts : List Nat) : Bool :=
  top == s.pmu.told.1 && (List.range 16).all fun t => pts.getD t 0xFF == 0xFF || pts.getD t 0xFF == s.pmu.told.2.getD t 3

/-- Carry out what is wanted now: nothing where every powered tile has its point, F_top is right and VDD_AD with it; where VDD_AD must rise
that comes first, anything else sends the item first, so that no lower voltage comes before its acknowledgement (R205 to R207). -/
def State.startChange (s : State) : State :=
  let pts := s.wantPoints
  let top := s.wantTop
  let old := s.getF R.PMU_DVFS_VDD_AD_MV
  let mv := s.setMv top
  if (s.pointsHeld top pts ∧ old = mv) ∨ s.inWork = false ∨ s.isSet R.SIL_STATUS_READY = false then s
  else
    let s := s.setF R.PMU_DVFS_BUSY 1
    let d : Dvfs := ⟨0, pts, top, 0, false, old, mv⟩
    if old < mv then ((s.pmuSet fun p => { p with dvfs := some d }).writeVout mv).arm .vout (200 * usNs)
    else s.firstItem d

/-- What is wanted has changed: a change under way goes on, the latest request follows it (R215). -/
def State.pointsChanged (s : State) : State :=
  if s.isSet R.PMU_DVFS_BUSY then s.pmuSet fun p => { p with dvfsHeld := true } else s.startChange

/-- A change has ended. -/
def State.endChange (s : State) : State :=
  let held := s.pmu.dvfsHeld
  let s := (((s.pmuSet fun p => { p with dvfs := none, dvfsHeld := false }).setF R.PMU_DVFS_BUSY 0).disarm .voutPoll).disarm .vout |>.disarm .planAck
  if held then s.startChange else s

/-- A change has been completed. -/
def State.changeDone (s : State) (d : Dvfs) : State := (s.raiseInt Ev.PMU_DVFS R.PMU_INT_DVFS d.ftop).endChange

/-- The item is acknowledged: the points take effect for the PMU; a lower F_top lowers the voltage now (R205, R206). -/
def State.itemDone (s : State) (d : Dvfs) : State :=
  let s := s.disarm .planAck
  let s := s.forN 16 fun t s => if d.pts.getD t 0xFF = 0xFF then s else s.setF (R.PMU_TPOINT_EFF_EFF t) (d.pts.getD t 0)
  let s := (s.setF R.PMU_DVFS_FTOP d.ftop).pmuSet fun p => { p with told := (d.ftop, d.pts.map fun p => if p = 0xFF then 3 else p) }
  if d.newMv < s.getF R.PMU_DVFS_VDD_AD_MV then
    (s.pmuSet fun p => { p with dvfs := some { d with phase := 2 } }).writeVout d.newMv
  else s.changeDone d

/-- The item is refused, or twice unacknowledged: the voltage stays at the higher one, the points at the old ones; the ladder
(R218). -/
def State.itemFails (s : State) : State :=
  ((s.raiseInt Ev.PMU_DVFS_NOACK R.PMU_INT_DVFS).ladder bPmu).endChange

/-- CLOCK_PLAN_ACK_TIMEOUT: 1 ms without CONFIG_ACK; the item is sent once more (R218). -/
def execClockPlanAckTimeout (s : State) : Out :=
  .next (match s.pmu.dvfs with
    | some d =>
      if s.due .planAck then
        if d.again then s.itemFails
        else (s.pmuSet fun p => { p with dvfs := some { d with again := true } }).sendItem { d with again := true }
      else s
    | none => s)

/-- A PMBus transaction has failed in spite of its repetitions (R536). -/
def State.avsFail (s : State) : State := (s.satInc R.PMU_PMB_ERRORS).raiseInt Ev.PMU_AVS_FAIL R.PMU_INT_AVS

/-- READ_VOUT within 10 mV of what was set. -/
def State.voutNear (s : State) (mv : Nat) : Bool :=
  decide (mv ≤ s.getF R.PMU_DVFS_VDD_AD_MV + 10 ∧ s.getF R.PMU_DVFS_VDD_AD_MV ≤ mv + 10)

/-- READ_VOUT during a change: a failed transaction holds the points (R560). -/
def State.changePoll (s : State) (d : Dvfs) (mv : Option Nat) : State :=
  match mv with
  | none => (s.avsFail.raiseInt Ev.PMU_DVFS_FAIL R.PMU_INT_DVFS).endChange
  | some v =>
    if s.voutNear v = false then s.rearm .voutPoll (10 * usNs)
    else
      let s := (s.disarm .voutPoll).disarm .vout
      if d.phase = 0 then s.firstItem d else s.changeDone d

/-- The voltage of a raise has not settled in 200 µs: the old one is written back, every point stays (R205). -/
def State.changeLate (s : State) (d : Dvfs) : State :=
  ((s.writeVout d.oldMv).raiseInt Ev.PMU_DVFS_FAIL R.PMU_INT_DVFS).endChange

/-- TPOINT_REQUEST: a write of PMU_TPOINT (R215, R220). -/
def execTpointRequest (data : Word) (s : State) : Out :=
  .next (s.access Dom.aon fun s =>
    (s.forN 16 fun t s => s.setF (R.PMU_TPOINT_REQ t) (data.toNat / 4 ^ t % 4)).pointsChanged)

/-- TCAP_WRITE: a firmware write of PMU_TCAP, ignored while THM works (R573). -/
def execTcapWrite (cap : Nat) (s : State) : Out :=
  .next (s.access Dom.aon fun s =>
    if s.isSet R.THM_CTL_EN then s.flag R.THM_INT_REFUSED else (s.setF R.PMU_TCAP_CAP cap).pointsChanged)

end Sys2Proof.Machine
end

