-- ==== Sys2Proof/Machine/Frames.lean ====
section
/-! DEFINITION. Frames at the dispatcher (R84, R127, R164, R287, R313) and the major frame (R87, R110, R274, R567). -/

namespace Sys2Proof.Machine

def eightMib : Nat := 8 * mib

/-- Camera of a frame message, and whether it belongs to a qualification (R286). -/
def camOf (b : Nat) : Nat := b % 16

/-- The tenants a frame is written for: the one a qualification frame names, else every present tenant whose cameras
include it (R84, R313). -/
def State.frameTenants (s : State) (m : Msg) (cam : Nat) : List Nat :=
  if 16 ≤ cam then (if (s.planOf m.tenant).isSome then [m.tenant] else [])
  else (s.ad.dsp.plan.filter fun p => p.cams.testBit cam).map (·.n)

/-- A tenant takes frames: it is READY, RUNNING or SUSPENDED (R95). -/
def State.takesFrames (s : State) (n : Nat) : Bool := s.live n || s.dspSt n == tnSuspended

/-- The frame job of a tenant that uses buffer `b` of a camera. -/
def State.bufJob (s : State) (n cam b : Nat) : Option Job :=
  s.jobs.find? fun j => j.tenant == n && j.ring.isNone && camOf j.cam == camOf cam && j.buf == b

/-- Address of buffer `b` of a camera in a tenant's space: the camera's place among those the tenant subscribes to (R76). -/
def State.bufAddr (s : State) (n cam b : Nat) : Nat :=
  let k := match s.planOf n with
    | some p => ((List.range (camOf cam)).filter fun c => p.cams.testBit c).length
    | none => 0
  0x100000 + k * 0x1000000 + b * eightMib

/-- Choose the buffer for a new frame: alternating; when both are in use the one whose job has not started is taken, and
that job completes with DROPPED; none when both jobs run (R84). -/
def State.claimBuf (s : State) (n cam : Nat) : Option Nat × State :=
  let key := n * 4 + camOf cam
  let b := Sparse.get 0 s.ad.dsp.bufNext key
  let use : Nat → State → Option Nat × State := fun b s =>
    (some b, s.dspSet fun d => { d with bufNext := Sparse.put d.bufNext key (1 - b) })
  match s.bufJob n cam b, s.bufJob n cam (1 - b) with
  | none, _ => use b s
  | some _, none => use (1 - b) s
  | some j, some k =>
    if j.started = false then use b (s.finish j 6)
    else if k.started = false then use (1 - b) (s.finish k 6)
    else (none, s)

/-- Claim a buffer for each tenant; a tenant without one is left out. -/
def claimBufs : List Nat → State → Nat → List (Nat × Nat) × State
  | [], s, _ => ([], s)
  | n :: ns, s, cam =>
    let r := s.claimBuf n cam
    let q := claimBufs ns r.2 cam
    ((match r.1 with | some b => (n, b) :: q.1 | none => q.1), q.2)

/-- FRAME_OPEN (R116, R164): a frame of the camera that has no trailer yet is given up. -/
def execFrameOpen (s : State) : Out :=
  .next (match s.takeAd TT.frameOpen fun _ => true with
    | none => s
    | some (m, s) =>
      let cam := byteAt m.body 0
      if s.dspLive = false ∨ s.ad.dsp.planOk = false ∨ fieldAt m.body 12 4 ≠ crc32c (m.body.take 12) then s
      else
        let s := s.dspSet fun d => { d with frames := d.frames.filter fun f => !(f.cam == cam) }
        let c := claimBufs ((s.frameTenants m cam).filter s.takesFrames) s cam
        c.2.dspSet fun d => { d with frames := d.frames ++ [⟨cam, fieldAt m.body 4 4, fieldAt m.body 8 4, false, c.1, []⟩] })

/-- FRAME_DATA (R84, R163): payload bytes, kept until the trailer tells that the frame is complete and how long it is; a frame beyond
8 MiB is not written (log entry 103). -/
def execFrameData (s : State) : Out :=
  .next (match s.takeAd TT.frameData fun _ => true with
    | none => s
    | some (m, s) =>
      let cam := byteAt m.body 0
      let off := fieldAt m.body 4 4
      let data := m.body.drop 8
      match s.ad.dsp.frames.find? fun f => f.cam == cam && f.ctr % 65536 == m.tag with
      | none => s
      | some f =>
        if s.dspLive = false then s
        else
          let big := decide (eightMib < off + data.length)
          s.dspSet fun d => { d with frames := d.frames.map fun g =>
            if g.cam = cam then (if big ∨ g.big then { g with big := true, data := [] } else { g with data := g.data ++ [(off, data)] })
            else g })

/-- Write a frame's payload into the buffer of a tenant, charged to it (R84, R86). -/
def State.writeFrame (s : State) (f : DFrame) (n b : Nat) : State :=
  s.forL f.data fun d s => (s.charge n ((d.2.length + 63) / 64)).tenStore n (s.bufAddr n f.cam b + d.1) d.2

/-- The descriptor of a frame job (R81, R84). -/
def frameDesc (cam ctr fs addr len : Nat) : List Byte :=
  let d := leBytes 1 1 ++ leBytes 1 0 ++ leBytes 2 0xFFFF ++ leBytes 1 cam ++ leBytes 1 0 ++ leBytes 2 1 ++ leBytes 4 ctr ++ leBytes 4 fs
    ++ leBytes 8 addr ++ leBytes 4 len ++ leBytes 4 0 ++ leBytes 8 0 ++ leBytes 4 0 ++ leBytes 12 0 ++ leBytes 4 0
  d ++ leBytes 4 (crc32c d)

/-- The tenants of a trailer's frame may write now (R85). -/
def State.trailerGoes (s : State) (m : Msg) : Bool :=
  match s.ad.dsp.frames.find? fun f => f.cam == byteAt m.body 0 && f.ctr == fieldAt m.body 4 4 with
  | some f => f.dest.all fun p => s.mayMove p.1
  | none => true

/-- FRAME_TRAILER: only it makes a frame complete (R164). It is written for its tenants, and their frame jobs are queued, or complete
with DROPPED when the STATUS is not OK (R127) or the frame is larger than 8 MiB and not written (R84). -/
def execFrameTrailer (s : State) : Out :=
  .next (match s.takeAd TT.frameTrailer s.trailerGoes with
    | none => s
    | some (m, s) =>
      let b := m.body
      let cam := byteAt b 0
      let ctr := fieldAt b 4 4
      match s.ad.dsp.frames.find? fun f => f.cam == cam && f.ctr == ctr with
      | none => s
      | some f =>
        let s := s.dspSet fun d => { d with frames := d.frames.filter fun g => !(g.cam == cam) }
        if s.dspLive = false ∨ leNat (b.drop (b.length - 4)) ≠ crc32c (b.take (b.length - 4)) then s
        else
          let s := s.forL f.dest fun p s =>
            let desc := frameDesc cam ctr f.fs (s.bufAddr p.1 cam p.2) (fieldAt b 24 4)
            let j := { newJob p.1 none desc s.now with fe := fieldAt b 12 4, buf := p.2 }
            let s := if f.big then s else s.writeFrame f p.1 p.2
            let s := s.jobsSet fun l => l ++ [j]
            if byteAt b 1 ≠ 0 ∨ f.big then s.finish j 6 else s
          (s.forL f.dest fun p s => (s.settle p.1).revokeFor p.1).lendAll)

/-- Entry `e` of a STREAK_SET body (R286). -/
def xformAt (b : List Byte) (e : Nat) : Xform :=
  let rn := byteAt b (18 + 4 * e)
  ⟨fieldAt b (16 + 4 * e) 2, rn % 64, byteAt b (19 + 4 * e) % 64, decide (128 ≤ rn)⟩

/-- STREAK_SET: the run's seed and transforms, kept for its frame job (R286, R287). -/
def execStreakSet (s : State) : Out :=
  .next (match s.takeAd TT.streakSet fun _ => true with
    | none => s
    | some (m, s) =>
      if s.dspLive = false then s
      else
        let b := m.body
        let cam := byteAt b 0
        let ctr := fieldAt b 4 4
        s.dspSet fun d => { d with
          runs := (d.runs.filter fun r => !(r.1 == m.tenant && r.2.1 == cam && r.2.2.1 == ctr))
            ++ [(m.tenant, cam, ctr, fieldAt b 8 4, (List.range (fieldAt b 2 2)).map (xformAt b))] })

/-! ### Major frames -/

/-- The ENERGY_PLAN the dispatcher sends after tick `k` (R567). Its forecast of powers and the die temperatures are what
the AD claims: open values (log entry 32). -/
def State.energyPlan (s : State) (k : Nat) : State :=
  let p := s.draw 2880
  let q := p.2.draw 256
  let s := q.2
  let on := (List.range 16).filter fun t => s.on (Dom.tile t)
  let entries := (List.range 60).flatMap fun i => leBytes 6 (p.1 / 2 ^ (48 * i)) ++ leBytes 2 0
  let tiles := (List.range 16).flatMap fun t =>
    if s.on (Dom.tile t) then leBytes 4 (s.getF (R.TL_MACBUSY_CYCLES t)) ++ leBytes 4 (s.getF (R.TL_CYCLES_CYCLES t)) else leBytes 8 0
  s.adSend (mgmt TT.energyPlan 0
    (leBytes 4 k ++ leBytes 1 (s.getF R.ACG_FTOP_POINT) ++ leBytes 1 on.length ++ leBytes 10 0 ++ entries ++ tiles ++ leBytes 32 q.1))

/-- The FRAME_REPORT of the major frame that has ended (R110); the bucket-wait cycles are what the AD claims. -/
def State.frameReport (s : State) (k : Nat) : State :=
  let p := s.draw 512
  let s := p.2
  (s.adSend (mgmt TT.frameReport 0
    (leBytes 4 k ++ leBytes 2 (min 65535 s.ad.dsp.lends) ++ leBytes 2 (min 65535 s.ad.dsp.late) ++ leBytes 64 p.1))).dspSet fun d =>
      { d with lends := 0, late := 0 }

/-- MAJOR_TICK: slot 0 of frame k begins with its arrival; the report of frame k − 1 and the energy plan follow (R87, R110,
R567). -/
def execMajorTick (s : State) : Out :=
  .next (match s.takeAd TT.majorTick fun _ => true with
    | none => s
    | some (m, s) =>
      if s.dspLive = false ∨ s.ad.dsp.planOk = false then s
      else
        let k := fieldAt m.body 0 4
        let s := if k = 0 then s else s.frameReport (k - 1)
        ((s.arm .slot slotNs).beginSlot 0).energyPlan k)

end Sys2Proof.Machine
end

