-- ==== Sys2Proof/Machine/AdClock.lean ====
section
/-! DEFINITION. Clocks, memory training and tile power-up on the AD (R194, R202, R204, R208 to R210, R217, R218). -/

namespace Sys2Proof.Machine

/-- APLL_SLEW_DONE: the item is complete; the dispatcher acknowledges it (R194, R204). -/
def execApllSlewDone (s : State) : Out :=
  .next (match s.ad.dsp.slew with
    | some (it, _) => if s.dspLive then
        (((s.dspSet fun d => { d with slew := none }).disarm .slew).setFs
          [(R.ACG_FTOP_POINT, it.ftop), (R.ACG_STAT_SLEWING, 0)]).configAck it.tag 0 0
      else s
    | none => s)

/-- SLEW_TIMEOUT: a slew not complete in 10 µs: APLL_T and the dividers go back, the item is refused with reason 2 (R203,
R218). -/
def execSlewTimeout (s : State) : Out :=
  .next (match s.ad.dsp.slew with
    | some (it, old) => if s.dspLive ∧ s.due .slew then
        let s := ((s.dspSet fun d => { d with slew := none }).disarm .slew).setDividers old
        ((s.setFs [(R.ACG_FTOP_POINT, old.ftop), (R.ACG_STAT_SLEWING, 0)]).adRaise 0x2501 1 it.ftop 0).configAck it.tag 1 2
      else s
    | none => s)

/-- A tile as it starts: every line poisoned, every bank untagged, accumulators 0, program banks empty, divider 1/1
(R202). -/
def State.freshTile (s : State) (t : Nat) : State :=
  (s.adSet fun a => { a with
    tiles := a.tiles.set t .init
    store := Sparse.clear a.store (t * 24576) 24576
    acc := Sparse.clear a.acc (t * 16384) 16384
    accM := Sparse.clear a.accM (t * 16384) 16384
    vreg := Sparse.clear a.vreg (t * 32) 32
    vmark := Sparse.clear a.vmark (t * 32) 32
    prog := Sparse.clear a.prog (t * 8192) 8192 }).clearRegs (0x80000000 + 0x10000 * t) 0x10000

/-- TILE_POWER_UP: after READY the PMU switches on AD_TILEn for a tile that the slot plan uses, no sooner than 10 µs after the
tile before it (R202, R523, R542). -/
def execTilePowerUp (tile : Fin 16) (s : State) : Out :=
  .next (
    let t := tile.val
    let early := match s.pmu.tileAt with | some a => decide (s.now < a + 10 * usNs) | none => false
    if s.inWork ∧ s.on Dom.adCtl ∧ s.adLive ∧ s.tileUsed t ∧ s.on (Dom.tile t) = false ∧ early = false then
      let s := (s.setBitF R.PMU_DOMST_ON (Dom.tile t) true).pmuSet fun p => { p with tileAt := some s.now, told := (p.told.1, p.told.2.set t p.told.1) }
      (s.freshTile t).pointsChanged
    else s)

/-- MEMORY_TRAINED: the training reaches a step of R209, in order; one at a lower rate repeats steps 3 to 7. At step 8 both channels have
passed at a rate (0 to 2), or at none (3): no READY, and no further training until AD_MEM powers up (R208, R209). `density` is what is fitted,
GiB per channel. -/
def execMemoryTrained (step : Fin 9) (rate : Fin 4) (density : Fin 9) (s : State) : Out :=
  .next (if s.on Dom.adMem ∧ s.adLive ∧ s.isSet R.MC_TRAIN_DONE = false ∧ s.isSet R.MC_TRAIN_FAIL = false then
      let k := s.getF R.MC_TRAIN_STEP
      if step.val = 8 then
        let t := s.setFs [(R.MC_CFG_SPEED, rate.val), (R.MC_CFG_DENSITY, density.val)]
        if rate.val = 3 then (t.setF R.MC_TRAIN_FAIL 1).adRaise 0x2401 1 0 0
        else if k = 7 then ((t.setFs [(R.MC_TRAIN_STEP, 8), (R.MC_TRAIN_DONE, 1)]).arm .mr4 (16 * msNs)).arm .wck (64 * msNs)
        else s
      else if step.val = k + 1 ∨ (k = 7 ∧ step.val = 3) then s.setF R.MC_TRAIN_STEP step.val
      else s
    else s)

/-- MR4_POLL: every 16 ms; the multiplier each channel reports holds from its next refresh interval on; `hot` says that one
is beyond the range of 4× refresh (R210, R217). -/
def execMr4Poll (a b : Byte) (hot : Bool) (s : State) : Out :=
  .next (if s.adLive ∧ s.isSet R.MC_TRAIN_DONE ∧ s.due .mr4 then
      let s := (s.rearm .mr4 (16 * msNs)).setFs [(R.MC_MR4_MR4 0, a.toNat), (R.MC_MR4_MR4 1, b.toNat)]
      let s := s.dspSet fun d => { d with mr4Next := [a.toNat, b.toNat] }
      if hot then s.adRaise 0x2402 2 a.toNat b.toNat else s
    else s)

/-- DRAM_REFRESH: a refresh interval of a channel begins; the multiplier last reported takes effect (R210, R217). -/
def execDramRefresh (channel : Fin 2) (s : State) : Out :=
  .next (if s.adLive ∧ s.isSet R.MC_TRAIN_DONE then
      s.dspSet fun d => { d with refresh := d.refresh.set channel.val (d.mr4Next.getD channel.val 0) }
    else s)

/-- WCK_OSC_MEASURE: every 64 ms; a drift beyond the threshold retrains write timing (R210). -/
def execWckOscMeasure (drift : Bool) (s : State) : Out :=
  .next (if s.adLive ∧ s.isSet R.MC_TRAIN_DONE ∧ s.due .wck then
      let s := s.rearm .wck (64 * msNs)
      if drift then s.adRaise 0x2403 3 0 0 else s
    else s)

end Sys2Proof.Machine
end

