-- ==== Sys2Proof/Machine/Cil.lean ====
section
/-! DEFINITION. The image loader's staging and checking commands (R40, R41, R44, R49, R56, R68). The apply is in
Machine/Apply.lean. -/

namespace Sys2Proof.Machine

/-- A CIL command: ignored with REFUSED while one runs (R68). -/
def State.cilCmd (s : State) (f : State → State) : State :=
  s.access Dom.core fun s => if s.isSet R.CIL_STATUS_BUSY then s.flag R.CIL_INT_REFUSED else f s

/-- A command the loader cannot carry out in this state: it does nothing and sets REFUSED. -/
def State.cilRefuse (s : State) : State := s.flag R.CIL_INT_REFUSED

/-- End a command with a result and a reason. -/
def State.cilEnd (s : State) (result reason : Nat) : State :=
  s.setFlags [R.CIL_INT_DONE] [(R.CIL_STATUS_RESULT, result), (R.CIL_STATUS_REASON, reason)]

/-- CIL_OPEN (R40): refused while any slot is PENDING. -/
def execCilOpen (s : State) : Out :=
  .next (s.cilCmd fun s =>
    if s.slotState 0 = 3 ∨ s.slotState 1 = 3 then s.cilRefuse
    else
      let k := s.stageSlot
      (((s.eraseSlot k).setSlot k 1).setF R.CIL_STAGEOFF_OFF 0).cilEnd 0 0)

/-- The chunk that CIL_BUFADDR and CIL_BUFLEN name can be appended (R68a). -/
def State.chunkOk (s : State) : Bool :=
  let a := s.getF R.CIL_BUFADDR_ADDR
  let n := s.getF R.CIL_BUFLEN_LEN
  decide (s.slotState s.stageSlot = 1 ∧ 4 ≤ n ∧ n ≤ 4096 ∧ n % 4 = 0 ∧ a % 4 = 0 ∧ 0x10000000 ≤ a ∧ a + n ≤ 0x10080000
    ∧ s.getF R.CIL_STAGEOFF_OFF + n ≤ 262144)

/-- CIL_APPEND (R40). -/
def execCilAppend (s : State) : Out :=
  .next (s.cilCmd fun s =>
    if s.chunkOk then
      let n := s.getF R.CIL_BUFLEN_LEN
      let off := s.getF R.CIL_STAGEOFF_OFF
      let bytes := s.sramBytes (s.getF R.CIL_BUFADDR_ADDR - 0x10000000) n
      ((s.program (slotAt s.stageSlot + off) bytes).setF R.CIL_STAGEOFF_OFF (off + n)).cilEnd 0 0
    else s.cilRefuse)

/-- A log entry about the image `l` of slot `k`. FLAGS bit 0, safety-class change, is put by the writers of BEGUN, KEY_PROG and
KEY_REVOKE, and DETAIL by each: the reason of REJECTED, the report's count of BEGUN, the failed step of FALLBACK (0 where a redo's
check failed), the key slot of KEY_PROG and KEY_REVOKE (log entry 99, DESIGN CHOICE: R64 names the fields and not which kinds carry
them). -/
def imageBody (kind k detail : Nat) (l : List Byte) : LogBody :=
  ⟨kind, k, false, fieldAt l 0x10 4, detail, (l.drop 0x20).take 16, 0⟩

/-- A rejection: RESULT 3 with its reason, CIL_INT.REJECT, CI_REJECT and a REJECTED entry. -/
def State.reject (s : State) (reason : Nat) (b : LogBody) : State :=
  ((s.raiseInt Ev.CI_REJECT R.CIL_INT_REJECT reason).log b).cilEnd 3 reason

/-- CIL_CLOSE (R40): WRITTEN when the read-back hash matches the header, else still WRITING with reason 0x06. -/
def execCilClose (progs : List Prog) (s : State) : Out :=
  .next (s.cilCmd fun s =>
    let k := s.stageSlot
    if s.slotState k ≠ 1 then s.cilRefuse
    else
      let l := s.flashBytes (slotAt k) (s.getF R.CIL_STAGEOFF_OFF)
      let so := fieldAt l 0x1C 4
      let s := { s with progs := progs }
      let s := if 64 ≤ so ∧ so ≤ l.length ∧ sha256 ((l.drop 64).take (so - 64)) = (l.drop 0x20).take 32 then
          ((s.setSlot k 2).log (imageBody kSTAGED k 0 l)).cilEnd 0 0
        else s.reject 0x06 (imageBody kREJECTED k 0x06 l)
      { s with progs := [] })

/-- CIL_ABORT (R41). -/
def execCilAbort (s : State) : Out :=
  .next (s.cilCmd fun s =>
    let k := s.stageSlot
    if s.slotState k = 1 ∨ s.slotState k = 2 then ((s.eraseSlot k).setF R.CIL_STAGEOFF_OFF 0).cilEnd 0 0
    else s.cilEnd 0 0)

/-! ### The check and its report -/

/-- Put the report into CIL_REPORT and CIL_STATUS (R49). -/
def State.writeReport (s : State) (r : List RepEntry) : State :=
  let kept := r.take 256
  let s := s.forN 256 fun e s =>
    let b := match kept[e]? with | some x => x.bytes | none => List.replicate 16 0
    s.forN 4 fun w s => s.setF (R.CIL_REPORT_W (4 * e + w)) (leNat ((b.drop (4 * w)).take 4))
  s.setFs [(R.CIL_STATUS_REPORT_N, kept.length), (R.CIL_STATUS_REPORT_OVF, if 256 < r.length then 1 else 0)]

/-- REPORT_CRC of an entry that carries a report (R64). -/
def reportCrc (r : List RepEntry) : Nat := crc32c ((r.take 256).flatMap RepEntry.bytes)

/-- The section bytes of an image, by ID. -/
def imageSections (l : List Byte) : List (Nat × List Byte) :=
  let so := fieldAt l 0x1C 4
  ((secWalk 4096 l 64 so []).1).map fun p => (p.1.id, (l.drop (p.1.off - 8)).take (8 + p.1.len))

/-- A safety-class section differs from the ACTIVE image (R56). -/
def safetyDiffers (new old : List (Nat × List Byte)) : Bool :=
  (Img.sections.filter fun p => p.2).any fun p =>
    decide (((new.find? fun q => q.1 == p.1).map (·.2)) ≠ ((old.find? fun q => q.1 == p.1).map (·.2)))

/-- The image makes a safety-class change against another: a safety section differs, or a key change is made (R51, R56). -/
def State.safetyAgainst (s : State) (c : Checked) (old : Option (List Byte)) : Bool :=
  let b := s.keyBurns c.settings
  b.1.isSome || decide (b.2 ≠ []) ||
    (match old with
     | some l => safetyDiffers c.sections (imageSections l)
     | none => false)

/-- The commit is a safety-class change. -/
def State.safetyChange (s : State) (c : Checked) : Bool := s.safetyAgainst c s.activeImage

/-- A commit of the checked image needs a session: none is needed without an ACTIVE image (R56). -/
def State.authNeeded (s : State) (c : Checked) : Bool := s.activeSlot.isSome && s.safetyChange c

/-- Run the full check on the staged slot and publish its report; whether the image is accepted (R44, R49 to R51). -/
def State.runCheck (s : State) : Checked × State × Bool :=
  let k := s.stageSlot
  let l := s.slotImage k
  let active := s.activeSlot.map fun a => s.flashWord (slotAt a + 0x10)
  let staged := if s.isSet R.CIL_STAGEOFF_OFF then some (s.getF R.CIL_STAGEOFF_OFF) else none
  let c := s.checkImage l staged active
  let s := (s.writeReport c.report).setF R.CIL_STATUS_AUTH_NEEDED (if s.authNeeded c ∧ c.rejected = false then 1 else 0)
  let s := s.doIf c.clamped fun s => s.raiseInt Ev.CI_CLAMP R.CIL_INT_CLAMP
  let body := { imageBody kREJECTED k c.reason l with crc := reportCrc c.report }
  if c.rejected then (c, s.reject c.reason body, false)
  else if s.keyConflict c.settings then (c, s.reject 0x13 { body with detail := 0x13 }, false)
  else (c, s, true)

/-- CIL_CHECK (R44, R49). -/
def execCilCheck (progs : List Prog) (s : State) : Out :=
  .next (s.cilCmd fun s =>
    if s.slotState s.stageSlot ≠ 2 then s.cilRefuse
    else
      let r := State.runCheck { s with progs := progs }
      let s := if r.2.2 then r.2.1.cilEnd (if r.1.clamped then 2 else 1) 0 else r.2.1
      { s with progs := [] })

/-- Deadline of apply step `n` after the start of step 1, ms (R58). -/
def stepDeadlineMs (n : Nat) : Nat := [0, 10, 11, 71, 191, 391, 2691, 2811, 2961, 3000].getD n 3000

/-- CIL_COMMIT (R56, R58, R66, R69): the check again, authorisation, then BEGUN and PENDING. -/
def execCilCommit (progs : List Prog) (s : State) : Out :=
  .next (s.cilCmd fun s =>
    let k := s.stageSlot
    if s.slotState k ≠ 2 then s.cilRefuse
    else
      let r := State.runCheck { s with progs := progs }
      let c := r.1
      let s := r.2.1
      let l := s.slotImage k
      let s :=
        if !r.2.2 then s
        else if s.authNeeded c ∧ s.sessionOpen = false then
          s.reject 0x12 { imageBody kREJECTED k 0x12 l with crc := reportCrc c.report }
        else
          let w := (s.endSession).logWrite
            { imageBody kBEGUN k (c.report.take 256).length l with crc := reportCrc c.report, safety := s.safetyChange c }
          if !w.2 then (w.1.flag R.CIL_INT_APPLYFAIL).cilEnd 4 0
          else
            let s := ((w.1.setSlot k 3).raise Ev.CI_BEGUN c.seq).setFs
              [(R.CIL_STATUS_BUSY, 1), (R.CIL_STATUS_RESULT, if c.clamped then 2 else 1), (R.CIL_STATUS_REASON, 0)]
            let s := { s with cil := { s.cil with apply := some { slot := k, step := 1, startAt := s.now, boot := false, adPart := s.on Dom.adCtl } } }
            s.arm .applyStep (stepDeadlineMs 1 * msNs)
      { s with progs := [] })

end Sys2Proof.Machine
end

