-- ==== Sys2Proof/Machine/Evl.lean ====
section
/-! DEFINITION. Events and the log (spec/17_events_and_log.md): intake, the ring, persistence and AD-originated
events. -/

namespace Sys2Proof.Machine

/-! ### The record and the ring -/

/-- FLAGS of a record (R584). -/
def Occ.flags (o : Occ) : Nat := o.cls % 4 + (if o.held then 32 else 0) + (if o.untrusted then 128 else 0)

/-- The 32 bytes of a record (R584). -/
def LogSlot.bytes (sl : LogSlot) : List Byte :=
  let o := sl.occ
  leBytes 2 o.id ++ leBytes 1 o.flags ++ leBytes 1 o.src ++ leBytes 4 sl.seq ++ leBytes 6 o.rtc ++ leBytes 2 o.count
    ++ leBytes 4 o.tb2 ++ leBytes 4 o.arg0 ++ leBytes 4 o.arg1 ++ leBytes 2 o.lastDt ++ leBytes 2 o.arg2

/-- The class is one that LOG.PERSIST names. -/
def State.persistClass (s : State) (cls : Nat) : Bool := s.bitF R.EVL_CTL_PERSIST cls

/-- The slot's record is pending: of a persisted class and not yet in flash (R592). -/
def State.slotPending (s : State) (sl : LogSlot) : Bool := s.persistClass sl.occ.cls && !sl.persisted

/-- The slot may take a new record (R592). -/
def State.reusable (s : State) (k : Nat) (safety : Bool) : Bool :=
  match Sparse.find s.evl.ring k with
  | none => true
  | some sl =>
    let pend := s.slotPending sl
    let stop := s.isSet R.EVL_CTL_LOG_MODE
    if sl.occ.cls = 0 then (if pend then false else if stop ∧ !safety then sl.released else true)
    else if stop ∧ !safety then sl.released && !pend else true

/-- The first reusable slot from EVL_WR on, in ring order (R594). -/
def State.nextSlot (s : State) (safety : Bool) : Option Nat :=
  ((List.range 2048).map fun i => (s.getF R.EVL_WR_SLOT + i) % 2048).find? fun k => s.reusable k safety

/-- The SEQ after `n`: 0xFFFF_FFFF is skipped (R584). -/
def seqAfter (n : Nat) : Nat := if 0xFFFFFFFE ≤ n then 0 else n + 1

/-- Queue one EV_LOST event for each class whose LOST counter is not 0, while the queue holds no more than 32 events;
clear the counter (R591). -/
def State.queueLost (s : State) : State :=
  s.forN 4 fun c s =>
    let n := s.getF (lostFld c)
    if n ≠ 0 ∧ s.evl.queue.length ≤ 32 then (s.evQueue (s.occ 0x0F01 c 15 c n 0) false).setF (lostFld c) 0 else s

/-- Begin the write of a queued event into a reusable slot, or lose the event when there is none (R590, R592, R594). -/
def State.beginNew (s : State) (o : Occ) : State :=
  let s := s.evlSet fun e => { e with queue := e.queue.filter fun q => !(q.uid == o.uid) }
  match s.nextSlot (o.cls == 0) with
  | none => (s.satInc (lostFld o.cls)).flag R.EVL_INT_LOST
  | some k => s.evlSet fun e => { e with writing := some ⟨k, o, s.now, false, false⟩ }

/-- Begin a write-back of COUNT and LAST_DT into the slot that holds the record (R588). -/
def State.beginBack (s : State) (c : Coal) : State :=
  match s.evl.slotOf c.uid with
  | some (k, sl) => s.evlSet fun e => { e with
      backs := e.backs.filter fun b => !(b.uid == c.uid)
      writing := some ⟨k, { sl.occ with count := c.count, lastDt := c.lastDt }, s.now, true, false⟩ }
  | none => s

/-- Drop the write-backs whose record no longer stands in the ring and is not to be written any more (R605). -/
def State.dropBacks (s : State) : State :=
  s.evlSet fun e => { e with backs := e.backs.filter fun c => (e.slotOf c.uid).isSome || e.queue.any fun o => o.uid == c.uid }

/-- Begin the next record write, one at a time: the earliest SAFETY event, else the first write-back whose record stands in the ring,
else the earliest event (R588 to R590). -/
def State.beginRecord (s : State) : State :=
  if s.evl.writing.isSome then s
  else
    let s := s.dropBacks
    match s.evl.queue.find? fun o => o.cls == 0 with
    | some o => s.beginNew o
    | none => match s.evl.backs.find? fun c => (s.evl.slotOf c.uid).isSome with
      | some c => s.beginBack c
      | none => match s.evl.queue with
        | o :: _ => s.beginNew o
        | [] => s

/-- A new record stands in log RAM: COUNT 1 and LAST_DT 0, the next SEQ, EVL_WR past it; a pending record it overwrites is counted
(R590, R594, R603). -/
def State.putRecord (s : State) (w : LogWrite) : State :=
  let past := match Sparse.find s.evl.ring w.slot with
    | some sl => if s.slotPending sl then some sl.occ.cls else none
    | none => none
  let open_ := s.evl.coal.any fun c => c.uid == w.occ.uid
  let seq := s.getF R.EVL_SEQ_NEXT
  let s := s.evlSet fun e => { e with
    ring := Sparse.put e.ring w.slot ⟨w.occ, seq, false, w.released, if open_ then none else some s.now⟩
    wrote := some (w.slot, s.now) }
  let s := (s.setF R.EVL_SEQ_NEXT (seqAfter seq)).setF R.EVL_WR_SLOT ((w.slot + 1) % 2048)
  let s := s.doIf (decide (w.occ.cls ≤ s.getF R.EVL_NEWCLASS_CLASS)) fun s => s.flag R.EVL_INT_NEW
  match past with
  | none => s
  | some c => (s.satInc R.EVL_CNT_OVWR).raiseInt Ev.EVL_OVWR R.EVL_INT_OVWR c

/-- A write-back stands in log RAM. -/
def State.putBack (s : State) (w : LogWrite) : State :=
  match Sparse.find s.evl.ring w.slot with
  | some sl => s.evlSet fun e => { e with ring := Sparse.put e.ring w.slot { sl with occ := w.occ } }
  | none => s

/-- The record write in progress ends. -/
def State.recordDone (s : State) : State :=
  match s.evl.writing with
  | none => s
  | some w =>
    let s := s.evlSet fun e => { e with writing := none }
    if w.back then s.putBack w else s.putRecord w

/-- Length of a record write: 8 cycles of 4 ns (R590). -/
def recordNs : Nat := 32

/-- A record write whose eighth cycle has ended. -/
def State.recordTick (s : State) : State :=
  if s.on Dom.core ∧ s.evl.writing.any fun w => decide (w.at_ + recordNs ≤ s.now) then s.recordDone else s

/-- EVENT_RAISE: a block presents an event (R586, R588, R589, R599). -/
def execEventRaise (id cls src arg0 arg1 arg2 : Nat) (s : State) : Out :=
  .next (s.present (s.occ id (cls % 4) src arg0 arg1 arg2))

/-- COALESCE_CLOSE: every open entry whose millisecond has ended closes, in order (R588). -/
def execCoalesceClose (s : State) : Out :=
  .next s.closeDue

/-- LOG_RECORD_WRITE: a record write begins, and ends 32 ns later (R590); with the EV_LOST events of R591. -/
def execLogRecordWrite (s : State) : Out :=
  .next (if s.on Dom.core then s.beginRecord.queueLost else s)

/-- The slots from `a` up to, but not including, `b` in ring order. -/
def ringSpan (a b : Nat) : List Nat := (List.range ((b + 2048 - a) % 2048)).map fun i => (a + i) % 2048

/-- Release one slot (R593), and the record being written into it (R606). -/
def State.releaseSlot (s : State) (k : Nat) : State :=
  let ring := match Sparse.find s.evl.ring k with
    | some sl => Sparse.put s.evl.ring k { sl with released := true }
    | none => s.evl.ring
  s.evlSet fun e => { e with
    ring := ring
    writing := e.writing.map fun w => if w.slot = k then { w with released := true } else w }

/-- The slot being written, or whose write has ended in this cycle (R606). -/
def State.slotWritten (s : State) : Option Nat :=
  match s.evl.writing with
  | some w => some w.slot
  | none => (s.evl.wrote.filter fun w => w.2 == s.now).map (·.1)

/-- The value EVL_RD takes for a write of `n`: at most the slot after the one being written, in ring order from the previous EVL_RD
(R606). -/
def State.releaseTo (s : State) (n : Nat) : Nat :=
  match s.slotWritten with
  | none => n
  | some w =>
    let rd := s.getF R.EVL_RD_SLOT
    if (w + 2048 - rd) % 2048 + 1 < (n + 2048 - rd) % 2048 then (w + 1) % 2048 else n

/-- LOG_RELEASE: a write of EVL_RD (R593, R606). -/
def execLogRelease (slot : Nat) (s : State) : Out :=
  .next (s.access Dom.core fun s =>
    let n := s.releaseTo (slot % 2048)
    (s.doIf (s.isSet R.EVL_CTL_LOG_MODE) fun s =>
      s.forL (ringSpan (s.getF R.EVL_RD_SLOT) n) fun k s => s.releaseSlot k).setF R.EVL_RD_SLOT n)

/-- An uncorrectable error in the word of log RAM at offset `o`: the slot is reusable. -/
def State.logRamUe (s : State) (o : Nat) : State :=
  (s.evlSet fun e => { e with ring := Sparse.erase e.ring (o / 32) }).raiseInt Ev.EVL_RAM_UE R.EVL_INT_RAMERR

/-! ### Persistence -/

/-- First flash offset of page `p` (R595). -/
def pageAt (p : Nat) : Nat := 0x110000 + 4096 * p

/-- A write-back into the record is still to be made, or in progress. -/
def EvlState.owed (e : EvlState) (uid : Nat) : Bool :=
  (e.backs.any fun c => c.uid == uid) || e.writing.any fun w => w.back && w.occ.uid == uid

/-- The slots whose record is pending and whose coalescing entry has closed, its COUNT final (R596). -/
def State.ready (s : State) : List LogSlot :=
  (s.evl.ring.map (·.2)).filter fun sl => s.slotPending sl && sl.closedAt.isSome && !s.evl.owed sl.occ.uid

/-- A pending record has waited FLUSH_MS since its entry closed (R596). -/
def State.flushDue (s : State) : Bool :=
  s.ready.any fun sl => decide (sl.closedAt.getD 0 + s.getF R.EVL_PCFG_FLUSH_MS * msNs ≤ s.now)

/-- A start condition of R596 holds. -/
def State.pageCondition (s : State) : Bool :=
  (s.ready.any fun sl => sl.occ.cls == 0) || decide (127 ≤ s.ready.length) || s.flushDue
    || (s.ready.any fun sl => s.evl.flushSeqs.contains sl.seq)

/-- Insert by rising (class, SEQ). -/
def insertSlot (x : LogSlot) : List LogSlot → List LogSlot
  | [] => [x]
  | y :: l => if x.occ.cls < y.occ.cls ∨ (x.occ.cls = y.occ.cls ∧ x.seq ≤ y.seq) then x :: y :: l else y :: insertSlot x l

/-- The records of the next page: in class order, each class in ascending SEQ, 127 at most (R596). -/
def State.pageRecords (s : State) : List LogSlot := (s.ready.foldl (fun l x => insertSlot x l) []).take 127

/-- Start a page: erase the next block with the first page of a block (R597). -/
def State.startPage (s : State) : State :=
  if s.isSet R.EVL_PST_BUSY ∨ s.isSet R.EVL_PST_STOPPED ∨ s.ready = [] then s
  else
    let p := s.getF R.EVL_PST_PAGE
    let s := s.doIf (decide (p % 16 = 0)) fun s => s.erase (pageAt ((p / 16 + 1) % 16 * 16)) 65536
    (s.evlSet fun e => { e with page := some s.pageRecords }).setF R.EVL_PST_BUSY 1

/-- PAGE_START (R596). -/
def execPageStart (s : State) : Out :=
  .next (if s.on Dom.core ∧ s.pageCondition then s.startPage else s)

/-- FLUSH_TIMEOUT: a pending record has waited FLUSH_MS (R596). -/
def execFlushTimeout (s : State) : Out :=
  .next (if s.on Dom.core ∧ s.flushDue then s.startPage else s)

/-- The bytes of a page with PAGE_SEQ `q` (R595). -/
def pageBytes (q : Nat) (recs : List LogSlot) : List Byte :=
  let seqs := recs.map (·.seq)
  let hdr := [0x53#8, 0x4B#8, 0x45#8, 0x56#8] ++ leBytes 4 q ++ leBytes 2 recs.length ++ leBytes 2 0
    ++ leBytes 4 (seqs.foldl min (seqs.headD 0)) ++ leBytes 4 (seqs.foldl max 0) ++ leBytes 8 0
  let body := recs.flatMap LogSlot.bytes ++ List.replicate (32 * (127 - recs.length)) 0xFF#8
  hdr ++ leBytes 4 (crc32c (hdr ++ body)) ++ body

/-- PAGE_PERSISTED: the page is in flash and its read-back matches, so its records are persisted; or its program, erase
or read-back failed, its records stay pending and the next page position is tried (R596, R597). -/
def execPagePersisted (left : Option (List Byte)) (s : State) : Out :=
  .next (match s.evl.page with
    | none => s
    | some recs =>
      let p := s.getF R.EVL_PST_PAGE
      let seqs := recs.map (·.seq)
      let q := s.evl.pageSeq
      let s := (s.setF R.EVL_PST_BUSY 0).setF R.EVL_PST_PAGE ((p + 1) % 256)
      let s := s.evlSet fun e => { e with page := none, pageSeq := q + 1 }
      match left with
      | none =>
        let s := s.program (pageAt p) (pageBytes q recs)
        let s := s.evlSet fun e => { e with
          ring := e.ring.map fun k => if seqs.contains k.2.seq then (k.1, { k.2 with persisted := true }) else k
          flushSeqs := e.flushSeqs.filter fun n => !seqs.contains n }
        ((s.setF R.EVL_PST_FAILS 0).wrapInc R.EVL_PST_PAGES).flag R.EVL_INT_PDONE
      | some bytes =>
        let s := (s.flashLeave (pageAt p) (bytes.take 4096)).satInc R.EVL_PST_FAILS
        let s := s.raiseInt Ev.EVL_PERSIST_FAIL R.EVL_INT_PFAIL
        if 3 ≤ s.getF R.EVL_PST_FAILS then (s.setF R.EVL_PST_STOPPED 1).raise Ev.EVL_PERSIST_STOP else s)

/-- FLUSH: persist every record pending now, starting a page at once (R596). -/
def execFlush (s : State) : Out :=
  .next (s.access Dom.core fun s =>
    let pend := ((s.evl.ring.map (·.2)).filter fun sl => s.slotPending sl).map (·.seq)
    (s.evlSet fun e => { e with flushSeqs := pend }).startPage)

/-- PRESTART: persistence resumes (R597). -/
def execPrestart (s : State) : Out :=
  .next (s.access Dom.core fun s => (s.setF R.EVL_PST_STOPPED 0).setF R.EVL_PST_FAILS 0)

/-- FIRMWARE_EVENT: a write of EVL_SWEV with GO = 1 (R604). -/
def execFirmwareEvent (idlo cls : Nat) (s : State) : Out :=
  .next (s.access Dom.core fun s =>
    if idlo % 256 < 0x80 ∨ cls % 4 = 0 then s.flag R.EVL_INT_REFUSED
    else s.present (s.occ (0x0F00 + idlo % 256) (cls % 4) 15 (s.getF R.EVL_SWARG_ARG0) 0 0))

/-- EVL_Q_MAX: a read of EVL_Q returns level, highest level and open entries, and clears the highest level (R611). -/
def execEvlQMax (s : State) : Out :=
  .next (s.access Dom.core fun s =>
    (s.answer (.data (BitVec.ofNat 32
      (s.evl.queue.length + 2 ^ 8 * s.readRc R.EVL_Q_MAX + 2 ^ 16 * s.evl.coal.length)))).clearRc R.EVL_Q_MAX)

/-- What EVL does with an AD-originated event record (R610): a bad ID is discarded; otherwise EVL gives SEQ, times,
count and flags, marks the record untrusted, and takes SAFETY as FAULT. -/
def State.adEvent (s : State) (l : List Byte) : State :=
  let id := fieldAt l 0 2
  if id < 0x2000 ∨ id = 0xFFFF then (s.satInc R.EVL_CNT_ADBAD).raiseInt Ev.EVL_AD_BAD R.EVL_INT_ADBAD
  else
    let cls := byteAt l 2 % 4
    let o := s.occ id (if cls = 0 then 1 else cls) (byteAt l 3) (fieldAt l 0x14 4) (fieldAt l 0x18 4) (fieldAt l 0x1E 2)
    s.present { o with untrusted := true }

/-- The magic and the CRC of a page hold. -/
def pageValid (l : List Byte) : Bool :=
  l.take 4 == [0x53#8, 0x4B#8, 0x45#8, 0x56#8] && fieldAt l 0x1C 4 == crc32c (l.take 0x1C ++ l.drop 0x20)

/-- A page in flash whose magic and CRC hold: its PAGE_SEQ and MAX_SEQ. -/
def State.pageAtFlash (s : State) (p : Nat) : Option (Nat × Nat) :=
  let l := s.flashBytes (pageAt p) 4096
  if pageValid l then some (fieldAt l 4 4, fieldAt l 0x10 4) else none

/-- A page in progress is cut off: it is torn, and its CRC fails (R608). What stands in it is open (log entry 123). -/
def State.tearPage (s : State) : State :=
  match s.evl.page with
  | none => s
  | some _ =>
    let p := s.draw 32768
    let l := leBytes 4096 p.1
    let s := p.2.flashLeave (pageAt (s.getF R.EVL_PST_PAGE)) (if pageValid l then 0xFF#8 :: l.drop 1 else l)
    s.evlSet fun e => { e with page := none }

/-- Page position `p` is wholly erased. -/
def State.pageErased (s : State) (p : Nat) : Bool :=
  s.flash.all fun e => !(decide (pageAt p ≤ e.1) && decide (e.1 < pageAt p + 4096))

/-- The search EVL makes when it starts (R598): continue after the page of the highest PAGE_SEQ; after a SYS reset
(`sys`) also after the highest SEQ in log RAM, whose records all become pending. -/
def State.evlRestart (s : State) (sys : Bool) : State :=
  let found := (List.range 256).filterMap fun p => (s.pageAtFlash p).map fun q => (q.1, q.2, p)
  let best := found.foldl (fun b q => if b.1 ≤ q.1 then q else b) (0, 0, 0)
  let start := if found = [] then 0 else best.2.2 + 1
  let block := best.2.2 / 16
  let pos := ((List.range (16 * (block + 1) - start)).map fun i => start + i).find? fun p => s.pageErased p
  let nextBlk := (block + 1) % 16 * 16
  let s := match pos with
    | some p => s.setF R.EVL_PST_PAGE p
    | none => (s.erase (pageAt nextBlk) 65536).setF R.EVL_PST_PAGE nextBlk
  let inRam := if sys then s.evl.ring else []
  let hi := inRam.foldl (fun b k => match b with
    | none => some (k.2.seq, k.1)
    | some q => if q.1 ≤ k.2.seq then some (k.2.seq, k.1) else b) (none : Option (Nat × Nat))
  let maxFlash := if found = [] then none else some best.2.1
  let nextSeq := match maxFlash, hi with
    | none, none => 0
    | some a, none => seqAfter a
    | none, some b => seqAfter b.1
    | some a, some b => seqAfter (max a b.1)
  let s := (s.setF R.EVL_SEQ_NEXT nextSeq).setF R.EVL_WR_SLOT (match hi with | some q => (q.2 + 1) % 2048 | none => 0)
  s.evlSet fun e => { e with
    ring := inRam.map fun k => (k.1, { k.2 with persisted := false, released := false, closedAt := some s.now })
    queue := [], coal := [], page := none, pageSeq := best.1 + 1, flushSeqs := [], backs := [], writing := none, wrote := none }

/-- EVL takes over the events and LOST counts that AON held (R599). -/
def State.evlTakeHeld (s : State) : State :=
  let held := s.evl.aonHeld
  let lost := s.evl.aonLost
  let s := s.evlSet fun e => { e with aonHeld := [], aonLost := [0, 0, 0, 0] }
  let s := s.forL held fun o s => if s.evRoom o.cls then s.evQueue o true else s.satInc (lostFld o.cls)
  (s.forN 4 fun c s => s.satAdd (lostFld c) (lost.getD c 0)).queueLost

end Sys2Proof.Machine
end

