-- ==== Sys2Proof/Machine/Domains.lean ====
section
/-! DEFINITION. Power domains (R522, R549, R550): what a domain's logic holds at power-up, and switching domains on and
off. -/

namespace Sys2Proof.Machine

/-- The domain in which a timer runs. -/
def Timer.dom : Timer → Nat
  | .session | .lockout | .key _ | .vout | .voutPoll | .planAck | .demand | .discrep _ | .offTest _
  | .resetStuck | .testPeriod | .clockReset | .startRetry | .pgTimeout _ | .pgFall _ | .pgReraise | .avs | .ready
  | .xoStart => 0
  | .applyStep | .stateAck _ | .canary | .major | .frameReport
  | .qualRecord | .split | .wdt _ | .kick _ | .scrubber | .wdtReset | .qspi | .ntc | .cdSensor
  | .forecast | .planMiss | .watchord | .stepTest => 1
  | .flintTest => 2
  | .fto _ => 3
  | .learn _ | .storm _ | .fup _ | .sync _ | .fsync _ | .tListen | .claimWait | .followTo | .joinRetry | .backoff | .hello _
  | .neighbour _ | .rosterMs | .beat | .headTo | .beatTo _ | .rankWait | .publish | .resend _ | .chunkAck _ | .xferIdle _ => 4
  | .luxin | .sched | .lightHold | .control _ | .hiccup _ | .sfl1 | .homing | .sls | .pot => 5
  | .trainStep | .trainRetry | .ackTimer _ | .replay _ | .pmAck | .wakeHeld => 6
  | .scrub _ | .slot | .stopLead | .slew | .mr4 | .wck | .swapLimit _
  | .stopLimit _ => 7

/-- Stop the timers of a domain. -/
def State.stopTimers (s : State) (d : Nat) : State := { s with timers := s.timers.filter fun p => !(p.1.dom == d) }

/-- Fields of SYS that every reset but POR keeps: the reset causes, what is counted since POR, and the record of the
last mismatch (R382, R414, R549, R552, R561, R626). -/
def sysKept : List Fld :=
  [R.SYS_RSTCAUSE_POR, R.SYS_RSTCAUSE_WAKE, R.SYS_RSTCAUSE_SUPPLY, R.SYS_RSTCAUSE_CLOCK, R.SYS_RSTCAUSE_PG_LOST,
   R.SYS_RSTCAUSE_SW_SYS, R.SYS_RSTCAUSE_SW_CORE, R.SYS_RSTCAUSE_WDT0, R.SYS_RSTCAUSE_WDT1, R.SYS_RSTCAUSE_LCK,
   R.SYS_RSTCAUSE_SPLIT_TO, R.SYS_RSTCAUSE_DEBUG, R.SYS_ADRST_CAUSE, R.SYS_ADRST_COUNT, R.SYS_LCKSTAT_GROUP,
   R.SYS_LCKSTAT_COUNT_1H, R.SYS_LCKSTAT_HOLD, R.SYS_LCKADDR_ADDR, R.SYS_SPLITCNT_SPLITS, R.SYS_DBG_REPLAYS, R.SYS_SELFTEST_COUNT]

/-- Clear registers but keep the values of some fields. -/
def State.clearKeep (s : State) (base n : Nat) (keep : List Fld) : State :=
  (s.clearRegs base n).setFs (keep.map fun f => (f, s.getF f))

/-- The registers of the blocks of CD_CORE: SYS, CIL, TEN, ASY and STK, EVL, THM, the two I²C controllers, QSPI, SPI, UART and
GPIO. -/
def State.clearCore (s : State) : State :=
  [0x40020000, 0x40030000, 0x40040000, 0x40050000, 0x400F0000, 0x40110000, 0x40120000, 0x40130000, 0x40140000, 0x40150000,
   0x40160000, 0x40170000].foldl (fun s a => s.clearRegs a 0x10000) (s.clearKeep 0x40000000 0x10000 sysKept)

/-- The logic of CD_CORE as at power-up. What is counted over 60 minutes lives on, and so do the events in log RAM until EVL
starts again; a page that EVL was writing is torn (R608). -/
def State.resetCore (s : State) : State :=
  let s := s.tearPage
  let c := { CilState.init with settings := s.cil.settings, resident := s.cil.resident }
  let s := s.clearCore.stopTimers Dom.core
  { s with
    cil := c
    ten := .init
    asy := { AsyState.init with resetsAt := s.asy.resetsAt }
    i2c := [.init, .init]
    thm := .init
    qspi := none
    uart := [⟨[], []⟩, ⟨[], []⟩]
    spi := .init
    cpu := { CpuState.init with mismAt := s.cpu.mismAt, mtimeAt := s.now, cause := 0 } }

/-- The logic of one CD domain as at power-up (R549). Counters of cameras go on (R29); the time bases start from the real-time
counter (R434). -/
def State.resetDomain (s : State) (d : Nat) : State :=
  match d with
  | 1 => s.resetCore
  | 2 => (s.stopTimers 2).flintPowerUp
  | 3 =>
    let keep := (List.range 4).map fun c => R.ING_CAM_FCNT_FCNT c
    { ((s.clearKeep 0x40070000 0x10000 keep).stopTimers 3) with ing := .init }
  | 4 =>
    let t := s.rtc * 1953125 / 64 % 2 ^ 32 * 2 ^ 32
    { (((s.clearRegs 0x40090000 0x30000)).stopTimers 4) with
      tim := { TimState.init with tb := [t, t, t, t] }
      net := .init
      crn := { CrnState.init with nextSer := s.crn.nextSer } }
  | 5 => { (((s.clearRegs 0x400C0000 0x20000)).stopTimers 5) with lux := .init, tlt := .init }
  | 6 => { (((s.clearRegs 0x40080000 0x10000)).stopTimers 6) with sil := s.sil.cut }
  | _ => s

/-- Switch a CD domain on. -/
def State.domOn (s : State) (d : Nat) : State :=
  if s.on d then s else (s.setBitF R.PMU_DOMST_ON d true).resetDomain d

/-- Switch a domain off; nothing of it runs on. -/
def State.domOff (s : State) (d : Nat) : State :=
  if s.on d then
    let s := if d = 2 then { s with flt := .init } else if d = 3 then s.abortForward.resetDomain 3 else s.resetDomain d
    (s.stopTimers d).setBitF R.PMU_DOMST_ON d false
  else s

end Sys2Proof.Machine
end

