-- ==== Sys2Proof/Machine/PinLevels.lean ====
section
/-! DEFINITION. The levels at the general-purpose pins (R639), and the state of every pin by its bank and domain (R629). -/

namespace Sys2Proof.Machine

/-! ### General-purpose pins -/

/-- The function a pin acts in: one it does not have makes it an input (R639). -/
def State.pinFn (s : State) (n : Nat) : Nat :=
  let f := if n < 16 then s.getF (R.GPIO_FN0_FN n) else s.getF (R.GPIO_FN1_FN (n - 16))
  if f = 2 ∧ 8 ≤ n then 0 else if f = 3 ∧ n ≠ 20 ∧ n ≠ 21 then 0 else f

/-- The edges that set the pin's interrupt flag. -/
def State.pinEdge (s : State) (n : Nat) : Nat := if n < 16 then s.getF (R.GPIO_EDGE0_EDGE n) else s.getF (R.GPIO_EDGE1_EDGE (n - 16))

/-- The level at a pin's ball becomes `b`. -/
def State.pinLevel (s : State) (n : Nat) (b : Bool) : State :=
  if s.bitF R.GPIO_IN_LEVEL n = b then s
  else
    let s := s.setBitF R.GPIO_IN_LEVEL n b
    if (s.pinEdge n).testBit (if b then 0 else 1) then s.flagBits R.GPIO_INT_EDGE (2 ^ n) else s

def State.uartOf (s : State) (i : Nat) : UartState := s.uart.getD i ⟨[], []⟩

/-- Flow control acts: it is on, and the pins have function A (R640). -/
def State.uartFlow (s : State) (i : Nat) : Bool :=
  s.isSet (R.UART_CFG_FLOW i) && decide (s.pinFn (4 + 2 * i) = 2) && decide (s.pinFn (5 + 2 * i) = 2)

/-- RTS_N: high while flow control acts and 56 or more bytes wait (R640). -/
def State.rts (s : State) (i : Nat) : Bool := s.uartFlow i && decide (56 ≤ (s.uartOf i).rx.length)

/-- The level that the device drives on a pin: GPIO_OUT, a chip select of the SPI controller, or RTS_N; none where it drives no level of its
own (R639 to R641). -/
def State.pinDrive (s : State) (n : Nat) : Option Bool :=
  match s.pinFn n with
  | 1 => some (s.bitF R.GPIO_OUT_LEVEL n)
  | 2 =>
    if n < 4 then some (s.spi.sel != some (n + 1))
    else if n = 4 then some (s.rts 0)
    else if n = 6 then some (s.rts 1)
    else none
  | _ => none

/-- The pins the device drives follow what drives them. -/
def State.drivePins (s : State) : State :=
  s.forN 24 fun n s => match s.pinDrive n with | some b => s.pinLevel n b | none => s

/-! ### Every pin (R629) -/

/-- What a pin does: its block works with it, or it is held. -/
inductive PinState where
  | live | low | high | hiZ | pullUp | pullDown | unpowered
deriving DecidableEq, Repr

/-- The rows of R629, with those split that hold different states. -/
inductive PinGroup where
  | csi | sg | xo | qspiSck | qspiIo | qspiCs | qspiReset | tckTrst | tmsTdi | tdo | mdc | mdio | fsync
  | ledGate | tiltLow | tiltHigh | analog | ntc | encoder | sin | testPulse | safe | aonInput | pwrEn | pg | xtal32
  | openDrain | spiOut | spiCs | spiMiso | uartTx | uartRx | gpio | mem | memCs | memReset
deriving DecidableEq, Repr

/-- The domain that owns a pin (R522). -/
def PinGroup.domain : PinGroup → Nat
  | .csi => Dom.ingress
  | .sg | .mdc | .mdio | .fsync => Dom.net
  | .ledGate | .tiltLow | .tiltHigh | .encoder => Dom.drive
  | .mem | .memCs | .memReset => Dom.adMem
  | .sin | .testPulse | .safe | .aonInput | .pwrEn | .pg | .xtal32 => Dom.aon
  | .xo | .qspiSck | .qspiIo | .qspiCs | .qspiReset | .tckTrst | .tmsTdi | .tdo | .analog | .ntc | .openDrain | .spiOut | .spiCs
  | .spiMiso | .uartTx | .uartRx | .gpio => Dom.core

/-- What a pin does in reset, or while its domain is off. -/
def PinGroup.inReset : PinGroup → PinState
  | .csi | .sg | .xo | .tdo | .mdio | .analog | .ntc | .openDrain | .mem | .memCs => .hiZ
  | .qspiSck | .qspiReset | .mdc | .fsync | .ledGate | .tiltLow | .tiltHigh | .testPulse | .safe | .pwrEn | .spiOut | .memReset => .low
  | .qspiIo | .qspiCs | .tmsTdi | .encoder | .aonInput | .spiCs | .uartTx | .uartRx => .pullUp
  | .tckTrst | .sin | .spiMiso | .gpio => .pullDown
  | .pg => .hiZ
  | .xtal32 => .hiZ

/-- What a pin does in STANDBY. -/
def PinGroup.inStandby : PinGroup → PinState
  | .ledGate | .tiltLow | .tiltHigh | .testPulse | .safe | .pwrEn => .low
  | .csi | .xo | .analog | .ntc => .hiZ
  | .sin => .pullDown
  | .aonInput => .pullUp
  | .pg => .hiZ
  | .xtal32 => .live
  | _ => .unpowered

/-- What a pin does now (R629). AON's pins are in reset while it holds the device; the boot ROM releases the flash; retention keeps CS low
and MEM_RESET_N high (R211). -/
def State.pinState (s : State) (g : PinGroup) : PinState :=
  if s.devState = 3 ∧ s.pmu.trans.isNone then g.inStandby
  else if g.domain = Dom.aon then (if s.pmu.held then g.inReset else .live)
  else if s.on g.domain = false then
    (match g with
     | .memCs => if s.pmu.retained then .low else .hiZ
     | .memReset => if s.pmu.retained then .high else .low
     | _ => g.inReset)
  else match g with
    | .qspiReset => if s.cpu.running then .high else .low
    | _ => .live

end Sys2Proof.Machine
end

