-- ==== Sys2Proof/Machine/Blocks.lean ====
section
/-! DEFINITION. Apply step 5: what the image loader writes into the CD blocks from the CD-side sections (R34, R58, R441, R533, R545,
R553 of the sections' own rules). -/

namespace Sys2Proof.Machine

/-- Set a field from an image setting. -/
def State.fromImg (s : State) (f : Fld) (i : ImgField) (n : Nat := 0) : State := s.setF f (s.cfg i n)

/-- CORE and PINS. -/
def State.blkCore (s : State) : State :=
  let s := (s.fromImg R.SYS_CORE_HANDOVER_OK Img.CORE_HANDOVER).fromImg R.QSPI_CFG_OCTAL Img.PINS_QSPI_MODE
  let s := s.forN 16 fun p s => s.fromImg (R.GPIO_FN0_FN p) Img.PINS_GPIO_FN p
  let s := s.forN 8 fun p s => s.fromImg (R.GPIO_FN1_FN p) Img.PINS_GPIO_FN (16 + p)
  (s.forN 2 fun i s => (s.fromImg (R.I2C_CFG_MODE i) Img.PINS_I2C_MODE i).fromImg (R.UART_BAUD_RATE i) Img.PINS_UART_BAUD i).drivePins

/-- POWER and LEARN (R533, R545). -/
def State.blkPower (s : State) : State :=
  ((s.setF R.PMU_REG_USE (s.cfg Img.POWER_REG_USE 0 ||| 3)).pmuSet fun p => { p with powerKnown := true })
    |>.fromImg R.PMU_RETAIN_EN Img.LEARN_ENABLE

/-- STREAK: the chunk lists, their lengths and the shares (R288, R325); runs are counted from here on (R285). -/
def State.blkStreak (s : State) : State :=
  let s := { s with asy := { s.asy with stkRuns := [] } }
  let s := (s.fromImg R.STK_CTL_NEGATE Img.STREAK_NEGATE).fromImg R.STK_CTL_ROTATE Img.STREAK_ROTATE
  s.forN 16 fun n s =>
    let ids := if s.cfgPresent Img.STREAK_CHUNKS n then u16s (octets 513 (s.cfg Img.STREAK_CHUNKS n)) else []
    let s := (s.fromImg (R.STK_COV_MIN_COVER_PCT n) Img.STREAK_MIN_COVER_PCT n).setF (R.STK_COV_L n) ids.length
    s.forN 128 fun w s => s.setF (R.STK_CHUNKS_W (128 * n + w)) (ids.getD (2 * w) 0 + 65536 * ids.getD (2 * w + 1) 0)

/-- FLINT and ASSAY. -/
def State.blkBelief (s : State) : State :=
  let s := s.fromImg R.FLT_CFG_THRESH Img.FLINT_THRESH
  let s := s.forN 4 fun c s =>
    let z := s.cfg Img.FLINT_ZONE_MASK c
    ((s.fromImg (R.FLT_CFG_FPS c) Img.FLINT_FPS c).setF (R.FLT_ZMASK_W (2 * c)) (z % 2 ^ 32)).setF (R.FLT_ZMASK_W (2 * c + 1)) (z / 2 ^ 32)
  let s := (s.fromImg R.ASY_CFG0_ZONE_EXPIRY_MS Img.ASSAY_ZONE_EXPIRY_MS).fromImg R.ASY_CFG0_FLINT_MAXAGE_MS Img.ASSAY_FLINT_MAXAGE_MS
  let s := (s.fromImg R.ASY_CFG1_STALE_MS Img.ASSAY_STALE_MS).fromImg R.ASY_CFG1_ABSENT_RUN Img.ASSAY_ABSENT_RUN
  let s := (s.fromImg R.ASY_CFG1_DEMOTE_REFUTED Img.ASSAY_DEMOTE_REFUTED).fromImg R.ASY_CFG2_PROMOTE_CLEAN Img.ASSAY_PROMOTE_CLEAN
  s.forN 32 fun e s =>
    let z := s.cfg Img.ASSAY_ZONEMAP e
    (s.setF (R.ASY_ZMAP_W (2 * e)) (z % 2 ^ 32)).setF (R.ASY_ZMAP_W (2 * e + 1)) (z / 2 ^ 32)

/-- LIGHT. -/
def State.blkLight (s : State) : State :=
  let s := (s.fromImg R.LUX_CTL_CH_EN Img.LIGHT_CH_EN).fromImg R.LUX_CTL_FAILOVER Img.LIGHT_FAILOVER
  let s := (s.fromImg R.LUX_CFG0_FLOOR_OCC Img.LIGHT_FLOOR_OCC).fromImg R.LUX_CFG0_FLOOR_DARK Img.LIGHT_FLOOR_DARK
  let s := (s.fromImg R.LUX_CFG0_DIM_RATE Img.LIGHT_DIM_RATE).fromImg R.LUX_CFG0_FAILOVER_LEVEL Img.LIGHT_FAILOVER_LEVEL
  let s := (s.fromImg R.LUX_CFG1_RAMP_UP Img.LIGHT_RAMP_UP).fromImg R.LUX_CFG1_ZONES Img.LIGHT_ZONES
  let s := (s.fromImg R.LUX_CFG1_DARK_SRC Img.LIGHT_DARK_SRC).fromImg R.LUX_CFG1_DARK_LUX Img.LIGHT_DARK_LUX
  s.forN 2 fun c s => (s.fromImg (R.LUX_CH_I_MAX_MA c) Img.LIGHT_I_MAX_MA c).fromImg (R.LUX_CH_OC_MA c) Img.LIGHT_OC_MA c

/-- TILT and SAFEIO. -/
def State.blkSafe (s : State) : State :=
  let s := (s.fromImg R.TLT_CFG_ENABLE Img.TILT_ENABLE).fromImg R.TLT_CFG_SLS_CPS Img.TILT_SLS_CPS
  let s := (s.fromImg R.TLT_CFG_POT_TOL Img.TILT_POT_TOL).fromImg R.TLT_CFG_SDI Img.TILT_SDI
  let s := (s.fromImg R.TLT_SLPLO_COUNT Img.TILT_SLP_LO).fromImg R.TLT_SLPHI_COUNT Img.TILT_SLP_HI
  let s := (s.fromImg R.SIO_TPCFG_TP_PERIOD_MS Img.SAFEIO_TP_PERIOD_MS).fromImg R.SIO_TPCFG_TP_WIDTH_US Img.SAFEIO_TP_WIDTH_US
  let s := (s.fromImg R.SIO_OFFTEST_OFFTEST_US Img.SAFEIO_OFFTEST_US).fromImg R.SIO_RST_WIN_MS Img.SAFEIO_RESET_WIN_MS
  let s := s.forN 4 fun n s => s.fromImg (R.SIO_USE_ROLE n) Img.SAFEIO_SIN_USE n
  s.forN 2 fun n s =>
    (s.fromImg (R.SIO_DISC01_DISCREP_MS n) Img.SAFEIO_DISCREP_MS n).fromImg (R.SIO_DISC23_DISCREP_MS n) Img.SAFEIO_DISCREP_MS (2 + n)

/-- NET and TIME; triggers are written unarmed (R441). -/
def State.blkNet (s : State) : State :=
  let s := s.forN 2 fun p s => s.fromImg (R.NET_PORT_ST_MODE p) Img.NET_PORT_MODE p
  let s := (s.fromImg R.TIM_DOM_DOMAIN_A Img.TIME_DOMAIN_A).fromImg R.TIM_DOM_DOMAIN_B Img.TIME_DOMAIN_B
  let s := (s.fromImg R.TIM_DOM_TC_MODE Img.TIME_TC_MODE).fromImg R.TIM_SWITCH_SWITCH_NS Img.TIME_SWITCH_NS
  s.forN 8 fun k s =>
    if s.cfgPresent Img.TIME_TTRG k then
      let v := s.cfg Img.TIME_TTRG k
      s.setFs [(R.TIM_TTRG_CFG_TARGET k, v % 256), (R.TIM_TTRG_CFG_BASE k, v / 256 % 256), (R.TIM_TTRG_CFG_EN k, 0),
        (R.TIM_TTRG_PERIOD_NS k, v / 2 ^ 32 % 2 ^ 32), (R.TIM_TTRG_PHASE_NS k, v / 2 ^ 64)]
    else s

/-- The cameras of present S tenants are SAFE (R114). -/
def State.blkCams (s : State) : State :=
  s.forN 4 fun c s =>
    let safe := (List.range 16).any fun n =>
      s.cfgPresent Img.TENANTS_CLASS n && s.cfg Img.TENANTS_CLASS n == 0 && (s.cfg Img.TENANTS_CAMERAS n).testBit c
    s.setF (R.ING_CAM_CFG_SAFE c) (if safe then 1 else 0)

/-- THERMAL and LOG. -/
def State.blkRest (s : State) : State :=
  let s := (s.fromImg R.THM_CTL_FORECAST Img.THERMAL_FORECAST).fromImg R.THM_CFG_AD_TJ_C Img.THERMAL_AD_TJ_C
  let s := (s.fromImg R.THM_CFG_CD_TJ_C Img.THERMAL_CD_TJ_C).fromImg R.EVL_CTL_LOG_MODE Img.LOG_LOG_MODE
  s.fromImg R.EVL_CTL_PERSIST Img.LOG_PERSIST

/-- Write every CD block. -/
def State.writeBlocks (s : State) : State :=
  let t := s.luxTarget
  let s := s.blkCore.blkStreak.blkBelief.blkCams.blkLight.blkSafe.blkNet.blkRest
  (s.refreshZones t).luxDarkRefresh.sioSources.tltRefresh

end Sys2Proof.Machine
end

