-- ==== Sys2Proof/Machine/Resets.lean ====
section
/-! DEFINITION. Resets (R376, R381, R412, R530 to R532, R549 to R552, R555, R556): POR, SYS, CORE and AD resets, their causes
and what each of them keeps. -/

namespace Sys2Proof.Machine

def State.cpuSet (s : State) (f : CpuState → CpuState) : State := { s with cpu := f s.cpu }

/-! ### CORE -/

/-- Core-side registers of SYS that a CORE reset leaves: beside what every reset keeps, the debug module's. -/
def coreKept : List Fld := sysKept ++ [R.SYS_DBG_ACTIVE, R.SYS_DBG_OVF, R.SYS_DBG_LOCKED]

/-- What a CORE reset stops and clears: the cores, the session, a verification (R72), an apply (R412), the split, the
watchdogs; SYS_MTIME starts at 0 (R394). The pair is in lockstep again, so LCK_MISMATCH ends, and so does WDT. A pair held
by R382 stays held. -/
def State.coreReset (s : State) : State :=
  let s := (s.endSession.setF R.LCK_AUTH_BUSY 0).clearPassword
  let s := (s.clearKeep 0x40000100 0x90 coreKept).setF R.CIL_STATUS_BUSY 0
  let s := [Timer.applyStep, .split, .wdt 0, .wdt 1, .kick 0, .kick 1, .wdtReset].foldl (fun s t => s.disarm t) s
  let s := { s with lck := ⟨none⟩, cil := { s.cil with apply := none, bootDone := false } }
  let s := s.cpuSet fun c => { CpuState.init with
    ready := c.ready, stopped := c.stopped && s.isSet R.SYS_LCKSTAT_HOLD, mtimeAt := s.now, mismAt := c.mismAt,
    dbg := { c.dbg with log := [], ovf := false } }
  let s := s.setF R.SYS_CORE_STATE 0
  (if s.isSet R.SYS_LCKSTAT_HOLD then s else s.endTrip Src.lckMismatch).endTrip Src.wdt

/-- The SYS_RSTCAUSE bit with number `n`. -/
def rstBit (n : Nat) : Fld :=
  [R.SYS_RSTCAUSE_POR, R.SYS_RSTCAUSE_WAKE, R.SYS_RSTCAUSE_SUPPLY, R.SYS_RSTCAUSE_CLOCK, R.SYS_RSTCAUSE_PG_LOST,
   R.SYS_RSTCAUSE_SW_SYS, R.SYS_RSTCAUSE_SW_CORE, R.SYS_RSTCAUSE_WDT0, R.SYS_RSTCAUSE_WDT1, R.SYS_RSTCAUSE_LCK,
   R.SYS_RSTCAUSE_SPLIT_TO, R.SYS_RSTCAUSE_DEBUG].getD n R.SYS_RSTCAUSE_POR

/-- A CORE reset of a cause (R552); cores held by R382 are reset by nothing but POR. -/
def State.coreResetBy (s : State) (cause : Nat) : State :=
  if s.on Dom.core = false ∨ s.isSet R.SYS_LCKSTAT_HOLD then s else (s.flag (rstBit cause)).coreReset

/-! ### SYS -/

/-- EVL starts: with what it finds in log RAM after a SYS reset, with nothing after a loss of power; then it takes the events
that AON held (R598, R599). -/
def State.evlStart (s : State) (sys : Bool) : State :=
  let s := if sys then s else s.evlSet fun e => { EvlState.init with aonHeld := e.aonHeld, aonLost := e.aonLost }
  (s.evlRestart sys).evlTakeHeld

/-- The AD loses its power: its domains go off, whatever they hold with them (R308, R545). -/
def State.adOff (s : State) (keepDram : Bool) : State :=
  ((s.adBefore.adLose keepDram).adDomainsOff.setBitF R.PMU_DOMST_ON Dom.adUpd false).setF R.PMU_STATE_LEARN 0

/-- The AD enables fall at once. -/
def State.adEnablesOff (s : State) : State :=
  s.forL [4, 5, 6, 7] fun n s => ((s.setBitF R.PMU_REG_EN n false).disarm (.pgTimeout n)).disarm (.pgFall n)

/-- A SYS reset (R549, R556): every CD domain but AON, and the AD, the AD first. Afterwards CD_CORE is the only CD domain on,
and the device starts again from step 3 of R538; power enables of the CD stay up. -/
def State.sysReset (s : State) : State :=
  let s := if s.on Dom.adCtl then (s.adReset 5).adOff false else s
  let s := s.adEnablesOff
  let s := s.forL [6, 5, 4, 3, 2] fun d s => s.domOff d
  let s := s.coreReset
  let s := s.resetCore
  let s := if s.on Dom.core then s.evlStart true else s
  let s := [Timer.ready, .avs, .vout, .voutPoll, .planAck, .pgReraise, .clockReset].foldl (fun s t => s.disarm t) s
  let s := s.pmuSet fun p => { p with trans := none, retained := false, dvfs := none, dvfsHeld := false }
  let s := s.setFs [(R.PMU_STATE_STATE, 0), (R.PMU_STATE_TRANS, 0), (R.PMU_STATE_HELD, 0), (R.PMU_STATE_RETAINED, 0),
    (R.PMU_CLK_XO25_OK, 0), (R.PMU_CLK_CPLL, 0), (R.PMU_CLK_NPLL, 0), (R.PMU_CLK_SPLL, 0)]
  if s.on Dom.core then s.arm .xoStart (10 * msNs) else s

/-- The device is in STANDBY, or on its way there, which nothing ends but POR (R547, R553). -/
def State.standing (s : State) : Bool := s.devState == 3 || s.pmu.trans.any fun t => t.kind == 4

/-- A SYS reset of a cause; in STANDBY there is nothing for it to reset (log entry 122). -/
def State.sysResetBy (s : State) (cause : Nat) : State := if s.standing then s else (s.flag (rstBit cause)).sysReset

/-! ### Firmware's resets (R551) -/

/-- CODE of SYS_RSTCTL. -/
def rstCode : Nat := 0x5E7A

/-- SYS_RESET: a write of SYS_RSTCTL.SYS (`sw`), or the reset that follows a clock fault after 10 µs (R532). -/
def execSysReset (sw : Bool) (code : Nat) (s : State) : Out :=
  .next (
    if sw then s.access Dom.core fun s => if code % 65536 = rstCode then s.sysResetBy 5 else s
    else if s.due .clockReset then (s.disarm .clockReset).sysResetBy 3 else s)

/-- CORE_RESET: a write of SYS_RSTCTL.CORE (`sw`), or the reset 10 µs after a mismatch or a watchdog's expiry (R381,
R393). -/
def execCoreReset (sw : Bool) (code : Nat) (s : State) : Out :=
  .next (
    if sw then s.access Dom.core fun s => if code % 65536 = rstCode then s.coreResetBy 6 else s
    else if s.due .wdtReset then (s.disarm .wdtReset).coreResetBy s.cpu.cause else s)

/-- NDMRESET: the debug module's ndmreset (R549). -/
def execNdmreset (s : State) : Out := .next (if s.isSet R.SYS_DBG_ACTIVE then s.coreResetBy 11 else s)

/-- AD_RESET: a write of SYS_RSTCTL.AD; R311 runs from step 1 and the budget of R314 counts it (R551). -/
def execAdReset (code : Nat) (s : State) : Out :=
  .next (s.access Dom.core fun s =>
    if code % 65536 ≠ rstCode ∨ s.on Dom.adCtl = false then s
    else if s.isSet R.SIL_DBG_EN then (s.adReset 4).setF R.ASY_TRUST_QUAL 5
    else if 4 ≤ s.escalations.length then s.giveUp
    else
      let s := s.asySet fun a => { a with resetsAt := s.window hourNs a.resetsAt }
      ((s.adReset 4).setF R.ASY_TRUST_QUAL 1).raise Ev.ASY_AD_RESET s.escalations.length)

/-! ### Supplies and clocks (R530 to R532) -/

/-- POR: VAON below 2.80 V. Everything is reset; flash and OTP keep their contents, a page that EVL was writing torn (R608). -/
def execPor (s : State) : Out :=
  let s := s.tearPage
  .next { State.reset with
    now := s.now, freeCtr := s.freeCtr, flash := s.flash, otp := s.otp, rom := s.rom, pending := s.pending,
    pmu := { PmuState.init with porAt := s.now } }

/-- SUPPLY_OUT_OF_RANGE: for 1 µs (R531). -/
def execSupplyOutOfRange (s : State) : Out := .next (if s.pmu.held then s else s.assertTrip Src.supply true)

/-- SUPPLY_RECOVERY: both supplies back in range; a SYS reset follows (R531). -/
def execSupplyRecovery (s : State) : Out :=
  .next (if s.bitF R.SIO_TRIPNOW_ACTIVE Src.supply then (s.endTrip Src.supply).sysResetBy 2 else s)

/-- CLOCK_FAULT: XO25 or CPLL out of range (R532). -/
def execClockFault (s : State) : Out :=
  .next (if s.on Dom.core ∧ s.isSet R.PMU_CLK_CPLL ∧ s.armed .clockReset = false then
      ((s.raise Ev.SYS_CLK_FAIL).assertTrip Src.clock true).arm .clockReset (10 * usNs)
    else s)

/-- XTAL32_FAIL: four edges missing; the real-time counter moves to RC32 (R532). -/
def execXtal32Fail (s : State) : Out :=
  .next (if s.isSet R.PMU_CLK_XTAL32_OK then
      (s.setFs [(R.PMU_CLK_XTAL32_OK, 0), (R.PMU_CLK_ON_RC32, 1)]).raiseInt Ev.PMU_XTAL_FAIL R.PMU_INT_CLK
    else s)

/-- XTAL32_RUNNING: 4,096 consecutive cycles (R530, R532). -/
def execXtal32Running (s : State) : Out :=
  .next (if s.pmu.held ∨ s.isSet R.PMU_CLK_XTAL32_OK then s
    else s.setFlags [R.PMU_INT_CLK] [(R.PMU_CLK_XTAL32_OK, 1), (R.PMU_CLK_ON_RC32, 0)])

end Sys2Proof.Machine
end

