-- ==== Sys2Proof/Machine/Power.lean ====
section
/-! DEFINITION. The power manager (R521 to R523, R533 to R537, R538, R542, R545 to R550, R553, R556 to R560): the power enables
and their power-goods, cold and wake starts, the device states and the transitions between them. -/

namespace Sys2Proof.Machine

/-! ### Enables (R533) -/

def State.enHigh (s : State) (n : Nat) : Bool := s.bitF R.PMU_REG_EN n
def State.pgHigh (s : State) (n : Nat) : Bool := s.bitF R.PMU_REG_PG n

/-- The enable is in use: 0 and 1 always, the others by POWER.REG_USE once the boot apply has written it. -/
def State.enUsed (s : State) (n : Nat) : Bool := decide (n < 2) || (s.pmu.powerKnown && s.bitF R.PMU_REG_USE n)

/-- Its place in the order. -/
def State.enOrder (s : State) (n : Nat) : Nat := if s.pmu.powerKnown then s.cfg Img.POWER_REG_ORDER n else n

/-- How long its power-good may take. -/
def State.enTimeout (s : State) (n : Nat) : Nat := (if s.pmu.powerKnown then s.cfg Img.POWER_PG_TIMEOUT_MS n else 10) * msNs
def State.enTimes (s : State) : List Nat := (List.range 8).map s.enTimeout

/-- Insert an enable by order, then number. -/
def State.insertEn (s : State) (x : Nat) : List Nat → List Nat
  | [] => [x]
  | y :: l => if s.enOrder x < s.enOrder y ∨ (s.enOrder x = s.enOrder y ∧ x ≤ y) then x :: y :: l else y :: s.insertEn x l

/-- Enables in the order in which they are raised. -/
def State.enSort (s : State) (l : List Nat) : List Nat := l.foldl (fun a x => s.insertEn x a) []

/-- Begin or move a transition. -/
def State.setTrans (s : State) (t : Trans) : State := (s.pmuSet fun p => { p with trans := some t }).setF R.PMU_STATE_TRANS 1

/-- No transition runs any more. -/
def State.endTrans (s : State) : State := (s.pmuSet fun p => { p with trans := none }).setF R.PMU_STATE_TRANS 0

/-- A state is reached (PMU_STATE, INFO). -/
def State.reach (s : State) (st : Nat) : State :=
  (((s.setF R.PMU_STATE_STATE st).raiseInt Ev.PMU_STATE R.PMU_INT_STATE st).doIf (st == 2) fun s => s.stepFail 2).endTrans

/-! ### Raising and lowering -/

/-- Lower the enables of a list one by one: the next only after the power-good of the one before has fallen. What is left
is what still waits. -/
def State.lowerNext (s : State) (t : Trans) : List Nat → State
  | [] => s.setTrans { t with down := true, todo := [] }
  | n :: l =>
    let s := (s.setBitF R.PMU_REG_EN n false).disarm (.pgTimeout n)
    if s.pgHigh n then (s.setTrans { t with down := true, todo := n :: l }).arm (.pgFall n) (10 * msNs)
    else s.lowerNext t l

/-- The clocks of a domain run or stop (R524). -/
def State.showPlls (s : State) : State :=
  s.setFs [(R.PMU_CLK_NPLL, if s.on Dom.net ∨ s.on Dom.ingress then 1 else 0), (R.PMU_CLK_SPLL, if s.on Dom.sill ∧ s.linkState ≠ 4 then 1 else 0)]

/-- A cold or wake start begins with PWR_EN0 (R538); the boot apply has not written POWER yet. A start whose enables are held
low for chatter waits (R560). -/
def State.beginStart (s : State) : State :=
  let s := (s.pmuSet fun p => { p with powerKnown := false, sramLost := true }).setF R.PMU_STATE_STATE 0
  if s.pmu.chatter.contains 0 ∨ s.pmu.chatter.contains 1 then s
  else ((s.setTrans ⟨0, false, [0, 1], [0], false, s.enTimes⟩).setBitF R.PMU_REG_EN 0 true).arm (.pgTimeout 0) (s.enTimeout 0)

/-- A wake start: steps 2 to 8 of R538, with its source (R548). -/
def State.beginWake (s : State) (src : Nat) : State :=
  let s := (s.setFlags [R.SYS_RSTCAUSE_WAKE] [(R.PMU_WAKE_SRC, src)]).pmuSet fun p => { p with wakeSrc := 0, retries := 0 }
  (s.raise Ev.PMU_WAKE src).beginStart

/-- The real-time counter has reached PMU_ALARM (R548). -/
def State.alarmPast (s : State) : Bool := decide (s.getF (R.PMU_ALARM_W 0) + 2 ^ 32 * s.getF (R.PMU_ALARM_W 1) ≤ s.rtc)

/-- A transition that was lowering enables has come to its end; an alarm that lies in the past wakes the device at once (R558). -/
def State.lowered (s : State) (t : Trans) : State :=
  let s := s.endTrans
  match t.kind with
  | 0 => -- a failed start is tried again 1 s later, three times
    if s.pmu.retries < 3 then (s.pmuSet fun p => { p with retries := p.retries + 1 }).arm .startRetry secNs else s
  | 3 => s.reach 1
  | 4 =>
    let s := (s.setFs [(R.PMU_CLK_XO25_OK, 0), (R.PMU_CLK_CPLL, 0)]).pmuSet fun p => { p with retained := false }
    let s := s.reach 3
    let src := s.pmu.wakeSrc ||| (if s.bitF R.PMU_WAKE_EN 0 ∧ s.alarmPast then 1 else 0)
    if src = 0 then s else s.beginWake src
  | 6 => (s.pmuSet fun p => { p with retries := 0 }).beginStart
  | _ => s

/-- Lower some enables, in the reverse of the order in which they are raised, and end the transition when none is left. -/
def State.beginLower (s : State) (kind : Nat) (failed : Bool) (l : List Nat) : State :=
  let t : Trans := ⟨kind, true, [], [], failed, []⟩
  let s := s.lowerNext t ((s.enSort (l.filter s.enHigh)).reverse)
  match s.pmu.trans with
  | some u => if u.down && u.todo.isEmpty then s.lowered u else s
  | none => s

/-- A cold or wake start fails: whatever it has switched on goes off, and every enable it raised falls again (R534, R538). -/
def State.failStart (s : State) : State :=
  let s := s.coreReset
  let s := s.forL [6, 5, 4, 3, 2, 1] fun d s => s.domOff d
  ((s.disarm .xoStart).forN 8 fun n s => s.disarm (.pgTimeout n)).beginLower 0 true (List.range 8)

/-- The transition fails: every enable it raised falls again; the device stays in the state it came from (R534). The enables of the boot
apply belong to the start (R538). -/
def State.failTrans (s : State) (t : Trans) : State :=
  if t.kind = 0 ∨ (t.kind = 1 ∧ s.devState = 0) then s.failStart
  else
  let s := if t.kind = 2 then ((s.disarm .vout).disarm .voutPoll) else s
  s.beginLower t.kind true t.raised

/-- Every enable of a transition is up. -/
def State.raised (s : State) (t : Trans) : State :=
  match t.kind with
  | 0 => s.endTrans
  | 1 => -- step 7 of R538: the CD domains, then WATCH; step 5 of the boot apply writes the blocks
    (((s.forL [2, 3, 4, 5] fun d s => s.domOn d).showPlls.writeBlocks)).reach 1
  | 2 => ((s.setTrans { t with todo := [] }).arm .voutPoll 0).arm .vout (200 * usNs)
  | 5 => (((s.domOn 3).domOn 4).showPlls.blkCams.blkNet).endTrans
  | _ => s.endTrans

/-- Raise the next enable of a transition; one held low for chatter fails it at once (R560). -/
def State.raiseNext (s : State) (t : Trans) : State :=
  match t.todo with
  | [] => s.raised t
  | n :: _ =>
    if s.pmu.chatter.contains n then s.failTrans t
    else
      ((s.setTrans { t with raised := t.raised ++ [n] }).setBitF R.PMU_REG_EN n true).arm (.pgTimeout n) (t.times.getD n 0)

/-- Raise some enables: those in use that are not up yet. -/
def State.beginRaise (s : State) (kind : Nat) (l : List Nat) : State :=
  let t : Trans := ⟨kind, false, s.enSort (l.filter fun n => s.enUsed n && !s.enHigh n), [], false, s.enTimes⟩
  (s.setTrans t).raiseNext t

/-- PG_RISE: a power-good rises (R533, R538). PG0 starts XO25 and lets CD_CORE be switched on. -/
def execPgRise (n : Fin 8) (s : State) : Out :=
  .next (
    let k := n.val
    if s.pmu.held then s
    else
      let s := s.setBitF R.PMU_REG_PG k true
      match s.pmu.trans with
      | some t =>
        if t.down = false ∧ t.todo.head? = some k ∧ s.enHigh k then
          let s := s.disarm (.pgTimeout k)
          let s := if t.kind = 0 ∧ k = 0 then ((s.domOn Dom.core).evlStart false).arm .xoStart (10 * msNs) else s
          let t := { t with todo := t.todo.drop 1 }
          (s.setTrans t).raiseNext t
        else s
      | none => s)

/-- PG_TIMEOUT: a power-good has not risen in its time (R534). -/
def execPgTimeout (n : Fin 8) (s : State) : Out :=
  .next (match s.pmu.trans with
    | some t =>
      if t.down = false ∧ t.todo.head? = some n.val ∧ s.due (.pgTimeout n.val) then
        let s := (s.disarm (.pgTimeout n.val)).setBitF R.PMU_REG_FAILED n.val true
        (s.raiseInt Ev.PMU_PG_TIMEOUT R.PMU_INT_PGTO n.val).failTrans t
      else s
    | none => s)

/-- PG_FALL: while enables are being lowered, the power-good of the one lowered falls, or 10 ms have passed since
(`timeout`). -/
def execPgFall (n : Fin 8) (timeout : Bool) (s : State) : Out :=
  .next (
    let k := n.val
    match s.pmu.trans with
    | some t =>
      if t.down ∧ t.todo.head? = some k ∧ (timeout = false ∨ s.due (.pgFall k)) then
        let s := s.disarm (.pgFall k)
        let s := if timeout then s else s.setBitF R.PMU_REG_PG k false
        let s := s.lowerNext t (t.todo.drop 1)
        match s.pmu.trans with
        | some u => if u.down && u.todo.isEmpty then s.lowered u else s
        | none => s
      else if timeout then s else if s.enHigh k then s else s.setBitF R.PMU_REG_PG k false
    | none => if timeout ∨ s.enHigh k then s else s.setBitF R.PMU_REG_PG k false)

/-- START_RETRY: 1 s after a failed start (R534). -/
def execStartRetry (s : State) : Out :=
  .next (if s.due .startRetry ∧ s.pmu.trans.isNone ∧ s.devState = 0 then (s.disarm .startRetry).beginStart else s)

/-- XO25_START_TIMEOUT: 10 ms after PG0 without XO25; the cold start fails and is retried (R524, R534). -/
def execXo25StartTimeout (s : State) : Out :=
  .next (if s.due .xoStart ∧ s.isSet R.PMU_CLK_XO25_OK = false then
      (s.raise Ev.SYS_CLK_FAIL).failStart
    else s)

/-- POR_RELEASE: VAON above 2.90 V for 10 ms; XTAL32 starts and PWR_EN0 rises (R530, R538). -/
def execPorRelease (s : State) : Out :=
  .next (if s.pmu.held then
      (s.pmuSet fun p => { p with held := false, porAt := s.now, retries := 0 }).beginStart
    else s)

/-- CPLL_LOCK: XO25 runs and CPLL is locked (R538). A clock fault has ended. -/
def execCpllLock (s : State) : Out :=
  .next (if s.on Dom.core ∧ s.isSet R.PMU_CLK_CPLL = false then
      ((s.disarm .xoStart).setFs [(R.PMU_CLK_XO25_OK, 1), (R.PMU_CLK_CPLL, 1)]).endTrip Src.clock
    else s)

/-! ### Losses (R535, R560) -/

/-- The AD is cut off: AD reset, domains off, enables lowered, the device to WATCH. -/
def State.loseAd (s : State) : State :=
  let s := (s.closeIntake.adReset 7).adOff false
  let s := (s.domOff Dom.sill).showPlls
  let s := [Timer.ready, .avs, .vout, .voutPoll, .planAck, .planMiss].foldl (fun s t => s.disarm t) s
  (s.pmuSet fun p => { p with retained := false }).beginLower 3 false [4, 5, 6, 7]

/-- Note a loss of power-good; the eighth within 60 s holds the enable low (R560). -/
def State.noteLoss (s : State) (n : Nat) : State :=
  let l := (n, s.now) :: s.pmu.lossAt.filter fun p => decide (s.now < p.2 + 60 * secNs)
  let s := s.pmuSet fun p => { p with lossAt := l }
  if 8 ≤ (l.filter fun p => p.1 == n).length then
    (s.pmuSet fun p => { p with chatter := n :: p.chatter }).setBitF R.PMU_REG_FAILED n true
  else s

/-- What becomes of the AD when one of its rails is lost: cut off when it runs; an entry into WORK fails; otherwise the rail
held up for retention falls. -/
def State.dropAd (s : State) (n : Nat) : State :=
  if s.on Dom.adCtl then s.loseAd
  else match s.pmu.trans with
    | some t => if t.kind = 2 then s.failTrans t else s
    | none => if 4 ≤ n then (s.pmuSet fun p => { p with retained := false }).setBitF R.PMU_REG_EN n false else s

/-- The answer to a loss of enable `n`, by the table of R535. -/
def State.answerLoss (s : State) (n : Nat) : State :=
  match n with
  | 0 | 1 =>
    let s := s.sysResetBy 4
    let s := (s.domOff Dom.core).disarm .xoStart
    s.beginLower 6 false (List.range 8)
  | 2 =>
    let s := s.dropAd 2
    let s := s.forL [6, 4, 3] fun d s => s.domOff d
    let s := s.showPlls.setBitF R.PMU_REG_EN 2 false
    if s.pmu.chatter.contains 2 then s else s.arm .pgReraise secNs
  | 3 => if s.pmu.chatter.contains 3 then s.setBitF R.PMU_REG_EN 3 false else s
  | _ => s.dropAd n

/-- PG_LOST: a power-good falls for 10 µs or more while its enable is high (R535). While a transition raises enables, the loss
of one of them is its time-out; while one lowers them, it is ignored (R559). -/
def execPgLost (n : Fin 8) (s : State) : Out :=
  .next (
    let k := n.val
    if s.enHigh k = false ∨ s.pgHigh k = false then s
    else
      let s := s.setBitF R.PMU_REG_PG k false
      match s.pmu.trans with
      | some t =>
        if t.down then s
        else if t.raised.contains k ∧ t.todo ≠ [] then
          ((s.disarm (.pgTimeout (t.todo.headD 0))).setBitF R.PMU_REG_FAILED k true).raiseInt Ev.PMU_PG_TIMEOUT R.PMU_INT_PGTO k
            |>.failTrans t
        else ((s.noteLoss k).raiseInt Ev.PMU_PG_LOST R.PMU_INT_PGLOST k).answerLoss k
      | none => ((s.noteLoss k).raiseInt Ev.PMU_PG_LOST R.PMU_INT_PGLOST k).answerLoss k)

/-- PG_RERAISE: 1 s after a loss of PG2 its enable is raised again (R535), or, after a write of PMU_CMD, what chatter held low (R560). -/
def execPgReraise (s : State) : Out :=
  .next (if s.due .pgReraise ∧ s.pmu.trans.isNone then (s.disarm .pgReraise).beginRaise 5 [2, 3] else s)

/-! ### PMU_CMD (R542, R545, R547, R553) -/

/-- A command that R542 or R547 refuses. -/
def State.cmdRefuse (s : State) (c : Nat) : State := s.raiseInt Ev.PMU_CMD_REFUSED R.PMU_INT_REFUSED c

/-- A write of PMU_CMD, or the held command after the transition: held while a transition runs. A write lets enables rise again
that were held low for chatter (R560). -/
def State.pmuCmd (s : State) (held : Bool) (c : Nat) (f : State → State) : State :=
  if held then
    if s.pmu.trans.isNone ∧ s.getF R.PMU_STATE_HELD = c then f (s.setF R.PMU_STATE_HELD 0) else s
  else s.access Dom.aon fun s =>
    let low := s.on Dom.core && (s.pmu.chatter.contains 2 || s.pmu.chatter.contains 3)
    let s := (s.pmuSet fun p => { p with chatter := [] }).doIf low fun s => s.arm .pgReraise 0
    if s.pmu.trans.isSome then s.setF R.PMU_STATE_HELD c else f (s.setF R.PMU_STATE_HELD 0)

/-- WORK may be entered: WATCH, an ACTIVE image, the boot apply completed, no order to stay in WATCH (R542, R575). -/
def State.mayWork (s : State) : Bool :=
  s.inWatch && s.activeSlot.isSome && s.cil.bootDone && !s.isSet R.CIL_STATUS_NOIMAGE && !s.isSet R.THM_ACT_WATCHORD

/-- Entry into WORK, step 1: VOUT_MODE must be linear; the set voltage of the initial F_top is commanded (R536, R542). -/
def State.enterWork (s : State) (mode : Nat) : State :=
  let mv := s.setMv s.wantTop
  let s := s.setF R.PMU_PMB_VOUT_MODE mode
  let s := (s.pmuSet fun p => { p with vout := voutWord mode mv }).setF R.PMU_DVFS_VDD_AD_MV mv
  s.beginRaise 2 [4, 5, 6, 7]

/-- WORK: `vmode` is what a read of VOUT_MODE returns, none when it fails in spite of repetitions. -/
def execWork (held : Bool) (vmode : Option (Fin 256)) (s : State) : Out :=
  .next (s.pmuCmd held 2 fun s =>
    if s.mayWork = false then s.cmdRefuse 2
    else if s.isSet R.SYS_BOOT_DF_VALID = false then s.cmdRefuse 2
    else match vmode with
      | none => s.avsFail.cmdRefuse 2
      | some m => if m.val / 32 = 0 then s.enterWork m.val else (s.setF R.PMU_PMB_VOUT_MODE m.val).avsFail.cmdRefuse 2)

/-- Steps 4 and 5 of the entry: the voltage has settled; the domains are switched on under reset. -/
def State.workDomains (s : State) (t : Trans) : State :=
  let s := (s.disarm .voutPoll).disarm .vout
  let s := s.setF R.PMU_STATE_RETAINED (if s.pmu.retained then 1 else 0)
  let s := s.adEntryReset
  let s := ((s.domOn Dom.sill).showPlls.adDomainsOn).pmuSet fun p => { p with retained := false }
  s.setTrans { t with raised := t.raised }

/-- VOUT_POLL: READ_VOUT, mV; none when the read fails (R205, R206, R542). -/
def execVoutPoll (mv : Option Nat) (s : State) : Out :=
  .next (if s.due .voutPoll = false then s
    else match s.pmu.dvfs, s.pmu.trans with
      | some d, _ => s.changePoll d mv
      | none, some t =>
        (match mv with
        | none => s.avsFail.failTrans t
        | some v => if s.voutNear v then s.workDomains t else s.rearm .voutPoll (10 * usNs))
      | none, none => s.disarm .voutPoll)

/-- VOUT_TIMEOUT: not settled 200 µs after the command (R205); an entry into WORK fails by it. -/
def execVoutTimeout (s : State) : Out :=
  .next (if s.due .vout = false then s
    else match s.pmu.dvfs, s.pmu.trans with
      | some d, _ => s.changeLate d
      | none, some t => (s.raiseInt Ev.PMU_DVFS_FAIL R.PMU_INT_DVFS).failTrans t
      | none, none => s.disarm .vout)

/-- A raw LINEAR11 reading of PMBus: mantissa × 2^exponent. -/
def linear11 (w : Nat) : FpV := let m := toSigned 11 w; .fin (decide (m < 0)) m.natAbs (toSigned 5 (w / 2 ^ 11))

/-- A raw reading in the linear mode of VOUT_MODE. -/
def linear16 (mode w : Nat) : FpV := .fin false w (toSigned 5 mode)

/-- P_meas = READ_VOUT × READ_IOUT + AD_FIXED, noted for THM as FP32 (R565). -/
def State.noteAdPower (s : State) (vout iout : Nat) : State :=
  let fixed := if s.cfgPresent Img.THERMAL_MODEL 0 then fieldAt (leBytes 32 (s.cfg Img.THERMAL_MODEL 0)) 0x14 2 else 0
  let f := FpFmt.fp32.bits
  let p := fadd (f ((linear16 (s.getF R.PMU_PMB_VOUT_MODE) vout).mul (linear11 iout))) (fdiv (f (.ofInt fixed)) (f (.ofInt 10)))
  { s with thm := { s.thm with pmeas := (s.now, p) :: s.thm.pmeas.filter fun q => decide (s.now < q.1 + secNs), ioutAt := some s.now } }

/-- AVS_STATUS_POLL: every 100 ms in WORK; `word` is STATUS_WORD, none when the reads fail; `fault` that VOUT_OV, VOUT_UV or OFF
is set, `warn` IOUT_OC or TEMPERATURE; `vout`, `iout` and `temp` the raw readings (R537, R565). -/
def execAvsStatusPoll (word : Option (Fin 65536)) (fault warn : Bool) (vout iout temp : Fin 65536) (s : State) : Out :=
  .next (if s.inWork = false ∨ s.due .avs = false then s
    else
      let s := s.rearm .avs (100 * msNs)
      match word with
      | none => s.avsFail
      | some w =>
        let s := s.setFs [(R.PMU_PMB_STATUS, w.val), (R.PMU_PMBMEAS_IOUT, iout.val), (R.PMU_PMBMEAS_TEMP, temp.val)]
        let s := s.noteAdPower vout.val iout.val
        if fault ∧ s.enHigh 5 then (s.raiseInt Ev.PMU_AVS_FAULT R.PMU_INT_AVS w.val).answerLoss 5
        else if warn then s.raiseInt Ev.PMU_AVS_WARN R.PMU_INT_AVS w.val else s)

/-- Steps 2 to 5 of the exit from WORK (R545). -/
def State.leaveRest (s : State) : State :=
  let s := s.closeIntake.abortForward
  let keep := s.pmu.retained
  let s := ((s.adOff keep).domOff Dom.sill).showPlls
  let s := [Timer.ready, .avs, .vout, .voutPoll, .planAck, .planMiss].foldl (fun s t => s.disarm t) s
  let s := s.setF R.PMU_STATE_RETAINED 0
  s.beginLower 3 false (if keep then [4, 5, 7] else [4, 5, 6, 7])

/-- Leave WORK in the order of R545: step 1 suspends the tenants, and the rest follows when the dispatcher has acknowledged that
(R95, R108). PMU_RETAIN counts as it stands when the exit begins (R558). -/
def State.leaveWork (s : State) : State :=
  let s := s.suspendAll.pmuSet fun p => { p with retained := s.isSet R.PMU_RETAIN_EN }
  if s.suspended then s.leaveRest else s.setTrans ⟨3, false, [], [], false, []⟩

/-- The exit from WORK goes on once no suspension waits any more. -/
def State.leaveGoOn (s : State) : State :=
  match s.pmu.trans with
  | some t => if t.kind = 3 ∧ t.down = false ∧ s.suspended then s.leaveRest else s
  | none => s

/-- TEN_ACK. -/
def execTenAck (tenant action state : Fin 256) (s : State) : Out := .next (s.takeTenAck tenant action state).leaveGoOn

/-- STATE_ACK_TIMEOUT: 5 ms without acknowledgement; repeated once, then the tenant is FAULTED (R110 code 0x04). -/
def execStateAckTimeout (tenant : Fin 16) (s : State) : Out := .next (s.stateAckTimeout tenant).leaveGoOn

/-- WATCH (R545). -/
def execWatch (held : Bool) (s : State) : Out :=
  .next (s.pmuCmd held 1 fun s => if s.inWork then s.leaveWork else if s.inWatch then s else s.cmdRefuse 1)

/-- Persist page by page until no SAFETY record is pending. -/
def State.drainPages : Nat → State → State
  | 0, s => s
  | n + 1, s => if (s.ready.all fun sl => !(sl.occ.cls == 0)) then s else
      (match execPagePersisted none s.startPage with
       | .next s => State.drainPages n s
       | _ => s)

/-- Make every record write that waits, one after the other. -/
def State.drainQueue : Nat → State → State
  | 0, s => s
  | n + 1, s =>
    let s := s.recordDone
    if s.evl.queue.isEmpty && s.evl.backs.isEmpty then s else State.drainQueue n s.beginRecord.queueLost

/-- EVL before CD_CORE goes off in STANDBY: it makes the writes that wait and closes its entries; `persisted` says that it could persist
every pending SAFETY record within the 40 ms; what is lost counts in AON (R600). -/
def State.evlStandby (s : State) (persisted : Bool) : State :=
  let s := s.forL s.evl.coal fun c s => s.closeCoal c.uid
  let s := (s.drainQueue (s.evl.queue.length + s.evl.backs.length + 16)).doIf persisted fun s => s.drainPages 32
  let lost := ((s.evl.ring.map (·.2)).filter s.slotPending).map (·.occ.cls)
  s.evlSet fun e => { e with
    aonLost := (List.range 4).map fun c => min 65535 (e.aonLost.getD c 0 + (lost.filter fun x => x == c).length) }

/-- STANDBY (R547, R600): the outputs fall without a latch, every domain but AON is switched off, every enable lowered. -/
def execStandby (held persisted : Bool) (s : State) : Out :=
  .next (s.pmuCmd held 3 fun s =>
    if s.inWatch = false ∨ s.cfg Img.POWER_STANDBY_EN 0 = 0 then s.cmdRefuse 3
    else
      let s := s.setFs [(R.SIO_SAFECTL_ON_A, 0), (R.SIO_SAFECTL_ON_B, 0), (R.SIO_SAFECTL_ARM_A, 0), (R.SIO_SAFECTL_ARM_B, 0)]
      let s := s.tltRefresh.evlStandby persisted
      let s := s.coreReset
      let s := (s.forL [6, 5, 4, 3, 2, 1] fun d s => s.domOff d).showPlls
      s.beginLower 4 false (List.range 8))

/-! ### Wake (R548, R553, R554, R558) -/

/-- The start has failed, and waits for the next POR or wake source (R534). -/
def State.startFailed (s : State) : Bool :=
  s.devState == 0 && !s.pmu.held && s.on Dom.core == false && decide (3 ≤ s.pmu.retries) && !s.armed .startRetry

/-- A wake source fires: in STANDBY, and after a start that has failed for the last time (R534), it starts the device; during the entry into
STANDBY it is kept until the entry is complete. -/
def State.wake (s : State) (bit : Nat) : State :=
  if s.bitF R.PMU_WAKE_EN bit = false then s
  else if s.pmu.trans.isNone ∧ (s.devState = 3 ∨ s.startFailed) then s.beginWake (2 ^ bit)
  else match s.pmu.trans with
    | some t => if t.kind = 4 then s.pmuSet fun p => { p with wakeSrc := p.wakeSrc ||| 2 ^ bit } else s
    | none => s

/-- WAKE_ALARM: the real-time counter has reached PMU_ALARM. -/
def execWakeAlarm (s : State) : Out :=
  .next (if s.alarmPast then s.wake 0 else s)

/-- WAKE_PIN: WAKE0_N or WAKE1_N held low for 1 ms. -/
def execWakePin (pin : Fin 2) (s : State) : Out := .next (s.wake (1 + pin.val))

/-! ### Single domains -/

/-- AD_UPD follows PMU_DOMREQ.UPD in WORK (R546). -/
def State.updFollow (s : State) : State :=
  let b := s.isSet R.PMU_DOMREQ_UPD && s.inWork && s.on Dom.adCtl
  let s := if b ∧ s.on Dom.adUpd = false then s.clearRegs 0x80140000 0x10000 else s
  (s.setBitF R.PMU_DOMST_ON Dom.adUpd b).setF R.PMU_STATE_LEARN (if b then 1 else 0)

/-- UPD_REQUEST: a write of PMU_DOMREQ.UPD. -/
def execUpdRequest (upd : Bool) (s : State) : Out :=
  .next (s.access Dom.aon fun s => (s.setF R.PMU_DOMREQ_UPD (if upd then 1 else 0)).updFollow)

/-- The domains that PMU_DOMRST may name (R550). -/
def domRstOk : Nat := 2 ^ 2 + 2 ^ 3 + 2 ^ 4 + 2 ^ 10 + (2 ^ 27 - 2 ^ 11)

/-- A DOMAIN reset of a tile: at once when the tile rests; otherwise the dispatcher stops it first, as for a handoff, within 12 µs (R93, R550). -/
def State.tileReset (s : State) (t : Nat) : State :=
  if s.resting t then s.freshTile t else (s.pmuSet fun p => { p with domRst := t :: p.domRst.filter fun u => u != t }).cutOn t 0

/-- At the end of a cycle the tiles that have stopped for a DOMAIN reset get it. -/
def State.tilesReset (s : State) : State :=
  let l := s.pmu.domRst
  if l.isEmpty then s
  else
    (s.pmuSet fun p => { p with domRst := p.domRst.filter fun t => s.on (Dom.tile t) && !s.resting t }).forL
      (l.filter fun t => s.on (Dom.tile t) && s.resting t) fun t s => s.freshTile t

/-- DOMAIN_RESET: a write of PMU_DOMRST; a domain that is off is left alone (R550). The values that the image gave a CD block come back with
its power (log entry 89). -/
def execDomainReset (mask : Nat) (s : State) : Out :=
  .next (s.access Dom.aon fun s =>
    let m := mask % 2 ^ 27
    if m &&& domRstOk ≠ m then s.cmdRefuse 0
    else
      let s := s.forL [2, 3, 4] fun d s => if m.testBit d ∧ s.on d then (s.domOff d).domOn d else s
      let s := if m.testBit 2 ∧ s.on Dom.flint then s.blkBelief else s
      let s := if m.testBit 3 ∧ s.on Dom.ingress then s.blkCams else s
      let s := if m.testBit 4 ∧ s.on Dom.net then s.blkNet else s
      let s := if m.testBit 10 ∧ s.on Dom.adUpd then s.clearRegs 0x80140000 0x10000 else s
      s.forN 16 fun t s => if m.testBit (11 + t) ∧ s.on (Dom.tile t) then s.tileReset t else s)

end Sys2Proof.Machine
end

