-- ==== Sys2Proof/Machine/Apply.lean ====
section
/-! DEFINITION. The apply of an image (R58 to R62, R71 to R73, R87, R95, R257 to R259, R288, R311, R539): its steps, their deadlines, how
it fails, and what the dispatcher is sent. -/

namespace Sys2Proof.Machine

def State.setApply (s : State) (a : Option Apply) : State := { s with cil := { s.cil with apply := a } }

/-! ### The AD's part: blobs and plan data -/

/-- The present tenants of the applied image, ascending. -/
def State.tenantsIn (s : State) : List Nat := (List.range 16).filter s.tenantPresent

/-- The blob of a hash. -/
def State.blobOf (s : State) (h : Nat) : Option Blob := s.blobs.find? fun b => b.hash == h

/-- The model blob of a tenant. -/
def State.modelBlob (s : State) (n : Nat) : Option Blob := s.blobOf (s.cfg Img.MODELS_BLOB (s.cfg Img.TENANTS_MODEL n))

/-- The hashes of the blobs that the image names: the models, and the known-answer set (R44 step 12, R58 step 6). -/
def State.namedBlobs (s : State) : List Nat :=
  ((List.range 32).filter fun m => s.cfgPresent Img.MODELS_BLOB m).map (fun m => s.cfg Img.MODELS_BLOB m)
    ++ (if s.cfgPresent Img.ASSAY_KAT_BLOB 0 then [s.cfg Img.ASSAY_KAT_BLOB 0] else [])

/-- A named blob is there and its payload has its hash. -/
def State.blobGood (s : State) (h : Nat) : Bool :=
  match s.blobOf h with
  | some b => decide (leNat (sha256 (s.flashBytes b.at_ b.len)) = h)
  | none => false

/-- What AD memory holds after step 6: for every present tenant its model's hash and the address at which R76 puts it. -/
def State.loadTargets (s : State) : List (Nat × Nat) :=
  s.tenantsIn.filterMap fun n =>
    (placeIn (s.imgRegionsOf n) (s.packageAt n)).map fun q => (s.cfg Img.MODELS_BLOB (s.cfg Img.TENANTS_MODEL n), q.2)

/-- Step 6 begins its work: every named blob that is not resident is hashed (R58, R61), and the models that AD memory does not hold
where they belong are written there. The known-answer set, and a model that no present tenant names, have no place in AD memory
(log entry 100). -/
def State.startLoads (s : State) (a : Apply) : State :=
  if s.namedBlobs.any fun h => !(s.cil.resident.any fun r => r.1 == h) && !s.blobGood h then s.setApply (some { a with bad := true })
  else
    let l := (s.loadTargets.filter fun t => !s.cil.resident.contains t).filterMap fun t => (s.blobOf t.1).map fun b => (t.2, b.at_, b.len)
    State.loadPump 16 { s with cil := { s.cil with loads := l } }

/-- The models are all written: nothing waits and no write of one is outstanding. -/
def State.loadsDone (s : State) : Bool := s.cil.loads.isEmpty && !(s.sil.reqs.any fun r => r.user == .load)

/-- One record of the plan data (R258). -/
def planRec (kind : Nat) (body : List Byte) : List Byte := leBytes 1 kind ++ [0#8] ++ leBytes 2 body.length ++ body

/-- The shelf allotment in ascending order of tenants (R259). -/
def State.shelfRows (s : State) : Nat → List Nat → List Byte
  | _, [] => []
  | first, n :: l =>
    let u := match s.modelBlob n with | some b => fieldAt (s.flashBytes (b.at_ + 8) 2) 0 2 | none => 0
    (if u = 0 then [] else leBytes 1 n ++ [0#8] ++ leBytes 2 first ++ leBytes 2 u ++ [0#8, 0#8]) ++ s.shelfRows (first + u) l

/-- The chunk IDs of a tenant's STREAK.CHUNKS. -/
def State.imgChunks (s : State) (n : Nat) : List Nat :=
  if s.cfgPresent Img.STREAK_CHUNKS n then u16s (octets 513 (s.cfg Img.STREAK_CHUNKS n)) else []

/-- The plan data before END (R258, R288). -/
def State.planBody (s : State) : List Byte :=
  let ts := s.tenantsIn
  let major := s.cfg Img.SLOTS_MAJOR_MS 0
  let streak := (ts.filter fun n => s.cfg Img.TENANTS_CLASS n == 0).flatMap fun n =>
    let l := s.imgChunks n
    leBytes 1 n ++ [0#8] ++ leBytes 2 l.length ++ l.flatMap (leBytes 2)
  planRec 1 (ts.flatMap fun n => leBytes 1 n ++ leBytes 1 (s.cfg Img.TENANTS_CLASS n) ++ leBytes 1 (s.cfg Img.TENANTS_CAMERAS n)
      ++ leBytes 1 (s.cfg Img.TENANTS_BORROWER n) ++ leBytes 1 (s.cfg Img.TENANTS_QUEUES n) ++ leBytes 1 (s.cfg Img.TENANTS_MODEL n)
      ++ leBytes 2 (s.imgSpace n / mib))
    ++ planRec 2 (s.imgRegions.flatMap fun r => leBytes 1 r.idx ++ leBytes 1 r.owner ++ leBytes 1 (if r.ecc then 1 else 0)
      ++ leBytes 1 (if r.ro then 1 else 0) ++ leBytes 2 r.base ++ leBytes 2 r.size)
    ++ planRec 3 (ts.flatMap fun n => leBytes 1 n ++ [0#8] ++ leBytes 2 (s.cfg Img.BANDWIDTH_RATE n)
      ++ leBytes 2 (s.cfg Img.BANDWIDTH_BURST_KIB n) ++ [0#8, 0#8])
    ++ planRec 4 (leBytes 1 major ++ leBytes 1 (s.cfg Img.SLOTS_LEND 0) ++ [0#8, 0#8] ++ leBytes 4 (s.cfg Img.SLOTS_SWAPTO_US 0)
      ++ (List.range (4 * major)).flatMap fun j => leBytes 16 (s.cfg Img.SLOTS_PLAN j))
    ++ planRec 5 (padTo ((streak.length + 3) / 4 * 4) streak)
    ++ planRec 6 (s.shelfRows 0 ts)
    ++ planRec 7 (ts.flatMap fun n => leBytes 1 n ++ leBytes 1 (s.cfg Img.TENANTS_MODEL n) ++ [0#8, 0#8]
      ++ leBytes 4 (s.cfg Img.MODELS_SIZE (s.cfg Img.TENANTS_MODEL n)) ++ leBytes 8 (s.packageAt n))

/-- The whole plan data, ended by END. -/
def State.planData (s : State) : List Byte := let b := s.planBody; b ++ planRec 0xFF (leBytes 4 (crc32c b))

/-- Send plan data from an offset on, in CONFIG messages of up to 2,040 bytes (R257). -/
def State.sendPlan : Nat → Nat → Nat → List Byte → State → State
  | 0, _, _, _, s => s
  | n + 1, off, total, l, s =>
    let s := s.sendAd (configMsg 0xFFFF off total (l.take 2040))
    if l.length ≤ 2040 then s else State.sendPlan n (off + 2040) total (l.drop 2040) s

/-- Step 7 of an apply restores every present tenant's lending permission (R94) and clears the record of parked borrowers
(R578). -/
def State.restoreLending (s : State) : State :=
  let s := s.forL s.tenantsIn fun n s => s.setF (R.TEN_STATE_LEND_OK n) 1
  { s with thm := { s.thm with parked := [] } }.setF R.THM_ACT_PARK 0

/-- The dispatcher has accepted the plan: the present tenants go LOADING, major frame 0 starts now (R87, R95), and the first
canary round only writes (R100). A tenant whose lending permission is withdrawn stays without it (R94): the dispatcher, which has
forgotten it, is told. -/
def State.planAccepted (s : State) : State :=
  let s := s.forL s.tenantsIn fun n s =>
    let s := ((s.setTenant n tnLoading).setF (R.TEN_STATE_CLASS n) (s.cfg Img.TENANTS_CLASS n)).command n 6
    if s.isSet (R.TEN_STATE_LEND_OK n) then s else s.sendCmd n 5
  let s := { s with ten := { s.ten with nextK := 0, waiting := none, first := true, passed := none } }
  (s.disarm .canary).armAt .major s.now

/-! ### Steps -/

/-- When the present step must have finished (R58, R60, R311). -/
def Apply.deadline (a : Apply) : Nat := a.startAt + (stepDeadlineMs a.step - (if a.load then 391 else 0)) * msNs

/-- The AD's part of the apply is made: it is powered, and was when the apply began (R539). -/
def State.adPart (s : State) (a : Apply) : Bool := a.adPart && s.on Dom.adCtl

/-- The check of the image of the slot, and its settings. -/
def State.slotCheck (s : State) (k : Nat) (active : Option Nat) : Checked := s.checkImage (s.slotImage k) none active

/-- Step 2: the bits are cleared, the intake closes, the tilt goes into STO. -/
def State.step2 (s : State) : State := s.closeIntake.tltRefresh

/-- Step 5 begins: the settings of the image hold from now on; the power manager takes POWER; the CD enables that are not up
yet are raised, and with them the remaining CD domains are switched on and the blocks written (R538). -/
def State.step5 (s : State) (k : Nat) : State :=
  let c := s.slotCheck k none
  let s := ({ s with cil := { s.cil with settings := c.settings } }).blkPower
  if s.on Dom.drive then s else s.beginRaise 1 [2, 3]

/-- Begin a step: its deadline, and what happens at its start. -/
def State.beginStep (s : State) (a : Apply) (n : Nat) : State :=
  let a := { a with step := n }
  let s := (s.setApply (some a)).armAt .applyStep a.deadline
  match n with
  | 2 => s.step2
  | 3 => if s.adPart a then s.suspendAll else s
  | 5 => s.step5 a.slot
  | 6 =>
    if s.adPart a then
      let s := s.setF R.ASY_TRUST_QUAL 2
      if s.isSet R.SIL_STATUS_READY then s.startLoads a else s
    else s
  | 7 =>
    if s.adPart a then
      let p := s.planData
      (s.setApply (some { a with acked := none })).sendPlan (p.length / 2040 + 1) 0 p.length p
    else s
  | _ => s

/-! ### Endings -/

/-- The AD's part alone, as step 3 of R311: steps 6 to 8 for the ACTIVE image (R539). Nothing is done while an apply runs, or
without an image. -/
def State.startLoad (s : State) : State :=
  match s.cil.apply, s.activeSlot with
  | none, some k =>
    if s.cil.bootDone then
      s.beginStep { slot := k, step := 6, startAt := s.now, boot := true, adPart := true, load := true } 6
    else s
  | _, _ => s

/-- The apply is over; what it has not loaded is not loaded any more. -/
def State.endApply (s : State) : State :=
  let s := ((s.setApply none).disarm .applyStep).setF R.CIL_STATUS_BUSY 0
  { s with cil := { s.cil with loads := [] } }

/-- An entry into WORK that is under way ends: what it has switched on goes off (R62). -/
def State.stopEntry (s : State) : State :=
  match s.pmu.trans with
  | some t => if t.kind = 2 then (if s.on Dom.adCtl then s.leaveRest else s.failTrans t) else s
  | none => s

/-- The no-image posture (R62): WATCH, the AD unpowered, the LED gates off, both outputs de-energised, nothing latched. -/
def State.noImage (s : State) : State :=
  let s := s.endApply.log (.plain kNOIMAGE 0xFF)
  let s := (s.setF R.CIL_STATUS_NOIMAGE 1).raise Ev.CI_NOIMAGE
  let s := { s with cil := { s.cil with settings := [], bootDone := false } }
  let s := s.setFs [(R.SIO_SAFECTL_ON_A, 0), (R.SIO_SAFECTL_ON_B, 0), (R.SIO_SAFECTL_ARM_A, 0), (R.SIO_SAFECTL_ARM_B, 0)]
  let s := s.closeIntake.tltRefresh
  if s.inWork then s.leaveWork
  else if s.inWatch then s.stopEntry
  else (((s.forL [2, 3, 4, 5] fun d s => s.domOn d).showPlls)).reach 1

/-- The apply has ended well; after a comparator test that failed the posture of R62 stays until a reset (R616). A commit's result stays as the check left it; what was left out for the AD follows when the AD has
come up meanwhile. -/
def State.applyOk (s : State) (a : Apply) : State :=
  let s := s.endApply
  let s := if a.load then s
    else (({ s with cil := { s.cil with bootDone := true } }.doIf (!s.isSet R.SYS_SELFTEST_FAILMASK) fun s =>
      s.setF R.CIL_STATUS_NOIMAGE 0).tltRefresh).flag R.CIL_INT_DONE
  if s.inWork ∧ a.adPart = false ∧ s.isSet R.SIL_STATUS_READY then s.startLoad else s

/-- The full check of the image of a slot, without step 7, and its report (R46, R49). -/
def State.bootCheck (s : State) (k : Nat) : State × Checked :=
  let c := s.slotCheck k none
  let s := (s.writeReport c.report).setFs [(R.CIL_STATUS_RESULT, if c.rejected then 3 else if c.clamped then 2 else 1),
    (R.CIL_STATUS_REASON, c.reason)]
  let s := s.doIf c.clamped fun s => s.raiseInt Ev.CI_CLAMP R.CIL_INT_CLAMP
  if c.rejected then (s.raiseInt Ev.CI_REJECT R.CIL_INT_REJECT c.reason, c) else (s, c)

/-- Apply a slot by steps 2 to 8, with no change-log entry for it (R60, R61). -/
def State.bootApply (s : State) (k : Nat) : State :=
  (s.setF R.CIL_STATUS_BUSY 1).beginStep
    { slot := k, step := 2, startAt := s.now, boot := true, adPart := s.on Dom.adCtl } 2

/-- The apply fails (R61): a commit's slot is RETIRED, a FALLBACK entry names the step, and the image still ACTIVE is applied; a
boot apply or the fallback that fails leaves no image, and so does an ACTIVE image that fails its check (R62); a failed load of the AD is a failed qualification. -/
def State.applyFails (s : State) (a : Apply) : State :=
  let s := s.endApply
  if a.load then s.qualFail
  else
    let s := s.setFlags [R.CIL_INT_APPLYFAIL, R.CIL_INT_DONE] [(R.CIL_STATUS_RESULT, 4)]
    if a.boot then s.noImage
    else
      let l := s.slotImage a.slot
      let s := s.setSlot a.slot 5
      let s := (s.log (imageBody kFALLBACK a.slot a.step l)).raise Ev.CI_FALLBACK a.step
      match s.activeSlot with
      | some k =>
        let r := s.bootCheck k
        let s := r.1.setF R.CIL_STATUS_RESULT 4
        if r.2.rejected then s.noImage else s.bootApply k
      | none => s.noImage

/-! ### What each step must have achieved -/

/-- Step 4: burn the key changes the image makes, with their log entries (R50, R51, R54, R73). -/
def State.step4 (s : State) (k : Nat) : State :=
  let c := s.slotCheck k none
  let l := s.slotImage k
  let b := s.keyBurns c.settings
  let s := match b.1 with
    | some (n, h) => (s.burnKey n h).log { imageBody kKEY_PROG k n l with safety := true }
    | none => s
  (s.forL b.2 fun n s => (s.burnRevoke n).log { imageBody kKEY_REVOKE k n l with safety := true }).showKeys

/-- Step 9: the new slot is ACTIVE, DONE is written, then the previous slot is RETIRED. -/
def State.step9 (s : State) (a : Apply) : State :=
  let l := s.slotImage a.slot
  let old := 1 - a.slot
  let s := s.setSlot a.slot 4
  let s := (s.log (imageBody kDONE a.slot 0 l)).raise Ev.CI_DONE (fieldAt l 0x10 4)
  if s.slotState old = 4 then s.setSlot old 5 else s

/-- The step's own condition for being complete, beside its work: step 8 waits for the first canary round after step 7, and fails with
it (R107). -/
def State.stepReady (s : State) (a : Apply) : Bool :=
  match a.step with
  | 3 => !s.adPart a || s.suspended
  | 5 => s.on Dom.drive && s.devState != 0
  | 6 => !s.adPart a || a.bad || (s.isSet R.SIL_STATUS_READY && s.loadsDone)
  | 7 => !s.adPart a || a.acked == some 0
  | 8 => !s.adPart a || s.ten.passed.isSome
  | _ => true

/-- The work of a step at its completion; none when it fails. -/
def State.stepWork (s : State) (a : Apply) : Option State :=
  match a.step with
  | 3 => some (if s.adPart a then s.adReset 2 else s)
  | 4 => some (s.step4 a.slot)
  | 5 => some s.writeBlocks.dropTiles
  | 6 =>
    if s.adPart a then (if a.bad then none else some { s with cil := { s.cil with resident := s.loadTargets } }) else some s
  | 7 => some (if s.adPart a then s else s.restoreLending)
  | 8 => if s.adPart a then (if s.ten.passed = some true then some (s.setF R.ASY_CTL_INTAKE 1) else none) else some s
  | 9 => some (s.step9 a)
  | _ => some s

/-- The step that follows; none after the last. -/
def Apply.next (a : Apply) : Option Nat :=
  if a.step = 9 ∨ (a.step = 8 ∧ a.boot) then none else some (a.step + 1)

/-- The burn of step 4 has got as far as `m` bytes of a hash and its copy, and has not come to its PROG (R73). -/
def State.burning (s : State) (a : Apply) (m : Nat) : State :=
  match a.step, (s.keyBurns (s.slotCheck a.slot none).settings).1 with
  | 4, some (n, h) => s.burnPart n h (min m 64)
  | _, _ => s

/-- APPLY_STEP_DONE: the step under way has finished, well (`ok`) or not; or, with `part`, the burn of step 4 has got that many bytes
on (R73). -/
def execApplyStepDone (ok : Bool) (part : Option Nat) (progs : List Prog) (s : State) : Out :=
  .next (match s.cil.apply with
    | none => s
    | some a =>
      let s := { s with progs := progs }
      let s :=
        if s.now > a.deadline then s
        else if part.isSome then s.burning a (part.getD 0)
        else if ok = false then s.applyFails a
        else if s.stepReady a = false then s
        else match s.stepWork a with
          | none => s.applyFails a
          | some s =>
            (match a.next with
            | some n => s.beginStep a n
            | none => s.applyOk a)
      { s with progs := [] })

/-- APPLY_STEP_DEADLINE: the step's deadline has passed (R61); a plan that the dispatcher has not answered by then counts on the ladder (R283). -/
def execApplyStepDeadline (progs : List Prog) (s : State) : Out :=
  .next (match s.cil.apply with
    | none => s
    | some a =>
      if s.due .applyStep ∧ a.deadline < s.now then
        let silent := decide (a.step = 7) && a.acked.isNone && s.adPart a
        { (((({ s with progs := progs } : State).doIf silent fun s => s.ladder bCil)).applyFails a) with progs := [] }
      else s)

/-! ### READY and CONFIG_ACK -/

/-- From now on THM waits for plans and for READ_IOUT (R582). -/
def State.workSince (s : State) : State := { s with thm := { s.thm with ioutAt := some s.now, missed := false } }.arm .planMiss (100 * msNs)

/-- The first READY since SB_ADRST_N was released, in time: in an entry into WORK the device is in WORK now (R542); then the CIL loads
the AD, as step 3 of R311 or as the steps of an apply under way. -/
def State.firstReady (s : State) : State :=
  let s := s.disarm .ready
  let s := match s.pmu.trans with
    | some t => if t.kind = 2 then
        let s := s.forN 16 fun n s => if s.tnState n = tnSuspended then s.setTenant n tnLoading else s
        (((s.reach 2).updFollow).arm .avs (100 * msNs)).workSince
      else s
    | none => s
  let s := s.startChange
  match s.cil.apply with
  | some a => if a.step = 6 ∧ s.adPart a then s.startLoads a else s
  | none => s.startLoad

/-- READY arrives: the AD can accept frames (R155, R209, R544, R557). After a training without an AD reset it only renews the record; a
first one that comes too late is recorded, and R544 takes its course. -/
def execReady (s : State) : Out :=
  .next (if s.isSet R.SYS_ADLOAD_DONE = false ∨ s.isSet R.MC_TRAIN_DONE = false then s
    else match s.takeCd (mgmt TT.ready 0 []) with
    | none => s
    | some (_, s) =>
      if s.isSet R.SIL_STATUS_READY then s
      else
        let s := ((s.setF R.SIL_STATUS_READY 1).flag R.SIL_INT_READY).silSet fun l => { l with readyAt := some s.now }
        match s.deadline .ready with
        | some d => if d < s.now then s else s.firstReady
        | none =>
          match s.cil.apply with
          | some a => if a.step = 6 ∧ s.adPart a ∧ s.loadsDone then s.startLoads a else s.startChange
          | none => s.startChange)

/-- READY_TIMEOUT: no READY 100 ms after SB_ADRST_N's release (one at the limit counts, R557): a failed qualification (R544). The device counts as in WORK, so that
the escalation of R311 goes on there (log entry 37). -/
def execReadyTimeout (s : State) : Out :=
  .next (if (s.deadline .ready).any fun d => decide (d < s.now) then
      let s := (s.disarm .ready).raiseInt Ev.PMU_AD_NOREADY R.PMU_INT_NOREADY
      let s := match s.pmu.trans with
        | some t => if t.kind = 2 then (((s.reach 2).updFollow).arm .avs (100 * msNs)).workSince else s
        | none => s
      s.qualFail
    else s)

/-- An answer to the plan: accepted, or refused. A refusal of a reason that R260 does not name counts as a violation of the
loader's protocol. -/
def State.planAnswered (s : State) (a : Apply) (status reason : Nat) : State :=
  if status = 0 then
    let s := s.setApply (some { a with acked := some 0 })
    (if a.load then s else s.restoreLending).planAccepted
  else
    let s := if decide (0x10 ≤ reason ∧ reason ≤ 0x15) then s else s.ladder bCil
    s.applyFails { a with acked := some reason }

/-- CONFIG_ACK: of the firmware load, of the plan, or of a clock-plan item (R203, R218, R257, R543). -/
def execConfigAck (tag : Fin 65536) (status reason : Fin 256) (s : State) : Out :=
  .next (
    match s.takeCd (mgmt TT.configAck tag.val (leBytes 1 status.val ++ leBytes 1 reason.val ++ leBytes 6 0)) with
    | none => s
    | some (q, s) =>
      let t := tag.val
      if t = 0xFFFF ∧ s.isSet R.SYS_ADLOAD_DONE = false then s.setF R.SYS_ADLOAD_DONE 1
      else if t = 0xFFFF then
        (match s.cil.apply with
        | some a => if a.step = 7 ∧ a.acked = none ∧ s.adPart a then s.planAnswered a status.val reason.val else s.silBadMsg 7 TT.configAck q
        | none => s.silBadMsg 7 TT.configAck q)
      else
        (match s.pmu.dvfs with
        | some d =>
          if d.phase = 1 ∧ d.tag = t then (if status.val = 0 then s.itemDone d else s.itemFails) else s.silBadMsg 7 TT.configAck q
        | none => s.silBadMsg 7 TT.configAck q))

/-- EVENT: an event record of the AD (R163, R610); beyond 64 within a millisecond it is dropped (R610). -/
def execEvent (body : List Byte) (s : State) : Out :=
  .next (match s.takeCd (mgmt TT.event 0 (padTo 32 body)) with
    | none => s
    | some (_, s) =>
      let l := s.window msNs s.sil.evAt
      let s := s.silSet fun k => { k with evAt := l }
      if 64 < l.length then (s.satInc R.SIL_ERR_EVDROP).raise Ev.SIL_AD_EVT_DROP else s.adEvent (padTo 32 body))

end Sys2Proof.Machine
end

