-- ==== Sys2Proof/Machine/Cores.lean ====
section
/-! DEFINITION. The companion cores and SYS's core side (R376 to R414): lockstep faults, interrupts, hand-over and join,
watchdogs, scrubbing, OTP reads and the debug module. -/

namespace Sys2Proof.Machine

/-! ### Lockstep (R379 to R386) -/

/-- The pair, or C0 and C1, execute. -/
def State.coresRun (s : State) : Bool := s.on Dom.core && s.cpu.running && !s.cpu.stopped

/-- The comparator works: the pair executes in lockstep. -/
def State.lockstep (s : State) : Bool := s.coresRun && decide (s.getF R.SYS_CORE_STATE = 0)

/-- A mismatch of a group: the pair stops, LCK_MISMATCH trips, and a CORE reset follows 10 µs later; a third within 60 minutes
holds the pair until POR instead (R381, R382). -/
def State.mismatch (s : State) (group addr : Nat) : State :=
  let l := s.window (3600 * secNs) s.cpu.mismAt
  let s := s.cpuSet fun c => { c with stopped := true, mismAt := l, cause := 9 }
  let s := s.setFs [(R.SYS_LCKSTAT_GROUP, group), (R.SYS_LCKADDR_ADDR, addr)]
  let s := (s.assertTrip Src.lckMismatch true).raise Ev.SYS_LCK_MISMATCH group addr
  if 3 ≤ l.length then ((s.setF R.SYS_LCKSTAT_HOLD 1).raise Ev.SYS_LCK_HOLD l.length).disarm .wdtReset
  else s.arm .wdtReset (10 * usNs)

/-- LOCKSTEP_MISMATCH: an output of a group differs; `addr` is C0's address output. The held access is dropped (R380, R405). -/
def execLockstepMismatch (group : Fin 3) (addr : Word) (s : State) : Out :=
  .next (if s.lockstep then s.mismatch group.val addr.toNat else s)

/-- AGREEMENT_FAULT: the synchronisers of an agreed input disagree for 8 cycles (R385). -/
def execAgreementFault (addr : Word) (s : State) : Out :=
  .next (if s.lockstep then (s.raise Ev.SYS_AGREE_FAULT).mismatch 3 addr.toNat else s)

/-- The level of an interrupt line of a core: 0 software, 1 timer, 2 external (R394, R602). -/
def State.irqLevel (s : State) (core line : Nat) : Bool :=
  match line with
  | 0 => s.bitF R.SYS_MSIP_MSIP core
  | 1 => decide (s.getF (R.SYS_MTIMECMP_W (2 * core)) + 2 ^ 32 * s.getF (R.SYS_MTIMECMP_W (2 * core + 1)) ≤ s.mtime % 2 ^ 64)
  | _ => s.irqExt core

/-- Change one core. -/
def State.setCore (s : State) (n : Nat) (f : CoreSt → CoreSt) : State :=
  s.cpuSet fun c => if n = 0 then { c with c0 := f c.c0 } else { c with c1 := f c.c1 }

/-- INTERRUPT_INPUT: a line has its level long enough for the cores to take it: both in lockstep, where the lines of C1 have no
effect, one in split mode (R384, R386, R394). -/
def execInterruptInput (core : Fin 2) (line : Fin 3) (s : State) : Out :=
  .next (if s.coresRun = false then s
    else
      let split := s.getF R.SYS_CORE_STATE ≠ 0
      let put (b : Bool) (c : CoreSt) : CoreSt := { c with irq := withBit c.irq line.val b }
      if split then s.setCore core.val (put (s.irqLevel core.val line.val))
      else if core.val = 0 then
        let b := s.irqLevel 0 line.val
        (s.setCore 0 (put b)).setCore 1 (put b)
      else s)

/-! ### Watchdogs (R392, R393) -/

def State.wdtMs (s : State) : Nat := s.cfg Img.CORE_WDT_MS 0

def wdtRun (n : Nat) : Fld := if n = 0 then R.SYS_WDTSTAT_RUN0 else R.SYS_WDTSTAT_RUN1

/-- Start a watchdog. -/
def State.wdtStart (s : State) (n : Nat) : State :=
  let s := s.cpuSet fun c => { c with wdt := c.wdt.set n ⟨s.now, false⟩ }
  ((s.setF (wdtRun n) 1).arm (.wdt n) (s.wdtMs * msNs)).disarm (.kick n)

/-- Stop a watchdog. -/
def State.wdtStop (s : State) (n : Nat) : State := ((s.setF (wdtRun n) 0).disarm (.wdt n)).disarm (.kick n)

/-- A watchdog expires: WDT trips, and a CORE reset follows 10 µs later. -/
def State.wdtExpire (s : State) (n : Nat) : State :=
  let s := ((s.wdtStop n).assertTrip Src.wdt true).raise Ev.SYS_WDT n
  if s.armed .wdtReset then s else (s.cpuSet fun c => { c with cause := 7 + n }).arm .wdtReset (10 * usNs)

/-- WATCHDOG_KICK: a write of SYS_WDTn.KEY (R392, R393). The time since the last kick counts from the start for the first. -/
def execWatchdogKick (n : Fin 2) (value : Fin 65536) (s : State) : Out :=
  .next (s.access Dom.core fun s =>
    let k := n.val
    let w := s.cpu.wdt.getD k ⟨0, false⟩
    if s.isSet (wdtRun k) = false then s
    else if w.half = false then
      (if value.val = 0x5A5A then
        (s.cpuSet fun c => { c with wdt := c.wdt.set k { w with half := true } }).arm (.kick k) (100 * usNs)
      else s.wdtExpire k)
    else if value.val ≠ 0xA5A5 then s.wdtExpire k
    else if s.due (.kick k) ∧ s.deadline (.kick k) ≠ some s.now then s.wdtExpire k
    else if s.due (.wdt k) then s.wdtExpire k
    else if s.now - w.since < s.wdtMs * msNs / 4 then s.wdtExpire k
    else s.wdtStart k)

/-- WATCHDOG_EXPIRY: CORE.WDT_MS have passed since the last kick or the start. -/
def execWatchdogExpiry (n : Fin 2) (s : State) : Out :=
  .next (if s.due (.wdt n.val) then s.wdtExpire n.val else s)

/-- KICK_HALF_TIMEOUT: 100 µs since a first half. -/
def execKickHalfTimeout (n : Fin 2) (s : State) : Out :=
  .next (if s.due (.kick n.val) then s.wdtExpire n.val else s)

/-! ### Hand-over and join (R388 to R391) -/

/-- A CSR that holds a PMP entry. -/
def isPmp (n : Nat) : Bool := decide (0x3A0 ≤ n ∧ n ≤ 0x3EF)

/-- A core at the start of a split or after a join: its registers at reset but for a copy of C0's PMP entries. -/
def State.freshCore (s : State) (pc : Nat) : CoreSt := { CoreSt.init with regs := s.cpu.c0.regs.filter fun p => isPmp p.1, pc := pc }

/-- C1 as it starts in a split: mhartid is 1 (R373, R387). -/
def State.startC1 (s : State) (pc : Nat) : State :=
  (s.cpuSet fun c => { c with c1 := { s.freshCore pc with regs := Sparse.put (s.freshCore pc).regs 0xF14 1 } }).wdtStart 1

/-- A word address in SRAM. -/
def sramWord (a : Nat) : Bool := decide (a % 4 = 0 ∧ 0x10000000 ≤ a ∧ a ≤ 0x1007FFFC)

/-- SPLIT: SYS_CORECMD.SPLIT (R388). Cores that a mismatch has stopped write nothing: the write was dropped (R405). -/
def execSplit (s : State) : Out :=
  .next (s.access Dom.core fun s =>
    if s.coresRun = false then s
    else if s.cfg Img.CORE_HANDOVER 0 = 0 ∨ s.isSet R.SYS_DBG_ACTIVE ∨ sramWord (s.getF R.SYS_C1PC_ADDR) = false ∨ s.lockstep = false then
      s.flag R.SYS_CINT_REFUSED
    else
      let s := s.forL sessionKeys fun b s => s.closeKey b
      let s := (s.setFlags [R.SYS_CINT_SPLIT] [(R.SYS_CORE_STATE, 2), (R.SYS_CORE_JOIN_WAIT, 0)]).startC1 (s.getF R.SYS_C1PC_ADDR)
      ((s.wrapInc R.SYS_SPLITCNT_SPLITS).arm .split (s.getF R.SYS_SPLITLIM_SPLIT_MS * msNs)).raise Ev.SYS_SPLIT)

/-- Both cores have written JOIN: the pair is in lockstep again (R389). -/
def State.joinPair (s : State) : State :=
  let a := s.getF R.SYS_JOINPC_ADDR
  let c := s.freshCore (if sramWord a then a else 0x10000000)
  let s := s.cpuSet fun u => { u with c0 := { c with irq := u.c0.irq }, c1 := { c with irq := u.c0.irq } }
  let s := (s.setFlags [R.SYS_CINT_JOINED] [(R.SYS_CORE_STATE, 0), (R.SYS_CORE_JOIN_WAIT, 0), (R.SYS_CORE_JOIN_CORE, 0)]).disarm .split
  let s := s.cpuSet fun u => { u with joinDue := false }
  (s.wdtStop 1).raise Ev.SYS_JOIN

/-- The split timer ran out before this cycle; one that runs out in it leaves a join its place (R406). -/
def State.splitOver (s : State) : Bool := s.due .split && decide (s.deadline .split ≠ some s.now)

/-- JOIN: a core writes SYS_CORECMD.JOIN. Outside a hand-over there is no split to end; while C0 is halted at its JOIN write, the pair
joins when it is resumed (R389, R409). -/
def execJoin (core : Fin 2) (s : State) : Out :=
  .next (s.access Dom.core fun s =>
    if s.getF R.SYS_CORE_STATE ≠ 2 ∨ s.splitOver then s
    else if s.isSet R.SYS_CORE_JOIN_WAIT = false then s.setFs [(R.SYS_CORE_JOIN_WAIT, 1), (R.SYS_CORE_JOIN_CORE, core.val)]
    else if s.getF R.SYS_CORE_JOIN_CORE = core.val then s
    else if s.isSet R.SYS_DBG_HALTED then s.cpuSet fun u => { u with joinDue := true }
    else s.joinPair)

/-- SPLIT_TIMEOUT: the split timer has run out, and the cycle in which a join still wins has passed (R390, R406). -/
def execSplitTimeout (s : State) : Out :=
  .next (if s.splitOver then ((s.disarm .split).raise Ev.SYS_SPLIT_TO).coreResetBy 10 else s)

/-! ### Time, scrubbing and OTP (R394 to R399) -/

/-- SYS_MTIME_LO: a read latches the upper half. -/
def execSysMtimeLo (s : State) : Out :=
  .next (if s.on Dom.core then (s.setF R.SYS_MTIME_HI_HI (s.mtime / 2 ^ 32)).answer (.data (BitVec.ofNat 32 s.mtime))
    else s.answer .busError)

/-- A single-bit error found in SRAM: corrected and counted (R395). -/
def State.sramCe (s : State) (addr : Nat) : State := (s.satInc R.SYS_SRAMECC_CE).raiseInt Ev.SYS_SRAM_CE R.SYS_CINT_SRAM_CE addr

/-- An uncorrectable error found in SRAM. -/
def State.sramUe (s : State) (addr : Nat) : State :=
  ((s.satInc R.SYS_SRAMECC_UE).setF R.SYS_SRAMERR_ADDR addr).raiseInt Ev.SYS_SRAM_UE R.SYS_CINT_SRAM_UE addr

/-- SCRUB_READ: the scrubber reads its next word; `found`: 0 no error, 1 a single-bit error, 2 an uncorrectable one. The latter
raises its event and changes nothing else (R396). -/
def execScrubRead (found : Fin 3) (s : State) : Out :=
  .next (if s.on Dom.core = false ∨ s.isSet R.SYS_SCRUB_EN = false ∨ s.dueOrNew .scrubber = false then s
    else
      let a := 0x10000000 + 4 * s.cpu.scrub
      let s := s.rearm .scrubber (s.getF R.SYS_SCRUB_PERIOD_US * usNs)
      let s := s.cpuSet fun c => { c with scrub := (c.scrub + 1) % 131072 }
      match found.val with
      | 0 => s
      | 1 => s.sramCe a
      | _ => s.raise Ev.SYS_SRAM_UE a)

/-- OTP_READ: a write of SYS_OTPADDR (R399). -/
def execOtpRead (offset : Fin 8192) (s : State) : Out :=
  .next (s.access Dom.core fun s =>
    if s.isSet R.SYS_OTPST_BUSY then s.flag R.SYS_CINT_REFUSED
    else
      let s := s.setFs [(R.SYS_OTPADDR_WORD, offset.val / 4), (R.SYS_OTPST_BUSY, 1)]
      s.cpuSet fun c => { c with otpBusy := some (offset.val / 4 * 4) })

/-- What a byte of OTP is returned as, and whether it differs from its counterpart: a byte of a copy as the original's byte, a byte
of no field as 0. -/
def State.otpOut (s : State) (o : Nat) : Byte × Bool :=
  let raw := fun (a : Nat) => Sparse.get 0 s.otp a
  match otpPairs.find? fun p => decide (p.1 ≤ o ∧ o < p.1 + p.2.2) || decide (p.2.1 ≤ o ∧ o < p.2.1 + p.2.2) with
  | some p =>
    let i := if p.1 ≤ o ∧ o < p.1 + p.2.2 then o - p.1 else o - p.2.1
    (raw (p.1 + i), raw (p.1 + i) != raw (p.2.1 + i))
  | none => if o < 16 ∨ o = 0xA0 ∨ o = 0xA1 ∨ o = 0x100 ∨ o = 0x101 ∨ o = 0x110 then (raw o, false) else (0, false)

/-- OTP_READ_DONE: the word is in SYS_OTPDATA. -/
def execOtpReadDone (s : State) : Out :=
  .next (match s.cpu.otpBusy with
    | none => s
    | some o =>
      let b := (List.range 4).map fun i => s.otpOut (o + i)
      let s := s.setFs [(R.SYS_OTPDATA_DATA, leNat (b.map (·.1))), (R.SYS_OTPST_BUSY, 0),
        (R.SYS_OTPST_DISAGREE, if b.any (·.2) then 1 else 0)]
      s.cpuSet fun c => { c with otpBusy := none })

/-! ### The TAP and the debug module (R400 to R404, R413) -/

def State.dbgSet (s : State) (f : DbgState → DbgState) : State := s.cpuSet fun c => { c with dbg := f c.dbg }

/-- Select a TAP instruction and answer its data register. -/
def State.tap (s : State) (ir : Nat) (w : Word) : State := (s.dbgSet fun d => { d with ir := ir }).answer (.data w)

/-- IDCODE. -/
def execIdcode (s : State) : Out := .next (s.tap 0x01 0x01640001#32)

/-- DTMCS: version 1 of the transport, 7 address bits, no error. -/
def execDtmcs (s : State) : Out := .next (s.tap 0x10 0x00000071#32)

/-- dmstatus: the selected hart halted, running or not existing (R401, R413); version 2, authenticated. -/
def State.dmstatus (s : State) : Nat :=
  let h := s.isSet R.SYS_DBG_HALTED
  2 + 2 ^ 7 + (if s.cpu.dbg.absent then 3 * 2 ^ 14 else if h then 3 * 2 ^ 8 else 3 * 2 ^ 10)

/-- What a read of a debug module register returns: data0, dmcontrol, dmstatus, abstractcs, the program buffer, and the system bus's
sbcs (32-bit accesses), sbaddress0 and sbdata0. -/
def State.dmiRead (s : State) (a : Nat) : Nat :=
  let d := s.cpu.dbg
  if a = 0x04 then d.data0
  else if a = 0x10 then s.getF R.SYS_DBG_ACTIVE
  else if a = 0x11 then s.dmstatus
  else if a = 0x16 then 8 * 2 ^ 24 + d.cmderr * 2 ^ 8 + 1
  else if a = 0x38 then 2 ^ 29 + 2 * 2 ^ 17 + d.sberror * 2 ^ 12 + 32 * 2 ^ 5 + 2 ^ 2
  else if a = 0x39 then d.sbaddr
  else if a = 0x3C then d.sbdata
  else if 0x20 ≤ a ∧ a < 0x28 then d.progbuf.getD (a - 0x20) 0
  else 0

/-- DMI: an operation through the interface register, `op` 1 read, 2 write. A write puts data0 or clears cmderr in abstractcs or
sberror in sbcs by writing ones; the other writes are the debug module's own rows. -/
def execDmi (op : Fin 4) (addr : Fin 128) (data : Word) (s : State) : Out :=
  .next (
    let a := addr.val
    let w := data.toNat
    let s := s.tap 0x11 (BitVec.ofNat 32 (if op.val = 1 ∧ s.on Dom.core then s.dmiRead a else 0))
    if op.val ≠ 2 ∨ s.on Dom.core = false ∨ s.isSet R.SYS_DBG_ACTIVE = false then s
    else s.dbgSet fun d =>
      if a = 0x04 then { d with data0 := w }
      else if a = 0x16 then { d with cmderr := d.cmderr ^^^ (d.cmderr &&& w / 2 ^ 8 % 8) }
      else if a = 0x38 then { d with sberror := d.sberror ^^^ (d.sberror &&& w / 2 ^ 12 % 8) }
      else d)

/-- BYPASS: code 0x1F and every code without an instruction; its register captures 0. -/
def execBypass (code : Fin 32) (s : State) : Out :=
  .next (if code.val = 0x01 ∨ code.val = 0x10 ∨ code.val = 0x11 then s else s.tap 0x1F 0#32)

/-- The debug module works: dmactive is 1. -/
def State.dbgOn (s : State) : Bool := s.on Dom.core && s.isSet R.SYS_DBG_ACTIVE

/-- DMACTIVE_WRITE (R401, R413). With dmactive 0 the module is at its reset values. -/
def execDmactiveWrite (v : Bool) (s : State) : Out :=
  .next (if s.on Dom.core = false then s
    else if v = false then
      (s.setFs [(R.SYS_DBG_ACTIVE, 0), (R.SYS_DBG_HALTED, 0)]).dbgSet fun d => { DbgState.init with ir := d.ir }
    else if s.isSet R.SYS_DBG_ACTIVE then s
    else if s.jtagLock ∧ s.sessionOpen = false then s.raise Ev.SYS_DEBUG_REFUSED
    else (s.setF R.SYS_DBG_ACTIVE 1).raiseInt Ev.SYS_DEBUG R.SYS_CINT_DEBUG)

/-- Select a hart; any other than 0 does not exist. -/
def State.dbgHart (s : State) (hart : Nat) : State := s.dbgSet fun d => { d with absent := decide (hart ≠ 0) }

/-- HALT_REQUEST: halts C0, and C1 with it in lockstep (R402, R404). -/
def execHaltRequest (hart : Nat) (s : State) : Out :=
  .next (if s.dbgOn = false then s
    else
      let s := s.dbgHart hart
      if hart = 0 ∧ s.coresRun then s.setF R.SYS_DBG_HALTED 1 else s)

/-- Registers that a full-state copy brings into C1 (R403): the general registers, dpc, dcsr, mstatus, mie, mtvec, mscratch, mepc,
mcause, mtval, every pmpcfg and pmpaddr, mcycle, minstret and the trigger registers. -/
def fullState (n : Nat) : Bool :=
  decide (0x1000 ≤ n ∧ n ≤ 0x101F) || isPmp n || decide (0x7A0 ≤ n ∧ n ≤ 0x7A8)
    || [0x7B1, 0x7B0, 0x300, 0x304, 0x305, 0x340, 0x341, 0x342, 0x343, 0xB00, 0xB80, 0xB02, 0xB82].contains n

/-- Before the cores are released: the replay log is applied to C1, or C0's state copied when it has overflowed; in split mode
nothing is replayed. -/
def State.replay (s : State) : State :=
  let s :=
    if s.getF R.SYS_CORE_STATE ≠ 0 then s
    else if s.cpu.dbg.ovf then
      let s := s.cpuSet fun c => { c with c1 := { c.c1 with
        regs := (c.c0.regs.filter fun p => fullState p.1).foldl (fun m p => Sparse.put m p.1 p.2) (c.c1.regs.filter fun p => !fullState p.1)
        pc := c.c0.pc } }
      s.satInc R.SYS_DBG_OVF
    else
      let log := s.cpu.dbg.log
      let s := s.cpuSet fun c => { c with c1 := { c.c1 with
        regs := log.foldl (fun m p => Sparse.put m p.1 p.2) c.c1.regs
        pc := log.foldl (fun pc p => if p.1 = 0x7B1 then p.2 else pc) c.c1.pc } }
      s.doIf (!log.isEmpty) fun s => s.satInc R.SYS_DBG_REPLAYS
  s.dbgSet fun d => { d with log := [], ovf := false }

/-- RESUME_REQUEST: replay, then release (R403); C0 resumed at its JOIN write joins when C1 waits too (R409). -/
def execResumeRequest (hart : Nat) (s : State) : Out :=
  .next (if s.dbgOn = false then s
    else
      let s := s.dbgHart hart
      if hart = 0 ∧ s.isSet R.SYS_DBG_HALTED then
        let s := s.replay.setF R.SYS_DBG_HALTED 0
        if s.cpu.joinDue then s.joinPair else s
      else s)

/-- What code executed by a core does to its registers, from a word list (log entry 7). -/
def CoreSt.run (c : CoreSt) (code : List Word) : CoreSt :=
  let put := fun (m : Sparse Nat) (n : Nat) =>
    Sparse.set 0 m n (Config.coreEffect code n (BitVec.ofNat 32 (Sparse.get 0 c.regs n))).toNat
  { c with
    regs := (List.range 31).foldl (fun m i => put m (0x1001 + i)) c.regs
    pc := (Config.coreEffect code 0x7B1 (BitVec.ofNat 32 c.pc)).toNat }

/-- SINGLE_STEP: replay, one instruction on both cores, halted again; `insn` is the instruction at the pc. -/
def execSingleStep (hart : Nat) (insn : Word) (s : State) : Out :=
  .next (if s.dbgOn = false then s
    else
      let s := s.dbgHart hart
      if hart = 0 ∧ s.isSet R.SYS_DBG_HALTED then
        let s := (s.replay).setCore 0 fun c => c.run [insn]
        if s.getF R.SYS_CORE_STATE = 0 then s.setCore 1 fun c => c.run [insn] else s
      else s)

/-- A register the abstract command reaches: a CSR or a general register. -/
def dbgReg (n : Nat) : Bool := decide (n < 0x1000) || decide (0x1000 ≤ n ∧ n ≤ 0x101F)

/-- Record an abstract write for the replay; the 65th overflows the log. -/
def State.logReplay (s : State) (n v : Nat) : State :=
  if s.getF R.SYS_CORE_STATE ≠ 0 ∨ s.cpu.dbg.ovf then s
  else if s.cpu.dbg.log.length < 64 then s.dbgSet fun d => { d with log := d.log ++ [(n, v)] }
  else (s.dbgSet fun d => { d with ovf := true }).raise Ev.SYS_DBG_REPLAY_OVF

/-- ACCESS_REGISTER: the abstract command Access Register (R401, R402, R413). Writes to x0 have no effect. -/
def execAccessRegister (write : Bool) (regno : Fin 65536) (data : Word) (s : State) : Out :=
  .next (
    let n := regno.val
    if s.dbgOn = false then s
    else if s.cpu.dbg.cmderr ≠ 0 then s
    else if s.cpu.dbg.absent ∨ s.isSet R.SYS_DBG_HALTED = false then s.dbgSet fun d => { d with cmderr := 4 }
    else if dbgReg n = false then s.dbgSet fun d => { d with cmderr := 2 }
    else if write then
      let s := s.dbgSet fun d => { d with data0 := data.toNat }
      if n = 0x1000 then s
      else
        let s := s.setCore 0 fun c => { c with regs := Sparse.set 0 c.regs n data.toNat, pc := if n = 0x7B1 then data.toNat else c.pc }
        s.logReplay n data.toNat
    else
      let v := if n = 0x7B1 then s.cpu.c0.pc else Sparse.get 0 s.cpu.c0.regs n
      (s.dbgSet fun d => { d with data0 := v }).answer (.data (BitVec.ofNat 32 v)))

/-- PROGRAM_BUFFER: the eight words are written and executed by the halted cores, under comparison (R402). -/
def execProgramBuffer (words : List Word) (s : State) : Out :=
  .next (if s.dbgOn = false then s
    else
      let l := words.take 8
      let s := s.dbgSet fun d => { d with progbuf := (List.range 8).map fun i => (l.getD i 0#32).toNat }
      if s.cpu.dbg.cmderr ≠ 0 then s
      else if s.cpu.dbg.absent ∨ s.isSet R.SYS_DBG_HALTED = false then s.dbgSet fun d => { d with cmderr := 4 }
      else
        let code := s.cpu.dbg.progbuf.map (BitVec.ofNat 32)
        let s := s.setCore 0 fun c => c.run code
        if s.getF R.SYS_CORE_STATE = 0 then s.setCore 1 fun c => c.run code else s)

end Sys2Proof.Machine
end

