-- ==== Sys2Proof/Machine/Boot.lean ====
section
/-! DEFINITION. The start of the cores and the boot ROM (R55, R60 to R63, R375 to R377, R397, R526, R529, R538, R540, R552, R615,
R616). -/

namespace Sys2Proof.Machine

/-- SRAM_INIT_DONE: PG1 has risen, CPLL is locked; SRAM is filled with zeros when CD_CORE has lost power since (R397), and the cores
may leave reset. -/
def execSramInitDone (s : State) : Out :=
  .next (if s.on Dom.core = false ∨ s.isSet R.PMU_CLK_CPLL = false ∨ s.pgHigh 1 = false ∨ s.cpu.ready then s
    else
      let s := if s.pmu.sramLost then { s with sram := [] } else s
      ((s.pmuSet fun p => { p with sramLost := false }).cpuSet fun c => { c with ready := true }).setF R.STK_RNG_OK 1)

/-! ### The boot ROM's checks -/

/-- The comparator test (R615, R616, R626); `fail` is the mask of the comparators that failed it. With an output energised it
is skipped. -/
def State.selfTest (s : State) (fail : Nat) : State :=
  if s.isSet R.SIO_SAFECTL_ON_A ∨ s.isSet R.SIO_SAFECTL_ON_B then
    (s.setFs [(R.SYS_SELFTEST_RAN, 0), (R.SYS_SELFTEST_PASS, 0), (R.SYS_SELFTEST_FAILMASK, 0), (R.SYS_SELFTEST_SKIPPED, 1)]).raise
      Ev.SYS_SELFTEST_SKIP
  else
    let s := s.setFs [(R.SYS_SELFTEST_RAN, 1), (R.SYS_SELFTEST_PASS, if fail = 0 then 1 else 0), (R.SYS_SELFTEST_SKIPPED, 0),
      (R.SYS_SELFTEST_FAILMASK, fail)]
    let s := s.wrapInc R.SYS_SELFTEST_COUNT
    if fail = 0 then s else s.raise Ev.SYS_SELFTEST_FAIL fail

/-- After a POR: the failure count from the change log, and a lockout that was running (R55). -/
def State.rebuildLockout (s : State) : State :=
  let kinds := s.logEntries.map fun e => fieldAt e 4 2
  let closes := fun (k : Nat) => k == kAUTH_OK || k == kLOCK_END || k == kLOCKOUT
  let after := (kinds.reverse.takeWhile fun k => !closes k).filter fun k => k == kAUTH_FAIL
  let n := min 5 after.length
  let last := kinds.reverse.find? closes
  let s := s.setF R.LCK_AUTH_FAILS n
  if n = 5 then (s.log (.plain kLOCKOUT 0xFF)).startLockout
  else if last = some kLOCKOUT then s.startLockout
  else s

/-- Apply the image of a slot that must still be ACTIVE, or take the no-image posture (R62). -/
def State.bootSlot (s : State) (k : Option Nat) : State :=
  match k with
  | none => s.noImage
  | some k =>
    if s.slotState k ≠ 4 then s.noImage
    else
      let r := s.bootCheck k
      if r.2.rejected then r.1.noImage else r.1.bootApply k

/-- The BEGUN entry that no DONE, FALLBACK or INTERRUPTED follows, by its slot (R63). -/
def State.openBegun (s : State) : Option Nat :=
  let ends := fun (k : Nat) => k == kDONE || k == kFALLBACK || k == kINTERRUPTED
  match s.logEntries.reverse.find? fun e => ends (fieldAt e 4 2) || fieldAt e 4 2 == kBEGUN with
  | some e => if fieldAt e 4 2 = kBEGUN then some (fieldAt e 6 1) else none
  | none => none

/-- All steps again from the start, with a fresh BEGUN entry (R63); `c` is what the check found. The image before it stands in the
other slot, ACTIVE or already RETIRED. -/
def State.redoApply (s : State) (k : Nat) (c : Checked) : State :=
  let l := s.slotImage k
  let a : Apply := { slot := k, step := 1, startAt := s.now, boot := false, adPart := s.on Dom.adCtl }
  let old := if s.slotState (1 - k) = 4 ∨ s.slotState (1 - k) = 5 then some (s.slotImage (1 - k)) else none
  let w := s.logWrite
    { imageBody kBEGUN k (c.report.take 256).length l with crc := reportCrc c.report, safety := s.safetyAgainst c old }
  if w.2 then
    let s := (w.1.raise Ev.CI_BEGUN (fieldAt l 0x10 4)).setF R.CIL_STATUS_BUSY 1
    let s := if s.slotState k = 2 then s.setSlot k 3 else s
    s.beginStep a 1
  else w.1.applyFails a

/-- Resolve the slots and the change log (R63). -/
def State.resolve (s : State) : State :=
  let s := if s.slotState 0 = 4 ∧ s.slotState 1 = 4 then
      s.setSlot (if s.flashWord (slotAt 0 + 0x10) < s.flashWord (slotAt 1 + 0x10) then 0 else 1) 5
    else s
  match s.openBegun with
  | none => s.bootSlot s.activeSlot
  | some k =>
    let k := if k = 0 then 0 else 1
    let s := s.log (imageBody kINTERRUPTED k 0 (s.slotImage k))
    if s.slotState k = 3 ∨ s.slotState k = 4 then
      let r := s.bootCheck k
      if r.2.rejected then
        let l := r.1.slotImage k
        let s := r.1.setSlot k 5
        let s := (s.log { imageBody kFALLBACK k 0 l with crc := reportCrc r.2.report }).raise Ev.CI_FALLBACK 0
        s.bootSlot (some (1 - k))
      else r.1.redoApply k r.2
    else s.bootSlot s.activeSlot

/-- Read SFDP where QSPI has been reset since; `density` in KiB, none for a flash that fails the check (R526). -/
def State.readSfdp (s : State) (density : Option Nat) : State × Bool :=
  if s.isSet R.QSPI_CFG_DENSITY_KIB then (s, true)
  else match density with
    | some d =>
      if 32768 ≤ d then (s.setF R.QSPI_CFG_DENSITY_KIB (min d 524288), true) else (s.raise Ev.SYS_FLASH_BAD, false)
    | none => (s.raise Ev.SYS_FLASH_BAD, false)

/-- SYS_RSTCAUSE as a word (R552). -/
def State.resetCause (s : State) : Nat :=
  match fieldsAt R.SYS_RSTCAUSE_POR.addr with
  | some l => s.fieldWord l
  | none => 0

/-- CORES_LEAVE_RESET: in lockstep, and the boot ROM runs its tests, reads the flash, checks OTP, resolves the slots and begins the
boot apply (R376, R377, R538). `fail`: what the comparator test finds. -/
def execCoresLeaveReset (fail : Fin 16) (density : Option Nat) (progs : List Prog) (s : State) : Out :=
  .next (if s.on Dom.core = false ∨ s.cpu.ready = false ∨ s.cpu.running ∨ s.isSet R.SYS_LCKSTAT_HOLD then s
    else
      let s := { s with progs := progs }
      let s := s.cpuSet fun c => { c with running := true, bootRom := true, stopped := false, c0 := .init, c1 := .init, mtimeAt := s.now }
      let s := (s.raise Ev.SYS_RESET s.resetCause).selfTest fail.val
      let r := s.readSfdp density
      let s := r.1.otpCheck
      let s :=
        if r.2 = false then s.noImage
        else
          let s := s.logFind
          let s := (if s.pmu.fresh then s.rebuildLockout else s).showSlots
          if s.isSet R.SYS_SELFTEST_FAILMASK then s.noImage else s.resolve
      { (s.pmuSet fun p => { p with fresh := false }) with progs := [] })

/-! ### The boot loader (R529, R538 step 8, R540) -/

/-- A boot loader body is copied to LOAD and started at LOAD + ENTRY; WDT0 starts, and CORE.MODE is acted on (R377, R387, R392). -/
def State.startLoader (s : State) (c : CodeHdr) (body : List Byte) : State :=
  let s := s.sramWrite (c.load - 0x10000000) body
  let pc := c.load + c.entry
  let s := s.cpuSet fun u => { u with bootRom := false, recv := [], c0 := { u.c0 with pc := pc }, c1 := { u.c1 with pc := pc } }
  let s := s.wdtStart 0
  if s.isSet R.CIL_STATUS_NOIMAGE = false ∧ s.cfg Img.CORE_MODE 0 = 1 then
    (s.setF R.SYS_CORE_STATE 1).startC1 (s.cfg Img.CORE_C1_ENTRY 0)
  else s

/-- Record the selection of one kind of code image. -/
def State.showSelected (s : State) (slot valid : Fld) (k : Option (Nat × CodeHdr)) : State :=
  match k with
  | some p => s.setFs [(slot, p.1), (valid, 1)]
  | none => s.setFs [(slot, 0), (valid, 0)]

/-- BOOT_LOADER_START: after the boot apply, or in the no-image posture, the boot ROM selects the code images and starts the boot
loader, or enters recovery. -/
def execBootLoaderStart (s : State) : Out :=
  .next (if s.coresRun = false ∨ s.cpu.bootRom = false ∨ s.isSet R.SYS_BOOT_RECOVERY ∨ s.cil.apply.isSome
      ∨ (s.cil.bootDone = false ∧ s.isSet R.CIL_STATUS_NOIMAGE = false) then s
    else
      let ok := s.isSet R.QSPI_CFG_DENSITY_KIB
      let bl := if ok then s.selectCode true else none
      let df := if ok then s.selectCode false else none
      let s := (s.showSelected R.SYS_BOOT_BL_SLOT R.SYS_BOOT_BL_VALID bl).showSelected R.SYS_BOOT_DF_SLOT R.SYS_BOOT_DF_VALID df
      let s := if df.isNone then s.raise Ev.SYS_ADLOAD_FAIL else s
      match bl with
      | some p => s.startLoader p.2 (s.codeBody true p.1 p.2)
      | none => ((s.setF R.SYS_BOOT_RECOVERY 1).raise Ev.SYS_RECOVERY).cpuSet fun c => { c with recv := [] })

/-- A byte comes in over UART0 in recovery (R540): a whole image is checked and started; one that fails the check is dropped. -/
def State.recoveryByte (s : State) (b : Byte) : State :=
  let l := s.cpu.recv ++ [b]
  let c := codeHdr (l.take 64)
  let keep := s.cpuSet fun u => { u with recv := l }
  let drop := s.cpuSet fun u => { u with recv := [] }
  if l.length < 64 then keep
  else if codeHdrOk true (l.take 64) = false then drop
  else if l.length < 200 + c.bodyLen then keep
  else
    let body := (l.drop 64).take c.bodyLen
    if sha256 body = c.hash ∧ s.codeSigned true l c.bodyLen then s.startLoader c body else drop

end Sys2Proof.Machine
end

