-- ==== Sys2Proof/Machine/Time.lean ====
section
/-! DEFINITION. The time block (R432 to R446): bases, the selected base and its switches, time triggers. -/

namespace Sys2Proof.Machine

def State.timSet (s : State) (f : TimState → TimState) : State := { s with tim := f s.tim }

/-- A base, 2⁻³² ns. -/
def State.tbFix (s : State) (n : Nat) : Nat := s.tim.tb.getD n 0

/-- A difference of bases, or an offset, as a 64-bit two's-complement value of 2⁻³² ns. -/
def fix64 (x : Int) : Int := (BitVec.ofInt 64 x).toInt

/-- A 32-bit word as i32. -/
def i32 (w : Nat) : Int := (BitVec.ofNat 32 w).toInt

/-- a / b to the nearest, ties to even. -/
def divEven (a b : Nat) : Nat :=
  let q := a / b
  let r := 2 * (a % b)
  if r < b ∨ (r = b ∧ q % 2 = 0) then q else q + 1

/-- Give base `n` a new value; a fall of its bit 31 is a wrap (R439). -/
def State.setTb (s : State) (n : Nat) (x : Int) : State :=
  let v := (x % 2 ^ 64).toNat
  let fell := (s.tbFix n).testBit 63 && !v.testBit 63
  s.timSet fun t => { t with
    tb := t.tb.set n v
    wraps := if fell ∧ t.wraps.contains n = false then n :: t.wraps else t.wraps }

/-- Add to a base. -/
def State.addTb (s : State) (n : Nat) (x : Int) : State := s.setTb n (Int.ofNat (s.tbFix n) + x)

/-! ### A cycle of 8 ns -/

/-- The advance of TB0 or TB1 in one cycle, 2⁻³² ns (R432). -/
def State.tbAdvance (s : State) (n : Nat) : Nat := divEven (8 * 2 ^ 32 * (1000000000 + i32 (s.getF (R.TIM_TB_ADJ_PPB n))).toNat) 1000000000

/-- The correction of D in one cycle (R438): towards 0, never past it. -/
def State.slewStep (s : State) : Int :=
  let m := Int.ofNat (divEven (8 * 2 ^ 32 * s.getF R.TIM_SLEW_SLEW_PPB) 1000000000)
  if 0 ≤ s.tim.d then -(min m s.tim.d) else min m (-s.tim.d)

/-- One NPLL cycle of the bases. -/
def State.timTick (s : State) : State :=
  if s.on Dom.net = false then s
  else
    let a0 := s.tbAdvance 0
    let a1 := s.tbAdvance 1
    let c := s.slewStep
    let sel := s.getF R.TIM_STAT_SEL
    let s := ((s.addTb 0 a0).addTb 1 a1).addTb 2 (8 * 2 ^ 32)
    (s.addTb 3 (Int.ofNat (if sel = 0 then a0 else a1) + c)).timSet fun t => { t with d := t.d + c }

/-! ### The selected base (R435 to R438) -/

/-- Domain A (0) or B (1) is good (R435). -/
def State.domGood (s : State) (d : Nat) : Bool :=
  if d = 0 then s.isSet R.TIM_STAT_A_ARRIVING && s.isSet R.TIM_DOM_LOCK_A
  else s.isSet R.TIM_STAT_B_ARRIVING && s.isSet R.TIM_DOM_LOCK_B

/-- Select a base; TB3 does not step (R436). -/
def State.selectBase (s : State) (n : Nat) : State :=
  if s.getF R.TIM_STAT_SEL = n then s
  else
    let s := s.timSet fun t => { t with d := fix64 (Int.ofNat (t.tb.getD 3 0) - Int.ofNat (t.tb.getD n 0)) }
    ((s.setFs [(R.TIM_STAT_SEL, n), (R.TIM_STAT_HOLDOVER, 0)])).raiseInt Ev.TIM_SWITCH R.TIM_INT_SWITCH n

/-- TB0 and TB1 differ by at most SWITCH_NS. -/
def State.basesNear (s : State) : Bool := decide ((i32 ((s.base 0 + 2 ^ 32 - s.base 1) % 2 ^ 32)).natAbs ≤ s.getF R.TIM_SWITCH_SWITCH_NS)

/-- HOLDOVER begins. -/
def State.holdover (s : State) (e : EvId) : State := (s.setF R.TIM_STAT_HOLDOVER 1).raiseInt e R.TIM_INT_HOLDOVER

/-- The selected domain has ceased to be good: the base changes, or HOLDOVER begins (R436). -/
def State.selLost (s : State) : State :=
  let sel := s.getF R.TIM_STAT_SEL
  if s.domGood (1 - sel) then (if s.basesNear then s.selectBase (1 - sel) else s.holdover Ev.TIM_SWITCH_FAR)
  else s.holdover Ev.TIM_HOLDOVER

/-- Apply R436 after anything that may have changed whether a domain is good. -/
def State.timEval (s : State) : State :=
  let was := s.tim.good
  let a := s.domGood 0
  let b := s.domGood 1
  let sel := s.getF R.TIM_STAT_SEL
  let s := s.timSet fun t => { t with
    good := (a, b)
    lostAt := [if was.1 && !a then s.now + 1 else t.lostAt.getD 0 0, if was.2 && !b then s.now + 1 else t.lostAt.getD 1 0] }
  let s := if was.1 && !a then s.flag R.TIM_INT_LOSS_A else s
  let s := if was.2 && !b then s.flag R.TIM_INT_LOSS_B else s
  let wasSel := if sel = 0 then was.1 else was.2
  let isSel := if sel = 0 then a else b
  if isSel then s.setF R.TIM_STAT_HOLDOVER 0
  else if wasSel then s.selLost
  else s

/-- SNAP. -/
def execSnap (s : State) : Out :=
  .next (s.access Dom.net fun s => s.setFs ((List.range 4).map fun n => (R.TIM_TB_SNAP_NS n, s.base n)))

/-- TB3_ALIGN: D becomes 0 and TB3 steps by it (R438). -/
def execTb3Align (s : State) : Out :=
  .next (s.access Dom.net fun s =>
    let d := s.tim.d
    (((s.addTb 3 (-d)).timSet fun t => { t with d := 0 })).raise Ev.TIM_TB3_STEP (BitVec.ofInt 32 (d / 2 ^ 32)).toNat)

/-- A write of SEL_A or SEL_B (R436); a loss of that domain in the same cycle is evaluated after it (R446). -/
def State.selWrite (s : State) (n : Nat) : State :=
  let s := (s.selectBase n).timEval
  if s.getF R.TIM_STAT_SEL = n ∧ s.domGood n = false ∧ s.isSet R.TIM_STAT_HOLDOVER = false ∧ s.tim.lostAt.getD n 0 = s.now + 1 then s.selLost
  else s

/-- SEL_A (R436). -/
def execSelA (s : State) : Out := .next (s.access Dom.net fun s => s.selWrite 0)

/-- SEL_B (R436). -/
def execSelB (s : State) : Out := .next (s.access Dom.net fun s => s.selWrite 1)

/-- BASE_STEP: a write of TIM_TBn.STEP (R432, R437). -/
def execBaseStep (n : Fin 4) (step : Word) (s : State) : Out :=
  .next (s.access Dom.net fun s =>
    if 2 ≤ n.val then s.flag R.TIM_INT_REFUSED
    else
      let x := step.toInt * 2 ^ 32
      let s := s.addTb n.val x
      let s := if s.getF R.TIM_STAT_SEL = n.val then s.timSet fun t => { t with d := fix64 (t.d - x) } else s
      s.raise Ev.TIM_STEP n.val step.toNat)

/-- DOMAIN_LOCK_WRITE: a write of TIM_DOM (R433, R435). -/
def execDomainLockWrite (data : Word) (s : State) : Out :=
  .next (s.access Dom.net fun s => (s.storeAt R.TIM_DOM_LOCK_A.addr data.toNat R.TIM_INT_CLAMP).timEval)

/-- A Sync of domain `d` has been received (R435). -/
def State.syncSeen (s : State) (d : Nat) : State :=
  let s := s.setF (if d = 0 then R.TIM_STAT_A_ARRIVING else R.TIM_STAT_B_ARRIVING) 1
  (s.arm (.sync d) (s.getF R.TIM_DOM_SYNCTO_MS * msNs)).timEval

/-- SYNC_TIMEOUT (R435, R451). -/
def execSyncTimeout (d : Fin 2) (s : State) : Out :=
  .next (if s.due (.sync d.val) then
      let s := (s.disarm (.sync d.val)).setF (if d.val = 0 then R.TIM_STAT_A_ARRIVING else R.TIM_STAT_B_ARRIVING) 0
      (s.raise Ev.TIM_LOSS d.val).timEval
    else s)

/-- BASE_WRAP: bit 31 of base `n` has gone from 1 to 0 (R439). -/
def execBaseWrap (n : Fin 4) (s : State) : Out :=
  .next (if s.on Dom.net ∧ s.tim.wraps.contains n.val then
      (s.timSet fun t => { t with wraps := t.wraps.filter fun m => m != n.val }).flagBits R.TIM_INT_WRAP (2 ^ n.val)
    else s)

/-! ### Triggers (R440 to R442) -/

/-- i32(base − NEXT) ≥ 0. -/
def State.ttrgHolds (s : State) (k : Nat) : Bool :=
  decide (0 ≤ i32 ((s.base (s.getF (R.TIM_TTRG_CFG_BASE k)) + 2 ^ 32 - s.getF (R.TIM_TTRG_NEXT_NS k)) % 2 ^ 32))

/-- Count of firings among `n` repeated actions of a trigger, from HALF, for a long period: every action with HALF = 0. -/
def State.ttrgRepeat : Nat → Nat → State → State × Nat
  | 0, _, s => (s, 0)
  | n + 1, k, s =>
    if s.ttrgHolds k then
      let p := s.getF (R.TIM_TTRG_PERIOD_NS k)
      let half := s.isSet (R.TIM_TTRG_CFG_HALF k)
      let add := if half then p - p / 2 else p / 2
      let s := s.setFs [(R.TIM_TTRG_NEXT_NS k, s.getF (R.TIM_TTRG_NEXT_NS k) + add), (R.TIM_TTRG_CFG_HALF k, if half then 0 else 1)]
      let r := State.ttrgRepeat n k s
      (r.1, r.2 + (if half then 0 else 1))
    else (s, 0)

/-- All the actions that a trigger takes in this cycle; how many of them fire. -/
def State.ttrgActs (s : State) (k : Nat) : State × Nat :=
  let p := s.getF (R.TIM_TTRG_PERIOD_NS k)
  if p ≤ 2147483647 ∧ s.isSet (R.TIM_TTRG_CFG_HALF k) = false then
    let d := (i32 ((s.base (s.getF (R.TIM_TTRG_CFG_BASE k)) + 2 ^ 32 - s.getF (R.TIM_TTRG_NEXT_NS k)) % 2 ^ 32)).toNat
    let n := d / p + 1
    (s.setF (R.TIM_TTRG_NEXT_NS k) (s.getF (R.TIM_TTRG_NEXT_NS k) + n * p), n)
  else if p ≤ 2147483647 then
    let s := s.setFs [(R.TIM_TTRG_NEXT_NS k, s.getF (R.TIM_TTRG_NEXT_NS k) + (p - p / 2)), (R.TIM_TTRG_CFG_HALF k, 0)]
    if s.ttrgHolds k then
      let d := (i32 ((s.base (s.getF (R.TIM_TTRG_CFG_BASE k)) + 2 ^ 32 - s.getF (R.TIM_TTRG_NEXT_NS k)) % 2 ^ 32)).toNat
      let n := d / p + 1
      (s.setF (R.TIM_TTRG_NEXT_NS k) (s.getF (R.TIM_TTRG_NEXT_NS k) + n * p), n)
    else (s, 0)
  else s.ttrgRepeat 8 k

/-- What a firing does to its target (R442). -/
def State.ttrgTarget (s : State) (k : Nat) : State :=
  let t := s.getF (R.TIM_TTRG_CFG_TARGET k)
  if 2 ≤ t ∧ t ≤ 5 then
    (s.timSet fun m => { m with fsync := (t - 2) :: m.fsync.filter fun p => p != t - 2 }).arm (.fsync (t - 2)) (s.getF (R.TIM_TTRG_CFG_WIDTH_NS k))
  else if t = 6 ∧ s.on Dom.drive then s.armAt (.control 0) s.now
  else s

/-- TRIGGER_ARM: a write of TIM_TTRGk.CFG (R441, R442, R654). -/
def execTriggerArm (k : Fin 8) (data : Word) (s : State) : Out :=
  .next (s.access Dom.net fun s =>
    let t := data.toNat % 16
    if 9 < t then s.flag R.TIM_INT_REFUSED
    else if data.toNat.testBit 8 ∧ 2 ≤ t ∧ t ≤ 5 ∧ (s.cfg Img.PINS_FSYNC_EN 0).testBit (t - 2) = false then s.flag R.TIM_INT_REFUSED
    else s.storeAt (R.TIM_TTRG_CFG_TARGET k.val).addr data.toNat R.TIM_INT_CLAMP)

/-- FSYNC_PULSE_END. -/
def execFsyncPulseEnd (pin : Fin 4) (s : State) : Out :=
  .next (if s.due (.fsync pin.val) then
      (s.disarm (.fsync pin.val)).timSet fun t => { t with fsync := t.fsync.filter fun p => p != pin.val }
    else s)

end Sys2Proof.Machine
end

