-- ==== Sys2Proof/Machine/Net.lean ====
section
/-! DEFINITION. The switch (R415 to R431, R447 to R452): line ports, forwarding, rings, stamps, the transparent clock, MDIO. -/

namespace Sys2Proof.Machine

def State.netSet (s : State) (f : NetState → NetState) : State := { s with net := f s.net }

/-- A line port has link. -/
def State.linkUp (s : State) (p : Nat) : Bool := s.on Dom.net && s.isSet (R.NET_PORT_ST_LINK p)

/-! ### Frames (Ethernet, IPv4 and IEEE 1588 formats: log entry 40) -/

/-- A big-endian field of a frame (R2). -/
def beAt (l : List Byte) (o n : Nat) : Nat := beNat ((l.drop o).take n)

/-- Replace bytes of a frame. -/
def overlay (l : List Byte) (o : Nat) (v : List Byte) : List Byte := l.take o ++ v ++ l.drop (o + v.length)

/-- The frame carries a VLAN tag. -/
def tagged (l : List Byte) : Bool := beAt l 12 2 == 0x8100

/-- Where the EtherType stands, behind any tag. -/
def typeAt (l : List Byte) : Nat := if tagged l then 16 else 12

def etherType (l : List Byte) : Nat := beAt l (typeAt l) 2

/-- The payload's offset. -/
def payAt (l : List Byte) : Nat := typeAt l + 2

def tagVid (l : List Byte) : Nat := beAt l 14 2 % 4096
def tagPcp (l : List Byte) : Nat := beAt l 14 2 / 8192

/-- Broadcast or multicast. -/
def groupAddr (a : Nat) : Bool := a.testBit 40

def dstAddr (l : List Byte) : Nat := beAt l 0 6
def srcAddr (l : List Byte) : Nat := beAt l 6 6

/-- UDP to port 319 or 320 with its header at `o`. -/
def ptpPort (l : List Byte) (o : Nat) : Bool := beAt l (o + 2) 2 == 319 || beAt l (o + 2) 2 == 320

/-- The offset of a PTP message in the frame, and whether UDP carries it (R428). -/
def ptpAt (l : List Byte) : Option (Nat × Bool) :=
  let o := payAt l
  if etherType l = 0x88F7 then some (o, false)
  else if etherType l = 0x0800 ∧ byteAt l o = 0x45 ∧ byteAt l (o + 9) = 17 ∧ beAt l (o + 6) 2 % 8192 = 0 ∧ ptpPort l (o + 20) then
    some (o + 28, true)
  else none

/-- PTP in a form that the transparent clock does not handle: IPv4 with options, or IPv6 (R428). -/
def ptpOther (l : List Byte) : Bool :=
  let o := payAt l
  let ihl := byteAt l o % 16
  (etherType l == 0x0800 && byteAt l o / 16 == 4 && decide (5 < ihl) && byteAt l (o + 9) == 17 && beAt l (o + 6) 2 % 8192 == 0
      && ptpPort l (o + 4 * ihl))
    || (etherType l == 0x86DD && byteAt l (o + 6) == 17 && ptpPort l (o + 40))

/-- The message is sound: version 2, its header and its messageLength within the frame (R428, R451). -/
def ptpSound (l : List Byte) (o : Nat) : Bool :=
  byteAt l (o + 1) % 16 == 2 && decide (o + 34 ≤ l.length) && decide (o + beAt l (o + 2) 2 ≤ l.length)

def ptpType (l : List Byte) (o : Nat) : Nat := byteAt l o % 16
def ptp1As (l : List Byte) (o : Nat) : Bool := byteAt l o / 16 == 1
def ptpDomain (l : List Byte) (o : Nat) : Nat := byteAt l (o + 4)
def ptpTwoStep (l : List Byte) (o : Nat) : Bool := (byteAt l (o + 6)).testBit 1

/-- R430's key: domainNumber, sourcePortIdentity, sequenceId. -/
def ptpKey (l : List Byte) (o : Nat) : List Byte := (l.drop (o + 4)).take 1 ++ (l.drop (o + 20)).take 12

/-- The egress class of a frame (R422). -/
def egressClass (l : List Byte) : Nat :=
  match ptpAt l with
  | some (o, _) => if ptpSound l o ∧ ptpType l o ≤ 3 then 3 else if tagged l ∧ 4 ≤ tagPcp l then 1 else 0
  | none => if etherType l = 0x88B5 then 2 else if tagged l ∧ 4 ≤ tagPcp l then 1 else 0

/-! ### Stamps (R426, R427) -/

/-- RX_DEV and TX_DEV of a port's mode, ns. -/
def State.portDev (s : State) (p : Nat) : Nat × Nat := if s.getF (R.NET_PORT_ST_MODE p) = 3 then (1096, 1032) else (216, 152)

/-- The reported ingress stamp in base `b` of a frame captured now. -/
def State.rxStamp (s : State) (p b : Nat) : Nat :=
  (s.base b + 2 ^ 32 - (s.portDev p).1 - s.getF (R.NET_PORT_LAT_RX_PHY_NS p)) % 2 ^ 32

/-- The reported egress stamp in base `b`. -/
def State.txStamp (s : State) (p b : Nat) : Nat := (s.base b + (s.portDev p).2 + s.getF (R.NET_PORT_LAT_TX_PHY_NS p)) % 2 ^ 32

/-- The base of a PTP domain. -/
def State.ptpBase (s : State) (d : Nat) : Nat :=
  if d = s.getF R.TIM_DOM_DOMAIN_A then 0 else if d = s.getF R.TIM_DOM_DOMAIN_B then 1 else 2

/-! ### Egress -/

/-- Behind the frames queued so far; but a class-3 frame of port 2 goes before the class-3 frames that a line port brought in the same
cycle (R447). -/
def enqueueOut (q : List OutFrame) (f : OutFrame) : List OutFrame :=
  let k := if f.cls = 3 ∧ f.tx.isSome then q.findIdx fun g => g.cls == 3 && g.tx.isNone && g.at_ == f.at_ else q.length
  q.take k ++ [f] ++ q.drop k

/-- Queue a frame on a line port; a port without link takes none (R419). -/
def State.egress (s : State) (p : Nat) (f : OutFrame) : State :=
  if s.linkUp p then s.netSet fun n => { n with queues := n.queues.modify p fun q => enqueueOut q { f with at_ := s.now } } else s

/-- A frame that is sent as it stands. -/
def plainOut (l : List Byte) : OutFrame := ⟨l, egressClass l, 0, 0, 0, 0, none, 0⟩

/-! ### Rings (R424, R425) -/

/-- Write SRAM at a bus address; what lies outside SRAM is not written (R652). -/
def State.ringWrite (s : State) (a : Nat) (l : List Byte) : State :=
  if 0x10000000 ≤ a ∧ a + l.length ≤ 0x10080000 then s.sramWrite (a - 0x10000000) l else s

/-- Read SRAM at a bus address. -/
def State.ringRead (s : State) (a n : Nat) : List Byte :=
  if 0x10000000 ≤ a ∧ a + n ≤ 0x10080000 then s.sramBytes (a - 0x10000000) n else List.replicate n 0

/-- The registers of a ring. -/
structure Ring where
  base : Fld
  n    : Fld
  en   : Fld
  tail : Fld
  head : Fld
  drop : Fld

def netRx (q : Nat) : Ring :=
  ⟨R.NET_RXQ_BASE_ADDR q, R.NET_RXQ_SIZE_N q, R.NET_RXQ_SIZE_EN q, R.NET_RXQ_TAIL_TAIL q, R.NET_RXQ_HEAD_HEAD q, R.NET_RXQ_HEAD_DROP q⟩
def netTx : Ring :=
  ⟨R.NET_TXR_BASE_ADDR, R.NET_TXR_SIZE_N, R.NET_TXR_SIZE_EN, R.NET_TXR_TAIL_TAIL, R.NET_TXR_HEAD_HEAD, R.NET_TXR_HEAD_DROP⟩

/-- The address of the descriptor at HEAD, `size` bytes each. -/
def State.ringDesc (s : State) (r : Ring) (size : Nat) : Nat := s.getF r.base + size * s.getF r.head

/-- The ring is enabled and holds descriptors between HEAD and TAIL. -/
def State.ringHas (s : State) (r : Ring) : Bool := s.isSet r.en && s.getF r.head != s.getF r.tail

/-- Move HEAD past a descriptor. -/
def State.ringNext (s : State) (r : Ring) : State := s.setF r.head ((s.getF r.head + 1) % max 1 (s.getF r.n))

/-- A base that the ring's enable accepts: a multiple of `size` with the whole ring in SRAM. -/
def ringBaseOk (base n size : Nat) : Bool := base % size == 0 && decide (0x10000000 ≤ base) && decide (base + size * n ≤ 0x10080000)

/-- What became of a message for a receive ring. -/
inductive RingFill where
  | full
  | badLen
  | done
deriving DecidableEq, Repr

/-- Put `l` into the descriptor at HEAD of a receive ring (R424). -/
def State.ringFill (s : State) (r : Ring) (l : List Byte) (stamp info : Nat) : State × RingFill :=
  let d := s.ringDesc r 16
  let flags := leNat (s.ringRead (d + 6) 2)
  if s.ringHas r = false ∨ flags.testBit 15 = false then (s.satInc r.drop, .full)
  else
    let buf := leNat (s.ringRead d 4)
    let blen := leNat (s.ringRead (d + 4) 2)
    let own := leBytes 2 (flags % 2 ^ 15)
    if blen < 1536 ∨ 2048 < blen then (((s.ringWrite (d + 15) [1]).ringWrite (d + 6) own).ringNext r, .badLen)
    else
      let s := s.ringWrite (buf - buf % 4) l
      let s := s.ringWrite (d + 8) (leBytes 4 stamp ++ leBytes 2 l.length ++ leBytes 1 info ++ [0])
      ((s.ringWrite (d + 6) own).ringNext r, .done)

/-- An uncorrectable SRAM error on an access to a ring of NET: the ring is disabled. -/
def State.netRingErr (s : State) (r : Ring) (q : Nat) : State :=
  ((s.setF r.en 0).sramUe (s.ringDesc r 16)).raiseInt Ev.NET_DESC_ERR R.NET_INT_RINGERR q

/-- Deliver a frame to receive queue `q`. -/
def State.rxDeliver (s : State) (q : Nat) (l : List Byte) (stamp info : Nat) (ue : Bool) : State :=
  if ue ∧ s.ringHas (netRx q) then s.netRingErr (netRx q) q
  else
    match s.ringFill (netRx q) l stamp info with
    | (s, .full) => s.raiseInt Ev.NET_RX_DROP R.NET_INT_DROP q
    | (s, .badLen) => s.flag R.NET_INT_DROP
    | (s, .done) => s.flag R.NET_INT_RX

/-! ### The transmit ring -/

/-- Complete a transmit descriptor. -/
def State.txComplete (s : State) (d status : Nat) : State :=
  let flags := leNat (s.ringRead (d + 6) 2)
  ((s.ringWrite (d + 12) (leBytes 2 status)).ringWrite (d + 6) (leBytes 2 (flags % 2 ^ 15))).flag R.NET_INT_TX

/-- Reject a transmit descriptor that breaks R425. -/
def State.txReject (s : State) (d status : Nat) : State :=
  ((s.txComplete d status).satInc R.NET_TXR_HEAD_DROP).raise Ev.NET_DESC_ERR status (d % 2 ^ 32)

/-- The ports of a mask. -/
def maskPorts (m : Nat) : List Nat := (if m.testBit 0 then [0] else []) ++ (if m.testBit 1 then [1] else [])

/-- Take the descriptor at HEAD: check it and queue its frame on the ports of its mask (R425, R431). -/
def State.txTake (s : State) : State :=
  let d := s.ringDesc netTx 16
  let buf := leNat (s.ringRead d 4)
  let len := leNat (s.ringRead (d + 4) 2)
  let flags := leNat (s.ringRead (d + 6) 2)
  let mask := flags % 4
  let ref := leNat (s.ringRead (d + 8) 4)
  let turn := flags.testBit 3
  let s := s.ringNext netTx
  if len < 60 ∨ 1518 < len then s.txReject d 1
  else if mask = 0 ∨ (turn ∧ mask = 3) then s.txReject d 2
  else if (maskPorts mask).all s.linkUp = false then s.txReject d 3
  else
    let l := s.ringRead buf len
    let f : OutFrame := ⟨l, egressClass l, if turn then 1 else 0, flags / 16 % 4, ref, 0, some ⟨d, flags⟩, 0⟩
    let s := s.netSet fun n => { n with txOpen := n.txOpen ++ [(d, mask)] }
    s.forL (maskPorts mask) fun p s => s.egress p f

/-- The trigger for which the descriptor at HEAD waits (R425). -/
def State.txTimed (s : State) : Option Nat :=
  let flags := leNat (s.ringRead (s.ringDesc netTx 16 + 6) 2)
  if flags.testBit 8 then some (flags / 512 % 8) else none

/-- Take descriptors in ring order, up to one that waits for its trigger. -/
def State.txPump : Nat → State → State
  | 0, s => s
  | n + 1, s =>
    if s.ringHas netTx = false ∨ (leNat (s.ringRead (s.ringDesc netTx 16 + 6) 2)).testBit 15 = false ∨ s.txTimed.isSome then s
    else State.txPump n s.txTake

/-- TX_TAIL_WRITE: a write of NET_TXR.TAIL; `ue`: an uncorrectable SRAM error on the ring access that follows (R425). -/
def execTxTailWrite (data : Word) (ue : Bool) (s : State) : Out :=
  .next (s.access Dom.net fun s =>
    let s := s.setF R.NET_TXR_TAIL_TAIL data.toNat
    if s.ringHas netTx = false then s
    else if ue then s.netRingErr netTx 17
    else s.txPump 1024)

/-- Trigger `k` has fired: a descriptor that waits for it goes out, and those behind it (R425, R448). -/
def State.txTrigger (s : State) (k : Nat) : State :=
  if s.ringHas netTx ∧ (leNat (s.ringRead (s.ringDesc netTx 16 + 6) 2)).testBit 15 ∧ s.txTimed = some k then s.txTake.txPump 1024 else s

/-- RX_TAIL_WRITE: a write of NET_RXQq.TAIL (R424, R450). -/
def execRxTailWrite (q : Fin 17) (data : Word) (s : State) : Out :=
  .next (s.access Dom.net fun s => s.setF (R.NET_RXQ_TAIL_TAIL q.val) data.toNat)

/-! ### Reception (R416 to R423, R427, R428) -/

/-- A frame of this VLAN may reach port 2 (R419). -/
def State.vlanOk (s : State) (l : List Byte) : Bool :=
  !tagged l || tagVid l == 0 || tagVid l == s.cfg Img.NET_VLAN_ID 0

/-- The queue of a frame (R420). -/
def State.rxQueue (s : State) (l : List Byte) : Nat :=
  ((List.range 16).find? fun q =>
    s.cfg Img.NET_RXQ_ETYPE q != 0 && s.cfg Img.NET_RXQ_ETYPE q == etherType l
      && s.cfgPresent Img.TENANTS_CLASS (s.cfg Img.NET_RXQ_TENANT q)).getD 16

/-- INFO of a receive descriptor. -/
def rxInfo (p base : Nat) (ptp vlan : Bool) : Nat := p + 2 * base + (if ptp then 8 else 0) + (if vlan then 16 else 0)

/-- A copy of a frame for port 2, classified by R420. -/
def State.toPort2 (s : State) (p : Nat) (l : List Byte) (ue : Bool) : State :=
  if s.vlanOk l then s.rxDeliver (s.rxQueue l) l (s.rxStamp p 2) (rxInfo p 2 false (tagged l)) ue else s

/-- A copy for the management ring. -/
def State.toMgmt (s : State) (p : Nat) (l : List Byte) (base : Nat) (ptp ue : Bool) : State :=
  if s.vlanOk l then s.rxDeliver 16 l (s.rxStamp p base) (rxInfo p base ptp (tagged l)) ue else s

/-- A PTP frame breaks a rule of R451. -/
def State.ptpBad (s : State) (p : Nat) : State := s.raiseInt Ev.NET_PTP_BAD R.NET_INT_PTPBAD p

/-- Count a Sync of domain A (0) or B (1); it is beyond 256 in a second (R451). -/
def State.syncFlood (s : State) (d : Nat) : State × Bool :=
  let l := s.window secNs (s.tim.syncAt.getD d [])
  (s.timSet fun t => { t with syncAt := t.syncAt.set d (l.take 257) }, decide (256 < l.length))

/-- A PTP message of version 2 (R427 to R430, R435). -/
def State.ptpFrame (s : State) (p : Nat) (l : List Byte) (o : Nat) (ue : Bool) : State :=
  let ty := ptpType l o
  let p2p := s.isSet R.TIM_DOM_TC_MODE
  let as_ := ptp1As l o
  let base := s.ptpBase (ptpDomain l o)
  let tin := s.rxStamp p base
  let out (kind delay : Nat) : OutFrame := ⟨l, egressClass l, kind, base, tin, delay, none, 0⟩
  let r := if ty = 0 ∧ base < 2 then (s.syncSeen base).syncFlood base else (s, false)
  let s := r.1
  let s := if r.2 then s.raise Ev.NET_PTP_FLOOD (ptpDomain l o) else s
  let mgmt (s : State) : State := if r.2 then s else s.toMgmt p l base true ue
  let forward (s : State) (f : OutFrame) : State := mgmt (s.egress (1 - p) f)
  if as_ ∧ p2p = false then s.ptpBad p
  else if ty = 0 then forward s (out (if as_ ∧ ptpTwoStep l o then 2 else 1) (if p2p then s.getF (R.NET_PORT_LINKDLY_DLY p) else 0))
  else if ty = 1 then (if p2p then s.ptpBad p else forward s (out 1 0))
  else if ty = 2 ∨ ty = 3 ∨ ty = 0xA then mgmt s
  else if ty = 8 ∧ as_ then forward s (out 3 0)
  else if ty = 9 ∧ p2p then s.ptpBad p
  else forward s (out 0 0)

/-- Learn a source address (R421). -/
def State.learnSrc (s : State) (p : Nat) (l : List Byte) : State :=
  let a := srcAddr l
  if s.isSet R.NET_CTL_LEARN_EN = false ∨ groupAddr a then s
  else
    let known := s.net.learn.any fun e => e.1 == a
    if known = false ∧ 1024 ≤ s.net.learn.length then s
    else (s.netSet fun n => { n with learn := (a, p) :: n.learn.filter fun e => e.1 != a }).arm (.learn a) (300 * secNs)

/-- Count a broadcast or multicast; it is within the limit of this 10 ms window (R423). -/
def State.stormCount (s : State) (p : Nat) : State × Bool :=
  let s := if s.armed (.storm p) then s else s.arm (.storm p) (10 * msNs)
  let n := s.net.storm.getD p 0
  (s.netSet fun m => { m with storm := m.storm.set p (n + 1) }, decide (n < s.getF (R.NET_PORT_STORM_FPS p) / 100))

/-- A multicast address that NET_MCAST accepts, or the broadcast address. -/
def State.groupOk (s : State) (l : List Byte) : Bool :=
  dstAddr l == 0xFFFFFFFFFFFF || (groupAddr (dstAddr l) && s.bitF R.NET_MCAST_HASH (crc32 (l.take 6) / 2 ^ 27))

/-- NET's own address. -/
def State.netMac (s : State) : List Byte := leBytes 4 (s.getF R.NET_MACLO_MAC) ++ leBytes 2 (s.getF R.NET_MACHI_MAC)

/-- Rows 4 to 6 of R419. -/
def State.ordinary (s : State) (p : Nat) (l : List Byte) (ue : Bool) : State :=
  let st := if groupAddr (dstAddr l) then s.stormCount p else (s, true)
  let s := st.1
  if st.2 = false then (s.satInc (R.NET_PORT_BAD_OTHER p)).raise Ev.NET_STORM p
  else
    let s := s.learnSrc p l
    let s := if ptpOther l then s.satInc R.NET_PTPSTAT_UNCORR else s
    if l.take 6 = s.netMac then s.toPort2 p l ue
    else if s.groupOk l then (s.egress (1 - p) (plainOut l)).toPort2 p l ue
    else if s.net.learn.contains (dstAddr l, p) then s
    else s.egress (1 - p) (plainOut l)

/-- A whole frame from a line port that has passed the checks of R416 and R418 (R419). -/
def State.classify (s : State) (p : Nat) (l : List Byte) (ue : Bool) : State :=
  if etherType l = 0x88B5 then
    (if s.isSet R.CRN_CTL_EN then
      s.netSet fun n => { n with crnIn := n.crnIn ++ [⟨p, l, s.rxStamp p 2, tagged l, s.now⟩] }
    else s)
  else
    match ptpAt l with
    | some (o, _) =>
      if ptpSound l o then s.ptpFrame p l o ue
      else (s.egress (1 - p) (plainOut l)).ptpBad p
    | none =>
      if dstAddr l / 16 = 0x0180C200000 then s.toMgmt p l 2 false ue
      else s.ordinary p l ue

/-- FRAME_RECEIVED: a whole frame, its bytes without FCS; `fcsOk`; `ue`: an uncorrectable SRAM error on the ring access of its
delivery. -/
def execFrameReceived (port : Fin 2) (bytes : List Byte) (fcsOk ue : Bool) (s : State) : Out :=
  .next (
    let p := port.val
    let n := bytes.length + 4
    if s.linkUp p = false then s
    else if fcsOk = false then (s.satInc (R.NET_PORT_BAD_FCS p)).raise Ev.NET_RX_BAD p
    else if n < 64 ∨ (if tagged bytes then 1522 else 1518) < n ∨ (tagged bytes ∧ etherType bytes = 0x8100) then
      (s.satInc (R.NET_PORT_BAD_OTHER p)).raise Ev.NET_RX_BAD p
    else
      let s := s.wrapInc (R.NET_PORT_RX_FRAMES p)
      if etherType bytes = 0x8808 then s.satInc (R.NET_PORT_BAD_OTHER p)
      else s.classify p bytes ue)

/-! ### Transmission (R422, R426, R429 to R431) -/

/-- correctionField plus Δ, and whether it left its range (R429). -/
def addCorrection (old delta : Nat) : Nat × Bool :=
  let o : Int := (BitVec.ofNat 64 old).toInt
  let x : Int := o + Int.ofNat delta
  if old = 0x7FFFFFFFFFFFFFFF ∨ 0x7FFFFFFFFFFFFFFF < x then (0x7FFFFFFFFFFFFFFF, true) else ((BitVec.ofInt 64 x).toNat, false)

/-- Write a correction into a frame that leaves port `p`. -/
def State.correct (s : State) (p : Nat) (l : List Byte) (delta : Nat) : State × List Byte :=
  match ptpAt l with
  | none => (s, l)
  | some (o, udp) =>
    let c := addCorrection (beAt l (o + 8) 8) delta
    let l := overlay l (o + 8) (beBytes 8 c.1)
    let l := if udp then overlay l (o - 2) [0, 0] else l
    let s := s.wrapInc R.NET_PTPSTAT_CORRECTED
    (if c.2 then s.ptpBad p else s, l)

/-- A free place of R430's table. -/
def State.fupFree (s : State) : Option Nat := (List.range 16).find? fun k => (s.net.fup.getD k none).isNone

/-- Free an entry of R430's table. -/
def State.fupDrop (s : State) (k : Nat) : State := (s.netSet fun n => { n with fup := n.fup.set k none }).disarm (.fup k)

/-- The entry for a Follow_Up that leaves `p`. -/
def State.fupFind (s : State) (p : Nat) (l : List Byte) : Option (Nat × Nat) :=
  match ptpAt l with
  | none => none
  | some (o, _) =>
    (List.range 16).findSome? fun k =>
      match s.net.fup.getD k none with
      | some e => if e.port = p ∧ e.key = ptpKey l o then some (k, e.delta) else none
      | none => none

/-- Record the Δ of a two-step Sync. -/
def State.fupRecord (s : State) (p : Nat) (l : List Byte) (delta : Nat) : State :=
  match ptpAt l, s.fupFree with
  | some (o, _), some k => (s.netSet fun n => { n with fup := n.fup.set k (some ⟨p, ptpKey l o, delta⟩) }).arm (.fup k) (100 * msNs)
  | _, _ => s

/-- A frame of the transmit ring has left a port: its stamp, and its descriptor's completion. A descriptor that has completed already
gets no stamp (R449). -/
def State.txLeft (s : State) (p : Nat) (t : TxRef) : State :=
  match s.net.txOpen.find? fun e => e.1 == t.desc with
  | none => s
  | some (_, m) =>
    let stamp := s.txStamp p (t.flags / 16 % 4)
    let s :=
      if t.flags.testBit 2 = false then s
      else if t.flags % 4 = 3 ∧ p = 1 then s.setF R.NET_TXSTAMP1_STAMP stamp
      else s.ringWrite (t.desc + 8) (leBytes 4 stamp)
    let left := withBit m p false
    let s := s.netSet fun n => { n with txOpen := n.txOpen.filterMap fun e => if e.1 = t.desc then (if left = 0 then none else some (e.1, left)) else some e }
    if left = 0 then s.txComplete t.desc 0 else s

/-- Send one frame on port `p`. -/
def State.sendFrame (s : State) (p : Nat) (f : OutFrame) : State :=
  let delta := (s.txStamp p f.base + 2 ^ 32 - f.tin) % 2 ^ 32 * 65536 + f.delay
  let r : State × List Byte :=
    match f.kind with
    | 1 => s.correct p f.bytes delta
    | 2 => (s.fupRecord p f.bytes delta, f.bytes)
    | 3 =>
      (match s.fupFind p f.bytes with
      | some (k, d) => (s.fupDrop k).correct p f.bytes d
      | none => (s, f.bytes))
    | _ => (s, f.bytes)
  let s := r.1.netSet fun n => { n with sent := n.sent.set p r.2 }
  match f.tx with
  | some t => s.txLeft p t
  | none => s

/-- The frame that a port sends next: the oldest of its highest class. -/
def nextOut (q : List OutFrame) : Option OutFrame := [3, 2, 1, 0].findSome? fun c => q.find? fun f => f.cls == c

/-- Send the next frame; a Follow_Up that finds no entry is dropped and the one behind it goes (R430). -/
def State.sendNext : Nat → Nat → State → State
  | 0, _, s => s
  | n + 1, p, s =>
    match nextOut (s.net.queues.getD p []) with
    | none => s
    | some f =>
      let s := s.netSet fun m => { m with queues := m.queues.modify p fun q => q.erase f }
      if f.kind = 3 ∧ (s.fupFind p f.bytes).isNone then State.sendNext n p ((s.satInc R.NET_PTPSTAT_FUP_ORPHAN).ptpBad p)
      else s.sendFrame p f

/-- FRAME_TRANSMITTED: the port sends its next frame; its start-frame delimiter passes the capture point now. -/
def execFrameTransmitted (port : Fin 2) (s : State) : Out :=
  .next (if s.linkUp port.val then s.sendNext (s.net.queues.getD port.val []).length port.val else s)

/-! ### Expiries -/

/-- LEARN_AGE (R421). -/
def execLearnAge (mac : Nat) (s : State) : Out :=
  .next (if s.due (.learn mac) then (s.disarm (.learn mac)).netSet fun n => { n with learn := n.learn.filter fun e => e.1 != mac } else s)

/-- STORM_WINDOW (R423). -/
def execStormWindow (port : Fin 2) (s : State) : Out :=
  .next (if s.due (.storm port.val) then
      (s.rearm (.storm port.val) (10 * msNs)).netSet fun n => { n with storm := n.storm.set port.val 0 }
    else s)

/-- FUP_ENTRY_EXPIRY (R430). -/
def execFupEntryExpiry (k : Fin 16) (s : State) : Out := .next (if s.due (.fup k.val) then s.fupDrop k.val else s)

/-! ### MDIO (R417) -/

/-- A write of NET_MDIO_CMD with GO: one operation at a time. -/
def State.mdioStart (s : State) (op phy reg : Nat) : State :=
  if s.isSet R.NET_MDIO_ST_BUSY then s
  else (s.setF R.NET_MDIO_ST_BUSY 1).netSet fun n => { n with mdio := some ⟨op, phy, reg, s.getF R.NET_MDIO_DATA_DATA⟩ }

/-- C22_WRITE. -/
def execC22Write (phy reg : Fin 32) (s : State) : Out := .next (s.access Dom.net fun s => s.mdioStart 0 phy.val reg.val)
/-- C22_READ. -/
def execC22Read (phy reg : Fin 32) (s : State) : Out := .next (s.access Dom.net fun s => s.mdioStart 1 phy.val reg.val)
/-- C45_ADDRESS. -/
def execC45Address (phy dev : Fin 32) (s : State) : Out := .next (s.access Dom.net fun s => s.mdioStart 2 phy.val dev.val)
/-- C45_WRITE. -/
def execC45Write (phy dev : Fin 32) (s : State) : Out := .next (s.access Dom.net fun s => s.mdioStart 3 phy.val dev.val)
/-- C45_READ. -/
def execC45Read (phy dev : Fin 32) (s : State) : Out := .next (s.access Dom.net fun s => s.mdioStart 4 phy.val dev.val)
/-- C45_READ_INCREMENT. -/
def execC45ReadIncrement (phy dev : Fin 32) (s : State) : Out := .next (s.access Dom.net fun s => s.mdioStart 5 phy.val dev.val)

/-- MDIO_DONE: the operation ends; `data` is what the PHY returned on a read, none when it did not drive the turnaround. -/
def execMdioDone (data : Option Word) (s : State) : Out :=
  .next (match s.net.mdio with
    | none => s
    | some m =>
      let s := (s.netSet fun n => { n with mdio := none }).setFlags [R.NET_INT_MDIO] [(R.NET_MDIO_ST_BUSY, 0), (R.NET_MDIO_ST_RESULT, 0)]
      if m.op = 1 ∨ m.op = 4 ∨ m.op = 5 then
        match data with
        | some w => s.setF R.NET_MDIO_DATA_DATA w.toNat
        | none => (s.setFs [(R.NET_MDIO_ST_RESULT, 1), (R.NET_MDIO_DATA_DATA, 0xFFFF)]).raise Ev.NET_MDIO_NORESP m.phy m.reg
      else s)

end Sys2Proof.Machine
end

