-- ==== Sys2Proof/Machine/Crn.lean ====
section
/-! DEFINITION. Cairn's line (R454 to R473, R477 to R480, R482 to R484): frames, node states, claims, the roster, takeover, and
the messages of firmware. -/

namespace Sys2Proof.Machine

/-! Cairn's message types (R457). -/
namespace CT
def claim : Nat := 0x01
def yield : Nat := 0x02
def roster : Nat := 0x03
def join : Nat := 0x04
def hello : Nat := 0x05
def beat : Nat := 0x06
def chunkData : Nat := 0x10
def chunkAck : Nat := 0x11
def step : Nat := 0x20
def ckptMark : Nat := 0x21
def fault : Nat := 0x30
end CT

def State.crnSet (s : State) (f : CrnState → CrnState) : State := { s with crn := f s.crn }

/-- CRN_STAT.STATE (R458, R484). -/
def State.crnState (s : State) : Nat := s.getF R.CRN_STAT_STATE

/-- CRN runs on the line ports. -/
def State.crnOn (s : State) : Bool := s.on Dom.net && s.isSet R.CRN_CTL_EN

def State.ownKey (s : State) : Nat := s.cfg Img.CAIRN_NODE_KEY 0

/-- A standing beats another (R454). -/
def beats (a b : Nat × Nat) : Bool := if a.1 ≠ b.1 then decide (b.1 < a.1) else decide (a.2 < b.2)

def State.ownStanding (s : State) : Nat × Nat := (s.cfg Img.CAIRN_PRIORITY 0, s.ownKey)

/-- The node's own RING_SIZE, 0 while learning is off (R457, R464). -/
def State.ownRing (s : State) : Nat := if s.cfg Img.LEARN_ENABLE 0 = 1 then s.cfg Img.LEARN_RING_SIZE 0 else 0

/-- A value held in two register words. -/
def State.getW2 (s : State) (f : Nat → Fld) : Nat := s.getF (f 0) + 2 ^ 32 * s.getF (f 1)
def State.setW2 (s : State) (f : Nat → Fld) (v : Nat) : State := s.setFs [(f 0, v), (f 1, v / 2 ^ 32)]

/-- The key of the current head. -/
def State.headKey (s : State) : Nat := s.getW2 R.CRN_HEADKEY_W

/-! ### Sending (R455 to R457) -/

/-- The epoch that this node's messages carry: 0 outside a roster. -/
def State.crnEpoch (s : State) : Nat := if 6 ≤ s.crnState then s.getF R.CRN_STAT_EPOCH else 0

/-- A frame that carries a Cairn message. -/
def State.crnPacket (s : State) (typ hops dst : Nat) (body : List Byte) : List Byte :=
  let hdr := beBytes 1 1 ++ beBytes 1 typ ++ [0] ++ beBytes 1 hops ++ beBytes 2 (s.cfg Img.CAIRN_LINE_ID 0) ++ beBytes 2 s.crnEpoch
    ++ beBytes 8 s.ownKey ++ beBytes 8 dst ++ beBytes 2 s.crn.seq ++ beBytes 2 body.length
  let l := [0x03, 0xCA, 0x12, 0x00, 0x00, 0x01] ++ s.netMac ++ [0x88, 0xB5] ++ hdr ++ body ++ beBytes 4 (crc32c (hdr ++ body))
  l ++ List.replicate (60 - l.length) 0

/-- A Cairn frame in egress class 2 (R422). -/
def crnOut (l : List Byte) : OutFrame := ⟨l, 2, 0, 0, 0, 0, none, 0⟩

/-- Count a message sent. -/
def State.crnCount (s : State) : State := s.crnSet fun c => { c with seq := (c.seq + 1) % 65536 }

/-- Send a message on the given ports. -/
def State.crnSendOn (s : State) (ports : List Nat) (typ dst : Nat) (body : List Byte) : State :=
  let l := s.crnPacket typ 63 dst body
  (s.forL ports fun p s => s.egress p (crnOut l)).crnCount

/-- Send a message on every port that is up. -/
def State.crnSend (s : State) (typ dst : Nat) (body : List Byte) : State := s.crnSendOn [0, 1] typ dst body

/-- Send FAULT (R457). -/
def State.crnFault (s : State) (code dst arg subject : Nat) : State :=
  s.crnSend CT.fault dst (beBytes 2 code ++ beBytes 1 (s.getF R.CRN_SELF_RANK) ++ [0] ++ beBytes 4 arg ++ beBytes 8 subject)

/-- Send CLAIM and wait for CLAIM_WAIT. -/
def State.sendClaim (s : State) : State :=
  (s.crnSend CT.claim 0 (beBytes 1 (s.cfg Img.CAIRN_PRIORITY 0) ++ beBytes 1 (s.cfg Img.CAIRN_ROLE 0)
    ++ beBytes 1 (s.cfg Img.CAIRN_RANK 0) ++ [0, 0, 0, 0, 0])).arm .claimWait (100 * msNs)

/-- Send YIELD to the node `key`, naming its claim. -/
def State.sendYield (s : State) (key : Nat) : State := (s.crnSend CT.yield key (beBytes 8 key)).raise Ev.CRN_YIELD key (key / 2 ^ 32)

/-- Send JOIN to the head (R463). -/
def State.sendJoin (s : State) : State :=
  let rank := s.crn.acting.getD (s.cfg Img.CAIRN_RANK 0)
  (s.crnSend CT.join s.headKey (beBytes 1 (s.cfg Img.CAIRN_PRIORITY 0) ++ beBytes 1 (s.cfg Img.CAIRN_ROLE 0) ++ beBytes 1 rank
    ++ beBytes 1 (if s.crn.acting.isSome then 1 else 0) ++ beBytes 1 s.ownRing ++ [0, 0, 0]
    ++ beBytes 8 (s.crn.nbr.getD 0 0) ++ beBytes 8 (s.crn.nbr.getD 1 0))).arm .joinRetry (200 * msNs)

/-- Send HELLO on a port (R457). -/
def State.sendHello (s : State) (p : Nat) : State :=
  let l := s.crnPacket CT.hello 1 0 (beBytes 8 s.headKey ++ beBytes 1 s.crnState ++ beBytes 1 p ++ [0, 0, 0, 0, 0, 0])
  ((s.egress p (crnOut l)).crnCount).crnSet fun c => { c with helloDue := c.helloDue.set p false }

/-- Send BEAT to the head; STEP is a free value, as the spec gives CRN no source for it. -/
def State.sendBeat (s : State) : State :=
  let d := s.draw 32
  (d.2.crnSend CT.beat s.headKey (beBytes 1 s.crnState ++ beBytes 1 (s.getF R.CRN_SELF_RANK) ++ [0, 0] ++ beBytes 4 d.1)).crnSet
    fun c => { c with beatDue := false }

/-! ### The roster (R464, R467) -/

def RosterEntry.bytes (e : RosterEntry) (key : List Byte) : List Byte :=
  key ++ beBytes 1 e.pos ++ beBytes 1 e.role ++ beBytes 1 e.rank ++ beBytes 1 e.state ++ beBytes 1 e.prio
    ++ beBytes 1 ((if e.head then 1 else 0) + (if e.acting then 2 else 0)) ++ [0, 0]

/-- The entries of a ROSTER body. -/
def rosterOf (body : List Byte) : List RosterEntry :=
  (List.range (byteAt body 0)).map fun i =>
    let o := 8 + 16 * i
    ⟨beAt body o 8, byteAt body (o + 8), byteAt body (o + 9), byteAt body (o + 10), byteAt body (o + 11), byteAt body (o + 12),
      (byteAt body (o + 13)).testBit 0, (byteAt body (o + 13)).testBit 1⟩

/-- The head sends its current ROSTER, with its own HELLO_MS and ROSTER_MS. -/
def State.sendRoster (s : State) (dst : Nat) : State :=
  s.crnSend CT.roster dst (beBytes 1 s.crn.roster.length ++ beBytes 1 s.crn.ring ++ beBytes 2 (s.getF R.CRN_TIMER_HELLO_MS)
    ++ beBytes 2 (s.getF R.CRN_TIMER_ROSTER_MS) ++ [0, 0] ++ s.crn.roster.flatMap fun e => e.bytes (beBytes 8 e.key))

/-- The key that holds a rank in the current roster, 0 if none. -/
def State.rankKey (s : State) (r : Nat) : Nat := ((s.crn.roster.find? fun e => e.rank == r).map (·.key)).getD 0

/-- CRN_SELF, CRN_SUCC and CRN_PRED from the current roster (R467). -/
def State.crnSelf (s : State) : State :=
  let me := s.crn.roster.find? fun e => e.key == s.ownKey
  let rank := (me.map (·.rank)).getD 255
  let n := s.crn.ring
  let inRing := decide (rank < n)
  let s := s.setFs [(R.CRN_SELF_RANK, rank), (R.CRN_SELF_POSITION, (me.map (·.pos)).getD 255),
    (R.CRN_SELF_ACTING, if (me.map (·.acting)).getD false then 1 else 0)]
  let s := s.setW2 R.CRN_SUCC_W (if inRing then s.rankKey ((rank + 1) % n) else 0)
  let s := s.setW2 R.CRN_PRED_W (if inRing then s.rankKey ((rank + n - 1) % n) else 0)
  match me with
  | some e => s.crnSet fun c => { c with acting := if e.acting then some e.rank else none }
  | none => s

/-- Take a roster as the current one (R466); an empty one stands for none, and is no new epoch. -/
def State.takeRoster (s : State) (l : List RosterEntry) (ring ms epoch : Nat) : State :=
  let s := if s.getF R.CRN_STAT_EPOCH = epoch ∨ l = [] then s else s.flag R.CRN_INT_ROSTER
  let s := (s.crnSet fun c => { c with roster := l, ring := ring, rosterMs := ms }).setFs [(R.CRN_STAT_COUNT, l.length), (R.CRN_STAT_EPOCH, epoch)]
  let s := s.clearRegs 0x400B0100 0x400
  let bytes := l.flatMap fun e => e.bytes (leBytes 8 e.key)
  (s.forN (4 * l.length) fun k s => s.setF (R.CRN_ROSTER_W k) (leNat ((bytes.drop (4 * k)).take 4))).crnSelf

/-- Outside a roster. -/
def State.noRoster (s : State) : State :=
  let a := s.crn.acting
  let s := ((s.crnSet fun c => { c with nodes := [], dirty := false, topo := none, rankOpen := false }).takeRoster [] 0 1000 0).setW2 R.CRN_HEADKEY_W 0
  s.crnSet fun c => { c with acting := a }

/-! ### Node states (R458) -/

/-- A timer that belongs to one node state. -/
def nodeTimer : Timer → Bool
  | .tListen | .claimWait | .followTo | .joinRetry | .backoff | .rosterMs | .beat | .headTo | .beatTo _ | .rankWait | .publish => true
  | _ => false

/-- Enter a node state. -/
def State.crnTo (s : State) (n : Nat) : State :=
  let s := { s with timers := s.timers.filter fun p => !nodeTimer p.1 }
  let s := if s.crnState = n then s else s.flag R.CRN_INT_STATE
  (s.setF R.CRN_STAT_STATE n).crnSet fun c => { c with beatDue := false }

/-- Enter LISTEN (R458, R483). -/
def State.toListen (s : State) : State :=
  let s := (s.crnTo 1).noRoster
  if s.crn.stuck then s else s.arm .tListen (250 * msNs + 2 * msNs * (s.ownKey % 64))

/-- Enter CLAIMING with a CLAIM on both ports. -/
def State.toClaiming (s : State) : State := (s.crnTo 2).sendClaim

/-- Enter FOLLOW behind a claim. -/
def State.toFollow (s : State) (c : Nat × Nat) : State :=
  ((s.crnTo 3).crnSet fun k => { k with followed := c }).arm .followTo (1000 * msNs)

/-- Enter JOINING towards a head (R463). -/
def State.toJoining (s : State) (head prio : Nat) : State :=
  let s := (s.crnTo 5).noRoster.setW2 R.CRN_HEADKEY_W head
  (s.crnSet fun c => { c with headPrio := prio, joins := 1 }).sendJoin

/-- The node goes DOWN. -/
def State.crnDown (s : State) : State := (s.crnTo 0).noRoster

/-- A key was met twice (R461, R483). -/
def State.keyDup (s : State) : State :=
  let s := s.raise Ev.CRN_KEY_DUP s.ownKey (s.ownKey / 2 ^ 32)
  let l := s.window (60 * secNs) s.crn.dupAt
  let s := s.crnSet fun c => { c with dupAt := l }
  if 3 ≤ l.length then (s.crnSet fun c => { c with stuck := true }).toListen
  else
    let d := s.drawBelow (400 * msNs + 1)
    ((d.2.crnTo 4).noRoster).arm .backoff (100 * msNs + d.1)

/-! ### The head (R465, R466, R469, R472, R473) -/

/-- The walk along the line from a node: positions, and the first node whose neighbours disagree. -/
def lineWalk : Nat → List CrnNode → CrnNode → Nat → List (Nat × Nat) × Option Nat
  | 0, _, cur, pos => ([(cur.ent.key, pos)], none)
  | n + 1, l, cur, pos =>
    let here := (cur.ent.key, pos)
    if cur.n1 = 0 then ([here], none)
    else
      match l.find? fun m => m.ent.key == cur.n1 with
      | none => ([here], none)
      | some m =>
        if m.n0 = cur.ent.key then
          let r := lineWalk n l m (pos + 1)
          (here :: r.1, r.2)
        else ([here], some cur.ent.key)

/-- Positions of the nodes, and the first break. -/
def placeNodes (l : List CrnNode) : List CrnNode × Option Nat :=
  match l.find? fun n => n.n0 == 0 with
  | none => (l.map fun n => { n with ent := { n.ent with pos := 255 } }, none)
  | some st =>
    let r := lineWalk 64 l st 0
    (l.map fun n => { n with ent := { n.ent with pos := ((r.1.find? fun p => p.1 == n.ent.key).map (·.2)).getD 255 } }, r.2)

/-- Nodes in the order of the roster. -/
def inLine (l : List CrnNode) : List CrnNode :=
  (List.range 64).flatMap (fun p => l.filter fun n => n.ent.pos == p) ++ l.filter fun n => n.ent.pos == 255

/-- Work out the positions anew; report the first break (R465). -/
def State.crnPlace (s : State) : State :=
  let r := placeNodes s.crn.nodes
  let news := decide (r.2 ≠ s.crn.topo)
  let s := s.crnSet fun c => { c with nodes := r.1, topo := r.2 }
  match r.2 with
  | some k => if news then (s.crnFault 0x06 0 0 k).raise Ev.CRN_TOPOLOGY k (k / 2 ^ 32) else s
  | none => s

/-- A rank is open to takeover (R472). -/
def State.rankIsOpen (s : State) (r : Nat) : Bool :=
  match s.crn.nodes.find? fun n => n.ent.rank == r with
  | some n => n.ent.state == 1
  | none => s.crn.rankOpen

/-- Give a rank to the free spare of lowest position, if there is one (R472). -/
def State.takeover (s : State) (r : Nat) : State :=
  match (inLine s.crn.nodes).find? fun n => n.ent.role == 1 && n.ent.state == 0 && !n.ent.acting with
  | none => s
  | some sp =>
    let k := sp.ent.key
    let s := s.crnSet fun c => { c with nodes := c.nodes.map fun n =>
      if n.ent.key = k then { n with ent := { n.ent with rank := r, acting := true } }
      else if n.ent.rank = r then { n with ent := { n.ent with rank := 255, acting := false } }
      else n }
    (s.crnFault 0x03 0 r k).raise Ev.CRN_TAKEOVER r k

/-- Fill open ranks in ascending order. -/
def State.crnFill (s : State) : State := s.forN s.crn.ring fun r s => if s.rankIsOpen r then s.takeover r else s

/-- Publish the roster with a new epoch (R466). -/
def State.crnPublish (s : State) : State :=
  let e := (s.getF R.CRN_STAT_EPOCH + 1) % 65536
  let s := s.takeRoster ((inLine s.crn.nodes).map (·.ent)) s.ownRing (s.getF R.CRN_TIMER_ROSTER_MS) e
  let s := (s.crnSet fun c => { c with dirty := false, seen := max c.seen e }).arm .publish (50 * msNs)
  (s.sendRoster 0).raise Ev.CRN_ROSTER e s.crn.roster.length

/-- Bring the roster up to date after a change among the nodes; publish it now, or 50 ms after the change before. -/
def State.crnUpdate (s : State) : State :=
  let s := s.crnPlace.crnFill
  if (inLine s.crn.nodes).map (·.ent) = s.crn.roster then s
  else if s.armed .publish then s.crnSet fun c => { c with dirty := true }
  else s.crnPublish

/-- The head's own node. -/
def State.ownNode (s : State) : CrnNode :=
  let role := s.cfg Img.CAIRN_ROLE 0
  let want := s.crn.acting.getD (s.cfg Img.CAIRN_RANK 0)
  let ring := s.ownRing
  let holds := decide (want < ring) && (role == 0 || s.crn.acting.isSome)
  ⟨⟨s.ownKey, 255, role, if holds then want else 255, if role = 0 ∧ holds = false then 2 else 0, s.cfg Img.CAIRN_PRIORITY 0, true,
    holds && role == 1⟩, s.crn.nbr.getD 0 0, s.crn.nbr.getD 1 0, want, s.now⟩

/-- Enter HEAD (R461). -/
def State.toHead (s : State) : State :=
  let me := s.ownNode
  let s := (s.crnTo 7).noRoster.setW2 R.CRN_HEADKEY_W s.ownKey
  let s := (s.crnSet fun c => { c with nodes := [me], ring := s.ownRing, headPrio := s.cfg Img.CAIRN_PRIORITY 0 }).setF R.CRN_STAT_EPOCH s.crn.seen
  let s := (s.arm .rankWait (5 * secNs)).arm .rosterMs (s.getF R.CRN_TIMER_ROSTER_MS * msNs)
  ((s.raise Ev.CRN_HEAD s.ownKey (s.ownKey / 2 ^ 32)).crnPlace.crnFill).crnPublish

/-- The head's own neighbours have changed. -/
def State.headNbr (s : State) : State :=
  if s.crnState = 7 then
    (s.crnSet fun c => { c with nodes := c.nodes.map fun n =>
      if n.ent.key = s.ownKey then { n with n0 := c.nbr.getD 0 0, n1 := c.nbr.getD 1 0 } else n }).crnUpdate
  else s

/-- A port has lost its neighbour (R468). -/
def State.nbrLost (s : State) (p : Nat) : State :=
  let k := s.crn.nbr.getD p 0
  let s := (s.disarm (.neighbour p)).crnSet fun c => { c with nbr := c.nbr.set p 0 }
  if k = 0 then s
  else if s.crnState = 6 then s.crnFault 0x01 s.headKey 0 k
  else s.headNbr

/-! ### Links and the enable -/

/-- A port's link has come up: HELLOs begin, and a node that was DOWN listens (R458). -/
def State.crnLinkUp (s : State) (p : Nat) : State :=
  if s.crnOn = false then s
  else
    let s := s.arm (.hello p) (s.getF R.CRN_TIMER_HELLO_MS * msNs)
    if s.crnState = 0 then s.toListen else s

/-- A port's link has gone down. -/
def State.crnLinkDown (s : State) (p : Nat) : State :=
  let s := s.disarm (.hello p)
  let s := if s.linkUp 0 ∨ s.linkUp 1 then s else s.crnDown
  s.nbrLost p

/-- CRN_CTL.EN is set or cleared. -/
def State.crnEnable (s : State) (on : Bool) : State :=
  if on = s.isSet R.CRN_CTL_EN then s
  else if on then
    let s := s.setF R.CRN_CTL_EN 1
    s.forL ((List.range 2).filter s.linkUp) fun p s => s.crnLinkUp p
  else
    let s := (s.crnDown).setF R.CRN_CTL_EN 0
    let s := { s with timers := s.timers.filter fun p => match p.1 with
      | .hello _ => false | .neighbour _ => false | .resend _ => false | .chunkAck _ => false | .xferIdle _ => false | _ => true }
    { s with
      crn := { CrnState.init with seq := s.crn.seq, seen := s.crn.seen, nextId := s.crn.nextId, nextSer := s.crn.nextSer }
      net := { s.net with crnIn := [] } }

/-! ### Reception (R456, R483) -/

/-- Bytes that R457 and R474 reserve are 0, and the body has its type's length. -/
def bodySound (typ : Nat) (b : List Byte) : Bool :=
  let z (o n : Nat) : Bool := beAt b o n == 0
  if typ = CT.claim then b.length == 8 && z 3 5
  else if typ = CT.yield then b.length == 8
  else if typ = CT.roster then
    decide (1 ≤ byteAt b 0) && decide (byteAt b 0 ≤ 64) && b.length == 8 + 16 * byteAt b 0 && z 6 2
      && (List.range (byteAt b 0)).all fun i => z (8 + 16 * i + 14) 2 && decide (byteAt b (8 + 16 * i + 13) < 4)
  else if typ = CT.join then b.length == 24 && z 5 3 && decide (byteAt b 3 < 2)
  else if typ = CT.hello then b.length == 16 && z 10 6
  else if typ = CT.beat then b.length == 8 && z 2 2
  else if typ = CT.chunkData then decide (28 ≤ b.length) && decide (byteAt b 25 < 2)
  else if typ = CT.chunkAck then b.length == 24 && z 18 6
  else if typ = CT.step then b.length == 16 && z 12 4
  else if typ = CT.ckptMark then b.length == 16 && z 5 3
  else if typ = CT.fault then b.length == 16 && z 3 1
  else false

/-- A frame that breaks the rules is dropped and counted. -/
def State.crnBad (s : State) (p why : Nat) : State := (s.satInc R.CRN_VIOL_COUNT).raise Ev.CRN_BAD p why

/-- Count a control message of a source; it is dropped when 4,000 have passed within a second (R483). -/
def State.crnFlood (s : State) (key : Nat) : State × Bool :=
  let old := ((s.crn.flood.find? fun e => e.1 == key).map (·.2)).getD []
  let l := s.recent secNs old
  let flooded := decide (4000 ≤ l.length)
  (s.crnSet fun c => { c with
    flood := (key, if flooded then l else s.now :: l) :: c.flood.filter fun e => e.1 != key && (s.recent secNs e.2 != []) }, flooded)

/-- CAIRN_FRAME: CRN takes the oldest frame that has come (R455, R456). -/
def execCairnFrame (s : State) : Out :=
  .next (match s.net.crnIn with
    | [] => s
    | f :: rest =>
      let s := s.netSet fun n => { n with crnIn := rest }
      let l := f.bytes.drop (payAt f.bytes)
      let typ := byteAt l 1
      let hops := byteAt l 3
      let len := beAt l 26 2
      let body := (l.drop 28).take len
      let src := beAt l 8 8
      let dst := beAt l 16 8
      let first : Nat := if typ = CT.hello then 1 else 63
      let crc := beAt l (28 + len) 4
      let crcOk := crc == crc32c (l.take (28 + len)) || crc == crc32c ((overlay l 3 (beBytes 1 first)).take (28 + len))
      if s.crnOn = false then s
      else if byteAt l 0 ≠ 1 ∨ l.length < 32 + len ∨ crcOk = false ∨ byteAt l 2 ≠ 0 ∨ bodySound typ body = false then s.crnBad f.port 0
      else if hops = 0 then s.crnBad f.port 1
      else if beAt l 4 2 ≠ s.cfg Img.CAIRN_LINE_ID 0 then s.crnBad f.port 2
      else
        let fl := if typ = CT.chunkData ∨ typ = CT.chunkAck then (s, false) else s.crnFlood src
        let s := fl.1
        if fl.2 then s.raise Ev.CRN_FLOOD src (src / 2 ^ 32)
        else
          let m : CrnMsg := ⟨typ, src, dst, beAt l 6 2, body, f.port, f.stamp, f.vlan, f.at_⟩
          if src = s.ownKey then
            (if typ = CT.claim then s.crnSet fun c => { c with inbox := c.inbox ++ [m] }
            else (s.satInc R.CRN_VIOL_LOOPS).raise Ev.CRN_BAD f.port 3)
          else
            let s := s.crnSet fun c => { c with seen := max c.seen m.epoch }
            let s := if dst = s.ownKey ∨ dst = 0 then s.crnSet fun c => { c with inbox := c.inbox ++ [m] } else s
            if dst ≠ s.ownKey ∧ 2 ≤ hops then
              s.egress (1 - f.port) (crnOut (overlay f.bytes (payAt f.bytes + 3) (beBytes 1 (hops - 1))))
            else s)

/-- Take the oldest message of a type from what CRN has accepted. -/
def State.crnTake (s : State) (typ : Nat) : Option (CrnMsg × State) :=
  (s.crn.inbox.find? fun m => m.typ == typ).map fun m => (m, s.crnSet fun c => { c with inbox := c.inbox.erase m })

/-- A ROSTER has come and is not yet taken: it wins over an expiry (R477). -/
def State.rosterWaits (s : State) : Bool := s.crn.inbox.any fun m => m.typ == CT.roster

/-! ### Claims (R460 to R462) -/

/-- CLAIM: the oldest received. -/
def execClaim (s : State) : Out :=
  .next (match s.crnTake CT.claim with
    | none => s
    | some (m, s) =>
      let c := (byteAt m.body 0, m.src)
      let st := s.crnState
      if st = 0 ∨ st = 4 then s
      else if 1 ≤ st ∧ st ≤ 3 ∧ (s.crn.inbox.any fun k => k.typ == CT.roster && k.at_ == m.at_) then s
      else if m.src = s.ownKey then s.keyDup
      else if st = 1 then
        (if s.crn.stuck then s
        else if beats s.ownStanding c then s.toClaiming
        else s.toFollow c)
      else if st = 2 then (if beats c s.ownStanding then (s.sendYield m.src).toFollow c else s)
      else if st = 3 then
        (if beats c s.crn.followed then (s.sendYield m.src).toFollow c else s.arm .followTo (1000 * msNs))
      else if st = 7 then s.sendRoster m.src
      else s)

/-- YIELD (R461). -/
def execYield (s : State) : Out :=
  .next (match s.crnTake CT.yield with
    | none => s
    | some (_, s) => if s.crnState = 2 then s.satInc R.CRN_CNT_YIELDS else s)

/-- T_LISTEN (R460). -/
def execTListen (s : State) : Out :=
  .next (if s.crnState = 1 ∧ s.due .tListen ∧ s.rosterWaits = false then s.toClaiming else s)

/-- CLAIM_WAIT: the node becomes head; a ROSTER or a better CLAIM that has come wins (R461, R477, R478). -/
def execClaimWait (s : State) : Out :=
  .next (
    let better := s.crn.inbox.any fun m => m.typ == CT.claim && beats (byteAt m.body 0, m.src) s.ownStanding
    if s.crnState = 2 ∧ s.due .claimWait ∧ s.rosterWaits = false ∧ better = false then s.toHead else s)

/-- FOLLOW_TO (R458). -/
def execFollowTo (s : State) : Out :=
  .next (if s.crnState = 3 ∧ s.due .followTo ∧ s.rosterWaits = false then s.toListen else s)

/-- BACKOFF (R458). -/
def execBackoff (s : State) : Out := .next (if s.crnState = 4 ∧ s.due .backoff then s.toListen else s)

/-- RESTART (R483, R484). -/
def execRestart (s : State) : Out :=
  .next (s.access Dom.net fun s =>
    let s := s.crnSet fun c => { c with stuck := false, dupAt := [] }
    if s.crnOn ∧ s.crnState ≠ 0 then s.toListen else s)

/-! ### Roster and joining (R463, R466, R471) -/

/-- An epoch is equal to the node's own or ahead of it (R156, R466). -/
def epochOk (new own : Nat) : Bool := decide ((new + 65536 - own) % 65536 ≤ 32767)

/-- Enter MEMBER (R463). -/
def State.toMember (s : State) : State :=
  ((s.crnTo 6).arm .beat (s.crn.rosterMs * msNs)).raise Ev.CRN_JOINED s.headKey (s.headKey / 2 ^ 32)

/-- ROSTER: the oldest received. -/
def execRoster (s : State) : Out :=
  .next (match s.crnTake CT.roster with
    | none => s
    | some (m, s) =>
      let l := rosterOf m.body
      let prio := ((l.find? fun e => e.key == m.src).map (·.prio)).getD 0
      let st := s.crnState
      let take (s : State) : State := s.takeRoster l (byteAt m.body 1) (beAt m.body 4 2) m.epoch
      if st = 1 ∧ s.crn.stuck then s
      else if 1 ≤ st ∧ st ≤ 3 then s.toJoining m.src prio
      else if st = 5 then
        (if m.src ≠ s.headKey then s
        else if s.crn.roster ≠ [] ∧ epochOk m.epoch (s.getF R.CRN_STAT_EPOCH) = false then s.satInc R.CRN_CNT_STALE
        else
          let listed := l.any fun e => e.key == s.ownKey && (e.state == 0 || e.state == 2 || e.state == 3)
          let s := (take s).crnSet fun c => { c with headPrio := prio }
          if listed then s.toMember.arm .headTo (3 * s.crn.rosterMs * msNs) else s)
      else if st = 6 then
        (if m.src = s.headKey then
          (if epochOk m.epoch (s.getF R.CRN_STAT_EPOCH) then
            let s := (take s).crnSet fun c => { c with headPrio := prio }
            s.arm .headTo (3 * s.crn.rosterMs * msNs)
          else s.satInc R.CRN_CNT_STALE)
        else if beats (prio, m.src) (s.crn.headPrio, s.headKey) then s.toJoining m.src prio
        else s)
      else if st = 7 then
        (if beats (prio, m.src) s.ownStanding then (s.sendYield m.src).toJoining m.src prio else s)
      else s)

/-- JOIN_RETRY (R458, R463). -/
def execJoinRetry (s : State) : Out :=
  .next (if s.crnState = 5 ∧ s.due .joinRetry then
      (if s.crn.joins < 5 then (s.crnSet fun c => { c with joins := c.joins + 1 }).sendJoin else s.toListen)
    else s)

/-- What a JOIN for a rank leads to: rank, STATE, ACTING, and whether it meets another member's rank (R465, R473). -/
def joinResult (others : List CrnNode) (role want ring : Nat) (acting : Bool) : Nat × Nat × Bool × Bool :=
  let holder := others.find? fun n => n.ent.rank == want && n.ent.state == 0
  if role = 0 then
    if ring ≤ want then (255, 2, false, false)
    else
      match holder with
      | none => (want, 0, false, false)
      | some h => if h.ent.acting then (255, 2, false, false) else (255, 3, false, true)
  else if acting ∧ want < ring ∧ holder.isNone then (want, 0, true, false)
  else (255, 0, false, false)

/-- Put a node into the head's table, in its place if it stands there. -/
def putNode (l : List CrnNode) (m : CrnNode) : List CrnNode :=
  if l.any fun n => n.ent.key == m.ent.key then l.map fun n => if n.ent.key = m.ent.key then m else n else l ++ [m]

/-- Take a rank away from the nodes that list it, but for one. -/
def freeRank (l : List CrnNode) (r but st : Nat) : List CrnNode :=
  l.map fun n => if n.ent.rank = r ∧ n.ent.key ≠ but ∧ n.ent.state = st then { n with ent := { n.ent with rank := 255, acting := false, state := if st = 0 then 3 else st } } else n

/-- A rank conflict of `key` is reported. -/
def State.rankConflict (s : State) (key rank : Nat) : State :=
  (s.crnFault 0x05 key rank key).raise Ev.CRN_RANK_CONFLICT rank key

/-- CAIRN_JOIN: the oldest JOIN received, at the head (R465, R469, R472, R473, R480). -/
def execCairnJoin (s : State) : Out :=
  .next (match s.crnTake CT.join with
    | none => s
    | some (m, s) =>
      if s.crnState ≠ 7 then s
      else
        let b := m.body
        let role := byteAt b 1
        let want := byteAt b 2
        let acting := byteAt b 3 == 1
        let n0 := beAt b 8 8
        let n1 := beAt b 16 8
        let known := s.crn.nodes.find? fun n => n.ent.key == m.src
        if known.any fun n => n.n0 != n0 || n.n1 != n1 then
          (s.crnFault 0x04 m.src 0 m.src).raise Ev.CRN_KEY_DUP m.src (m.src / 2 ^ 32)
        else if known.isNone ∧ 64 ≤ s.crn.nodes.length then s
        else
          let s := s.arm (.beatTo m.src) (3 * s.getF R.CRN_TIMER_ROSTER_MS * msNs)
          let ring := s.ownRing
          let s := if byteAt b 4 ≠ 0 ∧ ring ≠ 0 ∧ byteAt b 4 ≠ ring then
              (s.crnFault 0x09 m.src ring m.src).raise Ev.CRN_CFG_MISMATCH (byteAt b 4) m.src
            else s
          let others := s.crn.nodes.filter fun n => n.ent.key != m.src
          let r := joinResult others role want ring acting
          let node (rank st : Nat) (act : Bool) : CrnNode := ⟨⟨m.src, 255, role, rank, st, byteAt b 0, false, act⟩, n0, n1, want, m.at_⟩
          let base := if r.1 = 255 then s.crn.nodes else freeRank s.crn.nodes r.1 m.src 1
          let plain := putNode base (node r.1 r.2.1 r.2.2.1)
          let pos (k : Nat) : Nat := (((placeNodes plain).1.find? fun n => n.ent.key == k).map (·.ent.pos)).getD 255
          let rival := others.find? fun n => n.ent.rank == want && n.ent.state == 0 && n.at_ == m.at_ && decide (pos m.src < pos n.ent.key)
          match r.2.2.2, rival with
          | true, some h =>
            ((s.crnSet fun c => { c with nodes := putNode (freeRank base want m.src 0) (node want 0 false) }).rankConflict h.ent.key want).crnUpdate
          | true, none => ((s.crnSet fun c => { c with nodes := plain }).rankConflict m.src want).crnUpdate
          | false, _ => (s.crnSet fun c => { c with nodes := plain }).crnUpdate)

/-- ROSTER_PUBLISH: 50 ms after the change before (R466). -/
def execRosterPublish (s : State) : Out :=
  .next (if s.crnState = 7 ∧ s.due .publish then
      let s := s.disarm .publish
      if s.crn.dirty then s.crnPublish else s
    else s)

/-- ROSTER_MS: the head repeats its ROSTER (R466). -/
def execRosterMs (s : State) : Out :=
  .next (if s.crnState = 7 ∧ s.due .rosterMs then (s.rearm .rosterMs (s.getF R.CRN_TIMER_ROSTER_MS * msNs)).sendRoster 0 else s)

/-! ### Liveness (R458, R459, R468 to R472) -/

/-- A trigger with TARGET 9 is armed (R459). -/
def State.slotted (s : State) : Bool :=
  (List.range 8).any fun k => s.isSet (R.TIM_TTRG_CFG_EN k) && s.getF (R.TIM_TTRG_CFG_TARGET k) == 9

/-- HELLO_MS. -/
def execHelloMs (port : Fin 2) (s : State) : Out :=
  .next (
    let p := port.val
    if s.due (.hello p) = false ∨ s.linkUp p = false then s
    else
      let s := s.rearm (.hello p) (s.getF R.CRN_TIMER_HELLO_MS * msNs)
      if s.slotted then s.crnSet fun c => { c with helloDue := c.helloDue.set p true } else s.sendHello p)

/-- BEAT_TIMER. -/
def execBeatTimer (s : State) : Out :=
  .next (if s.crnState = 6 ∧ s.due .beat then
      let s := s.rearm .beat (s.crn.rosterMs * msNs)
      if s.slotted then s.crnSet fun c => { c with beatDue := true } else s.sendBeat
    else s)

/-- A slot edge: what is due goes out (R459). -/
def State.slotEdge (s : State) : State :=
  if s.crnOn = false then s
  else
    let s := s.forN 2 fun p s =>
      if s.linkUp p = false then s
      else if s.due (.hello p) then (s.rearm (.hello p) (s.getF R.CRN_TIMER_HELLO_MS * msNs)).sendHello p
      else if s.crn.helloDue.getD p false then s.sendHello p
      else s
    if s.crnState ≠ 6 then s
    else if s.due .beat then (s.rearm .beat (s.crn.rosterMs * msNs)).sendBeat
    else if s.crn.beatDue then s.sendBeat
    else s

/-- HELLO: the oldest received. -/
def execHello (s : State) : Out :=
  .next (match s.crnTake CT.hello with
    | none => s
    | some (m, s) =>
      let s := s.arm (.neighbour m.port) (3 * s.getF R.CRN_TIMER_HELLO_MS * msNs)
      if s.crn.nbr.getD m.port 0 = m.src then s
      else (s.crnSet fun c => { c with nbr := c.nbr.set m.port m.src }).headNbr)

/-- NEIGHBOUR_TO. -/
def execNeighbourTo (port : Fin 2) (s : State) : Out := .next (if s.due (.neighbour port.val) then s.nbrLost port.val else s)

/-- BEAT: the oldest received, at the head. -/
def execBeat (s : State) : Out :=
  .next (match s.crnTake CT.beat with
    | none => s
    | some (m, s) =>
      if s.crnState = 7 ∧ (s.crn.nodes.any fun n => n.ent.key == m.src && n.ent.state != 1 && !n.ent.head) then
        s.arm (.beatTo m.src) (3 * s.getF R.CRN_TIMER_ROSTER_MS * msNs)
      else s)

/-- HEAD_TO (R470). -/
def execHeadTo (s : State) : Out :=
  .next (if s.crnState = 6 ∧ s.due .headTo then (s.raise Ev.CRN_HEAD_LOST s.headKey (s.headKey / 2 ^ 32)).toListen else s)

/-- BEAT_TO of a node: it is LOST, unless a BEAT or JOIN of it has come (R469, R472, R479). -/
def execBeatTo (key : Nat) (s : State) : Out :=
  .next (if s.crnState ≠ 7 ∨ s.due (.beatTo key) = false then s
    else if s.crn.inbox.any fun m => m.src == key && (m.typ == CT.beat || m.typ == CT.join) then s
    else
      let s := (s.disarm (.beatTo key)).crnSet fun c => { c with nodes := c.nodes.map fun n =>
        if n.ent.key = key then { n with ent := { n.ent with state := 1 } } else n }
      ((s.crnFault 0x02 0 0 key).raise Ev.CRN_NODE_LOST key (key / 2 ^ 32)).crnUpdate)

/-- RANK_WAIT (R472). -/
def execRankWait (s : State) : Out :=
  .next (if s.crnState = 7 ∧ s.due .rankWait then
      ((s.disarm .rankWait).crnSet fun c => { c with rankOpen := true }).crnUpdate
    else s)

/-- The rank that a node would get back, if an acting spare holds it (R473). -/
def givesBack (l : List CrnNode) (r : Nat) : Option Nat :=
  if l.any fun n => n.ent.rank == r && n.ent.acting then
    ((inLine l).find? fun n => n.ent.role == 0 && n.ent.state == 2 && n.want == r).map (·.ent.key)
  else none

/-- REVERT (R473, R484). -/
def execRevert (s : State) : Out :=
  .next (s.access Dom.net fun s =>
    if s.crnOn = false ∨ s.crnState ≠ 7 then s
    else
      let s := s.forN s.crn.ring fun r s =>
        match givesBack s.crn.nodes r with
        | none => s
        | some k => s.crnSet fun c => { c with nodes := c.nodes.map fun n =>
            if n.ent.key = k then { n with ent := { n.ent with rank := r, state := 0 } }
            else if n.ent.rank = r then { n with ent := { n.ent with rank := 255, acting := false } }
            else n }
      s.crnUpdate)

/-! ### Messages of firmware (R457, R484) -/

def crnMrx : Ring :=
  ⟨R.CRN_MRX_BASE_ADDR, R.CRN_MRX_SIZE_N, R.CRN_MRX_SIZE_EN, R.CRN_MRX_TAIL_TAIL, R.CRN_MRX_HEAD_HEAD, R.CRN_MRX_HEAD_DROP⟩
def crnMtx : Ring :=
  ⟨R.CRN_MTX_BASE_ADDR, R.CRN_MTX_SIZE_N, R.CRN_MTX_SIZE_EN, R.CRN_MTX_TAIL_TAIL, R.CRN_MTX_HEAD_HEAD, R.CRN_MTX_HEAD_DROP⟩
def crnTxq : Ring :=
  ⟨R.CRN_TXQ_BASE_ADDR, R.CRN_TXQ_SIZE_N, R.CRN_TXQ_SIZE_EN, R.CRN_TXQ_TAIL_TAIL, R.CRN_TXQ_HEAD_HEAD, R.CRN_TXQ_HEAD_DROP⟩

/-- An uncorrectable SRAM error on a ring access of CRN: the message rings are disabled. -/
def State.crnRingErr (s : State) (r : Ring) (size : Nat) : State :=
  let a := s.ringDesc r size
  (((s.setFs [(R.CRN_MRX_SIZE_EN, 0), (R.CRN_MTX_SIZE_EN, 0), (r.en, 0)]).sramUe a).flag R.CRN_INT_RINGERR).raise Ev.CRN_BAD a 4

/-- Put a message into CRN_MRX. -/
def State.crnPut (s : State) (l : List Byte) (stamp info : Nat) (ue : Bool) : State :=
  if ue ∧ s.ringHas crnMrx then s.crnRingErr crnMrx 16
  else
    match s.ringFill crnMrx l stamp info with
    | (s, .done) => s.flag R.CRN_INT_MSG
    | (s, _) => s

/-- Deliver a received message to firmware. -/
def State.crnDeliver (s : State) (m : CrnMsg) (ue : Bool) : State :=
  s.crnPut ([BitVec.ofNat 8 m.typ, 0] ++ leBytes 2 m.body.length ++ leBytes 8 m.dst ++ m.body) m.stamp (rxInfo m.port 2 false m.vlan) ue

/-- Deliver the oldest message of a type to firmware. -/
def State.crnToFw (s : State) (typ : Nat) (ue : Bool) : State :=
  match s.crnTake typ with
  | none => s
  | some (m, s) => s.crnDeliver m ue

/-- CAIRN_STEP: a STEP message (R499). -/
def execCairnStep (ue : Bool) (s : State) : Out := .next (s.crnToFw CT.step ue)

/-- CKPT_MARK (R506). -/
def execCkptMark (ue : Bool) (s : State) : Out := .next (s.crnToFw CT.ckptMark ue)

/-- CAIRN_FAULT: a FAULT message. -/
def execCairnFault (ue : Bool) (s : State) : Out := .next (s.crnToFw CT.fault ue)

/-- MESSAGE_SEND: CRN takes the descriptor at HEAD of CRN_MTX (R425, R484). -/
def execMessageSend (ue : Bool) (s : State) : Out :=
  .next (if s.crnOn = false ∨ s.ringHas crnMtx = false then s
    else if ue then s.crnRingErr crnMtx 16
    else
      let d := s.ringDesc crnMtx 16
      let buf := leNat (s.ringRead d 4)
      let flags := leNat (s.ringRead (d + 6) 2)
      let n := leNat (s.ringRead (buf + 2) 2)
      let mask := flags % 4
      let complete (s : State) (status : Nat) : State :=
        ((s.ringWrite (d + 12) (leBytes 2 status)).ringWrite (d + 6) (leBytes 2 (flags % 2 ^ 15))).ringNext crnMtx
      if flags.testBit 15 = false then s
      else if leNat (s.ringRead (d + 4) 2) < 12 + n ∨ 1468 < n then (complete s 1).satInc R.CRN_MTX_HEAD_DROP
      else if mask = 0 then (complete s 2).satInc R.CRN_MTX_HEAD_DROP
      else if (maskPorts mask).all s.linkUp = false then (complete s 3).satInc R.CRN_MTX_HEAD_DROP
      else
        let l := s.ringRead buf (12 + n)
        complete (s.crnSendOn (maskPorts mask) (byteAt l 0) (fieldAt l 4 8) (l.drop 12)) 0)

end Sys2Proof.Machine
end

