-- ==== Sys2Proof/Machine/I2c.lean ====
section
/-! DEFINITION. The I²C controllers (R133 to R137, R142, R144, R146). -/

namespace Sys2Proof.Machine

def State.i2cOf (s : State) (i : Nat) : I2cState := s.i2c.getD i .init

def State.setI2c (s : State) (i : Nat) (f : I2cState → I2cState) : State := { s with i2c := s.i2c.set i (f (s.i2cOf i)) }

/-- An event of controller `i`: its source block and its number as first argument (R144). -/
def State.i2cEvent (s : State) (e : EvId) (i : Nat) : State := s.raiseFrom e (18 + i) i 0

/-- Nanoseconds of an SCL period in the bus mode: 100 kHz, 400 kHz and 1 MHz (log entry 108). -/
def State.i2cPeriod (s : State) (i : Nat) : Nat :=
  match s.getF (R.I2C_CFG_MODE i) with
  | 0 => 10000
  | 1 => 2500
  | _ => 1000

/-- t_BUF of the bus mode (R133). -/
def State.i2cBuf (s : State) (i : Nat) : Nat :=
  match s.getF (R.I2C_CFG_MODE i) with
  | 0 => 4700
  | 1 => 1300
  | _ => 500

/-- The transfer has left the bus; from `free` on the bus is free, where that is known already (R133). -/
def State.i2cOff (s : State) (i : Nat) (free : Option Nat) : State :=
  s.setI2c i fun k => { k with run := false, held := false, freeAt := free }

/-- The transfer ends with a result (R144, R146). -/
def State.i2cEnd (s : State) (i result : Nat) : State :=
  s.setFlags [R.I2C_INT_DONE i] [(R.I2C_STATUS_BUSY i, 0), (R.I2C_STATUS_RESULT i, result)]

/-- The waiting transfer begins with a START, once the bus is free and the backoff of its attempt, in units of 32 SCL periods, has
passed; a bus held for a repeated START is this controller's (R133, R134). -/
def State.i2cGo (s : State) (i : Nat) : State :=
  let k := s.i2cOf i
  let free := match k.freeAt with
    | some t => decide (t + s.getF (R.I2C_STATUS_ATTEMPT i) * 32 * s.i2cPeriod i ≤ s.now)
    | none => false
  let go := s.isSet (R.I2C_STATUS_BUSY i) && !k.run && (k.held || free)
  if go then
    (s.setI2c i fun k => { k with run := true, held := false, freeAt := none }).setF (R.I2C_STATUS_XFERRED i) 0
  else s

/-- I2C_TRANSFER: a write of I2C_CMD with GO = 1; the START follows at once on a free bus, and else once it is free (R133, R142,
R654). -/
def execI2cTransfer (i : Fin 2) (addr : Nat) (a10 rd : Bool) (len : Nat) (rstart : Bool) (s : State) : Out :=
  .next (s.access Dom.core fun s =>
    let i := i.val
    if s.isSet (R.I2C_STATUS_BUSY i) ∨ len % 256 = 0 then s.flag (R.I2C_INT_REFUSED i)
    else
      let b := fun (x : Bool) => if x then 1 else 0
      (s.setFs [(R.I2C_CMD_ADDR i, addr), (R.I2C_CMD_A10 i, b a10), (R.I2C_CMD_RD i, b rd), (R.I2C_CMD_LEN i, len),
        (R.I2C_CMD_RSTART i, b rstart), (R.I2C_STATUS_BUSY i, 1), (R.I2C_STATUS_ATTEMPT i, 0),
        (R.I2C_STATUS_XFERRED i, 0)]).i2cGo i)

/-- Received bytes go into the receive FIFO, 32 at most. -/
def State.i2cReceive (s : State) (i : Nat) (l : List Byte) : State :=
  s.setI2c i fun k => { k with rx := k.rx ++ l.take (32 - k.rx.length) }

/-- The transfer stands on the bus. -/
def State.i2cRuns (s : State) (i : Nat) : Bool := s.isSet (R.I2C_STATUS_BUSY i) && (s.i2cOf i).run

/-- What an attempt has moved: `n` bytes, read ones into the receive FIFO, written ones out of the transmit FIFO. -/
def State.i2cMoved (s : State) (i n : Nat) (data : List Byte) : State :=
  let n := min n (s.getF (R.I2C_CMD_LEN i))
  let s := s.setF (R.I2C_STATUS_XFERRED i) n
  if s.isSet (R.I2C_CMD_RD i) then s.i2cReceive i (data.take n) else s.setI2c i fun k => { k with tx := k.tx.drop n }

/-- I2C_TRANSFER_DONE: `nack` is 0 (OK), 1 (the address) or 2 (a data byte of a write was not acknowledged); `count` the
bytes transferred, `data` the bytes read (R133, R144). A STOP ends it, or the bus is held for a repeated START. -/
def execI2cTransferDone (i : Fin 2) (nack : Fin 3) (count : Nat) (data : List Byte) (s : State) : Out :=
  .next (let i := i.val
    if s.i2cRuns i = false then s
    else
      let s := s.i2cMoved i count data
      let held := decide (nack.val = 0) && s.isSet (R.I2C_CMD_RSTART i)
      let s := s.i2cOff i (if held then none else some (s.now + s.i2cBuf i))
      let s := (s.doIf held fun s => s.setI2c i fun k => { k with held := true }).i2cEnd i nack.val
      s.doIf (decide (nack.val ≠ 0)) fun s => (s.flag (R.I2C_INT_NACK i)).i2cEvent Ev.I2C_NACK i)

/-- The number of address bytes: one; with a 10-bit address two, and in a read the repeated first one too (R135, log entry 110). -/
def State.i2cAddrBytes (s : State) (i : Nat) : Nat :=
  if s.isSet (R.I2C_CMD_A10 i) then (if s.isSet (R.I2C_CMD_RD i) then 3 else 2) else 1

/-- ARBITRATION_LOST: the byte and bit of the loss, and the whole bytes a read had received (R134 to R136). The bus is the winner's. -/
def execArbitrationLost (i : Fin 2) (byte bit : Nat) (data : List Byte) (s : State) : Out :=
  .next (let i := i.val
    if s.i2cRuns i = false then s
    else
      let n := s.i2cAddrBytes i
      let addr := decide (byte < n)
      let rd := s.isSet (R.I2C_CMD_RD i)
      let s := s.setFs [(R.I2C_ARB_BYTE i, byte), (R.I2C_ARB_BIT i, bit)]
      let s := (s.i2cOff i none).flag (if addr then R.I2C_INT_ARBLOST_ADDR i else R.I2C_INT_ARBLOST_DATA i)
      let s := (s.satInc (R.I2C_CNT_ARBLOST i)).i2cEvent Ev.I2C_ARBLOST i
      let whole := if addr then 0 else byte - n + (if rd ∧ bit = 8 then 1 else 0)
      let s := s.setF (R.I2C_STATUS_XFERRED i) whole
      let s := s.doIf (!addr && rd) fun s => s.i2cReceive i (data.take whole)
      let s := s.doIf (!addr && !rd) fun s =>
        (s.flag (R.I2C_INT_TGT_UNKNOWN i)).i2cEvent Ev.I2C_TGT_UNKNOWN i
      let a := s.getF (R.I2C_STATUS_ATTEMPT i)
      if a < s.getF (R.I2C_CFG_RETRY i) then s.setF (R.I2C_STATUS_ATTEMPT i) (a + 1)
      else (((s.satInc (R.I2C_CNT_GIVEUP i)).flag (R.I2C_INT_GIVEUP i)).i2cEvent Ev.I2C_ARB_GIVEUP i).i2cEnd i 3)

/-- What the controller sees on a bus that it does not drive: a START takes it, a STOP frees it after t_BUF, and both lines high without
a STOP after IDLE_US (R133). -/
def State.i2cSees (s : State) (i : Nat) (bus : I2cLine) : State :=
  let k := s.i2cOf i
  if k.run ∨ k.held then s
  else match bus with
    | .quiet => s
    | .start => s.i2cOff i none
    | .stop => s.i2cOff i (some (s.now + s.i2cBuf i))
    | .idle => if k.freeAt.isSome then s else s.i2cOff i (some (s.now + s.getF (R.I2C_CFG_IDLE_US i) * usNs))

/-- I2C_RETRY: what happens on the bus while the controller waits; once the bus is free and the backoff has passed, the whole transfer
starts again (R133, R134). -/
def execI2cRetry (i : Fin 2) (bus : I2cLine) (s : State) : Out :=
  .next (if s.on Dom.core then (s.i2cSees i.val bus).i2cGo i.val else s)

/-- The transfer ends on a bus that it no longer drives; what an attempt on the bus had moved stays. -/
def State.i2cAbort (s : State) (i result count : Nat) (data : List Byte) : State :=
  ((s.doIf (s.i2cOf i).run fun s => s.i2cMoved i count data).i2cOff i none).i2cEnd i result

/-- BUS_STUCK: SCL low beyond TOUT_MS, or SDA still low after the bus-clear pulses (R137). -/
def execBusStuck (i : Fin 2) (count : Nat) (data : List Byte) (s : State) : Out :=
  .next (if s.isSet (R.I2C_STATUS_BUSY i.val) then
      ((s.flag (R.I2C_INT_STUCK i.val)).i2cEvent Ev.I2C_BUS_STUCK i.val).i2cAbort i.val 4 count data
    else s)

/-- I2C_BUSERR: a START or STOP in mid-byte (R142, R144). -/
def execI2cBuserr (i : Fin 2) (count : Nat) (data : List Byte) (s : State) : Out :=
  .next (if s.i2cRuns i.val then
      ((s.flag (R.I2C_INT_BUSERR i.val)).i2cEvent Ev.I2C_BUSERR i.val).i2cAbort i.val 5 count data
    else s)

/-- I2C_TXD: one byte into the transmit FIFO; a full FIFO takes none (R146). -/
def execI2cTxd (i : Fin 2) (data : Byte) (s : State) : Out :=
  .next (s.access Dom.core fun s =>
    s.setI2c i.val fun k => if k.tx.length < 32 then { k with tx := k.tx ++ [data] } else k)

/-- I2C_RXD: the oldest received byte, which leaves the FIFO; an empty FIFO's value is not stated (R146). -/
def execI2cRxd (i : Fin 2) (s : State) : Out :=
  .next (s.access Dom.core fun s =>
    match (s.i2cOf i.val).rx with
    | b :: l => (s.setI2c i.val fun k => { k with rx := l }).answer (.data (b.zeroExtend 32))
    | [] => let d := s.draw 8; d.2.answer (.data (BitVec.ofNat 32 d.1)))

end Sys2Proof.Machine
end

