-- ==== Sys2Proof/Machine/Pins.lean ====
section
/-! DEFINITION. General-purpose I/O, the UARTs and the SPI controller (R639 to R641, R645, R647 to R649). -/

namespace Sys2Proof.Machine

/-! ### GPIO -/

/-- GPIO_SET. -/
def execGpioSet (data : Word) (s : State) : Out :=
  .next (s.access Dom.core fun s => (s.setF R.GPIO_OUT_LEVEL (s.getF R.GPIO_OUT_LEVEL ||| data.toNat % 2 ^ 24)).drivePins)

/-- GPIO_CLR. -/
def execGpioClr (data : Word) (s : State) : Out :=
  .next (s.access Dom.core fun s =>
    let o := s.getF R.GPIO_OUT_LEVEL
    (s.setF R.GPIO_OUT_LEVEL (o ^^^ (o &&& data.toNat))).drivePins)

/-- GPIO_EDGE: the level at a pin that the device does not drive changes. -/
def execGpioEdge (pin : Fin 24) (level : Bool) (s : State) : Out :=
  .next (if s.on Dom.core = false ∨ (s.pinDrive pin.val).isSome then s else s.pinLevel pin.val level)

/-! ### UART (R640) -/

/-- Change a UART's FIFOs; UART_FIFO follows. -/
def State.setUart (s : State) (i : Nat) (u : UartState) : State :=
  ({ s with uart := s.uart.set i u }).setFs [(R.UART_FIFO_TXLVL i, u.tx.length), (R.UART_FIFO_RXLVL i, u.rx.length)]

/-- UART_TXD: pushes one byte; ignored when the FIFO is full. -/
def execUartTxd (i : Fin 2) (data : Byte) (s : State) : Out :=
  .next (s.access Dom.core fun s =>
    let u := s.uartOf i.val
    if u.tx.length < 64 then s.setUart i.val { u with tx := u.tx ++ [data] } else s)

/-- UART_TX_COMPLETE: the transmit FIFO and the shifter have become empty; with flow control only while CTS_N is low. -/
def execUartTxComplete (i : Fin 2) (s : State) : Out :=
  .next (
    let k := i.val
    let u := s.uartOf k
    if s.on Dom.core = false ∨ u.tx = [] ∨ (s.uartFlow k ∧ s.bitF R.GPIO_IN_LEVEL (5 + 2 * k)) then s
    else (s.setUart k { u with tx := [] }).flag (R.UART_INT_TXEMPTY k))

/-- A receive fault: its flag and the event with its kind. -/
def State.uartErr (s : State) (i kind : Nat) (flag : Fld) : State := s.raiseInt Ev.UART_RX_ERR flag i kind

/-- Frames have a parity bit. -/
def State.uartParity (s : State) (i : Nat) : Bool := s.getF (R.UART_CFG_PARITY i) == 1 || s.getF (R.UART_CFG_PARITY i) == 2

/-- UART_RX_BYTE: a frame comes in; `kind`: 0 good, 1 a stop bit read as 0, 2 bad parity, where there is a parity bit, 4 a break. In recovery the boot ROM takes
UART0's bytes (R540). -/
def execUartRxByte (i : Fin 2) (data : Byte) (kind : Fin 5) (s : State) : Out :=
  .next (
    let k := i.val
    let u := s.uartOf k
    if s.on Dom.core = false then s
    else match kind.val with
    | 1 => (s.satInc (R.UART_CNT_FRAME k)).uartErr k 1 (R.UART_INT_FRAMING k)
    | 4 => s.uartErr k 4 (R.UART_INT_BREAK k)
    | n =>
      if n = 2 ∧ s.uartParity k then (s.satInc (R.UART_CNT_FRAME k)).uartErr k 2 (R.UART_INT_PARITY k)
      else if 64 ≤ u.rx.length then (s.satInc (R.UART_CNT_OVERRUN k)).uartErr k 3 (R.UART_INT_OVERRUN k)
      else if k = 0 ∧ s.cpu.bootRom ∧ s.isSet R.SYS_BOOT_RECOVERY then s.recoveryByte data
      else ((s.setUart k { u with rx := u.rx ++ [data] }).flag (R.UART_INT_RXDATA k)).drivePins)

/-- UART_RXD: a read returns the oldest byte and removes it; 0 when none waits. -/
def execUartRxd (i : Fin 2) (s : State) : Out :=
  .next (
    let k := i.val
    let u := s.uartOf k
    if s.on Dom.core = false then s.answer .busError
    else ((s.setUart k { u with rx := u.rx.drop 1 }).drivePins).answer (.data (BitVec.ofNat 32 (byteAt u.rx 0))))

/-! ### SPI (R641) -/

/-- Change the SPI controller; SPI_FIFO follows. -/
def State.setSpi (s : State) (p : SpiState) : State :=
  ({ s with spi := p }).setFs [(R.SPI_FIFO_TXLVL, p.tx.length), (R.SPI_FIFO_RXLVL, p.rx.length)]

/-- Exchange bytes while a transfer lasts, the transmit FIFO holds one and the receive FIFO has room. -/
def State.spiPump : Nat → State → State
  | 0, s => s
  | n + 1, s =>
    let p := s.spi
    match p.tx with
    | [] => s
    | _ :: tx =>
      if s.isSet R.SPI_STATUS_BUSY ∧ s.getF R.SPI_STATUS_XFERRED < p.len ∧ p.rx.length < 32 then
        State.spiPump n ((s.setSpi { p with tx := tx, rx := p.rx ++ [p.miso.headD 0], miso := p.miso.drop 1 }).wrapInc R.SPI_STATUS_XFERRED)
      else s

/-- SPI_TRANSFER: SPI_CMD.GO; `miso` are the bytes the target answers. -/
def execSpiTransfer (len : Fin 256) (cs : Fin 8) (hold : Bool) (miso : List Byte) (s : State) : Out :=
  .next (s.access Dom.core fun s =>
    let c := cs.val
    if s.isSet R.SPI_STATUS_BUSY ∨ len.val = 0 ∨ 4 < c ∨ (0 < c ∧ s.pinFn (c - 1) ≠ 2) then s.flag R.SPI_INT_REFUSED
    else
      let s := s.setSpi { s.spi with len := len.val, miso := miso, sel := some c, hold := hold }
      State.spiPump 32 (s.setFs [(R.SPI_STATUS_BUSY, 1), (R.SPI_STATUS_XFERRED, 0)]).drivePins)

/-- SPI_TXD: pushes one byte; no place is left for a 33rd. -/
def execSpiTxd (data : Byte) (s : State) : Out :=
  .next (s.access Dom.core fun s =>
    if s.spi.tx.length < 32 then State.spiPump 32 (s.setSpi { s.spi with tx := s.spi.tx ++ [data] }) else s)

/-- SPI_RXD: a read returns the oldest byte and removes it; 0 when none waits. -/
def execSpiRxd (s : State) : Out :=
  .next (if s.on Dom.core = false then s.answer .busError
    else
      let b := byteAt s.spi.rx 0
      (State.spiPump 32 (s.setSpi { s.spi with rx := s.spi.rx.drop 1 })).answer (.data (BitVec.ofNat 32 b)))

/-- SPI_TRANSFER_DONE: every byte has been exchanged. -/
def execSpiTransferDone (s : State) : Out :=
  .next (if s.on Dom.core ∧ s.isSet R.SPI_STATUS_BUSY ∧ s.getF R.SPI_STATUS_XFERRED = s.spi.len then
      let s := (s.setSpi { s.spi with sel := if s.spi.hold then s.spi.sel else none, miso := [] }).drivePins
      s.setFlags [R.SPI_INT_DONE] [(R.SPI_STATUS_BUSY, 0)]
    else s)

end Sys2Proof.Machine
end

