-- ==== Sys2Proof/Machine/Xfer.lean ====
section
/-! DEFINITION. Chunk transfer (R474 to R476, R481, R483, R485, R518). -/

namespace Sys2Proof.Machine

/-! ### CRN's memory requests: at most 8 of the CD's 16 -/

/-- Requests of CRN that are outstanding or wait for one of the CD's places. -/
def State.crnReqs (s : State) : Nat :=
  (s.sil.reqs.filter fun r => match r.user with | .xfer _ _ _ => true | _ => false).length
    + (s.sil.memWait.filter fun r => match r.user with | .xfer _ _ _ => true | _ => false).length

/-- Change a send transfer, named by its serial number. -/
def State.setTx (s : State) (ser : Nat) (f : XferTx → XferTx) : State :=
  s.crnSet fun c => { c with tx := c.tx.map fun t => if t.ser = ser then f t else t }

/-- The next read of an object that is not wholly asked for. -/
def State.nextRead (s : State) : Option XferTx := s.crn.tx.find? fun t => decide (t.asked < t.len)

/-- Ask for what waits, writes first, while CRN holds fewer than 8 requests. -/
def State.crnAsk : Nat → State → State
  | 0, s => s
  | n + 1, s =>
    if 8 ≤ s.crnReqs then s
    else
      match s.crn.asks with
      | a :: rest => State.crnAsk n ((s.crnSet fun c => { c with asks := rest }).memAsk a)
      | [] =>
        match s.nextRead with
        | some t =>
          let k := min 256 (t.len - t.asked)
          State.crnAsk n ((s.setTx t.ser fun t => { t with asked := t.asked + k }).memAsk
            ⟨false, s.cfg Img.LEARN_TENANT 0, t.src + t.asked, k, [], .xfer true t.ser t.asked⟩)
        | none => s

/-! ### The sender (R476) -/

/-- Fragment at `o` of a send transfer. -/
def XferTx.frag (t : XferTx) (o : Nat) : List Byte :=
  ((List.range 4).flatMap fun i => (Sparse.find t.parts (o + 256 * i)).getD []).take (min 1024 (t.len - o))

/-- Send one CHUNK_DATA (R474). -/
def State.sendFrag (s : State) (t : XferTx) (o : Nat) : State :=
  let d := t.frag o
  s.crnSend CT.chunkData t.dst (beBytes 4 t.id ++ beBytes 4 t.len ++ beBytes 4 o ++ beBytes 4 t.dest ++ beBytes 4 (t.crc.getD 0)
    ++ beBytes 4 t.step ++ beBytes 1 t.kind ++ beBytes 1 (if t.len ≤ o + 1024 then 1 else 0) ++ beBytes 2 d.length ++ d)

/-- Send new fragments up to 64 past CUM. -/
def State.sendWindow : Nat → Nat → State → State
  | 0, _, s => s
  | n + 1, ser, s =>
    match s.crn.tx.find? fun t => t.ser == ser with
    | none => s
    | some t =>
      if t.next < t.len ∧ t.next < t.cum + 64 * 1024 then
        State.sendWindow n ser ((s.setTx ser fun t => { t with next := t.next + 1024 }).sendFrag t t.next)
      else s

/-- A send transfer ends: the outcome goes into its descriptor (R476, R485). -/
def State.txEnd (s : State) (t : XferTx) (status reason : Nat) : State :=
  let flags := leNat (s.ringRead (t.desc + 29) 1)
  let s := (s.disarm (.resend t.ser)).crnSet fun c => { c with tx := c.tx.filter fun u => u.ser != t.ser }
  let s := s.ringWrite (t.desc + 30) (leBytes 1 status ++ leBytes 1 reason)
  let s := (s.ringWrite (t.desc + 29) (leBytes 1 (flags % 128))).flag R.CRN_INT_TXDONE
  if status = 1 then s
  else ((s.satInc R.CRN_CNT_XFAIL).flag R.CRN_INT_XFAIL).raise Ev.CRN_XFER_FAIL t.id reason status

/-- TRANSFER_START: CRN takes the send descriptor at HEAD (R476, R485). -/
def execTransferStart (ue : Bool) (s : State) : Out :=
  .next (
    let d := s.ringDesc crnTxq 32
    let b := s.ringRead d 32
    if s.crnOn = false ∨ s.ringHas crnTxq = false ∨ 4 ≤ s.crn.tx.length then s
    else if ue then s.crnRingErr crnTxq 32
    else if (byteAt b 29).testBit 7 = false then s
    else
      let len := fieldAt b 8 4
      let t : XferTx := ⟨s.crn.nextSer, s.crn.nextId, d, fieldAt b 0 8, len, fieldAt b 12 4, fieldAt b 16 8, fieldAt b 24 4, byteAt b 28, [],
        0, none, 0, 0, 0, 0⟩
      let s := (s.ringNext crnTxq).crnSet fun c => { c with nextSer := c.nextSer + 1, nextId := (c.nextId + 1) % 2 ^ 32, tx := c.tx ++ [t] }
      if len = 0 ∨ 67108864 < len then s.txEnd t 2 1
      else s.crnAsk 8)

/-- A part of an object has been read. -/
def State.xferRead (s : State) (ser off status : Nat) (data : List Byte) : State :=
  match s.crn.tx.find? fun t => t.ser == ser with
  | none => s.crnAsk 8
  | some t =>
    if status ≠ 0 then (s.txEnd t 3 0).crnAsk 8
    else
      let parts := Sparse.put t.parts off (padTo (min 256 (t.len - off)) data)
      let all := decide (t.len ≤ 256 * parts.length)
      let s := s.setTx ser fun t => { t with
        parts := parts
        crc := if all then some (crc32c (parts.flatMap fun p => p.2)) else none }
      let s := s.crnAsk 8
      if all then (s.sendWindow 64 ser).arm (.resend ser) (2 * msNs) else s

/-- CHUNK_ACK: the oldest received (R476). -/
def execChunkAck (s : State) : Out :=
  .next (match s.crnTake CT.chunkAck with
    | none => s
    | some (m, s) =>
      match s.crn.tx.find? fun t => t.id == beAt m.body 0 4 && t.dst == m.src with
      | none => s
      | some t =>
        let status := byteAt m.body 16
        let cum := beAt m.body 4 4
        let sack := beAt m.body 8 8
        if status = 1 then (s.txEnd t 1 0).crnAsk 8
        else if status = 2 ∨ status = 3 then (s.txEnd t status (byteAt m.body 17)).crnAsk 8
        else if status = 0 ∧ cum ≤ t.len ∧ (t.cum < cum ∨ (t.cum = cum ∧ t.sack ≠ sack)) then
          let s := s.setTx t.ser fun t => { t with cum := cum, sack := sack, tries := 0, next := max t.next cum }
          (s.sendWindow 64 t.ser).arm (.resend t.ser) (2 * msNs)
        else s)

/-- The fragments sent and not acknowledged. -/
def XferTx.unacked (t : XferTx) : List Nat :=
  ((List.range 64).map fun i => t.cum + 1024 * i).filter fun o =>
    decide (o < t.next) && (o == t.cum || !t.sack.testBit ((o - t.cum) / 1024 - 1))

/-- RESEND_TIMEOUT of the send transfer `id`: 2 ms without progress (R476, R481). -/
def execResendTimeout (id : Nat) (s : State) : Out :=
  .next (match s.crn.tx.find? fun t => t.id == id with
    | none => s
    | some t =>
      if s.due (.resend t.ser) = false then s
      else if s.crn.inbox.any fun m => m.typ == CT.chunkAck && m.src == t.dst && beAt m.body 0 4 == id then s
      else if 7 ≤ t.tries then (s.txEnd t 3 0).crnAsk 8
      else
        let s := (s.setTx t.ser fun t => { t with tries := t.tries + 1 }).arm (.resend t.ser) (2 * msNs)
        s.forL t.unacked fun o s => s.sendFrag t o)

/-! ### The receiver (R475) -/

def State.setRx (s : State) (ser : Nat) (f : XferRx → XferRx) : State :=
  s.crnSet fun c => { c with rx := c.rx.map fun t => if t.ser = ser then f t else t }

/-- Fragments of a transfer. -/
def XferRx.count (t : XferRx) : Nat := (t.total + 1023) / 1024

/-- The number of fragments held in order from the first. -/
def XferRx.inOrder (t : XferRx) : Nat :=
  ((List.range t.count).find? fun i => (Sparse.find t.frags i).isNone).getD t.count

/-- CUM and SACK. -/
def XferRx.ack (t : XferRx) : Nat × Nat :=
  let n := t.inOrder
  (min t.total (1024 * n), (List.range 64).foldl (fun a i => if (Sparse.find t.frags (n + 1 + i)).isSome then a + 2 ^ i else a) 0)

/-- Send CHUNK_ACK. -/
def State.xferAck (s : State) (dst id cum sack status reason : Nat) : State :=
  s.crnSend CT.chunkAck dst (beBytes 4 id ++ beBytes 4 cum ++ beBytes 8 sack ++ beBytes 1 status ++ beBytes 1 reason ++ [0, 0, 0, 0, 0, 0])

/-- Close a receive transfer. -/
def State.rxClose (s : State) (ser : Nat) : State :=
  ((s.disarm (.chunkAck ser)).disarm (.xferIdle ser)).crnSet fun c => { c with rx := c.rx.filter fun t => t.ser != ser }

/-- Acknowledge what is held so far. -/
def State.ackNow (s : State) (t : XferRx) : State :=
  let a := t.ack
  ((s.setRx t.ser fun t => { t with unack := 0 }).disarm (.chunkAck t.ser)).xferAck t.src t.id a.1 a.2 0 0

/-- A receive transfer fails. -/
def State.rxFail (s : State) (t : XferRx) (reason : Nat) : State :=
  let a := t.ack
  let s := (s.rxClose t.ser).xferAck t.src t.id a.1 a.2 3 reason
  ((s.satInc R.CRN_CNT_XFAIL).flag R.CRN_INT_XFAIL).raise Ev.CRN_XFER_FAIL t.id reason 3

/-- Remember a completed XFER_ID: the last 16 of each source. -/
def noteDone (l : List (Nat × Nat)) (src id : Nat) : List (Nat × Nat) :=
  ((src, id) :: l.filter fun e => e.1 == src).take 16 ++ l.filter fun e => e.1 != src

/-- Every byte is held: the object is judged (R475). What the completion message holds the spec does not say: free values. -/
def State.rxDone (s : State) (t : XferRx) (m : CrnMsg) (ue : Bool) : State :=
  if crc32c (t.frags.flatMap fun p => p.2) = t.crc then
    let s := (s.rxClose t.ser).crnSet fun c => { c with doneIds := noteDone c.doneIds t.src t.id }
    let s := s.xferAck t.src t.id t.total 0 1 0
    let n := s.drawBelow 1480
    let d := n.2.draw (8 * (n.1 + 1))
    d.2.crnPut (leBytes (n.1 + 1) d.1) m.stamp (rxInfo m.port 2 false m.vlan) ue
  else s.rxFail t 4

/-- Why a new receive transfer is refused: REASON, 0 when it is not. -/
def State.rxRefused (s : State) (total dest kind : Nat) : Nat :=
  let ten := s.getF (R.TEN_STATE_STATE (s.cfg Img.LEARN_TENANT 0))
  let win := s.getF (R.CRN_RXWIN_SIZE_BYTES kind)
  if 8 ≤ s.crn.rx.length then 3
  else if kind = 0 ∨ 3 < kind ∨ win = 0 then 5
  else if win < dest + total then 1
  else if (ten ≠ 2 ∧ ten ≠ 3) ∨ s.on Dom.sill = false ∨ (s.linkState ≠ 2 ∧ s.linkState ≠ 3) then 2
  else 0

/-- Write a new fragment into the window (R475). -/
def State.rxWrite (s : State) (t : XferRx) (o : Nat) (d : List Byte) : State :=
  let a := s.getW2 (fun k => if k = 0 then R.CRN_RXWIN_BASELO_ADDR t.kind else R.CRN_RXWIN_BASEHI_ADDR t.kind) + t.dest + o
  let asks := ((List.range 4).filter fun i => decide (256 * i < d.length)).map fun i =>
    let p := (d.drop (256 * i)).take 256
    (⟨true, s.cfg Img.LEARN_TENANT 0, a + 256 * i, p.length, p, .xfer false t.ser (o + 256 * i)⟩ : MemAsk)
  (s.crnSet fun c => { c with asks := c.asks ++ asks }).crnAsk 8

/-- A sound fragment of an open transfer. -/
def State.rxFrag (s : State) (t : XferRx) (m : CrnMsg) (o : Nat) (d : List Byte) (ue : Bool) : State :=
  let s := s.arm (.xferIdle t.ser) (100 * msNs)
  let wait (s : State) : State := if s.armed (.chunkAck t.ser) then s else s.arm (.chunkAck t.ser) (200 * usNs)
  if (Sparse.find t.frags (o / 1024)).isSome then wait s
  else
    let t := { t with frags := Sparse.put t.frags (o / 1024) d, unack := t.unack + 1 }
    let s := (s.setRx t.ser fun _ => t).rxWrite t o d
    if t.frags.length = t.count then s.rxDone t m ue
    else if 16 ≤ t.unack then s.ackNow t
    else wait s

/-- The address a job reads a slot at: REDUCE its output, COPY its input (R488, R518). -/
def Job.slotRead (j : Job) : Option Nat :=
  if j.started = false then none
  else if j.op = 4 ∧ j.arg 0 = 1 then some j.outAddr
  else if j.op = 5 then some j.inAddr
  else none

/-- A GRAD object whose slot a REDUCE or COPY job is still reading: its fragments wait (R518). -/
def State.slotBusy (s : State) (m : CrnMsg) : Bool :=
  let b := m.body
  let a := s.getW2 (fun k => if k = 0 then R.CRN_RXWIN_BASELO_ADDR 1 else R.CRN_RXWIN_BASEHI_ADDR 1) + beAt b 12 4
  byteAt b 24 == 1 && s.ad.dsp.jobs.any fun j => j.tenant == s.cfg Img.LEARN_TENANT 0 &&
    (match j.slotRead with | some x => decide (x < a + beAt b 4 4 ∧ a < x + j.inLen) | none => false)

/-- Take the oldest CHUNK_DATA that need not wait. -/
def State.chunkTake (s : State) : Option (CrnMsg × State) :=
  (s.crn.inbox.find? fun m => m.typ == CT.chunkData && !s.slotBusy m).map fun m =>
    (m, s.crnSet fun c => { c with inbox := c.inbox.erase m })

/-- CHUNK_DATA: the oldest received (R474, R475, R483). -/
def execChunkData (ue : Bool) (s : State) : Out :=
  .next (match s.chunkTake with
    | none => s
    | some (m, s) =>
      let b := m.body
      let id := beAt b 0 4
      let total := beAt b 4 4
      let o := beAt b 8 4
      let dest := beAt b 12 4
      let kind := byteAt b 24
      let n := beAt b 26 2
      let isOpen := s.crn.rx.find? fun t => t.src == m.src && t.id == id
      if s.crn.doneIds.contains (m.src, id) then s.xferAck m.src id total 0 1 0
      else if total = 0 ∨ 67108864 < total ∨ o % 1024 ≠ 0 ∨ total ≤ o ∨ n ≠ min 1024 (total - o) ∨ b.length ≠ 28 + n
          ∨ (isOpen.any fun t => t.total != total || t.dest != dest || t.kind != kind) then
        let s := match isOpen with | some t => s.rxClose t.ser | none => s
        (s.crnBad m.port 5).xferAck m.src id 0 0 2 1
      else
        match isOpen with
        | some t => s.rxFrag t m o (b.drop 28) ue
        | none =>
          let why := s.rxRefused total dest kind
          if why ≠ 0 then s.xferAck m.src id 0 0 2 why
          else
            let t : XferRx := ⟨s.crn.nextSer, m.src, id, total, dest, beAt b 16 4, beAt b 20 4, kind, [], 0⟩
            let s := s.crnSet fun c => { c with nextSer := c.nextSer + 1, rx := c.rx ++ [t] }
            s.rxFrag t m o (b.drop 28) ue)

/-- A write of a received fragment has been answered: a failure ends an open transfer. -/
def State.xferWritten (s : State) (ser status : Nat) : State :=
  match s.crn.rx.find? fun t => t.ser == ser with
  | some t => if status = 0 then s.crnAsk 8 else (s.rxFail t 0).crnAsk 8
  | none => s.crnAsk 8

/-- CHUNK_ACK_TIMER: 200 µs after the first unacknowledged fragment of the transfer. -/
def execChunkAckTimer (src id : Nat) (s : State) : Out :=
  .next (match s.crn.rx.find? fun t => t.src == src && t.id == id with
    | none => s
    | some t => if s.due (.chunkAck t.ser) then s.ackNow t else s)

/-- TRANSFER_IDLE_TIMEOUT: an open receive transfer idle for 100 ms is closed. -/
def execTransferIdleTimeout (src id : Nat) (s : State) : Out :=
  .next (match s.crn.rx.find? fun t => t.src == src && t.id == id with
    | none => s
    | some t => if s.due (.xferIdle t.ser) then (s.rxClose t.ser).satInc R.CRN_CNT_RXEXPIRED else s)

end Sys2Proof.Machine
end

