-- ==== Sys2Proof/Machine/Ports.lean ====
section
/-! DEFINITION. What reaches several blocks: memory answers (R165), the line ports' links (R415, R449, R451), firings of the time
triggers (R425, R440, R442, R459). -/

namespace Sys2Proof.Machine

/-! ### Memory answers -/

/-- MEM_TIMEOUT: no response within 100 µs (R165, R177 code 0x08). -/
def execMemTimeout (s : State) : Out :=
  .next (match s.sil.reqs.find? fun r => decide (r.at_ + 100 * usNs ≤ s.now) with
    | some r =>
      let s := s.memDone r.tag
      let s := match r.user with
        | .window => s.answer .busError
        | .audit _ => s
        | .xfer true ser off => s.xferRead ser off 2 []
        | .xfer false ser _ => s.xferWritten ser 2
        | .load => s.loadFailed
      (s.raiseInt Ev.SIL_MEM_TIMEOUT R.SIL_INT_MEMTO r.tag).silViol 8 0
    | none => s)

/-- MEM_RD_DATA: the waiting access ends (R165); an unknown TAG is violation 0x07 (R177). -/
def execMemRdData (tag : Nat) (status : Fin 256) (data : List Byte) (s : State) : Out :=
  .next (match s.takeCd ⟨3, TT.memRdData, noTenant, 0, tag, leBytes 1 status.val ++ data⟩ with
    | none => s
    | some (q, s) =>
      match s.sil.reqs.find? fun r => r.tag == tag && !r.write with
      | none => s.silBadMsg 7 TT.memRdData q
      | some r =>
        let s := s.memDone tag
        match r.user with
        | .window => s.answer (if status.val = 0 then .data (BitVec.ofNat 32 (leNat data)) else .busError)
        | .audit k => s.auditJudge k status.val data
        | .xfer _ ser off => s.xferRead ser off status.val data
        | .load => s)

/-- MEM_WR_ACK. -/
def execMemWrAck (tag : Nat) (status : Fin 256) (s : State) : Out :=
  .next (match s.takeCd ⟨3, TT.memWrAck, noTenant, 0, tag, leBytes 1 status.val⟩ with
    | none => s
    | some (q, s) =>
      match s.sil.reqs.find? fun r => r.tag == tag && r.write with
      | none => s.silBadMsg 7 TT.memWrAck q
      | some r =>
        let s := s.memDone tag
        match r.user with
        | .window => s.answer (if status.val = 0 then .ok else .busError)
        | .audit k => s.auditJudge k status.val []
        | .xfer _ ser _ => s.xferWritten ser status.val
        | .load => if status.val = 0 then s else s.loadFailed)

/-! ### Links -/

/-- PORT_LINK_UP: the link comes up by its mode's rule; `good`: full duplex at the mode's speed (R415). -/
def execPortLinkUp (port : Fin 2) (good : Bool) (s : State) : Out :=
  .next (
    let p := port.val
    if s.on Dom.net = false ∨ s.bitF R.NET_CTL_PORT_EN p = false ∨ s.getF (R.NET_PORT_ST_MODE p) = 0
        ∨ s.isSet (R.NET_PORT_ST_OFF p) ∨ s.linkUp p then s
    else if good = false then s.raise Ev.NET_SPEED_MISMATCH p
    else ((s.setF (R.NET_PORT_ST_LINK p) 1).raiseInt Ev.NET_LINK_UP R.NET_INT_LINK p).crnLinkUp p)

/-- What was under way on a port whose link goes down is lost: descriptors complete with STATUS 3, entries of R430 are freed (R449,
R482). -/
def State.portFlush (s : State) (p : Nat) : State :=
  let q := s.net.queues.getD p []
  let s := s.netSet fun n => { n with queues := n.queues.set p [] }
  let s := s.forL (q.filterMap (·.tx)) fun t s =>
    if s.net.txOpen.any fun e => e.1 == t.desc then
      (s.netSet fun n => { n with txOpen := n.txOpen.filter fun e => e.1 != t.desc }).txComplete t.desc 3
    else s
  s.forN 16 fun k s => if (s.net.fup.getD k none).any fun e => e.port == p then s.fupDrop k else s

/-- The link of a port goes down. -/
def State.portDown (s : State) (p : Nat) : State :=
  ((s.setF (R.NET_PORT_ST_LINK p) 0).portFlush p).crnLinkDown p

/-- PORT_LINK_DOWN: synchronisation is lost; the 16th within 60 s disables the port (R451). -/
def execPortLinkDown (port : Fin 2) (s : State) : Out :=
  .next (
    let p := port.val
    if s.linkUp p = false then s
    else
      let l := s.window (60 * secNs) (s.net.downAt.getD p [])
      let s := (s.portDown p).netSet fun n => { n with downAt := n.downAt.set p l }
      let s := s.raiseInt Ev.NET_LINK_DOWN R.NET_INT_LINK p
      if 16 ≤ l.length then (s.setF (R.NET_PORT_ST_OFF p) 1).raise Ev.NET_PORT_OFF p else s)

/-- A write of NET_CTL.PORT_EN: it takes back the disabling by flapping, and a port that is not enabled has no link (R451). -/
def State.portEnable (s : State) (en : Nat) : State :=
  let s := (s.setF R.NET_CTL_PORT_EN en).setFs [(R.NET_PORT_ST_OFF 0, 0), (R.NET_PORT_ST_OFF 1, 0)]
  s.forN 2 fun p s => if s.linkUp p ∧ en.testBit p = false then (s.flag R.NET_INT_LINK).portDown p else s

/-! ### Triggers -/

/-- What a firing does to its target (R442), to Cairn's slots (R459) and to a transmission that waits for it (R425). -/
def State.ttrgFire (s : State) (k : Nat) : State :=
  let s := ((s.wrapInc (R.TIM_TTRGCNT_FIRED k)).flagBits R.TIM_INT_TTRG (2 ^ k)).ttrgTarget k
  let s := if s.getF (R.TIM_TTRG_CFG_TARGET k) = 9 then s.slotEdge else s
  s.txTrigger k

/-- TRIGGER_FIRE: the comparison of trigger `k` holds (R440). -/
def execTriggerFire (k : Fin 8) (s : State) : Out :=
  .next (
    let k := k.val
    if s.on Dom.net = false ∨ s.isSet (R.TIM_TTRG_CFG_EN k) = false ∨ s.ttrgHolds k = false then s
    else
      let half := s.isSet (R.TIM_TTRG_CFG_HALF k)
      let r := s.ttrgActs k
      let s := r.1
      let missed := if half then r.2 else r.2 - 1
      let s := if 0 < r.2 ∧ half = false then
          s.ttrgFire k
        else s
      if 0 < missed then ((s.satAdd (R.TIM_TTRGCNT_MISSED k) missed).raiseInt Ev.TIM_TTRG_MISS R.TIM_INT_MISS k missed) else s)

end Sys2Proof.Machine
end

