-- ==== Sys2Proof/Machine/Qspi.lean ====
section
/-! DEFINITION. The flash controller (R525 to R527, R560, R563, R658): firmware's program, erase and read. -/

namespace Sys2Proof.Machine

/-- The ranges that two lengths at two offsets cover overlap. -/
def overlaps (a n b m : Nat) : Bool := decide (a < b + m ∧ b < a + n)

/-- Firmware may program and erase the range (R527). -/
def State.flashMay (s : State) (a n : Nat) : Bool :=
  let bl := fun (k : Nat) => s.isSet R.SYS_BOOT_BL_VALID && s.getF R.SYS_BOOT_BL_SLOT == k
  let df := fun (k : Nat) => s.isSet R.SYS_BOOT_DF_VALID && s.getF R.SYS_BOOT_DF_SLOT == k
  !(overlaps a n 0x000000 0x40000 && bl 0) && !(overlaps a n 0x040000 0x40000 && bl 1)
    && !(overlaps a n 0x080000 0x190000)
    && !(overlaps a n 0x210000 0x200000 && df 0) && !(overlaps a n 0x410000 0x200000 && df 1)
    && (!(overlaps a n 0x610000 0x100000) || s.sessionOpen)

/-- The command ends: BUSY falls. -/
def State.qspiEnd (s : State) (flag : Fld) : State :=
  { ((s.setFs [(R.QSPI_STATUS_BUSY, 0), (R.QSPI_STATUS_FLASHBUSY, 0), (flag, 1)]).disarm .qspi) with qspi := none }

/-- A write of QSPI_CMD: ignored while one runs, refused beyond the density or for a length outside 1 to 256, write-protected by R527. -/
def State.qspiStart (s : State) (op a n : Nat) : State :=
  if s.isSet R.QSPI_STATUS_BUSY then s
  else if n = 0 ∨ ((op = 1 ∨ op = 4) ∧ 256 < n) ∨ s.flashSize < a + n then s.flag R.QSPI_INT_REFUSED
  else if op ≠ 4 ∧ s.flashMay a n = false then s.flag R.QSPI_INT_WRPROT
  else
    let data := ((List.range 64).flatMap fun k => leBytes 4 (s.getF (R.QSPI_BUF_W k))).take n
    let s := { s with qspi := some ⟨op, a, n, data⟩ }
    (s.setFs [(R.QSPI_STATUS_BUSY, 1), (R.QSPI_STATUS_FLASHBUSY, if op = 4 then 0 else 1)]).arm .qspi (3 * secNs)

/-- QSPI_PROGRAM: OP 1. -/
def execQspiProgram (len : Fin 512) (s : State) : Out :=
  .next (s.access Dom.core fun s => s.qspiStart 1 (s.getF R.QSPI_ADDR_ADDR) len.val)

/-- QSPI_ERASE_4K: OP 2, the sector that holds the address. -/
def execQspiErase4k (s : State) : Out :=
  .next (s.access Dom.core fun s => s.qspiStart 2 (s.getF R.QSPI_ADDR_ADDR / 4096 * 4096) 4096)

/-- QSPI_ERASE_64K: OP 3, the block that holds the address. -/
def execQspiErase64k (s : State) : Out :=
  .next (s.access Dom.core fun s => s.qspiStart 3 (s.getF R.QSPI_ADDR_ADDR / 65536 * 65536) 65536)

/-- QSPI_READ: OP 4. -/
def execQspiRead (len : Fin 512) (s : State) : Out :=
  .next (s.access Dom.core fun s => s.qspiStart 4 (s.getF R.QSPI_ADDR_ADDR) len.val)

/-- Put read data into QSPI_BUF; what lies behind it stays. -/
def State.qspiFill (s : State) (l : List Byte) : State :=
  let old := (List.range 64).flatMap fun k => leBytes 4 (s.getF (R.QSPI_BUF_W k))
  let new := l ++ old.drop l.length
  s.forN 64 fun k s => s.setF (R.QSPI_BUF_W k) (leNat ((new.drop (4 * k)).take 4))

/-- QSPI_DONE: the command under way has ended. -/
def execQspiDone (s : State) : Out :=
  .next (match s.qspi with
    | none => s
    | some c =>
      let s :=
        if c.op = 1 then s.program c.addr c.data
        else if c.op = 4 then s.qspiFill (s.flashBytes c.addr c.len)
        else s.erase c.addr c.len
      s.qspiEnd R.QSPI_INT_DONE)

/-- QSPI_TIMEOUT: the flash has been busy for more than 3 s in a program or erase; the contents of the pages or the sector addressed are
open. -/
def execQspiTimeout (s : State) : Out :=
  .next (match s.qspi with
    | none => s
    | some c =>
      if s.due .qspi = false ∨ c.op = 4 then s
      else
        let a := if c.op = 1 then c.addr / 256 * 256 else c.addr
        let n := if c.op = 1 then (c.addr + c.len + 255) / 256 * 256 - a else c.len
        let p := s.draw (8 * n)
        ((p.2.flashLeave a (leBytes n p.1)).qspiEnd R.QSPI_INT_TIMEOUT).raise Ev.QSPI_TIMEOUT)

end Sys2Proof.Machine
end

