-- ==== Sys2Proof/Machine/Thermal.lean ====
section
/-! DEFINITION. Heat (R564 to R583): sensors, the energy plan, the forecast and its actions, hard limits, the step test. -/

namespace Sys2Proof.Machine

def State.thmSet (s : State) (f : ThmState → ThmState) : State := { s with thm := f s.thm }

/-! ### Numbers: FP32 in W and °C -/

def fInt (i : Int) : Nat := FpFmt.fp32.bits (.ofInt i)

/-- a / b as FP32. -/
def fq (a b : Int) : Nat := fdiv (fInt a) (fInt b)

def fLt (a b : Nat) : Bool := (f32 a).lt (f32 b)
def fMax (a b : Nat) : Nat := if fLt a b then b else a

/-- The nearest integer to a value, ties to even. -/
def FpV.nearest : FpV → Int
  | .fin n m e =>
    let k : Nat := if 0 ≤ e then m * 2 ^ e.toNat else roundShift m (-e).toNat
    if n then -(k : Int) else k
  | _ => 0

/-- A temperature or power in tenths, as its register shows it. -/
def deci (x : Nat) : Int := (f32 (fmul x (fInt 10))).nearest

/-- A signed register field. -/
def State.getI (s : State) (f : Fld) : Int := toSigned f.width (s.getF f)
def State.setI (s : State) (f : Fld) (i : Int) : State := s.setF f (ofSigned f.width i)

/-! ### The model (R566) -/

/-- The bytes of THERMAL.MODEL, none when the image gives none. -/
def State.model (s : State) : Option (List Byte) :=
  if s.cfgPresent Img.THERMAL_MODEL 0 then some (leBytes 32 (s.cfg Img.THERMAL_MODEL 0)) else none

/-- An unsigned field of the model, 0 without one. -/
def State.modelF (s : State) (o n : Nat) : Nat := match s.model with | some l => fieldAt l o n | none => 0

/-- The ambient comes from NTC1. -/
def State.ambientNtc (s : State) : Bool := match s.model with | some l => (byteAt l 1).testBit 0 | none => true

/-- The ambient that the model states, 0.1 °C. -/
def State.ambientFixed (s : State) : Int := toSigned 16 (s.modelF 2 2)

/-! ### Sensors (R564, R565) -/

/-- The next `k` binary digits of a logarithm to base 2, of `x` / 2^62 between 1 and 2. -/
def log2Bits : Nat → Nat → Nat → Nat
  | 0, _, a => a
  | k + 1, x, a =>
    let y := x * x / 2 ^ 62
    if 2 ^ 63 ≤ y then log2Bits k (y / 2) (2 * a + 1) else log2Bits k y (2 * a)

/-- ln (n / d) in units of 2^−40; ln 2 is 762,123,384,786 of them. -/
def lnFix (n d : Nat) : Int :=
  let x : Nat := n * 2 ^ 200 / d
  let e : Nat := x.log2
  let f : Nat := log2Bits 44 (x / 2 ^ (e - 62)) 0
  (((e : Int) - 200) * 2 ^ 44 + f) * 762123384786 / 2 ^ 44

/-- A thermistor's temperature by R564, in 0.1 °C: the next lower tenth, or the one above where Config.ntcUp says so. -/
def ntcDeciC (r25 b code : Nat) : Int :=
  let d : Int := b * 2 ^ 40 * 100 + 29815 * lnFix (10000 * code) ((4095 - code) * r25)
  ((596300 * b * 2 ^ 40 : Int) / d - 5463) / 2 + (if Config.ntcUp r25 b code then 1 else 0)

/-- A thermistor's temperature, 0.1 °C. -/
def State.ntc (s : State) (code : Nat) : Int :=
  match s.model with
  | some l => ntcDeciC (fieldAt l 0x18 4) (fieldAt l 0x1C 2) code
  | none => ntcDeciC 10000 3435 code

def ntcBad (code : Nat) : Bool := decide (code < 20 ∨ 4075 < code)

/-- Report a thermistor that becomes faulty. -/
def State.ntcReport (s : State) (ch : Nat) (was is : Bool) : State :=
  if is && !was then s.raiseInt Ev.THM_NTC R.THM_INT_SENSOR ch else s

/-- NTC_SAMPLE: the codes of NTC0 (casting) and NTC1 (ambient), every 100 ms. -/
def execNtcSample (c0 c1 : Fin 4096) (s : State) : Out :=
  .next (if s.on Dom.core = false ∨ s.on Dom.drive = false ∨ s.dueOrNew .ntc = false then s
    else
      let s := s.rearm .ntc (100 * msNs)
      let b0 := ntcBad c0.val
      let b1 := ntcBad c1.val
      let s := (s.ntcReport 0 s.thm.bad0 b0).ntcReport 1 s.thm.bad1 b1
      let s := s.thmSet fun t => { t with bad0 := b0, bad1 := b1 }
      let s := s.setI R.THM_TEMP0_CASTING (if b0 then s.getI R.THM_TEMP1_CD_J else s.ntc c0.val)
      let s := s.setI R.THM_TEMP0_AMBIENT
        (if s.ambientNtc = false then s.ambientFixed else if b1 then s.getI R.THM_TEMP0_CASTING else s.ntc c1.val)
      if b0 ∨ b1 then s.stepFail 3 else s)

/-- Since when a condition holds. -/
def since (now : Nat) (was : Option Nat) (holds : Bool) : Option Nat := if holds then some (was.getD now) else none

/-- CD_SENSOR_SAMPLE: the two CD die sensors, 0.1 °C, every 10 ms (R565, R576). -/
def execCdSensorSample (a b : BitVec 16) (s : State) : Out :=
  .next (if s.on Dom.core = false ∨ s.dueOrNew .cdSensor = false then s
    else
      let s := s.rearm .cdSensor (10 * msNs)
      let t := max a.toInt b.toInt
      let apart := decide (50 < (a.toInt - b.toInt).natAbs)
      let s := if apart && !s.thm.apart then s.raiseInt Ev.THM_SENSOR R.THM_INT_SENSOR else s
      let hot := s.inWork && decide (Int.ofNat (10 * s.getF R.THM_CFG_CD_TJ_C) ≤ t)
      (s.setI R.THM_TEMP1_CD_J t).thmSet fun m => { m with
        apart := apart, cdSince := since s.now m.cdSince hot, trip := since s.now m.trip (decide (1250 < t)) })

/-! ### Hard limits (R575, R576) -/

/-- A write of PMU_CMD = WATCH by THM, with WATCHORD. -/
def State.orderWatch (s : State) : State :=
  let s := if s.pmu.trans.isSome then s.setF R.PMU_STATE_HELD 1 else if s.inWork then s.leaveWork else s
  ((s.setF R.THM_ACT_WATCHORD 1).arm .watchord (60 * secNs)).thmSet fun t => { t with free := false }

/-- A condition has held for 100 ms. -/
def State.lasted (s : State) (t : Option Nat) : Bool := match t with | some a => decide (a + 100 * msNs ≤ s.now) | none => false

/-- CD_HOT_TIMER: the CD junction has been at its limit, or above 125 °C, for 100 ms. -/
def execCdHotTimer (s : State) : Out :=
  .next (if s.on Dom.core = false ∨ s.isSet R.THM_CTL_EN = false then s
    else
      let s := if s.lasted s.thm.cdSince ∧ s.inWork then
          ((s.thmSet fun t => { t with cdSince := none }).raiseInt Ev.THM_CD_HOT R.THM_INT_HOT).orderWatch
        else s
      if s.lasted s.thm.trip then
        let s := s.thmSet fun t => { t with trip := none }
        let s := (s.setF R.SIO_SAFECTL_TRIP_A 1).assertTrip Src.fwA false
        ((s.setF R.SIO_SAFECTL_TRIP_B 1).assertTrip Src.fwB false).raiseInt Ev.THM_CD_HOT R.THM_INT_HOT
      else s)

/-- WATCHORD_TIMEOUT: 60 s have passed; WATCHORD falls with the next forecast that lets it. -/
def execWatchordTimeout (s : State) : Out :=
  .next (if s.due .watchord then (s.disarm .watchord).thmSet fun t => { t with free := true } else s)

/-! ### The energy plan (R567, R582) -/

/-- A plan is well formed and fits the acknowledged clock plan. -/
def State.planFits (s : State) (l : List Byte) : Bool :=
  decide (l.length = 656) && decide (fieldAt l 6 10 = 0) && (List.range 60).all (fun i => fieldAt l (0x16 + 8 * i) 2 == 0)
    && byteAt l 4 == s.getF R.PMU_DVFS_FTOP && byteAt l 5 == ((List.range 16).filter fun t => s.on (Dom.tile t)).length

/-- The plan in a message. -/
def energyOf (l : List Byte) : EnergyPlan :=
  let temps := ((List.range 16).map fun t => fieldAt l (0x270 + 2 * t) 2).filter fun v => v != 0x8000
  { ftop := byteAt l 4
    entries := (List.range 60).map fun i => (fieldAt l (0x10 + 8 * i) 2, fieldAt l (0x12 + 8 * i) 2, fieldAt l (0x14 + 8 * i) 2)
    temp := match temps.map (toSigned 16) with | [] => none | t :: r => some (r.foldl max t) }

/-- ENERGY_PLAN: the dispatcher's plan arrives. -/
def execEnergyPlan (body : List Byte) (s : State) : Out :=
  .next (match s.takeCd (mgmt TT.energyPlan 0 body) with
    | none => s
    | some (_, s) =>
      if s.planFits body then
        let s := s.thmSet fun t => { t with plan := some (energyOf body), missed := false }
        if s.inWork then s.arm .planMiss (100 * msNs) else s
      else (s.satInc R.THM_CNT_BADPLAN).raise Ev.THM_PLAN_MISS)

/-- PLAN_MISS_TIMEOUT: no plan for 100 ms in WORK. -/
def execPlanMissTimeout (s : State) : Out :=
  .next (if s.inWork ∧ s.due .planMiss then
      ((s.disarm .planMiss).thmSet fun t => { t with missed := true }).raise Ev.THM_PLAN_MISS
    else s)

/-! ### The forecast (R570) -/

/-- The entries the forecast counts with: those of the newest plan, or its highest entry throughout when the next is missing. -/
def State.entriesUsed (s : State) : List (Nat × Nat × Nat) :=
  match s.thm.plan with
  | none => List.replicate 60 (0, 0, 0)
  | some p =>
    let sum := fun (e : Nat × Nat × Nat) => e.1 + e.2.1 + e.2.2
    if s.thm.missed then List.replicate 60 (p.entries.foldl (fun m e => if sum m < sum e then e else m) (0, 0, 0)) else p.entries

/-- An action set. -/
structure Acts where
  park : Bool
  hold : Bool
  cap  : Nat
deriving DecidableEq, Repr

/-- The actions THM has taken. -/
def State.acts (s : State) : Acts := ⟨s.isSet R.THM_ACT_PARK, s.isSet R.THM_ACT_LEARN_HOLD, s.getF R.THM_ACT_CAP⟩

/-- The AD power of an entry under actions, before g and s. -/
def Acts.dyn (a : Acts) (e : Nat × Nat × Nat) : Nat :=
  fadd (fadd (fq e.1 10) (if a.park then 0 else fq e.2.1 10)) (if a.hold then 0 else fq e.2.2 10)

/-- φ of a point: tile clock in GHz times the square of the set voltage. -/
def State.phi (s : State) (p : Nat) : Nat :=
  let v := fq (s.setMv p) 1000
  fmul (fq ([400, 600, 800, 1000].getD p 1000) 1000) (fmul v v)

/-- s(cap). -/
def State.pointScale (s : State) (cap : Nat) : Nat :=
  let f := match s.thm.plan with | some p => p.ftop | none => s.getF R.PMU_DVFS_FTOP
  fdiv (s.phi (min cap f)) (s.phi f)

/-- The average of P_meas over the last second, 0 without a sample. -/
def State.pMeas (s : State) : Nat :=
  let l := (s.thm.pmeas.filter fun q => decide (s.now < q.1 + secNs)).map (·.2)
  if l = [] then 0 else fdiv (l.foldl fadd 0) (fInt l.length)

/-- READ_IOUT has been missing for 1 s of WORK (R582). -/
def State.ioutLost (s : State) : Bool := s.inWork && match s.thm.ioutAt with | some t => decide (t + secNs ≤ s.now) | none => true

/-- The under-reporting gain g. -/
def State.gain (s : State) : Nat :=
  if s.ioutLost then fInt 2
  else
    let dyn := (s.acts).dyn (s.entriesUsed.headD (0, 0, 0))
    let g := fMax fOne (fdiv (fsub s.pMeas (fq (s.modelF 0x14 2) 10)) (fMax fOne dyn))
    if fLt (fInt 8) g then fInt 8 else g

/-- The LED heat the forecast counts with, W. -/
def State.ledHeat (s : State) : Nat :=
  let t := s.getF R.LUX_LEVEL_TARGET
  let lmax := if s.isSet R.LUX_DARK_DARK then max t (10 * s.getF R.LUX_CFG0_FLOOR_OCC) else t
  fdiv (fmul (fdiv (fmul (fq (s.modelF 0x10 2) 10) (fInt (s.modelF 0x12 2))) (fInt 1000)) (fInt lmax)) (fInt 1000)

/-- What the seconds of a forecast need. -/
structure Heat where
  work  : Bool
  fixed : Nat
  gs    : Nat
  cd    : Nat
  led   : Nat
  ta    : Nat
  rca   : Nat
  cc    : Nat
  rjAd  : Nat
  rjCd  : Nat

/-- The peaks of a forecast: AD, its second, CD. -/
structure Peaks where
  ad : Nat
  at_ : Nat
  cd : Nat
deriving DecidableEq, Repr

/-- The seconds of a forecast from `k` on, from the casting temperature `tc`. -/
def Heat.run (h : Heat) (a : Acts) : List (Nat × Nat × Nat) → Nat → Nat → Peaks → Peaks
  | [], _, _, p => p
  | e :: l, k, tc, p =>
    let pad := if h.work then fadd h.fixed (fmul h.gs (a.dyn e)) else 0
    let tc := fadd tc (fdiv (fsub (fadd (fadd pad h.cd) h.led) (fdiv (fsub tc h.ta) h.rca)) h.cc)
    let ad := fadd tc (fmul pad h.rjAd)
    let cd := fadd tc (fmul h.cd h.rjCd)
    let p : Peaks := { (if fLt p.ad ad then { p with ad := ad, at_ := k } else p) with cd := fMax p.cd cd }
    h.run a l (k + 1) tc p

/-- −∞ in FP32. -/
def fNegInf : Nat := 0xFF800000

/-- A forecast under actions; `work`: the AD's power counts. -/
def State.forecast (s : State) (a : Acts) (work : Bool) : Peaks :=
  let h : Heat := { work := work, fixed := fq (s.modelF 0x14 2) 10, gs := fmul s.gain (s.pointScale a.cap), cd := fq (s.modelF 0x16 2) 10
                    led := s.ledHeat, ta := fq (s.getI R.THM_TEMP0_AMBIENT) 10, rca := fq (s.modelF 4 4) 1000, cc := fInt (s.modelF 8 4)
                    rjAd := fq (s.modelF 0xC 2) 1000, rjCd := fq (s.modelF 0xE 2) 1000 }
  h.run a s.entriesUsed 1 (fq (s.getI R.THM_TEMP0_CASTING) 10) ⟨fNegInf, 0, fNegInf⟩

/-- The present AD estimate (R575). -/
def State.adEstimate (s : State) : Nat :=
  let e := fadd (fq (s.getI R.THM_TEMP0_CASTING) 10) (fmul s.pMeas (fq (s.modelF 0xC 2) 1000))
  match s.thm.plan with
  | some p => match p.temp with | some t => fMax e (fq t 10) | none => e
  | none => e

/-- The peaks that the ladder judges: of a forecast, or the present estimates with FORECAST = 0 (R577). -/
def State.peaks (s : State) (a : Acts) (work : Bool) : Peaks :=
  if s.isSet R.THM_CTL_FORECAST then s.forecast a work else ⟨s.adEstimate, 0, fq (s.getI R.THM_TEMP1_CD_J) 10⟩

/-- H_AD and H_CD, less `m` °C. -/
def State.limitAd (s : State) (m : Nat) : Nat := fInt (Int.ofNat (s.getF R.THM_CFG_AD_TJ_C) - s.getF R.THM_CFG_MARGIN_C - m)
def State.limitCd (s : State) (m : Nat) : Nat := fInt (Int.ofNat (s.getF R.THM_CFG_CD_TJ_C) - s.getF R.THM_CFG_MARGIN_C - m)

/-- A peak lies above its limit less `m` °C. -/
def State.tooHot (s : State) (p : Peaks) (m : Nat) : Bool := fLt (s.limitAd m) p.ad || fLt (s.limitCd m) p.cd

/-! ### Actions (R571, R572) -/

/-- The next action after a set; none when every one is taken. -/
def Acts.more (a : Acts) : Option Acts :=
  if a.park = false then some { a with park := true }
  else if a.hold = false then some { a with hold := true }
  else if 0 < a.cap then some { a with cap := a.cap - 1 }
  else none

/-- The set with its most recent action undone. -/
def Acts.less (a : Acts) : Option Acts :=
  if a.cap < 3 then some { a with cap := a.cap + 1 }
  else if a.hold then some { a with hold := false }
  else if a.park then some { a with park := false }
  else none

/-- Add actions until the forecast is no longer over; whether it still is at the end. -/
def State.ladder' (s : State) (work : Bool) : Nat → Acts → Acts × Bool
  | 0, a => (a, true)
  | n + 1, a =>
    if s.tooHot (s.peaks a work) 0 then
      (match a.more with
      | some b => s.ladder' work n b
      | none => (a, true))
    else (a, false)

/-- Borrowers that hold the lending permission. -/
def State.lenders (s : State) : List Nat :=
  (List.range 16).filter fun n =>
    decide (s.tnState n ≠ tnAbsent) && decide (s.cfg Img.TENANTS_BORROWER n = 1) && s.isSet (R.TEN_STATE_LEND_OK n)

/-- Clear the permission of every borrower that holds it. -/
def State.park (s : State) : State :=
  let l := s.lenders
  let s := s.forL l fun n s => (s.setF (R.TEN_STATE_LEND_OK n) 0).sendCmd n 5
  s.thmSet fun t => { t with parked := t.parked ++ l }

/-- Give the parked borrowers their permission back. -/
def State.unpark (s : State) : State :=
  let s := s.forL s.thm.parked fun n s => (s.setF (R.TEN_STATE_LEND_OK n) 1).sendCmd n 4
  s.thmSet fun t => { t with parked := [] }

/-- Apply an action set. -/
def State.applyActs (s : State) (b : Acts) : State :=
  let a := s.acts
  if a = b then s
  else
    let s := if b.park && !a.park then s.park else if a.park && !b.park then s.unpark else s
    let s := s.setFs [(R.THM_ACT_PARK, if b.park then 1 else 0), (R.THM_ACT_LEARN_HOLD, if b.hold then 1 else 0), (R.THM_ACT_CAP, b.cap)]
    let s := if a.cap = b.cap then s else (s.setF R.PMU_TCAP_CAP b.cap).pointsChanged
    let s := s.thmSet fun t => { t with changeAt := some s.now, clean := 0 }
    let w := match fieldsAt R.THM_ACT_PARK.addr with | some l => s.fieldWord l | none => 0
    s.raiseInt Ev.THM_ACT R.THM_INT_ACT w

/-- After a forecast that is not over: undo one action when ten forecasts in a row allow it (R572). -/
def State.tryUndo (s : State) (work : Bool) : State :=
  match s.acts.less with
  | none => s.thmSet fun t => { t with clean := 0 }
  | some b =>
    let n := if s.tooHot (s.peaks b work) (s.getF R.THM_CFG_HYST_C) then 0 else s.thm.clean + 1
    let s := s.thmSet fun t => { t with clean := n }
    let rested := match s.thm.changeAt with | some t => decide (t + 10 * secNs ≤ s.now) | none => true
    if 10 ≤ n && rested && !s.isSet R.THM_ACT_WATCHORD then s.applyActs b else s

/-- Judge the forecast and act (R571, R572, R581). -/
def State.judgeHeat (s : State) (work : Bool) : State :=
  let p := s.peaks s.acts work
  if s.tooHot p 0 then
    let r := s.ladder' work 8 s.acts
    let s := (s.applyActs r.1).thmSet fun t => { t with clean := 0 }
    if r.2 then (s.setF R.THM_ACT_OVER 1).raiseInt Ev.THM_FORECAST_OVER R.THM_INT_OVER else s.setF R.THM_ACT_OVER 0
  else (s.setF R.THM_ACT_OVER 0).tryUndo work

/-- Show what the forecast found under the actions applied. -/
def State.showForecast (s : State) (work : Bool) : State :=
  let p := s.peaks s.acts work
  let s := (s.setI R.THM_FCST_AD_PEAK (deci p.ad)).setI R.THM_FCST_CD_PEAK (deci p.cd)
  s.setFs [(R.THM_FCST1_AT_S, p.at_), (R.THM_FCST1_G, ((f32 (fmul s.gain (fInt 16))).nearest).toNat)]

/-- The AD's estimate is shown, and its hard limit judged once a second in WORK while THM acts (R575). -/
def State.adHard (s : State) : State :=
  let e := s.adEstimate
  let s := s.setI R.THM_TEMP1_AD_EST (deci e)
  if s.inWork = false ∨ s.isSet R.THM_CTL_EN = false then s.thmSet fun t => { t with hot := 0 }
  else
    let n := if fLt e (fInt (s.getF R.THM_CFG_AD_TJ_C)) then 0 else s.thm.hot + 1
    let s := s.thmSet fun t => { t with hot := if 2 ≤ n then 0 else n }
    if 2 ≤ n then (s.raiseInt Ev.THM_AD_HOT R.THM_INT_HOT).orderWatch else s

/-- WATCHORD falls when its 60 s are over and the last plan, with every action taken, stays below H_AD − HYST_C (R575). -/
def State.releaseWatch (s : State) : State :=
  if s.isSet R.THM_ACT_WATCHORD && s.thm.free && !fLt (s.limitAd (s.getF R.THM_CFG_HYST_C)) (s.peaks ⟨true, true, 0⟩ true).ad then
    (s.setF R.THM_ACT_WATCHORD 0).thmSet fun t => { t with free := false }
  else s

/-- A plan that under-reports in ten forecasts in a row (R582); a gain of 2 for want of READ_IOUT is none. -/
def State.noteGain (s : State) : State :=
  let n := if s.inWork && s.isSet R.THM_CTL_FORECAST && !s.ioutLost && fLt (fq 13 10) s.gain then s.thm.low + 1 else 0
  let s := s.thmSet fun t => { t with low := if 10 ≤ n then 0 else n }
  if 10 ≤ n then s.raise Ev.THM_PLAN_LOW else s

/-- The present LED power: Σ over channels of VSTR × LVSDIV × I_AVG, in units of 1.2 / 4,095,000,000 W (R568). -/
def State.ledUnits (s : State) : Nat :=
  (List.range 2).foldl (fun w c => w + s.getF (R.LUX_MEAS_VSTR c) * s.getF R.THM_LVSDIV_RATIO * s.getF (R.LUX_MEAS_I_AVG_MA c)) 0

/-- Show the measured powers, 0.1 W. -/
def State.showPower (s : State) : State :=
  (s.setF R.THM_PWR_AD_MEAS (deci s.pMeas).toNat).setF R.THM_PWR_LED ((s.ledUnits * 12 + 2047500000) / 4095000000)

/-- FORECAST: once a second of TB2, in WATCH and in WORK. -/
def execForecast (s : State) : Out :=
  .next (if s.on Dom.core = false ∨ s.dueOrNew .forecast = false ∨ (s.inWork = false ∧ s.inWatch = false) then s
    else
      let s := (s.rearm .forecast secNs).showPower
      let s := if s.thm.missed ∧ s.inWork then s.satInc R.THM_CNT_MISSES else s
      if s.isSet R.THM_CFG_AD_TJ_C = false then s
      else
        let w := s.inWork
        let s := s.noteGain.doIf (s.isSet R.THM_CTL_EN) fun s => s.judgeHeat w
        (s.doIf (s.isSet R.THM_CTL_FORECAST) fun s => s.showForecast w).adHard.releaseWatch)

/-! ### The step test (R568, R569) -/

/-- STEP_TEST: THM_CMD.STEP. -/
def execStepTest (s : State) : Out :=
  .next (s.access Dom.core fun s =>
    let st := s.getF R.THM_STST_STATE
    if s.inWatch = false ∨ s.isSet R.LUX_DARK_DARK ∨ st = 1 ∨ st = 2 then s.flag R.THM_INT_REFUSED
    else
      let s := s.thmSet fun t => { t with step := [] }
      (s.setFs [(R.THM_STST_STATE, 1), (R.THM_STST_REASON, 0), (R.THM_STST_ELAPSED_S, 0)]).arm .stepTest secNs)

/-- STEP_TEST_ABORT: THM_CMD.ABORT. -/
def execStepTestAbort (s : State) : Out := .next (s.access Dom.core fun s => s.stepFail 4)

/-- a / b to the nearest integer; an open value when b is 0. -/
def State.divOpen (s : State) (a b : Nat) : Nat × State := if b = 0 then s.draw 32 else ((2 * a + b) / (2 * b), s)

/-- The fit of the model (R569), from the samples in order of time: 120 of the baseline, then those of the step. -/
def State.fit (s : State) : State :=
  let l := s.thm.step.reverse
  let sumC := fun (q : List (Int × Int × Nat)) => q.foldl (fun w p => w + p.1) 0
  let sumA := fun (q : List (Int × Int × Nat)) => q.foldl (fun w p => w + p.2.1) 0
  let base := (l.drop 60).take 60
  let step := l.drop 120
  let last := step.drop (step.length - 60)
  -- 600 × ΔT in °C
  let dt := sumC last - sumC base - (sumA last - sumA base)
  let n := step.length
  let rise := (step.getLastD (0, 0, 0)).1 - (step.getD (n - n / 10 - 1) (0, 0, 0)).1
  if dt < 3000 * rise then s.stepFail 5
  else if dt < 1200 then s.stepFail 6
  else
    let p := step.foldl (fun w q => w + q.2.2) 0
    let tau := (step.findIdx fun q => decide (632 * dt ≤ 1000 * (60 * q.1 - sumC base))) + 1
    -- R_CA in m°C/W as a fraction
    let num := dt.toNat * n * 4095 * 10 ^ 13
    let den := 600 * 12 * p * s.getF R.THM_STCFG_LED_HEAT
    let rca := s.divOpen num den
    let cc := rca.2.divOpen (tau * 1000 * den) num
    let s := cc.2
    ((s.setFs [(R.THM_FIT0_R_CA, rca.1), (R.THM_FIT1_C_C, cc.1), (R.THM_STST_STATE, 3)]).disarm .stepTest).raiseInt
      Ev.THM_STEP_DONE R.THM_INT_STEPEND

/-- STEP_TEST_SAMPLE: once a second during the test. -/
def execStepTestSample (s : State) : Out :=
  .next (if s.due .stepTest = false ∨ s.on Dom.core = false then s
    else
      let s := s.rearm .stepTest secNs
      let e := s.getF R.THM_STST_ELAPSED_S + 1
      let s := (s.setF R.THM_STST_ELAPSED_S e).thmSet fun t => { t with
        step := (s.getI R.THM_TEMP0_CASTING, s.getI R.THM_TEMP0_AMBIENT, s.ledUnits) :: t.step }
      if e = 120 then (s.setF R.THM_STST_STATE 2).flag R.THM_INT_STEPGO
      else if e = 120 + s.getF R.THM_STCFG_TEST_S then s.fit
      else s)

end Sys2Proof.Machine
end

