-- ==== Sys2Proof/Machine/Tilt.lean ====
section
/-! DEFINITION. The tilt drive (R344 to R347, R366, R368, R370): homing, motion and the monitored functions. -/

namespace Sys2Proof.Machine

/-- HOME: homing starts from STO or READY when R344's other conditions hold, and is refused otherwise. With the
lower-limit pair already in demand step 1 ends at once. -/
def execHome (s : State) : Out :=
  .next (s.access Dom.drive fun s =>
    let st := s.getF R.TLT_STATE_STATE
    let free := State.stoFree (s.setF R.TLT_STATE_STATE 1)
    if (st = 0 ∨ st = 2) ∧ free then
      let s := (s.doIf (decide (st = 0)) fun s => s.raise Ev.TLT_STO).setF R.TLT_STATE_STATE 1
      let s := s.setF R.TLT_STATE_HOMED 0
      let s := { s with tlt := { s.tlt with began := s.tltCount, potOffAt := none } }.homeStep 1
      if s.roleDemand 2 ∧ s.roleDemand 3 then s.tltViolation Ev.TLT_SLP
      else if s.roleDemand 3 then s.homeLower else s
    else s.flag R.TLT_INT_REFUSED)

/-- TILT_STOP: a controlled stop. A motion ends in READY; a homing that is abandoned leaves the tilt unhomed, so in STO
(R344, R370). -/
def execTiltStop (s : State) : Out :=
  .next (s.access Dom.drive fun s =>
    let st := s.getF R.TLT_STATE_STATE
    if st = 3 then s.setF R.TLT_STATE_STATE 2
    else if st = 1 then s.enterSto
    else s)

/-- TLT_TARGET (R347). -/
def execTltTarget (count : Word) (s : State) : Out :=
  .next (s.access Dom.drive fun s =>
    let st := s.getF R.TLT_STATE_STATE
    let c := count.toInt
    if (st = 2 ∨ st = 3) ∧ s.signedF R.TLT_SLPLO_COUNT ≤ c ∧ c ≤ s.signedF R.TLT_SLPHI_COUNT then
      let s := s.setF R.TLT_TARGET_COUNT count.toNat
      if c = s.tltCount then s.setF R.TLT_STATE_STATE 2
      else { (s.setF R.TLT_STATE_STATE 3) with tlt := { s.tlt with began := s.tltCount } }
    else s.flag R.TLT_INT_REFUSED)

/-- The functions that a homing or a homed tilt monitors run (R346). -/
def State.tltWatches (s : State) : Bool := s.on Dom.drive && s.isSet R.TLT_CFG_ENABLE && !(s.getF R.TLT_STATE_STATE == 4)

/-- The motion has gone more than 16 counts in the direction that SDI forbids (R346). -/
def State.sdiBroken (s : State) : Bool :=
  let d := s.tltCount - s.tlt.began
  let st := s.getF R.TLT_STATE_STATE
  (st == 1 || st == 3) &&
    ((s.getF R.TLT_CFG_SDI == 1 && decide (d < -16)) || (s.getF R.TLT_CFG_SDI == 2 && decide (16 < d)))

/-- The count lies outside SLP_LO … SLP_HI (R346); monitored of a homed tilt outside homing. -/
def State.slpBroken (s : State) : Bool :=
  s.isSet R.TLT_STATE_HOMED && !s.homing &&
    decide (s.tltCount < s.signedF R.TLT_SLPLO_COUNT ∨ s.signedF R.TLT_SLPHI_COUNT < s.tltCount)

/-- How far the count stands from the nearest place of an index pulse, Z0 + k × ZP (R346). -/
def indexOff (c z0 zp : Int) : Int :=
  let p : Int := zp.natAbs
  if p = 0 then c - z0
  else
    let m := (c - z0).emod p
    if 2 * m ≤ p then m else m - p

/-- Follow the ±4 counts about an index place over one edge: entered, it awaits a pulse until the count leaves it again (R346, R368). -/
def State.indexWindow (s : State) (up : Bool) : State :=
  let d := indexOff s.tltCount (s.getF R.TLT_IDX_Z0) (s.getF R.TLT_IDX_ZP)
  if (up && d == -4) || (!up && d == 4) then { s with tlt := { s.tlt with idxDue := some up } }
  else if d < -4 ∨ 4 < d then { s with tlt := { s.tlt with idxDue := none } }
  else s

/-- The edge has taken a homed tilt across an index place without a pulse: the pulse is missing (R346, R368). -/
def State.indexMissing (s : State) (up : Bool) : Bool :=
  let zp : Int := s.getF R.TLT_IDX_ZP
  let d := indexOff s.tltCount (s.getF R.TLT_IDX_Z0) zp
  s.isSet R.TLT_STATE_HOMED && !s.homing && decide (10 < zp.natAbs) && s.tlt.idxDue == some up
    && ((up && d == 5) || (!up && d == -5))

/-- ENCODER_EDGE: the count moves by one; SDI, SLP and the index place are checked; the homing back-off of 256 counts and a motion target
end on it (R345, R346). -/
def execEncoderEdge (up : Bool) (s : State) : Out :=
  .next (if s.on Dom.drive = false then s
    else
      let s := s.setSigned R.TLT_POS_COUNT (s.tltCount + (if up then 1 else -1))
      if s.tltWatches = false then s
      else if s.sdiBroken then s.tltViolation Ev.TLT_SDI
      else if s.slpBroken then s.tltViolation Ev.TLT_SLP
      else if s.indexMissing up then s.tltViolation Ev.TLT_ENC
      else
      let s := s.indexWindow up
      if s.homing ∧ s.tlt.step = 4 ∧ s.tltCount ≤ s.signedF R.TLT_HOME1_COUNT_HI - 256 then
        let s := (s.setFs [(R.TLT_STATE_STATE, 2), (R.TLT_STATE_HOMED, 1)]).disarm .homing
        { s with tlt := { s.tlt with step := 0 } }.raiseInt Ev.TLT_HOMED R.TLT_INT_HOMED
      else if s.getF R.TLT_STATE_STATE = 3 ∧ s.tltCount = s.signedF R.TLT_TARGET_COUNT then s.setF R.TLT_STATE_STATE 2
      else s)

/-- A count lies within ±4 of Z0 + k × ZP for some integer k (R346). -/
def nearIndex (c z0 zp : Int) : Bool := decide ((indexOff c z0 zp).natAbs ≤ 4)

/-- ENC_INDEX: recorded in homing step 2, checked when homed (R345, R346). -/
def execEncIndex (s : State) : Out :=
  .next (if s.on Dom.drive = false then s
    else if s.homing then
      if s.tlt.step = 2 then
        if s.tlt.index = 0 then
          { (s.setSigned R.TLT_IDX_Z0 s.tltCount) with tlt := { s.tlt with index := 1 } }
        else
          let s := (s.setSigned R.TLT_IDX_ZP (s.tltCount - s.getF R.TLT_IDX_Z0)).homeStep 3
          if s.roleDemand 2 then s.homeUpper else s
      else s
    else if s.tltWatches ∧ s.isSet R.TLT_STATE_HOMED ∧ nearIndex s.tltCount (s.getF R.TLT_IDX_Z0) (s.getF R.TLT_IDX_ZP) = false then
      s.tltViolation Ev.TLT_ENC
    else { s with tlt := { s.tlt with idxDue := none } })

/-- HOMING_TIMEOUT: a homing step exceeded 120 s (R345). -/
def execHomingTimeout (s : State) : Out := .next (if s.due .homing then s.homeFail else s)

/-- SLS_WINDOW: the counts of the last 10 ms × 100 against SLS_CPS (R346). -/
def execSlsWindow (s : State) : Out :=
  .next (if s.on Dom.drive ∧ s.dueOrNew .sls then
      let v := (s.tltCount - s.tlt.winStart) * 100
      let past := s.tltWatches && decide (s.getF R.TLT_CFG_SLS_CPS < v.natAbs)
      let s := ({ s with tlt := { s.tlt with winStart := s.tltCount } }.setSigned R.TLT_VEL_CPS v).rearm .sls (10 * msNs)
      if past then s.tltViolation Ev.TLT_SLS else s
    else s)

/-- The pot code that the count predicts (R346). -/
def State.potPred (s : State) : Int :=
  let lo : Int := s.getF R.TLT_HOME0_POT_LO
  let hi : Int := s.getF R.TLT_HOME0_POT_HI
  let n := s.signedF R.TLT_HOME1_COUNT_HI
  if n = 0 then lo else lo + (s.tltCount * (hi - lo)).tdiv n

/-- The position cross-check has its references: the tilt is homed, or backs off at the end of homing. -/
def State.crossCheck (s : State) : Bool := s.isSet R.TLT_STATE_HOMED || (s.homing && s.tlt.step == 4)

/-- POT_SAMPLE: each 1 ms; a difference above POT_TOL for 20 ms is a violation (R346). -/
def execPotSample (code : Nat) (s : State) : Out :=
  .next (if s.on Dom.drive ∧ s.dueOrNew .pot then
      let s := ((s.setF R.TLT_POT_CODE code).rearm .pot msNs).setF R.TLT_POT_PRED (s.potPred % 4096).toNat
      let off := ((s.getF R.TLT_POT_CODE : Int) - s.potPred).natAbs
      if s.tltWatches ∧ s.crossCheck ∧ s.getF R.TLT_CFG_POT_TOL < off then
        match s.tlt.potOffAt with
        | none => { s with tlt := { s.tlt with potOffAt := some s.now } }
        | some t => if t + 20 * msNs ≤ s.now then s.tltViolation Ev.TLT_POS else s
      else { s with tlt := { s.tlt with potOffAt := none } }
    else s)

/-- BRIDGE_OVERCURRENT: TCS above ILIM_MA for 1 ms. STO, and homing is required again; the third in 10 s asserts TLT_SAFE
(R368). -/
def execBridgeOvercurrent (s : State) : Out :=
  .next (if s.on Dom.drive = false then s
    else
      let l := s.window (10 * secNs) s.tlt.ocAt
      let s := { s with tlt := { s.tlt with ocAt := l } }
      let st := s.getF R.TLT_STATE_STATE
      let s := (s.setFs [(R.TLT_STATE_CAUSE, 9), (R.TLT_STATE_HOMED, 0)]).raise Ev.TLT_OC
      let s := if st = 1 ∨ st = 2 ∨ st = 3 then s.enterSto else s
      if 3 ≤ l.length then s.assertTrip Src.tltSafe false else s)

end Sys2Proof.Machine
end

