-- ==== Sys2Proof/Machine/Bus.lean ====
section
/-! DEFINITION. The bus: register accesses (R3 to R8, R651 to R654) and the accesses of cores and debug module on it (R23, R401, R652). A
write to a register that has a command row of its own is that row's meaning. -/

namespace Sys2Proof.Machine

/-- The CLAMP flag of a block (R8). -/
def clampFlag (k a : Nat) : Option Fld :=
  match k with
  | 0 => some R.SYS_CINT_CLAMP | 2 => some R.CIL_INT_CLAMP | 4 => some R.ASY_INT_CLAMP | 5 => some R.STK_INT_CLAMP
  | 6 => some R.FLT_INT_CLAMP | 7 => some R.ING_INT_CLAMP | 8 => some R.SIL_INT_CLAMP | 9 => some R.NET_INT_CLAMP
  | 10 => some R.TIM_INT_CLAMP | 11 => some R.CRN_INT_CLAMP | 12 => some R.LUX_INT_CLAMP | 13 => some R.TLT_INT_CLAMP
  | 14 => some R.SIO_INT_CLAMP | 15 => some R.EVL_INT_CLAMP | 17 => some R.THM_INT_CLAMP | 21 => some R.SPI_INT_CLAMP
  | 22 => some (R.UART_INT_CLAMP (a % 0x10000 / 0x8000)) | _ => none

/-- The REFUSED or CFGREFUSED flag of a block (R654). -/
def refusedFlag (k : Nat) : Option Fld :=
  match k with
  | 0 => some R.SYS_CINT_REFUSED | 1 => some R.PMU_INT_REFUSED | 2 => some R.CIL_INT_REFUSED | 3 => some R.TEN_INT_CMDREFUSED
  | 4 => some R.ASY_INT_REFUSED | 7 => some R.ING_INT_CFGREFUSED | 10 => some R.TIM_INT_REFUSED | 13 => some R.TLT_INT_REFUSED
  | 14 => some R.SIO_INT_CFGREFUSED | 15 => some R.EVL_INT_REFUSED | 17 => some R.THM_INT_REFUSED | 18 => some (R.I2C_INT_REFUSED 0)
  | 19 => some (R.I2C_INT_REFUSED 1) | 20 => some R.QSPI_INT_REFUSED | 21 => some R.SPI_INT_REFUSED | _ => none

def State.refuseIn (s : State) (k : Nat) : State :=
  match refusedFlag k with
  | some f => s.flag f
  | none => s

/-- Perform the row `o` where the bit written is 1 (R653). -/
def State.bit (s : State) (b : Bool) (f : State → Out) : State := if b then s.after (f s) else s

/-! ### Commands: the registers whose write is a row -/

/-- A command of several bits in block `k` that has no meaning: 0 does nothing, another sets the block's flag (R654). -/
def State.noCommand (s : State) (k code : Nat) : State :=
  s.access (blockDom k) fun s => if code = 0 then s else s.refuseIn k

/-- SYS: resets, hand-over, watchdogs and OTP (R414, R561). -/
def cmdSys (core : Fin 2) (o v : Nat) (s : State) : Option State :=
  match o with
  | 0x14 => some (((s.access Dom.core id).bit (v.testBit 2) (execAdReset (v / 65536))).bit (v.testBit 1)
      (execCoreReset true (v / 65536)) |>.bit (v.testBit 0) (execSysReset true (v / 65536)))
  | 0x104 => some (((s.access Dom.core id).bit (v.testBit 0) execSplit).bit (v.testBit 1) (execJoin core))
  | 0x120 => some (s.after (execWatchdogKick 0 (Fin.ofNat 65536 v) s))
  | 0x124 => some (s.after (execWatchdogKick 1 (Fin.ofNat 65536 v) s))
  | 0x160 => some (s.after (execOtpRead (Fin.ofNat 8192 (v % 8192 / 4 * 4)) s))
  | _ => none

/-- PMU: device states, domains and operating points (R220, R562). -/
def cmdPmu (o : Nat) (data : Word) (env : BusEnv) (s : State) : Option State :=
  let v := data.toNat
  match o with
  | 0x04 => some (match v % 4 with
      | 1 => s.after (execWatch false s)
      | 2 => s.after (execWork false env.vmode s)
      | 3 => s.after (execStandby false env.persisted s)
      | c => s.noCommand 1 c)
  | 0x0C => some (s.after (execUpdRequest (v.testBit 0) s))
  | 0x10 => some (s.after (execDomainReset v s))
  | 0x200 => some (s.after (execTpointRequest data s))
  | 0x204 => some (s.after (execTcapWrite v s))
  | _ => none

/-- CIL_CTL (R68a). -/
def cmdCil (o v : Nat) (env : BusEnv) (s : State) : Option State :=
  if o ≠ 0 then none
  else some (match v % 16 with
    | 1 => s.after (execCilOpen s)
    | 2 => s.after (execCilAppend s)
    | 3 => s.after (execCilClose env.progs s)
    | 4 => s.after (execCilCheck env.progs s)
    | 5 => s.after (execCilCommit env.progs s)
    | 6 => s.after (execCilAbort s)
    | c => s.noCommand 2 c)

/-- TEN_CMD, the doorbells and the completion heads (R111). -/
def cmdTen (o v : Nat) (s : State) : Option State :=
  let n := Fin.ofNat 16 v
  if o = 4 then some (match v / 16 % 16 with
    | 1 => s.after (execSuspend n s)
    | 2 => s.after (execResume n s)
    | 3 => s.after (execReset n s)
    | 4 => s.after (execLendon n s)
    | 5 => s.after (execLendoff n s)
    | c => s.noCommand 3 c)
  else if 0x100 ≤ o ∧ o < 0x200 then
    some (s.after (execTenSqdb (Fin.ofNat 16 ((o - 0x100) / 16)) (Fin.ofNat 4 (o / 4)) (v % 1024) s))
  else if 0x300 ≤ o ∧ o < 0x400 then
    some (s.after (execTenCqhd (Fin.ofNat 16 ((o - 0x300) / 16)) (Fin.ofNat 4 (o / 4)) (v % 1024) s))
  else none

/-- ASY_CMD (R325). -/
def cmdAsy (o v : Nat) (s : State) : Option State :=
  if o ≠ 4 then none
  else some (match v % 16 with
    | 1 => s.after (execDemote s)
    | 2 => s.after (execDistrust s)
    | 3 => s.after (execRetry s)
    | 4 => s.after (execClearzones s)
    | c => s.noCommand 4 c)

/-- ING_CAMn.CFG and GEOM (R145). -/
def cmdIng (o : Nat) (data : Word) (s : State) : Option State :=
  if 0x100 ≤ o ∧ o < 0x180 ∧ (o % 32 = 0 ∨ o % 32 = 4) then
    some (s.after (execCameraConfigWrite (Fin.ofNat 4 ((o - 0x100) / 32)) (decide (o % 32 = 4)) data s))
  else none

/-- SIL_CTL, SIL_PM and SIL_DBG (R178). -/
def cmdSil (o v : Nat) (s : State) : Option State :=
  match o with
  | 0x00 => some ((((s.access Dom.sill id).bit (v.testBit 0) execRetrain).bit (v.testBit 1) execFulltrain).bit (v.testBit 2) execSillrst)
  | 0x08 => some (((s.access Dom.sill fun s => s.storeAt R.SIL_PM_DOZE_IDLE_US.addr v R.SIL_INT_CLAMP).bit (v.testBit 30) execSleepReq).bit
      (v.testBit 31) execSilResume)
  | 0x38 => some (s.after (execDebugEnable (v.testBit 0) s))
  | _ => none

/-- Enable a ring after its SIZE has been written: with a base it does not accept, EN stays 0 (R424, R425, R450, R485). -/
def State.ringEnable (s : State) (base en n : Fld) (size : Nat) : State :=
  if s.isSet en ∧ ringBaseOk (s.getF base) (s.getF n) size = false then s.setF en 0 else s

/-- NET: ports, MDIO and the rings (R452). -/
def cmdNet (o : Nat) (data : Word) (env : BusEnv) (s : State) : Option State :=
  let v := data.toNat
  let phy := Fin.ofNat 32 (v / 8)
  let reg := Fin.ofNat 32 (v / 256)
  if o = 0 then
    some (s.access Dom.net fun s => (s.setF R.NET_CTL_LEARN_EN (v / 4 % 2)).portEnable (v % 4))
  else if o = 0x80 then
    some (if v.testBit 31 = false then s.access Dom.net id
      else match v % 8 with
        | 0 => s.after (execC22Write phy reg s)
        | 1 => s.after (execC22Read phy reg s)
        | 2 => s.after (execC45Address phy reg s)
        | 3 => s.after (execC45Write phy reg s)
        | 4 => s.after (execC45Read phy reg s)
        | 5 => s.after (execC45ReadIncrement phy reg s)
        | _ => s.access Dom.net id)
  else if 0x100 ≤ o ∧ o < 0x210 ∧ o % 16 = 8 then
    some (s.after (execRxTailWrite (Fin.ofNat 17 ((o - 0x100) / 16)) data s))
  else if 0x100 ≤ o ∧ o < 0x210 ∧ o % 16 = 4 then
    let q := (o - 0x100) / 16
    some (s.access Dom.net fun s =>
      (s.storeAt (R.NET_RXQ_SIZE_N q).addr v R.NET_INT_CLAMP).ringEnable (R.NET_RXQ_BASE_ADDR q) (R.NET_RXQ_SIZE_EN q) (R.NET_RXQ_SIZE_N q) 16)
  else if o = 0x304 then
    some (s.access Dom.net fun s =>
      (s.storeAt R.NET_TXR_SIZE_N.addr v R.NET_INT_CLAMP).ringEnable R.NET_TXR_BASE_ADDR R.NET_TXR_SIZE_EN R.NET_TXR_SIZE_N 16)
  else if o = 0x308 then some (s.after (execTxTailWrite data env.ue s))
  else none

/-- TIM: commands, steps, the domains and the triggers (R453). -/
def cmdTim (o : Nat) (data : Word) (s : State) : Option State :=
  let v := data.toNat
  if o = 0 then
    some (((((s.access Dom.net id).bit (v.testBit 0) execSnap).bit (v.testBit 1) execTb3Align).bit (v.testBit 2) execSelA).bit
      (v.testBit 3) execSelB)
  else if o = 8 then some (s.after (execDomainLockWrite data s))
  else if 0x20 ≤ o ∧ o < 0x60 ∧ o % 16 = 8 then some (s.after (execBaseStep (Fin.ofNat 4 ((o - 0x20) / 16)) data s))
  else if 0x80 ≤ o ∧ o < 0x100 ∧ o % 16 = 0 then some (s.after (execTriggerArm (Fin.ofNat 8 ((o - 0x80) / 16)) data s))
  else none

/-- CRN: enable, commands and rings (R484). -/
def cmdCrn (o v : Nat) (s : State) : Option State :=
  match o with
  | 0x00 => some (s.access Dom.net fun s => s.crnEnable (v.testBit 0))
  | 0x04 => some (((s.access Dom.net id).bit (v.testBit 0) execRestart).bit (v.testBit 1) execRevert)
  | 0x84 => some (s.access Dom.net fun s =>
      (s.storeAt R.CRN_TXQ_SIZE_N.addr v R.CRN_INT_CLAMP).ringEnable R.CRN_TXQ_BASE_ADDR R.CRN_TXQ_SIZE_EN R.CRN_TXQ_SIZE_N 32)
  | 0x94 => some (s.access Dom.net fun s =>
      (s.storeAt R.CRN_MRX_SIZE_N.addr v R.CRN_INT_CLAMP).ringEnable R.CRN_MRX_BASE_ADDR R.CRN_MRX_SIZE_EN R.CRN_MRX_SIZE_N 16)
  | 0xA4 => some (s.access Dom.net fun s =>
      (s.storeAt R.CRN_MTX_SIZE_N.addr v R.CRN_INT_CLAMP).ringEnable R.CRN_MTX_BASE_ADDR R.CRN_MTX_SIZE_EN R.CRN_MTX_SIZE_N 16)
  | _ => none

/-- TLT_CTL and TLT_TARGET (R370). -/
def cmdTlt (o : Nat) (data : Word) (s : State) : Option State :=
  match o with
  | 0 => some (((s.access Dom.drive id).bit (data.toNat.testBit 0) execHome).bit (data.toNat.testBit 1) execTiltStop)
  | 4 => some (s.after (execTltTarget data s))
  | _ => none

/-- SIO_SAFECTL and SIO_TPCFG (R371). -/
def cmdSio (o v : Nat) (s : State) : Option State :=
  match o with
  | 0 => some (((((s.access Dom.aon id).bit (v.testBit 0) execArmA).bit (v.testBit 2) execArmB).bit (v.testBit 1) execTripA).bit
      (v.testBit 3) execTripB)
  | 0x14 => some (s.after (execTpcfgWrite (v % 256) (v / 65536 % 1024) s))
  | _ => none

/-- EVL_RD, EVL_CMD and EVL_SWEV (R611). -/
def cmdEvl (o v : Nat) (s : State) : Option State :=
  match o with
  | 0x0C => some (s.after (execLogRelease (v % 2048) s))
  | 0x28 => some (((s.access Dom.core id).bit (v.testBit 0) execPrestart).bit (v.testBit 1) execFlush)
  | 0x2C => some ((s.access Dom.core id).bit (v.testBit 31) (execFirmwareEvent (v % 256) (v / 256 % 4)))
  | _ => none

/-- LCK: the password, the session and the keys (R68b). -/
def cmdLck (o v : Nat) (s : State) : Option State :=
  if o < 0x20 ∧ o % 4 = 0 then some (s.access Dom.aon fun s => s.setF (R.LCK_PW_BYTES (o / 4)) v)
  else match o with
    | 0x20 => some ((s.access Dom.aon id).bit (v.testBit 31) (execPasswordVerify (v % 64)))
    | 0x28 => some ((s.access Dom.aon id).bit (v.testBit 0) execAuthEnd)
    | 0x2C => some (s.after (if v.testBit 8 then execKeyOpen (v % 32) (v / 65536) s else execKeyClose (v % 32) (v / 65536) s))
    | _ => none

/-- I2C_CMD and I2C_TXD (R146). -/
def cmdI2c (i : Fin 2) (o v : Nat) (s : State) : Option State :=
  match o with
  | 0x04 => some ((s.access Dom.core id).bit (v.testBit 31 || s.isSet (R.I2C_STATUS_BUSY i.val))
      (execI2cTransfer i (v % 1024) (v.testBit 10) (v.testBit 11) (v / 4096 % 256) (v.testBit 20)))
  | 0x10 => some (s.after (execI2cTxd i (BitVec.ofNat 8 v) s))
  | _ => none

/-- QSPI_CMD (R563, R658). -/
def cmdQspi (o v : Nat) (s : State) : Option State :=
  if o ≠ 8 then none
  else
    let len := Fin.ofNat 512 (v / 256)
    some (match v % 8 with
      | 1 => s.after (execQspiProgram len s)
      | 2 => s.after (execQspiErase4k s)
      | 3 => s.after (execQspiErase64k s)
      | 4 => s.after (execQspiRead len s)
      | c => if s.isSet R.QSPI_STATUS_BUSY then s.access Dom.core id else s.noCommand 20 c)

/-- SPI_CMD and SPI_TXD (R649). -/
def cmdSpi (o v : Nat) (env : BusEnv) (s : State) : Option State :=
  match o with
  | 0x04 => some ((s.access Dom.core id).bit (v.testBit 31 || s.isSet R.SPI_STATUS_BUSY)
      (execSpiTransfer (Fin.ofNat 256 v) (Fin.ofNat 8 (v / 256)) (v.testBit 11) env.miso))
  | 0x0C => some (s.after (execSpiTxd (BitVec.ofNat 8 v) s))
  | _ => none

/-- GPIO_OUT, GPIO_SET and GPIO_CLR (R647). -/
def cmdGpio (o : Nat) (data : Word) (s : State) : Option State :=
  match o with
  | 0x04 => some (s.access Dom.core fun s => (s.setF R.GPIO_OUT_LEVEL (data.toNat % 2 ^ 24)).drivePins)
  | 0x08 => some (s.after (execGpioSet data s))
  | 0x0C => some (s.after (execGpioClr data s))
  | _ => none

/-- The write of a register that has rows of its own, in block `k` at offset `o`; none for every other register. -/
def cmdWrite (core : Fin 2) (k o : Nat) (data : Word) (env : BusEnv) (s : State) : Option State :=
  let v := data.toNat
  match k with
  | 0 => cmdSys core o v s
  | 1 => cmdPmu o data env s
  | 2 => cmdCil o v env s
  | 3 => cmdTen o v s
  | 4 => cmdAsy o v s
  | 7 => cmdIng o data s
  | 8 => cmdSil o v s
  | 9 => cmdNet o data env s
  | 10 => cmdTim o data s
  | 11 => cmdCrn o v s
  | 12 => if o = 0x140 then some (s.after (execLuxDarkWrite (v % 65536) (v.testBit 16) s)) else none
  | 13 => cmdTlt o data s
  | 14 => cmdSio o v s
  | 15 => cmdEvl o v s
  | 16 => cmdLck o v s
  | 17 => if o = 4 then some (((s.access Dom.core id).bit (v.testBit 0) execStepTest).bit (v.testBit 1) execStepTestAbort) else none
  | 18 => cmdI2c 0 o v s
  | 19 => cmdI2c 1 o v s
  | 20 => cmdQspi o v s
  | 21 => cmdSpi o v env s
  | 22 => if o % 0x8000 = 8 then some (s.after (execUartTxd (Fin.ofNat 2 (o / 0x8000)) (BitVec.ofNat 8 v) s)) else none
  | 23 => cmdGpio o data s
  | _ => none

/-! ### Plain registers -/

/-- What follows a change of a plain register: the zones, the darkness, the trip sources and the tilt follow their settings, and the
time bases theirs; RTS_N follows the flow control. -/
def State.settled (s : State) (t k : Nat) : State :=
  match k with
  | 4 | 5 | 12 | 13 | 14 => (s.refreshZones t).luxDarkRefresh.sioSources.tltRefresh
  | 10 => s.timEval
  | 22 => s.drivePins
  | _ => s

/-- The register holds a field that its block's key guards. -/
def keyedReg (l : List FieldRow) : Bool := l.any fun r => match r.acc with | .rwk => true | _ => false

/-- A write of a register without a row of its own, of block `k` at `a` (R3 to R8, R654). -/
def State.plainWrite (s : State) (k a v : Nat) (l : List FieldRow) : State :=
  if keyedReg l ∧ s.keyOpen k = false then s.keyViolation k
  else
    let s := s.answer .ok
    if l.all (fun r => r.meaning v) = false then s.refuseIn k
    else
      let t := s.luxTarget
      (s.storeClamp l v (clampFlag k a)).settled t k

/-- In split mode C1 reaches neither the CIL, LCK and SIO, nor SYS but for its own registers (R391). -/
def State.c1Refused (s : State) (core : Fin 2) (k o : Nat) : Bool :=
  core == 1 && decide (s.getF R.SYS_CORE_STATE ≠ 0) &&
    (k == 2 || k == 14 || k == 16 || (k == 0 && !([0x104, 0x124, 0x130, 0x138, 0x13C, 0x148, 0x14C].contains o)))

/-- A write in the block map by a core or the debug module: an aligned 32-bit one, or a bus error (R3). -/
def State.regWrite (s : State) (core : Fin 2) (a size : Nat) (data : Word) (env : BusEnv) : State :=
  let k := blockOf a
  match fieldsAt a with
  | none => s.answer .busError
  | some l =>
    if size ≠ 4 then s.answer .busError
    else if s.c1Refused core k (a % 0x10000) then s.answer .busError
    else if s.on (blockDom k) = false then s.answer .busError
    else match cmdWrite core k (a % 0x10000) data env s with
      | some t => t
      | none => s.plainWrite k a data.toNat l

/-- PMU_RTC_LO: a read returns the low half of the real-time counter and latches the high half (R562). -/
def execPmuRtcLo (s : State) : Out :=
  .next (s.access Dom.aon fun s =>
    (s.setF R.PMU_RTC_HI_TICKS (s.rtc / 2 ^ 32)).answer (.data (BitVec.ofNat 32 s.rtc)))

/-- A read in the block map, aligned and of 32 bits, or a bus error (R3); the registers whose read has a row are that row's meaning. -/
def State.regRead (s : State) (core : Fin 2) (a size : Nat) : State :=
  let k := blockOf a
  let o := a % 0x10000
  match fieldsAt a with
  | none => s.answer .busError
  | some l =>
    if size ≠ 4 then s.answer .busError
    else if s.c1Refused core k o then s.answer .busError
    else if s.on (blockDom k) = false then s.answer .busError
    else if k = 0 ∧ o = 0x138 then s.after (execSysMtimeLo s)
    else if k = 1 ∧ o = 0x20 then s.after (execPmuRtcLo s)
    else if k = 15 ∧ o = 0x18 then s.after (execEvlQMax s)
    else if (k = 18 ∨ k = 19) ∧ o = 0x14 then s.after (execI2cRxd (Fin.ofNat 2 (k - 18)) s)
    else if k = 21 ∧ o = 0x10 then s.after (execSpiRxd s)
    else if k = 22 ∧ o % 0x8000 = 0xC then s.after (execUartRxd (Fin.ofNat 2 (o / 0x8000)) s)
    else (s.answer (.data (BitVec.ofNat 32 (s.readWord l)))).afterRead l

/-! ### The CD's bus (R23, R24, R401, R652) -/

/-- The core whose rights an access has; the debug module has those of C0. -/
def Master.id (m : Master) : Fin 2 := match m with | .core n => n | .debug => 0

/-- An access that cannot be performed: an access fault on a core, a bus error for the debug module (R395, R398). -/
def State.busFault (s : State) (m : Master) : State :=
  match m with | .core _ => s.answer .accessFault | .debug => s.answer .busError

/-- A misaligned access of memory (R652). -/
def State.busMisaligned (s : State) (m : Master) : State :=
  match m with | .core _ => s.answer .misaligned | .debug => s.answer .busError

/-- Answer `size` bytes. -/
def State.answerBytes (s : State) (l : List Byte) : State := s.answer (.data (BitVec.ofNat 32 (leNat l)))

/-- A read of the boot ROM; a word whose parity fails ends in a fault (R398). Its contents are not in the spec (log entry 94). -/
def State.romRead (s : State) (m : Master) (a size : Nat) (bad : Bool) : State :=
  if bad then (s.busFault m).raise Ev.SYS_ROM_PAR a
  else s.answerBytes ((List.range size).map fun i => (Sparse.find s.rom (a + i)).getD (Config.romByte (a + i)))

/-- A read of SRAM, with what its ECC finds (R395). -/
def State.sramRead (s : State) (m : Master) (a size : Nat) (ecc : Fin 3) : State :=
  let ok := s.answerBytes (s.sramBytes (a - 0x10000000) size)
  match ecc.val with
  | 0 => ok
  | 1 => ok.sramCe a
  | _ => (s.busFault m).sramUe a

/-- A byte of log RAM; a record being written does not show before its write has ended (R590, R592). -/
def State.logByte (s : State) (o : Nat) : Byte :=
  match Sparse.find s.evl.ring (o / 32) with
  | some sl => sl.bytes.getD (o % 32) 0
  | none => 0

/-- A read of log RAM, with what its ECC finds: a single-bit error is corrected and written back, an uncorrectable one ends in a bus
error. -/
def State.logRead (s : State) (o size : Nat) (ecc : Fin 3) : State :=
  if ecc.val = 2 then (s.answer .busError).logRamUe o
  else s.answerBytes ((List.range size).map fun i => s.logByte (o + i))

/-- The memory that holds an address of the map: 0 boot ROM, 1 SRAM, 2 the flash window, 3 log RAM (R23). -/
def memoryAt (a : Nat) : Option Nat :=
  if a < 0x18000 then some 0
  else if 0x10000000 ≤ a ∧ a < 0x10080000 then some 1
  else if 0x20000000 ≤ a ∧ a < 0x24000000 then some 2
  else if 0x50000000 ≤ a ∧ a < 0x50010000 then some 3
  else none

/-- The address lies in the AD window (R24). -/
def inAdWindow (a : Nat) : Bool := decide (0x30000000 ≤ a ∧ a < 0x40000000)

/-- A load or fetch on the CD's bus: `ecc` is what the parity of the ROM or the ECC of SRAM or log RAM finds. The AD window is the cores' alone
(R401). -/
def State.busLoad (s : State) (m : Master) (a size : Nat) (ecc : Fin 3) : State :=
  match memoryAt a with
  | some k =>
    if a % size ≠ 0 then s.busMisaligned m
    else match k with
      | 0 => s.romRead m a size (decide (ecc.val ≠ 0))
      | 1 => s.sramRead m a size ecc
      | 2 =>
        if a - 0x20000000 < s.getF R.QSPI_CFG_DENSITY_KIB * 1024 then s.answerBytes (s.flashBytes (a - 0x20000000) size)
        else s.answer .busError
      | _ => s.logRead (a - 0x50000000) size ecc
  | none =>
    if inAdWindow a then
      (match m with
       | .core _ => s.after (execAdWindowRead (a - 0x30000000) size s)
       | .debug => s.answer .busError)
    else if 0x40000000 ≤ a ∧ a < 0x50000000 then s.regRead m.id a size
    else s.answer .busError

/-- A store on the CD's bus: SRAM, the registers and, for the cores, the AD window take it; the boot ROM answers a core with a store
access fault. -/
def State.busStore (s : State) (m : Master) (a size : Nat) (data : Word) (env : BusEnv) : State :=
  match memoryAt a with
  | some k =>
    if a % size ≠ 0 then s.busMisaligned m
    else match k with
      | 0 => s.busFault m
      | 1 => (s.sramWrite (a - 0x10000000) (leBytes size data.toNat)).answer .ok
      | _ => s.answer .busError
  | none =>
    if inAdWindow a then
      (match m with
       | .core _ => s.after (execAdWindowWrite (a - 0x30000000) size data s)
       | .debug => s.answer .busError)
    else if 0x40000000 ≤ a ∧ a < 0x50000000 then s.regWrite m.id a size data env
    else s.answer .busError

/-- An access waits for the comparison in lockstep: every store, and every load of an address at or above 0x3000_0000 (R380). -/
def heldAccess (op : BusOp) (a : Nat) : Bool :=
  match op with | .store => true | .load => decide (0x30000000 ≤ a) | .fetch => false

/-- An access of a core: a mismatch found on a held one drops it (R380, R405). -/
def State.coreAccess (s : State) (core : Fin 2) (op : BusOp) (a size : Nat) (data : Word) (ecc : Fin 3) (env : BusEnv) : State :=
  match env.differs with
  | some g =>
    if s.lockstep ∧ heldAccess op a then (s.answer .none).mismatch g.val a
    else match op with
      | .store => s.busStore (.core core) a size data env
      | _ => s.busLoad (.core core) a size ecc
  | none => match op with
    | .store => s.busStore (.core core) a size data env
    | _ => s.busLoad (.core core) a size ecc

/-- REGISTER_WRITE: a store by core `core` of `size` bytes at `addr` (R3 to R8, R380, R651 to R654). -/
def execRegisterWrite (core : Fin 2) (addr size : Nat) (data : Word) (env : BusEnv) (s : State) : Out :=
  .next (s.coreAccess core .store addr size data 0 env)

/-- A system-bus access of the debug module, while it is active and no error of an earlier access stands; it does 32-bit accesses and
reaches no part of the AD (R401). A bus error is kept in sberror, and so is a size it does not support. -/
def State.debugAccess (s : State) (op : BusOp) (a size : Nat) (data : Word) (ecc : Fin 3) (env : BusEnv) : State :=
  if s.dbgOn = false ∨ s.cpu.dbg.sberror ≠ 0 then s
  else if size ≠ 4 then s.dbgSet fun d => { d with sberror := 4 }
  else
    let s := match op with
      | .store => s.busStore .debug a size data env
      | _ => s.busLoad .debug a size ecc
    let s := s.dbgSet fun d => { d with sbaddr := a }
    match s.resp with
    | .busError => s.dbgSet fun d => { d with sberror := 2 }
    | .data w => s.dbgSet fun d => { d with sbdata := w.toNat }
    | _ => s

/-- SYSTEM_BUS_ACCESS: an access on the CD's bus, by the debug module (R401) or, for the loads and fetches that have no row of their
own, by a core (R23, R652). -/
def execSystemBusAccess (m : Master) (op : BusOp) (addr size : Nat) (data : Word) (ecc : Fin 3) (env : BusEnv) (s : State) : Out :=
  .next (match m with
    | .core n => if s.coresRun then s.coreAccess n op addr size data ecc env else s
    | .debug => s.debugAccess op addr size data ecc env)

end Sys2Proof.Machine
end

