-- ==== Sys2Proof/Machine/Update.lean ====
section
/-! DEFINITION. The update unit (R488 to R492, R519, R520): REDUCE, REDUCE_FIRST, NORM and UPDATE. -/

namespace Sys2Proof.Machine

/-- FP32 words of a tenant's memory, and back. -/
def words32 (l : List Byte) : List Nat := (rowsOf 4 l).map leNat
def bytes32 (l : List Nat) : List Byte := l.flatMap (leBytes 4)

/-- Count the bytes the unit moves, in units of 64, and charge them (R86, R490). -/
def State.updMoved (s : State) (n bytes : Nat) : State := (s.charge n ((bytes + 63) / 64)).wrapAdd R.UPD_BYTES_BYTES ((bytes + 63) / 64)

/-- Begin an action of the unit for a job: one at a time, and only while AD_UPD is on; a job that finds it off completes
with REFUSED_FORMAT (R488, R519). -/
def State.updRow (s : State) (n action : Nat) (f : Job → State → State) : State :=
  s.startRow n (fun j => j.op == 4 && j.arg 0 == action) fun _ j _ s =>
    if s.on Dom.adUpd = false then s.finish j 1
    else if s.isSet R.UPD_STAT_BUSY then s
    else f j (s.setFs [(R.UPD_STAT_BUSY, 1), (R.UPD_STAT_ACTION, action), (R.UPD_STAT_TENANT, n)])

/-- The action read poison (R490, R520). -/
def State.updPoison (s : State) (n : Nat) : State := (s.satInc R.UPD_NONFIN_POISON).adRaise 0x2702 2 n 0

/-- REDUCE and REDUCE_FIRST: slot[i] = slot[i] + f · g[i], or f · g[i] (R489). A chunk of which part is lost is not
written (log entry 34). `errs` counts on from the chunk's pieces to the slot's. -/
def State.updReduce (s : State) (j : Job) (first : Bool) (errs : List (Nat × MemErr)) : State :=
  let n := j.tenant
  let e := s.fetch n j.inAddr j.inLen errs
  let k := (j.inLen + 63) / 64
  let o := if first then ([], e.2) else
    e.2.fetch n j.outAddr j.inLen (errs.filterMap fun p => if k ≤ p.1 then some (p.1 - k, p.2) else none)
  if (e.1 ++ o.1).any (·.2) then (o.2.updPoison n).beginPlain j 0 true
  else
    let s := o.2
    let g := words32 (e.1.flatMap (·.1))
    let slot := words32 (o.1.flatMap (·.1))
    let f := j.arg 2
    let r := (List.range g.length).map fun i =>
      let x := fmul f (g.getD i 0)
      if first then x else fadd (slot.getD i 0) x
    ((s.updMoved n ((if first then 2 else 3) * j.inLen)).store n j.outAddr ((rowsOf 64 (padTo ((j.inLen + 63) / 64 * 64) (bytes32 r))).mapIdx fun i b =>
      (b.take (min 64 (j.inLen - 64 * i)), false))).beginPlain j j.inLen false

/-- REDUCE. -/
def execReduce (tenant : Fin 16) (errs : List (Nat × MemErr)) (s : State) : Out :=
  .next (s.updRow tenant.val 1 fun j s => s.updReduce j false errs)

/-- REDUCE_FIRST. -/
def execReduceFirst (tenant : Fin 16) (errs : List (Nat × MemErr)) (s : State) : Out :=
  .next (s.updRow tenant.val 2 fun j s => s.updReduce j true errs)

/-- The FP32 elements of a tensor in the slots of one pass (R492). -/
def State.slotWords (s : State) (n : Nat) (l : Lcb) (k : Nat) (t : Tensor) (gather : Bool) : List Nat :=
  (List.range t.elems).map fun i => leNat (s.tenRead n (l.slotAddr k (t.off + 4 * i) gather) 4)

/-- Write a tensor's elements into the slots of one pass; an element that no region takes is the tenant's fault REGION (R77). -/
def State.putSlot (s : State) (n : Nat) (l : Lcb) (k : Nat) (t : Tensor) (gather : Bool) (v : List Nat) : State :=
  let ok := (List.range t.elems).all fun i => s.mayAccess n (l.slotAddr k (t.off + 4 * i) gather) 4 true
  (s.forN t.elems fun i s => s.tenWrite n (l.slotAddr k (t.off + 4 * i) gather) (leBytes 4 (v.getD i 0))).doIf (!ok) fun s => s.adFault n 1 0

/-- The tensor of the segment in which lost data lie, if `bad` names one and an error that loses its data (R79, R191). -/
def State.badTensor (s : State) (n : Nat) (l : Lcb) (k : Nat) (bad : Option (Nat × MemErr)) : Option Tensor × State :=
  match bad.bind fun b => (l.segment k)[b.1]?.map fun t => (t, b.2) with
  | none => (none, s)
  | some (t, err) =>
    let e := s.meetError n (l.slotAddr k t.off false) err
    (if e.1 then some t else none, e.2)

/-- NORM: per tensor of the segment q and nf, from the slot sums (R489); the entry of a tensor with lost data is left as it
was (log entry 34). -/
def execNorm (tenant : Fin 16) (bad : Option (Nat × MemErr)) (s : State) : Out :=
  .next (s.updRow tenant.val 3 fun j s =>
    let n := tenant.val
    let l := lcbOf (s.lcbBytes n j.lcbAddr)
    let k := j.seg
    let e := s.badTensor n l k bad
    let s := e.2.updMoved n (l.segBytes k)
    let ts := l.segment k
    let r := ts.map fun t => s.slotWords n l k t false
    let entries : List (Option (Nat × Bool)) := (List.range ts.length).map fun i =>
      if (ts[i]?).isSome ∧ ts[i]? = e.1 then none
      else some (sumSquares (r.getD i []), (r.getD i []).any fun x => !fFinite x)
    let s := s.forN ts.length fun i s => match entries.getD i none with
      | some (q, nf) => s.store n (j.outAddr + 8 * i) [(leBytes 4 q ++ leBytes 4 (if nf then 1 else 0), false)]
      | none => s
    let nonfin := entries.any fun x => match x with | some (_, b) => b | none => false
    let s := if nonfin then (s.satInc R.UPD_NONFIN_COUNT).adRaise 0x2701 3 n 0 else s
    let s := if e.1.isSome then s.updPoison n else s
    s.beginPlain j (8 * (entries.filter Option.isSome).length) e.1.isSome)

/-- One element of an UPDATE: parameter, moments and gradient to the new parameter and moments (R489). -/
def updElem (l : Lcb) (decay : Bool) (p m v g : Nat) : Nat × Nat × Nat :=
  let k := l.updates + 1
  let d := fmul l.wd (if decay then fOne else 0)
  let r :=
    if l.sgd then
      let m' := fadd (fmul l.mu m) g
      (m', m', v)
    else
      let m' := fadd (fmul l.b1 m) (fmul (fsub fOne l.b1) g)
      let v' := fadd (fmul l.b2 v) (fmul (fmul (fsub fOne l.b2) g) g)
      let mh := fdiv m' (fsub fOne (Config.betaPow l.b1 k).toNat)
      let vh := fdiv v' (fsub fOne (Config.betaPow l.b2 k).toNat)
      (fdiv mh (fadd (fsqrt vh) l.eps), m', v')
  (fsub p (fmul l.lr (fadd r.1 (fmul d p))), r.2.1, r.2.2)

/-- FP32 of a whole number. -/
def fOfNat (n : Nat) : Nat := FpFmt.fp32.bits (.fin false n 0)

/-- FP32 of 2^e. -/
def fPow2 (e : Nat) : Nat := FpFmt.fp32.bits (.fin false 1 e)

/-- UPDATE of one tensor: scale, clip, update, and the new parameters into the gather slots (R489, R492). -/
def State.updTensor (s : State) (n : Nat) (l : Lcb) (k e c : Nat) (t : Tensor) : State :=
  let sc := fmul (fPow2 e) (fOfNat c)
  let g := (s.slotWords n l k t false).map fun x => fdiv x sc
  let nrm := fsqrt (sumSquares g)
  let a := if (f32 t.clip).lt (f32 nrm) then fdiv t.clip nrm else fOne
  let base := t.off - l.segOff k
  let ps := words32 (s.tenRead n (l.param + t.off) t.bytes)
  let ms := words32 (s.tenRead n (l.mom + base) t.bytes)
  let vs := if l.sgd then [] else words32 (s.tenRead n (l.mom + l.segBytes k + base) t.bytes)
  let r := (List.range t.elems).map fun i =>
    updElem l t.decay (ps.getD i 0) (ms.getD i 0) (vs.getD i 0) (fmul (g.getD i 0) a)
  let s := s.tenStore n (l.param + t.off) (bytes32 (r.map (·.1)))
  let s := s.tenStore n (l.mom + base) (bytes32 (r.map (·.2.1)))
  let s := if l.sgd then s else s.tenStore n (l.mom + l.segBytes k + base) (bytes32 (r.map (·.2.2)))
  s.putSlot n l k t true (r.map (·.1))

/-- UPDATE: every tensor of the segment but one with lost data, whose parameters and moments stay (R490). -/
def execUpdate (tenant : Fin 16) (bad : Option (Nat × MemErr)) (s : State) : Out :=
  .next (s.updRow tenant.val 4 fun j s =>
    let n := tenant.val
    let l := lcbOf (s.lcbBytes n j.lcbAddr)
    let k := j.seg
    let e := s.badTensor n l k bad
    let s := e.2.updMoved n ((if l.sgd then 24 else 32) * (l.segBytes k / 4))
    let s := s.forL (l.segment k) fun t s =>
      if e.1 = some t then s else s.updTensor n l k (j.arg 2 / 256 % 256) (j.arg 2 / 65536 % 64) t
    let s := if e.1.isSome then s.updPoison n else s
    s.beginPlain j 0 e.1.isSome)

end Sys2Proof.Machine
end

