-- ==== Sys2Proof/Machine/Dispatch.lean ====
section
/-! DEFINITION. The dispatch: one arm per command, a direct call of its meaning. -/

namespace Sys2Proof.Machine

/-- The effect of a command on everything but the queue. -/
def exec (i : Instr) (s : State) : Host.Outcome State Fault Refusal :=
  match i with
  | .registerWrite core addr size data env => Sys2Proof.Machine.execRegisterWrite core addr size data env s
  | .i2cRxd ch => Sys2Proof.Machine.execI2cRxd ch s
  | .uartRxd ch => Sys2Proof.Machine.execUartRxd ch s
  | .spiRxd => Sys2Proof.Machine.execSpiRxd s
  | .tlSeammax tile => Sys2Proof.Machine.execTlSeammax tile s
  | .evlQMax => Sys2Proof.Machine.execEvlQMax s
  | .sysMtimeLo => Sys2Proof.Machine.execSysMtimeLo s
  | .pmuRtcLo => Sys2Proof.Machine.execPmuRtcLo s
  | .cilOpen => Sys2Proof.Machine.execCilOpen s
  | .cilAppend => Sys2Proof.Machine.execCilAppend s
  | .cilClose progs => Sys2Proof.Machine.execCilClose progs s
  | .cilCheck progs => Sys2Proof.Machine.execCilCheck progs s
  | .cilCommit progs => Sys2Proof.Machine.execCilCommit progs s
  | .cilAbort => Sys2Proof.Machine.execCilAbort s
  | .applyStepDone ok part progs => Sys2Proof.Machine.execApplyStepDone ok part progs s
  | .applyStepDeadline progs => Sys2Proof.Machine.execApplyStepDeadline progs s
  | .passwordVerify len => Sys2Proof.Machine.execPasswordVerify len s
  | .verificationDone progs => Sys2Proof.Machine.execVerificationDone progs s
  | .authEnd => Sys2Proof.Machine.execAuthEnd s
  | .sessionExpiry => Sys2Proof.Machine.execSessionExpiry s
  | .lockEnd progs => Sys2Proof.Machine.execLockEnd progs s
  | .keyOpen block code => Sys2Proof.Machine.execKeyOpen block code s
  | .keyClose block code => Sys2Proof.Machine.execKeyClose block code s
  | .keyExpiry block => Sys2Proof.Machine.execKeyExpiry block s
  | .suspend tenant => Sys2Proof.Machine.execSuspend tenant s
  | .resume tenant => Sys2Proof.Machine.execResume tenant s
  | .reset tenant => Sys2Proof.Machine.execReset tenant s
  | .lendon tenant => Sys2Proof.Machine.execLendon tenant s
  | .lendoff tenant => Sys2Proof.Machine.execLendoff tenant s
  | .tenSqdb tenant queue tail => Sys2Proof.Machine.execTenSqdb tenant queue tail s
  | .tenCqhd tenant queue head => Sys2Proof.Machine.execTenCqhd tenant queue head s
  | .adWindowRead offset size => Sys2Proof.Machine.execAdWindowRead offset size s
  | .adWindowWrite offset size data => Sys2Proof.Machine.execAdWindowWrite offset size data s
  | .memTimeout => Sys2Proof.Machine.execMemTimeout s
  | .tenantFault tenant code arg => Sys2Proof.Machine.execTenantFault tenant code arg s
  | .scrubComplete tenant => Sys2Proof.Machine.execScrubComplete tenant s
  | .modelVerified tenant err => Sys2Proof.Machine.execModelVerified tenant err s
  | .stateAckTimeout tenant => Sys2Proof.Machine.execStateAckTimeout tenant s
  | .canaryAuditRound => Sys2Proof.Machine.execCanaryAuditRound s
  | .auditAnswerTimeout => Sys2Proof.Machine.execAuditAnswerTimeout s
  | .majorFrameStart => Sys2Proof.Machine.execMajorFrameStart s
  | .frameReportTimeout => Sys2Proof.Machine.execFrameReportTimeout s
  | .slotBoundary => Sys2Proof.Machine.execSlotBoundary s
  | .slotStopLead => Sys2Proof.Machine.execSlotStopLead s
  | .memoryGrant err => Sys2Proof.Machine.execMemoryGrant err s
  | .frameStart rx vc lanes hdr => Sys2Proof.Machine.execFrameStart rx vc lanes hdr s
  | .linePacket rx vc lanes hdr dtype payload crcOk => Sys2Proof.Machine.execLinePacket rx vc lanes hdr dtype payload crcOk s
  | .frameEnd rx vc lanes hdr => Sys2Proof.Machine.execFrameEnd rx vc lanes hdr s
  | .frameTimeout cam => Sys2Proof.Machine.execFrameTimeout cam s
  | .cameraSilence cam => Sys2Proof.Machine.execCameraSilence cam s
  | .flintCopy cam => Sys2Proof.Machine.execFlintCopy cam s
  | .phyError rx => Sys2Proof.Machine.execPhyError rx s
  | .cameraConfigWrite cam geom data => Sys2Proof.Machine.execCameraConfigWrite cam geom data s
  | .i2cTransfer ch addr a10 rd len rstart => Sys2Proof.Machine.execI2cTransfer ch addr a10 rd len rstart s
  | .i2cTransferDone ch nack count data => Sys2Proof.Machine.execI2cTransferDone ch nack count data s
  | .arbitrationLost n byte bit data => Sys2Proof.Machine.execArbitrationLost n byte bit data s
  | .i2cRetry n bus => Sys2Proof.Machine.execI2cRetry n bus s
  | .busStuck n count data => Sys2Proof.Machine.execBusStuck n count data s
  | .i2cBuserr n count data => Sys2Proof.Machine.execI2cBuserr n count data s
  | .i2cTxd ch data => Sys2Proof.Machine.execI2cTxd ch data s
  | .linkTraining ev => Sys2Proof.Machine.execLinkTraining ev s
  | .trainingStepTimeout step => Sys2Proof.Machine.execTrainingStepTimeout step s
  | .linkUp => Sys2Proof.Machine.execLinkUp s
  | .fastRetrain => Sys2Proof.Machine.execFastRetrain s
  | .blockLockLost headers => Sys2Proof.Machine.execBlockLockLost headers s
  | .retrain => Sys2Proof.Machine.execRetrain s
  | .fulltrain => Sys2Proof.Machine.execFulltrain s
  | .sillrst => Sys2Proof.Machine.execSillrst s
  | .dataFlit ad headers flit => Sys2Proof.Machine.execDataFlit ad headers flit s
  | .linkControlFlit ad flit => Sys2Proof.Machine.execLinkControlFlit ad flit s
  | .ackTimer ad => Sys2Proof.Machine.execAckTimer ad s
  | .replayTimeout ad => Sys2Proof.Machine.execReplayTimeout ad s
  | .ready => Sys2Proof.Machine.execReady s
  | .tenCmd => Sys2Proof.Machine.execTenCmd s
  | .tenAck tenant action state => Sys2Proof.Machine.execTenAck tenant action state s
  | .doorbell errs => Sys2Proof.Machine.execDoorbell errs s
  | .majorTick => Sys2Proof.Machine.execMajorTick s
  | .frameReport k lends late lateS stalls => Sys2Proof.Machine.execFrameReport k lends late lateS stalls s
  | .probe => Sys2Proof.Machine.execProbe s
  | .probeResult tile bits data => Sys2Proof.Machine.execProbeResult tile bits data s
  | .config => Sys2Proof.Machine.execConfig s
  | .configAck tag status reason => Sys2Proof.Machine.execConfigAck tag status reason s
  | .event body => Sys2Proof.Machine.execEvent body s
  | .energyPlan body => Sys2Proof.Machine.execEnergyPlan body s
  | .pmEnter => Sys2Proof.Machine.execPmEnter s
  | .pmAck target => Sys2Proof.Machine.execPmAck target s
  | .pmAckTimeout => Sys2Proof.Machine.execPmAckTimeout s
  | .electricalIdle => Sys2Proof.Machine.execElectricalIdle s
  | .resumeAck release => Sys2Proof.Machine.execResumeAck release s
  | .debug req => Sys2Proof.Machine.execDebug req s
  | .debugRsp status data => Sys2Proof.Machine.execDebugRsp status data s
  | .nakMsg => Sys2Proof.Machine.execNakMsg s
  | .frameOpen => Sys2Proof.Machine.execFrameOpen s
  | .frameData => Sys2Proof.Machine.execFrameData s
  | .frameTrailer => Sys2Proof.Machine.execFrameTrailer s
  | .streakSet => Sys2Proof.Machine.execStreakSet s
  | .record tenant count tag body => Sys2Proof.Machine.execRecord tenant count tag body s
  | .complNote tenant queue tail tag => Sys2Proof.Machine.execComplNote tenant queue tail tag s
  | .memRd err => Sys2Proof.Machine.execMemRd err s
  | .memRdData tag status data => Sys2Proof.Machine.execMemRdData tag status data s
  | .memWr err => Sys2Proof.Machine.execMemWr err s
  | .memWrAck tag status => Sys2Proof.Machine.execMemWrAck tag status s
  | .dozeIdleTimeout => Sys2Proof.Machine.execDozeIdleTimeout s
  | .sleepReq => Sys2Proof.Machine.execSleepReq s
  | .sleepAfterTimeout => Sys2Proof.Machine.execSleepAfterTimeout s
  | .silResume => Sys2Proof.Machine.execSilResume s
  | .sbWake high => Sys2Proof.Machine.execSbWake high s
  | .resumeComplete => Sys2Proof.Machine.execResumeComplete s
  | .debugEnable en => Sys2Proof.Machine.execDebugEnable en s
  | .apllSlewDone => Sys2Proof.Machine.execApllSlewDone s
  | .slewTimeout => Sys2Proof.Machine.execSlewTimeout s
  | .tpointRequest data => Sys2Proof.Machine.execTpointRequest data s
  | .tcapWrite cap => Sys2Proof.Machine.execTcapWrite cap s
  | .voutPoll mv => Sys2Proof.Machine.execVoutPoll mv s
  | .voutTimeout => Sys2Proof.Machine.execVoutTimeout s
  | .clockPlanAckTimeout => Sys2Proof.Machine.execClockPlanAckTimeout s
  | .tilePowerUp tile => Sys2Proof.Machine.execTilePowerUp tile s
  | .memoryTrained step rate density => Sys2Proof.Machine.execMemoryTrained step rate density s
  | .mr4Poll a b hot => Sys2Proof.Machine.execMr4Poll a b hot s
  | .dramRefresh channel => Sys2Proof.Machine.execDramRefresh channel s
  | .wckOscMeasure drift => Sys2Proof.Machine.execWckOscMeasure drift s
  | .bundleDispatch tile => Sys2Proof.Machine.execBundleDispatch tile s
  | .nextBundle tile => Sys2Proof.Machine.execNextBundle tile s
  | .loop tile => Sys2Proof.Machine.execLoop tile s
  | .endl tile => Sys2Proof.Machine.execEndl tile s
  | .jump tile => Sys2Proof.Machine.execJump tile s
  | .halt tile => Sys2Proof.Machine.execHalt tile s
  | .sync tile => Sys2Proof.Machine.execSync tile s
  | .tileHalted tile => Sys2Proof.Machine.execTileHalted tile s
  | .nop tile engine => Sys2Proof.Machine.execNop tile engine s
  | .mseta tile => Sys2Proof.Machine.execMseta tile s
  | .mmode tile => Sys2Proof.Machine.execMmode tile s
  | .wload tile errs => Sys2Proof.Machine.execWload tile errs s
  | .wswap tile => Sys2Proof.Machine.execWswap tile s
  | .mma tile errs => Sys2Proof.Machine.execMma tile errs s
  | .sigo tile => Sys2Proof.Machine.execSigo tile s
  | .sigc tile => Sys2Proof.Machine.execSigc tile s
  | .aclr tile => Sys2Proof.Machine.execAclr tile s
  | .valu tile => Sys2Proof.Machine.execValu tile s
  | .vfma tile => Sys2Proof.Machine.execVfma tile s
  | .vcmp tile => Sys2Proof.Machine.execVcmp tile s
  | .vsh tile => Sys2Proof.Machine.execVsh tile s
  | .vsfu tile => Sys2Proof.Machine.execVsfu tile s
  | .vcvt tile => Sys2Proof.Machine.execVcvt tile s
  | .vsel tile => Sys2Proof.Machine.execVsel tile s
  | .vred tile => Sys2Proof.Machine.execVred tile s
  | .vld tile errs => Sys2Proof.Machine.execVld tile errs s
  | .vst tile => Sys2Proof.Machine.execVst tile s
  | .vldt tile errs => Sys2Proof.Machine.execVldt tile errs s
  | .vrq tile => Sys2Proof.Machine.execVrq tile s
  | .vacc tile => Sys2Proof.Machine.execVacc tile s
  | .vparam tile errs => Sys2Proof.Machine.execVparam tile errs s
  | .vspl tile => Sys2Proof.Machine.execVspl tile s
  | .vseta tile => Sys2Proof.Machine.execVseta tile s
  | .vpmap tile => Sys2Proof.Machine.execVpmap tile s
  | .msetd tile => Sys2Proof.Machine.execMsetd tile s
  | .mload tile => Sys2Proof.Machine.execMload tile s
  | .mstore tile => Sys2Proof.Machine.execMstore tile s
  | .msend tile => Sys2Proof.Machine.execMsend tile s
  | .mrecv tile => Sys2Proof.Machine.execMrecv tile s
  | .mfence tile => Sys2Proof.Machine.execMfence tile s
  | .engineOpComplete tile engine => Sys2Proof.Machine.execEngineOpComplete tile engine s
  | .shiftComplete tile queue count errs => Sys2Proof.Machine.execShiftComplete tile queue count errs s
  | .seamReached tile interval drain => Sys2Proof.Machine.execSeamReached tile interval drain s
  | .tileSeamLate tile cycles => Sys2Proof.Machine.execTileSeamLate tile cycles s
  | .tileCreditStall tile queue => Sys2Proof.Machine.execTileCreditStall tile queue s
  | .tileDeadlock tile => Sys2Proof.Machine.execTileDeadlock tile s
  | .swap tile bank tenant => Sys2Proof.Machine.execSwap tile bank tenant s
  | .stop tile reason => Sys2Proof.Machine.execStop tile reason s
  | .start tile bank tenant => Sys2Proof.Machine.execStart tile bank tenant s
  | .swapLimitExpiry tile => Sys2Proof.Machine.execSwapLimitExpiry tile s
  | .stopLimitExpiry tile => Sys2Proof.Machine.execStopLimitExpiry tile s
  | .shiftWithdrawn tile queue peer peerQ send => Sys2Proof.Machine.execShiftWithdrawn tile queue peer peerQ send s
  | .programBankWrite tile bank reg offset data => Sys2Proof.Machine.execProgramBankWrite tile bank reg offset data s
  | .phaseBarrier job err => Sys2Proof.Machine.execPhaseBarrier job err s
  | .inferFrame tenant err => Sys2Proof.Machine.execInferFrame tenant err s
  | .inferCrops tenant err => Sys2Proof.Machine.execInferCrops tenant err s
  | .inferBatch tenant err => Sys2Proof.Machine.execInferBatch tenant err s
  | .copy tenant errs => Sys2Proof.Machine.execCopy tenant errs s
  | .grad tenant err => Sys2Proof.Machine.execGrad tenant err s
  | .reduce tenant errs => Sys2Proof.Machine.execReduce tenant errs s
  | .reduceFirst tenant errs => Sys2Proof.Machine.execReduceFirst tenant errs s
  | .norm tenant bad => Sys2Proof.Machine.execNorm tenant bad s
  | .update tenant bad => Sys2Proof.Machine.execUpdate tenant bad s
  | .jobComplete job => Sys2Proof.Machine.execJobComplete job s
  | .jobDeadline job => Sys2Proof.Machine.execJobDeadline job s
  | .batchClose tenant => Sys2Proof.Machine.execBatchClose tenant s
  | .flintScore cam scores ecc => Sys2Proof.Machine.execFlintScore cam scores ecc s
  | .flintSelfTest ok => Sys2Proof.Machine.execFlintSelfTest ok s
  | .flintOverrun cam => Sys2Proof.Machine.execFlintOverrun cam s
  | .assayJudge ce => Sys2Proof.Machine.execAssayJudge ce s
  | .zoneExpiry e => Sys2Proof.Machine.execZoneExpiry e s
  | .runExpiry tenant cam ctr => Sys2Proof.Machine.execRunExpiry tenant cam ctr s
  | .assaySelfCheck copies => Sys2Proof.Machine.execAssaySelfCheck copies s
  | .stkRngFail => Sys2Proof.Machine.execStkRngFail s
  | .demote => Sys2Proof.Machine.execDemote s
  | .distrust => Sys2Proof.Machine.execDistrust s
  | .retry => Sys2Proof.Machine.execRetry s
  | .clearzones => Sys2Proof.Machine.execClearzones s
  | .qualification => Sys2Proof.Machine.execQualification s
  | .qualificationDone => Sys2Proof.Machine.execQualificationDone s
  | .qualRecordTimeout => Sys2Proof.Machine.execQualRecordTimeout s
  | .luxDarkWrite luxin sched => Sys2Proof.Machine.execLuxDarkWrite luxin sched s
  | .luxinTimeout => Sys2Proof.Machine.execLuxinTimeout s
  | .schedTimeout => Sys2Proof.Machine.execSchedTimeout s
  | .lightHoldExpiry => Sys2Proof.Machine.execLightHoldExpiry s
  | .controlCycle v0 v1 i0 i1 => Sys2Proof.Machine.execControlCycle v0 v1 i0 i1 s
  | .ocTrip ch => Sys2Proof.Machine.execOcTrip ch s
  | .scTrip ch ramp => Sys2Proof.Machine.execScTrip ch ramp s
  | .hiccupRetry ch => Sys2Proof.Machine.execHiccupRetry ch s
  | .vgdUndervoltage => Sys2Proof.Machine.execVgdUndervoltage s
  | .vgdRecovery => Sys2Proof.Machine.execVgdRecovery s
  | .sfl1Timeout => Sys2Proof.Machine.execSfl1Timeout s
  | .luxCopy => Sys2Proof.Machine.execLuxCopy s
  | .home => Sys2Proof.Machine.execHome s
  | .tiltStop => Sys2Proof.Machine.execTiltStop s
  | .tltTarget count => Sys2Proof.Machine.execTltTarget count s
  | .encIndex => Sys2Proof.Machine.execEncIndex s
  | .homingTimeout => Sys2Proof.Machine.execHomingTimeout s
  | .slsWindow => Sys2Proof.Machine.execSlsWindow s
  | .potSample code => Sys2Proof.Machine.execPotSample code s
  | .bridgeOvercurrent => Sys2Proof.Machine.execBridgeOvercurrent s
  | .testPulseSample preA inA forA preB inB forB => Sys2Proof.Machine.execTestPulseSample preA inA forA preB inB forB s
  | .demandSample a b => Sys2Proof.Machine.execDemandSample a b s
  | .discrepancyTimeout pair => Sys2Proof.Machine.execDiscrepancyTimeout pair s
  | .armA => Sys2Proof.Machine.execArmA s
  | .tripA => Sys2Proof.Machine.execTripA s
  | .armB => Sys2Proof.Machine.execArmB s
  | .tripB => Sys2Proof.Machine.execTripB s
  | .tpcfgWrite period width => Sys2Proof.Machine.execTpcfgWrite period width s
  | .trip src asserted => Sys2Proof.Machine.execTrip src asserted s
  | .offTest out lowOk highOk => Sys2Proof.Machine.execOffTest out lowOk highOk s
  | .readbackMismatch => Sys2Proof.Machine.execReadbackMismatch s
  | .safeResetFall => Sys2Proof.Machine.execSafeResetFall s
  | .safeResetRise => Sys2Proof.Machine.execSafeResetRise s
  | .resetStuck => Sys2Proof.Machine.execResetStuck s
  | .lockstepMismatch group addr => Sys2Proof.Machine.execLockstepMismatch group addr s
  | .agreementFault addr => Sys2Proof.Machine.execAgreementFault addr s
  | .interruptInput core line => Sys2Proof.Machine.execInterruptInput core line s
  | .split => Sys2Proof.Machine.execSplit s
  | .join core => Sys2Proof.Machine.execJoin core s
  | .splitTimeout => Sys2Proof.Machine.execSplitTimeout s
  | .watchdogKick n value => Sys2Proof.Machine.execWatchdogKick n value s
  | .watchdogExpiry n => Sys2Proof.Machine.execWatchdogExpiry n s
  | .kickHalfTimeout n => Sys2Proof.Machine.execKickHalfTimeout n s
  | .scrubRead found => Sys2Proof.Machine.execScrubRead found s
  | .otpRead offset => Sys2Proof.Machine.execOtpRead offset s
  | .otpReadDone => Sys2Proof.Machine.execOtpReadDone s
  | .idcode => Sys2Proof.Machine.execIdcode s
  | .dtmcs => Sys2Proof.Machine.execDtmcs s
  | .dmi op addr data => Sys2Proof.Machine.execDmi op addr data s
  | .bypass code => Sys2Proof.Machine.execBypass code s
  | .dmactiveWrite v => Sys2Proof.Machine.execDmactiveWrite v s
  | .haltRequest hart => Sys2Proof.Machine.execHaltRequest hart s
  | .resumeRequest hart => Sys2Proof.Machine.execResumeRequest hart s
  | .singleStep hart insn => Sys2Proof.Machine.execSingleStep hart insn s
  | .accessRegister write regno data => Sys2Proof.Machine.execAccessRegister write regno data s
  | .programBuffer words => Sys2Proof.Machine.execProgramBuffer words s
  | .systemBusAccess m op addr size data ecc env => Sys2Proof.Machine.execSystemBusAccess m op addr size data ecc env s
  | .ndmreset => Sys2Proof.Machine.execNdmreset s
  | .portLinkUp port good => Sys2Proof.Machine.execPortLinkUp port good s
  | .portLinkDown port => Sys2Proof.Machine.execPortLinkDown port s
  | .frameReceived port bytes fcsOk ue => Sys2Proof.Machine.execFrameReceived port bytes fcsOk ue s
  | .rxTailWrite q data => Sys2Proof.Machine.execRxTailWrite q data s
  | .txTailWrite data ue => Sys2Proof.Machine.execTxTailWrite data ue s
  | .frameTransmitted port => Sys2Proof.Machine.execFrameTransmitted port s
  | .learnAge mac => Sys2Proof.Machine.execLearnAge mac s
  | .stormWindow port => Sys2Proof.Machine.execStormWindow port s
  | .fupEntryExpiry k => Sys2Proof.Machine.execFupEntryExpiry k s
  | .c22Write phy reg => Sys2Proof.Machine.execC22Write phy reg s
  | .c22Read phy reg => Sys2Proof.Machine.execC22Read phy reg s
  | .c45Address phy dev => Sys2Proof.Machine.execC45Address phy dev s
  | .c45Write phy dev => Sys2Proof.Machine.execC45Write phy dev s
  | .c45Read phy dev => Sys2Proof.Machine.execC45Read phy dev s
  | .c45ReadIncrement phy dev => Sys2Proof.Machine.execC45ReadIncrement phy dev s
  | .mdioDone data => Sys2Proof.Machine.execMdioDone data s
  | .snap => Sys2Proof.Machine.execSnap s
  | .tb3Align => Sys2Proof.Machine.execTb3Align s
  | .selA => Sys2Proof.Machine.execSelA s
  | .selB => Sys2Proof.Machine.execSelB s
  | .baseStep n step => Sys2Proof.Machine.execBaseStep n step s
  | .domainLockWrite data => Sys2Proof.Machine.execDomainLockWrite data s
  | .syncTimeout d => Sys2Proof.Machine.execSyncTimeout d s
  | .baseWrap n => Sys2Proof.Machine.execBaseWrap n s
  | .triggerFire k => Sys2Proof.Machine.execTriggerFire k s
  | .triggerArm k data => Sys2Proof.Machine.execTriggerArm k data s
  | .fsyncPulseEnd pin => Sys2Proof.Machine.execFsyncPulseEnd pin s
  | .cairnFrame => Sys2Proof.Machine.execCairnFrame s
  | .claim => Sys2Proof.Machine.execClaim s
  | .yield => Sys2Proof.Machine.execYield s
  | .roster => Sys2Proof.Machine.execRoster s
  | .cairnJoin => Sys2Proof.Machine.execCairnJoin s
  | .hello => Sys2Proof.Machine.execHello s
  | .beat => Sys2Proof.Machine.execBeat s
  | .chunkData ue => Sys2Proof.Machine.execChunkData ue s
  | .chunkAck => Sys2Proof.Machine.execChunkAck s
  | .cairnStep ue => Sys2Proof.Machine.execCairnStep ue s
  | .ckptMark ue => Sys2Proof.Machine.execCkptMark ue s
  | .cairnFault ue => Sys2Proof.Machine.execCairnFault ue s
  | .tListen => Sys2Proof.Machine.execTListen s
  | .claimWait => Sys2Proof.Machine.execClaimWait s
  | .followTo => Sys2Proof.Machine.execFollowTo s
  | .joinRetry => Sys2Proof.Machine.execJoinRetry s
  | .backoff => Sys2Proof.Machine.execBackoff s
  | .helloMs port => Sys2Proof.Machine.execHelloMs port s
  | .neighbourTo port => Sys2Proof.Machine.execNeighbourTo port s
  | .rosterMs => Sys2Proof.Machine.execRosterMs s
  | .beatTimer => Sys2Proof.Machine.execBeatTimer s
  | .headTo => Sys2Proof.Machine.execHeadTo s
  | .beatTo key => Sys2Proof.Machine.execBeatTo key s
  | .rankWait => Sys2Proof.Machine.execRankWait s
  | .rosterPublish => Sys2Proof.Machine.execRosterPublish s
  | .restart => Sys2Proof.Machine.execRestart s
  | .revert => Sys2Proof.Machine.execRevert s
  | .transferStart ue => Sys2Proof.Machine.execTransferStart ue s
  | .messageSend ue => Sys2Proof.Machine.execMessageSend ue s
  | .resendTimeout id => Sys2Proof.Machine.execResendTimeout id s
  | .chunkAckTimer src id => Sys2Proof.Machine.execChunkAckTimer src id s
  | .transferIdleTimeout src id => Sys2Proof.Machine.execTransferIdleTimeout src id s
  | .por => Sys2Proof.Machine.execPor s
  | .porRelease => Sys2Proof.Machine.execPorRelease s
  | .supplyOutOfRange => Sys2Proof.Machine.execSupplyOutOfRange s
  | .supplyRecovery => Sys2Proof.Machine.execSupplyRecovery s
  | .clockFault => Sys2Proof.Machine.execClockFault s
  | .xtal32Fail => Sys2Proof.Machine.execXtal32Fail s
  | .xtal32Running => Sys2Proof.Machine.execXtal32Running s
  | .cpllLock => Sys2Proof.Machine.execCpllLock s
  | .sramInitDone => Sys2Proof.Machine.execSramInitDone s
  | .coresLeaveReset fail density progs => Sys2Proof.Machine.execCoresLeaveReset fail density progs s
  | .bootLoaderStart => Sys2Proof.Machine.execBootLoaderStart s
  | .pgRise n => Sys2Proof.Machine.execPgRise n s
  | .pgTimeout n => Sys2Proof.Machine.execPgTimeout n s
  | .pgLost n => Sys2Proof.Machine.execPgLost n s
  | .startRetry => Sys2Proof.Machine.execStartRetry s
  | .pgReraise => Sys2Proof.Machine.execPgReraise s
  | .avsStatusPoll word fault warn vout iout temp => Sys2Proof.Machine.execAvsStatusPoll word fault warn vout iout temp s
  | .watch held => Sys2Proof.Machine.execWatch held s
  | .work held vmode => Sys2Proof.Machine.execWork held vmode s
  | .standby held persisted => Sys2Proof.Machine.execStandby held persisted s
  | .readyTimeout => Sys2Proof.Machine.execReadyTimeout s
  | .wakeAlarm => Sys2Proof.Machine.execWakeAlarm s
  | .wakePin pin => Sys2Proof.Machine.execWakePin pin s
  | .updRequest upd => Sys2Proof.Machine.execUpdRequest upd s
  | .domainReset mask => Sys2Proof.Machine.execDomainReset mask s
  | .sysReset sw code => Sys2Proof.Machine.execSysReset sw code s
  | .coreReset sw code => Sys2Proof.Machine.execCoreReset sw code s
  | .adReset code => Sys2Proof.Machine.execAdReset code s
  | .qspiProgram len => Sys2Proof.Machine.execQspiProgram len s
  | .qspiErase4k => Sys2Proof.Machine.execQspiErase4k s
  | .qspiErase64k => Sys2Proof.Machine.execQspiErase64k s
  | .qspiRead len => Sys2Proof.Machine.execQspiRead len s
  | .qspiDone => Sys2Proof.Machine.execQspiDone s
  | .qspiTimeout => Sys2Proof.Machine.execQspiTimeout s
  | .ntcSample c0 c1 => Sys2Proof.Machine.execNtcSample c0 c1 s
  | .cdSensorSample a b => Sys2Proof.Machine.execCdSensorSample a b s
  | .forecast => Sys2Proof.Machine.execForecast s
  | .planMissTimeout => Sys2Proof.Machine.execPlanMissTimeout s
  | .cdHotTimer => Sys2Proof.Machine.execCdHotTimer s
  | .watchordTimeout => Sys2Proof.Machine.execWatchordTimeout s
  | .stepTest => Sys2Proof.Machine.execStepTest s
  | .stepTestAbort => Sys2Proof.Machine.execStepTestAbort s
  | .stepTestSample => Sys2Proof.Machine.execStepTestSample s
  | .eventRaise id cls src arg0 arg1 arg2 => Sys2Proof.Machine.execEventRaise id cls src arg0 arg1 arg2 s
  | .coalesceClose => Sys2Proof.Machine.execCoalesceClose s
  | .logRecordWrite => Sys2Proof.Machine.execLogRecordWrite s
  | .logRelease slot => Sys2Proof.Machine.execLogRelease slot s
  | .pageStart => Sys2Proof.Machine.execPageStart s
  | .flushTimeout => Sys2Proof.Machine.execFlushTimeout s
  | .pagePersisted left => Sys2Proof.Machine.execPagePersisted left s
  | .flush => Sys2Proof.Machine.execFlush s
  | .prestart => Sys2Proof.Machine.execPrestart s
  | .firmwareEvent idlo cls => Sys2Proof.Machine.execFirmwareEvent idlo cls s
  | .gpioSet data => Sys2Proof.Machine.execGpioSet data s
  | .gpioClr data => Sys2Proof.Machine.execGpioClr data s
  | .gpioEdge pin level => Sys2Proof.Machine.execGpioEdge pin level s
  | .uartTxd ch data => Sys2Proof.Machine.execUartTxd ch data s
  | .uartRxByte ch data kind => Sys2Proof.Machine.execUartRxByte ch data kind s
  | .spiTransfer len cs hold miso => Sys2Proof.Machine.execSpiTransfer len cs hold miso s
  | .spiTxd data => Sys2Proof.Machine.execSpiTxd data s
  | .spiTransferDone => Sys2Proof.Machine.execSpiTransferDone s
  | .trainingRetry => Sys2Proof.Machine.execTrainingRetry s
  | .sbWakeHeld => Sys2Proof.Machine.execSbWakeHeld s
  | .encoderEdge up => Sys2Proof.Machine.execEncoderEdge up s
  | .pgFall n timeout => Sys2Proof.Machine.execPgFall n timeout s
  | .xo25StartTimeout => Sys2Proof.Machine.execXo25StartTimeout s
  | .uartTxComplete ch => Sys2Proof.Machine.execUartTxComplete ch s

end Sys2Proof.Machine
end

