-- ==== Sys2Proof/Machine/Tick.lean ====
section
/-! DEFINITION. What the device does while no command waits: one cycle of 8 ns passes (log entry 1). -/

namespace Sys2Proof.Machine

/-- One NPLL cycle: the trailers of its frame ends go out (R138), what is on its way over Sill arrives (R151), aborts of tiles end (R241), tiles that have stopped get their DOMAIN reset (R550), tiles count their cycles (R273), the time bases advance (R432,
R438), time goes on, and a record write whose 32 ns have passed ends (R590). -/
def State.tick (s : State) : State :=
  let s := s.sendEnds.linkTick.abortsDone.tilesReset.countCycles
  ({ s.timTick with now := s.now + 8 } : State).recordTick

/-- Take the command `c` to the front of the queue. -/
def State.enqueueFirst (s : State) (c : Instr) : State := { s with pending := c :: s.pending }

end Sys2Proof.Machine
end

