-- ==== Sys2Proof/Safety.lean ====
section
/-! DEFINITION. Terms in which claims are made: how a step ends, the canonical form of the memories, and de-energised outputs, and which
commands may change which memory. -/

namespace Sys2Proof.Machine

/-- The outcome is a next state. -/
def Completes (o : Host.Outcome State Fault Refusal) : Prop := ∃ t, o = .next t

/-- Every addressed memory of the device is in canonical form: SRAM, the flash array, OTP, the boot ROM, DRAM and the shelf. -/
def State.memWf (s : State) : Bool :=
  Sparse.wf 0 s.sram && Sparse.wf erasedByte s.flash && Sparse.wf 0 s.otp && Sparse.wf 0 s.rom && Sparse.wf 0 s.dram && Sparse.wf 0 s.shelf

/-- From `s` to `t` no OTP bit that was 1 has become 0 (R59). -/
def OtpKept (s t : State) : Prop := ∀ a, Sparse.get 0 s.otp a &&& ~~~(Sparse.get 0 t.otp a) = 0

/-- Neither safe output is energised (R353). -/
def State.outputsOff (s : State) : Bool := !s.isSet R.SIO_SAFECTL_ON_A && !s.isSet R.SIO_SAFECTL_ON_B

/-- Engine `e` of tile `t` is free and the oldest operation `o` of its queue has code `op` and its token (R222, R224, R249). -/
def State.engineReady (s : State) (t e op : Nat) (o : QOp) (rest : List QOp) : Bool :=
  s.tileLive t && ((s.tile t).cur.getD e none).isNone && decide ((s.tile t).q.getD e [] = o :: rest) && decide (slotOp e o.word = op)
    && s.tokenFor t (slotWt e o.word) (e + 1)

/-- The tile once the operation has been taken: its token is consumed, it is in progress and no longer queued (R224). -/
def State.engineTaken (s : State) (t e : Nat) (o : QOp) (rest : List QOp) : State :=
  (s.takeToken t (slotWt e o.word)).tileSet t fun k => { k with q := k.q.set e rest, cur := k.cur.set e (some o) }

/-! ### The commands that may change a memory -/

/-- The commands that may change SRAM: the bus masters that write it, its initialisation and the cores' own accesses (R376, R378, R424, R425, R450). -/
def writesSram : Instr → Bool
  | .registerWrite .. | .applyStepDone .. | .memTimeout .. | .memRdData .. | .systemBusAccess .. | .portLinkDown .. |
    .frameReceived .. | .txTailWrite .. | .frameTransmitted .. | .triggerFire .. | .chunkData .. | .chunkAck .. |
    .cairnStep .. | .ckptMark .. | .cairnFault .. | .transferStart .. | .messageSend .. | .resendTimeout .. | .por .. |
    .sramInitDone .. | .bootLoaderStart .. | .uartRxByte .. => true
  | _ => false

/-- The commands that may change the flash array: the image loader and its change log, the event log's pages, and firmware's
programs and erases (R40, R64, R563, R596). -/
def writesFlash : Instr → Bool
  | .registerWrite .. | .cilOpen .. | .cilAppend .. | .cilClose .. | .cilCheck .. | .cilCommit .. | .cilAbort .. |
    .applyStepDone .. | .applyStepDeadline .. | .verificationDone .. | .lockEnd .. | .configAck .. | .systemBusAccess .. |
    .supplyRecovery .. | .coresLeaveReset .. | .pgRise .. | .pgLost .. | .avsStatusPoll .. | .standby .. | .sysReset .. |
    .qspiDone .. | .qspiTimeout .. | .pageStart .. | .flushTimeout .. | .pagePersisted .. | .flush .. | .stateAckTimeout .. |
    .ready .. | .tenAck .. | .voutPoll .. | .voutTimeout .. | .por .. | .pgTimeout .. | .pgReraise .. | .watch .. | .work .. |
    .domainReset .. | .forecast .. | .cdHotTimer .. | .xo25StartTimeout .. => true
  | _ => false

/-- The commands that may change DRAM or the shelf: those of the AD, of Sill messages that the AD takes, and those that reset or switch
off the AD (R77, R192, R260). -/
def writesAd : Instr → Bool
  | .registerWrite .. | .applyStepDone .. | .applyStepDeadline .. | .tenCqhd .. | .memTimeout .. | .scrubComplete .. |
    .stateAckTimeout .. | .auditAnswerTimeout .. | .frameReportTimeout .. | .slotBoundary .. | .slotStopLead .. |
    .memoryGrant .. | .trainingStepTimeout .. | .fastRetrain .. | .blockLockLost .. | .retrain .. | .dataFlit .. |
    .linkControlFlit .. | .replayTimeout .. | .tenCmd .. | .tenAck .. | .doorbell .. | .majorTick .. | .frameReport .. |
    .probeResult .. | .config .. | .configAck .. | .pmAckTimeout .. | .debug .. | .frameOpen .. | .frameData .. |
    .frameTrailer .. | .record .. | .complNote .. | .memRdData .. | .memWr .. | .memWrAck .. | .resumeComplete .. |
    .debugEnable .. | .voutPoll .. | .clockPlanAckTimeout .. | .shiftComplete .. | .stopLimitExpiry .. | .inferFrame .. |
    .inferCrops .. | .inferBatch .. | .copy .. | .grad .. | .reduce .. | .reduceFirst .. | .norm .. | .update .. |
    .jobComplete .. | .jobDeadline .. | .batchClose .. | .assayJudge .. | .distrust .. | .retry .. | .qualificationDone .. |
    .qualRecordTimeout .. | .systemBusAccess .. | .por .. | .supplyRecovery .. | .coresLeaveReset .. | .pgLost .. |
    .avsStatusPoll .. | .watch .. | .readyTimeout .. | .sysReset .. | .adReset .. | .forecast .. | .cdHotTimer .. |
    .sbWakeHeld .. | .linkTraining .. | .ready .. | .probe .. | .event .. | .energyPlan .. | .pmEnter .. | .pmAck .. |
    .resumeAck .. | .debugRsp .. | .nakMsg .. | .streakSet .. | .memRd .. | .domainReset .. => true
  | _ => false

/-! ### Register accesses -/

/-- The domain of the block that a command reaches which is a register access of firmware in every form (R23, R651). -/
def accessDom : Instr → Option Nat
  | .i2cRxd .. | .evlQMax .. | .cilOpen .. | .cilAppend .. | .cilClose .. | .cilCheck .. | .cilCommit .. | .cilAbort .. | .suspend .. |
    .resume .. | .reset .. | .lendon .. | .lendoff .. | .tenSqdb .. | .tenCqhd .. | .i2cTransfer .. | .i2cTxd .. | .demote .. |
    .distrust .. | .retry .. | .clearzones .. | .split .. | .join .. | .watchdogKick .. | .otpRead .. | .adReset .. | .qspiProgram .. |
    .qspiErase4k .. | .qspiErase64k .. | .qspiRead .. | .stepTest .. | .stepTestAbort .. | .logRelease .. | .flush .. | .prestart .. |
    .firmwareEvent .. | .gpioSet .. | .gpioClr .. | .uartTxd .. | .spiTransfer .. | .spiTxd .. | .uartRxd .. |
    .spiRxd .. | .sysMtimeLo .. => some Dom.core
  | .rxTailWrite .. | .txTailWrite .. | .c22Write .. | .c22Read .. | .c45Address .. | .c45Write .. | .c45Read .. |
    .c45ReadIncrement .. | .snap .. | .tb3Align .. | .selA .. | .selB .. | .baseStep .. | .domainLockWrite .. | .triggerArm .. |
    .restart .. | .revert .. => some Dom.net
  | .luxDarkWrite .. | .home .. | .tiltStop .. | .tltTarget .. => some Dom.drive
  | .retrain .. | .fulltrain .. | .sillrst .. | .sleepReq .. | .silResume .. | .debugEnable .. => some Dom.sill
  | .cameraConfigWrite .. => some Dom.ingress
  | .pmuRtcLo .. | .passwordVerify .. | .authEnd .. | .keyOpen .. | .keyClose .. | .tpointRequest .. | .tcapWrite .. | .armA .. |
    .tripA .. | .armB .. | .tripB .. | .updRequest .. | .domainReset .. | .tpcfgWrite .. => some Dom.aon
  | _ => none

end Sys2Proof.Machine
end

