-- ==== Sys2Proof/Certificates/Slice0/Obligations.lean ====
section
/-! DEFINITION. The statements for the provers. Each clause of a functional statement says, for states and operands that meet the
hypotheses it names, which next state the command answers; what that state shares with the one before is thereby said as well.
`s.answer .ok` is the acknowledgement of a register access. -/

open Sys2Proof Sys2Proof.Machine

/-- A step runs the command at the front of the queue on the state without it; on an empty queue one cycle passes. The queue and the
cycle on an empty queue are the model's own (log entry 1). 
1. The command at the front is executed on the state whose queue is the rest.
2. With no command waiting, one network clock cycle passes.
Rules: R6, R432, R650. -/
def Obligations.StepRunsFrontCommand : Prop :=
  (∀ (s : State) (c : Instr) (rest : List Instr), step { s with pending := c :: rest } = exec c { s with pending := rest }) ∧
  (∀ (s : State), s.pending = [] → step s = .next s.tick)

/-- What each command of the image loader does when the loader carries it out. CD_CORE is on and the loader is not BUSY (for the
commands); an apply is under way (for its two events). 
1. CIL_OPEN with no slot PENDING erases the staging slot, marks it WRITING, sets CIL_STAGEOFF to 0 and ends with result 0.
2. CIL_APPEND of a chunk that fits programs the bytes of the SRAM buffer at the stage offset and moves CIL_STAGEOFF by their
number.
3. CIL_CLOSE of a WRITING slot whose bytes hash to IMAGE_HASH marks it WRITTEN, writes a STAGED entry and ends with result 0.
4. CIL_CHECK of a WRITTEN slot runs the check, publishes its report, and ends with OK, OK with clamps, or the rejection that the
check raised.
5. CIL_COMMIT of a WRITTEN slot checks it again; an accepted image that needs a session and has none is rejected with 0x12; else
the session ends, a BEGUN entry is written (its failure ends the commit with result 4), the slot becomes PENDING, CI_BEGUN is
raised and step 1 of the apply begins.
6. CIL_ABORT of a WRITING or WRITTEN slot erases it and sets CIL_STAGEOFF to 0.
7. APPLY_STEP_DONE of a step done in time, whose work gives the state t, begins the step that follows.
8. APPLY_STEP_DONE of the last step ends the apply with its success.
9. APPLY_STEP_DEADLINE with the deadline past fails the apply.
Rules: R40, R41, R44, R49, R56, R58, R61, R66, R68. -/
def Obligations.ImageLoaderCommands : Prop :=
  (∀ (s : State), s.on Dom.core = true → s.isSet R.CIL_STATUS_BUSY = false → s.slotState 0 ≠ 3 → s.slotState 1 ≠ 3 → exec .cilOpen s = .next (((((s.answer .ok).eraseSlot s.stageSlot).setSlot s.stageSlot 1).setF R.CIL_STAGEOFF_OFF 0).cilEnd 0 0)) ∧
  (∀ (s : State), s.on Dom.core = true → s.isSet R.CIL_STATUS_BUSY = false → s.chunkOk = true → exec .cilAppend s = .next ((((s.answer .ok).program (slotAt s.stageSlot + s.getF R.CIL_STAGEOFF_OFF)
      (s.sramBytes (s.getF R.CIL_BUFADDR_ADDR - 0x10000000) (s.getF R.CIL_BUFLEN_LEN))).setF R.CIL_STAGEOFF_OFF
      (s.getF R.CIL_STAGEOFF_OFF + s.getF R.CIL_BUFLEN_LEN)).cilEnd 0 0)) ∧
  (∀ (s : State) (progs : List Prog) (l : List Byte), s.on Dom.core = true → s.isSet R.CIL_STATUS_BUSY = false → s.slotState s.stageSlot = 1 → l = s.flashBytes (slotAt s.stageSlot) (s.getF R.CIL_STAGEOFF_OFF) → 64 ≤ fieldAt l 0x1C 4 → fieldAt l 0x1C 4 ≤ l.length → sha256 ((l.drop 64).take (fieldAt l 0x1C 4 - 64)) = (l.drop 0x20).take 32 → exec ((.cilClose progs)) s = .next ({ (((({ (s.answer .ok) with progs := progs } : State).setSlot s.stageSlot 2).log
      (imageBody kSTAGED s.stageSlot 0 l)).cilEnd 0 0) with progs := [] })) ∧
  (∀ (s : State) (progs : List Prog), s.on Dom.core = true → s.isSet R.CIL_STATUS_BUSY = false → s.slotState s.stageSlot = 2 → exec ((.cilCheck progs)) s = .next ((let r := State.runCheck { (s.answer .ok) with progs := progs }
      { (if r.2.2 then r.2.1.cilEnd (if r.1.clamped then 2 else 1) 0 else r.2.1) with progs := [] }))) ∧
  (∀ (s : State) (progs : List Prog), s.on Dom.core = true → s.isSet R.CIL_STATUS_BUSY = false → s.slotState s.stageSlot = 2 → exec ((.cilCommit progs)) s = .next ((let r := State.runCheck { (s.answer .ok) with progs := progs };
      let l := r.2.1.slotImage s.stageSlot;
      let w := r.2.1.endSession.logWrite { imageBody kBEGUN s.stageSlot (r.1.report.take 256).length l with crc := reportCrc r.1.report, safety := r.2.1.safetyChange r.1 };
      let b := ((w.1.setSlot s.stageSlot 3).raise Ev.CI_BEGUN r.1.seq).setFs [(R.CIL_STATUS_BUSY, 1), (R.CIL_STATUS_RESULT, if r.1.clamped then 2 else 1), (R.CIL_STATUS_REASON, 0)];
      { (if !r.2.2 then r.2.1
      else if r.2.1.authNeeded r.1 ∧ r.2.1.sessionOpen = false then
      r.2.1.reject 0x12 { imageBody kREJECTED s.stageSlot 0x12 l with crc := reportCrc r.1.report }
      else if !w.2 then (w.1.flag R.CIL_INT_APPLYFAIL).cilEnd 4 0
      else ({ b with cil := { b.cil with apply := some { slot := s.stageSlot, step := 1, startAt := b.now, boot := false, adPart := b.on Dom.adCtl } } }).arm .applyStep (10 * msNs)) with progs := [] }))) ∧
  (∀ (s : State), s.on Dom.core = true → s.isSet R.CIL_STATUS_BUSY = false → s.slotState s.stageSlot = 1 ∨ s.slotState s.stageSlot = 2 → exec .cilAbort s = .next ((((s.answer .ok).eraseSlot s.stageSlot).setF R.CIL_STAGEOFF_OFF 0).cilEnd 0 0)) ∧
  (∀ (s : State) (progs : List Prog) (a : Apply) (u t : State) (n : Nat), s.cil.apply = some a → s.now ≤ a.deadline → u = { s with progs := progs } → u.stepReady a = true → u.stepWork a = some t → a.next = some n → exec ((.applyStepDone true none progs)) s = .next ({ (t.beginStep a n) with progs := [] })) ∧
  (∀ (s : State) (progs : List Prog) (a : Apply) (u t : State), s.cil.apply = some a → s.now ≤ a.deadline → u = { s with progs := progs } → u.stepReady a = true → u.stepWork a = some t → a.next = none → exec ((.applyStepDone true none progs)) s = .next ({ (t.applyOk a) with progs := [] })) ∧
  (∀ (s : State) (progs : List Prog) (a : Apply), s.cil.apply = some a → s.due .applyStep = true → a.deadline < s.now → exec ((.applyStepDeadline progs)) s = .next { ((({ s with progs := progs } : State).doIf (decide (a.step = 7) && a.acked.isNone && s.adPart a) fun s => s.ladder bCil).applyFails a) with progs := [] })

/-- Password verification, sessions, lockout and block keys. 
1. PASSWORD_VERIFY of a password that is not refused starts a verification (BUSY); a refused one sets AUTHFAIL and clears the
password.
2. VERIFICATION_DONE of a verification under way has the outcome of the password's hash, ends BUSY and clears the password
registers.
3. AUTH_END ends the session.
4. SESSION_EXPIRY ends the session when its time has come.
5. LOCK_END ends the lockout: LOCKED and FAILS become 0 and a LOCK_END entry is written.
6. KEY_OPEN of a block's key with the code opens it for 1 s; a session key needs an open session and the cores in lockstep.
7. KEY_CLOSE closes the key at once.
8. KEY_EXPIRY closes the key when its second has passed.
Rules: R52, R53, R54, R57, R656, R391. -/
def Obligations.KeysAndPassword : Prop :=
  (∀ (s : State) (len : Nat), s.on Dom.aon = true → s.isSet R.LCK_AUTH_BUSY = false → exec ((.passwordVerify len)) s = .next ((if s.passwordRefused (len % 64) then ((s.answer .ok).flag R.LCK_INT_AUTHFAIL).clearPassword
      else { ((s.answer .ok).setF R.LCK_AUTH_BUSY 1) with lck := ⟨some (len % 64)⟩ }))) ∧
  (∀ (s : State) (progs : List Prog) (len : Nat), s.lck.busy = some len → exec ((.verificationDone progs)) s = .next ((let u : State := { s with progs := progs }
      { (((if u.passwordOk len then u.authOk else u.authFail).setF R.LCK_AUTH_BUSY 0).clearPassword) with lck := ⟨none⟩, progs := [] }))) ∧
  (∀ (s : State), s.on Dom.aon = true → exec .authEnd s = .next ((s.answer .ok).endSession)) ∧
  (∀ (s : State), s.due .session = true → exec .sessionExpiry s = .next (s.endSession)) ∧
  (∀ (s : State) (progs : List Prog), s.due .lockout = true → exec ((.lockEnd progs)) s = .next ((let u := ((s.disarm .lockout).setF R.LCK_AUTH_LOCKED 0).setF R.LCK_AUTH_FAILS 0
      { (State.log { u with progs := progs } (.plain kLOCK_END 0xFF)) with progs := [] }))) ∧
  (∀ (s : State) (block code : Nat), s.on Dom.aon = true → code % 65536 = 0xC1A0 → block % 32 ≤ 24 → sessionKeys.contains (block % 32) = false ∨ (s.sessionOpen = true ∧ s.isSet R.SYS_CORE_STATE = false) → exec ((.keyOpen block code)) s = .next (((s.answer .ok).setBitF R.LCK_KEYST_OPEN (block % 32) true).arm (.key (block % 32)) secNs)) ∧
  (∀ (s : State) (block code : Nat), s.on Dom.aon = true → code % 65536 = 0xC1A0 → block % 32 ≤ 24 → exec ((.keyClose block code)) s = .next ((s.answer .ok).closeKey (block % 32))) ∧
  (∀ (s : State) (block : Nat), s.due (.key block) = true → exec ((.keyExpiry block)) s = .next (s.closeKey block))

/-- The tenant commands, doorbells, completion heads and AD-window accesses of the CD. CD_CORE is on and the dispatcher can be
commanded (`tenLive`). 
1. SUSPEND moves a READY or RUNNING tenant with no command outstanding to SUSPENDED and commands the dispatcher.
2. RESUME returns a SUSPENDED tenant to READY in WORK and commands the dispatcher.
3. RESET of a present tenant that is not RESETTING withdraws its outstanding command and starts its reset.
4. LENDON and LENDOFF of a present tenant write its lending permission and forward it to the dispatcher.
5. TEN_SQDB for a tenant that is not RESETTING, LOADING or ABSENT sends the dispatcher a DOORBELL with the queue and the tail.
6. TEN_CQHD writes the completion head, and a live dispatcher then writes the completions that waited for room.
7. AD_WINDOW_READ that is not refused becomes a memory request for the selected tenant, and the core waits.
8. AD_WINDOW_WRITE likewise, with the data.
Rules: R83, R94, R95, R98, R111, R165. -/
def Obligations.TenantCommands : Prop :=
  (∀ (s : State) (tenant : Fin 16), s.on Dom.core = true → s.tnState tenant = tnReady ∨ s.tnState tenant = tnRunning → (s.tenantSt tenant).cmd = none → s.tenLive = true → exec ((.suspend tenant)) s = .next (((s.answer .ok).setTenant tenant tnSuspended).command tenant 1)) ∧
  (∀ (s : State) (tenant : Fin 16), s.on Dom.core = true → s.tnState tenant = tnSuspended → s.inWork = true → (s.tenantSt tenant).cmd = none → s.tenLive = true → exec ((.resume tenant)) s = .next (((s.answer .ok).setTenant tenant tnReady).command tenant 2)) ∧
  (∀ (s : State) (tenant : Fin 16), s.on Dom.core = true → s.tnState tenant ≠ tnAbsent → s.tnState tenant ≠ tnResetting → s.tenLive = true → exec ((.reset tenant)) s = .next (((s.answer .ok).dropCmd tenant).startReset tenant)) ∧
  (∀ (s : State) (tenant : Fin 16), s.on Dom.core = true → (s.answer .ok).tnState tenant ≠ tnAbsent → ((s.answer .ok).tenantSt tenant).cmd = none → exec (.lendon tenant) s = .next (((s.answer .ok).setF (R.TEN_STATE_LEND_OK tenant) 1).sendCmd tenant 4) ∧
      exec (.lendoff tenant) s = .next (((s.answer .ok).setF (R.TEN_STATE_LEND_OK tenant) 0).sendCmd tenant 5)) ∧
  (∀ (s : State) (tenant : Fin 16) (queue : Fin 4) (tail : Nat), s.on Dom.core = true → s.tnState tenant ≠ tnResetting → s.tnState tenant ≠ tnLoading → s.tnState tenant ≠ tnAbsent → exec ((.tenSqdb tenant queue tail)) s = .next ((s.answer .ok).sendAd ⟨0, TT.doorbell, tenant, 0, 0, leBytes 1 queue.val ++ leBytes 1 0 ++ leBytes 2 (tail % 1024) ++ leBytes 4 0⟩)) ∧
  (∀ (s : State) (tenant : Fin 16) (queue : Fin 4) (head : Nat), s.on Dom.core = true → exec ((.tenCqhd tenant queue head)) s = .next ((let k := 4 * tenant.val + queue.val;
      let t := ((s.answer .ok).setF (R.TEN_CQHD_HEAD k) head).dspSet fun d => { d with cqHead := Sparse.put d.cqHead k (head % 1024) };
      if t.dspLive then t.flushHeld k else t))) ∧
  (∀ (s : State) (offset size : Nat), s.windowRefused offset size = false → exec ((.adWindowRead offset size)) s = .next ((s.answer .none).memAsk ⟨false, s.getF R.TEN_WINSEL_TENANT, s.windowAddr offset, size, [], .window⟩)) ∧
  (∀ (s : State) (offset size : Nat) (data : Word), s.windowRefused offset size = false → exec ((.adWindowWrite offset size data)) s = .next ((s.answer .none).memAsk ⟨true, s.getF R.TEN_WINSEL_TENANT, s.windowAddr offset, size, leBytes size data.toNat, .window⟩))

/-- What the CD does on the dispatcher's acknowledgements and reports of one tenant. `u` is the state once the message has been taken.
1. TENANT_FAULT is recorded against the tenant.
2. TEN_ACK of the outstanding command with the state it leads to ends the wait; one with another command is uncommanded; a note that
a READY tenant runs makes it RUNNING.
3. STATE_ACK_TIMEOUT of a present tenant repeats the command once; the second time the tenant becomes FAULTED.
4. MODEL_VERIFIED of a LOADING tenant reads its package: when the hash is the image's, the tenant is READY, a reset that it ends is
reported, and RESUME is commanded; with another hash, or an error of the memory, it becomes FAULTED.
5. COMPL_NOTE of a present tenant that is not RESETTING sets the COMPL interrupt.
Rules: R95, R96, R98, R110, R163. -/
def Obligations.TenantEvents : Prop :=
  (∀ (s : State) (tenant : Fin 16) (code arg : Nat), s.on Dom.core = true → exec (.tenantFault tenant code arg) s = .next ((s.dspSet fun d => { d with faults := d.faults.erase (tenant.val, code, arg) }).tenantFault tenant code arg)) ∧
  (∀ (s : State) (tenant action state : Fin 256) (q : Nat) (u : State), (s.takeCd ⟨0, TT.tenAck, tenant, 0, 0, leBytes 1 action.val ++ leBytes 1 state.val ++ leBytes 6 0⟩ = some (q, u)) → tenant.val < 16 → (∀ a, (u.tenantSt tenant).cmd = some a → action.val = a → state.val = cmdTarget a → exec (.tenAck tenant action state) s = .next (u.dropCmd tenant).leaveGoOn) ∧
      (∀ a, (u.tenantSt tenant).cmd = some a → action.val ≠ a → action.val ≠ 0 → exec (.tenAck tenant action state) s = .next (u.uncommanded tenant).leaveGoOn) ∧
      ((u.tenantSt tenant).cmd = none → action.val = 0 → u.tnState tenant = tnReady → state.val = tnRunning → exec (.tenAck tenant action state) s = .next (u.setTenant tenant tnRunning).leaveGoOn)) ∧
  (∀ (s : State) (tenant : Fin 16) (a : Nat) (u : State), (s.tenantSt tenant).cmd = some a → s.due (.stateAck tenant) = true → u = (s.disarm (.stateAck tenant)).tenViol 4 → u.tnState tenant ≠ tnAbsent → ((s.tenantSt tenant).again = false → exec (.stateAckTimeout tenant) s = .next (((u.sendCmd tenant a).tenantSet tenant fun t => { t with again := true }).arm (.stateAck tenant) (5 * msNs)).leaveGoOn) ∧
      ((s.tenantSt tenant).again = true → exec (.stateAckTimeout tenant) s = .next ((u.noteFault tenant 3 0).becomeFaulted tenant).leaveGoOn)) ∧
  (∀ (s : State) (tenant : Fin 16) (err : Option MemErr) (c k : Nat) (u : State), s.tnState tenant = tnLoading → s.tenLive = true → s.isSet R.SIL_STATUS_READY = true → s.mayMove tenant = true → c = s.cfg Img.MODELS_SIZE (s.cfg Img.TENANTS_MODEL tenant) →
      ((s.charge tenant ((c + 63) / 64)).memMeets ((placeIn ((s.charge tenant ((c + 63) / 64)).regionsOf tenant) ((s.charge tenant ((c + 63) / 64)).packageAt tenant)).map (·.1)) err = (k, u)) →
      (k = 0 → leNat (sha256 (u.tenRead tenant (u.packageAt tenant) c)) = u.cfg Img.MODELS_BLOB (s.cfg Img.TENANTS_MODEL tenant) → (u.tenantSt tenant).wasReset = false → exec (.modelVerified tenant err) s = .next ((u.setTenant tenant tnReady).command tenant 2)) ∧
      (k = 0 → leNat (sha256 (u.tenRead tenant (u.packageAt tenant) c)) = u.cfg Img.MODELS_BLOB (s.cfg Img.TENANTS_MODEL tenant) → (u.tenantSt tenant).wasReset = true → exec (.modelVerified tenant err) s = .next ((((((u.setTenant tenant tnReady).raiseInt Ev.TEN_RESET R.TEN_INT_RESETDONE tenant).setF (R.ASY_RSEQ_EXPECT tenant) 0).tenantSet tenant fun t => { t with wasReset := false })).command tenant 2)) ∧
      (k ≠ 0 ∨ leNat (sha256 (u.tenRead tenant (u.packageAt tenant) c)) ≠ u.cfg Img.MODELS_BLOB (s.cfg Img.TENANTS_MODEL tenant) → exec (.modelVerified tenant err) s = .next ((u.noteFault tenant 4 0).becomeFaulted tenant))) ∧
  (∀ (s : State) (tenant queue : Fin 256) (tail tag : Fin 65536) (q : Nat) (u : State), (s.takeCd ⟨2, TT.complNote, tenant, 0, 0, leBytes 1 queue.val ++ leBytes 1 0 ++ leBytes 2 tail.val ++ leBytes 2 tag.val ++ leBytes 2 0⟩ = some (q, u)) → tenant.val < 16 → u.tnState tenant ≠ tnAbsent → u.tnState tenant ≠ tnResetting → exec (.complNote tenant queue tail tag) s = .next (u.flag R.TEN_INT_COMPL))

/-- What the CD does once a major frame, and the rounds of the canary audit. `u` is the state once the message has been taken.
1. CANARY_AUDIT_ROUND in WORK runs the round, or counts it as skipped.
2. AUDIT_ANSWER_TIMEOUT fails the round for the first answer missing 1 ms after its request.
3. PROBE_RESULT with both accesses refused and no canary in its data is the answer awaited; any other fails the round.
4. MAJOR_FRAME_START in WORK sends MAJOR_TICK with k and TB2, sets TEN_MAJOR and, after the first frame, awaits the report of the
frame before.
5. FRAME_REPORT of the frame awaited ends the wait (one of another frame is a violation), fills TEN_LEND and TEN_BW, and counts the
late loans of S owners; which of them are an S owner's is an operand (log entry 29).
6. FRAME_REPORT_TIMEOUT ends the wait with a ladder violation.
Rules: R87, R100, R101, R107, R110, R163. -/
def Obligations.MajorFrameAndAudit : Prop :=
  (∀ (s : State) (u : State), s.inWork = true → s.isSet R.TEN_CTL_AUDIT_EN = true → s.dueOrNew .canary = true → s.ten.audit = none → u = s.rearm .canary (s.cfg Img.MEMORY_CANARY_MS 0 * msNs) → (u.auditSkips = false → exec .canaryAuditRound s = .next u.auditRound) ∧
      (u.auditSkips = true → exec .canaryAuditRound s = .next ((u.satInc R.TEN_AUDIT_SKIPPED).raise Ev.TEN_CANARY_MISS))) ∧
  (∀ (s : State) (l : List (Nat × Option Nat)) (p : Nat × Option Nat), s.ten.audit = some l → l.find? s.answerLate = some p → exec .auditAnswerTimeout s = .next (s.auditFailed 2 (if p.1 < 128 then p.1 % 64 else 0) (if p.1 < 64 then 1 else if p.1 < 128 then 2 else if p.1 < 130 then 3 else 4))) ∧
  (∀ (s : State) (tile bits : Fin 256) (data : List Byte) (l : List (Nat × Option Nat)) (q : Nat) (u : State), (s.takeCd (mgmt TT.probeResult 0 (leBytes 1 tile.val ++ leBytes 1 bits.val ++ leBytes 6 0 ++ padTo 64 data)) = some (q, u)) → u.ten.audit = some l → ((l.any fun p => p.1 == 130) = true) → (bits.val % 4 = 3 → u.isCanary data = false → exec (.probeResult tile bits data) s = .next (u.auditAnswered 130)) ∧
      (bits.val % 4 ≠ 3 ∨ u.isCanary data = true → exec (.probeResult tile bits data) s = .next (u.auditFailed 1 0 4))) ∧
  (∀ (s : State), s.inWork = true → s.due .major = true → s.tenLive = true → exec .majorFrameStart s = .next (let k := s.ten.nextK
      let u := (s.rearm .major (s.cfg Img.SLOTS_MAJOR_MS 0 * msNs)).sendAd (mgmt TT.majorTick 0 (leBytes 4 k ++ leBytes 4 s.tb2))
      let t := { u with ten := { u.ten with nextK := (k + 1) % 2 ^ 32 } }.setF R.TEN_MAJOR_K k
      if k = 0 then t else { t with ten := { t.ten with waiting := some (k - 1) } }.arm .frameReport msNs)) ∧
  (∀ (s : State) (k : Nat) (lends late lateS : Fin 65536) (stalls : List Nat) (q : Nat) (u v : State), (s.takeCd (mgmt TT.frameReport 0 (leBytes 4 k ++ leBytes 2 lends.val ++ leBytes 2 late.val ++ (List.range 16).flatMap fun i => leBytes 4 (stalls.getD i 0))) = some (q, u)) →
      (v = if u.ten.waiting = some k then { u with ten := { u.ten with waiting := none } }.disarm .frameReport else u.tenViol 3) → exec (.frameReport k lends late lateS stalls) s = .next (((v.setFs [(R.TEN_LEND_LENDS, lends.val), (R.TEN_LEND_LATE, min 255 late.val)]).forN 16 fun n s => s.setF (R.TEN_BW_STALL n) (stalls.getD n 0)).revokeLate (min lateS.val late.val))) ∧
  (∀ (s : State), s.due .frameReport = true → exec .frameReportTimeout s = .next (({ s with ten := { s.ten with waiting := none } }.disarm .frameReport).tenViol 3))

/-- What the dispatcher does with the messages that reach it. The AD is powered and out of reset; `u` is the state once the message
`m` has been taken. 
1. CONFIG with tag 0xFFFF and offset bit 31 carries firmware.
2. CONFIG with tag 0xFFFF and a lower offset carries the tenancy plan, to a running dispatcher.
3. CONFIG at 0x7FFFFF00 with another tag is a clock-plan item.
4. DOORBELL for a ring of a live tenant with tokens publishes the tail, takes the new descriptors, and lets the tenant run.
5. TEN_CMD carries out the action for its tenant and acknowledges it: 1 suspends and cuts its jobs, 2 resumes it and fills its
bucket, 3 stops its tiles for a reset and starts the scrub, 4 and 5 set its lending permission, 5 revoking its loans, 6 loads, 7 drops it.
6. PROBE of a live tile tries the address past the tenant's space and the one given, and answers which were refused, with the data
or a value the spec leaves open.
7. SCRUB_COMPLETE of a RESETTING tenant whose tiles rest finishes its jobs with status 4; once none is left, it clears the tenant's
rings and banks, zero-fills its regions and brings it to LOADING.
8. SLOT_STOP_LEAD stops what runs on every tile that changes tenant at the next boundary.
9. SLOT_BOUNDARY within the major frame begins the next slot of the plan.
Rules: R83, R95, R98, R203, R258, R101, R543. -/
def Obligations.DispatcherMessages : Prop :=
  (∀ (s : State) (m : Msg) (u : State), (s.takeAd TT.config (fun _ => true) = some (m, u)) → u.adLive = true → m.tag = 0xFFFF → (fieldAt m.body 0 4).testBit 31 = true → exec .config s = .next (u.takeFirmware (fieldAt m.body 0 4 % 2 ^ 31) (fieldAt m.body 4 4) (m.body.drop 8))) ∧
  (∀ (s : State) (m : Msg) (u : State), (s.takeAd TT.config (fun _ => true) = some (m, u)) → u.adLive = true → m.tag = 0xFFFF → (fieldAt m.body 0 4).testBit 31 = false → u.ad.dsp.running = true → exec .config s = .next (u.takePlanPart (fieldAt m.body 0 4) (fieldAt m.body 4 4) (m.body.drop 8))) ∧
  (∀ (s : State) (m : Msg) (u : State), (s.takeAd TT.config (fun _ => true) = some (m, u)) → u.adLive = true → m.tag ≠ 0xFFFF → u.ad.dsp.running = true → fieldAt m.body 0 4 = 0x7FFFFF00 → exec .config s = .next (u.takeItem m.tag (fieldAt m.body 4 4) (m.body.drop 8))) ∧
  (∀ (s : State) (errs : List (Nat × MemErr)) (m : Msg) (u : State) (p : PlanTenant), (s.takeAd TT.doorbell (fun m => s.mayMove m.tenant) = some (m, u)) → u.dspLive = true → u.planOf m.tenant = some p → byteAt m.body 0 < p.queues → u.dspSt m.tenant ≠ tnAbsent → u.dspSt m.tenant ≠ tnLoading → u.dspSt m.tenant ≠ tnResetting → exec (.doorbell errs) s = .next ((let tail := fieldAt m.body 2 2 % 1024;
      let t := u.dspSet fun d => { d with sqTail := Sparse.put d.sqTail (4 * m.tenant + byteAt m.body 0) tail };
      (((State.takeDescs 1024 t m.tenant (byteAt m.body 0) tail errs).settle m.tenant).revokeFor m.tenant).lendAll))) ∧
  (∀ (s : State) (m : Msg) (u : State), (s.takeAd TT.tenCmd (fun _ => true) = some (m, u)) → u.dspLive = true → m.tenant < 16 → (byteAt m.body 0 = 1 → exec .tenCmd s = .next ((((u.forL (u.jobs.filter fun j => j.tenant == m.tenant && j.started) fun j s => s.cutJob 0 j).setDspSt m.tenant tnSuspended).tenAck m.tenant 1 tnSuspended).lendAll)) ∧
      (byteAt m.body 0 = 2 → exec .tenCmd s = .next ((((((if u.dspSt m.tenant = tnRunning then u else (u.setDspSt m.tenant tnReady).fillBucket m.tenant).tenAck m.tenant 2 tnReady).settle m.tenant).revokeFor m.tenant).lendAll))) ∧
      (byteAt m.body 0 = 3 → exec .tenCmd s = .next (((((u.forL (u.tilesRunning m.tenant) fun t s => s.stopOnce t 2).dspSet fun d => { d with loans := d.loans.filter fun l => !(l.2 == m.tenant), frames := d.frames.map fun f => { f with dest := f.dest.filter fun p => !(p.1 == m.tenant) } }).setDspSt m.tenant tnResetting).tenAck m.tenant 3 tnResetting).arm (.scrub m.tenant) 0)) ∧
      (byteAt m.body 0 = 4 → exec .tenCmd s = .next (u.dspSet fun d => { d with lendOk := d.lendOk.set m.tenant true }).lendAll) ∧
      (byteAt m.body 0 = 5 → exec .tenCmd s = .next ((u.dspSet fun d => { d with lendOk := d.lendOk.set m.tenant false }).forL ((u.dspSet fun d => { d with lendOk := d.lendOk.set m.tenant false }).ad.dsp.loans.filter fun l => l.2 == m.tenant) fun l s => s.revoke l.1)) ∧
      (byteAt m.body 0 = 6 → exec .tenCmd s = .next ((u.setDspSt m.tenant tnLoading).tenAck m.tenant 6 tnLoading)) ∧
      (byteAt m.body 0 = 7 → exec .tenCmd s = .next (((u.dropJobs m.tenant).setDspSt m.tenant tnAbsent).tenAck m.tenant 7 tnAbsent))) ∧
  (∀ (s : State) (m : Msg) (u : State), (s.takeAd TT.probe (fun _ => true) = some (m, u)) → byteAt m.body 0 < 16 → byteAt m.body 1 < 16 → u.tileLive (byteAt m.body 0 % 16) = true → exec .probe s = .next ((let t := byteAt m.body 0
      let n := byteAt m.body 1
      let a := fieldAt m.body 8 8
      let r1 := !u.mayAccess n (u.spaceOf n) 64 false
      let r2 := !u.mayAccess n a 64 false
      let d := if r2 then u.draw 512 else (leNat (u.tenRead n a 64), u)
      d.2.adSend (mgmt TT.probeResult 0 (leBytes 1 t ++ leBytes 1 ((if r1 then 1 else 0) + (if r2 then 2 else 0)) ++ leBytes 6 0 ++ leBytes 64 d.1))))) ∧
  (∀ (s : State) (tenant : Fin 16) (u : State), s.dspLive = true → s.tnState tenant = tnResetting → s.armed (.scrub tenant) = true → s.tilesRunning tenant = [] → s.mayMove tenant = true → u = s.abortJobs tenant → ((u.jobs.any fun j => j.tenant == tenant.val) = false → exec (.scrubComplete tenant) s = .next ((let d := (((u.disarm (.scrub tenant)).dropJobs tenant).resetRings tenant).untagBanks tenant
      ((d.forL (d.regionsOf tenant) fun r s => s.scrubRegion r).setTenant tenant tnLoading).command tenant 6))) ∧
      ((u.jobs.any fun j => j.tenant == tenant.val) = true → exec (.scrubComplete tenant) s = .next u)) ∧
  (∀ (s : State), s.dspLive = true → s.due .stopLead = true → exec .slotStopLead s = .next ((s.disarm .stopLead).forN 16 fun t s => if s.tileLive t ∧ s.changes t then (match s.lentTo t with | some _ => s.revoke t | none => s.cutOn t 0) else s)) ∧
  (∀ (s : State), s.dspLive = true → s.ad.dsp.planOk = true → s.due .slot = true → s.ad.dsp.slot + 1 < s.ad.dsp.slots.length → exec .slotBoundary s = .next ((let u := s.rearm .slot slotNs; u.beginSlot (u.ad.dsp.slot + 1))))

/-- Jobs: how they start, run through their phases and end. `s.startable n = some (j, ts)`: j is the tenant's next job and ts the
tiles it would start on. 
1. INFER_FRAME, INFER_CROPS, INFER_BATCH and GRAD (OP 1 to 4, the last with action 0) launch the job on its tiles, once its package
has been read.
2. COPY copies the input to the output, with the poison of what it read, and is charged for both.
3. PHASE_BARRIER: with every position of this phase halted (or, without a barrier, no request pending), the next phase's programs
are loaded and started, and tiles no later phase needs are given up; with an error in its package the job is stopped as poisoned.
4. JOB_COMPLETE of a started job whose work is over writes its completion and frees its tiles.
5. JOB_DEADLINE of an overdue job that is not over and has not started completes it with TIMEOUT; one that runs is stopped and completes so once
its tiles rest.
6. BATCH_CLOSE of a tenant's due batch closes it, and its jobs may start.
7. STOP_LIMIT_EXPIRY with a STOP pending, short of a seam, aborts the tile's program; a program stopped for its slot's end faults as LIMIT, one of a
borrower counts as late and its job ends with poison.
Rules: R81, R82, R84, R261, R262, R264, R269, R272, R498, R241. -/
def Obligations.Jobs : Prop :=
  (∀ (s : State) (tenant : Fin 16) (err : Option MemErr) (j : Job) (ts : List Nat) (p : PlanTenant), s.dspLive = true → s.ad.dsp.planOk = true → s.startable tenant = some (j, ts) → s.planOf tenant = some p → s.mayMove tenant = true → ((ts.all fun t => s.freeFor tenant t) = true) → (j.op = 1 → exec (.inferFrame tenant err) s = .next ((s.launchRead err p j ts).settle tenant)) ∧
      (j.op = 2 → exec (.inferCrops tenant err) s = .next ((s.launchRead err p j ts).settle tenant)) ∧
      (j.op = 3 → exec (.inferBatch tenant err) s = .next ((s.launchRead err p j ts).settle tenant)) ∧
      (j.op = 4 → j.arg 0 = 0 → exec (.grad tenant err) s = .next ((s.launchRead err p j ts).settle tenant)) ∧
      s.launchRead none p j ts = s.launch p j ts) ∧
  (∀ (s : State) (tenant : Fin 16) (errs : List (Nat × MemErr)) (j : Job) (ts : List Nat) (p : PlanTenant) (l : List (List Byte × Bool)) (u : State), s.dspLive = true → s.ad.dsp.planOk = true → s.startable tenant = some (j, ts) → s.planOf tenant = some p → s.mayMove tenant = true → ((ts.all fun t => s.freeFor tenant t) = true) → j.op = 5 → s.fetch tenant j.inAddr j.inLen errs = (l, u) → exec (.copy tenant errs) s = .next ((((u.charge tenant (2 * ((j.inLen + 63) / 64))).store tenant j.outAddr l).beginPlain j j.inLen (l.any (·.2))).settle tenant)) ∧
  (∀ (s : State) (job : Nat) (err : Option MemErr) (j : Job) (p : PlanTenant) (cur d : PhaseDesc) (e : Bool × State), s.jobs[job]? = some j → s.planOf j.tenant = some p → (s.phasesOf p)[j.phase]? = some cur → (s.phasesOf p)[j.phase + 1]? = some d → s.dspLive = true → j.started = true → j.onTiles = true → j.verdict = none → s.mayMove j.tenant = true → ((if d.barrier then s.allHalted (j.positions cur.width) else j.tiles.all fun t => (s.tile t).req.isNone) = true) → (s.due .stopLead && j.tiles.any s.changes) = false → s.pkgError p err = e → (e.1 = false → exec (.phaseBarrier job err) s = .next ((let u := e.2.forN d.width fun pos s =>
      (let t := j.tiles.getD pos 0
      let b := s.otherBank t
      let s := ((if pos < cur.width then s else s.tagBanks t p.n).loadProgram p d t pos).loadXforms j t (if d.barrier then [d] else [cur, d])
      if pos < cur.width then s.swapTile t b p.n else s.startTile t b p.n)
      (u.groupSet (u.group j) fun x => { x with phase := j.phase + 1, tiles := x.tiles.take (((s.phasesOf p).drop (j.phase + 1)).foldl (fun m x => max m x.width) 0) }).lendAll))) ∧
      (e.1 = true → exec (.phaseBarrier job err) s = .next ((e.2.groupSet (e.2.group j) fun x => { x with poison := true, verdict := some 5 }).forL j.tiles fun t s => s.stopOnce t 0))) ∧
  (∀ (s : State) (job : Nat) (j : Job), s.jobs[job]? = some j → s.dspLive = true → j.started = true → j.verdict = none → j.onTiles = false ∨ s.jobOver j = true → exec (.jobComplete job) s = .next ((((s.finish j (if j.poison then 5 else 0)).updDone j).settle j.tenant).lendAll)) ∧
  (∀ (s : State) (job : Nat) (j : Job), s.jobs[job]? = some j → s.dspLive = true → j.overdue s.now = true → j.verdict = none → s.jobEnded j = false → (j.started = false ∨ j.tiles = [] → exec (.jobDeadline job) s = .next ((s.finish j 3).settle j.tenant)) ∧
      (j.started = true → j.tiles ≠ [] → exec (.jobDeadline job) s = .next (let u := s.jobsSet fun l => l.replace j { j with verdict := some 3 }
      if 1 < (u.group j).length then u else u.forL j.tiles fun t s => s.stopOnce t 0))) ∧
  (∀ (s : State) (tenant : Fin 16) (p : PlanTenant) (l : List Job), s.planOf tenant = some p → (l = s.jobs.filter fun j => j.tenant == tenant.val && j.batch == 1 && j.verdict.isNone && decide (j.at_ < s.now)) → s.dspLive = true → l ≠ [] → s.batchDue p l = true → exec (.batchClose tenant) s = .next ((let b := s.ad.dsp.batches + 1
      let u := (s.dspSet fun d => { d with batches := b }).groupSet l fun j => { j with batch := b }
      ((u.settle tenant).revokeFor tenant).lendAll))) ∧
  (∀ (s : State) (tile : Fin 16) (bank reason tenant : Nat) (u : State), s.tileLive tile = true → s.due (.stopLimit tile) = true → (s.tile tile).req = some ⟨2, bank, reason, tenant⟩ → s.atSeam tile = false → (u = (if reason = 0 then s.recordFault tile (s.limitFault tile) (s.faultPc tile 0) 0 false else s).abortTile tile 2 0 0 0) → (reason ≠ 1 → exec (.stopLimitExpiry tile) s = .next u.lendAll) ∧
      (reason = 1 → exec (.stopLimitExpiry tile) s = .next (let f := (u.adFault (s.tenantOf tile) 5 0).dspSet fun d => { d with late := d.late + 1 }
      (f.forL (f.jobs.filter fun j => j.tenant == s.tenantOf tile && j.cutFrom.contains tile && !j.started) fun j s =>
      (s.jobsSet fun l => l.replace j { j with poison := true, out := j.cutOut }).finish { j with poison := true, out := j.cutOut } 5).lendAll)))

/-- What the dispatcher does with frames, transform sets and the start of a major frame. `u` is the state once the message `m` has
been taken. 
1. FRAME_OPEN with a good CRC opens the frame for the tenants that take the camera, with a buffer claimed for each.
2. FRAME_DATA of an open frame adds its part to the frame; past 8 MiB the frame is too large and keeps none of its data.
3. FRAME_TRAILER with a good CRC closes the frame, writes it to the buffer of each of its tenants and makes a job of it for every tenant it is for, finished with status 6 when
the frame is bad or too large.
4. STREAK_SET replaces the transforms of the tenant's frame.
5. MAJOR_TICK reports the frame before (after the first), begins slot 0 and sends the energy plan of frame k.
Rules: R84, R86, R88, R164, R287. -/
def Obligations.DispatcherFrames : Prop :=
  (∀ (s : State) (m : Msg) (u : State), (s.takeAd TT.frameOpen (fun _ => true) = some (m, u)) → u.dspLive = true → u.ad.dsp.planOk = true → fieldAt m.body 12 4 = crc32c (m.body.take 12) → exec .frameOpen s = .next ((let cam := byteAt m.body 0
      let d := u.dspSet fun d => { d with frames := d.frames.filter fun f => !(f.cam == cam) }
      let c := claimBufs ((d.frameTenants m cam).filter d.takesFrames) d cam
      c.2.dspSet fun d => { d with frames := d.frames ++ [⟨cam, fieldAt m.body 4 4, fieldAt m.body 8 4, false, c.1, []⟩] }))) ∧
  (∀ (s : State) (m : Msg) (u : State) (f : DFrame), (s.takeAd TT.frameData (fun _ => true) = some (m, u)) → ((u.ad.dsp.frames.find? fun f => f.cam == byteAt m.body 0 && f.ctr % 65536 == m.tag) = some f) → u.dspLive = true → exec .frameData s = .next (u.dspSet fun d => { d with frames := d.frames.map fun g =>
      (if g.cam = byteAt m.body 0 then (if decide (eightMib < fieldAt m.body 4 4 + (m.body.drop 8).length) ∨ g.big then { g with big := true, data := [] } else { g with data := g.data ++ [(fieldAt m.body 4 4, m.body.drop 8)] }) else g) })) ∧
  (∀ (s : State) (m : Msg) (u : State) (f : DFrame), (s.takeAd TT.frameTrailer s.trailerGoes = some (m, u)) → ((u.ad.dsp.frames.find? fun f => f.cam == byteAt m.body 0 && f.ctr == fieldAt m.body 4 4) = some f) → u.dspLive = true → leNat (m.body.drop (m.body.length - 4)) = crc32c (m.body.take (m.body.length - 4)) → exec .frameTrailer s = .next ((let b := m.body
      let cam := byteAt b 0
      let ctr := fieldAt b 4 4
      let c := u.dspSet fun d => { d with frames := d.frames.filter fun g => !(g.cam == cam) }
      let d := c.forL f.dest fun p s =>
      (let desc := frameDesc cam ctr f.fs (s.bufAddr p.1 cam p.2) (fieldAt b 24 4)
      let j := { newJob p.1 none desc s.now with fe := fieldAt b 12 4, buf := p.2 }
      let s := if f.big then s else s.writeFrame f p.1 p.2
      let s := s.jobsSet fun l => l ++ [j]
      if byteAt b 1 ≠ 0 ∨ f.big then s.finish j 6 else s)
      (d.forL f.dest fun p s => (s.settle p.1).revokeFor p.1).lendAll))) ∧
  (∀ (s : State) (m : Msg) (u : State), (s.takeAd TT.streakSet (fun _ => true) = some (m, u)) → u.dspLive = true → exec .streakSet s = .next ((let b := m.body
      let cam := byteAt b 0
      let ctr := fieldAt b 4 4
      u.dspSet fun d => { d with runs := (d.runs.filter fun r => !(r.1 == m.tenant && r.2.1 == cam && r.2.2.1 == ctr)) ++ [(m.tenant, cam, ctr, fieldAt b 8 4, (List.range (fieldAt b 2 2)).map (xformAt b))] }))) ∧
  (∀ (s : State) (m : Msg) (u : State), (s.takeAd TT.majorTick (fun _ => true) = some (m, u)) → u.dspLive = true → u.ad.dsp.planOk = true → exec .majorTick s = .next ((let k := fieldAt m.body 0 4
      let r := if k = 0 then u else u.frameReport (k - 1)
      ((r.arm .slot slotNs).beginSlot 0).energyPlan k)))

/-- The sequencer of a tile. 
1. BUNDLE_DISPATCH of a bundle without a fault, at a seam that has been reached or none, with its token, room and no pending SYNC,
takes the token and queues the engine operations.
2. NEXT and SYNC go on at the following bundle.
3. LOOP pushes the following index with its count; ENDL goes back while more than one pass is left and else pops; JUMP goes to its
index; HALT lets the tile run dry.
4. SEAM_REACHED of a drained tile within 4,800 cycles counts the seam, keeps the largest interval and drain, and takes the request
that waits or runs on; later than that the tile faults.
5. TILE_HALTED of a halting tile that has run dry makes it HALTED, which counts as a seam, and takes the request that waits.
6. TL_SEAMMAX answers both maxima and clears them.
Rules: R223, R230, R235, R253. -/
def Obligations.TileSequencer : Prop :=
  (∀ (s : State) (tile : Fin 16), s.tileLive tile = true → s.tstate tile = tsRun → (s.tile tile).disp = false → (s.tile tile).halting = false → s.getF (R.TL_SEQ_PC tile) < s.progLen tile → seqSeam (s.atPc tile) = false ∨ (s.tile tile).seam = true → bundleFaults (s.atPc tile) (s.progLen tile) (s.tile tile).loops.length = [] → s.tokenOk tile (seqCtok (s.atPc tile)) = true → seqSop (s.atPc tile) ≠ 5 ∨ (s.tile tile).retired = true → (s.tile tile).full (s.atPc tile) = false → exec (.bundleDispatch tile) s = .next ((s.takeToken tile (seqCtok (s.atPc tile))).tileSet tile fun k => k.enqueue (s.atPc tile) (s.getF (R.TL_SEQ_PC tile)))) ∧
  (∀ (s : State) (tile : Fin 16), (s.dispatch tile).tileLive tile = true → (s.dispatch tile).tstate tile = tsRun → ((s.dispatch tile).tile tile).disp = true → ((s.dispatch tile).tile tile).halting = false → (seqSop (s.atPc tile) = 0 → exec (.nextBundle tile) s = .next ((s.dispatch tile).goTo tile ((s.dispatch tile).getF (R.TL_SEQ_PC tile) + 1))) ∧
      (seqSop (s.atPc tile) = 5 → exec (.sync tile) s = .next ((s.dispatch tile).goTo tile ((s.dispatch tile).getF (R.TL_SEQ_PC tile) + 1)))) ∧
  (∀ (s : State) (tile : Fin 16), (s.dispatch tile).tileLive tile = true → (s.dispatch tile).tstate tile = tsRun → ((s.dispatch tile).tile tile).disp = true → ((s.dispatch tile).tile tile).halting = false → (seqSop (s.atPc tile) = 1 → exec (.loop tile) s = .next (let u := s.dispatch tile
      let pc := u.getF (R.TL_SEQ_PC tile)
      (u.setLoops tile ((pc + 1, seqImm (u.atPc tile)) :: (u.tile tile).loops)).goTo tile (pc + 1))) ∧
      (∀ start n rest, seqSop (s.atPc tile) = 2 → ((s.dispatch tile).tile tile).loops = (start, n) :: rest → exec (.endl tile) s = .next (let u := s.dispatch tile
      if 1 < n then (u.setLoops tile ((start, n - 1) :: rest)).goTo tile start else (u.setLoops tile rest).goTo tile (u.getF (R.TL_SEQ_PC tile) + 1))) ∧
      (seqSop (s.atPc tile) = 3 → exec (.jump tile) s = .next ((s.dispatch tile).goTo tile (seqImm ((s.dispatch tile).atPc tile)))) ∧
      (seqSop (s.atPc tile) = 4 → exec (.halt tile) s = .next ((s.dispatch tile).tileSet tile fun k => { k with halting := true }))) ∧
  (∀ (s : State) (tile : Fin 16) (interval drain : Nat) (v : State), s.tileLive tile = true → s.tstate tile = tsSeamwait → (s.tile tile).drained = true → (v = ((s.wrapInc (R.TL_SEAMS_COUNT tile)).seamMax (R.TL_SEAMMAX_INTERVAL tile) interval).seamMax (R.TL_SEAMMAX_DRAIN tile) drain) → (∀ r, interval + drain ≤ 4800 → (v.tile tile).req = some r → exec (.seamReached tile interval drain) s = .next (v.takeReq tile)) ∧
      (interval + drain ≤ 4800 → (v.tile tile).req = none → exec (.seamReached tile interval drain) s = .next ((v.tileSet tile fun k => { k with seam := true }).setF (R.TL_SEQ_STATE tile) tsRun)) ∧
      (4800 < interval + drain → exec (.seamReached tile interval drain) s = .next (s.tileFault tile tfSeamLate 0))) ∧
  (∀ (s : State) (tile : Fin 16), s.tileLive tile = true → (s.tile tile).halting = true → (s.tile tile).drained = true → exec (.tileHalted tile) s = .next ((((s.tileSet tile fun k => { k with halting := false, disp := false }).setFlags [R.TL_INT_HALTED tile] [(R.TL_SEQ_STATE tile, tsHalted)]).wrapInc (R.TL_SEAMS_COUNT tile)).takeReq tile)) ∧
  (∀ (s : State) (tile : Fin 16), s.tileLive tile = true → exec (.tlSeammax tile) s = .next (((s.answer (.data (BitVec.ofNat 32 (s.readRc (R.TL_SEAMMAX_INTERVAL tile) + 65536 * s.readRc (R.TL_SEAMMAX_DRAIN tile))))).clearRc (R.TL_SEAMMAX_INTERVAL tile)).clearRc (R.TL_SEAMMAX_DRAIN tile)))

/-- Requests to a tile, its limits and its watchdogs. 
1. SWAP to the other VALID bank of a running tile with no request pending waits for its next seam, for at most SWAPTO_US.
2. STOP and START act on the tile as R239 and R240 say.
3. SWAP_LIMIT_EXPIRY with a SWAP pending records a LIMIT fault, aborts the program and starts the other bank.
4. TILE_SEAM_LATE faults a running tile.
5. TILE_CREDIT_STALL faults a tile whose oldest shift of the queue has not moved for 10 ms.
6. TILE_DEADLOCK faults a running tile in which everything waits on tokens and nothing is in progress.
7. SHIFT_WITHDRAWN ends the shift that the far side withdrew.
8. PROGRAM_BANK_WRITE to a bank that is not busy writes the bank's ENTRY, LEN and VALID, or one word of the bundle at the offset.
Rules: R236, R237, R238, R239, R240, R241, R243, R244. -/
def Obligations.TileControl : Prop :=
  (∀ (s : State) (tile : Fin 16) (bank : Fin 2) (tenant : Fin 16), s.tileLive tile = true → (s.tile tile).req = none → s.bankReady tile bank = true → bank.val ≠ s.getF (R.TL_SEQ_BANK tile) → s.tstate tile = tsRun ∨ s.tstate tile = tsSeamwait → exec ((.swap tile bank tenant)) s = .next (((s.answer .ok).tileSet tile fun k => { k with req := some ⟨1, bank, 0, tenant⟩ }).arm (.swapLimit tile) (s.getF (R.TL_LIMIT_SWAPTO_US tile) * usNs))) ∧
  (∀ (s : State) (tile : Fin 16) (reason : Fin 4) (bank : Fin 2) (tenant : Fin 16), s.tileLive tile = true → exec (.stop tile reason) s = .next ((s.answer .ok).stopTile tile reason) ∧ exec (.start tile bank tenant) s = .next ((s.answer .ok).startTile tile bank tenant)) ∧
  (∀ (s : State) (tile : Fin 16) (bank reason tenant : Nat), s.tileLive tile = true → s.due (.swapLimit tile) = true → (s.tile tile).req = some ⟨1, bank, reason, tenant⟩ → s.atSeam tile = false → exec (.swapLimitExpiry tile) s = .next ((s.recordFault tile (s.limitFault tile) (s.faultPc tile 0) 0 false).abortTile tile 1 1 bank tenant)) ∧
  (∀ (s : State) (tile : Fin 16) (cycles : Nat), 4800 ≤ cycles → s.tileLive tile = true → s.tstate tile = tsRun ∨ s.tstate tile = tsSeamwait → exec (.tileSeamLate tile cycles) s = .next (s.tileFault tile tfSeamLate 0)) ∧
  (∀ (s : State) (tile : Fin 16) (queue : Fin 8) (x : Shift) (l : List Shift), (s.tile tile).shiftsOf queue = x :: l → s.tileLive tile = true → x.at_ + 10 * msNs ≤ s.now → exec (.tileCreditStall tile queue) s = .next (s.tileFaultAt tile tfCreditStall x.pc 3)) ∧
  (∀ (s : State) (tile : Fin 16), s.tileLive tile = true → s.tstate tile = tsRun ∨ s.tstate tile = tsSeamwait → (s.tile tile).cur.all Option.isNone = true → (s.tile tile).noShift = true → s.headsWait tile = true → s.seqWaits tile = true → (s.tile tile).retired = false ∨ s.tokenOk tile (seqCtok (s.atPc tile)) = false → exec (.tileDeadlock tile) s = .next (s.tileFault tile tfDeadlock 0)) ∧
  (∀ (s : State) (tile : Fin 16) (queue : Fin 8) (peer : Fin 16) (peerQ : Fin 8) (send : Bool), s.tileLive tile = true → exec (.shiftWithdrawn tile queue peer peerQ send) s = .next (s.withdrawn tile queue peer peerQ (if send then 2 else 3))) ∧
  (∀ (s : State) (tile : Fin 16) (bank : Fin 2) (offset : Nat) (data : Word), s.tileLive tile = true → s.bankBusy tile bank = false → offset % 65536 % 4 = 0 → exec (.programBankWrite tile bank true offset data) s = .next ((s.answer .ok).setFs [(R.TL_PBANK_ENTRY tile bank, data.toNat % 4096), (R.TL_PBANK_LEN tile bank, min 4096 (bitsOf data.toNat 24 12)),
      (R.TL_PBANK_VALID tile bank, bitsOf data.toNat 31 31)]) ∧
      exec (.programBankWrite tile bank false offset data) s = .next (let key := tile.val * 8192 + bank.val * 4096 + offset % 65536 / 16
      let sh := 2 ^ (32 * (offset % 65536 / 4 % 4))
      let old := Sparse.get 0 s.ad.prog key
      (s.answer .ok).adSet fun a => { a with prog := Sparse.set 0 a.prog key (old - old / sh % 2 ^ 32 * sh + data.toNat * sh) }))

/-- The operations of the MAC engine, NOP and the completion of an operation. `engineReady`: the engine is free and the oldest
operation of its queue, the word `w` of the bundle at `pc`, has the operation's code and its token; `engineTaken` is the tile once it has been taken. 
1. NOP takes its turn on any engine and does nothing more.
2. MSETA loads an address register, or faults on an address past the last line.
3. MMODE sets the format and the pass, or faults on a second pass with an FP format (log entry 92).
4. WLOAD reads the weight lines, with the errors met on them, into the shadow weights; past the last line it faults.
5. WSWAP exchanges the active and the shadow weights.
6. MMA without a fault, outside a signature pass, streams its rows against the active weights into the bank; BEGIN starts the
bank, INC advances the address, and the busy cycles are counted; with a fault it raises it.
7. ACLR starts a bank of the format, or faults on one that it does not have.
8. SIGO opens a pass signature from the seed; SIGC closes it and posts the sum if it fed.
9. ENGINE_OP_COMPLETE ends the operation in progress and signals its token.
Rules: R222, R224, R225, R226, R289. -/
def Obligations.MacEngineOps : Prop :=
  (∀ (s : State) (tile : Fin 16) (engine : Fin 3) (pc w : Nat) (rest : List QOp), s.engineReady tile engine 0 ⟨w, pc⟩ rest = true → exec (.nop tile engine) s = .next (s.engineTaken tile engine ⟨w, pc⟩ rest)) ∧
  (∀ (s : State) (tile : Fin 16) (pc w : Nat) (rest : List QOp), s.engineReady tile 0 1 ⟨w, pc⟩ rest = true → exec (.mseta tile) s = .next ((if 24575 < bitsOf w 14 0 then (s.engineTaken tile 0 ⟨w, pc⟩ rest).tileFault tile tfAddr 1
      else (s.engineTaken tile 0 ⟨w, pc⟩ rest).setMa tile (bitsOf w 17 15) (bitsOf w 14 0)))) ∧
  (∀ (s : State) (tile : Fin 16) (pc w : Nat) (rest : List QOp), s.engineReady tile 0 2 ⟨w, pc⟩ rest = true → exec (.mmode tile) s = .next ((let u := s.engineTaken tile 0 ⟨w, pc⟩ rest
      if w.testBit 14 ∧ 2 ≤ bitsOf w 17 15 then u.tileFault tile tfOperand 1
      else u.tileSet tile fun k => { k with fmt := bitsOf w 17 15, spass := w.testBit 14 }))) ∧
  (∀ (s : State) (tile : Fin 16) (errs : List (Nat × LineErr)) (pc w : Nat) (rest : List QOp) (u : State) (a n : Nat), s.engineReady tile 0 3 ⟨w, pc⟩ rest = true → u = s.engineTaken tile 0 ⟨w, pc⟩ rest → a = (u.tile tile).ma.getD (bitsOf w 17 15) 0 → n = weightLines (u.tile tile).fmt → (a + n ≤ 24576 → exec (.wload tile errs) s = .next (let r := u.readChecked tile ((List.range n).map fun i => a + i) errs
      r.2.tileSet tile fun k => { k with wSh := r.1.map (·.1), wShM := r.1.any (·.2) })) ∧
      (24576 < a + n → exec (.wload tile errs) s = .next (u.tileFault tile tfAddr 1))) ∧
  (∀ (s : State) (tile : Fin 16) (pc w : Nat) (rest : List QOp), s.engineReady tile 0 4 ⟨w, pc⟩ rest = true → exec (.wswap tile) s = .next ((s.engineTaken tile 0 ⟨w, pc⟩ rest).tileSet tile fun k => { k with wAct := k.wSh, wActM := k.wShM, wSh := k.wAct, wShM := k.wActM })) ∧
  (∀ (s : State) (tile : Fin 16) (errs : List (Nat × LineErr)) (pc w : Nat) (rest : List QOp) (u : State), s.engineReady tile 0 5 ⟨w, pc⟩ rest = true → u = s.engineTaken tile 0 ⟨w, pc⟩ rest → (mmaFault (u.tile tile) w = 0 → (u.tile tile).spass = false → exec (.mma tile errs) s = .next (let k := u.tile tile
      let a := k.ma.getD (bitsOf w 17 15) 0
      let n := bitsOf w 5 0 + 1
      let r := u.readChecked tile ((List.range (if w.testBit 10 then 64 else n)).map fun i => a + i) errs
      let b := if w.testBit 11 then r.2.startBank tile (bitsOf w 14 12) else r.2
      let c := b.mmaRows tile k.fmt (bitsOf w 14 12) (8 * bitsOf w 8 6) n (w.testBit 10) false r.1
      (if w.testBit 9 then c.setMa tile (bitsOf w 17 15) (a + n) else c).wrapAdd (R.TL_MACBUSY_CYCLES tile) n)) ∧
      (mmaFault (u.tile tile) w ≠ 0 → exec (.mma tile errs) s = .next (u.tileFault tile (mmaFault (u.tile tile) w) 1))) ∧
  (∀ (s : State) (tile : Fin 16) (pc w : Nat) (rest : List QOp), s.engineReady tile 0 8 ⟨w, pc⟩ rest = true → exec (.aclr tile) s = .next ((let u := s.engineTaken tile 0 ⟨w, pc⟩ rest
      if fmtBanks (u.tile tile).fmt ≤ bitsOf w 14 12 then u.tileFault tile tfOperand 1 else u.startBank tile (bitsOf w 14 12)))) ∧
  (∀ (s : State) (tile : Fin 16) (pc w : Nat) (rest : List QOp), (s.engineReady tile 0 6 ⟨w, pc⟩ rest = true → exec (.sigo tile) s = .next (let u := s.engineTaken tile 0 ⟨w, pc⟩ rest
      u.tileSet tile fun k => { k with sig := some ⟨bitsOf w 15 0, u.getF (R.TL_XSEED_SEED tile), 0, true⟩, sigo := some (bitsOf w 15 0) })) ∧
      (s.engineReady tile 0 7 ⟨w, pc⟩ rest = true → exec (.sigc tile) s = .next ((s.engineTaken tile 0 ⟨w, pc⟩ rest).tileSet tile fun k => { k with posted := (match k.sig with | some g => if g.feeds then k.posted ++ [(g.chunk, g.sum)] else k.posted | none => k.posted), sig := none }))) ∧
  (∀ (s : State) (tile : Fin 16) (engine : Fin 3) (o : QOp), (s.tile tile).cur.getD engine none = some o → s.tileLive tile = true → exec (.engineOpComplete tile engine) s = .next ((s.tileSet tile fun k => { k with cur := k.cur.set engine none }).signal tile (slotSt engine o.word) o.pc (engine + 1)))

/-- The arithmetic operations of the vector engine. 
1. VALU, VFMA, VCMP, VSH and VSEL compute lane by lane in the type of the operation, VALU and VFMA counting BF16 and FP16
overflows (log entry 93); VSFU applies the special function.
2. VCVT converts 64 lanes, leaves the rest of a wider destination open, carries the marks and counts the saturations.
3. VRED reduces the 64 lanes of 32 bits; any mark of the source marks the result.
4. VSPL writes an immediate to every lane, as the upper half or sign-extended.
Rules: R200, R222, R224, R227. -/
def Obligations.VectorArithmetic : Prop :=
  (∀ (s : State) (tile : Fin 16) (pc w : Nat) (rest : List QOp) (u : State), u = s.engineTaken tile 1 ⟨w, pc⟩ rest → (s.engineReady tile 1 1 ⟨w, pc⟩ rest = true → exec (.valu tile) s = .next (u.lanewiseSat tile (tyBits (tyOf w)) (vdOf w) (vaOf w) (vbOf w) false fun a b _ => valuLane (bitsOf w 2 0) (tyOf w) (w.testBit 3) a b)) ∧
      (s.engineReady tile 1 2 ⟨w, pc⟩ rest = true → exec (.vfma tile) s = .next (u.lanewiseSat tile (tyBits (tyOf w)) (vdOf w) (vaOf w) (vbOf w) true fun a b d => vfmaLane (tyOf w) (w.testBit 3) a b d)) ∧
      (s.engineReady tile 1 3 ⟨w, pc⟩ rest = true → exec (.vcmp tile) s = .next (u.lanewise tile (tyBits (tyOf w)) (vdOf w) (vaOf w) (vbOf w) false fun a b _ => vcmpLane (bitsOf w 2 0) (tyOf w) a b)) ∧
      (s.engineReady tile 1 4 ⟨w, pc⟩ rest = true → exec (.vsh tile) s = .next (u.lanewise tile (tyBits (tyOf w)) (vdOf w) (vaOf w) (vbOf w) false fun a b _ => vshLane (bitsOf w 2 0) (tyOf w) a b)) ∧
      (s.engineReady tile 1 7 ⟨w, pc⟩ rest = true → exec (.vsel tile) s = .next (u.lanewise tile (tyBits (tyOf w)) (vdOf w) (vaOf w) (vbOf w) true fun a b d => if b ≠ 0 then a else d)) ∧
      (s.engineReady tile 1 5 ⟨w, pc⟩ rest = true → exec (.vsfu tile) s = .next (u.lanewise tile 32 (vdOf w) (vaOf w) (vaOf w) false fun a _ _ => sfuLane (bitsOf w 2 0) a))) ∧
  (∀ (s : State) (tile : Fin 16) (pc w : Nat) (rest : List QOp), s.engineReady tile 1 6 ⟨w, pc⟩ rest = true → exec (.vcvt tile) s = .next ((let t := tile.val
      let u := s.engineTaken t 1 ⟨w, pc⟩ rest
      let td := bitsOf w 9 7
      let ws := tyBits (tyOf w)
      let wd := tyBits td
      let a := u.vreg t (vaOf w)
      let ma := u.vmark t (vaOf w)
      let r := (List.range 64).map fun i => cvtLane (tyOf w) td (w.testBit 3) (laneAt ws a i)
      let d := u.draw 2048
      let x := ofLanes wd (r.map (·.1)) + d.1 / 2 ^ (64 * wd) * 2 ^ (64 * wd)
      (d.2.setVreg t (vdOf w) x (ofMarks wd ((List.range 64).map fun i => laneMarked ws ma i))).wrapAdd (R.TL_SAT_COUNT t) (r.filter (·.2)).length))) ∧
  (∀ (s : State) (tile : Fin 16) (pc w : Nat) (rest : List QOp), s.engineReady tile 1 8 ⟨w, pc⟩ rest = true → exec (.vred tile) s = .next ((let u := s.engineTaken tile 1 ⟨w, pc⟩ rest
      u.setVreg tile (vdOf w) (vredOf (bitsOf w 2 0) (tyOf w) (lanesOf 32 (u.vreg tile (vaOf w)))) (if u.vmark tile (vaOf w) = 0 then 0 else 15)))) ∧
  (∀ (s : State) (tile : Fin 16) (pc w : Nat) (rest : List QOp), s.engineReady tile 1 15 ⟨w, pc⟩ rest = true → exec (.vspl tile) s = .next ((s.engineTaken tile 1 ⟨w, pc⟩ rest).setVreg tile (vdOf w) (ofLanes 32 (List.replicate 64 (if w.testBit 0 then bitsOf w 16 1 * 65536 else ofSigned 32 (toSigned 16 (bitsOf w 16 1))))) 0))

/-- The operations of the vector engine that reach the tile store and the accumulators. 
1. VLD from lines in range reads them with their poison into a register and may advance the address.
2. VST to lines in range writes the register and its marks and may advance the address.
3. VLDT within a region and the store gathers one column of 64 lines.
4. VRQ of a row of an integer bank that may be read requantises 64 sums with their parameters into a quarter of a register, with
their marks, and counts the saturations.
5. VACC of a bank that may be read moves a row: 64 integers become FP32, floating-point entries pass as they are.
6. VPARAM from eight lines of one region loads half of the parameters, or faults on a shift above 63.
7. VSETA loads an address register, or faults past the last line; VPMAP reads the poison bits of 2,048 lines.
Rules: R187, R200, R201, R222, R224, R227, R228. -/
def Obligations.VectorTransfers : Prop :=
  (∀ (s : State) (tile : Fin 16) (errs : List (Nat × LineErr)) (pc w : Nat) (rest : List QOp), s.engineReady tile 1 9 ⟨w, pc⟩ rest = true → (s.engineTaken tile 1 ⟨w, pc⟩ rest).vaReg tile (bitsOf w 16 14) / 512 ≤ 44 → exec ((.vld tile errs)) s = .next ((let t := tile.val
      let u := s.engineTaken t 1 ⟨w, pc⟩ rest
      let i := bitsOf w 16 14
      let a := u.vaReg t i
      let r := u.readChecked t (fourLines a) errs
      let v := r.2.setVreg t (vdOf w) (ofLanes 512 (r.1.map (·.1))) (ofMarks 512 (r.1.map (·.2)))
      if w.testBit 13 then v.setVa t i (a + 1) else v))) ∧
  (∀ (s : State) (tile : Fin 16) (pc w : Nat) (rest : List QOp), s.engineReady tile 1 10 ⟨w, pc⟩ rest = true → (s.engineTaken tile 1 ⟨w, pc⟩ rest).vaReg tile (bitsOf w 16 14) / 512 ≤ 44 → exec (.vst tile) s = .next ((let t := tile.val
      let u := s.engineTaken t 1 ⟨w, pc⟩ rest
      let i := bitsOf w 16 14
      let a := u.vaReg t i
      let x := u.vreg t (vdOf w)
      let m := u.vmark t (vdOf w)
      let v := u.forN 4 fun q s => s.writeLine t (a + 512 * q) (laneAt 512 x q) (laneMarked 512 m q)
      if w.testBit 13 then v.setVa t i (a + 1) else v))) ∧
  (∀ (s : State) (tile : Fin 16) (errs : List (Nat × LineErr)) (pc w : Nat) (rest : List QOp) (a e j n : Nat), s.engineReady tile 1 11 ⟨w, pc⟩ rest = true → a = (s.engineTaken tile 1 ⟨w, pc⟩ rest).vaReg tile (bitsOf w 16 14) → e = 1 + bitsOf w 13 13 → j = bitsOf w 12 7 → n = 4 / e → a % 512 + 64 ≤ 512 → j % n = 0 → j + n ≤ 64 / e → a + 64 ≤ 24576 → exec ((.vldt tile errs)) s = .next ((let u := s.engineTaken tile 1 ⟨w, pc⟩ rest
      let r := u.readChecked tile ((List.range 64).map fun i => a + i) errs
      let vec := (List.range n).flatMap fun v => r.1.map fun l => laneAt (8 * e) l.1 (j + v)
      r.2.setVreg tile (vdOf w) (ofLanes (8 * e) vec) (if r.1.any (·.2) then 2 ^ 256 - 1 else 0)))) ∧
  (∀ (s : State) (tile : Fin 16) (pc w : Nat) (rest : List QOp) (u : State), s.engineReady tile 1 12 ⟨w, pc⟩ rest = true → u = s.engineTaken tile 1 ⟨w, pc⟩ rest → u.accFault tile (bitsOf w 16 14) (bitsOf w 6 6) (w.testBit 7) = false → w.testBit 7 = false → u.bankFmt tile (bitsOf w 16 14) < 2 → exec (.vrq tile) s = .next ((let t := tile.val
      let half := bitsOf w 6 6
      let q := bitsOf w 5 4
      let k := u.tile t
      let row := u.accRow t (bitsOf w 16 14) (bitsOf w 13 8) half
      let res := (List.range 64).map fun c =>
      (let p := k.params.getD (64 * half + c) 0
      requantise (row.getD c (0, false)).1 (toSigned 32 p) (p / 2 ^ 32 % 256) (toSigned 8 (p / 2 ^ 40)))
      let marks := (List.range 64).map fun c => (row.getD c (0, false)).2 || k.paramM.getD half false
      let put : Nat → Nat → Nat → Nat := fun wd o v => o - laneAt wd o q * 2 ^ (wd * q) + v * 2 ^ (wd * q)
      (u.setVreg t (vdOf w) (put 512 (u.vreg t (vdOf w)) (ofLanes 8 (res.map fun r => ofSigned 8 r.1))) (put 64 (u.vmark t (vdOf w)) (ofMarks 8 marks))).wrapAdd (R.TL_SAT_COUNT t) (res.filter (·.2)).length))) ∧
  (∀ (s : State) (tile : Fin 16) (pc w : Nat) (rest : List QOp) (u : State), s.engineReady tile 1 13 ⟨w, pc⟩ rest = true → u = s.engineTaken tile 1 ⟨w, pc⟩ rest → u.accFault tile (bitsOf w 16 14) (bitsOf w 6 6) (w.testBit 7) = false → w.testBit 7 = false → exec (.vacc tile) s = .next ((let t := tile.val
      let bank := bitsOf w 16 14
      let f := u.bankFmt t bank
      let rowN := bitsOf w 13 8
      if f < 2 then (let row := u.accRow t bank rowN (bitsOf w 6 6)
      u.setVreg t (vdOf w) (ofLanes 32 (row.map fun e => FpFmt.fp32.bits (FpV.ofInt e.1))) (ofMarks 32 (row.map (·.2))))
      else u.setVreg t (vdOf w) (ofLanes 32 ((List.range 32).map fun c => u.accAt t f bank rowN c)) (ofMarks 32 ((List.range 32).map fun c => u.accMark t f bank rowN c))))) ∧
  (∀ (s : State) (tile : Fin 16) (errs : List (Nat × LineErr)) (pc w : Nat) (rest : List QOp), s.engineReady tile 1 14 ⟨w, pc⟩ rest = true → (s.engineTaken tile 1 ⟨w, pc⟩ rest).vaReg tile (bitsOf w 16 14) % 512 + 8 ≤ 512 → exec (.vparam tile errs) s = .next ((let t := tile.val
      let u := s.engineTaken t 1 ⟨w, pc⟩ rest
      let a := u.vaReg t (bitsOf w 16 14)
      let h := bitsOf w 13 13
      let r := u.readChecked t ((List.range 8).map fun i => a + i) errs
      let es := r.1.flatMap fun l => (List.range 8).map fun i => laneAt 64 l.1 i
      if es.any fun p => decide (63 < p / 2 ^ 32 % 256) then r.2.tileFault t tfOperand 2
      else r.2.tileSet t fun k => { k with params := (if h = 0 then es ++ k.params.drop 64 else k.params.take 64 ++ es), paramM := k.paramM.set h (r.1.any (·.2)) }))) ∧
  (∀ (s : State) (tile : Fin 16) (pc w : Nat) (rest : List QOp) (u : State), u = s.engineTaken tile 1 ⟨w, pc⟩ rest → (s.engineReady tile 1 16 ⟨w, pc⟩ rest = true → exec (.vseta tile) s = .next (if 24575 < bitsOf w 14 0 then u.tileFault tile tfAddr 2 else u.setVa tile (bitsOf w 21 19) (bitsOf w 14 0))) ∧
      (s.engineReady tile 1 17 ⟨w, pc⟩ rest = true → exec (.vpmap tile) s = .next (let a := u.vaReg tile (bitsOf w 16 14)
      let lane : Nat → Nat := fun i => (List.range 32).foldl (fun x k =>
      (let l := a + 32 * i + k
      if l < 24576 ∧ u.linePoison tile l then x + 2 ^ k else x)) 0
      u.setVreg tile (vdOf w) (ofLanes 32 ((List.range 64).map lane)) 0)))

/-- The operations of the move engine, its shifts and the memory grant. 
1. MSETD writes 16 bits of a descriptor register.
2. MLOAD, MSTORE, MSEND and MRECV to a queue with room issue their shift, or fault on their operands.
3. MFENCE waits for a queue, or every queue, to be empty and does nothing more.
4. SHIFT_COMPLETE of the oldest shift of a queue: a transfer between tiles or with the shelf moves its lines now; a shift whose
lines have all moved ends.
5. MEMORY_GRANT fills the buckets and grants one line to the tenant next in turn: it is charged, and the line moves with what its
error leaves.
Rules: R86, R222, R224, R229, R232, R233. -/
def Obligations.MoveEngineOps : Prop :=
  (∀ (s : State) (tile : Fin 16) (pc w : Nat) (rest : List QOp), s.engineReady tile 2 1 ⟨w, pc⟩ rest = true → exec (.msetd tile) s = .next ((s.engineTaken tile 2 ⟨w, pc⟩ rest).tileSet tile fun k =>
      (let d := bitsOf w 21 19
      let p := 2 ^ (16 * bitsOf w 18 17)
      let old := k.dd.getD d 0
      { k with dd := k.dd.set d (old - old / p % 65536 * p + bitsOf w 15 0 * p) }))) ∧
  (∀ (s : State) (tile : Fin 16) (pc w : Nat) (rest : List QOp) (u : State), u = s.engineTaken tile 2 ⟨w, pc⟩ rest → shiftRoom tile w s = true → (s.engineReady tile 2 2 ⟨w, pc⟩ rest = true → exec (.mload tile) s = .next (u.issueMem tile 0 w)) ∧
      (s.engineReady tile 2 3 ⟨w, pc⟩ rest = true → exec (.mstore tile) s = .next (u.issueMem tile 1 w)) ∧
      (s.engineReady tile 2 4 ⟨w, pc⟩ rest = true → exec (.msend tile) s = .next (u.issuePeer tile 2 w)) ∧
      (s.engineReady tile 2 5 ⟨w, pc⟩ rest = true → exec (.mrecv tile) s = .next (u.issuePeer tile 3 w))) ∧
  (∀ (s : State) (tile : Fin 16) (pc w : Nat) (rest : List QOp), s.engineReady tile 2 6 ⟨w, pc⟩ rest = true → (if w.testBit 18 then (s.tile tile).noShift else ((s.tile tile).shiftsOf (bitsOf w 21 19)).isEmpty) = true → exec (.mfence tile) s = .next (s.engineTaken tile 2 ⟨w, pc⟩ rest)) ∧
  (∀ (s : State) (tile : Fin 16) (queue : Fin 8) (count : Nat) (errs : List (Nat × BeatErr)) (h : Shift) (v : State), s.headShift tile queue = some h → s.tileLive tile = true → ((h.kind = 3 ∧ errs.any (fun e => e.2 == .overrun) = true) ∨ (2 ≤ h.kind ∧ s.peerForeign tile queue h = true) → exec (.shiftComplete tile queue count errs) s = .next (s.tileFaultAt tile tfPeer h.pc 3)) ∧
      ((h.kind ≠ 3 ∨ errs.any (fun e => e.2 == .overrun) = false) → (h.kind < 2 ∨ s.peerForeign tile queue h = false) →
      (v = if 2 ≤ h.kind then State.movePeer count 0 errs s tile queue else if h.addr.testBit 47 then State.moveLines count 0 errs s tile queue else s) →
      (∀ g, v.headShift tile queue = some g → v.shiftOver tile queue g = true → exec (.shiftComplete tile queue count errs) s = .next (v.endShift tile queue g)) ∧
      (∀ g, v.headShift tile queue = some g → v.shiftOver tile queue g = false → exec (.shiftComplete tile queue count errs) s = .next v))) ∧
  (∀ (s : State) (err : Option BeatErr) (t q : Nat) (x : Shift) (u : State), s.adLive = true → s.isSet R.MC_TRAIN_DONE = true → (u = s.forN 16 fun n s => s.refill n) → u.grantee = some (t, q, x) → exec (.memoryGrant err) s = .next (((u.charge (u.tenantOf t) 1).dspSet fun d => { d with rr := d.rr.set (u.planClass (u.tenantOf t)) ((u.tenantOf t + 1) % 16) }).moveLine t q x err))

/-- Training, retraining and resetting the Sill link. 
1. LINK_TRAINING's four events: the release of SB_ADRST_N of a link in reset with the AD powered starts training, owes the firmware load
and gives the dispatcher 100 ms; SILCK and SPLL lock send TRN1 with the attempt; the peer's TRN1 sets the failed lanes and SIL_STATUS.LANES
and sends TRN2; the peer's TRN2 settles the lanes in use, where its step is in time, and else the attempt fails.
2. TRAINING_STEP_TIMEOUT fails the attempt when its step has run out; TRAINING_RETRY starts the next attempt.
3. LINK_UP in time, after INIT_FC from both ends, sets ACTIVE, raises SIL_UP (and SIL_DEGRADED for fewer lanes), sends, and loads the
firmware it owes.
4. FAST_RETRAIN that succeeds in time ends the retrain and replays the unacknowledged flits of both ends; after its limit it becomes full
training.
5. BLOCK_LOCK_LOST of a lane in use and SIL_CTL.RETRAIN start a fast retrain; FULLTRAIN and SILLRST start full training of a link out of
reset.
Rules: R152, R154, R160, R177, R178, R172. -/
def Obligations.SillTraining : Prop :=
  (∀ (s : State), (s.on Dom.sill = true → s.on Dom.adCtl = true → s.linkState = 0 → exec (.linkTraining .release) s = .next (((s.startTraining.silSet fun l => { l with loadOwed := true }).setFs [(R.ACG_STAT_LOCK, 1), (R.MC_TRAIN_STEP, 1)]).arm .ready (100 * msNs))) ∧
      (s.training = true → s.sil.step = 1 → exec (.linkTraining .clock) s = .next (if s.inTime 2 then (s.setF R.PMU_CLK_SPLL 1).trained 2 [.trn1 s.sil.attempts] else s.attemptFails)) ∧
      (∀ (l : List (Option (Nat × List Byte))), s.training = true → s.sil.step = 2 → s.inTime 3 = true → s.linkState = 1 → exec (.linkTraining (.trn1 l)) s = .next (
        let u := (s.silSet fun k => { k with failed := failedLanes l }).setF R.SIL_STATUS_LANES (if failedLanes l = 0 then 1 else 0)
        u.trained 3 [.trn2 (lanesCode u.chooseLanes) 128])) ∧
      (∀ (b : List Byte), s.training = true → s.sil.step = 3 → exec (.linkTraining (.trn2 b)) s = .next (if s.inTime 4 then s.trn2 b else s.attemptFails))) ∧
  (∀ (s : State) (step : Fin 5) (d : Nat), s.linkState = 1 → (s.deadline .trainStep = some d → s.sil.step < 2 + step.val → d + 10 * usNs * (step.val + 1) ≤ s.now + trainNs → exec (.trainingStepTimeout step) s = .next s.attemptFails) ∧
      (s.due .trainRetry = true → exec .trainingRetry s = .next ((((s.disarm .trainRetry).silSet fun l => { l with attempts := l.attempts + 1, step := 1 }).setF R.SIL_STATUS_LANES 0).arm .trainStep trainNs))) ∧
  (∀ (s : State), s.linkState = 1 → s.sil.step = 5 → s.armed .trainStep = true → s.due .trainStep = false → exec .linkUp s = .next (
      let lanes := s.getF R.SIL_STATUS_LANES
      let u := (s.disarm .trainStep).silSet fun l => { l with fastRow := 0, upAt := s.now, actNs := 0, idleAt := s.now, attempts := 0, step := 0 }
      let u := (u.setF R.SIL_STATUS_STATE 2).raiseInt Ev.SIL_UP R.SIL_INT_UP lanes
      let u := if lanes = 1 then u else u.raise Ev.SIL_DEGRADED lanes
      let u := (u.transmit false).transmit true
      if u.sil.loadOwed then u.loadFirmware else u)) ∧
  (∀ (s : State), s.sil.fast = true → s.armed .trainStep = true → (s.now ≤ (s.deadline .trainStep).getD 0 → s.sil.step = 5 → exec .fastRetrain s = .next (
      let u := (s.disarm .trainStep).silSet fun l => { l with fast := false, upAt := s.now, actNs := 0, step := 0 }
      let u := u.doIf (decide (u.sil.pmTarget ≠ 0) && !u.sil.cd.queued TT.pmEnter) fun v => (v.silSet fun l => { l with pmAcked := true }).disarm .pmAck
      let u := if u.getF R.SIL_STATUS_LANES ≠ 1 ∧ u.sil.failed ≠ 0 then u.raise Ev.SIL_DEGRADED (u.getF R.SIL_STATUS_LANES) else u
      ((((u.replayAll false).replayAll true).transmit false).transmit true).wantedSleep)) ∧
      ((s.deadline .trainStep).getD 0 < s.now → exec .fastRetrain s = .next s.fullTraining)) ∧
  (∀ (s : State) (headers : List (List Nat)), s.on Dom.sill = true → (s.getF R.SIL_STATUS_LANES = 1 → (List.range 8).any (lockLost headers) = true → exec (.blockLockLost headers) s = .next s.startFast) ∧
      (s.getF R.SIL_STATUS_LANES = 2 → [0, 1, 2, 3].any (lockLost headers) = true → exec (.blockLockLost headers) s = .next s.startFast) ∧
      (s.getF R.SIL_STATUS_LANES = 3 → [4, 5, 6, 7].any (lockLost headers) = true → exec (.blockLockLost headers) s = .next s.startFast) ∧
      exec .retrain s = .next (s.answer .ok).startFast ∧
      (s.linkState ≠ 0 → exec .fulltrain s = .next (s.answer .ok).startTraining ∧ exec .sillrst s = .next (s.answer .ok).startTraining))

/-- Flits, acknowledgement, replay and the messages of the AD to the CD. 
1. DATA_FLIT at either end: one that is good and expected is taken and assembled; an earlier one is acknowledged again, a later one or a
bad one draws a NAK; a null flit does nothing, and a bad one is counted alone; one of the reserved type is a violation.
2. LINK_CONTROL_FLIT at either end: a good one of KIND 0 takes the ACK and the credits, asks for the replay a NAK names, and sends; one of
KIND 1 gives the CD the AD's buffers; a bad one is counted.
3. ACK_TIMER acknowledges; REPLAY_TIMEOUT asks for the replay from the oldest unacknowledged flit.
4. NAK_MSG is taken by the AD and changes nothing else.
5. READY from a dispatcher whose load is done and whose memory is trained sets SIL_STATUS.READY and its flag; the first in time goes on as
State.firstReady says, one after the limit with no more, and a later one starts the clock changes or the loads that waited.
6. READY_TIMEOUT raises PMU_AD_NOREADY, lets a transition to WORK arrive without the AD, and fails its qualification.
7. CONFIG_ACK answers the firmware load, else the plan at step 7, else the clock-plan item awaited.
8. EVENT of the AD is logged, at most 64 a millisecond; more are counted and dropped.
Rules: R151, R156, R157, R155, R203, R610, R544, R163. -/
def Obligations.SillTraffic : Prop :=
  (∀ (s : State) (ad : Bool) (headers : List (List Nat)) (flit : List Byte) (f : Flit) (d : Nat), s.linkActive = true → (ad = true → s.sil.wireAd ≠ []) →
      f = { flitOf flit with good := (flitOf flit).good && headers.all fun h => rowKind h == .data } → d = (f.seq + 1024 - ((s.offWire ad).link ad).rxExp) % 1024 →
      (f.good = false → f.ft = 2 → exec (.dataFlit ad headers flit) s = .next (if ad then s.offWire ad else (s.offWire ad).crcError)) ∧
      (f.good = false → f.ft = 0 → exec (.dataFlit ad headers flit) s = .next ((if ad then s.offWire ad else (s.offWire ad).crcError).sendNak ad)) ∧
      (f.good = true → f.ft = 2 → exec (.dataFlit ad headers flit) s = .next (s.offWire ad)) ∧
      (f.good = true → f.ft = 3 → ad = false → exec (.dataFlit ad headers flit) s = .next ((s.offWire ad).silBadMsg 4 (byteAt f.pay 0) f.seq)) ∧
      (f.good = true → f.ft = 0 → d = 0 → ad = false → exec (.dataFlit ad headers flit) s = .next (((s.offWire ad).takeSeq ad).assemble f)) ∧
      (f.good = true → f.ft = 0 → d = 0 → ad = true → exec (.dataFlit ad headers flit) s = .next (((s.offWire ad).takeSeq ad).adAssemble f)) ∧
      (f.good = true → f.ft = 0 → d ≠ 0 → d ≤ 511 → exec (.dataFlit ad headers flit) s = .next ((s.offWire ad).sendNak ad)) ∧
      (f.good = true → f.ft = 0 → 511 < d → exec (.dataFlit ad headers flit) s = .next ((s.offWire ad).sendAck ad))) ∧
  (∀ (s : State) (ad : Bool) (flit : List Byte), s.linkActive = true → (ad = true → s.sil.wireAd ≠ []) →
      ((flitOf flit).good = false → exec (.linkControlFlit ad flit) s = .next (if ad then s.offWire ad else (s.offWire ad).crcError)) ∧
      ((flitOf flit).good = true → (flitOf flit).ft = 1 → byteAt (flitOf flit).pay 12 = 0 → exec (.linkControlFlit ad flit) s = .next (
        let p := (flitOf flit).pay
        let nak := fieldAt p 2 2
        let u := (s.offWire ad).applyAck ad (fieldAt p 0 2)
        let u := u.forN 4 fun v s => s.applyCred ad v (((List.range 4).map fun v => fieldAt p (4 + 2 * v) 2).getD v 0)
        (u.doIf (nak.testBit 15) fun s => s.askReplay ad (nak % 1024)).transmit ad)) ∧
      ((flitOf flit).good = true → (flitOf flit).ft = 1 → byteAt (flitOf flit).pay 12 = 1 → ad = false → exec (.linkControlFlit ad flit) s = .next (
        (s.offWire ad).initFc ((List.range 4).map fun v => fieldAt (flitOf flit).pay (4 + 2 * v) 2)))) ∧
  (∀ (s : State) (ad : Bool), s.linkActive = true → (s.due (.ackTimer ad) = true → exec (.ackTimer ad) s = .next (s.sendAck ad)) ∧
      (∀ q m l, (s.link ad).replay = (q, m) :: l → s.due (.replay ad) = true → exec (.replayTimeout ad) s = .next (s.askReplay ad q))) ∧
  (∀ (s : State) (m : Msg) (u : State), (s.takeAd TT.nakMsg (fun _ => true) = some (m, u)) → exec .nakMsg s = .next (u)) ∧
  (∀ (s : State) (q : Nat) (u v : State), s.isSet R.SYS_ADLOAD_DONE = true → s.isSet R.MC_TRAIN_DONE = true → s.takeCd (mgmt TT.ready 0 []) = some (q, u) → u.isSet R.SIL_STATUS_READY = false →
      v = ((u.setF R.SIL_STATUS_READY 1).flag R.SIL_INT_READY).silSet (fun l => { l with readyAt := some u.now }) →
      (∀ d, v.deadline .ready = some d → exec .ready s = .next (if d < v.now then v else v.firstReady)) ∧
      (v.deadline .ready = none → v.cil.apply = none → exec .ready s = .next v.startChange) ∧
      (∀ a, v.deadline .ready = none → v.cil.apply = some a → exec .ready s = .next (if a.step = 6 ∧ v.adPart a ∧ v.loadsDone then v.startLoads a else v.startChange))) ∧
  (∀ (s : State) (d : Nat) (u : State), s.deadline .ready = some d → d < s.now → u = (s.disarm .ready).raiseInt Ev.PMU_AD_NOREADY R.PMU_INT_NOREADY →
      (u.pmu.trans = none → exec .readyTimeout s = .next u.qualFail) ∧
      (∀ t, u.pmu.trans = some t → exec .readyTimeout s = .next ((if t.kind = 2 then (((u.reach 2).updFollow).arm .avs (100 * msNs)).workSince else u).qualFail))) ∧
  (∀ (s : State) (tag : Fin 65536) (status reason : Fin 256) (q : Nat) (u : State), s.takeCd (mgmt TT.configAck tag (leBytes 1 status.val ++ leBytes 1 reason.val ++ leBytes 6 0)) = some (q, u) → (tag.val = 0xFFFF → u.isSet R.SYS_ADLOAD_DONE = false → exec (.configAck tag status reason) s = .next (u.setF R.SYS_ADLOAD_DONE 1)) ∧
      (∀ a, tag.val = 0xFFFF → u.isSet R.SYS_ADLOAD_DONE = true → u.cil.apply = some a → a.step = 7 → a.acked = none → u.adPart a = true →
      exec (.configAck tag status reason) s = .next (u.planAnswered a status reason)) ∧
      (tag.val = 0xFFFF → u.isSet R.SYS_ADLOAD_DONE = true → u.cil.apply = none → exec (.configAck tag status reason) s = .next (u.silBadMsg 7 TT.configAck q)) ∧
      (∀ d, tag.val ≠ 0xFFFF → u.pmu.dvfs = some d → d.phase = 1 → d.tag = tag.val → exec (.configAck tag status reason) s = .next (if status.val = 0 then u.itemDone d else u.itemFails)) ∧
      (tag.val ≠ 0xFFFF → u.pmu.dvfs = none → exec (.configAck tag status reason) s = .next (u.silBadMsg 7 TT.configAck q))) ∧
  (∀ (s : State) (body : List Byte) (q : Nat) (u : State), s.takeCd (mgmt TT.event 0 (padTo 32 body)) = some (q, u) → exec ((.event body)) s = .next ((let l := u.window msNs u.sil.evAt
      let v := u.silSet fun k => { k with evAt := l }
      if 64 < l.length then (v.satInc R.SIL_ERR_EVDROP).raise Ev.SIL_AD_EVT_DROP else v.adEvent (padTo 32 body))))

/-- Entering DOZE and SLEEP and leaving them. 
1. DOZE_IDLE_TIMEOUT starts the entry into DOZE of a link that may enter, holds nothing unacknowledged at either end and has been idle for DOZE_IDLE_US.
2. PM_ENTER is answered by the live AD; PM_ACK lets the entry go on; PM_ACK_TIMEOUT does so too, as a violation.
3. ELECTRICAL_IDLE of an acknowledged entry with nothing unacknowledged rests the link in DOZE or SLEEP, and resumes at once for a
wake or a message that waits.
4. SLEEP_REQ of a link that may enter starts the entry into SLEEP, turns an entry into DOZE into one, takes a resting DOZE to SLEEP, as
SLEEP_AFTER_TIMEOUT does, and else waits.
5. RESUME (SIL_PM) starts a resume by the CD; SB_WAKE high notes the AD's wake and arms its limit on an ACTIVE
link, and low ends it.
6. RESUME_COMPLETE makes the link ACTIVE and sends RESUME_ACK first, saying whether the AD's wake was the cause or was absorbed.
7. RESUME_ACK lets the AD send what it held, and release SB_WAKE, and what the link still owed (SLEEP) begins; SB_WAKE_HELD past its limit is a violation.
8. DEBUG_ENABLE with the key open enables debug and drops trust to DISTRUSTED, and with EN cleared the AD is
reset; DEBUG is sent as a VC0 message while debug is enabled, and one taken by the live AD acts on its debug module; DEBUG_RSP reaches
the core that waits.
Rules: R168, R169, R170, R173. -/
def Obligations.SillPowerStates : Prop :=
  (∀ (s : State), s.mayEnter = true → s.sil.cd.replay = [] → s.sil.ad.replay = [] → s.sil.cd.txq = [] → s.sil.idleAt + s.getF R.SIL_PM_DOZE_IDLE_US * usNs ≤ s.now → exec .dozeIdleTimeout s = .next (s.startEntry 1)) ∧
  (∀ (s : State) (m : Msg) (q : Nat) (u : State) (target : Fin 256), s.linkActive = true → (s.takeAd TT.pmEnter (fun _ => true) = some (m, u) → u.adLive = true → exec .pmEnter s = .next (
        let a := mgmt TT.pmAck 0 (leBytes 8 (byteAt m.body 0))
        let begun := fun (q : Msg × Nat) => q.2 != q.1.flits
        ((u.setLink true fun e => { e with txq := e.txq.filter begun ++ (a, a.flits) :: e.txq.filter (fun q => !begun q) }).silSet fun l =>
          { l with adQuiet := true }).transmit true)) ∧
      (s.takeCd (mgmt TT.pmAck 0 (leBytes 8 target.val)) = some (q, u) → u.sil.pmTarget ≠ 0 → u.sil.pmAcked = false → exec (.pmAck target) s = .next ((u.silSet fun l => { l with pmAcked := true }).disarm .pmAck)) ∧
      (s.sil.pmTarget ≠ 0 → s.due .pmAck = true → exec .pmAckTimeout s = .next (((s.silSet fun l => { l with pmAcked := true, pmSpoilt := true }).disarm .pmAck).silViol 9 TT.pmAck))) ∧
  (∀ (s : State), s.linkActive = true → s.sil.pmTarget ≠ 0 → s.sil.pmAcked = true → s.sil.cd.replay = [] → s.sil.ad.replay = [] → exec .electricalIdle s = .next ((let sleep := decide (s.sil.pmTarget = 2)
      let u := ((s.endGroup false).endGroup true).silSet fun l =>
        { l with pmTarget := 0, pmAcked := false, rows := [.eidle], wireAd := [], wireCd := [], restAt := s.now,
                 actNs := l.actNs + (s.now - l.upAt), adQuiet := true }
      let u := u.rest (if sleep then 4 else 3)
      let u := u.doIf (!u.sil.ad.txq.isEmpty) fun v => v.dspSet fun d => { d with wake := true }
      if u.sil.wakeAt.isSome then u.startResume true
      else if u.sil.cd.txq.isEmpty then u else u.startResume false))) ∧
  (∀ (s : State), (s.on Dom.sill = true → ((s.answer .ok).mayEnter = true → exec .sleepReq s = .next ((s.answer .ok).startEntry 2)) ∧
      ((s.answer .ok).mayEnter = false → s.linkActive = true → s.sil.pmTarget = 1 → exec .sleepReq s = .next ((s.answer .ok).silSet fun l => { l with pmTarget := 2 })) ∧
      ((s.answer .ok).mayEnter = false → s.linkState = 3 → s.sil.resumeAt = none → exec .sleepReq s = .next ((s.answer .ok).rest 4)) ∧
      ((s.answer .ok).mayEnter = false → s.linkState = 3 → s.sil.resumeAt ≠ none → exec .sleepReq s = .next ((s.answer .ok).silSet fun l => { l with sleepWant := true })) ∧
      ((s.answer .ok).mayEnter = false → s.linkState = 2 → s.sil.pmTarget ≠ 1 → exec .sleepReq s = .next ((s.answer .ok).silSet fun l => { l with sleepWant := true }))) ∧
      (s.linkState = 3 → s.sil.resumeAt = none → s.getF R.SIL_PM_SLEEP_AFTER_US ≠ 0 → s.sil.restAt + s.getF R.SIL_PM_SLEEP_AFTER_US * usNs ≤ s.now → exec .sleepAfterTimeout s = .next (s.rest 4))) ∧
  (∀ (s : State), s.on Dom.sill = true → 2 ≤ s.linkState → s.linkState ≠ 5 → exec .silResume s = .next ((s.answer .ok).startResume false) ∧ exec (.sbWake true) s = .next (let u := s.doIf s.sil.wakeAt.isNone fun s => s.silSet fun l => { l with wakeAt := some s.now }
      if u.linkActive ∧ u.sil.pmTarget = 0 ∧ u.armed .wakeHeld = false then u.arm .wakeHeld usNs else u) ∧
      exec (.sbWake false) s = .next ((s.silSet fun l => { l with wakeAt := none }).disarm .wakeHeld)) ∧
  (∀ (s : State), s.linkState = 3 ∨ (s.linkState = 4 ∧ s.sil.step = 5) → s.sil.resumeAt.isSome = true ∨ (s.sil.cause || s.sil.woken (s.sil.resumeAt.getD s.now)) = true → exec .resumeComplete s = .next ((let t := s.sil.resumeAt.getD s.now
      let byWake := s.sil.cause || s.sil.woken t
      let absorbed := !byWake && s.sil.wakeAt.isSome
      let m := mgmt TT.resumeAck 0 (leBytes 8 ((if byWake then 1 else 0) + (if absorbed then 2 else 0)))
      let u := (s.silSet fun l => { l with resumeAt := none, cause := false, awaitAck := true, pmSpoilt := false, idleAt := s.now, upAt := s.now, step := 0, rows := [.sync, .sync, .sync, .sync] }).setLink false fun e => { e with txq := (m, m.flits) :: e.txq }
      let u := u.setF R.SIL_STATUS_STATE 2
      let u := if absorbed then u.raise Ev.SIL_WAKE_ABSORBED else u.raise Ev.SIL_PM 2
      let u := u.doIf u.sil.wakeAt.isSome fun s => s.arm .wakeHeld (10 * usNs)
      if s.sil.pmSpoilt then u.startFast else (((u.sendAck false).sendAck true).transmit false).transmit true))) ∧
  (∀ (s : State) (m : Msg) (u : State) (release : Bool), (s.takeAd TT.resumeAck (fun _ => true) = some (m, u) → exec (.resumeAck release) s = .next (let v := u.silSet fun l => { l with awaitAck := false, adQuiet := false, wakeAt := if release then none else l.wakeAt }
      let v := (v.dspSet fun d => { d with wake := !release }).transmit true
      (if release then v.disarm .wakeHeld else v).wantedSleep)) ∧
      (s.linkState = 2 → s.due .wakeHeld = true → exec .sbWakeHeld s = .next (((s.disarm .wakeHeld).silSet fun l => { l with wakeAt := none }).silViol 0xA 0))) ∧
  (∀ (s : State) (req : Option (Bool × Word × Word)) (m : Msg) (q : Nat) (u : State) (status : Fin 256) (data : Word),
      (s.on Dom.sill = true → s.keyOpen 8 = true → s.isSet R.SIL_DBG_EN = false → exec (.debugEnable true) s = .next ((((((s.answer .ok).setF R.SIL_DBG_EN 1).raise Ev.SIL_DEBUG).setTrust 0 |>.setF R.ASY_TRUST_QUAL 5).asySet fun a => { a with qual := none, qualBad := false }).disarm .qualRecord)) ∧
      (s.on Dom.sill = true → s.keyOpen 8 = true → s.isSet R.SIL_DBG_EN = true → exec (.debugEnable false) s = .next (let v := (s.answer .ok).setF R.SIL_DBG_EN 0
        if v.on Dom.adCtl then (v.adReset 6).setF R.ASY_TRUST_QUAL 1 else v.setF R.ASY_TRUST_QUAL 0)) ∧
      (∀ write addr data, req = some (write, addr, data) → s.isSet R.SIL_DBG_EN = true → s.on Dom.sill = true →
        (s.sendAd (mgmt TT.debug 0 (leBytes 1 (if write then 1 else 0) ++ leBytes 3 0 ++ leBytes 4 addr.toNat ++ leBytes 4 data.toNat))).takeAd TT.debug (fun _ => true) = none →
        exec (.debug req) s = .next (s.sendAd (mgmt TT.debug 0 (leBytes 1 (if write then 1 else 0) ++ leBytes 3 0 ++ leBytes 4 addr.toNat ++ leBytes 4 data.toNat)))) ∧
      (s.takeAd TT.debug (fun _ => true) = some (m, u) → u.adLive = true → exec (.debug none) s = .next (u.debugModule (byteAt m.body 0 == 1) (fieldAt m.body 4 4) (fieldAt m.body 8 4))) ∧
      (s.takeCd ⟨0, TT.debugRsp, noTenant, 0, 0, leBytes 1 status.val ++ leBytes 3 0 ++ leBytes 4 data.toNat⟩ = some (q, u) → exec (.debugRsp status data) s = .next (u.answer (.data data))))

/-- Frames in reception, Flint and the cameras. 
1. FRAME_START on an enabled camera ends a frame still open and opens the new one; a packet no camera takes is counted as dropped; one
with a bad header marks the frame of its channel.
2. LINE_PACKET of the open frame's type is checked against its CRC and length and forwarded, with room made in the port's buffer first;
one of another type marks the frame, line start and end change nothing, and one no camera or frame takes is counted as dropped.
3. FRAME_END closes the open frame, as OK when every line came and else as short; outside a frame it is counted as dropped.
4. FRAME_TIMEOUT closes the frame with TIMEOUT; CAMERA_SILENCE of SILENCE_MS without a frame makes the camera unhealthy.
5. FLINT_COPY hands the finished copy to Flint's queue of two; a third drops the oldest.
6. PHY_ERROR is counted and marks the open frames of its port.
7. CAMERA_CONFIG_WRITE with the key open of a configuration that R113 admits writes it; disabling a camera closes its frame,
enabling one begins its silence.
8. FLINT_SCORE of the oldest copy takes it, counts an ECC outcome, keeps its scores and puts presence at the zones at or above the threshold, unless
Flint is faulted.
9. FLINT_SELF_TEST once a second shows its outcome and clears or sets the fault; FLINT_OVERRUN drops a copy that has waited 20 ms
and faults Flint.
Rules: R113, R120, R121, R124, R129, R131, R141, R143, R292, R293. -/
def Obligations.FlintAndIngress : Prop :=
  (∀ (s : State) (rx : Fin 2) (vc : Fin 16) (lanes : LaneNote) (hdr : HdrEcc) (u : State), s.rxOn rx = true → u = s.rxLanes rx lanes →
      (hdr = .bad → exec (.frameStart rx vc lanes hdr) s = .next (u.hdrBad rx vc)) ∧
      (hdr ≠ .bad → u.frameOn rx vc = none → u.camOn rx vc = none → exec (.frameStart rx vc lanes hdr) s = .next (u.dropPacket rx vc)) ∧
      (∀ c, hdr ≠ .bad → u.frameOn rx vc = none → u.camOn rx vc = some c → exec (.frameStart rx vc lanes hdr) s = .next (
        let v := u.hdrCount c hdr
        (v.closeFrame c (if v.due (.fto c) then 5 else 4) false).openFrame c rx vc)) ∧
      (∀ e c v, hdr ≠ .bad → u.frameOn rx vc = some e → v = u.closeFrame e (if u.due (.fto e) then 5 else 4) false → v.camOn rx vc = some c →
        exec (.frameStart rx vc lanes hdr) s = .next (
        let w := v.hdrCount c hdr
        (w.closeFrame c (if w.due (.fto c) then 5 else 4) false).openFrame c rx vc)) ∧
      (∀ e v, hdr ≠ .bad → u.frameOn rx vc = some e → v = u.closeFrame e (if u.due (.fto e) then 5 else 4) false → v.camOn rx vc = none →
        exec (.frameStart rx vc lanes hdr) s = .next (v.dropPacket rx vc))) ∧
  (∀ (s : State) (rx : Fin 2) (vc : Fin 16) (lanes : LaneNote) (hdr : HdrEcc) (dtype : Nat) (payload : List Byte) (crcOk : Bool) (u : State), s.rxOn rx = true → u = s.rxLanes rx lanes →
      (hdr = .bad → exec (.linePacket rx vc lanes hdr dtype payload crcOk) s = .next (u.hdrBad rx vc)) ∧
      (hdr ≠ .bad → (u.frameOn rx vc).or (u.camOn rx vc) = none → exec (.linePacket rx vc lanes hdr dtype payload crcOk) s = .next (u.dropPacket rx vc)) ∧
      (∀ c, hdr ≠ .bad → (u.frameOn rx vc).or (u.camOn rx vc) = some c →
        (dtype = 2 ∨ dtype = 3 → exec (.linePacket rx vc lanes hdr dtype payload crcOk) s = .next (u.hdrCount c hdr)) ∧
        (dtype ≠ 2 → dtype ≠ 3 → dtype < 0x18 → exec (.linePacket rx vc lanes hdr dtype payload crcOk) s = .next ((u.hdrCount c hdr).dropPacket rx vc)) ∧
        (0x18 ≤ dtype → (u.hdrCount c hdr).frameAt rx vc = none → exec (.linePacket rx vc lanes hdr dtype payload crcOk) s = .next ((u.hdrCount c hdr).dropPacket rx vc)) ∧
        (∀ e f, 0x18 ≤ dtype → (u.hdrCount c hdr).frameAt rx vc = some (e, f) →
          (dtype ≠ dtCode f.dtype → f.trailed = false → exec (.linePacket rx vc lanes hdr dtype payload crcOk) s = .next ((u.hdrCount c hdr).setFrame e (f.mark 6))) ∧
          (dtype = dtCode f.dtype → f.lines < 4096 → exec (.linePacket rx vc lanes hdr dtype payload crcOk) s = .next (
            let p := payload.take (lineBytes f.dtype f.width)
            let g := if crcOk then f else f.mark 2
            let g := if payload.length = lineBytes f.dtype f.width then g else g.mark 3
            let v := ((u.hdrCount c hdr).setFrame e g).makeRoom f.rx g p.length
            match (v.ingCam e).frame with
            | some f => v.forwardLine e f p
            | none => v))))) ∧
  (∀ (s : State) (rx : Fin 2) (vc : Fin 16) (lanes : LaneNote) (hdr : HdrEcc) (u : State), s.rxOn rx = true → u = s.rxLanes rx lanes →
      (hdr = .bad → exec (.frameEnd rx vc lanes hdr) s = .next (u.hdrBad rx vc)) ∧
      (∀ c f, hdr ≠ .bad → u.frameAt rx vc = some (c, f) → exec (.frameEnd rx vc lanes hdr) s = .next ((u.hdrCount c hdr).closeFrame c (if f.lines = f.height then 0 else 3) true)) ∧
      (∀ c, hdr ≠ .bad → u.frameAt rx vc = none → u.camOn rx vc = some c → exec (.frameEnd rx vc lanes hdr) s = .next ((u.hdrCount c hdr).dropPacket rx vc)) ∧
      (hdr ≠ .bad → u.frameAt rx vc = none → u.camOn rx vc = none → exec (.frameEnd rx vc lanes hdr) s = .next (u.dropPacket rx vc))) ∧
  (∀ (s : State) (cam : Fin 4) (t : Nat), (s.due (.fto cam) = true → exec (.frameTimeout cam) s = .next (s.closeFrame cam 5 false)) ∧
      ((s.ingCam cam).quietAt = some t → t + s.getF (R.ING_CAM_SIL_SILENCE_MS cam) * msNs ≤ s.now → exec (.cameraSilence cam) s = .next (((s.setCam cam fun k => { k with quietAt := none }).raise Ev.ING_CAM_SILENT cam).camUnhealthy cam))) ∧
  (∀ (s : State) (cam : Fin 4) (k : FlintCopy), (s.ingCam cam).done = some k → exec ((.flintCopy cam)) s = .next ((let c := cam.val
      let u := (s.setCam c fun q => { q with done := none }).wrapInc (R.ING_CAM_COPY_COPIED c)
      let q := u.flt.queue.getD c []
      let past := decide (2 ≤ q.length)
      let v := { u with flt := { u.flt with queue := u.flt.queue.set c ((if past then q.drop 1 else q) ++ [{ k with at_ := u.now }]) } }
      v.doIf past fun s => (s.satInc (R.ING_CAM_COPY_DROPPED c)).raiseInt Ev.ING_COPY_DROP R.ING_INT_COPYDROP c))) ∧
  (∀ (s : State) (rx : Fin 2), s.rxOn rx = true → exec ((.phyError rx)) s = .next (((s.satInc (R.ING_RXST_SOT_ERR rx)).raiseInt Ev.ING_PHY_ERR R.ING_INT_PHY rx).forN 4 fun c s =>
      (match (s.ingCam c).frame with
      | some f => if f.rx = rx.val ∧ f.trailed = false then s.setFrame c (f.mark 9) else s
      | none => s))) ∧
  (∀ (s : State) (cam : Fin 4) (data : Word), s.on Dom.ingress = true → s.keyOpen 7 = true → (s.camCfgOk cam (s.getF (R.ING_CAM_CFG_EN cam)) (s.getF (R.ING_CAM_CFG_PORT cam)) (s.getF (R.ING_CAM_CFG_VC cam)) (s.getF (R.ING_CAM_CFG_DTYPE cam)) (data.toNat % 8192) (data.toNat / 65536 % 8192) = true →
      exec (.cameraConfigWrite cam true data) s = .next (((s.answer .ok).setF (R.ING_CAM_GEOM_WIDTH cam) (data.toNat % 8192)).setF (R.ING_CAM_GEOM_HEIGHT cam) (data.toNat / 65536 % 8192))) ∧
      (s.camCfgOk cam (data.toNat % 2) (data.toNat / 2 % 2) (data.toNat / 4 % 4) (data.toNat / 16 % 4) (s.getF (R.ING_CAM_GEOM_WIDTH cam)) (s.getF (R.ING_CAM_GEOM_HEIGHT cam)) = true →
      exec (.cameraConfigWrite cam false data) s = .next (let d := data.toNat
      let was := s.isSet (R.ING_CAM_CFG_EN cam)
      let u := if was ∧ d % 2 = 0 then ((s.answer .ok).closeFrame cam 10 false).setCam cam fun k => { k with quietAt := none }
      else if was = false ∧ d % 2 = 1 then (s.answer .ok).setCam cam fun k => { k with quietAt := some (s.answer .ok).now } else (s.answer .ok)
      u.setFs [(R.ING_CAM_CFG_EN cam, d % 2), (R.ING_CAM_CFG_PORT cam, d / 2 % 2), (R.ING_CAM_CFG_VC cam, d / 4 % 4), (R.ING_CAM_CFG_DTYPE cam, d / 16 % 4)]))) ∧
  (∀ (s : State) (cam : Fin 4) (scores : Nat) (ecc : Fin 3) (k : FlintCopy), (s.flt.queue.getD cam []).head? = some k → s.on Dom.flint = true → s.flt.modelOk = true → exec ((.flintScore cam scores ecc)) s = .next ((let c := cam.val
      let u := ((s.dropCopy c).wrapInc (R.FLT_RUN_COPIES c)).flintSram ecc
      if u.isSet R.FLT_STAT_FAULTED then u
      else (let l := u.masked c scores
      let v := (u.showScores c k l).keepScores ⟨c, k.ctr, k.fs, l⟩
      v.forN 48 fun z s => if v.getF R.FLT_CFG_THRESH ≤ l.getD z 0 ∧ l.getD z noScore < noScore then s.presence c z else s)))) ∧
  (∀ (s : State) (ok : Bool) (cam : Fin 4) (k : FlintCopy), s.on Dom.flint = true → (s.flt.modelOk = true → s.dueOrNew .flintTest = true → exec (.flintSelfTest ok) s = .next (let u := s.rearm .flintTest secNs
      if ok then u.setFs [(R.FLT_STAT_KAT_OK, 1), (R.FLT_STAT_FAULTED, 0)]
      else (((u.setF R.FLT_STAT_KAT_OK 0).satInc R.FLT_STAT_KAT_FAILS).raiseInt Ev.FLT_KAT_FAIL R.FLT_INT_KATFAIL).flintFault)) ∧
      ((s.flt.queue.getD cam []).head? = some k → k.at_ + 20 * msNs ≤ s.now → exec (.flintOverrun cam) s = .next ((((s.dropCopy cam).satInc R.FLT_CNT_OVERRUN).raiseInt Ev.FLT_OVERRUN R.FLT_INT_OVERRUN cam).flintFault)))

/-- The light drive: darkness, channels and their protection. 
1. LUX_DARK write notes LUXIN and SCHED with their time-outs, and the sensor's darkness follows with its hold.
2. LUXIN_TIMEOUT takes the sensor as dark; SCHED_TIMEOUT notes the lost schedule; LIGHT_HOLD_EXPIRY ends the sensor's darkness.
3. CONTROL_CYCLE every 2 µs judges the channels, moves the output level towards the target within its ramps, and applies the
levels.
4. OC_TRIP ends the channel's cycle, the 64th in a row faults it; SC_TRIP faults it at once with its phase,
and one in the cycle of the 64th makes that fault a short.
5. HICCUP_RETRY starts the channel again and notes the retry of the last second.
6. VGD_UNDERVOLTAGE switches running channels off and VGD_RECOVERY lets them run again; LUX_COPY trips the outputs.
7. SFL1_TIMEOUT in darkness with no channel running raises LUX_SFL1 and trips.
Rules: R331, R334, R336, R337, R338, R340, R341, R343. -/
def Obligations.LightDrive : Prop :=
  (∀ (s : State) (luxin : Nat) (sched : Bool), s.on Dom.drive = true → exec ((.luxDarkWrite luxin sched)) s = .next ((let v := luxin % 65536
      let lim := s.getF R.LUX_CFG1_DARK_LUX
      let u := (s.answer .ok).setFs [(R.LUX_DARK_LUXIN, v), (R.LUX_DARK_LUXIN_TO, 0), (R.LUX_DARK_SCHED, if sched then 1 else 0), (R.LUX_DARK_SCHED_TO, 0)]
      let u := (u.arm .luxin (2 * secNs)).arm .sched (60 * secNs)
      State.luxDarkRefresh (if v < lim then { (u.disarm .lightHold) with lux := { u.lux with sensorDark := true } }
      else if v < 2 * lim then u.disarm .lightHold
      else if u.lux.sensorDark ∧ u.armed .lightHold = false then u.arm .lightHold (60 * secNs) else u)))) ∧
  (∀ (s : State), (s.due .luxin = true → exec .luxinTimeout s = .next (let u := (((s.disarm .luxin).disarm .lightHold).setF R.LUX_DARK_LUXIN_TO 1).raise Ev.LUX_DARK_TO
      State.luxDarkRefresh { u with lux := { u.lux with sensorDark := true } })) ∧
      (s.due .sched = true → exec .schedTimeout s = .next ((((s.disarm .sched).setF R.LUX_DARK_SCHED_TO 1).raise Ev.LUX_DARK_TO).luxDarkRefresh)) ∧
      (s.due .lightHold = true → exec .lightHoldExpiry s = .next (let u := s.disarm .lightHold
      State.luxDarkRefresh { u with lux := { u.lux with sensorDark := false } }))) ∧
  (∀ (s : State) (v0 v1 i0 i1 : Nat), s.on Dom.drive = true → s.dueOrNew (.control 0) = true → exec ((.controlCycle v0 v1 i0 i1)) s = .next ((let u := (s.rearm (.control 0) (2 * usNs)).judgeChannels v0 v1 i0 i1
      let up := perCycle (u.getF R.LUX_CFG1_RAMP_UP)
      let dn := perCycle (u.getF R.LUX_CFG0_DIM_RATE)
      let u := (u.refreshZones (u.getF R.LUX_LEVEL_TARGET)).luxShow
      let u := { u with lux := { u.lux with o := limit u.lux.o (u.luxTarget * 2 ^ 24) up dn } }
      ((u.setF R.LUX_LEVEL_OUT (u.lux.o / 2 ^ 24)).applyLevels up dn).sfl1Refresh))) ∧
  (∀ (s : State) (ch : Fin 2) (ramp : Bool), s.on Dom.drive = true → (s.chState ch = 1 → (s.luxCh ch).ocThis = false → exec (.ocTrip ch) s = .next (let u := s.setCh ch fun h => { h with ocThis := true, ocRun := h.ocRun + 1 }
      if 64 ≤ (u.luxCh ch).ocRun then (((u.raiseInt Ev.LUX_OC R.LUX_INT_OC ch).chFault ch 3).setCh ch fun h => { h with ocNew := true }).sfl1Refresh else u)) ∧
      (s.chState ch = 1 → exec (.scTrip ch ramp) s = .next ((((s.setF (R.LUX_ST_PHASE ch) (if ramp then 1 else 2)).raiseInt Ev.LUX_SC R.LUX_INT_SC ch (if ramp then 1 else 2)).chFault ch 2).sfl1Refresh)) ∧
      (s.chState ch ≠ 1 → (s.luxCh ch).ocNew = true → exec (.scTrip ch ramp) s = .next (
        let u := ((s.setF (R.LUX_ST_PHASE ch) (if ramp then 1 else 2)).raiseInt Ev.LUX_SC R.LUX_INT_SC ch (if ramp then 1 else 2)).setCh ch fun h => { h with ocNew := false }
        if u.chState ch = 5 then u.setF (R.LUX_ST_CAUSE ch) 1 else u.setF (R.LUX_ST_STATE ch) 2))) ∧
  (∀ (s : State) (ch : Fin 2), s.due (.hiccup ch) = true → exec ((.hiccupRetry ch)) s = .next ((let c := ch.val
      let u := (s.disarm (.hiccup c)).setCh c fun h => { h with retryAt := s.window secNs h.retryAt }
      (u.setF (R.LUX_ST_STATE c) (if u.lux.vgdLow then 4 else 1)).sfl1Refresh))) ∧
  (∀ (s : State), s.on Dom.drive = true → exec .vgdUndervoltage s = .next (let u := { s with lux := { s.lux with vgdLow := true } }.raise Ev.LUX_VGD_UV
      (u.forN 2 fun c s => if s.chState c = 1 then s.setFs [(R.LUX_ST_STATE c, 4), (R.LUX_ST_LEVEL c, 0)] else s).sfl1Refresh) ∧
      exec .vgdRecovery s = .next (let u : State := { s with lux := { s.lux with vgdLow := false } }
      (u.forN 2 fun c s => if s.chState c = 4 then s.setF (R.LUX_ST_STATE c) 1 else s).sfl1Refresh) ∧
      exec .luxCopy s = .next ((s.raise Ev.LUX_COPY).assertTrip Src.luxCopy false)) ∧
  (∀ (s : State), s.on Dom.drive = true → s.due .sfl1 = true → s.isDark = true → s.someRun = false → s.bitF R.SIO_TRIPNOW_ACTIVE Src.luxSfl1 = false → exec .sfl1Timeout s = .next ((s.raiseInt Ev.LUX_SFL1 R.LUX_INT_SFL1).assertTrip Src.luxSfl1 true))

/-- The tilt drive: homing, targets, the encoder and its monitors. 
1. HOME from STO or HOLD, where torque may be released, begins homing: it clears HOMED and takes the direction that the safety
inputs leave.
2. STOP ends a move in HOLD and homing in STO.
3. TARGET within the limits in HOLD or MOVE is stored and starts a move, unless the count is already there.
4. ENCODER_EDGE counts; while the tilt is watched it stops on the limits' violation and on a missing index pulse, homing
ends at its mark, and a move ends at
its target.
5. ENC_INDEX in step 2 of homing takes the first and then the second index pulse; outside homing a homed axis off its pulse is a
violation, and one near it ends the wait for that pulse.
6. HOMING_TIMEOUT fails the homing; SLS_WINDOW every 10 ms measures the speed and stops one past its limit.
7. POT_SAMPLE every millisecond notes the code and its prediction; 20 ms apart by more than POT_TOL is a violation.
8. BRIDGE_OVERCURRENT stops the drive with CAUSE 9 and the axis no longer homed; the third within 10 s trips.
Rules: R345, R346, R347, R368, R370. -/
def Obligations.TiltDrive : Prop :=
  (∀ (s : State), s.on Dom.drive = true → s.getF R.TLT_STATE_STATE = 0 ∨ s.getF R.TLT_STATE_STATE = 2 → State.stoFree ((s.answer .ok).setF R.TLT_STATE_STATE 1) = true → exec .home s = .next ((let u := ((s.answer .ok).doIf (decide (s.getF R.TLT_STATE_STATE = 0)) fun s => s.raise Ev.TLT_STO).setF R.TLT_STATE_STATE 1
      let u := u.setF R.TLT_STATE_HOMED 0
      let u := { u with tlt := { u.tlt with began := u.tltCount, potOffAt := none } }.homeStep 1
      if u.roleDemand 2 ∧ u.roleDemand 3 then u.tltViolation Ev.TLT_SLP
      else if u.roleDemand 3 then u.homeLower else u))) ∧
  (∀ (s : State), s.on Dom.drive = true → (s.getF R.TLT_STATE_STATE = 3 → exec .tiltStop s = .next ((s.answer .ok).setF R.TLT_STATE_STATE 2)) ∧
      (s.getF R.TLT_STATE_STATE = 1 → exec .tiltStop s = .next ((s.answer .ok).enterSto))) ∧
  (∀ (s : State) (count : Word), s.on Dom.drive = true → s.getF R.TLT_STATE_STATE = 2 ∨ s.getF R.TLT_STATE_STATE = 3 → s.signedF R.TLT_SLPLO_COUNT ≤ count.toInt → count.toInt ≤ s.signedF R.TLT_SLPHI_COUNT → exec ((.tltTarget count)) s = .next ((let u := (s.answer .ok).setF R.TLT_TARGET_COUNT count.toNat
      if count.toInt = u.tltCount then u.setF R.TLT_STATE_STATE 2
      else { (u.setF R.TLT_STATE_STATE 3) with tlt := { u.tlt with began := u.tltCount } }))) ∧
  (∀ (s : State) (up : Bool), s.on Dom.drive = true → exec ((.encoderEdge up)) s = .next ((let u := s.setSigned R.TLT_POS_COUNT (s.tltCount + (if up then 1 else -1))
      if u.tltWatches = false then u
      else if u.sdiBroken then u.tltViolation Ev.TLT_SDI
      else if u.slpBroken then u.tltViolation Ev.TLT_SLP
      else if u.indexMissing up then u.tltViolation Ev.TLT_ENC
      else
      let u := u.indexWindow up
      if u.homing ∧ u.tlt.step = 4 ∧ u.tltCount ≤ u.signedF R.TLT_HOME1_COUNT_HI - 256 then
      (let v := (u.setFs [(R.TLT_STATE_STATE, 2), (R.TLT_STATE_HOMED, 1)]).disarm .homing
      { v with tlt := { v.tlt with step := 0 } }.raiseInt Ev.TLT_HOMED R.TLT_INT_HOMED)
      else if u.getF R.TLT_STATE_STATE = 3 ∧ u.tltCount = u.signedF R.TLT_TARGET_COUNT then u.setF R.TLT_STATE_STATE 2
      else u))) ∧
  (∀ (s : State), s.on Dom.drive = true → (s.homing = true → s.tlt.step = 2 → s.tlt.index = 0 → exec .encIndex s = .next { (s.setSigned R.TLT_IDX_Z0 s.tltCount) with tlt := { s.tlt with index := 1 } }) ∧
      (s.homing = true → s.tlt.step = 2 → s.tlt.index ≠ 0 → exec .encIndex s = .next (let u := (s.setSigned R.TLT_IDX_ZP (s.tltCount - s.getF R.TLT_IDX_Z0)).homeStep 3
        if u.roleDemand 2 then u.homeUpper else u)) ∧
      (s.homing = false → s.tltWatches = true → s.isSet R.TLT_STATE_HOMED = true → nearIndex s.tltCount (s.getF R.TLT_IDX_Z0) (s.getF R.TLT_IDX_ZP) = false → exec .encIndex s = .next (s.tltViolation Ev.TLT_ENC)) ∧
      (s.homing = false → s.tltWatches = true → s.isSet R.TLT_STATE_HOMED = true → nearIndex s.tltCount (s.getF R.TLT_IDX_Z0) (s.getF R.TLT_IDX_ZP) = true → exec .encIndex s = .next { s with tlt := { s.tlt with idxDue := none } })) ∧
  (∀ (s : State), (s.due .homing = true → exec .homingTimeout s = .next s.homeFail) ∧
      (s.on Dom.drive = true → s.dueOrNew .sls = true → exec .slsWindow s = .next (let v := (s.tltCount - s.tlt.winStart) * 100
      let past := s.tltWatches && decide (s.getF R.TLT_CFG_SLS_CPS < v.natAbs)
      let u := ({ s with tlt := { s.tlt with winStart := s.tltCount } }.setSigned R.TLT_VEL_CPS v).rearm .sls (10 * msNs)
      if past then u.tltViolation Ev.TLT_SLS else u))) ∧
  (∀ (s : State) (code : Nat), s.on Dom.drive = true → s.dueOrNew .pot = true → exec ((.potSample code)) s = .next ((let u := ((s.setF R.TLT_POT_CODE code).rearm .pot msNs).setF R.TLT_POT_PRED (s.potPred % 4096).toNat
      let off := ((u.getF R.TLT_POT_CODE : Int) - u.potPred).natAbs
      if u.tltWatches ∧ u.crossCheck ∧ u.getF R.TLT_CFG_POT_TOL < off then
      (match u.tlt.potOffAt with
      | none => { u with tlt := { u.tlt with potOffAt := some u.now } }
      | some t => if t + 20 * msNs ≤ u.now then u.tltViolation Ev.TLT_POS else u)
      else { u with tlt := { u.tlt with potOffAt := none } }))) ∧
  (∀ (s : State), s.on Dom.drive = true → exec .bridgeOvercurrent s = .next ((let l := s.window (10 * secNs) s.tlt.ocAt
      let u : State := { s with tlt := { s.tlt with ocAt := l } }
      let st := u.getF R.TLT_STATE_STATE
      let u := (u.setFs [(R.TLT_STATE_CAUSE, 9), (R.TLT_STATE_HOMED, 0)]).raise Ev.TLT_OC
      let u := if st = 1 ∨ st = 2 ∨ st = 3 then u.enterSto else u
      if 3 ≤ l.length then u.assertTrip Src.tltSafe false else u)))

/-- Arming, tripping, test pulses and the safety reset. 
1. ARM_A with every condition met switches output A on; ARM_B likewise output B.
2. TRIP_A and TRIP_B assert the firmware's trip sources; TRIP asserts or ends a source, and the end of the Assay's own
source makes its copies good.
3. OFF_TEST each second of an energised output whose readback does not follow, and READBACK_MISMATCH, fail the readback.
4. TPCFG_WRITE with the key open brings both values into their ranges and stores them when two pulses fit, with CLAMP where one
was outside.
5. DEMAND_SAMPLE each 50 µs outside the test pulses samples the four pairs.
6. TEST_PULSE_SAMPLE each TP_PERIOD outside STANDBY judges both contacts of each pair around its pulse.
7. DISCREPANCY_TIMEOUT of a pair in use faults it with code 3.
8. SAFE_RESET_FALL notes the fall, whether SAFE_RESET_N was high for 100 ms before it, and starts the 5 s limit.
9. SAFE_RESET_RISE after a low time of 50 ms to WIN_MS that began well is accepted and performs the safety reset; any other is
rejected.
10. RESET_STUCK after 5 s low raises its event, and no reset follows.
Rules: R348, R349, R350, R352, R353, R354, R355, R371. -/
def Obligations.SafetyOutputs : Prop :=
  (∀ (s : State), s.on Dom.aon = true → ((s.answer .ok).armOk maskA = true → s.isSet R.TLT_CFG_ENABLE = true → exec .armA s = .next ((((s.answer .ok).setF R.SIO_SAFECTL_ARM_A 1).setF R.SIO_SAFECTL_ON_A 1).tltRefresh)) ∧
      ((s.answer .ok).armOk maskB = true → exec .armB s = .next (((s.answer .ok).setF R.SIO_SAFECTL_ARM_B 1).setF R.SIO_SAFECTL_ON_B 1))) ∧
  (∀ (s : State) (src : Fin 13), (s.on Dom.aon = true → exec .tripA s = .next (((s.answer .ok).setF R.SIO_SAFECTL_TRIP_A 1).assertTrip Src.fwA false) ∧
      exec .tripB s = .next (((s.answer .ok).setF R.SIO_SAFECTL_TRIP_B 1).assertTrip Src.fwB false)) ∧
      exec (.trip src true) s = .next (s.assertTrip src true) ∧ (src.val ≠ Src.asySelf → exec (.trip src false) s = .next (s.endTrip src)) ∧
      (src.val = Src.asySelf → (s.endTrip src).on Dom.core = true → exec (.trip src false) s = .next (((s.endTrip src).setF R.ASY_CTL_COPIES_OK 1).refreshZones s.luxTarget))) ∧
  (∀ (s : State) (out : Fin 2) (lowOk highOk : Bool), (s.dueOrNew (.offTest out) = true → exec (.offTest out lowOk highOk) s = .next (let u := s.rearm (.offTest out.val) secNs
      let u := if u.armed (.offTest (1 - out.val)) then u else u.arm (.offTest (1 - out.val)) (500 * msNs)
      if u.isSet (if out.val = 0 then R.SIO_SAFECTL_ON_A else R.SIO_SAFECTL_ON_B) ∧ ¬ (lowOk ∧ highOk) then u.rbFail else u)) ∧
      exec .readbackMismatch s = .next s.rbFail) ∧
  (∀ (s : State) (period width : Nat), s.on Dom.aon = true → s.keyOpen 14 = true → 2 * clampTo 100 1000 (width % 1024) + 500 ≤ 1000 * clampTo 1 100 (period % 256) → exec ((.tpcfgWrite period width)) s = .next ((let p := clampTo 1 100 (period % 256)
      let w := clampTo 100 1000 (width % 1024)
      (((s.answer .ok).setF R.SIO_TPCFG_TP_PERIOD_MS p).setF R.SIO_TPCFG_TP_WIDTH_US w).doIf (decide (p ≠ period % 256 ∨ w ≠ width % 1024)) fun s => s.flag R.SIO_INT_CLAMP))) ∧
  (∀ (s : State) (a b : Fin 16), s.dueOrNew .demand = true → s.inPulse = false → exec ((.demandSample a b)) s = .next ((s.arm .demand (50 * usNs)).forN 4 fun n s => s.demandSample n (a.val.testBit n) (b.val.testBit n))) ∧
  (∀ (s : State) (preA inA forA preB inB forB : Fin 16), s.dueOrNew .testPeriod = true → s.devState ≠ 3 → exec ((.testPulseSample preA inA forA preB inB forB)) s = .next ((s.rearm .testPeriod (s.getF R.SIO_TPCFG_TP_PERIOD_MS * msNs)).forN 4 fun n s => s.testPeriod n (contactFault (preA.val.testBit n) (inA.val.testBit n) (forA.val.testBit n)) (contactFault (preB.val.testBit n) (inB.val.testBit n) (forB.val.testBit n)))) ∧
  (∀ (s : State) (pair : Fin 4), s.due (.discrep pair) = true → s.getF (R.SIO_USE_ROLE pair) ≠ 0 → exec ((.discrepancyTimeout pair)) s = .next ((s.disarm (.discrep pair)).pairFault pair 3 Ev.SIO_DISCREP)) ∧
  (∀ (s : State), s.sio.rstLow = none → exec .safeResetFall s = .next ((let high := s.now - s.sio.rstHigh
      let stuck := s.sio.stuck && decide (high < secNs)
      { s with sio := { s.sio with rstLow := some s.now, rstOk := decide (100 * msNs ≤ high) && !stuck, stuck := stuck } }.arm .resetStuck (5 * secNs)))) ∧
  (∀ (s : State) (t : Nat), s.sio.rstLow = some t → exec .safeResetRise s = .next ((let ok := s.sio.rstOk && decide (50 * msNs ≤ s.now - t) && decide (s.now - t ≤ s.getF R.SIO_RST_WIN_MS * msNs)
      let u := { s with sio := { s.sio with rstLow := none, rstHigh := s.now } }.disarm .resetStuck
      if ok then ((u.satInc R.SIO_RST_ACCEPTED).raiseInt Ev.SIO_RESET R.SIO_INT_RESET).safetyReset
      else (u.satInc R.SIO_RST_REJECTED).raiseInt Ev.SIO_RST_REJECT R.SIO_INT_RSTREJ))) ∧
  (∀ (s : State), s.due .resetStuck = true → exec .resetStuck s = .next ({ (s.disarm .resetStuck) with sio := { s.sio with stuck := true, rstOk := false } }.raise Ev.SIO_RST_STUCK))

/-- Raising, folding, recording, releasing and persisting events. 
1. EVENT_RAISE presents the event to EVL, or to AON while CD_CORE is off.
2. COALESCE_CLOSE closes every coalescing entry opened at least 1 ms ago.
3. LOG_RECORD_WRITE begins the oldest queued record, one of class SAFETY first, and queues one of a loss that has not been recorded.
4. LOG_RELEASE moves EVL_RD to the slot, or to the one after a slot still being written, and in LOG_MODE releases the slots between.
5. PAGE_START with a page's condition met, and FLUSH_TIMEOUT with a flush due, start a page.
6. PAGE_PERSISTED of a programmed page writes it to flash, marks its records persisted and counts it.
7. PAGE_PERSISTED of a failed page leaves what the operation left, counts the failure, and after the third stops persisting.
8. FLUSH marks every record still to be persisted and starts a page; PRESTART lets persisting start again.
9. FIRMWARE_EVENT with an ID from 0x80 and a class below SAFETY is presented with the ARG0 that EVL_SWARG holds.
10. EVL_Q_MAX answers the level, the maximum and the open entries, and clears MAX, unless MAX rose in that cycle.
Rules: R586, R588, R590, R593, R596, R597, R598, R604, R611. -/
def Obligations.EventLogCommands : Prop :=
  (∀ (s : State) (id cls src arg0 arg1 arg2 : Nat), exec ((.eventRaise id cls src arg0 arg1 arg2)) s = .next ((let o := s.occ id (cls % 4) src arg0 arg1 arg2
      if s.on Dom.core then s.evIntake o else s.evHold o))) ∧
  (∀ (s : State), exec .coalesceClose s = .next (s.forL (s.evl.coal.filter fun c => decide (c.firstAt + msNs ≤ s.now)) fun c s => s.closeCoal c.uid)) ∧
  (∀ (s : State), s.on Dom.core = true → exec .logRecordWrite s = .next (s.beginRecord.queueLost)) ∧
  (∀ (s : State) (slot : Nat), s.on Dom.core = true → exec ((.logRelease slot)) s = .next ((let n := s.releaseTo (slot % 2048)
      (if s.isSet R.EVL_CTL_LOG_MODE then
      (s.answer .ok).forL (ringSpan (s.getF R.EVL_RD_SLOT) n) fun k s => s.releaseSlot k
      else (s.answer .ok)).setF R.EVL_RD_SLOT n))) ∧
  (∀ (s : State), s.on Dom.core = true → (s.pageCondition = true → exec .pageStart s = .next s.startPage) ∧ (s.flushDue = true → exec .flushTimeout s = .next s.startPage)) ∧
  (∀ (s : State) (recs : List LogSlot), s.evl.page = some recs → exec ((.pagePersisted none)) s = .next ((let p := s.getF R.EVL_PST_PAGE
      let u := (s.setF R.EVL_PST_BUSY 0).setF R.EVL_PST_PAGE ((p + 1) % 256)
      let u := u.evlSet fun e => { e with page := none, pageSeq := s.evl.pageSeq + 1 }
      let u := u.program (pageAt p) (pageBytes s.evl.pageSeq recs)
      let u := u.evlSet fun e => { e with ring := e.ring.map fun k => if (recs.map (·.seq)).contains k.2.seq then (k.1, { k.2 with persisted := true }) else k, flushSeqs := e.flushSeqs.filter fun n => !(recs.map (·.seq)).contains n }
      ((u.setF R.EVL_PST_FAILS 0).wrapInc R.EVL_PST_PAGES).flag R.EVL_INT_PDONE))) ∧
  (∀ (s : State) (recs : List LogSlot) (bytes : List Byte), s.evl.page = some recs → exec ((.pagePersisted (some bytes))) s = .next ((let p := s.getF R.EVL_PST_PAGE
      let u := (s.setF R.EVL_PST_BUSY 0).setF R.EVL_PST_PAGE ((p + 1) % 256)
      let u := u.evlSet fun e => { e with page := none, pageSeq := s.evl.pageSeq + 1 }
      let u := (u.flashLeave (pageAt p) (bytes.take 4096)).satInc R.EVL_PST_FAILS
      let u := u.raiseInt Ev.EVL_PERSIST_FAIL R.EVL_INT_PFAIL
      if 3 ≤ u.getF R.EVL_PST_FAILS then (u.setF R.EVL_PST_STOPPED 1).raise Ev.EVL_PERSIST_STOP else u))) ∧
  (∀ (s : State), s.on Dom.core = true → exec .flush s = .next (let pend := ((s.evl.ring.map (·.2)).filter fun sl => s.slotPending sl).map (·.seq)
      ((s.answer .ok).evlSet fun e => { e with flushSeqs := pend }).startPage) ∧
      exec .prestart s = .next (((s.answer .ok).setF R.EVL_PST_STOPPED 0).setF R.EVL_PST_FAILS 0)) ∧
  (∀ (s : State) (idlo cls : Nat), s.on Dom.core = true → 0x80 ≤ idlo % 256 → cls % 4 ≠ 0 → exec ((.firmwareEvent idlo cls)) s = .next ((s.answer .ok).present ((s.answer .ok).occ (0x0F00 + idlo % 256) (cls % 4) 15 (s.getF R.EVL_SWARG_ARG0) 0 0))) ∧
  (∀ (s : State), s.on Dom.core = true → exec .evlQMax s = .next ((s.answer (.data (BitVec.ofNat 32 (s.evl.queue.length + 2 ^ 8 * s.readRc R.EVL_Q_MAX + 2 ^ 16 * s.evl.coal.length)))).clearRc R.EVL_Q_MAX))

/-- Claiming, following, heading and joining a ring. `u` is the state once the message `m` has been taken from CRN's inbox. 
1. T_LISTEN, CLAIM_WAIT, FOLLOW_TO and BACKOFF expire in their states, and a ROSTER that waits wins over them: to CLAIMING, to
HEAD when no better claim waits, and to LISTEN.
2. CLAIM in LISTEN: a weaker one makes the node claim, a stronger one follow; in CLAIMING and FOLLOWING a stronger one is yielded
to; a HEAD answers with its ROSTER.
3. YIELD is counted while claiming.
4. RESTART (CRN_CMD) begins again in LISTEN.
5. REVERT (CRN_CMD) on the head gives every rank back to the node it belongs to and publishes the change.
6. JOIN_RETRY repeats the JOIN up to five times and then listens again.
7. ROSTER: a node not yet in a ring joins its sender; one that is JOINING and listed becomes a MEMBER and waits for the head; a
MEMBER takes its head's newer ROSTER and joins a stronger one's sender; a HEAD yields to a stronger one.
8. HEAD_TO loses the head and listens; BEAT_TO of a node not heard loses it; RANK_WAIT opens the free ranks; the head publishes
what follows.
9. ROSTER_PUBLISH sends what changed, ROSTER_MS repeats the roster, and a MEMBER's BEAT timer sends its BEAT or leaves it for the
slot edge.
Rules: R454, R458, R460, R461, R462, R463, R469, R470, R472, R484. -/
def Obligations.CairnRoles : Prop :=
  (∀ (s : State), (s.crnState = 1 → s.due .tListen = true → s.rosterWaits = false → exec .tListen s = .next s.toClaiming) ∧
      (s.crnState = 2 → s.due .claimWait = true → s.rosterWaits = false → (s.crn.inbox.any fun m => m.typ == CT.claim && beats (byteAt m.body 0, m.src) s.ownStanding) = false → exec .claimWait s = .next s.toHead) ∧
      (s.crnState = 3 → s.due .followTo = true → s.rosterWaits = false → exec .followTo s = .next s.toListen) ∧
      (s.crnState = 4 → s.due .backoff = true → exec .backoff s = .next s.toListen)) ∧
  (∀ (s : State) (m : CrnMsg) (u : State), s.crnTake CT.claim = some (m, u) → m.src ≠ u.ownKey → ((u.crn.inbox.any fun k => k.typ == CT.roster && k.at_ == m.at_) = false) → (u.crnState = 1 → u.crn.stuck = false → exec .claim s = .next (if beats u.ownStanding (byteAt m.body 0, m.src) then u.toClaiming else u.toFollow (byteAt m.body 0, m.src))) ∧
      (u.crnState = 2 → beats (byteAt m.body 0, m.src) u.ownStanding = true → exec .claim s = .next ((u.sendYield m.src).toFollow (byteAt m.body 0, m.src))) ∧
      (u.crnState = 3 → beats (byteAt m.body 0, m.src) u.crn.followed = true → exec .claim s = .next ((u.sendYield m.src).toFollow (byteAt m.body 0, m.src))) ∧
      (u.crnState = 7 → exec .claim s = .next (u.sendRoster m.src))) ∧
  (∀ (s : State) (m : CrnMsg) (u : State), s.crnTake CT.yield = some (m, u) → u.crnState = 2 → exec .yield s = .next (u.satInc R.CRN_CNT_YIELDS)) ∧
  (∀ (s : State), s.on Dom.net = true → s.isSet R.CRN_CTL_EN = true → s.crnState ≠ 0 → exec .restart s = .next (((s.answer .ok).crnSet fun c => { c with stuck := false, dupAt := [] }).toListen)) ∧
  (∀ (s : State), s.on Dom.net = true → s.isSet R.CRN_CTL_EN = true → s.crnState = 7 → exec .revert s = .next (((s.answer .ok).forN s.crn.ring fun r s =>
      (match givesBack s.crn.nodes r with
      | none => s
      | some k => s.crnSet fun c => { c with nodes := c.nodes.map fun n =>
      if n.ent.key = k then { n with ent := { n.ent with rank := r, state := 0 } }
      else if n.ent.rank = r then { n with ent := { n.ent with rank := 255, acting := false } }
      else n })).crnUpdate)) ∧
  (∀ (s : State), s.crnState = 5 → s.due .joinRetry = true → exec .joinRetry s = .next ((if s.crn.joins < 5 then (s.crnSet fun c => { c with joins := c.joins + 1 }).sendJoin else s.toListen))) ∧
  (∀ (s : State) (m : CrnMsg) (u : State), s.crnTake CT.roster = some (m, u) → (1 ≤ u.crnState → u.crnState ≤ 3 → ¬ (u.crnState = 1 ∧ u.crn.stuck = true) → exec .roster s = .next (u.toJoining m.src ((((rosterOf m.body).find? fun e => e.key == m.src).map (·.prio)).getD 0))) ∧
      (u.crnState = 5 → m.src = u.headKey → u.crn.roster = [] ∨ epochOk m.epoch (u.getF R.CRN_STAT_EPOCH) = true → ((rosterOf m.body).any fun e => e.key == u.ownKey && (e.state == 0 || e.state == 2 || e.state == 3)) = true →
      exec .roster s = .next (let prio := (((rosterOf m.body).find? fun e => e.key == m.src).map (·.prio)).getD 0
      let t := (u.takeRoster (rosterOf m.body) (byteAt m.body 1) (beAt m.body 4 2) m.epoch).crnSet fun c => { c with headPrio := prio }
      t.toMember.arm .headTo (3 * t.crn.rosterMs * msNs))) ∧
      (u.crnState = 6 → m.src = u.headKey → epochOk m.epoch (u.getF R.CRN_STAT_EPOCH) = true →
      exec .roster s = .next (let prio := (((rosterOf m.body).find? fun e => e.key == m.src).map (·.prio)).getD 0
      let t := (u.takeRoster (rosterOf m.body) (byteAt m.body 1) (beAt m.body 4 2) m.epoch).crnSet fun c => { c with headPrio := prio }
      t.arm .headTo (3 * t.crn.rosterMs * msNs))) ∧
      (u.crnState = 6 → m.src ≠ u.headKey → beats ((((rosterOf m.body).find? fun e => e.key == m.src).map (·.prio)).getD 0, m.src) (u.crn.headPrio, u.headKey) = true →
      exec .roster s = .next (u.toJoining m.src ((((rosterOf m.body).find? fun e => e.key == m.src).map (·.prio)).getD 0))) ∧
      (u.crnState = 7 → beats ((((rosterOf m.body).find? fun e => e.key == m.src).map (·.prio)).getD 0, m.src) u.ownStanding = true →
      exec .roster s = .next ((u.sendYield m.src).toJoining m.src ((((rosterOf m.body).find? fun e => e.key == m.src).map (·.prio)).getD 0)))) ∧
  (∀ (s : State) (key : Nat), (s.crnState = 6 → s.due .headTo = true → exec .headTo s = .next ((s.raise Ev.CRN_HEAD_LOST s.headKey (s.headKey / 2 ^ 32)).toListen)) ∧
      (s.crnState = 7 → s.due (.beatTo key) = true → (s.crn.inbox.any fun m => m.src == key && (m.typ == CT.beat || m.typ == CT.join)) = false →
      exec (.beatTo key) s = .next (let u := (s.disarm (.beatTo key)).crnSet fun c => { c with nodes := c.nodes.map fun n => if n.ent.key = key then { n with ent := { n.ent with state := 1 } } else n }
      ((u.crnFault 0x02 0 0 key).raise Ev.CRN_NODE_LOST key (key / 2 ^ 32)).crnUpdate)) ∧
      (s.crnState = 7 → s.due .rankWait = true → exec .rankWait s = .next (((s.disarm .rankWait).crnSet fun c => { c with rankOpen := true }).crnUpdate))) ∧
  (∀ (s : State), (s.crnState = 7 → s.due .publish = true → exec .rosterPublish s = .next (if s.crn.dirty then (s.disarm .publish).crnPublish else s.disarm .publish)) ∧
      (s.crnState = 7 → s.due .rosterMs = true → exec .rosterMs s = .next ((s.rearm .rosterMs (s.getF R.CRN_TIMER_ROSTER_MS * msNs)).sendRoster 0)) ∧
      (s.crnState = 6 → s.due .beat = true → exec .beatTimer s = .next (let u := s.rearm .beat (s.crn.rosterMs * msNs)
      if u.slotted then u.crnSet fun c => { c with beatDue := true } else u.sendBeat)))

/-- Frames, neighbours, joins and the messages of firmware on the ring. 
1. CAIRN_FRAME that is sound, of this line, within its hops and not flooding is for this node: its message is queued and the
highest epoch noted.
2. CAIRN_JOIN on the head, with neighbour keys it knows and room for the node, refreshes its time-out, gives it a rank and a
place, reports what conflicts, and publishes.
3. HELLO refreshes its neighbour's time-out and notes a new one, which the head takes into account; NEIGHBOUR_TO loses the
neighbour; the HELLO timer sends a HELLO or leaves it for the slot edge.
4. BEAT of a node that the head knows and has not lost refreshes its time-out.
5. STEP, CKPT_MARK and FAULT messages are delivered to firmware.
6. MESSAGE_SEND of a descriptor that is owned by CRN, sound and for a port that is up sends its message and completes the
descriptor with status 0.
Rules: R455, R456, R457, R459, R465, R468, R469, R484, R499, R506. -/
def Obligations.CairnMessages : Prop :=
  (∀ (s : State) (f : CrnIn) (rest : List CrnIn) (u v : State) (l : List Byte) (len : Nat), s.net.crnIn = f :: rest → (u = s.netSet fun n => { n with crnIn := rest }) → l = f.bytes.drop (payAt f.bytes) → len = beAt l 26 2 → u.crnOn = true → byteAt l 0 = 1 → 32 + len ≤ l.length → beAt l (28 + len) 4 = crc32c (l.take (28 + len)) → byteAt l 2 = 0 → bodySound (byteAt l 1) ((l.drop 28).take len) = true → byteAt l 3 ≠ 0 → beAt l 4 2 = u.cfg Img.CAIRN_LINE_ID 0 → byteAt l 1 ≠ CT.chunkData → byteAt l 1 ≠ CT.chunkAck → u.crnFlood (beAt l 8 8) = (v, false) → beAt l 8 8 ≠ v.ownKey → beAt l 16 8 = v.ownKey → exec .cairnFrame s = .next ((let m : CrnMsg := ⟨byteAt l 1, beAt l 8 8, beAt l 16 8, beAt l 6 2, (l.drop 28).take len, f.port, f.stamp, f.vlan, f.at_⟩
      (v.crnSet fun c => { c with seen := max c.seen m.epoch }).crnSet fun c => { c with inbox := c.inbox ++ [m] }))) ∧
  (∀ (s : State) (m : CrnMsg) (u : State) (known : Option CrnNode), s.crnTake CT.join = some (m, u) → u.crnState = 7 → (known = u.crn.nodes.find? fun n => n.ent.key == m.src) → ((known.any fun n => n.n0 != beAt m.body 8 8 || n.n1 != beAt m.body 16 8) = false) → known.isSome = true ∨ u.crn.nodes.length < 64 → exec .cairnJoin s = .next ((let b := m.body
      let role := byteAt b 1
      let want := byteAt b 2
      let acting := byteAt b 3 == 1
      let a := u.arm (.beatTo m.src) (3 * u.getF R.CRN_TIMER_ROSTER_MS * msNs)
      let ring := a.ownRing
      let a := if byteAt b 4 ≠ 0 ∧ ring ≠ 0 ∧ byteAt b 4 ≠ ring then
      (a.crnFault 0x09 m.src ring m.src).raise Ev.CRN_CFG_MISMATCH (byteAt b 4) m.src
      else a
      let others := a.crn.nodes.filter fun n => n.ent.key != m.src
      let r := joinResult others role want ring acting
      let node (rank st : Nat) (act : Bool) : CrnNode := ⟨⟨m.src, 255, role, rank, st, byteAt b 0, false, act⟩, beAt b 8 8, beAt b 16 8, want, m.at_⟩
      let base := if r.1 = 255 then a.crn.nodes else freeRank a.crn.nodes r.1 m.src 1
      let plain := putNode base (node r.1 r.2.1 r.2.2.1)
      let pos (k : Nat) : Nat := (((placeNodes plain).1.find? fun n => n.ent.key == k).map (·.ent.pos)).getD 255
      let rival := others.find? fun n => n.ent.rank == want && n.ent.state == 0 && n.at_ == m.at_ && decide (pos m.src < pos n.ent.key)
      match r.2.2.2, rival with
      | true, some h => ((a.crnSet fun c => { c with nodes := putNode (freeRank base want m.src 0) (node want 0 false) }).rankConflict h.ent.key want).crnUpdate
      | true, none => ((a.crnSet fun c => { c with nodes := plain }).rankConflict m.src want).crnUpdate
      | false, _ => (a.crnSet fun c => { c with nodes := plain }).crnUpdate))) ∧
  (∀ (s : State) (m : CrnMsg) (u : State) (port : Fin 2), (s.crnTake CT.hello = some (m, u) → exec .hello s = .next (let a := u.arm (.neighbour m.port) (3 * u.getF R.CRN_TIMER_HELLO_MS * msNs)
      if a.crn.nbr.getD m.port 0 = m.src then a else (a.crnSet fun c => { c with nbr := c.nbr.set m.port m.src }).headNbr)) ∧
      (s.due (.neighbour port) = true → exec (.neighbourTo port) s = .next (s.nbrLost port)) ∧
      (s.due (.hello port) = true → s.linkUp port = true → exec (.helloMs port) s = .next (let a := s.rearm (.hello port.val) (s.getF R.CRN_TIMER_HELLO_MS * msNs)
      if a.slotted then a.crnSet fun c => { c with helloDue := c.helloDue.set port.val true } else a.sendHello port))) ∧
  (∀ (s : State) (m : CrnMsg) (u : State), s.crnTake CT.beat = some (m, u) → u.crnState = 7 → ((u.crn.nodes.any fun n => n.ent.key == m.src && n.ent.state != 1 && !n.ent.head) = true) → exec .beat s = .next (u.arm (.beatTo m.src) (3 * u.getF R.CRN_TIMER_ROSTER_MS * msNs))) ∧
  (∀ (s : State) (m : CrnMsg) (u : State) (ue : Bool), (s.crnTake CT.step = some (m, u) → exec (.cairnStep ue) s = .next (u.crnDeliver m ue)) ∧
      (s.crnTake CT.ckptMark = some (m, u) → exec (.ckptMark ue) s = .next (u.crnDeliver m ue)) ∧
      (s.crnTake CT.fault = some (m, u) → exec (.cairnFault ue) s = .next (u.crnDeliver m ue))) ∧
  (∀ (s : State) (d buf flags n : Nat), s.crnOn = true → s.ringHas crnMtx = true → d = s.ringDesc crnMtx 16 → buf = leNat (s.ringRead d 4) → flags = leNat (s.ringRead (d + 6) 2) → n = leNat (s.ringRead (buf + 2) 2) → flags.testBit 15 = true → 12 + n ≤ leNat (s.ringRead (d + 4) 2) → n ≤ 1468 → flags % 4 ≠ 0 → (maskPorts (flags % 4)).all s.linkUp = true → exec ((.messageSend false)) s = .next ((let l := s.ringRead buf (12 + n)
      (((s.crnSendOn (maskPorts (flags % 4)) (byteAt l 0) (fieldAt l 4 8) (l.drop 12)).ringWrite (d + 12) (leBytes 2 0)).ringWrite (d + 6) (leBytes 2 (flags % 2 ^ 15))).ringNext crnMtx)))

/-- The requests of the CD in the AD's memory, their answers and their time-out. `u` is the state once the message `m` has been taken.

1. MEM_RD in scope answers with status 0 and the bytes that stand there, or with the status of the error met and data that mean nothing;
a tenant's scope is charged and translated, the audit scope is not.
2. MEM_WR in scope writes the bytes and answers with status 0, or answers with the status of the error met and writes nothing.
3. A request outside its scope is refused: MEM_RD answers status 1 with data that mean nothing, MEM_WR status 1, and the tenant's fault is
reported; no address is in scope of a TENANT neither 0 to 15 nor 0xFE.
4. MEM_RD_DATA and MEM_WR_ACK of an outstanding request end it: a core is answered with the data or done with status 0 and a bus error with
any other, an audit round judges its answer, a model transfer and a firmware load go on; one that answers nothing outstanding is a violation.
5. MEM_TIMEOUT: a core's access without response for 100 µs ends in a bus error, with SIL_MEM_TIMEOUT.
Rules: R86, R165, R166. -/
def Obligations.AdMemory : Prop :=
  (∀ (s : State) (err : Option MemErr) (m : Msg) (u : State) (r : Option Region) (a : State) (e : Nat × State), s.takeAd TT.memRd (s.memGoes false) = some (m, u) → u.adLive = true → u.isSet R.MC_TRAIN_DONE = true → u.memScope m.tenant (fieldAt m.body 0 8) (min 256 (fieldAt m.body 8 2)) false = (0, r) → a = (if m.tenant < 16 then u.charge m.tenant ((min 256 (fieldAt m.body 8 2) + 63) / 64) else u) → e = a.memMeets r err →
      (e.1 = 0 → exec (.memRd err) s = .next (
        let addr := fieldAt m.body 0 8
        let len := min 256 (fieldAt m.body 8 2)
        e.2.adSend ⟨3, TT.memRdData, m.tenant, 0, m.tag, leBytes 8 0 ++ (if m.tenant < 16 then a.tenRead m.tenant addr len else a.dramBytes addr len)⟩)) ∧
      (e.1 ≠ 0 → exec (.memRd err) s = .next (
        let len := min 256 (fieldAt m.body 8 2)
        let d := e.2.draw (8 * len)
        d.2.adSend ⟨3, TT.memRdData, m.tenant, 0, m.tag, leBytes 8 e.1 ++ leBytes len d.1⟩))) ∧
  (∀ (s : State) (err : Option MemErr) (m : Msg) (u : State) (r : Option Region) (a : State) (e : Nat × State), s.takeAd TT.memWr (s.memGoes true) = some (m, u) → u.adLive = true → u.isSet R.MC_TRAIN_DONE = true → u.memScope m.tenant (fieldAt m.body 0 8) (min 256 (fieldAt m.body 8 2)) true = (0, r) → a = (if m.tenant < 16 then u.charge m.tenant ((min 256 (fieldAt m.body 8 2) + 63) / 64) else u) → e = a.memMeets r err →
      (e.1 = 0 → exec (.memWr err) s = .next (
        let addr := fieldAt m.body 0 8
        let len := min 256 (fieldAt m.body 8 2)
        let data := padTo len (m.body.drop 16)
        (if m.tenant < 16 then e.2.tenWrite m.tenant addr data else e.2.dramWrite addr data).adSend ⟨3, TT.memWrAck, m.tenant, 0, m.tag, leBytes 8 0⟩)) ∧
      (e.1 ≠ 0 → exec (.memWr err) s = .next (e.2.adSend ⟨3, TT.memWrAck, m.tenant, 0, m.tag, leBytes 8 e.1⟩))) ∧
  (∀ (s : State) (m : Msg) (u : State) (r : Option Region) (err : Option MemErr) (st : Nat), u.adLive = true → u.isSet R.MC_TRAIN_DONE = true → st ≠ 0 → (s.takeAd TT.memRd (s.memGoes false) = some (m, u) → u.memScope m.tenant (fieldAt m.body 0 8) (min 256 (fieldAt m.body 8 2)) false = (st, r) → exec (.memRd err) s = .next (let d := u.draw (8 * min 256 (fieldAt m.body 8 2))
      (d.2.memFault m.tenant m.tag).adSend ⟨3, TT.memRdData, m.tenant, 0, m.tag, leBytes 8 1 ++ leBytes (min 256 (fieldAt m.body 8 2)) d.1⟩)) ∧
      (s.takeAd TT.memWr (s.memGoes true) = some (m, u) → u.memScope m.tenant (fieldAt m.body 0 8) (min 256 (fieldAt m.body 8 2)) true = (st, r) → exec (.memWr err) s = .next ((u.memFault m.tenant m.tag).adSend ⟨3, TT.memWrAck, m.tenant, 0, m.tag, leBytes 8 1⟩)) ∧
      (16 ≤ m.tenant → m.tenant ≠ auditScope → ∀ addr len write, u.memScope m.tenant addr len write = (1, none))) ∧
  (∀ (s : State) (tag : Nat) (status : Fin 256) (data : List Byte) (q : Nat) (u : State) (r : MemReq), (s.takeCd ⟨3, TT.memRdData, noTenant, 0, tag, leBytes 1 status.val ++ data⟩ = some (q, u) →
        (u.sil.reqs.find? (fun r => r.tag == tag && !r.write) = none → exec (.memRdData tag status data) s = .next (u.silBadMsg 7 TT.memRdData q)) ∧
        (u.sil.reqs.find? (fun r => r.tag == tag && !r.write) = some r →
          (r.user = .window → exec (.memRdData tag status data) s = .next ((u.memDone tag).answer (if status.val = 0 then .data (BitVec.ofNat 32 (leNat data)) else .busError))) ∧
          (∀ k, r.user = .audit k → exec (.memRdData tag status data) s = .next ((u.memDone tag).auditJudge k status.val data)) ∧
          (∀ k ser off, r.user = .xfer k ser off → exec (.memRdData tag status data) s = .next ((u.memDone tag).xferRead ser off status.val data)))) ∧
      (s.takeCd ⟨3, TT.memWrAck, noTenant, 0, tag, leBytes 1 status.val⟩ = some (q, u) →
        (u.sil.reqs.find? (fun r => r.tag == tag && r.write) = none → exec (.memWrAck tag status) s = .next (u.silBadMsg 7 TT.memWrAck q)) ∧
        (u.sil.reqs.find? (fun r => r.tag == tag && r.write) = some r →
          (r.user = .window → exec (.memWrAck tag status) s = .next ((u.memDone tag).answer (if status.val = 0 then .ok else .busError))) ∧
          (∀ k, r.user = .audit k → exec (.memWrAck tag status) s = .next ((u.memDone tag).auditJudge k status.val [])) ∧
          (∀ k ser off, r.user = .xfer k ser off → exec (.memWrAck tag status) s = .next ((u.memDone tag).xferWritten ser status.val)) ∧
          (r.user = .load → exec (.memWrAck tag status) s = .next (if status.val = 0 then u.memDone tag else (u.memDone tag).loadFailed))))) ∧
  (∀ (s : State) (r : MemReq), (s.sil.reqs.find? (fun r => decide (r.at_ + 100 * usNs ≤ s.now)) = some r) → r.user = .window → exec .memTimeout s = .next (((((s.memDone r.tag).answer .busError).raiseInt Ev.SIL_MEM_TIMEOUT R.SIL_INT_MEMTO r.tag).silViol 8 0)))

/-- Records, zone and run expiry, the trust state, qualification and the AD reset. 
1. RECORD within 20 in 1 ms, with no qualification running, goes to the intake queue; one beyond is a violation; one of a
qualification camera goes to the qualification.
2. ASSAY_JUDGE takes the record at the head of the intake and judges it.
3. ZONE_EXPIRY: when good(L, c) counts down to 0, run(L, c) becomes 0 and the zones are formed anew.
4. RUN_EXPIRY frees a run entry whose time is over.
5. DEMOTE takes TRUSTED to PROBATION; DISTRUST takes TRUSTED or PROBATION to DISTRUSTED; each is refused in a state at or below
the one it names. CLEARZONES clears every zone bit.
6. RETRY in WORK after giving up switches the AD domains on and requests an AD reset that is not counted.
7. The Assay's self-check clears every zone bit, marks copies that differ, raises ASY_SELF and asserts its trip source; a random-generator failure is
counted and raised.
8. QUALIFICATION with a usable known-answer set shows step 4 and sends the first case's first frame; with an unusable one it ends
as KAT_UNUSABLE.
9. QUALIFICATION_DONE: after the last case with every record right, PROBATION; with a wrong record, the qualification fails.
10. QUAL_RECORD_TIMEOUT: a case whose records have not come in 100 ms fails the qualification; one of which none is expected goes
on to its next run.
11. AD_RESET (SYS_ADRST) with its code and AD_CTL powered, with fewer than four in the last 60 minutes and debug not on, resets
the AD with cause 4 and is counted; the one that would be the fifth is not made; with debug on it is made and not counted.
Rules: R297, R298, R305, R308, R311, R313, R314, R322, R324. -/
def Obligations.AssayAndTrust : Prop :=
  (∀ (s : State) (tenant count : Fin 256) (tag : Fin 65536) (body : List Byte) (k : Nat) (v u : State) (q : Qual), s.takeCd ⟨1, TT.record, tenant.val, count.val, tag.val, body⟩ = some (k, v) → (v.recordRate = (false, u) → u.asy.qual = none →
      exec (.record tenant count tag body) s = .next (u.intake ⟨tenant.val, count.val, tag.val, body⟩)) ∧
      (v.recordRate = (true, u) →
      exec (.record tenant count tag body) s = .next (u.silViol 0x0C TT.record)) ∧
      (v.recordRate = (false, u) → u.asy.qual = some q → 0x10 ≤ byteAt body 2 → byteAt body 2 < 0x14 →
      exec (.record tenant count tag body) s = .next (u.qualRecord q ⟨tenant.val, count.val, tag.val, body⟩))) ∧
  (∀ (s : State) (ce : Bool) (m : RecMsg) (l : List RecMsg), s.on Dom.core = true → s.asy.intake = m :: l → exec (.assayJudge ce) s = .next ((((s.doIf ce fun s => s.raise Ev.ASY_CE).asySet fun a => { a with intake := l }).judge m).headOn)) ∧
  (∀ (s : State) (e : Fin 32), s.goodOf e.val ≠ 0 → s.goodOf e.val < s.now → exec ((.zoneExpiry e)) s = .next (((s.setRunOf e.val 0).setGoodOf e.val 0).refreshZones s.luxTarget)) ∧
  (∀ (s : State) (tenant : Fin 16) (cam : Fin 4) (ctr : Nat) (e : RunEntry), s.runEntry tenant.val cam.val ctr = some e → s.runOver e = true → exec ((.runExpiry tenant cam ctr)) s = .next (s.asySet fun a => { a with runs := a.runs.filter fun q => !(q.tenant == e.tenant && q.cam == e.cam && q.ctr == e.ctr) })) ∧
  (∀ (s : State), s.on Dom.core = true → (s.getF R.ASY_TRUST_STATE = 2 → exec .demote s = .next ((s.answer .ok).setTrust 1)) ∧ (s.getF R.ASY_TRUST_STATE ≠ 2 → exec .demote s = .next (s.answer .ok).asyRefused) ∧
      (s.getF R.ASY_TRUST_STATE ≠ 0 → exec .distrust s = .next (s.answer .ok).distrust) ∧ (s.getF R.ASY_TRUST_STATE = 0 → exec .distrust s = .next (s.answer .ok).asyRefused) ∧
      exec .clearzones s = .next (s.answer .ok).clearAllZones) ∧
  (∀ (s : State), s.on Dom.core = true → s.getF R.ASY_TRUST_QUAL = 4 → s.inWork = true → exec .retry s = .next ((s.answer .ok).adDomainsOn.requestAdReset false)) ∧
  (∀ (s : State) (copies : Bool), s.on Dom.core = true → exec (.assaySelfCheck copies) s = .next (((s.doIf copies fun s => s.setF R.ASY_CTL_COPIES_OK 0).clearAllZones.raise Ev.ASY_SELF).assertTrip Src.asySelf copies) ∧
      exec .stkRngFail s = .next (((s.satInc R.STK_RNG_FAILS).setF R.STK_RNG_OK 0).raiseInt Ev.STK_RNG_FAIL R.STK_INT_RNGFAIL)) ∧
  (∀ (s : State) (b : List Byte), s.on Dom.core = true → s.mayQualify = true → (s.katSet = some b → s.katOk b = true → exec .qualification s = .next (((s.setF R.ASY_TRUST_QUAL 3).forN 16 fun n s => if s.getF (R.TEN_STATE_CLASS n) = 0 then s.setF (R.ASY_RSEQ_EXPECT n) 0 else s).beginRun b 0 false)) ∧
      (s.katSet = some b → s.katOk b = false → exec .qualification s = .next s.katUnusable)) ∧
  (∀ (s : State) (q : Qual) (b : List Byte), s.asy.qual = some q → s.isSet R.SIL_DBG_EN = false → (s.asy.qualBad = false → s.katSet = some b → katCount b ≤ q.idx → exec .qualificationDone s = .next (let a := (s.asySet fun a => { a with qual := none }).disarm .qualRecord
      (((a.setF R.ASY_TRUST_QUAL 0).flag R.ASY_INT_QUALDONE).setTrust 1).raise Ev.ASY_QUAL_PASS)) ∧
      (s.asy.qualBad = true → exec .qualificationDone s = .next s.qualFail)) ∧
  (∀ (s : State) (q : Qual) (b : List Byte) (n : Nat), s.asy.qual = some q → s.due .qualRecord = true → s.katSet = some b → ((katCases b (katCount b) 32)[q.idx]?.map KatCase.nrec) = some n → (n = 0 → exec .qualRecordTimeout s = .next ((s.disarm .qualRecord).nextRun b q)) ∧ (n ≠ 0 → exec .qualRecordTimeout s = .next s.qualFail)) ∧
  (∀ (s : State) (code : Nat), s.on Dom.core = true → s.on Dom.adCtl = true → code % 65536 = rstCode → (s.isSet R.SIL_DBG_EN = true → exec (.adReset code) s = .next (((s.answer .ok).adReset 4).setF R.ASY_TRUST_QUAL 5)) ∧
      (s.isSet R.SIL_DBG_EN = false → s.escalations.length < 4 → exec (.adReset code) s = .next (let a := (s.answer .ok).asySet fun k => { k with resetsAt := s.window hourNs k.resetsAt }
      ((a.adReset 4).setF R.ASY_TRUST_QUAL 1).raise Ev.ASY_AD_RESET a.escalations.length)) ∧
      (s.isSet R.SIL_DBG_EN = false → 4 ≤ s.escalations.length → exec (.adReset code) s = .next (s.answer .ok).giveUp))

/-- Register and system-bus accesses, I2C, UART, SPI, GPIO and flash commands. 
1. REGISTER_WRITE of an existing register of a powered block that no command row takes stores what the register's codes allow;
with no register, a narrower access, a register closed to core 1 or an unpowered block it is a bus error; a lockstep mismatch drops it.
2. SYSTEM_BUS_ACCESS of the active debug module with no earlier error performs the access and keeps its address, its data and a bus error,
the answer to any size but 4; one of a running core performs its load, fetch or store.
3. PMU_RTC_LO and SYS_MTIME_LO answer the lower half of their counters and latch the upper.
4. I2C_TRANSFER on an idle controller with LEN not 0 stores the command and begins the transfer, at once on a free bus; while one runs,
or with LEN 0, it is REFUSED.
5. I2C_TRANSFER_DONE ends the transfer: bytes moved, RESULT 0 or the kind of NACK, and the NACK's flag and event.
6. ARBITRATION_LOST notes byte and bit, sets their flag, and retries up to I2C_CFG.RETRY before ARB_GIVEUP; the retry starts
the transfer again once the bus has been free long enough.
7. BUS_STUCK ends the transfer with RESULT 4, I2C_BUSERR with RESULT 5; each raises its event.
8. I2C_TXD, UART_TXD and SPI_TXD push a byte into a FIFO with room; I2C_RXD, UART_RXD and SPI_RXD take the oldest received byte.
9. UART_RX_BYTE: outside recovery a good byte goes to a FIFO with room and sets RXDATA; a full one is an overrun; framing, parity
and break errors have flags.
10. UART_TX_COMPLETE empties its FIFO and sets TXEMPTY; SPI_TRANSFER starts a transfer on a select that exists;
SPI_TRANSFER_DONE ends it once all bytes have moved.
11. GPIO_SET and GPIO_CLR change bits of GPIO_OUT and the output pins follow; GPIO_EDGE brings a level to an input and notes an enabled edge.
12. QSPI_PROGRAM, QSPI_ERASE_4K, QSPI_ERASE_64K and QSPI_READ start on an idle controller.
13. QSPI_DONE performs and ends the command under way; QSPI_TIMEOUT of a program or erase that ran over 3 s ends it, its area unknown.
Rules: R6, R133, R134, R137, R142, R144, R394, R526, R647, R648, R649, R658. -/
def Obligations.BusAndSerial : Prop :=
  (∀ (s : State) (core : Fin 2) (addr size : Nat) (data : Word) (env : BusEnv) (l : List FieldRow), 0x40000000 ≤ addr → addr < 0x50000000 → (env.differs = none ∨ s.lockstep = false →
        (fieldsAt addr = some l → size = 4 → s.c1Refused core (blockOf addr) (addr % 0x10000) = false → s.on (blockDom (blockOf addr)) = true → cmdWrite core (blockOf addr) (addr % 0x10000) data env s = none →
          exec (.registerWrite core addr size data env) s = .next (s.plainWrite (blockOf addr) addr data.toNat l)) ∧
        (fieldsAt addr = none ∨ size ≠ 4 ∨ s.c1Refused core (blockOf addr) (addr % 0x10000) = true ∨ s.on (blockDom (blockOf addr)) = false → exec (.registerWrite core addr size data env) s = .next (s.answer .busError))) ∧
      (∀ g, env.differs = some g → s.lockstep = true → exec (.registerWrite core addr size data env) s = .next ((s.answer .none).mismatch g.val addr))) ∧
  (∀ (s : State) (op : BusOp) (addr size : Nat) (data : Word) (ecc : Fin 3) (env : BusEnv) (a : State), s.dbgOn = true → s.cpu.dbg.sberror = 0 →
      (size ≠ 4 → exec (.systemBusAccess .debug op addr size data ecc env) s = .next (s.dbgSet fun d => { d with sberror := 4 })) ∧
      (size = 4 → a = ((if op = .store then s.busStore .debug addr size data env else s.busLoad .debug addr size ecc).dbgSet fun d => { d with sbaddr := addr }) →
        (a.resp = .busError → exec (.systemBusAccess .debug op addr size data ecc env) s = .next (a.dbgSet fun d => { d with sberror := 2 })) ∧
        (∀ w, a.resp = .data w → exec (.systemBusAccess .debug op addr size data ecc env) s = .next (a.dbgSet fun d => { d with sbdata := w.toNat })) ∧
        (a.resp = .ok → exec (.systemBusAccess .debug op addr size data ecc env) s = .next a)) ∧
      (∀ n, s.coresRun = true → env.differs = none → exec (.systemBusAccess (.core n) op addr size data ecc env) s = .next (if op = .store then s.busStore (.core n) addr size data env else s.busLoad (.core n) addr size ecc))) ∧
  (∀ (s : State), s.on Dom.aon = true → s.on Dom.core = true → exec .pmuRtcLo s = .next (((s.answer .ok).setF R.PMU_RTC_HI_TICKS (s.rtc / 2 ^ 32)).answer (.data (BitVec.ofNat 32 s.rtc))) ∧
      exec .sysMtimeLo s = .next ((s.setF R.SYS_MTIME_HI_HI (s.mtime / 2 ^ 32)).answer (.data (BitVec.ofNat 32 s.mtime)))) ∧
  (∀ (s : State) (i : Fin 2) (addr : Nat) (a10 rd : Bool) (len : Nat) (rstart : Bool), s.on Dom.core = true → (len % 256 ≠ 0 → s.isSet (R.I2C_STATUS_BUSY i.val) = false → exec (.i2cTransfer i addr a10 rd len rstart) s = .next (((s.answer .ok).setFs [(R.I2C_CMD_ADDR i.val, addr), (R.I2C_CMD_A10 i.val, if a10 then 1 else 0), (R.I2C_CMD_RD i.val, if rd then 1 else 0), (R.I2C_CMD_LEN i.val, len), (R.I2C_CMD_RSTART i.val, if rstart then 1 else 0), (R.I2C_STATUS_BUSY i.val, 1), (R.I2C_STATUS_ATTEMPT i.val, 0), (R.I2C_STATUS_XFERRED i.val, 0)]).i2cGo i.val)) ∧
      (s.isSet (R.I2C_STATUS_BUSY i.val) = true ∨ len % 256 = 0 → exec (.i2cTransfer i addr a10 rd len rstart) s = .next ((s.answer .ok).flag (R.I2C_INT_REFUSED i.val)))) ∧
  (∀ (s : State) (i : Fin 2) (nack : Fin 3) (count : Nat) (data : List Byte), s.isSet (R.I2C_STATUS_BUSY i.val) = true → (s.i2cOf i.val).run = true → exec ((.i2cTransferDone i nack count data)) s = .next ((let n := min count (s.getF (R.I2C_CMD_LEN i.val))
      let a := s.setF (R.I2C_STATUS_XFERRED i.val) n
      let a := if a.isSet (R.I2C_CMD_RD i.val) then a.i2cReceive i.val (data.take n) else a.setI2c i.val fun k => { k with tx := k.tx.drop n }
      let held := decide (nack.val = 0) && a.isSet (R.I2C_CMD_RSTART i.val)
      let a := a.i2cOff i.val (if held then none else some (a.now + a.i2cBuf i.val))
      let a := (a.doIf held fun v => v.setI2c i.val fun k => { k with held := true }).i2cEnd i.val nack.val
      a.doIf (decide (nack.val ≠ 0)) fun s => (s.flag (R.I2C_INT_NACK i.val)).i2cEvent Ev.I2C_NACK i.val))) ∧
  (∀ (s : State) (i : Fin 2) (byte bit : Nat) (data : List Byte) (bus : I2cLine), (s.isSet (R.I2C_STATUS_BUSY i.val) = true → (s.i2cOf i.val).run = true → exec (.arbitrationLost i byte bit data) s = .next (let addr := decide (byte < s.i2cAddrBytes i.val)
      let rd := s.isSet (R.I2C_CMD_RD i.val)
      let a := s.setFs [(R.I2C_ARB_BYTE i.val, byte), (R.I2C_ARB_BIT i.val, bit)]
      let a := (a.i2cOff i.val none).flag (if addr then R.I2C_INT_ARBLOST_ADDR i.val else R.I2C_INT_ARBLOST_DATA i.val)
      let a := (a.satInc (R.I2C_CNT_ARBLOST i.val)).i2cEvent Ev.I2C_ARBLOST i.val
      let whole := if addr then 0 else byte - s.i2cAddrBytes i.val + (if rd ∧ bit = 8 then 1 else 0)
      let a := a.setF (R.I2C_STATUS_XFERRED i.val) whole
      let a := a.doIf (!addr && rd) fun s => s.i2cReceive i.val (data.take whole)
      let a := a.doIf (!addr && !rd) fun s => (s.flag (R.I2C_INT_TGT_UNKNOWN i.val)).i2cEvent Ev.I2C_TGT_UNKNOWN i.val
      let n := a.getF (R.I2C_STATUS_ATTEMPT i.val)
      if n < a.getF (R.I2C_CFG_RETRY i.val) then a.setF (R.I2C_STATUS_ATTEMPT i.val) (n + 1)
      else (((a.satInc (R.I2C_CNT_GIVEUP i.val)).flag (R.I2C_INT_GIVEUP i.val)).i2cEvent Ev.I2C_ARB_GIVEUP i.val).i2cEnd i.val 3)) ∧
      (s.on Dom.core = true → exec (.i2cRetry i bus) s = .next ((s.i2cSees i.val bus).i2cGo i.val)) ∧
      (∀ t, s.isSet (R.I2C_STATUS_BUSY i.val) = true → (s.i2cOf i.val).run = false → (s.i2cOf i.val).freeAt = some t → t + s.getF (R.I2C_STATUS_ATTEMPT i.val) * 32 * s.i2cPeriod i.val ≤ s.now →
        s.i2cGo i.val = (s.setI2c i.val fun k => { k with run := true, held := false, freeAt := none }).setF (R.I2C_STATUS_XFERRED i.val) 0)) ∧
  (∀ (s : State) (i : Fin 2) (count : Nat) (data : List Byte), s.isSet (R.I2C_STATUS_BUSY i.val) = true → exec (.busStuck i count data) s = .next (((s.flag (R.I2C_INT_STUCK i.val)).i2cEvent Ev.I2C_BUS_STUCK i.val).i2cAbort i.val 4 count data) ∧
      ((s.i2cOf i.val).run = true → exec (.i2cBuserr i count data) s = .next (((s.flag (R.I2C_INT_BUSERR i.val)).i2cEvent Ev.I2C_BUSERR i.val).i2cAbort i.val 5 count data))) ∧
  (∀ (s : State) (i : Fin 2) (data : Byte) (b : Byte) (l : List Byte), s.on Dom.core = true → exec (.i2cTxd i data) s = .next ((s.answer .ok).setI2c i.val fun k => if k.tx.length < 32 then { k with tx := k.tx ++ [data] } else k) ∧
      ((s.uartOf i.val).tx.length < 64 → exec (.uartTxd i data) s = .next ((s.answer .ok).setUart i.val { s.uartOf i.val with tx := (s.uartOf i.val).tx ++ [data] })) ∧
      (s.spi.tx.length < 32 → exec (.spiTxd data) s = .next (State.spiPump 32 ((s.answer .ok).setSpi { s.spi with tx := s.spi.tx ++ [data] }))) ∧
      ((s.i2cOf i.val).rx = b :: l → exec (.i2cRxd i) s = .next (((s.answer .ok).setI2c i.val fun k => { k with rx := l }).answer (.data (b.zeroExtend 32)))) ∧
      exec (.uartRxd i) s = .next (((s.setUart i.val { s.uartOf i.val with rx := (s.uartOf i.val).rx.drop 1 }).drivePins).answer (.data (BitVec.ofNat 32 (byteAt (s.uartOf i.val).rx 0)))) ∧
      exec .spiRxd s = .next ((State.spiPump 32 (s.setSpi { s.spi with rx := s.spi.rx.drop 1 })).answer (.data (BitVec.ofNat 32 (byteAt s.spi.rx 0))))) ∧
  (∀ (s : State) (i : Fin 2) (data : Byte), s.on Dom.core = true → ((s.uartOf i.val).rx.length < 64 → (s.cpu.bootRom && s.isSet R.SYS_BOOT_RECOVERY) = false → exec (.uartRxByte i data 0) s = .next (((s.setUart i.val { s.uartOf i.val with rx := (s.uartOf i.val).rx ++ [data] }).flag (R.UART_INT_RXDATA i.val)).drivePins)) ∧
      (64 ≤ (s.uartOf i.val).rx.length → exec (.uartRxByte i data 0) s = .next ((s.satInc (R.UART_CNT_OVERRUN i.val)).uartErr i.val 3 (R.UART_INT_OVERRUN i.val))) ∧
      exec (.uartRxByte i data 1) s = .next ((s.satInc (R.UART_CNT_FRAME i.val)).uartErr i.val 1 (R.UART_INT_FRAMING i.val)) ∧
      (s.uartParity i.val = true → exec (.uartRxByte i data 2) s = .next ((s.satInc (R.UART_CNT_FRAME i.val)).uartErr i.val 2 (R.UART_INT_PARITY i.val))) ∧
      exec (.uartRxByte i data 4) s = .next (s.uartErr i.val 4 (R.UART_INT_BREAK i.val))) ∧
  (∀ (s : State) (i : Fin 2) (len : Fin 256) (cs : Fin 8) (hold : Bool) (miso : List Byte), s.on Dom.core = true → ((s.uartOf i.val).tx ≠ [] → s.uartFlow i.val = false → exec (.uartTxComplete i) s = .next ((s.setUart i.val { s.uartOf i.val with tx := [] }).flag (R.UART_INT_TXEMPTY i.val))) ∧
      (s.isSet R.SPI_STATUS_BUSY = false → len.val ≠ 0 → cs.val = 0 → exec (.spiTransfer len cs hold miso) s = .next (State.spiPump 32 (((s.answer .ok).setSpi { s.spi with len := len.val, miso := miso, sel := some cs.val, hold := hold }).setFs [(R.SPI_STATUS_BUSY, 1), (R.SPI_STATUS_XFERRED, 0)]).drivePins)) ∧
      (s.isSet R.SPI_STATUS_BUSY = true → s.getF R.SPI_STATUS_XFERRED = s.spi.len → exec .spiTransferDone s = .next (((s.setSpi { s.spi with sel := if s.spi.hold then s.spi.sel else none, miso := [] }).drivePins).setFlags [R.SPI_INT_DONE] [(R.SPI_STATUS_BUSY, 0)]))) ∧
  (∀ (s : State) (data : Word) (pin : Fin 24) (level : Bool), s.on Dom.core = true → exec (.gpioSet data) s = .next ((s.answer .ok).setF R.GPIO_OUT_LEVEL (s.getF R.GPIO_OUT_LEVEL ||| data.toNat % 2 ^ 24)).drivePins ∧
      exec (.gpioClr data) s = .next ((s.answer .ok).setF R.GPIO_OUT_LEVEL (s.getF R.GPIO_OUT_LEVEL ^^^ (s.getF R.GPIO_OUT_LEVEL &&& data.toNat))).drivePins ∧
      (s.pinDrive pin.val = none → s.bitF R.GPIO_IN_LEVEL pin.val ≠ level → exec (.gpioEdge pin level) s = .next (let a := s.setBitF R.GPIO_IN_LEVEL pin.val level
      if (a.pinEdge pin.val).testBit (if level then 0 else 1) then a.flagBits R.GPIO_INT_EDGE (2 ^ pin.val) else a))) ∧
  (∀ (s : State) (len : Fin 512), s.on Dom.core = true → exec (.qspiProgram len) s = .next ((s.answer .ok).qspiStart 1 (s.getF R.QSPI_ADDR_ADDR) len.val) ∧ exec .qspiErase4k s = .next ((s.answer .ok).qspiStart 2 (s.getF R.QSPI_ADDR_ADDR / 4096 * 4096) 4096) ∧
      exec .qspiErase64k s = .next ((s.answer .ok).qspiStart 3 (s.getF R.QSPI_ADDR_ADDR / 65536 * 65536) 65536) ∧ exec (.qspiRead len) s = .next ((s.answer .ok).qspiStart 4 (s.getF R.QSPI_ADDR_ADDR) len.val) ∧
      ∀ (t : State) (op a n : Nat), t.isSet R.QSPI_STATUS_BUSY = false → n ≠ 0 → n ≤ 256 ∨ (op ≠ 1 ∧ op ≠ 4) → a + n ≤ t.flashSize → op = 4 ∨ t.flashMay a n = true →
      t.qspiStart op a n = (({ t with qspi := some ⟨op, a, n, ((List.range 64).flatMap fun k => leBytes 4 (t.getF (R.QSPI_BUF_W k))).take n⟩ } : State).setFs [(R.QSPI_STATUS_BUSY, 1), (R.QSPI_STATUS_FLASHBUSY, if op = 4 then 0 else 1)]).arm .qspi (3 * secNs)) ∧
  (∀ (s : State) (k : QspiCmd), s.qspi = some k → exec .qspiDone s = .next ((if k.op = 1 then s.program k.addr k.data else if k.op = 4 then s.qspiFill (s.flashBytes k.addr k.len) else s.erase k.addr k.len).qspiEnd R.QSPI_INT_DONE) ∧
      (s.due .qspi = true → k.op ≠ 4 → exec .qspiTimeout s = .next (let a := if k.op = 1 then k.addr / 256 * 256 else k.addr
      let n := if k.op = 1 then (k.addr + k.len + 255) / 256 * 256 - a else k.len
      let x := s.draw (8 * n)
      ((x.2.flashLeave a (leBytes n x.1)).qspiEnd R.QSPI_INT_TIMEOUT).raise Ev.QSPI_TIMEOUT)))

/-- Bases, their selection, steps, wraps and time triggers. 
1. SNAP copies the four bases; TB3_ALIGN steps TB3 by −D and makes D 0; SEL_A and SEL_B select their base, and one lost in that very cycle is
lost after the selection.
2. BASE_STEP of TB0 or TB1 adds its signed nanoseconds to the base, keeps TB3 by moving D when the base is selected, and raises
TIM_STEP; of TB2 or TB3 it is ignored with REFUSED.
3. DOMAIN_LOCK_WRITE stores TIM_DOM and judges the domains; SYNC_TIMEOUT ends a domain's arriving and judges them; BASE_WRAP sets
the WRAP flag of a base that has wrapped.
4. TRIGGER_FIRE of an armed trigger whose comparison holds: HALF 0 fires, HALF 1 does not, NEXT moves on, and firings passed over
are counted as missed.
5. The actions of a trigger with HALF 0 and a PERIOD up to 2³¹ − 1 ns: as many periods are added to NEXT as bring it past the
base, and the first is the firing.
6. TRIGGER_ARM stores the trigger's configuration, but refuses an FSYNC target whose pin is not set in PINS.FSYNC_EN;
FSYNC_PULSE_END ends the pin's pulse.
Rules: R432, R433, R435, R436, R438, R439, R440, R442, R453. -/
def Obligations.TimeBlock : Prop :=
  (∀ (s : State), s.on Dom.net = true → exec .snap s = .next ((s.answer .ok).setFs ((List.range 4).map fun n => (R.TIM_TB_SNAP_NS n, s.base n))) ∧
      exec .tb3Align s = .next ((((s.answer .ok).addTb 3 (-s.tim.d)).timSet fun t => { t with d := 0 }).raise Ev.TIM_TB3_STEP (BitVec.ofInt 32 (s.tim.d / 2 ^ 32)).toNat) ∧
      ∀ (n : Nat) (c : Instr) (u : State), (c = .selA ∧ n = 0) ∨ (c = .selB ∧ n = 1) → u = ((s.answer .ok).selectBase n).timEval → exec c s = .next (
        if u.getF R.TIM_STAT_SEL = n ∧ u.domGood n = false ∧ u.isSet R.TIM_STAT_HOLDOVER = false ∧ u.tim.lostAt.getD n 0 = u.now + 1 then u.selLost else u)) ∧
  (∀ (s : State) (n : Fin 4) (step : Word), s.on Dom.net = true → (n.val < 2 → exec (.baseStep n step) s = .next (let x := step.toInt * 2 ^ 32
      let a := (s.answer .ok).addTb n.val x
      (if s.getF R.TIM_STAT_SEL = n.val then a.timSet fun t => { t with d := fix64 (t.d - x) } else a).raise Ev.TIM_STEP n.val step.toNat)) ∧
      (2 ≤ n.val → exec (.baseStep n step) s = .next ((s.answer .ok).flag R.TIM_INT_REFUSED))) ∧
  (∀ (s : State) (data : Word) (d : Fin 2) (n : Fin 4), s.on Dom.net = true → exec (.domainLockWrite data) s = .next ((s.answer .ok).storeAt R.TIM_DOM_LOCK_A.addr data.toNat R.TIM_INT_CLAMP).timEval ∧
      (s.due (.sync d.val) = true → exec (.syncTimeout d) s = .next ((((s.disarm (.sync d.val)).setF (if d.val = 0 then R.TIM_STAT_A_ARRIVING else R.TIM_STAT_B_ARRIVING) 0).raise Ev.TIM_LOSS d.val).timEval)) ∧
      (s.tim.wraps.contains n.val = true → exec (.baseWrap n) s = .next ((s.timSet fun t => { t with wraps := t.wraps.filter fun m => m != n.val }).flagBits R.TIM_INT_WRAP (2 ^ n.val)))) ∧
  (∀ (s : State) (k : Fin 8), s.on Dom.net = true → s.isSet (R.TIM_TTRG_CFG_EN k.val) = true → s.ttrgHolds k.val = true → exec ((.triggerFire k)) s = .next ((let half := s.isSet (R.TIM_TTRG_CFG_HALF k.val)
      let r := s.ttrgActs k.val
      let missed := if half then r.2 else r.2 - 1
      let a := if 0 < r.2 ∧ half = false then r.1.ttrgFire k.val else r.1
      if 0 < missed then ((a.satAdd (R.TIM_TTRGCNT_MISSED k.val) missed).raiseInt Ev.TIM_TTRG_MISS R.TIM_INT_MISS k.val missed) else a))) ∧
  (∀ (s : State) (k : Fin 8), s.getF (R.TIM_TTRG_PERIOD_NS k.val) ≤ 2147483647 → s.isSet (R.TIM_TTRG_CFG_HALF k.val) = false → s.ttrgActs k.val = (let p := s.getF (R.TIM_TTRG_PERIOD_NS k.val)
      let n := (i32 ((s.base (s.getF (R.TIM_TTRG_CFG_BASE k.val)) + 2 ^ 32 - s.getF (R.TIM_TTRG_NEXT_NS k.val)) % 2 ^ 32)).toNat / p + 1
      (s.setF (R.TIM_TTRG_NEXT_NS k.val) (s.getF (R.TIM_TTRG_NEXT_NS k.val) + n * p), n))) ∧
  (∀ (s : State) (k : Fin 8) (data : Word) (pin : Fin 4), s.on Dom.net = true → (data.toNat % 16 < 2 ∨ (5 < data.toNat % 16 ∧ data.toNat % 16 ≤ 9) → exec (.triggerArm k data) s = .next ((s.answer .ok).storeAt (R.TIM_TTRG_CFG_TARGET k.val).addr data.toNat R.TIM_INT_CLAMP)) ∧
      (data.toNat.testBit 8 = true → 2 ≤ data.toNat % 16 → data.toNat % 16 ≤ 5 → (s.cfg Img.PINS_FSYNC_EN 0).testBit (data.toNat % 16 - 2) = false → exec (.triggerArm k data) s = .next ((s.answer .ok).flag R.TIM_INT_REFUSED)) ∧
      (s.due (.fsync pin.val) = true → exec (.fsyncPulseEnd pin) s = .next ((s.disarm (.fsync pin.val)).timSet fun t => { t with fsync := t.fsync.filter fun p => p != pin.val })))

/-- Operating points, the AD's clock plan, tile power-up and memory training. 
1. APLL_SLEW_DONE reaches the item's F_top and acknowledges it; SLEW_TIMEOUT returns to the old F_top, reports, and refuses the
item with reason 2.
2. TILE_POWER_UP of a used tile that is off, 10 µs after the last, powers it and brings it to its start state.
3. MEMORY_TRAINED takes the training from step to step, back to step 3 for a lower rate; at a passing rate step 8 completes it and starts MR4 and oscillator polling; when no rate passes, MC_TRAIN_FAIL.
4. MR4_POLL each 16 ms notes both channels' MR4, DRAM_REFRESH applies it from the next interval, and WCK_OSC_MEASURE each 64 ms
reports a drift.
5. CLOCK_PLAN_ACK_TIMEOUT: the first time the item is sent once more, the second time the change fails.
6. TPOINT_REQUEST stores each tile's requested point and TCAP_WRITE the cap, and the PMU carries out what follows; TCAP_WRITE is
ignored with REFUSED while THM works.
7. VOUT_POLL: a change under way judges the voltage read; a WORK entry goes on when it lies within 10 mV of the target and fails
on no answer. VOUT_TIMEOUT after 200 µs writes the old voltage back, or fails the entry.
Rules: R202, R204, R205, R209, R210, R215, R218, R573. -/
def Obligations.ClocksAndDram : Prop :=
  (∀ (s : State) (it old : ClockItem), s.dspLive = true → s.ad.dsp.slew = some (it, old) → exec .apllSlewDone s = .next ((((s.dspSet fun d => { d with slew := none }).disarm .slew).setFs [(R.ACG_FTOP_POINT, it.ftop), (R.ACG_STAT_SLEWING, 0)]).configAck it.tag 0 0) ∧
      (s.due .slew = true → exec .slewTimeout s = .next ((((((s.dspSet fun d => { d with slew := none }).disarm .slew).setDividers old).setFs [(R.ACG_FTOP_POINT, old.ftop), (R.ACG_STAT_SLEWING, 0)]).adRaise 0x2501 1 it.ftop 0).configAck it.tag 1 2))) ∧
  (∀ (s : State) (tile : Fin 16), s.inWork = true → s.on Dom.adCtl = true → s.adLive = true → s.tileUsed tile.val = true → s.on (Dom.tile tile.val) = false → ((s.pmu.tileAt.any fun a => decide (s.now < a + 10 * usNs)) = false) → exec ((.tilePowerUp tile)) s = .next (((((s.setBitF R.PMU_DOMST_ON (Dom.tile tile.val) true).pmuSet fun p => { p with tileAt := some s.now, told := (p.told.1, p.told.2.set tile.val p.told.1) }).freshTile tile.val).pointsChanged))) ∧
  (∀ (s : State) (step : Fin 9) (rate : Fin 4) (density : Fin 9), s.on Dom.adMem = true → s.adLive = true → s.isSet R.MC_TRAIN_DONE = false → s.isSet R.MC_TRAIN_FAIL = false →
      (step.val ≠ 8 → step.val = s.getF R.MC_TRAIN_STEP + 1 ∨ (s.getF R.MC_TRAIN_STEP = 7 ∧ step.val = 3) → exec (.memoryTrained step rate density) s = .next (s.setF R.MC_TRAIN_STEP step.val)) ∧
      (step.val = 8 → s.getF R.MC_TRAIN_STEP = 7 ∨ rate.val = 3 → exec (.memoryTrained step rate density) s = .next (
      let a := s.setFs [(R.MC_CFG_SPEED, rate.val), (R.MC_CFG_DENSITY, density.val)]
      if rate.val = 3 then (a.setF R.MC_TRAIN_FAIL 1).adRaise 0x2401 1 0 0
      else ((a.setFs [(R.MC_TRAIN_STEP, 8), (R.MC_TRAIN_DONE, 1)]).arm .mr4 (16 * msNs)).arm .wck (64 * msNs)))) ∧
  (∀ (s : State) (a b : Byte) (hot drift : Bool) (channel : Fin 2), s.adLive = true → s.isSet R.MC_TRAIN_DONE = true → (s.due .mr4 = true → exec (.mr4Poll a b hot) s = .next (let u := ((s.rearm .mr4 (16 * msNs)).setFs [(R.MC_MR4_MR4 0, a.toNat), (R.MC_MR4_MR4 1, b.toNat)]).dspSet fun d => { d with mr4Next := [a.toNat, b.toNat] }
      if hot then u.adRaise 0x2402 2 a.toNat b.toNat else u)) ∧
      exec (.dramRefresh channel) s = .next (s.dspSet fun d => { d with refresh := d.refresh.set channel.val (d.mr4Next.getD channel.val 0) }) ∧
      (s.due .wck = true → exec (.wckOscMeasure drift) s = .next (if drift then (s.rearm .wck (64 * msNs)).adRaise 0x2403 3 0 0 else s.rearm .wck (64 * msNs)))) ∧
  (∀ (s : State) (d : Dvfs), s.pmu.dvfs = some d → s.due .planAck = true → exec .clockPlanAckTimeout s = .next ((if d.again then s.itemFails else (s.pmuSet fun p => { p with dvfs := some { d with again := true } }).sendItem { d with again := true }))) ∧
  (∀ (s : State) (data : Word) (cap : Nat), s.on Dom.aon = true → exec (.tpointRequest data) s = .next ((s.answer .ok).forN 16 fun t s => s.setF (R.PMU_TPOINT_REQ t) (data.toNat / 4 ^ t % 4)).pointsChanged ∧
      (s.isSet R.THM_CTL_EN = false → exec (.tcapWrite cap) s = .next ((s.answer .ok).setF R.PMU_TCAP_CAP cap).pointsChanged) ∧
      (s.isSet R.THM_CTL_EN = true → exec (.tcapWrite cap) s = .next ((s.answer .ok).flag R.THM_INT_REFUSED))) ∧
  (∀ (s : State) (d : Dvfs) (t : Trans) (mv : Option Nat), (s.due .voutPoll = true → s.pmu.dvfs = some d → exec (.voutPoll mv) s = .next (s.changePoll d mv)) ∧
      (s.due .voutPoll = true → s.pmu.dvfs = none → s.pmu.trans = some t → exec (.voutPoll mv) s = .next (match mv with
      | none => s.avsFail.failTrans t
      | some v => if s.voutNear v then s.workDomains t else s.rearm .voutPoll (10 * usNs))) ∧
      (s.due .vout = true → s.pmu.dvfs = some d → exec .voutTimeout s = .next (((s.writeVout d.oldMv).raiseInt Ev.PMU_DVFS_FAIL R.PMU_INT_DVFS).endChange)) ∧
      (s.due .vout = true → s.pmu.dvfs = none → s.pmu.trans = some t → exec .voutTimeout s = .next ((s.raiseInt Ev.PMU_DVFS_FAIL R.PMU_INT_DVFS).failTrans t)))

/-- Links, received and transmitted frames, timers of the switch and MDIO. 
1. PORT_LINK_UP of an enabled port with a mode, not disabled by flapping: a good control word brings the link up, a bad one keeps
it down.
2. PORT_LINK_DOWN takes the link down; the 16th within 60 s disables the port.
3. FRAME_RECEIVED on a link that is up: a sound frame that is no pause frame is counted and classified; one with a bad FCS, and
one too short, is counted as bad and dropped.
4. RX_TAIL_WRITE stores the ring's TAIL; TX_TAIL_WRITE stores TAIL and NET takes the descriptors it owns; an uncorrectable error
disables the ring.
5. FRAME_TRANSMITTED sends the port's next frame; LEARN_AGE frees an aged entry of the learning table; STORM_WINDOW starts a new
10 ms window; FUP_ENTRY_EXPIRY frees an entry unused for 100 ms.
6. Each of the six MDIO commands begins its operation when none runs.
7. MDIO_DONE ends the operation; a read stores its data, and without an answer 0xFFFF with NORESP.
Rules: R415, R417, R421, R423, R430, R451. -/
def Obligations.LinePorts : Prop :=
  (∀ (s : State) (port : Fin 2) (good : Bool), s.on Dom.net = true → s.bitF R.NET_CTL_PORT_EN port.val = true → s.getF (R.NET_PORT_ST_MODE port.val) ≠ 0 → s.isSet (R.NET_PORT_ST_OFF port.val) = false → s.linkUp port.val = false → exec ((.portLinkUp port good)) s = .next ((if good then ((s.setF (R.NET_PORT_ST_LINK port.val) 1).raiseInt Ev.NET_LINK_UP R.NET_INT_LINK port.val).crnLinkUp port.val else s.raise Ev.NET_SPEED_MISMATCH port.val))) ∧
  (∀ (s : State) (port : Fin 2), s.linkUp port.val = true → exec ((.portLinkDown port)) s = .next ((let l := s.window (60 * secNs) (s.net.downAt.getD port.val [])
      let a := ((s.portDown port.val).netSet fun n => { n with downAt := n.downAt.set port.val l }).raiseInt Ev.NET_LINK_DOWN R.NET_INT_LINK port.val
      if 16 ≤ l.length then (a.setF (R.NET_PORT_ST_OFF port.val) 1).raise Ev.NET_PORT_OFF port.val else a))) ∧
  (∀ (s : State) (port : Fin 2) (bytes : List Byte) (ue : Bool), s.linkUp port.val = true → (64 ≤ bytes.length + 4 → bytes.length + 4 ≤ (if tagged bytes then 1522 else 1518) → etherType bytes ≠ 0x8100 → etherType bytes ≠ 0x8808 →
      exec (.frameReceived port bytes true ue) s = .next ((s.wrapInc (R.NET_PORT_RX_FRAMES port.val)).classify port.val bytes ue)) ∧
      exec (.frameReceived port bytes false ue) s = .next ((s.satInc (R.NET_PORT_BAD_FCS port.val)).raise Ev.NET_RX_BAD port.val) ∧
      (bytes.length + 4 < 64 → exec (.frameReceived port bytes true ue) s = .next ((s.satInc (R.NET_PORT_BAD_OTHER port.val)).raise Ev.NET_RX_BAD port.val))) ∧
  (∀ (s : State) (q : Fin 17) (data : Word), s.on Dom.net = true → exec (.rxTailWrite q data) s = .next ((s.answer .ok).setF (R.NET_RXQ_TAIL_TAIL q.val) data.toNat) ∧
      (((s.answer .ok).setF R.NET_TXR_TAIL_TAIL data.toNat).ringHas netTx = true → exec (.txTailWrite data false) s = .next (((s.answer .ok).setF R.NET_TXR_TAIL_TAIL data.toNat).txPump 1024) ∧ exec (.txTailWrite data true) s = .next (((s.answer .ok).setF R.NET_TXR_TAIL_TAIL data.toNat).netRingErr netTx 17))) ∧
  (∀ (s : State) (port : Fin 2) (mac : Nat) (k : Fin 16), (s.linkUp port.val = true → exec (.frameTransmitted port) s = .next (s.sendNext (s.net.queues.getD port.val []).length port.val)) ∧
      (s.due (.learn mac) = true → exec (.learnAge mac) s = .next ((s.disarm (.learn mac)).netSet fun n => { n with learn := n.learn.filter fun e => e.1 != mac })) ∧
      (s.due (.storm port.val) = true → exec (.stormWindow port) s = .next ((s.rearm (.storm port.val) (10 * msNs)).netSet fun n => { n with storm := n.storm.set port.val 0 })) ∧
      (s.due (.fup k.val) = true → exec (.fupEntryExpiry k) s = .next ((s.netSet fun n => { n with fup := n.fup.set k.val none }).disarm (.fup k.val)))) ∧
  (∀ (s : State) (phy reg : Fin 32), s.on Dom.net = true → s.isSet R.NET_MDIO_ST_BUSY = false → (let start : Nat → State := fun op => ((s.answer .ok).setF R.NET_MDIO_ST_BUSY 1).netSet fun n => { n with mdio := some ⟨op, phy.val, reg.val, s.getF R.NET_MDIO_DATA_DATA⟩ }
      exec (.c22Write phy reg) s = .next (start 0) ∧ exec (.c22Read phy reg) s = .next (start 1) ∧ exec (.c45Address phy reg) s = .next (start 2) ∧
      exec (.c45Write phy reg) s = .next (start 3) ∧ exec (.c45Read phy reg) s = .next (start 4) ∧ exec (.c45ReadIncrement phy reg) s = .next (start 5))) ∧
  (∀ (s : State) (m : MdioOp) (data : Option Word), s.net.mdio = some m → exec ((.mdioDone data)) s = .next ((let a := (s.netSet fun n => { n with mdio := none }).setFlags [R.NET_INT_MDIO] [(R.NET_MDIO_ST_BUSY, 0), (R.NET_MDIO_ST_RESULT, 0)]
      if m.op = 1 ∨ m.op = 4 ∨ m.op = 5 then
      (match data with
      | some w => a.setF R.NET_MDIO_DATA_DATA w.toNat
      | none => (a.setFs [(R.NET_MDIO_ST_RESULT, 1), (R.NET_MDIO_DATA_DATA, 0xFFFF)]).raise Ev.NET_MDIO_NORESP m.phy m.reg)
      else a)))

/-- Object transfers on the ring and the update unit. `u` is the state once the message `m` has been taken from CRN's inbox. 
1. CHUNK_DATA of a remembered transfer is answered with STATUS 1 again; a fragment of an open transfer that agrees with it, and
the first of a transfer the node may take, are taken; one outside its object closes the transfer and is refused.
2. CHUNK_ACK_TIMER acknowledges an open transfer; TRANSFER_IDLE_TIMEOUT closes one idle for 100 ms and counts it.
3. CHUNK_ACK of a running send transfer: STATUS 1 ends it well, STATUS 2 or 3 ends it with its REASON, and progress moves the
window.
4. TRANSFER_START takes the send descriptor at HEAD that CRN owns while fewer than four transfers run: an object of 1 byte to 64
MiB begins to be read, another ends with STATUS 2.
5. RESEND_TIMEOUT without progress resends every unacknowledged fragment, and the eighth ends the transfer with STATUS 3.
6. REDUCE and REDUCE_FIRST, with no lost data: slot sums of f · g over the chunk, in FP32, and the completion; with poison in what they
read they write nothing and complete poisoned; the update unit shows the action.
7. UPDATE updates every tensor of the segment but one with lost data, NORM writes per tensor of the segment q and whether an element is
not finite, and nothing for one with lost data; and then the completion, poisoned where data was lost.
Rules: R474, R475, R476, R489, R490. -/
def Obligations.LearningTraffic : Prop :=
  (∀ (s : State) (m : CrnMsg) (u : State) (t : XferRx) (ue : Bool), s.chunkTake = some (m, u) → (u.crn.doneIds.contains (m.src, beAt m.body 0 4) = true → exec (.chunkData ue) s = .next (u.xferAck m.src (beAt m.body 0 4) (beAt m.body 4 4) 0 1 0)) ∧
      (u.crn.doneIds.contains (m.src, beAt m.body 0 4) = false → beAt m.body 4 4 ≠ 0 → beAt m.body 4 4 ≤ 67108864 → beAt m.body 8 4 % 1024 = 0 → beAt m.body 8 4 < beAt m.body 4 4 →
      beAt m.body 26 2 = min 1024 (beAt m.body 4 4 - beAt m.body 8 4) → m.body.length = 28 + beAt m.body 26 2 →
      (u.crn.rx.find? (fun t => t.src == m.src && t.id == beAt m.body 0 4) = some t → t.total = beAt m.body 4 4 → t.dest = beAt m.body 12 4 → t.kind = byteAt m.body 24 →
      exec (.chunkData ue) s = .next (u.rxFrag t m (beAt m.body 8 4) (m.body.drop 28) ue)) ∧
      (u.crn.rx.find? (fun t => t.src == m.src && t.id == beAt m.body 0 4) = none → u.rxRefused (beAt m.body 4 4) (beAt m.body 12 4) (byteAt m.body 24) = 0 →
      exec (.chunkData ue) s = .next (let t : XferRx := ⟨u.crn.nextSer, m.src, beAt m.body 0 4, beAt m.body 4 4, beAt m.body 12 4, beAt m.body 16 4, beAt m.body 20 4, byteAt m.body 24, [], 0⟩
      (u.crnSet fun c => { c with nextSer := c.nextSer + 1, rx := c.rx ++ [t] }).rxFrag t m (beAt m.body 8 4) (m.body.drop 28) ue)) ∧
      (u.crn.rx.find? (fun t => t.src == m.src && t.id == beAt m.body 0 4) = none → u.rxRefused (beAt m.body 4 4) (beAt m.body 12 4) (byteAt m.body 24) ≠ 0 →
      exec (.chunkData ue) s = .next (u.xferAck m.src (beAt m.body 0 4) 0 0 2 (u.rxRefused (beAt m.body 4 4) (beAt m.body 12 4) (byteAt m.body 24))))) ∧
      (u.crn.doneIds.contains (m.src, beAt m.body 0 4) = false → beAt m.body 4 4 = 0 ∨ 67108864 < beAt m.body 4 4 ∨ beAt m.body 8 4 % 1024 ≠ 0 ∨ beAt m.body 4 4 ≤ beAt m.body 8 4 →
      (u.crn.rx.find? (fun t => t.src == m.src && t.id == beAt m.body 0 4) = none → exec (.chunkData ue) s = .next ((u.crnBad m.port 5).xferAck m.src (beAt m.body 0 4) 0 0 2 1)) ∧
      (u.crn.rx.find? (fun t => t.src == m.src && t.id == beAt m.body 0 4) = some t → exec (.chunkData ue) s = .next (((u.rxClose t.ser).crnBad m.port 5).xferAck m.src (beAt m.body 0 4) 0 0 2 1)))) ∧
  (∀ (s : State) (src id : Nat) (t : XferRx), (s.crn.rx.find? (fun t => t.src == src && t.id == id) = some t) → (s.due (.chunkAck t.ser) = true → exec (.chunkAckTimer src id) s = .next (s.ackNow t)) ∧
      (s.due (.xferIdle t.ser) = true → exec (.transferIdleTimeout src id) s = .next ((s.rxClose t.ser).satInc R.CRN_CNT_RXEXPIRED))) ∧
  (∀ (s : State) (m : CrnMsg) (u : State) (t : XferTx), s.crnTake CT.chunkAck = some (m, u) → (u.crn.tx.find? (fun t => t.id == beAt m.body 0 4 && t.dst == m.src) = some t) → (byteAt m.body 16 = 1 → exec .chunkAck s = .next ((u.txEnd t 1 0).crnAsk 8)) ∧
      (byteAt m.body 16 = 2 ∨ byteAt m.body 16 = 3 → exec .chunkAck s = .next ((u.txEnd t (byteAt m.body 16) (byteAt m.body 17)).crnAsk 8)) ∧
      (byteAt m.body 16 = 0 → beAt m.body 4 4 ≤ t.len → t.cum < beAt m.body 4 4 → exec .chunkAck s = .next
      ((((u.setTx t.ser fun t => { t with cum := beAt m.body 4 4, sack := beAt m.body 8 8, tries := 0, next := max t.next (beAt m.body 4 4) }).sendWindow 64 t.ser).arm (.resend t.ser) (2 * msNs))))) ∧
  (∀ (s : State) (b : List Byte), s.crnOn = true → s.ringHas crnTxq = true → s.crn.tx.length < 4 → b = s.ringRead (s.ringDesc crnTxq 32) 32 → (byteAt b 29).testBit 7 = true → exec ((.transferStart false)) s = .next ((let t : XferTx := ⟨s.crn.nextSer, s.crn.nextId, s.ringDesc crnTxq 32, fieldAt b 0 8, fieldAt b 8 4, fieldAt b 12 4, fieldAt b 16 8, fieldAt b 24 4, byteAt b 28, [], 0, none, 0, 0, 0, 0⟩
      let a := (s.ringNext crnTxq).crnSet fun c => { c with nextSer := c.nextSer + 1, nextId := (c.nextId + 1) % 2 ^ 32, tx := c.tx ++ [t] }
      if fieldAt b 8 4 = 0 ∨ 67108864 < fieldAt b 8 4 then a.txEnd t 2 1 else a.crnAsk 8))) ∧
  (∀ (s : State) (id : Nat) (t : XferTx), (s.crn.tx.find? (fun t => t.id == id) = some t) → s.due (.resend t.ser) = true → s.crn.inbox = [] → (7 ≤ t.tries → exec (.resendTimeout id) s = .next ((s.txEnd t 3 0).crnAsk 8)) ∧
      (t.tries < 7 → exec (.resendTimeout id) s = .next (((s.setTx t.ser fun t => { t with tries := t.tries + 1 }).arm (.resend t.ser) (2 * msNs)).forL t.unacked fun o s => s.sendFrag t o))) ∧
  (∀ (s : State) (tenant : Fin 16) (j : Job) (ts : List Nat) (p : PlanTenant) (errs : List (Nat × MemErr)) (first : Bool) (b : State) (e o : List (List Byte × Bool) × State), s.dspLive = true → s.ad.dsp.planOk = true → s.startable tenant = some (j, ts) → s.planOf tenant = some p → s.mayMove tenant = true → ((ts.all fun t => s.freeFor tenant t) = true) → s.on Dom.adUpd = true → s.isSet R.UPD_STAT_BUSY = false → j.op = 4 → j.arg 0 = (if first then 2 else 1) →
      b = s.setFs [(R.UPD_STAT_BUSY, 1), (R.UPD_STAT_ACTION, if first then 2 else 1), (R.UPD_STAT_TENANT, tenant)] →
      e = b.fetch j.tenant j.inAddr j.inLen errs → o = (if first then ([], e.2) else e.2.fetch j.tenant j.outAddr j.inLen (errs.filterMap fun p => if (j.inLen + 63) / 64 ≤ p.1 then some (p.1 - (j.inLen + 63) / 64, p.2) else none)) →
      (((e.1 ++ o.1).any (·.2)) = true → exec (if first then .reduceFirst tenant errs else .reduce tenant errs) s = .next (((o.2.updPoison j.tenant).beginPlain j 0 true).settle tenant)) ∧
      (((e.1 ++ o.1).any (·.2)) = false → exec (if first then .reduceFirst tenant errs else .reduce tenant errs) s = .next (
        let g := words32 (e.1.flatMap (·.1))
        let slot := words32 (o.1.flatMap (·.1))
        let r := (List.range g.length).map fun i => if first then fmul (j.arg 2) (g.getD i 0) else fadd (slot.getD i 0) (fmul (j.arg 2) (g.getD i 0))
        ((((o.2.updMoved j.tenant ((if first then 2 else 3) * j.inLen)).store j.tenant j.outAddr ((rowsOf 64 (padTo ((j.inLen + 63) / 64 * 64) (bytes32 r))).mapIdx fun i b =>
          (b.take (min 64 (j.inLen - 64 * i)), false))).beginPlain j j.inLen false).settle tenant)))) ∧
  (∀ (s : State) (tenant : Fin 16) (bad : Option (Nat × MemErr)) (j : Job) (ts : List Nat) (p : PlanTenant) (l : Lcb) (b : State) (action : Nat) (e : Option Tensor × State), s.dspLive = true → s.ad.dsp.planOk = true → s.startable tenant = some (j, ts) → s.planOf tenant = some p → s.mayMove tenant = true → ((ts.all fun t => s.freeFor tenant t) = true) → s.on Dom.adUpd = true → s.isSet R.UPD_STAT_BUSY = false → j.op = 4 → j.arg 0 = action → b = s.setFs [(R.UPD_STAT_BUSY, 1), (R.UPD_STAT_ACTION, action), (R.UPD_STAT_TENANT, tenant)] → l = lcbOf (b.lcbBytes tenant j.lcbAddr) → e = b.badTensor tenant l j.seg bad →
      (action = 4 → exec (.update tenant bad) s = .next (let u := ((e.2.updMoved tenant ((if l.sgd then 24 else 32) * (l.segBytes j.seg / 4))).forL (l.segment j.seg) fun t s =>
          if e.1 = some t then s else s.updTensor tenant l j.seg (j.arg 2 / 256 % 256) (j.arg 2 / 65536 % 64) t)
        ((if e.1.isSome then u.updPoison tenant else u).beginPlain j 0 e.1.isSome).settle tenant)) ∧
      (action = 3 → exec (.norm tenant bad) s = .next (let a := e.2.updMoved tenant (l.segBytes j.seg)
        let ts := l.segment j.seg
        let r := ts.map fun t => a.slotWords tenant l j.seg t false
        let q : List (Option (Nat × Bool)) := (List.range ts.length).map fun i =>
          if (ts[i]?).isSome ∧ ts[i]? = e.1 then none else some (sumSquares (r.getD i []), (r.getD i []).any fun x => !fFinite x)
        let u := a.forN ts.length fun i s => (match q.getD i none with
          | some (x, nf) => s.store tenant (j.outAddr + 8 * i) [(leBytes 4 x ++ leBytes 4 (if nf then 1 else 0), false)]
          | none => s)
        let u := (if q.any (fun x => match x with | some (_, nf) => nf | none => false) then (u.satInc R.UPD_NONFIN_COUNT).adRaise 0x2701 3 tenant 0 else u)
        ((if e.1.isSome then u.updPoison tenant else u).beginPlain j (8 * (q.filter Option.isSome).length) e.1.isSome).settle tenant)))

/-- Lockstep, hand-over, watchdogs, scrubbing and OTP reads. 
1. LOCKSTEP_MISMATCH in lockstep stops the pair with its consequences; AGREEMENT_FAULT raises its event and does the same with
group 3.
2. INTERRUPT_INPUT brings the line's level to both cores in lockstep, by core 0's name, and to the named core in a split.
3. SPLIT with a hand-over allowed, debug off, C1PC a word of SRAM and the pair in lockstep closes the session keys, starts C1 and
the split timer; otherwise it is refused.
4. JOIN in a split: the first core waits, the other core's JOIN restarts the pair in lockstep, or waits with it while C0 is halted; SPLIT_TIMEOUT before that is a CORE
reset.
5. WATCHDOG_KICK of a running watchdog: 0x5A5A begins a kick; 0xA5A5 within 100 µs, a quarter of WDT_MS after the last kick and
before the expiry, completes it; any other value expires it.
6. WATCHDOG_EXPIRY and KICK_HALF_TIMEOUT expire the watchdog: it stops, trips source WDT, raises SYS_WDT, and a CORE reset follows
10 µs later.
7. SCRUB_READ each PERIOD_US reads the next SRAM word: a single error is corrected, an uncorrectable one raised.
8. OTP_READ of an idle reader begins the read of a word, and is refused while one runs; OTP_READ_DONE gives the word's bytes and
whether one differs from its counterpart.
Rules: R381, R384, R385, R388, R390, R392, R393, R396, R399. -/
def Obligations.CorePair : Prop :=
  (∀ (s : State) (group : Fin 3) (addr : Word), s.lockstep = true → exec (.lockstepMismatch group addr) s = .next (s.mismatch group addr.toNat) ∧ exec (.agreementFault addr) s = .next ((s.raise Ev.SYS_AGREE_FAULT).mismatch 3 addr.toNat)) ∧
  (∀ (s : State) (core : Fin 2) (line : Fin 3), s.coresRun = true → (s.getF R.SYS_CORE_STATE = 0 → core.val = 0 → exec (.interruptInput core line) s = .next (let put : CoreSt → CoreSt := fun c => { c with irq := withBit c.irq line.val (s.irqLevel 0 line.val) }
      (s.setCore 0 put).setCore 1 put)) ∧
      (s.getF R.SYS_CORE_STATE ≠ 0 → exec (.interruptInput core line) s = .next (s.setCore core.val fun c => { c with irq := withBit c.irq line.val (s.irqLevel core.val line.val) }))) ∧
  (∀ (s : State), s.on Dom.core = true → s.coresRun = true → ((s.cfg Img.CORE_HANDOVER 0 ≠ 0 → s.isSet R.SYS_DBG_ACTIVE = false → sramWord (s.getF R.SYS_C1PC_ADDR) = true → s.lockstep = true → exec .split s = .next (let a := (s.answer .ok).forL sessionKeys fun b s => s.closeKey b
      let a := (a.setFlags [R.SYS_CINT_SPLIT] [(R.SYS_CORE_STATE, 2), (R.SYS_CORE_JOIN_WAIT, 0)]).startC1 (a.getF R.SYS_C1PC_ADDR)
      ((a.wrapInc R.SYS_SPLITCNT_SPLITS).arm .split (a.getF R.SYS_SPLITLIM_SPLIT_MS * msNs)).raise Ev.SYS_SPLIT)) ∧
      (s.cfg Img.CORE_HANDOVER 0 = 0 ∨ s.isSet R.SYS_DBG_ACTIVE = true ∨ sramWord (s.getF R.SYS_C1PC_ADDR) = false ∨ s.lockstep = false → exec .split s = .next ((s.answer .ok).flag R.SYS_CINT_REFUSED)))) ∧
  (∀ (s : State) (core : Fin 2), s.on Dom.core = true → s.getF R.SYS_CORE_STATE = 2 → (s.splitOver = false → s.isSet R.SYS_CORE_JOIN_WAIT = false → exec (.join core) s = .next ((s.answer .ok).setFs [(R.SYS_CORE_JOIN_WAIT, 1), (R.SYS_CORE_JOIN_CORE, core.val)])) ∧
      (s.splitOver = false → s.isSet R.SYS_CORE_JOIN_WAIT = true → s.getF R.SYS_CORE_JOIN_CORE ≠ core.val → s.isSet R.SYS_DBG_HALTED = false → exec (.join core) s = .next (s.answer .ok).joinPair) ∧
      (s.splitOver = false → s.isSet R.SYS_CORE_JOIN_WAIT = true → s.getF R.SYS_CORE_JOIN_CORE ≠ core.val → s.isSet R.SYS_DBG_HALTED = true → exec (.join core) s = .next ((s.answer .ok).cpuSet fun u => { u with joinDue := true })) ∧
      (∀ d, s.deadline .split = some d → d < s.now → exec .splitTimeout s = .next (((s.disarm .split).raise Ev.SYS_SPLIT_TO).coreResetBy 10))) ∧
  (∀ (s : State) (n : Fin 2) (value : Fin 65536), s.on Dom.core = true → s.isSet (wdtRun n.val) = true → ((s.cpu.wdt.getD n.val ⟨0, false⟩).half = false → value.val = 0x5A5A → exec (.watchdogKick n value) s = .next (((s.answer .ok).cpuSet fun c => { c with wdt := c.wdt.set n.val { s.cpu.wdt.getD n.val ⟨0, false⟩ with half := true } }).arm (.kick n.val) (100 * usNs))) ∧
      ((s.cpu.wdt.getD n.val ⟨0, false⟩).half = false → value.val ≠ 0x5A5A → exec (.watchdogKick n value) s = .next ((s.answer .ok).wdtExpire n.val)) ∧
      ((s.cpu.wdt.getD n.val ⟨0, false⟩).half = true → value.val = 0xA5A5 → s.due (.kick n.val) = false → s.due (.wdt n.val) = false → s.wdtMs * msNs / 4 ≤ s.now - (s.cpu.wdt.getD n.val ⟨0, false⟩).since →
      exec (.watchdogKick n value) s = .next ((s.answer .ok).wdtStart n.val)) ∧
      ((s.cpu.wdt.getD n.val ⟨0, false⟩).half = true → value.val ≠ 0xA5A5 → exec (.watchdogKick n value) s = .next ((s.answer .ok).wdtExpire n.val))) ∧
  (∀ (s : State) (n : Fin 2), (s.due (.wdt n.val) = true → exec (.watchdogExpiry n) s = .next (s.wdtExpire n.val)) ∧ (s.due (.kick n.val) = true → exec (.kickHalfTimeout n) s = .next (s.wdtExpire n.val)) ∧
      (s.armed .wdtReset = false → s.wdtExpire n.val = (let a := ((s.wdtStop n.val).assertTrip Src.wdt true).raise Ev.SYS_WDT n.val
      if a.armed .wdtReset then a else (a.cpuSet fun c => { c with cause := 7 + n.val }).arm .wdtReset (10 * usNs)))) ∧
  (∀ (s : State) (found : Fin 3), s.on Dom.core = true → s.isSet R.SYS_SCRUB_EN = true → s.dueOrNew .scrubber = true → exec ((.scrubRead found)) s = .next ((let a := 0x10000000 + 4 * s.cpu.scrub
      let u := (s.rearm .scrubber (s.getF R.SYS_SCRUB_PERIOD_US * usNs)).cpuSet fun c => { c with scrub := (c.scrub + 1) % 131072 }
      if found.val = 0 then u else if found.val = 1 then u.sramCe a else u.raise Ev.SYS_SRAM_UE a))) ∧
  (∀ (s : State) (offset : Fin 8192) (o : Nat), s.on Dom.core = true → (s.isSet R.SYS_OTPST_BUSY = false → exec (.otpRead offset) s = .next (((s.answer .ok).setFs [(R.SYS_OTPADDR_WORD, offset.val / 4), (R.SYS_OTPST_BUSY, 1)]).cpuSet fun c => { c with otpBusy := some (offset.val / 4 * 4) })) ∧
      (s.isSet R.SYS_OTPST_BUSY = true → exec (.otpRead offset) s = .next ((s.answer .ok).flag R.SYS_CINT_REFUSED)) ∧
      (s.cpu.otpBusy = some o → exec .otpReadDone s = .next (let b := (List.range 4).map fun i => s.otpOut (o + i)
      (s.setFs [(R.SYS_OTPDATA_DATA, leNat (b.map (·.1))), (R.SYS_OTPST_BUSY, 0), (R.SYS_OTPST_DISAGREE, if b.any (·.2) then 1 else 0)]).cpuSet fun c => { c with otpBusy := none })))

/-- The TAP and the debug module. 
1. IDCODE answers 0x0164_0001 and DTMCS its status; DMI reads a register of the module; every code but three selects BYPASS.
2. DMACTIVE_WRITE of 1 activates the module unless JTAG_LOCK is set without a session; of 0 it deactivates and resets it.
3. HALT_REQUEST halts hart 0 while it runs; RESUME_REQUEST first replays and then releases it, and a JOIN that waited
happens; SINGLE_STEP replays and runs one
instruction on C0, and in lockstep on C1.
4. ACCESS_REGISTER of an existing register while halted, with no error standing: a read answers the register, a write stores it
and records it for the replay (x0 stays 0); PROGRAM_BUFFER runs its words on both cores in lockstep.
Rules: R400, R401, R402, R403. -/
def Obligations.DebugCommands : Prop :=
  (∀ (s : State) (addr : Fin 128) (data : Word) (code : Fin 32), exec .idcode s = .next (s.tap 0x01 0x01640001#32) ∧ exec .dtmcs s = .next (s.tap 0x10 0x00000071#32) ∧
      (s.on Dom.core = true → exec (.dmi 1 addr data) s = .next (s.tap 0x11 (BitVec.ofNat 32 (s.dmiRead addr.val)))) ∧
      (code.val ≠ 0x01 → code.val ≠ 0x10 → code.val ≠ 0x11 → exec (.bypass code) s = .next (s.tap 0x1F 0#32))) ∧
  (∀ (s : State), s.on Dom.core = true → (s.isSet R.SYS_DBG_ACTIVE = false → s.jtagLock = false ∨ s.sessionOpen = true → exec (.dmactiveWrite true) s = .next ((s.setF R.SYS_DBG_ACTIVE 1).raiseInt Ev.SYS_DEBUG R.SYS_CINT_DEBUG)) ∧
      (s.isSet R.SYS_DBG_ACTIVE = false → s.jtagLock = true → s.sessionOpen = false → exec (.dmactiveWrite true) s = .next (s.raise Ev.SYS_DEBUG_REFUSED)) ∧
      exec (.dmactiveWrite false) s = .next ((s.setFs [(R.SYS_DBG_ACTIVE, 0), (R.SYS_DBG_HALTED, 0)]).dbgSet fun d => { DbgState.init with ir := d.ir })) ∧
  (∀ (s : State) (insn : Word), s.dbgOn = true → (s.coresRun = true → exec (.haltRequest 0) s = .next ((s.dbgHart 0).setF R.SYS_DBG_HALTED 1)) ∧
      (s.isSet R.SYS_DBG_HALTED = true → exec (.resumeRequest 0) s = .next (let a := (s.dbgHart 0).replay.setF R.SYS_DBG_HALTED 0
        if a.cpu.joinDue then a.joinPair else a)) ∧
      (s.isSet R.SYS_DBG_HALTED = true → exec (.singleStep 0 insn) s = .next (let a := (s.dbgHart 0).replay.setCore 0 fun c => c.run [insn]
      if a.getF R.SYS_CORE_STATE = 0 then a.setCore 1 fun c => c.run [insn] else a))) ∧
  (∀ (s : State) (regno : Fin 65536) (data : Word) (words : List Word), s.dbgOn = true → s.cpu.dbg.cmderr = 0 → s.cpu.dbg.absent = false → s.isSet R.SYS_DBG_HALTED = true → (dbgReg regno.val = true → exec (.accessRegister false regno data) s = .next (let v := if regno.val = 0x7B1 then s.cpu.c0.pc else Sparse.get 0 s.cpu.c0.regs regno.val
      (s.dbgSet fun d => { d with data0 := v }).answer (.data (BitVec.ofNat 32 v)))) ∧
      (dbgReg regno.val = true → regno.val ≠ 0x1000 → exec (.accessRegister true regno data) s = .next (((s.dbgSet fun d => { d with data0 := data.toNat }).setCore 0 fun c => { c with regs := Sparse.set 0 c.regs regno.val data.toNat, pc := if regno.val = 0x7B1 then data.toNat else c.pc }).logReplay regno.val data.toNat)) ∧
      (regno.val = 0x1000 → exec (.accessRegister true regno data) s = .next (s.dbgSet fun d => { d with data0 := data.toNat })) ∧
      exec (.programBuffer words) s = .next (let l := words.take 8
      let a := s.dbgSet fun d => { d with progbuf := (List.range 8).map fun i => (l.getD i 0#32).toNat }
      let code := a.cpu.dbg.progbuf.map (BitVec.ofNat 32)
      let b := a.setCore 0 fun c => c.run code
      if b.getF R.SYS_CORE_STATE = 0 then b.setCore 1 fun c => c.run code else b))

/-- POR, supplies, clocks, the cold start and the resets. 
1. POR brings everything but flash, OTP, the boot ROM and what waits in the queue to its reset value, a page being written is torn; POR_RELEASE clears the
real-time counter and begins the cold start.
2. SUPPLY_OUT_OF_RANGE asserts SUPPLY; SUPPLY_RECOVERY ends it and starts a SYS reset; CLOCK_FAULT asserts CLOCK, with a SYS reset
10 µs later.
3. XTAL32_FAIL moves the real-time counter to RC32 and XTAL32_RUNNING back; CPLL_LOCK shows XO25 and CPLL and ends CLOCK;
XO25_START_TIMEOUT abandons the start.
4. SRAM_INIT_DONE, with PG1 and CPLL, fills SRAM with zeros when it had lost power and lets the cores leave reset, with
the random generator good.
5. CORES_LEAVE_RESET: both cores start in the boot ROM in lockstep, and the ROM tests itself, reads SFDP and OTP, resolves the
slots and the change log, and checks the ACTIVE image.
6. BOOT_LOADER_START, once the boot apply or the no-image posture is settled, selects both code images, shows them and starts the
boot loader; without one, recovery begins.
7. The resets: SYS_RESET and CORE_RESET by their register with the code, or when the delay of a clock fault or a watchdog is over;
NDMRESET resets the cores while debug is active; a tile's DOMAIN_RESET brings it to its start state, and those of CD_FLINT, CD_INGRESS, CD_NET and AD_UPD bring their blocks to theirs; a mask with another domain is
refused.
Rules: R376, R397, R524, R529, R530, R531, R532, R534, R538, R549, R550. -/
def Obligations.StartAndReset : Prop :=
  (∀ (s : State), exec .por s = .next { State.reset with now := s.tearPage.now, freeCtr := s.tearPage.freeCtr, flash := s.tearPage.flash, otp := s.tearPage.otp, rom := s.tearPage.rom, pending := s.tearPage.pending, pmu := { PmuState.init with porAt := s.tearPage.now } } ∧
      (s.evl.page = none → s.tearPage = s) ∧
      (s.pmu.held = true → exec .porRelease s = .next (s.pmuSet fun p => { p with held := false, porAt := s.now, retries := 0 }).beginStart)) ∧
  (∀ (s : State), (s.pmu.held = false → exec .supplyOutOfRange s = .next (s.assertTrip Src.supply true)) ∧
      (s.bitF R.SIO_TRIPNOW_ACTIVE Src.supply = true → exec .supplyRecovery s = .next ((s.endTrip Src.supply).sysResetBy 2)) ∧
      (s.on Dom.core = true → s.isSet R.PMU_CLK_CPLL = true → s.armed .clockReset = false → exec .clockFault s = .next (((s.raise Ev.SYS_CLK_FAIL).assertTrip Src.clock true).arm .clockReset (10 * usNs)))) ∧
  (∀ (s : State), (s.isSet R.PMU_CLK_XTAL32_OK = true → exec .xtal32Fail s = .next ((s.setFs [(R.PMU_CLK_XTAL32_OK, 0), (R.PMU_CLK_ON_RC32, 1)]).raiseInt Ev.PMU_XTAL_FAIL R.PMU_INT_CLK)) ∧
      (s.pmu.held = false → s.isSet R.PMU_CLK_XTAL32_OK = false → exec .xtal32Running s = .next (s.setFlags [R.PMU_INT_CLK] [(R.PMU_CLK_XTAL32_OK, 1), (R.PMU_CLK_ON_RC32, 0)])) ∧
      (s.on Dom.core = true → s.isSet R.PMU_CLK_CPLL = false → exec .cpllLock s = .next (((s.disarm .xoStart).setFs [(R.PMU_CLK_XO25_OK, 1), (R.PMU_CLK_CPLL, 1)]).endTrip Src.clock)) ∧
      (s.due .xoStart = true → s.isSet R.PMU_CLK_XO25_OK = false → exec .xo25StartTimeout s = .next (let a := (s.raise Ev.SYS_CLK_FAIL).coreReset.forL [6, 5, 4, 3, 2, 1] fun d s => s.domOff d
      ((a.disarm .xoStart).forN 8 fun n s => s.disarm (.pgTimeout n)).beginLower 0 true (List.range 8)))) ∧
  (∀ (s : State), s.on Dom.core = true → s.isSet R.PMU_CLK_CPLL = true → s.pgHigh 1 = true → s.cpu.ready = false → exec .sramInitDone s = .next (let a := if s.pmu.sramLost then { s with sram := [] } else s
      ((a.pmuSet fun p => { p with sramLost := false }).cpuSet fun c => { c with ready := true }).setF R.STK_RNG_OK 1)) ∧
  (∀ (s : State) (fail : Fin 16) (density : Option Nat) (progs : List Prog), s.on Dom.core = true → s.cpu.ready = true → s.cpu.running = false → s.isSet R.SYS_LCKSTAT_HOLD = false → exec ((.coresLeaveReset fail density progs)) s = .next ((let a := ({ s with progs := progs } : State).cpuSet fun c => { c with running := true, bootRom := true, stopped := false, c0 := .init, c1 := .init, mtimeAt := s.now }
      let r := ((a.raise Ev.SYS_RESET a.resetCause).selfTest fail.val).readSfdp density
      let b := r.1.otpCheck
      let c := if r.2 = false then b.noImage
      else (let d := b.logFind
      let d := (if d.pmu.fresh then d.rebuildLockout else d).showSlots
      if d.isSet R.SYS_SELFTEST_FAILMASK then d.noImage else d.resolve)
      { (c.pmuSet fun p => { p with fresh := false }) with progs := [] }))) ∧
  (∀ (s : State), s.coresRun = true → s.cpu.bootRom = true → s.isSet R.SYS_BOOT_RECOVERY = false → s.cil.apply = none → s.cil.bootDone = true ∨ s.isSet R.CIL_STATUS_NOIMAGE = true → exec .bootLoaderStart s = .next ((let ok := s.isSet R.QSPI_CFG_DENSITY_KIB
      let bl := if ok then s.selectCode true else none
      let df := if ok then s.selectCode false else none
      let a := (s.showSelected R.SYS_BOOT_BL_SLOT R.SYS_BOOT_BL_VALID bl).showSelected R.SYS_BOOT_DF_SLOT R.SYS_BOOT_DF_VALID df
      let a := if df.isNone then a.raise Ev.SYS_ADLOAD_FAIL else a
      (match bl with
      | some p => a.startLoader p.2 (a.codeBody true p.1 p.2)
      | none => ((a.setF R.SYS_BOOT_RECOVERY 1).raise Ev.SYS_RECOVERY).cpuSet fun c => { c with recv := [] })))) ∧
  (∀ (s : State) (code mask : Nat) (t : Fin 16), s.on Dom.core = true → s.on Dom.aon = true → (code % 65536 = rstCode → exec (.sysReset true code) s = .next ((s.answer .ok).sysResetBy 5) ∧ exec (.coreReset true code) s = .next ((s.answer .ok).coreResetBy 6)) ∧
      (s.due .clockReset = true → exec (.sysReset false code) s = .next ((s.disarm .clockReset).sysResetBy 3)) ∧
      (s.due .wdtReset = true → exec (.coreReset false code) s = .next ((s.disarm .wdtReset).coreResetBy (s.disarm .wdtReset).cpu.cause)) ∧
      (s.isSet R.SYS_DBG_ACTIVE = true → exec .ndmreset s = .next (s.coreResetBy 11)) ∧
      ((mask % 2 ^ 27) &&& domRstOk ≠ mask % 2 ^ 27 → exec (.domainReset mask) s = .next ((s.answer .ok).cmdRefuse 0)) ∧
      ((mask % 2 ^ 27) &&& domRstOk = mask % 2 ^ 27 → exec (.domainReset mask) s = .next (let m : Nat := mask % 2 ^ 27
      let a : State := (s.answer .ok).forL [2, 3, 4] fun d s => if m.testBit d ∧ s.on d then (s.domOff d).domOn d else s
      let a : State := if m.testBit 2 ∧ a.on Dom.flint then a.blkBelief else a
      let a : State := if m.testBit 3 ∧ a.on Dom.ingress then a.blkCams else a
      let a : State := if m.testBit 4 ∧ a.on Dom.net then a.blkNet else a
      let a : State := if m.testBit 10 ∧ a.on Dom.adUpd then a.clearRegs 0x80140000 0x10000 else a
      a.forN 16 fun t s => if m.testBit (11 + t) ∧ s.on (Dom.tile t) then s.tileReset t else s)))

/-- Enables, power-good, PMBus, WATCH, WORK, STANDBY and wake. 
1. PG_RISE of the enable that the transition waits for goes on to the next one; at PG0 of a cold start CD_CORE is switched on.
2. PG_TIMEOUT of that enable marks it failed and fails the transition.
3. PG_LOST of an enable that is high, with no transition running, is noted, raised and answered as its enable says.
4. PG_FALL of the enable being lowered, or 10 ms without it, goes on to the one before it; PG_FALL of an enable that is low and in
no transition is shown.
5. START_RETRY begins a failed start again 1 s later; PG_RERAISE raises PWR_EN2 and PWR_EN3 again.
6. AVS_STATUS_POLL each 100 ms of WORK keeps the readings; a fault with PWR_EN5 high is answered as a loss of PG5, a warning is
raised, and no answer fails.
7. WORK in WATCH with an ACTIVE image, the boot apply completed, dispatcher firmware valid and a linear VOUT_MODE enters WORK;
WATCH leaves WORK; STANDBY in WATCH, with STANDBY_EN, enters STANDBY; during a transition each is held,
and carried out after it.
8. UPD_REQUEST stores PMU_DOMREQ.UPD and AD_UPD follows it; in STANDBY, WAKE_ALARM at the alarm and WAKE_PIN begin a wake start
from a source that PMU_WAKE.EN enables, or are noted while STANDBY is being entered.
Rules: R533, R534, R535, R537, R542, R545, R546, R547, R548. -/
def Obligations.PowerTransitions : Prop :=
  (∀ (s : State) (n : Fin 8) (t : Trans), s.pmu.held = false → (s.setBitF R.PMU_REG_PG n.val true).pmu.trans = some t → t.down = false → t.todo.head? = some n.val → (s.setBitF R.PMU_REG_PG n.val true).enHigh n.val = true → exec ((.pgRise n)) s = .next ((let a := (s.setBitF R.PMU_REG_PG n.val true).disarm (.pgTimeout n.val)
      let a := if t.kind = 0 ∧ n.val = 0 then ((a.domOn Dom.core).evlStart false).arm .xoStart (10 * msNs) else a
      let u := { t with todo := t.todo.drop 1 }
      (a.setTrans u).raiseNext u))) ∧
  (∀ (s : State) (n : Fin 8) (t : Trans), s.pmu.trans = some t → t.down = false → t.todo.head? = some n.val → s.due (.pgTimeout n.val) = true → exec ((.pgTimeout n)) s = .next ((((((s.disarm (.pgTimeout n.val)).setBitF R.PMU_REG_FAILED n.val true)).raiseInt Ev.PMU_PG_TIMEOUT R.PMU_INT_PGTO n.val).failTrans t))) ∧
  (∀ (s : State) (n : Fin 8), s.enHigh n.val = true → s.pgHigh n.val = true → (s.setBitF R.PMU_REG_PG n.val false).pmu.trans = none → exec ((.pgLost n)) s = .next (((((s.setBitF R.PMU_REG_PG n.val false).noteLoss n.val).raiseInt Ev.PMU_PG_LOST R.PMU_INT_PGLOST n.val).answerLoss n.val))) ∧
  (∀ (s : State) (n : Fin 8) (timeout : Bool) (t : Trans), (s.pmu.trans = some t → t.down = true → t.todo.head? = some n.val → timeout = false ∨ s.due (.pgFall n.val) = true → exec (.pgFall n timeout) s = .next (let a := s.disarm (.pgFall n.val)
      let a := (if timeout then a else a.setBitF R.PMU_REG_PG n.val false).lowerNext t (t.todo.drop 1)
      (match a.pmu.trans with
      | some u => if u.down && u.todo.isEmpty then a.lowered u else a
      | none => a))) ∧
      (s.pmu.trans = none → s.enHigh n.val = false → exec (.pgFall n false) s = .next (s.setBitF R.PMU_REG_PG n.val false))) ∧
  (∀ (s : State), (s.due .startRetry = true → s.pmu.trans = none → s.devState = 0 → exec .startRetry s = .next (s.disarm .startRetry).beginStart) ∧
      (s.due .pgReraise = true → s.pmu.trans = none → exec .pgReraise s = .next ((s.disarm .pgReraise).beginRaise 5 [2, 3]))) ∧
  (∀ (s : State) (word : Option (Fin 65536)) (fault warn : Bool) (vout iout temp : Fin 65536), s.inWork = true → s.due .avs = true → exec ((.avsStatusPoll word fault warn vout iout temp)) s = .next ((let a := s.rearm .avs (100 * msNs)
      (match word with
      | none => a.avsFail
      | some w => (let b := (a.setFs [(R.PMU_PMB_STATUS, w.val), (R.PMU_PMBMEAS_IOUT, iout.val), (R.PMU_PMBMEAS_TEMP, temp.val)]).noteAdPower vout.val iout.val
      if fault ∧ b.enHigh 5 then (b.raiseInt Ev.PMU_AVS_FAULT R.PMU_INT_AVS w.val).answerLoss 5 else if warn then b.raiseInt Ev.PMU_AVS_WARN R.PMU_INT_AVS w.val else b))))) ∧
  (∀ (s : State) (mode : Fin 256) (persisted : Bool) (a u : State), s.on Dom.aon = true → (a = ((s.answer .ok).pmuSet fun p => { p with chatter := [] }).doIf (s.on Dom.core && (s.pmu.chatter.contains 2 || s.pmu.chatter.contains 3)) (fun s => s.arm .pgReraise 0)) → u = a.setF R.PMU_STATE_HELD 0 → (s.pmu.trans = none → u.mayWork = true → u.isSet R.SYS_BOOT_DF_VALID = true → mode.val / 32 = 0 → exec (.work false (some mode)) s = .next (u.enterWork mode.val)) ∧
      (s.pmu.trans = none → u.inWork = true → exec (.watch false) s = .next u.leaveWork) ∧
      (s.pmu.trans = none → u.inWatch = true → u.cfg Img.POWER_STANDBY_EN 0 ≠ 0 → exec (.standby false persisted) s = .next (let a := (u.setFs [(R.SIO_SAFECTL_ON_A, 0), (R.SIO_SAFECTL_ON_B, 0), (R.SIO_SAFECTL_ARM_A, 0), (R.SIO_SAFECTL_ARM_B, 0)]).tltRefresh.evlStandby persisted
      ((a.coreReset.forL [6, 5, 4, 3, 2, 1] fun d s => s.domOff d).showPlls).beginLower 4 false (List.range 8))) ∧
      (s.pmu.trans.isSome = true → exec (.work false (some mode)) s = .next (a.setF R.PMU_STATE_HELD 2) ∧ exec (.watch false) s = .next (a.setF R.PMU_STATE_HELD 1) ∧ exec (.standby false persisted) s = .next (a.setF R.PMU_STATE_HELD 3)) ∧
      (s.pmu.trans = none → s.getF R.PMU_STATE_HELD = 1 → (s.setF R.PMU_STATE_HELD 0).inWork = true → exec (.watch true) s = .next (s.setF R.PMU_STATE_HELD 0).leaveWork)) ∧
  (∀ (s : State) (upd : Bool) (pin : Fin 2), s.on Dom.aon = true → exec (.updRequest upd) s = .next ((s.answer .ok).setF R.PMU_DOMREQ_UPD (if upd then 1 else 0)).updFollow ∧
      (s.devState = 3 ∨ s.startFailed = true → s.pmu.trans = none → s.bitF R.PMU_WAKE_EN 0 = true → s.getF (R.PMU_ALARM_W 0) + 2 ^ 32 * s.getF (R.PMU_ALARM_W 1) ≤ s.rtc → exec .wakeAlarm s = .next (s.beginWake 1)) ∧
      (s.devState = 3 ∨ s.startFailed = true → s.pmu.trans = none → s.bitF R.PMU_WAKE_EN (1 + pin.val) = true → exec (.wakePin pin) s = .next (s.beginWake (2 ^ (1 + pin.val)))) ∧
      (∀ t, s.pmu.trans = some t → t.kind = 4 → s.bitF R.PMU_WAKE_EN (1 + pin.val) = true → exec (.wakePin pin) s = .next (s.pmuSet fun p => { p with wakeSrc := p.wakeSrc ||| 2 ^ (1 + pin.val) })))

/-- Sensors, the AD's energy plan, forecasts, hard limits and the step test. 
1. NTC_SAMPLE each 100 ms converts both codes, takes the substitutes of a faulty sensor, and a fault aborts the step test.
2. CD_SENSOR_SAMPLE each 10 ms takes the higher sensor, reports a difference above 5 °C, and times the two hot conditions.
3. ENERGY_PLAN that fits the clock plan replaces the last and restarts the 100 ms in WORK; one that does not is counted and
raised.
4. FORECAST each second in WATCH or WORK, with a model, forms its gain, with THM on the actions and with FORECAST on the forecast.
5. PLAN_MISS_TIMEOUT after 100 ms of WORK without a plan notes the miss; WATCHORD_TIMEOUT after 60 s lets the order be released.
6. CD_HOT_TIMER: 100 ms at CD_TJ_C in WORK orders WATCH; 100 ms above 125 °C trips SAFE_A and SAFE_B.
7. STEP_TEST in WATCH while not dark and no test runs starts the test, and is refused otherwise; STEP_TEST_ABORT ends it with
reason 4; STEP_TEST_SAMPLE each second samples, goes on at 120 s and fits after TEST_S more.
Rules: R564, R565, R567, R568, R570, R575, R576, R582. -/
def Obligations.ThermalCommands : Prop :=
  (∀ (s : State) (c0 c1 : Fin 4096), s.on Dom.core = true → s.on Dom.drive = true → s.dueOrNew .ntc = true → exec ((.ntcSample c0 c1)) s = .next ((let b0 := ntcBad c0.val
      let b1 := ntcBad c1.val
      let a := s.rearm .ntc (100 * msNs)
      let a := ((a.ntcReport 0 a.thm.bad0 b0).ntcReport 1 a.thm.bad1 b1).thmSet fun t => { t with bad0 := b0, bad1 := b1 }
      let a := a.setI R.THM_TEMP0_CASTING (if b0 then a.getI R.THM_TEMP1_CD_J else a.ntc c0.val)
      let a := a.setI R.THM_TEMP0_AMBIENT (if a.ambientNtc = false then a.ambientFixed else if b1 then a.getI R.THM_TEMP0_CASTING else a.ntc c1.val)
      if b0 ∨ b1 then a.stepFail 3 else a))) ∧
  (∀ (s : State) (a b : BitVec 16), s.on Dom.core = true → s.dueOrNew .cdSensor = true → exec ((.cdSensorSample a b)) s = .next ((let u := s.rearm .cdSensor (10 * msNs)
      let t := max a.toInt b.toInt
      let apart := decide (50 < (a.toInt - b.toInt).natAbs)
      let u := if apart && !u.thm.apart then u.raiseInt Ev.THM_SENSOR R.THM_INT_SENSOR else u
      let hot := u.inWork && decide (Int.ofNat (10 * u.getF R.THM_CFG_CD_TJ_C) ≤ t)
      (u.setI R.THM_TEMP1_CD_J t).thmSet fun m => { m with apart := apart, cdSince := since u.now m.cdSince hot, trip := since u.now m.trip (decide (1250 < t)) }))) ∧
  (∀ (s : State) (body : List Byte) (q : Nat) (u : State), s.takeCd (mgmt TT.energyPlan 0 body) = some (q, u) → (u.planFits body = true → exec (.energyPlan body) s = .next (let a := u.thmSet fun t => { t with plan := some (energyOf body), missed := false }
      if a.inWork then a.arm .planMiss (100 * msNs) else a)) ∧
      (u.planFits body = false → exec (.energyPlan body) s = .next ((u.satInc R.THM_CNT_BADPLAN).raise Ev.THM_PLAN_MISS))) ∧
  (∀ (s : State), s.on Dom.core = true → s.dueOrNew .forecast = true → s.inWork = true ∨ s.inWatch = true → exec .forecast s = .next ((let a := (s.rearm .forecast secNs).showPower
      let a := if a.thm.missed ∧ a.inWork then a.satInc R.THM_CNT_MISSES else a
      let w := a.inWork
      if a.isSet R.THM_CFG_AD_TJ_C = false then a
      else (((a.noteGain.doIf (a.isSet R.THM_CTL_EN) fun s => s.judgeHeat w).doIf ((a.noteGain.doIf (a.isSet R.THM_CTL_EN) fun s => s.judgeHeat w).isSet R.THM_CTL_FORECAST) fun s => s.showForecast w).adHard.releaseWatch)))) ∧
  (∀ (s : State), (s.inWork = true → s.due .planMiss = true → exec .planMissTimeout s = .next (((s.disarm .planMiss).thmSet fun t => { t with missed := true }).raise Ev.THM_PLAN_MISS)) ∧
      (s.due .watchord = true → exec .watchordTimeout s = .next ((s.disarm .watchord).thmSet fun t => { t with free := true }))) ∧
  (∀ (s : State), s.on Dom.core = true → s.isSet R.THM_CTL_EN = true → exec .cdHotTimer s = .next ((let a := if s.lasted s.thm.cdSince ∧ s.inWork then ((s.thmSet fun t => { t with cdSince := none }).raiseInt Ev.THM_CD_HOT R.THM_INT_HOT).orderWatch else s
      if a.lasted a.thm.trip then (let u := a.thmSet fun t => { t with trip := none }
      let u := (u.setF R.SIO_SAFECTL_TRIP_A 1).assertTrip Src.fwA false
      ((u.setF R.SIO_SAFECTL_TRIP_B 1).assertTrip Src.fwB false).raiseInt Ev.THM_CD_HOT R.THM_INT_HOT) else a))) ∧
  (∀ (s : State), s.on Dom.core = true → (s.inWatch = true → s.isSet R.LUX_DARK_DARK = false → s.getF R.THM_STST_STATE ≠ 1 → s.getF R.THM_STST_STATE ≠ 2 → exec .stepTest s = .next ((((s.answer .ok).thmSet fun t => { t with step := [] }).setFs [(R.THM_STST_STATE, 1), (R.THM_STST_REASON, 0), (R.THM_STST_ELAPSED_S, 0)]).arm .stepTest secNs)) ∧
      (s.inWatch = false ∨ s.isSet R.LUX_DARK_DARK = true → exec .stepTest s = .next ((s.answer .ok).flag R.THM_INT_REFUSED)) ∧
      exec .stepTestAbort s = .next ((s.answer .ok).stepFail 4) ∧
      (s.due .stepTest = true → exec .stepTestSample s = .next (let a := s.rearm .stepTest secNs
      let e := a.getF R.THM_STST_ELAPSED_S + 1
      let a := (a.setF R.THM_STST_ELAPSED_S e).thmSet fun t => { t with step := (a.getI R.THM_TEMP0_CASTING, a.getI R.THM_TEMP0_AMBIENT, a.ledUnits) :: t.step }
      if e = 120 then (a.setF R.THM_STST_STATE 2).flag R.THM_INT_STEPGO else if e = 120 + a.getF R.THM_STCFG_TEST_S then a.fit else a)))

/-- How flits are packed into rows, what the sync headers make of a row, and what a control row carries.
1. The 16 flits of a group fill 9 rows in x8 operation and 18 in x4; byte `j` of row `r` is the group's byte `8 × w × r + j`, and it
travels on lane `j mod w`, in byte `j div w` of that lane's block.
2. Headers that are all 0b01 make a data row, headers that are all 0b10 a control row, and a row with two different headers is a lane
error.
3. The block of a control row has 8 bytes, and it is the same on every lane but for TRN1.
Rules: R147, R148. -/
def Obligations.RowsOfSill : Prop :=
  (∀ (w r j : Nat) (flits : List (List Byte)), flits.length = 16 → (∀ f ∈ flits, f.length = 36) → (w = 8 ∧ r < 9) ∨ (w = 4 ∧ r < 18) → j < 8 * w →
      (groupRows w flits).length = (if w = 8 then 9 else 18) ∧
      ((((groupRows w flits).getD r []).getD (j % w) []).getD (j / w) 0) = flits.flatten.getD (8 * w * r + j) 0) ∧
  (∀ (headers : List Nat), ((∀ h ∈ headers, h = 1) → rowKind headers = .data) ∧ (headers ≠ [] → (∀ h ∈ headers, h = 2) → rowKind headers = .control) ∧
      (∀ a b, a ∈ headers → b ∈ headers → a ≠ b → rowKind headers = .laneError)) ∧
  (∀ (row : CtlRow) (ad : Bool) (lane other : Nat), (row.block ad lane).length = 8 ∧
      ((∀ attempt, row ≠ .trn1 attempt) → row.block ad lane = row.block ad other))

/-- What pins do while their domain is off, in STANDBY and after the boot ROM has started.
1. Outside STANDBY, with CD_DRIVE off, the gate drivers of the light and the tilt are held low and the encoder inputs are pulled up.
2. In STANDBY the safe outputs, the power enables and the test pulses are low, the safety inputs pulled down, and the pins of the banks
without supply unpowered.
3. With AD_MEM off, MEM_RESET_N is high and CS low while the memory is retained, and else low and high impedance.
4. QSPI_RESET_N is high once CD_CORE is on and the boot ROM has started, and low while CD_CORE is off.
Rules: R211, R522, R547, R629. -/
def Obligations.PinsOutsideWork : Prop :=
  (∀ (s : State), s.devState ≠ 3 → s.on Dom.drive = false →
      s.pinState .ledGate = .low ∧ s.pinState .tiltLow = .low ∧ s.pinState .tiltHigh = .low ∧ s.pinState .encoder = .pullUp) ∧
  (∀ (s : State), s.devState = 3 → s.pmu.trans = none →
      s.pinState .safe = .low ∧ s.pinState .pwrEn = .low ∧ s.pinState .testPulse = .low ∧ s.pinState .sin = .pullDown ∧ s.pinState .gpio = .unpowered) ∧
  (∀ (s : State), s.devState ≠ 3 → s.on Dom.adMem = false →
      s.pinState .memReset = (if s.pmu.retained then .high else .low) ∧ s.pinState .memCs = (if s.pmu.retained then .low else .hiZ)) ∧
  (∀ (s : State), s.devState ≠ 3 → (s.on Dom.core = true → s.cpu.running = true → s.pinState .qspiReset = .high) ∧
      (s.on Dom.core = false → s.pinState .qspiReset = .low))

/-- With CD_SILL or AD_CTL unpowered an AD window access is a bus error and changes nothing else. A read or a write in the AD window,
at any offset and of any size, with CD_SILL or AD_CTL off: the answer is a bus error, and everything else, the link and the power
included, is as before. Rules: R25. -/
def Obligations.AdWindowUnpowered : Prop :=
  ∀ (s : State) (offset size : Nat) (data : Word), s.on Dom.sill = false ∨ s.on Dom.adCtl = false → exec (.adWindowRead offset size) s = .next (s.answer .busError) ∧ exec (.adWindowWrite offset size data) s = .next (s.answer .busError)

/-- An access to a place of the block map that holds no register is a bus error and has no other effect. The debug module
keeps the bus error in its sberror (R401).
1. A firmware write, of any size, to a place of the block map that holds no register.
2. A load, a fetch or a store of a core that runs.
3. A read or a write of the debug module.
A mismatch of the cores in lockstep, which drops the access, is left to its own statement. Rules: R5. -/
def Obligations.NoRegisterThere : Prop :=
  (∀ (s : State) (core : Fin 2) (addr size : Nat) (data : Word) (env : BusEnv), 0x40000000 ≤ addr → addr < 0x50000000 → fieldsAt addr = none → env.differs = none ∨ s.lockstep = false →
      exec (.registerWrite core addr size data env) s = .next (s.answer .busError)) ∧
  (∀ (s : State) (core : Fin 2) (op : BusOp) (addr size : Nat) (data : Word) (ecc : Fin 3) (env : BusEnv), 0x40000000 ≤ addr → addr < 0x50000000 → fieldsAt addr = none → s.coresRun = true → env.differs = none ∨ s.lockstep = false →
      exec (.systemBusAccess (.core core) op addr size data ecc env) s = .next (s.answer .busError)) ∧
  (∀ (s : State) (op : BusOp) (addr : Nat) (data : Word) (ecc : Fin 3) (env : BusEnv), 0x40000000 ≤ addr → addr < 0x50000000 → fieldsAt addr = none → s.dbgOn = true → s.cpu.dbg.sberror = 0 →
      exec (.systemBusAccess .debug op addr 4 data ecc env) s = .next ((s.answer .busError).dbgSet fun d => { d with sbaddr := addr, sberror := 2 }))

/-- A STEP written to the selected base leaves TB3 continuous and is subtracted from D. CD_NET is on and base n, TB0 or TB1, is the
selected one: the command completes, TB3 stands where it stood, and the step has been subtracted from D. Rules: R437. -/
def Obligations.StepToSelectedBase : Prop :=
  ∀ (s : State) (n : Fin 4) (step : Word), s.on Dom.net = true → n.val < 2 → s.getF R.TIM_STAT_SEL = n.val → ∃ t, exec (.baseStep n step) s = .next t ∧ t.tbFix 3 = s.tbFix 3 ∧ t.tim.d = fix64 (s.tim.d - step.toInt * 2 ^ 32)

/-- RETRY while a qualification runs, and DEMOTE and DISTRUST at or below the state named, only set REFUSED; CLEARZONES is never
refused. The write is acknowledged on the bus; nothing but ASY_INT.REFUSED changes. 
1. RETRY while the qualification is resetting, loading or running.
2. DEMOTE in PROBATION or DISTRUSTED, and DISTRUST in DISTRUSTED.
3. CLEARZONES in any trust state and whatever the qualification does clears every bit and every run count, as R304's last
paragraph does.
Rules: R322. -/
def Obligations.AssayRefusals : Prop :=
  (∀ (s : State), s.on Dom.core = true → 1 ≤ s.getF R.ASY_TRUST_QUAL → s.getF R.ASY_TRUST_QUAL ≤ 3 → exec .retry s = .next ((s.answer .ok).flag R.ASY_INT_REFUSED)) ∧
  (∀ (s : State), s.on Dom.core = true → (s.getF R.ASY_TRUST_STATE ≤ 1 → exec .demote s = .next ((s.answer .ok).flag R.ASY_INT_REFUSED)) ∧
      (s.getF R.ASY_TRUST_STATE = 0 → exec .distrust s = .next ((s.answer .ok).flag R.ASY_INT_REFUSED))) ∧
  (∀ (s : State), s.on Dom.core = true → exec .clearzones s = .next ((s.answer .ok).clearAllZones))

/-- A word written to SRAM on the bus is read back, and no other byte of SRAM changes. SRAM is in its canonical form.
1. The debug module is active with no earlier error: a write of an aligned word changes its four bytes, least significant first, and no
other byte of SRAM; a read of that word without an ECC error then answers the word.
2. The same of a core that runs, with an aligned access of 1, 2 or 4 bytes.
 Rules: R23, R401, R652. -/
def Obligations.SramByTheBus : Prop :=
  (∀ (s : State) (addr : Nat) (data : Word) (env : BusEnv), s.dbgOn = true → s.cpu.dbg.sberror = 0 → Sparse.wf 0 s.sram = true → 0x10000000 ≤ addr → addr < 0x10080000 → addr % 4 = 0 → ∃ t, exec (.systemBusAccess .debug .store addr 4 data 0 env) s = .next t ∧
      (∀ j, Sparse.get 0 t.sram j = if addr - 0x10000000 ≤ j ∧ j < addr - 0x10000000 + 4 then BitVec.ofNat 8 (data.toNat / 256 ^ (j - (addr - 0x10000000))) else Sparse.get 0 s.sram j) ∧
      exec (.systemBusAccess .debug .load addr 4 data 0 env) t = .next ((t.answer (.data data)).dbgSet fun d => { d with sbdata := data.toNat })) ∧
  (∀ (s : State) (core : Fin 2) (addr size : Nat) (data : Word) (env : BusEnv), s.coresRun = true → env.differs = none → Sparse.wf 0 s.sram = true → size = 1 ∨ size = 2 ∨ size = 4 → 0x10000000 ≤ addr → addr < 0x10080000 → addr % size = 0 → ∃ t, exec (.systemBusAccess (.core core) .store addr size data 0 env) s = .next t ∧
      (∀ j, Sparse.get 0 t.sram j = if addr - 0x10000000 ≤ j ∧ j < addr - 0x10000000 + size then BitVec.ofNat 8 (data.toNat / 256 ^ (j - (addr - 0x10000000))) else Sparse.get 0 s.sram j) ∧
      exec (.systemBusAccess (.core core) .load addr size data 0 env) t = .next (t.answer (.data (BitVec.ofNat 32 (data.toNat % 256 ^ size)))))

/-- A program clears bits of its range and no other; an erase sets its range to FF and changes no other byte. The flash array is in
its canonical form; QSPI has a command under way. 
1. The end of a program ANDs each byte of the range with its datum and leaves every other byte.
2. The end of an erase leaves FF in its range and every other byte as it was.
3. The end of a read changes no byte of flash.
Rules: R41, R563, R658. -/
def Obligations.FlashByTheController : Prop :=
  (∀ (s : State) (c : QspiCmd), s.qspi = some c → c.op = 1 → Sparse.wf erasedByte s.flash = true → ∃ t, exec .qspiDone s = .next t ∧ ∀ j, Sparse.get erasedByte t.flash j =
      if c.addr ≤ j ∧ j < c.addr + c.data.length then Sparse.get erasedByte s.flash j &&& c.data.getD (j - c.addr) 0 else Sparse.get erasedByte s.flash j) ∧
  (∀ (s : State) (c : QspiCmd), s.qspi = some c → c.op = 2 ∨ c.op = 3 → Sparse.wf erasedByte s.flash = true → ∃ t, exec .qspiDone s = .next t ∧ ∀ j, Sparse.get erasedByte t.flash j =
      if c.addr ≤ j ∧ j < c.addr + c.len then erasedByte else Sparse.get erasedByte s.flash j) ∧
  (∀ (s : State) (c : QspiCmd), s.qspi = some c → c.op = 4 → ∃ t, exec .qspiDone s = .next t ∧ t.flash = s.flash)

/-- What a written word leaves in each field of a register, by the field's access code, and in every other field. The fields of a
register have distinct places in the register file. RW and RWK store the value brought into its range, W1C clears the bits written
1 that were not set in this very cycle, W1S sets them, RO, WO and RC ignore the write, and no field of another register changes. Rules: R4, R6, R8. -/
def Obligations.RegisterCodes : Prop :=
  ∀ (s : State) (l : List FieldRow) (v : Nat), ((l.map fun r => r.fld.key).Nodup) → (∀ r ∈ l, (s.storeWord l v).getF r.fld = match r.acc with
      | .rw => r.clamped (r.part v) % 2 ^ r.fld.width | .rwk => r.clamped (r.part v) % 2 ^ r.fld.width
      | .w1c => ((s.getF r.fld ^^^ (s.getF r.fld &&& r.part v)) ||| s.setNow r.fld) % 2 ^ r.fld.width | .w1s => (s.getF r.fld ||| r.part v) % 2 ^ r.fld.width
      | .ro => s.getF r.fld | .wo => s.getF r.fld | .rc => s.getF r.fld) ∧
      ∀ f : Fld, (∀ r ∈ l, f.key ≠ r.fld.key) → (s.storeWord l v).getF f = s.getF f

/-- A register access to a block whose domain is off is a bus error and changes nothing else. `accessDom` names the commands that are
register accesses of firmware and the domain of the block each reaches. Each of these commands, with any operands, while the
domain is off: the answer is a bus error, and everything else, the domain included, is as before. Rules: R23, R651. -/
def Obligations.UnpoweredBlocks : Prop :=
  ∀ (s : State) (c : Instr) (d : Nat), accessDom c = some d → s.on d = false → exec c s = .next (s.answer .busError)

/-- At reset every memory is in canonical form and both safe outputs are off. Every addressed memory lists its bytes in rising order
and none that reads as an unlisted one does; neither output is energised; no command waits. Rules: R20, R353, R376. -/
def Obligations.MemoriesCanonicalAtReset : Prop :=
  State.reset.memWf = true ∧ State.reset.outputsOff = true ∧ State.reset.pending = []

/-- Every step keeps every memory in canonical form. Whatever the queue holds, an empty queue included, and in every state, not only
those a run reaches. A step from a state whose memories are in canonical form ends in one whose memories are. Rules: R23, R31,
R77, R396. -/
def Obligations.MemoriesStayCanonical : Prop :=
  ∀ (s : State) (t : State), s.memWf = true → step s = .next t → t.memWf = true

/-- A step takes exactly the front command off the queue and never changes the boot ROM or, while a command runs, the time. The queue,
first in and first out, is the model's own; so are the 8 ns on an empty queue (log entry 1). 
1. The step of a state with command c in front that ends in t: t's queue is the rest, its boot ROM is the same, its time is the
same.
2. The step on an empty queue leaves it empty, moves the time by 8 ns and changes no byte of OTP, SRAM, flash or the boot ROM.
Rules: R23, R398, R650. -/
def Obligations.StepKeepsQueueRomAndTime : Prop :=
  (∀ (s : State) (c : Instr) (rest : List Instr) (t : State), s.pending = c :: rest → step s = .next t → t.pending = rest ∧ t.rom = s.rom ∧ t.now = s.now) ∧
  (∀ (s : State) (t : State), s.pending = [] → step s = .next t → t.pending = [] ∧ t.now = s.now + 8 ∧ t.rom = s.rom ∧ t.otp = s.otp ∧ t.sram = s.sram ∧ t.flash = s.flash)

/-- No step clears an OTP bit. OTP in canonical form with the other memories. Every OTP bit that is 1 before a step is 1 after it.
Rules: R59, R73. -/
def Obligations.OtpBitsStay : Prop :=
  ∀ (s : State) (t : State), s.memWf = true → step s = .next t → OtpKept s t

/-- No command but the end of an apply step writes OTP. The burns of the keys and the revocations are step 4 of the apply (R58). A
command other than APPLY_STEP_DONE leaves every byte of OTP as it was. Rules: R50, R58, R59. -/
def Obligations.OtpWrittenByTheApplyOnly : Prop :=
  ∀ (s : State) (c : Instr) (t : State), (∀ ok part progs, c ≠ .applyStepDone ok part progs) → exec c s = .next t → t.otp = s.otp

/-- Only 40 named commands may change the flash array; no other command changes a byte of it. A command outside the list leaves every
byte of the flash array as it was. Rules: R40, R64, R563, R595, R596. -/
def Obligations.FlashWriters : Prop :=
  ∀ (s : State) (c : Instr) (t : State), writesFlash c = false → exec c s = .next t → t.flash = s.flash

/-- Only 22 named commands may change SRAM; no other command changes a byte of it. A command outside the list leaves every byte of
SRAM as it was. Rules: R395, R424, R425, R450, R652. -/
def Obligations.SramWriters : Prop :=
  ∀ (s : State) (c : Instr) (t : State), writesSram c = false → exec c s = .next t → t.sram = s.sram

/-- Only 86 named commands may change DRAM or the shelf; no other command changes a byte of either. A command outside the list leaves
every byte of DRAM and of the shelf as it was. Rules: R14, R77, R79, R192. -/
def Obligations.AdMemoryWriters : Prop :=
  ∀ (s : State) (c : Instr) (t : State), writesAd c = false → exec c s = .next t → t.dram = s.dram ∧ t.shelf = s.shelf

/-- Every command and every step answers a next state, in every state and with every operand. What the device refuses or finds faulty
is an answer of its own (a bus error, a REFUSED flag, an event), so no command ends the machine. 
1. Whatever the command and its operands, `exec` answers a next state.
2. So does a step.
Rules: R4, R6, R651, R654. -/
def Obligations.EveryCommandCompletes : Prop :=
  (∀ (s : State) (c : Instr), ∃ t, exec c s = .next t) ∧
  (∀ (s : State), ∃ t, step s = .next t)

/-- Registers of every block read at reset as their tables say. SYS_ID reads 0x1640_0001. Reset values of ING_RX, I2C_CFG, SIL_PM,
TL_CLK, ASY_CFG0 and ASY_CFG1, LUX_CFG0, SIO_TPCFG, SYS_SPLITLIM, TIM_DOM, PMU_REG and EVL_PCFG. Rules: R30, R145, R146, R178,
R219, R325, R369, R371, R414, R453, R562, R611. -/
def Obligations.ResetRegisters : Prop :=
  State.reset.readWord ((fieldsAt 0x40000000).getD []) = 0x16400001 ∧
      State.reset.getF (R.ING_RX_LANES 0) = 4 ∧ State.reset.getF (R.ING_RX_RATE_MBPS 1) = 1500 ∧
      State.reset.getF (R.I2C_CFG_TOUT_MS 0) = 25 ∧ State.reset.getF (R.I2C_CFG_RETRY 1) = 3 ∧
      State.reset.getF R.SIL_PM_DOZE_IDLE_US = 4 ∧ State.reset.getF (R.TL_CLK_POINT 15) = 3 ∧
      State.reset.getF R.ASY_CFG0_ZONE_EXPIRY_MS = 500 ∧ State.reset.getF R.ASY_CFG1_STALE_MS = 40 ∧ State.reset.getF R.ASY_CFG1_ABSENT_RUN = 3 ∧
      State.reset.getF R.LUX_CFG0_FLOOR_OCC = 100 ∧ State.reset.getF R.LUX_CFG0_FLOOR_DARK = 30 ∧ State.reset.getF R.LUX_CFG0_DIM_RATE = 10 ∧
      State.reset.getF R.SIO_TPCFG_TP_PERIOD_MS = 10 ∧ State.reset.getF R.SIO_TPCFG_TP_WIDTH_US = 200 ∧
      State.reset.getF R.SYS_SPLITLIM_SPLIT_MS = 100 ∧ State.reset.getF R.TIM_DOM_SYNCTO_MS = 375 ∧
      State.reset.getF R.PMU_REG_USE = 3 ∧ State.reset.getF R.EVL_PCFG_FLUSH_MS = 1000
end

