-- ==== Sys2Proof/Laws/Answer.lean ====
section
/-! SUPPORT. The answer of an access (`State.answer`) is seen by nothing else: every function of the state that the meanings use
reads the same after it. -/

namespace Sys2Proof.Machine

open Sys2Proof

@[simp] theorem State.absentRuns_answer (s : State) (rsp : Resp) : (s.answer rsp).absentRuns = s.absentRuns := rfl
@[simp] theorem State.accAt_answer (s : State) (t : Nat) (fmt : Nat) (bank : Nat) (row : Nat) (c : Nat) (rsp : Resp) : (s.answer rsp).accAt t fmt bank row c = s.accAt t fmt bank row c := rfl
@[simp] theorem State.accFault_answer (s : State) (t : Nat) (bank : Nat) (half : Nat) (sig : Bool) (rsp : Resp) : (s.answer rsp).accFault t bank half sig = s.accFault t bank half sig := rfl
@[simp] theorem State.accMark_answer (s : State) (t : Nat) (fmt : Nat) (bank : Nat) (row : Nat) (c : Nat) (rsp : Resp) : (s.answer rsp).accMark t fmt bank row c = s.accMark t fmt bank row c := rfl
@[simp] theorem State.accRow_answer (s : State) (t : Nat) (bank : Nat) (row : Nat) (half : Nat) (rsp : Resp) : (s.answer rsp).accRow t bank row half = s.accRow t bank row half := rfl
@[simp] theorem State.activeImage_answer (s : State) (rsp : Resp) : (s.answer rsp).activeImage = s.activeImage := rfl
@[simp] theorem State.activeSlot_answer (s : State) (rsp : Resp) : (s.answer rsp).activeSlot = s.activeSlot := rfl
@[simp] theorem State.acts_answer (s : State) (rsp : Resp) : (s.answer rsp).acts = s.acts := rfl
@[simp] theorem State.ad_answer (self : State) (rsp : Resp) : (self.answer rsp).ad = self.ad := rfl
@[simp] theorem State.adEstimate_answer (s : State) (rsp : Resp) : (s.answer rsp).adEstimate = s.adEstimate := rfl
@[simp] theorem State.adLive_answer (s : State) (rsp : Resp) : (s.answer rsp).adLive = s.adLive := rfl
@[simp] theorem State.adPart_answer (s : State) (a : Apply) (rsp : Resp) : (s.answer rsp).adPart a = s.adPart a := rfl
@[simp] theorem State.alarmPast_answer (s : State) (rsp : Resp) : (s.answer rsp).alarmPast = s.alarmPast := rfl
@[simp] theorem State.allHalted_answer (s : State) (ts : List Nat) (rsp : Resp) : (s.answer rsp).allHalted ts = s.allHalted ts := rfl
@[simp] theorem State.allLatched_answer (s : State) (rsp : Resp) : (s.answer rsp).allLatched = s.allLatched := rfl
@[simp] theorem State.ambientFixed_answer (s : State) (rsp : Resp) : (s.answer rsp).ambientFixed = s.ambientFixed := rfl
@[simp] theorem State.ambientNtc_answer (s : State) (rsp : Resp) : (s.answer rsp).ambientNtc = s.ambientNtc := rfl
@[simp] theorem State.applyHolds_answer (s : State) (rsp : Resp) : (s.answer rsp).applyHolds = s.applyHolds := rfl
@[simp] theorem State.armOk_answer (s : State) (mask : Nat) (rsp : Resp) : (s.answer rsp).armOk mask = s.armOk mask := rfl
@[simp] theorem State.armed_answer (s : State) (t : Timer) (rsp : Resp) : (s.answer rsp).armed t = s.armed t := rfl
@[simp] theorem State.asy_answer (self : State) (rsp : Resp) : (self.answer rsp).asy = self.asy := rfl
@[simp] theorem State.atPc_answer (s : State) (t : Nat) (rsp : Resp) : (s.answer rsp).atPc t = s.atPc t := rfl
@[simp] theorem State.atSeam_answer (s : State) (t : Nat) (rsp : Resp) : (s.answer rsp).atSeam t = s.atSeam t := rfl
@[simp] theorem State.auditSkips_answer (s : State) (rsp : Resp) : (s.answer rsp).auditSkips = s.auditSkips := rfl
@[simp] theorem State.avsOffset_answer (s : State) (rsp : Resp) : (s.answer rsp).avsOffset = s.avsOffset := rfl
@[simp] theorem State.bankBusy_answer (s : State) (t : Nat) (b : Nat) (rsp : Resp) : (s.answer rsp).bankBusy t b = s.bankBusy t b := rfl
@[simp] theorem State.bankFmt_answer (s : State) (t : Nat) (bank : Nat) (rsp : Resp) : (s.answer rsp).bankFmt t bank = s.bankFmt t bank := rfl
@[simp] theorem State.bankReady_answer (s : State) (t : Nat) (bank : Nat) (rsp : Resp) : (s.answer rsp).bankReady t bank = s.bankReady t bank := rfl
@[simp] theorem State.base_answer (s : State) (n : Nat) (rsp : Resp) : (s.answer rsp).base n = s.base n := rfl
@[simp] theorem State.basesNear_answer (s : State) (rsp : Resp) : (s.answer rsp).basesNear = s.basesNear := rfl
@[simp] theorem State.batchDue_answer (s : State) (p : PlanTenant) (l : List Job) (rsp : Resp) : (s.answer rsp).batchDue p l = s.batchDue p l := rfl
@[simp] theorem State.batchRoom_answer (s : State) (p : PlanTenant) (rsp : Resp) : (s.answer rsp).batchRoom p = s.batchRoom p := rfl
@[simp] theorem State.batches_answer (s : State) (n : Nat) (d : List Byte) (rsp : Resp) : (s.answer rsp).batches n d = s.batches n d := rfl
@[simp] theorem State.bitF_answer (s : State) (f : Fld) (n : Nat) (rsp : Resp) : (s.answer rsp).bitF f n = s.bitF f n := rfl
@[simp] theorem State.bounded_answer (s : State) (l : List FieldRow) (rsp : Resp) : (s.answer rsp).bounded l = s.bounded l := rfl
@[simp] theorem State.bufAddr_answer (s : State) (n : Nat) (cam : Nat) (b : Nat) (rsp : Resp) : (s.answer rsp).bufAddr n cam b = s.bufAddr n cam b := rfl
@[simp] theorem State.bufJob_answer (s : State) (n : Nat) (cam : Nat) (b : Nat) (rsp : Resp) : (s.answer rsp).bufJob n cam b = s.bufJob n cam b := rfl
@[simp] theorem State.bundle_answer (s : State) (t : Nat) (b : Nat) (i : Nat) (rsp : Resp) : (s.answer rsp).bundle t b i = s.bundle t b i := rfl
@[simp] theorem State.c1Refused_answer (s : State) (core : Fin 2) (k : Nat) (o : Nat) (rsp : Resp) : (s.answer rsp).c1Refused core k o = s.c1Refused core k o := rfl
@[simp] theorem State.camCfgOk_answer (s : State) (c : Nat) (en : Nat) (port : Nat) (vc : Nat) (dt : Nat) (w : Nat) (h : Nat) (rsp : Resp) : (s.answer rsp).camCfgOk c en port vc dt w h = s.camCfgOk c en port vc dt w h := rfl
@[simp] theorem State.camOn_answer (s : State) (rx : Nat) (vc : Nat) (rsp : Resp) : (s.answer rsp).camOn rx vc = s.camOn rx vc := rfl
@[simp] theorem State.caseOk_answer (s : State) (b : List Byte) (k : KatCase) (rsp : Resp) : (s.answer rsp).caseOk b k = s.caseOk b k := rfl
@[simp] theorem State.cfg_answer (s : State) (f : ImgField) (i : Nat) (rsp : Resp) : (s.answer rsp).cfg f i = s.cfg f i := rfl
@[simp] theorem State.cfgPresent_answer (s : State) (f : ImgField) (i : Nat) (rsp : Resp) : (s.answer rsp).cfgPresent f i = s.cfgPresent f i := rfl
@[simp] theorem State.chEnabled_answer (s : State) (c : Nat) (rsp : Resp) : (s.answer rsp).chEnabled c = s.chEnabled c := rfl
@[simp] theorem State.chState_answer (s : State) (c : Nat) (rsp : Resp) : (s.answer rsp).chState c = s.chState c := rfl
@[simp] theorem State.changes_answer (s : State) (t : Nat) (rsp : Resp) : (s.answer rsp).changes t = s.changes t := rfl
@[simp] theorem State.chooseLanes_answer (s : State) (rsp : Resp) : (s.answer rsp).chooseLanes = s.chooseLanes := rfl
@[simp] theorem State.chunkOk_answer (s : State) (rsp : Resp) : (s.answer rsp).chunkOk = s.chunkOk := rfl
@[simp] theorem State.cil_answer (self : State) (rsp : Resp) : (self.answer rsp).cil = self.cil := rfl
@[simp] theorem State.clearedNow_answer (s : State) (e : Nat) (rsp : Resp) : (s.answer rsp).clearedNow e = s.clearedNow e := rfl
@[simp] theorem State.codeAt_answer (s : State) (boot : Bool) (a : Nat) (rsp : Resp) : (s.answer rsp).codeAt boot a = s.codeAt boot a := rfl
@[simp] theorem State.codeBody_answer (s : State) (boot : Bool) (k : Nat) (c : CodeHdr) (rsp : Resp) : (s.answer rsp).codeBody boot k c = s.codeBody boot k c := rfl
@[simp] theorem State.codeSigned_answer (s : State) (boot : Bool) (img : List Byte) (bodyLen : Nat) (rsp : Resp) : (s.answer rsp).codeSigned boot img bodyLen = s.codeSigned boot img bodyLen := rfl
@[simp] theorem State.copyTest_answer (s : State) (c : Nat) (fs : Nat) (rsp : Resp) : (s.answer rsp).copyTest c fs = s.copyTest c fs := rfl
@[simp] theorem State.coresRun_answer (s : State) (rsp : Resp) : (s.answer rsp).coresRun = s.coresRun := rfl
@[simp] theorem State.cpu_answer (self : State) (rsp : Resp) : (self.answer rsp).cpu = self.cpu := rfl
@[simp] theorem State.cqFull_answer (s : State) (k : Nat) (rsp : Resp) : (s.answer rsp).cqFull k = s.cqFull k := rfl
@[simp] theorem State.cqTail_answer (s : State) (k : Nat) (rsp : Resp) : (s.answer rsp).cqTail k = s.cqTail k := rfl
@[simp] theorem State.crn_answer (self : State) (rsp : Resp) : (self.answer rsp).crn = self.crn := rfl
@[simp] theorem State.crnEpoch_answer (s : State) (rsp : Resp) : (s.answer rsp).crnEpoch = s.crnEpoch := rfl
@[simp] theorem State.crnOn_answer (s : State) (rsp : Resp) : (s.answer rsp).crnOn = s.crnOn := rfl
@[simp] theorem State.crnPacket_answer (s : State) (typ : Nat) (hops : Nat) (dst : Nat) (body : List Byte) (rsp : Resp) : (s.answer rsp).crnPacket typ hops dst body = s.crnPacket typ hops dst body := rfl
@[simp] theorem State.crnReqs_answer (s : State) (rsp : Resp) : (s.answer rsp).crnReqs = s.crnReqs := rfl
@[simp] theorem State.crnState_answer (s : State) (rsp : Resp) : (s.answer rsp).crnState = s.crnState := rfl
@[simp] theorem State.crossCheck_answer (s : State) (rsp : Resp) : (s.answer rsp).crossCheck = s.crossCheck := rfl
@[simp] theorem State.dbgOn_answer (s : State) (rsp : Resp) : (s.answer rsp).dbgOn = s.dbgOn := rfl
@[simp] theorem State.deadline_answer (s : State) (t : Timer) (rsp : Resp) : (s.answer rsp).deadline t = s.deadline t := rfl
@[simp] theorem State.descOk_answer (s : State) (n : Nat) (d : List Byte) (rsp : Resp) : (s.answer rsp).descOk n d = s.descOk n d := rfl
@[simp] theorem State.descStatus_answer (s : State) (n : Nat) (d : List Byte) (rsp : Resp) : (s.answer rsp).descStatus n d = s.descStatus n d := rfl
@[simp] theorem State.devState_answer (s : State) (rsp : Resp) : (s.answer rsp).devState = s.devState := rfl
@[simp] theorem State.discrepMs_answer (s : State) (n : Nat) (rsp : Resp) : (s.answer rsp).discrepMs n = s.discrepMs n := rfl
@[simp] theorem State.dmErr_answer (s : State) (rsp : Resp) : (s.answer rsp).dmErr = s.dmErr := rfl
@[simp] theorem State.dmGet_answer (s : State) (r : Nat) (rsp : Resp) : (s.answer rsp).dmGet r = s.dmGet r := rfl
@[simp] theorem State.dmWide_answer (s : State) (rsp : Resp) : (s.answer rsp).dmWide = s.dmWide := rfl
@[simp] theorem State.dmiRead_answer (s : State) (a : Nat) (rsp : Resp) : (s.answer rsp).dmiRead a = s.dmiRead a := rfl
@[simp] theorem State.dmstatus_answer (s : State) (rsp : Resp) : (s.answer rsp).dmstatus = s.dmstatus := rfl
@[simp] theorem State.domGood_answer (s : State) (d : Nat) (rsp : Resp) : (s.answer rsp).domGood d = s.domGood d := rfl
@[simp] theorem State.dram_answer (self : State) (rsp : Resp) : (self.answer rsp).dram = self.dram := rfl
@[simp] theorem State.dramBytes_answer (s : State) (a : Nat) (n : Nat) (rsp : Resp) : (s.answer rsp).dramBytes a n = s.dramBytes a n := rfl
@[simp] theorem State.dspLive_answer (s : State) (rsp : Resp) : (s.answer rsp).dspLive = s.dspLive := rfl
@[simp] theorem State.dspSt_answer (s : State) (n : Nat) (rsp : Resp) : (s.answer rsp).dspSt n = s.dspSt n := rfl
@[simp] theorem State.due_answer (s : State) (t : Timer) (rsp : Resp) : (s.answer rsp).due t = s.due t := rfl
@[simp] theorem State.dueOrNew_answer (s : State) (t : Timer) (rsp : Resp) : (s.answer rsp).dueOrNew t = s.dueOrNew t := rfl
@[simp] theorem State.enHigh_answer (s : State) (n : Nat) (rsp : Resp) : (s.answer rsp).enHigh n = s.enHigh n := rfl
@[simp] theorem State.enOrder_answer (s : State) (n : Nat) (rsp : Resp) : (s.answer rsp).enOrder n = s.enOrder n := rfl
@[simp] theorem State.enTimeout_answer (s : State) (n : Nat) (rsp : Resp) : (s.answer rsp).enTimeout n = s.enTimeout n := rfl
@[simp] theorem State.enTimes_answer (s : State) (rsp : Resp) : (s.answer rsp).enTimes = s.enTimes := rfl
@[simp] theorem State.enUsed_answer (s : State) (n : Nat) (rsp : Resp) : (s.answer rsp).enUsed n = s.enUsed n := rfl
@[simp] theorem State.entriesUsed_answer (s : State) (rsp : Resp) : (s.answer rsp).entriesUsed = s.entriesUsed := rfl
@[simp] theorem State.escalations_answer (s : State) (rsp : Resp) : (s.answer rsp).escalations = s.escalations := rfl
@[simp] theorem State.evRoom_answer (s : State) (cls : Nat) (rsp : Resp) : (s.answer rsp).evRoom cls = s.evRoom cls := rfl
@[simp] theorem State.evl_answer (self : State) (rsp : Resp) : (self.answer rsp).evl = self.evl := rfl
@[simp] theorem State.faultPc_answer (s : State) (t : Nat) (field : Nat) (rsp : Resp) : (s.answer rsp).faultPc t field = s.faultPc t field := rfl
@[simp] theorem State.fieldWord_answer (s : State) (l : List FieldRow) (rsp : Resp) : (s.answer rsp).fieldWord l = s.fieldWord l := rfl
@[simp] theorem State.fittedBytes_answer (s : State) (rsp : Resp) : (s.answer rsp).fittedBytes = s.fittedBytes := rfl
@[simp] theorem State.flagAt_answer (self : State) (rsp : Resp) : (self.answer rsp).flagAt = self.flagAt := rfl
@[simp] theorem State.flagsOn_answer (s : State) (f : Fld) (rsp : Resp) : (s.answer rsp).flagsOn f = s.flagsOn f := rfl
@[simp] theorem State.flash_answer (self : State) (rsp : Resp) : (self.answer rsp).flash = self.flash := rfl
@[simp] theorem State.flashBytes_answer (s : State) (a : Nat) (n : Nat) (rsp : Resp) : (s.answer rsp).flashBytes a n = s.flashBytes a n := rfl
@[simp] theorem State.flashMay_answer (s : State) (a : Nat) (n : Nat) (rsp : Resp) : (s.answer rsp).flashMay a n = s.flashMay a n := rfl
@[simp] theorem State.flashSize_answer (s : State) (rsp : Resp) : (s.answer rsp).flashSize = s.flashSize := rfl
@[simp] theorem State.flashWord_answer (s : State) (a : Nat) (rsp : Resp) : (s.answer rsp).flashWord a = s.flashWord a := rfl
@[simp] theorem State.flintCheck_answer (s : State) (r : Rec) (rsp : Resp) : (s.answer rsp).flintCheck r = s.flintCheck r := rfl
@[simp] theorem State.flt_answer (self : State) (rsp : Resp) : (self.answer rsp).flt = self.flt := rfl
@[simp] theorem State.flushDue_answer (s : State) (rsp : Resp) : (s.answer rsp).flushDue = s.flushDue := rfl
@[simp] theorem State.forecast_answer (s : State) (a : Acts) (work : Bool) (rsp : Resp) : (s.answer rsp).forecast a work = s.forecast a work := rfl
@[simp] theorem State.frameAt_answer (s : State) (rx : Nat) (vc : Nat) (rsp : Resp) : (s.answer rsp).frameAt rx vc = s.frameAt rx vc := rfl
@[simp] theorem State.frameOn_answer (s : State) (rx : Nat) (vc : Nat) (rsp : Resp) : (s.answer rsp).frameOn rx vc = s.frameOn rx vc := rfl
@[simp] theorem State.frameTenants_answer (s : State) (m : Msg) (cam : Nat) (rsp : Resp) : (s.answer rsp).frameTenants m cam = s.frameTenants m cam := rfl
@[simp] theorem State.freeCtr_answer (self : State) (rsp : Resp) : (self.answer rsp).freeCtr = self.freeCtr := rfl
@[simp] theorem State.freeFor_answer (s : State) (n : Nat) (t : Nat) (rsp : Resp) : (s.answer rsp).freeFor n t = s.freeFor n t := rfl
@[simp] theorem State.freshCore_answer (s : State) (pc : Nat) (rsp : Resp) : (s.answer rsp).freshCore pc = s.freshCore pc := rfl
@[simp] theorem State.fupFind_answer (s : State) (p : Nat) (l : List Byte) (rsp : Resp) : (s.answer rsp).fupFind p l = s.fupFind p l := rfl
@[simp] theorem State.fupFree_answer (s : State) (rsp : Resp) : (s.answer rsp).fupFree = s.fupFree := rfl
@[simp] theorem State.fwdLevel_answer (s : State) (rx : Nat) (rsp : Resp) : (s.answer rsp).fwdLevel rx = s.fwdLevel rx := rfl
@[simp] theorem State.gain_answer (s : State) (rsp : Resp) : (s.answer rsp).gain = s.gain := rfl
@[simp] theorem State.getF_answer (s : State) (f : Fld) (rsp : Resp) : (s.answer rsp).getF f = s.getF f := rfl
@[simp] theorem State.getI_answer (s : State) (f : Fld) (rsp : Resp) : (s.answer rsp).getI f = s.getI f := rfl
@[simp] theorem State.getW2_answer (s : State) (f : Nat → Fld) (rsp : Resp) : (s.answer rsp).getW2 f = s.getW2 f := rfl
@[simp] theorem State.goodOf_answer (s : State) (e : Nat) (rsp : Resp) : (s.answer rsp).goodOf e = s.goodOf e := rfl
@[simp] theorem State.grantee_answer (s : State) (rsp : Resp) : (s.answer rsp).grantee = s.grantee := rfl
@[simp] theorem State.group_answer (s : State) (j : Job) (rsp : Resp) : (s.answer rsp).group j = s.group j := rfl
@[simp] theorem State.groupOk_answer (s : State) (l : List Byte) (rsp : Resp) : (s.answer rsp).groupOk l = s.groupOk l := rfl
@[simp] theorem State.headKey_answer (s : State) (rsp : Resp) : (s.answer rsp).headKey = s.headKey := rfl
@[simp] theorem State.headShift_answer (s : State) (t : Nat) (q : Nat) (rsp : Resp) : (s.answer rsp).headShift t q = s.headShift t q := rfl
@[simp] theorem State.held_answer (s : State) (t : Nat) (rsp : Resp) : (s.answer rsp).held t = s.held t := rfl
@[simp] theorem State.homing_answer (s : State) (rsp : Resp) : (s.answer rsp).homing = s.homing := rfl
@[simp] theorem State.i2c_answer (self : State) (rsp : Resp) : (self.answer rsp).i2c = self.i2c := rfl
@[simp] theorem State.i2cAddrBytes_answer (s : State) (i : Nat) (rsp : Resp) : (s.answer rsp).i2cAddrBytes i = s.i2cAddrBytes i := rfl
@[simp] theorem State.i2cBuf_answer (s : State) (i : Nat) (rsp : Resp) : (s.answer rsp).i2cBuf i = s.i2cBuf i := rfl
@[simp] theorem State.i2cFree_answer (s : State) (i : Nat) (rsp : Resp) : (s.answer rsp).i2cFree i = s.i2cFree i := rfl
@[simp] theorem State.i2cOf_answer (s : State) (i : Nat) (rsp : Resp) : (s.answer rsp).i2cOf i = s.i2cOf i := rfl
@[simp] theorem State.i2cPeriod_answer (s : State) (i : Nat) (rsp : Resp) : (s.answer rsp).i2cPeriod i = s.i2cPeriod i := rfl
@[simp] theorem State.i2cRuns_answer (s : State) (i : Nat) (rsp : Resp) : (s.answer rsp).i2cRuns i = s.i2cRuns i := rfl
@[simp] theorem State.idleSlot_answer (s : State) (t : Nat) (rsp : Resp) : (s.answer rsp).idleSlot t = s.idleSlot t := rfl
@[simp] theorem State.imageHead_answer (s : State) (p : PlanTenant) (off : Nat) (rsp : Resp) : (s.answer rsp).imageHead p off = s.imageHead p off := rfl
@[simp] theorem State.imageLen_answer (s : State) (p : PlanTenant) (off : Nat) (rsp : Resp) : (s.answer rsp).imageLen p off = s.imageLen p off := rfl
@[simp] theorem State.imgChunks_answer (s : State) (n : Nat) (rsp : Resp) : (s.answer rsp).imgChunks n = s.imgChunks n := rfl
@[simp] theorem State.imgRegions_answer (s : State) (rsp : Resp) : (s.answer rsp).imgRegions = s.imgRegions := rfl
@[simp] theorem State.imgRegionsOf_answer (s : State) (n : Nat) (rsp : Resp) : (s.answer rsp).imgRegionsOf n = s.imgRegionsOf n := rfl
@[simp] theorem State.imgSpace_answer (s : State) (n : Nat) (rsp : Resp) : (s.answer rsp).imgSpace n = s.imgSpace n := rfl
@[simp] theorem State.inPulse_answer (s : State) (rsp : Resp) : (s.answer rsp).inPulse = s.inPulse := rfl
@[simp] theorem State.inTime_answer (s : State) (k : Nat) (rsp : Resp) : (s.answer rsp).inTime k = s.inTime k := rfl
@[simp] theorem State.inWatch_answer (s : State) (rsp : Resp) : (s.answer rsp).inWatch = s.inWatch := rfl
@[simp] theorem State.inWork_answer (s : State) (rsp : Resp) : (s.answer rsp).inWork = s.inWork := rfl
@[simp] theorem State.indexMissing_answer (s : State) (up : Bool) (rsp : Resp) : (s.answer rsp).indexMissing up = s.indexMissing up := rfl
@[simp] theorem State.ing_answer (self : State) (rsp : Resp) : (self.answer rsp).ing = self.ing := rfl
@[simp] theorem State.ingCam_answer (s : State) (c : Nat) (rsp : Resp) : (s.answer rsp).ingCam c = s.ingCam c := rfl
@[simp] theorem State.ioutLost_answer (s : State) (rsp : Resp) : (s.answer rsp).ioutLost = s.ioutLost := rfl
@[simp] theorem State.irqExt_answer (s : State) (core : Nat) (rsp : Resp) : (s.answer rsp).irqExt core = s.irqExt core := rfl
@[simp] theorem State.irqLevel_answer (s : State) (core : Nat) (line : Nat) (rsp : Resp) : (s.answer rsp).irqLevel core line = s.irqLevel core line := rfl
@[simp] theorem State.irqLine_answer (s : State) (k : Nat) (rsp : Resp) : (s.answer rsp).irqLine k = s.irqLine k := rfl
@[simp] theorem State.irqPend_answer (s : State) (rsp : Resp) : (s.answer rsp).irqPend = s.irqPend := rfl
@[simp] theorem State.isCanary_answer (s : State) (data : List Byte) (rsp : Resp) : (s.answer rsp).isCanary data = s.isCanary data := rfl
@[simp] theorem State.isDark_answer (s : State) (rsp : Resp) : (s.answer rsp).isDark = s.isDark := rfl
@[simp] theorem State.isProbe_answer (s : State) (tag : Nat) (rsp : Resp) : (s.answer rsp).isProbe tag = s.isProbe tag := rfl
@[simp] theorem State.isSet_answer (s : State) (f : Fld) (rsp : Resp) : (s.answer rsp).isSet f = s.isSet f := rfl
@[simp] theorem State.jobEnded_answer (s : State) (j : Job) (rsp : Resp) : (s.answer rsp).jobEnded j = s.jobEnded j := rfl
@[simp] theorem State.jobOver_answer (s : State) (j : Job) (rsp : Resp) : (s.answer rsp).jobOver j = s.jobOver j := rfl
@[simp] theorem State.jobs_answer (s : State) (rsp : Resp) : (s.answer rsp).jobs = s.jobs := rfl
@[simp] theorem State.jtagLock_answer (s : State) (rsp : Resp) : (s.answer rsp).jtagLock = s.jtagLock := rfl
@[simp] theorem State.katOk_answer (s : State) (b : List Byte) (rsp : Resp) : (s.answer rsp).katOk b = s.katOk b := rfl
@[simp] theorem State.keyBurns_answer (s : State) (m : Sparse Nat) (rsp : Resp) : (s.answer rsp).keyBurns m = s.keyBurns m := rfl
@[simp] theorem State.keyClash_answer (s : State) (k : Nat) (h : List Byte) (rsp : Resp) : (s.answer rsp).keyClash k h = s.keyClash k h := rfl
@[simp] theorem State.keyConflict_answer (s : State) (m : Sparse Nat) (rsp : Resp) : (s.answer rsp).keyConflict m = s.keyConflict m := rfl
@[simp] theorem State.keyCopy_answer (s : State) (slot : Nat) (rsp : Resp) : (s.answer rsp).keyCopy slot = s.keyCopy slot := rfl
@[simp] theorem State.keyHash_answer (s : State) (slot : Nat) (rsp : Resp) : (s.answer rsp).keyHash slot = s.keyHash slot := rfl
@[simp] theorem State.keyIs_answer (s : State) (k : Nat) (h : List Byte) (rsp : Resp) : (s.answer rsp).keyIs k h = s.keyIs k h := rfl
@[simp] theorem State.keyOpen_answer (s : State) (b : Nat) (rsp : Resp) : (s.answer rsp).keyOpen b = s.keyOpen b := rfl
@[simp] theorem State.keyProg_answer (s : State) (k : Nat) (rsp : Resp) : (s.answer rsp).keyProg k = s.keyProg k := rfl
@[simp] theorem State.keyRev_answer (s : State) (k : Nat) (rsp : Resp) : (s.answer rsp).keyRev k = s.keyRev k := rfl
@[simp] theorem State.keys_answer (s : State) (rsp : Resp) : (s.answer rsp).keys = s.keys := rfl
@[simp] theorem State.lasted_answer (s : State) (t : Option Nat) (rsp : Resp) : (s.answer rsp).lasted t = s.lasted t := rfl
@[simp] theorem State.lcbAreas_answer (s : State) (n : Nat) (l : Lcb) (k : Nat) (rsp : Resp) : (s.answer rsp).lcbAreas n l k = s.lcbAreas n l k := rfl
@[simp] theorem State.lcbBytes_answer (s : State) (n : Nat) (a : Nat) (rsp : Resp) : (s.answer rsp).lcbBytes n a = s.lcbBytes n a := rfl
@[simp] theorem State.lcbOk_answer (s : State) (b : List Byte) (rsp : Resp) : (s.answer rsp).lcbOk b = s.lcbOk b := rfl
@[simp] theorem State.lck_answer (self : State) (rsp : Resp) : (self.answer rsp).lck = self.lck := rfl
@[simp] theorem State.ledHeat_answer (s : State) (rsp : Resp) : (s.answer rsp).ledHeat = s.ledHeat := rfl
@[simp] theorem State.ledUnits_answer (s : State) (rsp : Resp) : (s.answer rsp).ledUnits = s.ledUnits := rfl
@[simp] theorem State.lenders_answer (s : State) (rsp : Resp) : (s.answer rsp).lenders = s.lenders := rfl
@[simp] theorem State.lentTo_answer (s : State) (t : Nat) (rsp : Resp) : (s.answer rsp).lentTo t = s.lentTo t := rfl
@[simp] theorem State.limitAd_answer (s : State) (m : Nat) (rsp : Resp) : (s.answer rsp).limitAd m = s.limitAd m := rfl
@[simp] theorem State.limitCd_answer (s : State) (m : Nat) (rsp : Resp) : (s.answer rsp).limitCd m = s.limitCd m := rfl
@[simp] theorem State.limitFault_answer (s : State) (t : Nat) (rsp : Resp) : (s.answer rsp).limitFault t = s.limitFault t := rfl
@[simp] theorem State.linePoison_answer (s : State) (t : Nat) (l : Nat) (rsp : Resp) : (s.answer rsp).linePoison t l = s.linePoison t l := rfl
@[simp] theorem State.link_answer (s : State) (ad : Bool) (rsp : Resp) : (s.answer rsp).link ad = s.link ad := rfl
@[simp] theorem State.linkActive_answer (s : State) (rsp : Resp) : (s.answer rsp).linkActive = s.linkActive := rfl
@[simp] theorem State.linkState_answer (s : State) (rsp : Resp) : (s.answer rsp).linkState = s.linkState := rfl
@[simp] theorem State.linkUp_answer (s : State) (p : Nat) (rsp : Resp) : (s.answer rsp).linkUp p = s.linkUp p := rfl
@[simp] theorem State.live_answer (s : State) (n : Nat) (rsp : Resp) : (s.answer rsp).live n = s.live n := rfl
@[simp] theorem State.loadTargets_answer (s : State) (rsp : Resp) : (s.answer rsp).loadTargets = s.loadTargets := rfl
@[simp] theorem State.loadsDone_answer (s : State) (rsp : Resp) : (s.answer rsp).loadsDone = s.loadsDone := rfl
@[simp] theorem State.lockstep_answer (s : State) (rsp : Resp) : (s.answer rsp).lockstep = s.lockstep := rfl
@[simp] theorem State.logByte_answer (s : State) (o : Nat) (rsp : Resp) : (s.answer rsp).logByte o = s.logByte o := rfl
@[simp] theorem State.logErased_answer (s : State) (p : Nat) (rsp : Resp) : (s.answer rsp).logErased p = s.logErased p := rfl
@[simp] theorem State.logHead_answer (s : State) (b : LogBody) (rsp : Resp) : (s.answer rsp).logHead b = s.logHead b := rfl
@[simp] theorem State.lux_answer (self : State) (rsp : Resp) : (self.answer rsp).lux = self.lux := rfl
@[simp] theorem State.luxCh_answer (s : State) (c : Nat) (rsp : Resp) : (s.answer rsp).luxCh c = s.luxCh c := rfl
@[simp] theorem State.luxTarget_answer (s : State) (rsp : Resp) : (s.answer rsp).luxTarget = s.luxTarget := rfl
@[simp] theorem State.mappedZones_answer (s : State) (c : Nat) (rsp : Resp) : (s.answer rsp).mappedZones c = s.mappedZones c := rfl
@[simp] theorem State.masked_answer (s : State) (c : Nat) (scores : Nat) (rsp : Resp) : (s.answer rsp).masked c scores = s.masked c scores := rfl
@[simp] theorem State.mayAccess_answer (s : State) (n : Nat) (x : Nat) (len : Nat) (write : Bool) (rsp : Resp) : (s.answer rsp).mayAccess n x len write = s.mayAccess n x len write := rfl
@[simp] theorem State.mayBorrow_answer (s : State) (t : Nat) (n : Nat) (rsp : Resp) : (s.answer rsp).mayBorrow t n = s.mayBorrow t n := rfl
@[simp] theorem State.mayEnter_answer (s : State) (rsp : Resp) : (s.answer rsp).mayEnter = s.mayEnter := rfl
@[simp] theorem State.mayForward_answer (s : State) (rsp : Resp) : (s.answer rsp).mayForward = s.mayForward := rfl
@[simp] theorem State.mayQualify_answer (s : State) (rsp : Resp) : (s.answer rsp).mayQualify = s.mayQualify := rfl
@[simp] theorem State.mayWork_answer (s : State) (rsp : Resp) : (s.answer rsp).mayWork = s.mayWork := rfl
@[simp] theorem State.memScope_answer (s : State) (tenant : Nat) (addr : Nat) (len : Nat) (write : Bool) (rsp : Resp) : (s.answer rsp).memScope tenant addr len write = s.memScope tenant addr len write := rfl
@[simp] theorem State.memWaiting_answer (s : State) (rsp : Resp) : (s.answer rsp).memWaiting = s.memWaiting := rfl
@[simp] theorem State.model_answer (s : State) (rsp : Resp) : (s.answer rsp).model = s.model := rfl
@[simp] theorem State.modelF_answer (s : State) (o : Nat) (n : Nat) (rsp : Resp) : (s.answer rsp).modelF o n = s.modelF o n := rfl
@[simp] theorem State.mtime_answer (s : State) (rsp : Resp) : (s.answer rsp).mtime = s.mtime := rfl
@[simp] theorem State.namedBlobs_answer (s : State) (rsp : Resp) : (s.answer rsp).namedBlobs = s.namedBlobs := rfl
@[simp] theorem State.net_answer (self : State) (rsp : Resp) : (self.answer rsp).net = self.net := rfl
@[simp] theorem State.netMac_answer (s : State) (rsp : Resp) : (s.answer rsp).netMac = s.netMac := rfl
@[simp] theorem State.newF_answer (s : State) (r : FieldRow) (v : Nat) (rsp : Resp) : (s.answer rsp).newF r v = s.newF r v := rfl
@[simp] theorem State.nextFrame_answer (s : State) (n : Nat) (rsp : Resp) : (s.answer rsp).nextFrame n = s.nextFrame n := rfl
@[simp] theorem State.nextJob_answer (s : State) (n : Nat) (rsp : Resp) : (s.answer rsp).nextJob n = s.nextJob n := rfl
@[simp] theorem State.nextProbe_answer (s : State) (rsp : Resp) : (s.answer rsp).nextProbe = s.nextProbe := rfl
@[simp] theorem State.nextRead_answer (s : State) (rsp : Resp) : (s.answer rsp).nextRead = s.nextRead := rfl
@[simp] theorem State.nextRing_answer (s : State) (n : Nat) (rsp : Resp) : (s.answer rsp).nextRing n = s.nextRing n := rfl
@[simp] theorem State.nextSlot_answer (s : State) (safety : Bool) (rsp : Resp) : (s.answer rsp).nextSlot safety = s.nextSlot safety := rfl
@[simp] theorem State.now_answer (self : State) (rsp : Resp) : (self.answer rsp).now = self.now := rfl
@[simp] theorem State.ntc_answer (s : State) (code : Nat) (rsp : Resp) : (s.answer rsp).ntc code = s.ntc code := rfl
@[simp] theorem State.occ_answer (s : State) (id : Nat) (cls : Nat) (src : Nat) (a0 : Nat) (a1 : Nat) (a2 : Nat) (rsp : Resp) : (s.answer rsp).occ id cls src a0 a1 a2 = s.occ id cls src a0 a1 a2 := rfl
@[simp] theorem State.on_answer (s : State) (d : Nat) (rsp : Resp) : (s.answer rsp).on d = s.on d := rfl
@[simp] theorem State.otherBank_answer (s : State) (t : Nat) (rsp : Resp) : (s.answer rsp).otherBank t = s.otherBank t := rfl
@[simp] theorem State.otp_answer (self : State) (rsp : Resp) : (self.answer rsp).otp = self.otp := rfl
@[simp] theorem State.otpBytes_answer (s : State) (a : Nat) (n : Nat) (rsp : Resp) : (s.answer rsp).otpBytes a n = s.otpBytes a n := rfl
@[simp] theorem State.otpDiffers_answer (s : State) (p : Nat × Nat × Nat) (rsp : Resp) : (s.answer rsp).otpDiffers p = s.otpDiffers p := rfl
@[simp] theorem State.otpFlag_answer (s : State) (o : Nat) (rsp : Resp) : (s.answer rsp).otpFlag o = s.otpFlag o := rfl
@[simp] theorem State.otpOut_answer (s : State) (o : Nat) (rsp : Resp) : (s.answer rsp).otpOut o = s.otpOut o := rfl
@[simp] theorem State.ownKey_answer (s : State) (rsp : Resp) : (s.answer rsp).ownKey = s.ownKey := rfl
@[simp] theorem State.ownLine_answer (s : State) (t : Nat) (l : Nat) (rsp : Resp) : (s.answer rsp).ownLine t l = s.ownLine t l := rfl
@[simp] theorem State.ownNode_answer (s : State) (rsp : Resp) : (s.answer rsp).ownNode = s.ownNode := rfl
@[simp] theorem State.ownRing_answer (s : State) (rsp : Resp) : (s.answer rsp).ownRing = s.ownRing := rfl
@[simp] theorem State.ownStanding_answer (s : State) (rsp : Resp) : (s.answer rsp).ownStanding = s.ownStanding := rfl
@[simp] theorem State.owner_answer (s : State) (t : Nat) (rsp : Resp) : (s.answer rsp).owner t = s.owner t := rfl
@[simp] theorem State.pMeas_answer (s : State) (rsp : Resp) : (s.answer rsp).pMeas = s.pMeas := rfl
@[simp] theorem State.packageAt_answer (s : State) (n : Nat) (rsp : Resp) : (s.answer rsp).packageAt n = s.packageAt n := rfl
@[simp] theorem State.pageAtFlash_answer (s : State) (p : Nat) (rsp : Resp) : (s.answer rsp).pageAtFlash p = s.pageAtFlash p := rfl
@[simp] theorem State.pageCondition_answer (s : State) (rsp : Resp) : (s.answer rsp).pageCondition = s.pageCondition := rfl
@[simp] theorem State.pageErased_answer (s : State) (p : Nat) (rsp : Resp) : (s.answer rsp).pageErased p = s.pageErased p := rfl
@[simp] theorem State.pageRecords_answer (s : State) (rsp : Resp) : (s.answer rsp).pageRecords = s.pageRecords := rfl
@[simp] theorem State.pairDemand_answer (s : State) (n : Nat) (rsp : Resp) : (s.answer rsp).pairDemand n = s.pairDemand n := rfl
@[simp] theorem State.password_answer (s : State) (len : Nat) (rsp : Resp) : (s.answer rsp).password len = s.password len := rfl
@[simp] theorem State.peaks_answer (s : State) (a : Acts) (work : Bool) (rsp : Resp) : (s.answer rsp).peaks a work = s.peaks a work := rfl
@[simp] theorem State.peerForeign_answer (s : State) (t : Nat) (q : Nat) (h : Shift) (rsp : Resp) : (s.answer rsp).peerForeign t q h = s.peerForeign t q h := rfl
@[simp] theorem State.pending_answer (self : State) (rsp : Resp) : (self.answer rsp).pending = self.pending := rfl
@[simp] theorem State.persistClass_answer (s : State) (cls : Nat) (rsp : Resp) : (s.answer rsp).persistClass cls = s.persistClass cls := rfl
@[simp] theorem State.pgHigh_answer (s : State) (n : Nat) (rsp : Resp) : (s.answer rsp).pgHigh n = s.pgHigh n := rfl
@[simp] theorem State.phasesOf_answer (s : State) (p : PlanTenant) (rsp : Resp) : (s.answer rsp).phasesOf p = s.phasesOf p := rfl
@[simp] theorem State.phi_answer (s : State) (p : Nat) (rsp : Resp) : (s.answer rsp).phi p = s.phi p := rfl
@[simp] theorem State.pinDrive_answer (s : State) (n : Nat) (rsp : Resp) : (s.answer rsp).pinDrive n = s.pinDrive n := rfl
@[simp] theorem State.pinEdge_answer (s : State) (n : Nat) (rsp : Resp) : (s.answer rsp).pinEdge n = s.pinEdge n := rfl
@[simp] theorem State.pinFn_answer (s : State) (n : Nat) (rsp : Resp) : (s.answer rsp).pinFn n = s.pinFn n := rfl
@[simp] theorem State.pinState_answer (s : State) (g : PinGroup) (rsp : Resp) : (s.answer rsp).pinState g = s.pinState g := rfl
@[simp] theorem State.pirHeld_answer (s : State) (rsp : Resp) : (s.answer rsp).pirHeld = s.pirHeld := rfl
@[simp] theorem State.pkgBytes_answer (s : State) (p : PlanTenant) (off : Nat) (len : Nat) (rsp : Resp) : (s.answer rsp).pkgBytes p off len = s.pkgBytes p off len := rfl
@[simp] theorem State.pkgHdr_answer (s : State) (p : PlanTenant) (rsp : Resp) : (s.answer rsp).pkgHdr p = s.pkgHdr p := rfl
@[simp] theorem State.place_answer (s : State) (n : Nat) (x : Nat) (write : Bool) (rsp : Resp) : (s.answer rsp).place n x write = s.place n x write := rfl
@[simp] theorem State.planClass_answer (s : State) (n : Nat) (rsp : Resp) : (s.answer rsp).planClass n = s.planClass n := rfl
@[simp] theorem State.planFits_answer (s : State) (l : List Byte) (rsp : Resp) : (s.answer rsp).planFits l = s.planFits l := rfl
@[simp] theorem State.planOf_answer (s : State) (n : Nat) (rsp : Resp) : (s.answer rsp).planOf n = s.planOf n := rfl
@[simp] theorem State.pmu_answer (self : State) (rsp : Resp) : (self.answer rsp).pmu = self.pmu := rfl
@[simp] theorem State.pointScale_answer (s : State) (cap : Nat) (rsp : Resp) : (s.answer rsp).pointScale cap = s.pointScale cap := rfl
@[simp] theorem State.pointsHeld_answer (s : State) (top : Nat) (pts : List Nat) (rsp : Resp) : (s.answer rsp).pointsHeld top pts = s.pointsHeld top pts := rfl
@[simp] theorem State.pointsNow_answer (s : State) (rsp : Resp) : (s.answer rsp).pointsNow = s.pointsNow := rfl
@[simp] theorem State.portDev_answer (s : State) (p : Nat) (rsp : Resp) : (s.answer rsp).portDev p = s.portDev p := rfl
@[simp] theorem State.potPred_answer (s : State) (rsp : Resp) : (s.answer rsp).potPred = s.potPred := rfl
@[simp] theorem State.progLen_answer (s : State) (t : Nat) (rsp : Resp) : (s.answer rsp).progLen t = s.progLen t := rfl
@[simp] theorem State.progs_answer (self : State) (rsp : Resp) : (self.answer rsp).progs = self.progs := rfl
@[simp] theorem State.ptpBase_answer (s : State) (d : Nat) (rsp : Resp) : (s.answer rsp).ptpBase d = s.ptpBase d := rfl
@[simp] theorem State.qspi_answer (self : State) (rsp : Resp) : (self.answer rsp).qspi = self.qspi := rfl
@[simp] theorem State.rangeOk_answer (s : State) (n : Nat) (x : Nat) (len : Nat) (write : Bool) (rsp : Resp) : (s.answer rsp).rangeOk n x len write = s.rangeOk n x len write := rfl
@[simp] theorem State.rankIsOpen_answer (s : State) (r : Nat) (rsp : Resp) : (s.answer rsp).rankIsOpen r = s.rankIsOpen r := rfl
@[simp] theorem State.rankKey_answer (s : State) (r : Nat) (rsp : Resp) : (s.answer rsp).rankKey r = s.rankKey r := rfl
@[simp] theorem State.rawLine_answer (s : State) (t : Nat) (l : Nat) (rsp : Resp) : (s.answer rsp).rawLine t l = s.rawLine t l := rfl
@[simp] theorem State.readI2c_answer (s : State) (i : Nat) (k : Nat) (rsp : Resp) : (s.answer rsp).readI2c i k = s.readI2c i k := rfl
@[simp] theorem State.readRc_answer (s : State) (f : Fld) (rsp : Resp) : (s.answer rsp).readRc f = s.readRc f := rfl
@[simp] theorem State.ready_answer (s : State) (rsp : Resp) : (s.answer rsp).ready = s.ready := rfl
@[simp] theorem State.recent_answer (s : State) (w : Nat) (l : List Nat) (rsp : Resp) : (s.answer rsp).recent w l = s.recent w l := rfl
@[simp] theorem State.region_answer (s : State) (i : Nat) (rsp : Resp) : (s.answer rsp).region i = s.region i := rfl
@[simp] theorem State.regionsOf_answer (s : State) (n : Nat) (rsp : Resp) : (s.answer rsp).regionsOf n = s.regionsOf n := rfl
@[simp] theorem State.regs_answer (self : State) (rsp : Resp) : (self.answer rsp).regs = self.regs := rfl
@[simp] theorem State.releaseTo_answer (s : State) (n : Nat) (rsp : Resp) : (s.answer rsp).releaseTo n = s.releaseTo n := rfl
@[simp] theorem State.remain_answer (s : State) (t : Timer) (u : Nat) (rsp : Resp) : (s.answer rsp).remain t u = s.remain t u := rfl
@[simp] theorem State.resetCause_answer (s : State) (rsp : Resp) : (s.answer rsp).resetCause = s.resetCause := rfl
@[simp] theorem State.resting_answer (s : State) (t : Nat) (rsp : Resp) : (s.answer rsp).resting t = s.resting t := rfl
@[simp] theorem State.reusable_answer (s : State) (k : Nat) (safety : Bool) (rsp : Resp) : (s.answer rsp).reusable k safety = s.reusable k safety := rfl
@[simp] theorem State.ringDesc_answer (s : State) (r : Ring) (size : Nat) (rsp : Resp) : (s.answer rsp).ringDesc r size = s.ringDesc r size := rfl
@[simp] theorem State.ringHas_answer (s : State) (r : Ring) (rsp : Resp) : (s.answer rsp).ringHas r = s.ringHas r := rfl
@[simp] theorem State.ringRead_answer (s : State) (a : Nat) (n : Nat) (rsp : Resp) : (s.answer rsp).ringRead a n = s.ringRead a n := rfl
@[simp] theorem State.roleDemand_answer (s : State) (r : Nat) (rsp : Resp) : (s.answer rsp).roleDemand r = s.roleDemand r := rfl
@[simp] theorem State.rom_answer (self : State) (rsp : Resp) : (self.answer rsp).rom = self.rom := rfl
@[simp] theorem State.rosterWaits_answer (s : State) (rsp : Resp) : (s.answer rsp).rosterWaits = s.rosterWaits := rfl
@[simp] theorem State.rtc_answer (s : State) (rsp : Resp) : (s.answer rsp).rtc = s.rtc := rfl
@[simp] theorem State.rts_answer (s : State) (i : Nat) (rsp : Resp) : (s.answer rsp).rts i = s.rts i := rfl
@[simp] theorem State.runEntry_answer (s : State) (n : Nat) (cam : Nat) (ctr : Nat) (rsp : Resp) : (s.answer rsp).runEntry n cam ctr = s.runEntry n cam ctr := rfl
@[simp] theorem State.runOf_answer (s : State) (e : Nat) (rsp : Resp) : (s.answer rsp).runOf e = s.runOf e := rfl
@[simp] theorem State.runOver_answer (s : State) (e : RunEntry) (rsp : Resp) : (s.answer rsp).runOver e = s.runOver e := rfl
@[simp] theorem State.runnable_answer (s : State) (j : Job) (rsp : Resp) : (s.answer rsp).runnable j = s.runnable j := rfl
@[simp] theorem State.rxOn_answer (s : State) (rx : Nat) (rsp : Resp) : (s.answer rsp).rxOn rx = s.rxOn rx := rfl
@[simp] theorem State.rxQueue_answer (s : State) (l : List Byte) (rsp : Resp) : (s.answer rsp).rxQueue l = s.rxQueue l := rfl
@[simp] theorem State.rxRefused_answer (s : State) (total : Nat) (dest : Nat) (kind : Nat) (rsp : Resp) : (s.answer rsp).rxRefused total dest kind = s.rxRefused total dest kind := rfl
@[simp] theorem State.rxStamp_answer (s : State) (p : Nat) (b : Nat) (rsp : Resp) : (s.answer rsp).rxStamp p b = s.rxStamp p b := rfl
@[simp] theorem State.safetyAgainst_answer (s : State) (c : Checked) (old : Option (List Byte)) (rsp : Resp) : (s.answer rsp).safetyAgainst c old = s.safetyAgainst c old := rfl
@[simp] theorem State.scoreSet_answer (s : State) (c : Nat) (fs : Nat) (rsp : Resp) : (s.answer rsp).scoreSet c fs = s.scoreSet c fs := rfl
@[simp] theorem State.sdiBroken_answer (s : State) (rsp : Resp) : (s.answer rsp).sdiBroken = s.sdiBroken := rfl
@[simp] theorem State.sendVc_answer (s : State) (ad : Bool) (rsp : Resp) : (s.answer rsp).sendVc ad = s.sendVc ad := rfl
@[simp] theorem State.seqWaits_answer (s : State) (t : Nat) (rsp : Resp) : (s.answer rsp).seqWaits t = s.seqWaits t := rfl
@[simp] theorem State.serviceNs_answer (s : State) (p : PlanTenant) (rsp : Resp) : (s.answer rsp).serviceNs p = s.serviceNs p := rfl
@[simp] theorem State.sessionOpen_answer (s : State) (rsp : Resp) : (s.answer rsp).sessionOpen = s.sessionOpen := rfl
@[simp] theorem State.setMv_answer (s : State) (p : Nat) (rsp : Resp) : (s.answer rsp).setMv p = s.setMv p := rfl
@[simp] theorem State.setNow_answer (s : State) (f : Fld) (rsp : Resp) : (s.answer rsp).setNow f = s.setNow f := rfl
@[simp] theorem State.shelf_answer (self : State) (rsp : Resp) : (self.answer rsp).shelf = self.shelf := rfl
@[simp] theorem State.shelfAt_answer (s : State) (n : Nat) (a : Nat) (rsp : Resp) : (s.answer rsp).shelfAt n a = s.shelfAt n a := rfl
@[simp] theorem State.shelfBytes_answer (s : State) (n : Nat) (a : Nat) (len : Nat) (rsp : Resp) : (s.answer rsp).shelfBytes n a len = s.shelfBytes n a len := rfl
@[simp] theorem State.shelfPlace_answer (s : State) (n : Nat) (x : Nat) (rsp : Resp) : (s.answer rsp).shelfPlace n x = s.shelfPlace n x := rfl
@[simp] theorem State.shelfPoisoned_answer (s : State) (n : Nat) (a : Nat) (len : Nat) (rsp : Resp) : (s.answer rsp).shelfPoisoned n a len = s.shelfPoisoned n a len := rfl
@[simp] theorem State.shiftOver_answer (s : State) (t : Nat) (q : Nat) (h : Shift) (rsp : Resp) : (s.answer rsp).shiftOver t q h = s.shiftOver t q h := rfl
@[simp] theorem State.signedF_answer (s : State) (f : Fld) (rsp : Resp) : (s.answer rsp).signedF f = s.signedF f := rfl
@[simp] theorem State.sil_answer (self : State) (rsp : Resp) : (self.answer rsp).sil = self.sil := rfl
@[simp] theorem State.sinFault_answer (s : State) (rsp : Resp) : (s.answer rsp).sinFault = s.sinFault := rfl
@[simp] theorem State.sinceTb2_answer (s : State) (t : Nat) (rsp : Resp) : (s.answer rsp).sinceTb2 t = s.sinceTb2 t := rfl
@[simp] theorem State.sio_answer (self : State) (rsp : Resp) : (self.answer rsp).sio = self.sio := rfl
@[simp] theorem State.sioPair_answer (s : State) (n : Nat) (rsp : Resp) : (s.answer rsp).sioPair n = s.sioPair n := rfl
@[simp] theorem State.slewStep_answer (s : State) (rsp : Resp) : (s.answer rsp).slewStep = s.slewStep := rfl
@[simp] theorem State.slotBusy_answer (s : State) (m : CrnMsg) (rsp : Resp) : (s.answer rsp).slotBusy m = s.slotBusy m := rfl
@[simp] theorem State.slotCopies_answer (s : State) (k : Nat) (rsp : Resp) : (s.answer rsp).slotCopies k = s.slotCopies k := rfl
@[simp] theorem State.slotImage_answer (s : State) (k : Nat) (rsp : Resp) : (s.answer rsp).slotImage k = s.slotImage k := rfl
@[simp] theorem State.slotNow_answer (s : State) (rsp : Resp) : (s.answer rsp).slotNow = s.slotNow := rfl
@[simp] theorem State.slotPending_answer (s : State) (sl : LogSlot) (rsp : Resp) : (s.answer rsp).slotPending sl = s.slotPending sl := rfl
@[simp] theorem State.slotState_answer (s : State) (k : Nat) (rsp : Resp) : (s.answer rsp).slotState k = s.slotState k := rfl
@[simp] theorem State.slotWords_answer (s : State) (n : Nat) (l : Lcb) (k : Nat) (t : Tensor) (gather : Bool) (rsp : Resp) : (s.answer rsp).slotWords n l k t gather = s.slotWords n l k t gather := rfl
@[simp] theorem State.slotWritten_answer (s : State) (rsp : Resp) : (s.answer rsp).slotWritten = s.slotWritten := rfl
@[simp] theorem State.slotted_answer (s : State) (rsp : Resp) : (s.answer rsp).slotted = s.slotted := rfl
@[simp] theorem State.slpBroken_answer (s : State) (rsp : Resp) : (s.answer rsp).slpBroken = s.slpBroken := rfl
@[simp] theorem State.someRun_answer (s : State) (rsp : Resp) : (s.answer rsp).someRun = s.someRun := rfl
@[simp] theorem State.spaceOf_answer (s : State) (n : Nat) (rsp : Resp) : (s.answer rsp).spaceOf n = s.spaceOf n := rfl
@[simp] theorem State.spi_answer (self : State) (rsp : Resp) : (self.answer rsp).spi = self.spi := rfl
@[simp] theorem State.splitOver_answer (s : State) (rsp : Resp) : (s.answer rsp).splitOver = s.splitOver := rfl
@[simp] theorem State.sram_answer (self : State) (rsp : Resp) : (self.answer rsp).sram = self.sram := rfl
@[simp] theorem State.sramBytes_answer (s : State) (a : Nat) (n : Nat) (rsp : Resp) : (s.answer rsp).sramBytes a n = s.sramBytes a n := rfl
@[simp] theorem State.stageSlot_answer (s : State) (rsp : Resp) : (s.answer rsp).stageSlot = s.stageSlot := rfl
@[simp] theorem State.staleFe_answer (s : State) (fe : Nat) (rsp : Resp) : (s.answer rsp).staleFe fe = s.staleFe fe := rfl
@[simp] theorem State.stampOf_answer (s : State) (cam : Nat) (ctr : Nat) (fs : Nat) (rsp : Resp) : (s.answer rsp).stampOf cam ctr fs = s.stampOf cam ctr fs := rfl
@[simp] theorem State.standing_answer (s : State) (rsp : Resp) : (s.answer rsp).standing = s.standing := rfl
@[simp] theorem State.startFailed_answer (s : State) (rsp : Resp) : (s.answer rsp).startFailed = s.startFailed := rfl
@[simp] theorem State.startable_answer (s : State) (n : Nat) (rsp : Resp) : (s.answer rsp).startable n = s.startable n := rfl
@[simp] theorem State.stepReady_answer (s : State) (a : Apply) (rsp : Resp) : (s.answer rsp).stepReady a = s.stepReady a := rfl
@[simp] theorem State.stkChunk_answer (s : State) (n : Nat) (i : Nat) (rsp : Resp) : (s.answer rsp).stkChunk n i = s.stkChunk n i := rfl
@[simp] theorem State.stkNsel_answer (s : State) (n : Nat) (rsp : Resp) : (s.answer rsp).stkNsel n = s.stkNsel n := rfl
@[simp] theorem State.stkSelect_answer (s : State) (n : Nat) (runs : Nat) (rsp : Resp) : (s.answer rsp).stkSelect n runs = s.stkSelect n runs := rfl
@[simp] theorem State.stoFree_answer (s : State) (rsp : Resp) : (s.answer rsp).stoFree = s.stoFree := rfl
@[simp] theorem State.stranger_answer (s : State) (owner : Nat) (rsp : Resp) : (s.answer rsp).stranger owner = s.stranger owner := rfl
@[simp] theorem State.subscribesS_answer (s : State) (n : Nat) (c : Nat) (rsp : Resp) : (s.answer rsp).subscribesS n c = s.subscribesS n c := rfl
@[simp] theorem State.suspended_answer (s : State) (rsp : Resp) : (s.answer rsp).suspended = s.suspended := rfl
@[simp] theorem State.takesFrames_answer (s : State) (n : Nat) (rsp : Resp) : (s.answer rsp).takesFrames n = s.takesFrames n := rfl
@[simp] theorem State.tb2_answer (s : State) (rsp : Resp) : (s.answer rsp).tb2 = s.tb2 := rfl
@[simp] theorem State.tbAdvance_answer (s : State) (n : Nat) (rsp : Resp) : (s.answer rsp).tbAdvance n = s.tbAdvance n := rfl
@[simp] theorem State.tbFix_answer (s : State) (n : Nat) (rsp : Resp) : (s.answer rsp).tbFix n = s.tbFix n := rfl
@[simp] theorem State.ten_answer (self : State) (rsp : Resp) : (self.answer rsp).ten = self.ten := rfl
@[simp] theorem State.tenLive_answer (s : State) (rsp : Resp) : (s.answer rsp).tenLive = s.tenLive := rfl
@[simp] theorem State.tenRead_answer (s : State) (n : Nat) (x : Nat) (len : Nat) (rsp : Resp) : (s.answer rsp).tenRead n x len = s.tenRead n x len := rfl
@[simp] theorem State.tenantMayRecord_answer (s : State) (n : Nat) (rsp : Resp) : (s.answer rsp).tenantMayRecord n = s.tenantMayRecord n := rfl
@[simp] theorem State.tenantOf_answer (s : State) (t : Nat) (rsp : Resp) : (s.answer rsp).tenantOf t = s.tenantOf t := rfl
@[simp] theorem State.tenantPresent_answer (s : State) (n : Nat) (rsp : Resp) : (s.answer rsp).tenantPresent n = s.tenantPresent n := rfl
@[simp] theorem State.tenantSt_answer (s : State) (n : Nat) (rsp : Resp) : (s.answer rsp).tenantSt n = s.tenantSt n := rfl
@[simp] theorem State.tenantsIn_answer (s : State) (rsp : Resp) : (s.answer rsp).tenantsIn = s.tenantsIn := rfl
@[simp] theorem State.thm_answer (self : State) (rsp : Resp) : (self.answer rsp).thm = self.thm := rfl
@[simp] theorem State.tile_answer (s : State) (t : Nat) (rsp : Resp) : (s.answer rsp).tile t = s.tile t := rfl
@[simp] theorem State.tileCycle_answer (s : State) (rsp : Resp) : (s.answer rsp).tileCycle = s.tileCycle := rfl
@[simp] theorem State.tileLive_answer (s : State) (t : Nat) (rsp : Resp) : (s.answer rsp).tileLive t = s.tileLive t := rfl
@[simp] theorem State.tileUsed_answer (s : State) (t : Nat) (rsp : Resp) : (s.answer rsp).tileUsed t = s.tileUsed t := rfl
@[simp] theorem State.tilesOn_answer (s : State) (rsp : Resp) : (s.answer rsp).tilesOn = s.tilesOn := rfl
@[simp] theorem State.tilesRunning_answer (s : State) (n : Nat) (rsp : Resp) : (s.answer rsp).tilesRunning n = s.tilesRunning n := rfl
@[simp] theorem State.tilesUsed_answer (s : State) (rsp : Resp) : (s.answer rsp).tilesUsed = s.tilesUsed := rfl
@[simp] theorem State.tim_answer (self : State) (rsp : Resp) : (self.answer rsp).tim = self.tim := rfl
@[simp] theorem State.timers_answer (self : State) (rsp : Resp) : (self.answer rsp).timers = self.timers := rfl
@[simp] theorem State.tlt_answer (self : State) (rsp : Resp) : (self.answer rsp).tlt = self.tlt := rfl
@[simp] theorem State.tltCount_answer (s : State) (rsp : Resp) : (s.answer rsp).tltCount = s.tltCount := rfl
@[simp] theorem State.tltWatches_answer (s : State) (rsp : Resp) : (s.answer rsp).tltWatches = s.tltWatches := rfl
@[simp] theorem State.tnState_answer (s : State) (n : Nat) (rsp : Resp) : (s.answer rsp).tnState n = s.tnState n := rfl
@[simp] theorem State.tokenFor_answer (s : State) (t : Nat) (n : Nat) (field : Nat) (rsp : Resp) : (s.answer rsp).tokenFor t n field = s.tokenFor t n field := rfl
@[simp] theorem State.tokenOk_answer (s : State) (t : Nat) (n : Nat) (rsp : Resp) : (s.answer rsp).tokenOk t n = s.tokenOk t n := rfl
@[simp] theorem State.tokensOf_answer (s : State) (n : Nat) (rsp : Resp) : (s.answer rsp).tokensOf n = s.tokensOf n := rfl
@[simp] theorem State.tooHot_answer (s : State) (p : Peaks) (m : Nat) (rsp : Resp) : (s.answer rsp).tooHot p m = s.tooHot p m := rfl
@[simp] theorem State.trainStatus_answer (s : State) (n : Nat) (j : Job) (rsp : Resp) : (s.answer rsp).trainStatus n j = s.trainStatus n j := rfl
@[simp] theorem State.training_answer (s : State) (rsp : Resp) : (s.answer rsp).training = s.training := rfl
@[simp] theorem State.tripped_answer (s : State) (mask : Nat) (rsp : Resp) : (s.answer rsp).tripped mask = s.tripped mask := rfl
@[simp] theorem State.trustSeen_answer (s : State) (rsp : Resp) : (s.answer rsp).trustSeen = s.trustSeen := rfl
@[simp] theorem State.tstate_answer (s : State) (t : Nat) (rsp : Resp) : (s.answer rsp).tstate t = s.tstate t := rfl
@[simp] theorem State.ttrgHolds_answer (s : State) (k : Nat) (rsp : Resp) : (s.answer rsp).ttrgHolds k = s.ttrgHolds k := rfl
@[simp] theorem State.txStamp_answer (s : State) (p : Nat) (b : Nat) (rsp : Resp) : (s.answer rsp).txStamp p b = s.txStamp p b := rfl
@[simp] theorem State.txTimed_answer (s : State) (rsp : Resp) : (s.answer rsp).txTimed = s.txTimed := rfl
@[simp] theorem State.uart_answer (self : State) (rsp : Resp) : (self.answer rsp).uart = self.uart := rfl
@[simp] theorem State.uartFlow_answer (s : State) (i : Nat) (rsp : Resp) : (s.answer rsp).uartFlow i = s.uartFlow i := rfl
@[simp] theorem State.uartOf_answer (s : State) (i : Nat) (rsp : Resp) : (s.answer rsp).uartOf i = s.uartOf i := rfl
@[simp] theorem State.uartParity_answer (s : State) (i : Nat) (rsp : Resp) : (s.answer rsp).uartParity i = s.uartParity i := rfl
@[simp] theorem State.unitsOf_answer (s : State) (n : Nat) (rsp : Resp) : (s.answer rsp).unitsOf n = s.unitsOf n := rfl
@[simp] theorem State.usable_answer (s : State) (n : Nat) (need : Nat) (t : Nat) (rsp : Resp) : (s.answer rsp).usable n need t = s.usable n need t := rfl
@[simp] theorem State.vaReg_answer (s : State) (t : Nat) (i : Nat) (rsp : Resp) : (s.answer rsp).vaReg t i = s.vaReg t i := rfl
@[simp] theorem State.vlanOk_answer (s : State) (l : List Byte) (rsp : Resp) : (s.answer rsp).vlanOk l = s.vlanOk l := rfl
@[simp] theorem State.vmark_answer (s : State) (t : Nat) (v : Nat) (rsp : Resp) : (s.answer rsp).vmark t v = s.vmark t v := rfl
@[simp] theorem State.voutNear_answer (s : State) (mv : Nat) (rsp : Resp) : (s.answer rsp).voutNear mv = s.voutNear mv := rfl
@[simp] theorem State.vreg_answer (s : State) (t : Nat) (v : Nat) (rsp : Resp) : (s.answer rsp).vreg t v = s.vreg t v := rfl
@[simp] theorem State.waitsOn_answer (s : State) (t : Nat) (n : Nat) (field : Nat) (rsp : Resp) : (s.answer rsp).waitsOn t n field = s.waitsOn t n field := rfl
@[simp] theorem State.wdtMs_answer (s : State) (rsp : Resp) : (s.answer rsp).wdtMs = s.wdtMs := rfl
@[simp] theorem State.widest_answer (s : State) (p : PlanTenant) (rsp : Resp) : (s.answer rsp).widest p = s.widest p := rfl
@[simp] theorem State.window_answer (s : State) (w : Nat) (l : List Nat) (rsp : Resp) : (s.answer rsp).window w l = s.window w l := rfl
@[simp] theorem State.windowAddr_answer (s : State) (offset : Nat) (rsp : Resp) : (s.answer rsp).windowAddr offset = s.windowAddr offset := rfl
@[simp] theorem State.windowLeft_answer (s : State) (n : Nat) (t : Nat) (rsp : Resp) : (s.answer rsp).windowLeft n t = s.windowLeft n t := rfl
@[simp] theorem State.windowRefused_answer (s : State) (offset : Nat) (size : Nat) (rsp : Resp) : (s.answer rsp).windowRefused offset size = s.windowRefused offset size := rfl
@[simp] theorem State.xformOf_answer (s : State) (t : Nat) (chunk : Nat) (rsp : Resp) : (s.answer rsp).xformOf t chunk = s.xformOf t chunk := rfl
@[simp] theorem State.zmap_answer (s : State) (e : Nat) (rsp : Resp) : (s.answer rsp).zmap e = s.zmap e := rfl
@[simp] theorem State.zmask_answer (s : State) (c : Nat) (rsp : Resp) : (s.answer rsp).zmask c = s.zmask c := rfl
@[simp] theorem State.zoneBit_answer (s : State) (L : Nat) (rsp : Resp) : (s.answer rsp).zoneBit L = s.zoneBit L := rfl
@[simp] theorem State.zoneBits_answer (s : State) (rsp : Resp) : (s.answer rsp).zoneBits = s.zoneBits := rfl
@[simp] theorem State.zoneReq_answer (s : State) (L : Nat) (rsp : Resp) : (s.answer rsp).zoneReq L = s.zoneReq L := rfl
@[simp] theorem shiftRoom_answer (t : Nat) (w : Nat) (s : State) (rsp : Resp) : shiftRoom t w (s.answer rsp) = shiftRoom t w s := rfl

end Sys2Proof.Machine
end

