-- ==== Sys2Proof/Laws/Sparse.lean ====
section
/-! SUPPORT. Laws of sparse data: what a key reads as after each operation, and that each operation keeps the canonical form. -/

namespace Sys2Proof.Machine

variable {α : Type}

/-! ### Reading after `put` needs no canonical form -/

theorem Sparse.find_put (m : Sparse α) (k j : Nat) (v : α) :
    Sparse.find (Sparse.put m k v) j = if k = j then some v else Sparse.find m j := by
  induction m with
  | nil => simp only [Sparse.put, Sparse.find]; split <;> simp_all
  | cons p m ih =>
    obtain ⟨i, w⟩ := p
    simp only [Sparse.put]
    split
    · simp only [Sparse.find]
      split
      · rfl
      · split
        · split
          · omega
          · rw [if_pos (by omega)]
        · rfl
    · split
      · subst_vars
        simp only [Sparse.find]
        by_cases h : i = j <;> simp [h]
      · simp only [Sparse.find, ih]
        by_cases h : i = j
        · simp [h]; omega
        · simp only [h, if_false]
          split
          · split
            · omega
            · rfl
          · rfl

@[simp] theorem Sparse.find_put_self (m : Sparse α) (k : Nat) (v : α) : Sparse.find (Sparse.put m k v) k = some v := by
  simp [Sparse.find_put]

theorem Sparse.find_put_ne {m : Sparse α} {k j : Nat} {v : α} (h : k ≠ j) :
    Sparse.find (Sparse.put m k v) j = Sparse.find m j := by simp [Sparse.find_put, h]

/-! ### Sorted keys -/

theorem Sparse.sorted_mono {m : Sparse α} {a b : Nat} (h : Sparse.sorted b m = true) (hab : a ≤ b) :
    Sparse.sorted a m = true := by
  cases m with
  | nil => rfl
  | cons p m =>
    simp only [Sparse.sorted, Bool.and_eq_true, decide_eq_true_eq] at h ⊢
    exact ⟨le_trans hab h.1, h.2⟩

/-- A key below every listed key reads as unlisted. -/
theorem Sparse.find_none_of_lt {m : Sparse α} {b k : Nat} (h : Sparse.sorted b m = true) (hk : k < b) :
    Sparse.find m k = none := by
  cases m with
  | nil => rfl
  | cons p m =>
    simp only [Sparse.sorted, Bool.and_eq_true, decide_eq_true_eq] at h
    have h1 := h.1
    simp only [Sparse.find]
    rw [if_neg (by omega), if_pos (by omega)]

theorem Sparse.sorted_put {m : Sparse α} {b k : Nat} (v : α) (h : Sparse.sorted b m = true) (hk : b ≤ k) :
    Sparse.sorted b (Sparse.put m k v) = true := by
  induction m generalizing b with
  | nil => simp [Sparse.put, Sparse.sorted, hk]
  | cons p m ih =>
    simp only [Sparse.sorted, Bool.and_eq_true, decide_eq_true_eq] at h
    simp only [Sparse.put]
    split
    · simp only [Sparse.sorted, Bool.and_eq_true, decide_eq_true_eq]; exact ⟨hk, by omega, h.2⟩
    · split
      · simp only [Sparse.sorted, Bool.and_eq_true, decide_eq_true_eq]; subst_vars; exact h
      · simp only [Sparse.sorted, Bool.and_eq_true, decide_eq_true_eq]; exact ⟨h.1, ih h.2 (by omega)⟩

theorem Sparse.sorted_erase {m : Sparse α} {b : Nat} (k : Nat) (h : Sparse.sorted b m = true) :
    Sparse.sorted b (Sparse.erase m k) = true := by
  induction m generalizing b with
  | nil => rfl
  | cons p m ih =>
    simp only [Sparse.sorted, Bool.and_eq_true, decide_eq_true_eq] at h
    simp only [Sparse.erase]
    split
    · exact Sparse.sorted_mono h.2 (by omega)
    · split
      · simp only [Sparse.sorted, Bool.and_eq_true, decide_eq_true_eq]; exact h
      · simp only [Sparse.sorted, Bool.and_eq_true, decide_eq_true_eq]; exact ⟨h.1, ih h.2⟩

theorem Sparse.sorted_filter {m : Sparse α} {b : Nat} (p : Nat × α → Bool) (h : Sparse.sorted b m = true) :
    Sparse.sorted b (m.filter p) = true := by
  induction m generalizing b with
  | nil => rfl
  | cons q m ih =>
    simp only [Sparse.sorted, Bool.and_eq_true, decide_eq_true_eq] at h
    simp only [List.filter_cons]
    split
    · simp only [Sparse.sorted, Bool.and_eq_true, decide_eq_true_eq]; exact ⟨h.1, ih h.2⟩
    · exact Sparse.sorted_mono (ih h.2) (by omega)

theorem Sparse.find_erase {m : Sparse α} {b : Nat} (k j : Nat) (h : Sparse.sorted b m = true) :
    Sparse.find (Sparse.erase m k) j = if k = j then none else Sparse.find m j := by
  induction m generalizing b with
  | nil => simp [Sparse.erase, Sparse.find]
  | cons p m ih =>
    obtain ⟨i, w⟩ := p
    simp only [Sparse.sorted, Bool.and_eq_true, decide_eq_true_eq] at h
    have hs := h.2
    simp only [Sparse.erase]
    split
    · next hik =>
      subst hik
      by_cases hj : i = j
      · subst hj; simp [Sparse.find_none_of_lt hs (Nat.lt_succ_self _)]
      · simp only [hj, if_false, Sparse.find]
        split
        · exact Sparse.find_none_of_lt hs (by omega)
        · rfl
    · split
      · simp only [Sparse.find]
        by_cases hj : k = j
        · subst hj; simp_all
        · simp [hj]
      · simp only [Sparse.find, ih hs]
        by_cases hj : k = j
        · subst hj; simp_all
        · simp [hj]

/-! ### The canonical form -/

variable [DecidableEq α]

theorem Sparse.wf_iff {d : α} {m : Sparse α} :
    Sparse.wf d m = true ↔ Sparse.sorted 0 m = true ∧ ∀ p ∈ m, p.2 ≠ d := by
  simp [Sparse.wf, Bool.and_eq_true, List.all_eq_true]

theorem Sparse.mem_put {m : Sparse α} {k : Nat} {v : α} {p : Nat × α} (h : p ∈ Sparse.put m k v) : p = (k, v) ∨ p ∈ m := by
  induction m with
  | nil => simpa [Sparse.put] using h
  | cons q m ih =>
    simp only [Sparse.put] at h
    split at h
    · simpa using h
    · split at h
      · simp only [List.mem_cons] at h ⊢; tauto
      · simp only [List.mem_cons] at h ⊢; rcases h with h | h
        · tauto
        · rcases ih h with h | h <;> tauto

theorem Sparse.mem_erase {m : Sparse α} {k : Nat} {p : Nat × α} (h : p ∈ Sparse.erase m k) : p ∈ m := by
  induction m with
  | nil => simp [Sparse.erase] at h
  | cons q m ih =>
    simp only [Sparse.erase] at h
    split at h
    · exact List.mem_cons_of_mem _ h
    · split at h
      · exact h
      · simp only [List.mem_cons] at h ⊢; tauto

theorem Sparse.wf_nil (d : α) : Sparse.wf d [] = true := rfl

theorem Sparse.wf_set {d : α} {m : Sparse α} (k : Nat) (v : α) (h : Sparse.wf d m = true) :
    Sparse.wf d (Sparse.set d m k v) = true := by
  rw [Sparse.wf_iff] at h ⊢
  unfold Sparse.set
  split
  · exact ⟨Sparse.sorted_erase k h.1, fun p hp => h.2 p (Sparse.mem_erase hp)⟩
  · next hv =>
    refine ⟨Sparse.sorted_put v h.1 (Nat.zero_le k), fun p hp => ?_⟩
    rcases Sparse.mem_put hp with rfl | hp
    · exact hv
    · exact h.2 p hp

theorem Sparse.wf_clear {d : α} {m : Sparse α} (lo n : Nat) (h : Sparse.wf d m = true) :
    Sparse.wf d (Sparse.clear m lo n) = true := by
  rw [Sparse.wf_iff] at h ⊢
  exact ⟨Sparse.sorted_filter _ h.1, fun p hp => h.2 p (List.mem_of_mem_filter hp)⟩

theorem Sparse.wf_setList {d : α} (l : List α) : ∀ {m : Sparse α} (k : Nat), Sparse.wf d m = true →
    Sparse.wf d (Sparse.setList d m k l) = true := by
  induction l with
  | nil => exact fun _ h => h
  | cons v l ih => exact fun k h => ih (k + 1) (Sparse.wf_set k v h)

/-- A write is read back, and every other key reads as before. -/
theorem Sparse.get_set {d : α} {m : Sparse α} (k j : Nat) (v : α) (h : Sparse.wf d m = true) :
    Sparse.get d (Sparse.set d m k v) j = if k = j then v else Sparse.get d m j := by
  have hs := (Sparse.wf_iff.mp h).1
  unfold Sparse.set Sparse.get
  split
  · rw [Sparse.find_erase k j hs]
    by_cases hj : k = j
    · simp [*]
    · simp [hj]
  · rw [Sparse.find_put]
    by_cases hj : k = j
    · simp [hj]
    · simp [hj]

/-- A key outside the written ones reads as before. -/
theorem Sparse.get_setList_ne {d : α} (l : List α) : ∀ {m : Sparse α} (k j : Nat), Sparse.wf d m = true →
    j < k ∨ k + l.length ≤ j → Sparse.get d (Sparse.setList d m k l) j = Sparse.get d m j := by
  induction l with
  | nil => intros; rfl
  | cons v l ih =>
    intro m k j h hj
    simp only [List.length_cons] at hj
    rw [Sparse.setList, ih (k + 1) j (Sparse.wf_set k v h) (by omega), Sparse.get_set k j v h, if_neg (by omega)]

/-- A written list is read back, entry by entry. -/
theorem Sparse.get_setList {d : α} (l : List α) : ∀ {m : Sparse α} (k i : Nat) (hi : i < l.length), Sparse.wf d m = true →
    Sparse.get d (Sparse.setList d m k l) (k + i) = l[i] := by
  induction l with
  | nil => intro m k i hi; simp at hi
  | cons v l ih =>
    intro m k i hi h
    rw [Sparse.setList]
    cases i with
    | zero =>
      have := Sparse.get_setList_ne (d := d) l (k + 1) k (Sparse.wf_set k v h) (by omega)
      simp [this, Sparse.get_set k k v h]
    | succ i =>
      have := ih (k + 1) i (by simpa using hi) (Sparse.wf_set k v h)
      rw [show k + (i + 1) = k + 1 + i by omega, this]
      simp

end Sys2Proof.Machine
end

