-- ==== Sys2Proof/Laws/State.lean ====
section
/-! SUPPORT. The basic updates of the state, field by field, and the reading of registers, timers and accesses after them. -/

namespace Sys2Proof.Machine

open Sys2Proof

/-! ### Registers -/

/-- A field reads as what was written, as far as its width goes. -/
@[simp] theorem State.getF_setF_self (s : State) (f : Fld) (v : Nat) : (s.setF f v).getF f = v % 2 ^ f.width := by
  simp [State.getF, State.setF, Sparse.find_put_self]

/-- A write of one field leaves every other. -/
theorem State.getF_setF_ne (s : State) (f g : Fld) (v : Nat) (h : g.key ≠ f.key) : (s.setF f v).getF g = s.getF g := by
  simp only [State.getF, State.setF]; rw [Sparse.find_put_ne (Ne.symm h)]

/-- A field reads as `a` in every state whose register file it shares. -/
theorem State.getF_congr (s t : State) (f : Fld) (h : s.regs = t.regs) : s.getF f = t.getF f := by
  simp [State.getF, h]

@[simp] theorem State.setFs_nil (s : State) : s.setFs [] = s := rfl
@[simp] theorem State.setFs_cons (s : State) (f : Fld) (v : Nat) (l : List (Fld × Nat)) :
    s.setFs ((f, v) :: l) = (s.setF f v).setFs l := rfl

@[simp] theorem State.getF_armAt (s : State) (t : Timer) (d : Nat) (f : Fld) : (s.armAt t d).getF f = s.getF f := rfl
@[simp] theorem State.getF_arm (s : State) (t : Timer) (d : Nat) (f : Fld) : (s.arm t d).getF f = s.getF f := rfl
@[simp] theorem State.getF_disarm (s : State) (t : Timer) (f : Fld) : (s.disarm t).getF f = s.getF f := rfl

/-- A flag that hardware sets reads 1 in each bit set (R7). -/
@[simp] theorem State.getF_flagBits_self (s : State) (f : Fld) (b : Nat) :
    (s.flagBits f b).getF f = (s.getF f ||| b) % 2 ^ f.width := by
  simp [State.flagBits, State.getF, State.setF, Sparse.find_put_self]

/-- Setting a flag leaves every other field. -/
theorem State.getF_flagBits_ne (s : State) (f g : Fld) (b : Nat) (h : g.key ≠ f.key) : (s.flagBits f b).getF g = s.getF g := by
  simp only [State.flagBits, State.getF, State.setF]; rw [Sparse.find_put_ne (Ne.symm h)]

/-! ### Accesses -/

theorem State.access_on (s : State) (d : Nat) (f : State → State) (h : s.on d = true) : s.access d f = f (s.answer .ok) := by
  simp [State.access, h]

theorem State.access_off (s : State) (d : Nat) (f : State → State) (h : s.on d = false) : s.access d f = s.answer .busError := by
  simp [State.access, h]

theorem State.keyed_open (s : State) (d b : Nat) (f : State → State) (h : s.on d = true) (k : s.keyOpen b = true) :
    s.keyed d b f = f (s.answer .ok) := by
  simp [State.keyed, h, k]

@[simp] theorem State.doIf_true (s : State) (f : State → State) : s.doIf true f = f s := rfl
@[simp] theorem State.doIf_false (s : State) (f : State → State) : s.doIf false f = s := rfl
@[simp] theorem State.forN_zero (s : State) (f : Nat → State → State) : s.forN 0 f = s := rfl
@[simp] theorem State.forL_nil {α : Type} (s : State) (f : α → State → State) : s.forL [] f = s := rfl
@[simp] theorem State.forL_cons {α : Type} (s : State) (a : α) (l : List α) (f : α → State → State) :
    s.forL (a :: l) f = (f a s).forL l f := rfl

/-! ### Timers -/

@[simp] theorem State.deadline_armAt (s : State) (t : Timer) (d : Nat) : (s.armAt t d).deadline t = some d := by
  simp [State.deadline, State.armAt]

@[simp] theorem State.deadline_setF (s : State) (f : Fld) (v : Nat) (t : Timer) : (s.setF f v).deadline t = s.deadline t := rfl
@[simp] theorem State.due_setF (s : State) (f : Fld) (v : Nat) (t : Timer) : (s.setF f v).due t = s.due t := rfl

theorem State.deadline_disarm (s : State) (t : Timer) : (s.disarm t).deadline t = none := by
  simp [State.deadline, State.disarm]

/-! `setF` writes `regs` alone. -/

@[simp] theorem State.setF_now (s : State) (f : Fld) (v : Nat) : (s.setF f v).now = s.now := rfl
@[simp] theorem State.setF_freeCtr (s : State) (f : Fld) (v : Nat) : (s.setF f v).freeCtr = s.freeCtr := rfl
@[simp] theorem State.setF_resp (s : State) (f : Fld) (v : Nat) : (s.setF f v).resp = s.resp := rfl
@[simp] theorem State.setF_flagAt (s : State) (f : Fld) (v : Nat) : (s.setF f v).flagAt = s.flagAt := rfl
@[simp] theorem State.setF_timers (s : State) (f : Fld) (v : Nat) : (s.setF f v).timers = s.timers := rfl
@[simp] theorem State.setF_sram (s : State) (f : Fld) (v : Nat) : (s.setF f v).sram = s.sram := rfl
@[simp] theorem State.setF_flash (s : State) (f : Fld) (v : Nat) : (s.setF f v).flash = s.flash := rfl
@[simp] theorem State.setF_otp (s : State) (f : Fld) (v : Nat) : (s.setF f v).otp = s.otp := rfl
@[simp] theorem State.setF_rom (s : State) (f : Fld) (v : Nat) : (s.setF f v).rom = s.rom := rfl
@[simp] theorem State.setF_dram (s : State) (f : Fld) (v : Nat) : (s.setF f v).dram = s.dram := rfl
@[simp] theorem State.setF_shelf (s : State) (f : Fld) (v : Nat) : (s.setF f v).shelf = s.shelf := rfl
@[simp] theorem State.setF_progs (s : State) (f : Fld) (v : Nat) : (s.setF f v).progs = s.progs := rfl
@[simp] theorem State.setF_evl (s : State) (f : Fld) (v : Nat) : (s.setF f v).evl = s.evl := rfl
@[simp] theorem State.setF_cil (s : State) (f : Fld) (v : Nat) : (s.setF f v).cil = s.cil := rfl
@[simp] theorem State.setF_lck (s : State) (f : Fld) (v : Nat) : (s.setF f v).lck = s.lck := rfl
@[simp] theorem State.setF_ten (s : State) (f : Fld) (v : Nat) : (s.setF f v).ten = s.ten := rfl
@[simp] theorem State.setF_asy (s : State) (f : Fld) (v : Nat) : (s.setF f v).asy = s.asy := rfl
@[simp] theorem State.setF_ing (s : State) (f : Fld) (v : Nat) : (s.setF f v).ing = s.ing := rfl
@[simp] theorem State.setF_flt (s : State) (f : Fld) (v : Nat) : (s.setF f v).flt = s.flt := rfl
@[simp] theorem State.setF_i2c (s : State) (f : Fld) (v : Nat) : (s.setF f v).i2c = s.i2c := rfl
@[simp] theorem State.setF_lux (s : State) (f : Fld) (v : Nat) : (s.setF f v).lux = s.lux := rfl
@[simp] theorem State.setF_tlt (s : State) (f : Fld) (v : Nat) : (s.setF f v).tlt = s.tlt := rfl
@[simp] theorem State.setF_sio (s : State) (f : Fld) (v : Nat) : (s.setF f v).sio = s.sio := rfl
@[simp] theorem State.setF_tim (s : State) (f : Fld) (v : Nat) : (s.setF f v).tim = s.tim := rfl
@[simp] theorem State.setF_sil (s : State) (f : Fld) (v : Nat) : (s.setF f v).sil = s.sil := rfl
@[simp] theorem State.setF_ad (s : State) (f : Fld) (v : Nat) : (s.setF f v).ad = s.ad := rfl
@[simp] theorem State.setF_pmu (s : State) (f : Fld) (v : Nat) : (s.setF f v).pmu = s.pmu := rfl
@[simp] theorem State.setF_cpu (s : State) (f : Fld) (v : Nat) : (s.setF f v).cpu = s.cpu := rfl
@[simp] theorem State.setF_thm (s : State) (f : Fld) (v : Nat) : (s.setF f v).thm = s.thm := rfl
@[simp] theorem State.setF_qspi (s : State) (f : Fld) (v : Nat) : (s.setF f v).qspi = s.qspi := rfl
@[simp] theorem State.setF_uart (s : State) (f : Fld) (v : Nat) : (s.setF f v).uart = s.uart := rfl
@[simp] theorem State.setF_spi (s : State) (f : Fld) (v : Nat) : (s.setF f v).spi = s.spi := rfl
@[simp] theorem State.setF_net (s : State) (f : Fld) (v : Nat) : (s.setF f v).net = s.net := rfl
@[simp] theorem State.setF_crn (s : State) (f : Fld) (v : Nat) : (s.setF f v).crn = s.crn := rfl
@[simp] theorem State.setF_pending (s : State) (f : Fld) (v : Nat) : (s.setF f v).pending = s.pending := rfl

/-! `clearRegs` writes `regs` and `flagAt` alone. -/

@[simp] theorem State.clearRegs_now (s : State) (lo n : Nat) : (s.clearRegs lo n).now = s.now := rfl
@[simp] theorem State.clearRegs_freeCtr (s : State) (lo n : Nat) : (s.clearRegs lo n).freeCtr = s.freeCtr := rfl
@[simp] theorem State.clearRegs_resp (s : State) (lo n : Nat) : (s.clearRegs lo n).resp = s.resp := rfl
@[simp] theorem State.clearRegs_timers (s : State) (lo n : Nat) : (s.clearRegs lo n).timers = s.timers := rfl
@[simp] theorem State.clearRegs_sram (s : State) (lo n : Nat) : (s.clearRegs lo n).sram = s.sram := rfl
@[simp] theorem State.clearRegs_flash (s : State) (lo n : Nat) : (s.clearRegs lo n).flash = s.flash := rfl
@[simp] theorem State.clearRegs_otp (s : State) (lo n : Nat) : (s.clearRegs lo n).otp = s.otp := rfl
@[simp] theorem State.clearRegs_rom (s : State) (lo n : Nat) : (s.clearRegs lo n).rom = s.rom := rfl
@[simp] theorem State.clearRegs_dram (s : State) (lo n : Nat) : (s.clearRegs lo n).dram = s.dram := rfl
@[simp] theorem State.clearRegs_shelf (s : State) (lo n : Nat) : (s.clearRegs lo n).shelf = s.shelf := rfl
@[simp] theorem State.clearRegs_progs (s : State) (lo n : Nat) : (s.clearRegs lo n).progs = s.progs := rfl
@[simp] theorem State.clearRegs_evl (s : State) (lo n : Nat) : (s.clearRegs lo n).evl = s.evl := rfl
@[simp] theorem State.clearRegs_cil (s : State) (lo n : Nat) : (s.clearRegs lo n).cil = s.cil := rfl
@[simp] theorem State.clearRegs_lck (s : State) (lo n : Nat) : (s.clearRegs lo n).lck = s.lck := rfl
@[simp] theorem State.clearRegs_ten (s : State) (lo n : Nat) : (s.clearRegs lo n).ten = s.ten := rfl
@[simp] theorem State.clearRegs_asy (s : State) (lo n : Nat) : (s.clearRegs lo n).asy = s.asy := rfl
@[simp] theorem State.clearRegs_ing (s : State) (lo n : Nat) : (s.clearRegs lo n).ing = s.ing := rfl
@[simp] theorem State.clearRegs_flt (s : State) (lo n : Nat) : (s.clearRegs lo n).flt = s.flt := rfl
@[simp] theorem State.clearRegs_i2c (s : State) (lo n : Nat) : (s.clearRegs lo n).i2c = s.i2c := rfl
@[simp] theorem State.clearRegs_lux (s : State) (lo n : Nat) : (s.clearRegs lo n).lux = s.lux := rfl
@[simp] theorem State.clearRegs_tlt (s : State) (lo n : Nat) : (s.clearRegs lo n).tlt = s.tlt := rfl
@[simp] theorem State.clearRegs_sio (s : State) (lo n : Nat) : (s.clearRegs lo n).sio = s.sio := rfl
@[simp] theorem State.clearRegs_tim (s : State) (lo n : Nat) : (s.clearRegs lo n).tim = s.tim := rfl
@[simp] theorem State.clearRegs_sil (s : State) (lo n : Nat) : (s.clearRegs lo n).sil = s.sil := rfl
@[simp] theorem State.clearRegs_ad (s : State) (lo n : Nat) : (s.clearRegs lo n).ad = s.ad := rfl
@[simp] theorem State.clearRegs_pmu (s : State) (lo n : Nat) : (s.clearRegs lo n).pmu = s.pmu := rfl
@[simp] theorem State.clearRegs_cpu (s : State) (lo n : Nat) : (s.clearRegs lo n).cpu = s.cpu := rfl
@[simp] theorem State.clearRegs_thm (s : State) (lo n : Nat) : (s.clearRegs lo n).thm = s.thm := rfl
@[simp] theorem State.clearRegs_qspi (s : State) (lo n : Nat) : (s.clearRegs lo n).qspi = s.qspi := rfl
@[simp] theorem State.clearRegs_uart (s : State) (lo n : Nat) : (s.clearRegs lo n).uart = s.uart := rfl
@[simp] theorem State.clearRegs_spi (s : State) (lo n : Nat) : (s.clearRegs lo n).spi = s.spi := rfl
@[simp] theorem State.clearRegs_net (s : State) (lo n : Nat) : (s.clearRegs lo n).net = s.net := rfl
@[simp] theorem State.clearRegs_crn (s : State) (lo n : Nat) : (s.clearRegs lo n).crn = s.crn := rfl
@[simp] theorem State.clearRegs_pending (s : State) (lo n : Nat) : (s.clearRegs lo n).pending = s.pending := rfl

/-! `setBitF` writes `regs` alone. -/

@[simp] theorem State.setBitF_now (s : State) (f : Fld) (n : Nat) (b : Bool) : (s.setBitF f n b).now = s.now := rfl
@[simp] theorem State.setBitF_freeCtr (s : State) (f : Fld) (n : Nat) (b : Bool) : (s.setBitF f n b).freeCtr = s.freeCtr := rfl
@[simp] theorem State.setBitF_resp (s : State) (f : Fld) (n : Nat) (b : Bool) : (s.setBitF f n b).resp = s.resp := rfl
@[simp] theorem State.setBitF_flagAt (s : State) (f : Fld) (n : Nat) (b : Bool) : (s.setBitF f n b).flagAt = s.flagAt := rfl
@[simp] theorem State.setBitF_timers (s : State) (f : Fld) (n : Nat) (b : Bool) : (s.setBitF f n b).timers = s.timers := rfl
@[simp] theorem State.setBitF_sram (s : State) (f : Fld) (n : Nat) (b : Bool) : (s.setBitF f n b).sram = s.sram := rfl
@[simp] theorem State.setBitF_flash (s : State) (f : Fld) (n : Nat) (b : Bool) : (s.setBitF f n b).flash = s.flash := rfl
@[simp] theorem State.setBitF_otp (s : State) (f : Fld) (n : Nat) (b : Bool) : (s.setBitF f n b).otp = s.otp := rfl
@[simp] theorem State.setBitF_rom (s : State) (f : Fld) (n : Nat) (b : Bool) : (s.setBitF f n b).rom = s.rom := rfl
@[simp] theorem State.setBitF_dram (s : State) (f : Fld) (n : Nat) (b : Bool) : (s.setBitF f n b).dram = s.dram := rfl
@[simp] theorem State.setBitF_shelf (s : State) (f : Fld) (n : Nat) (b : Bool) : (s.setBitF f n b).shelf = s.shelf := rfl
@[simp] theorem State.setBitF_progs (s : State) (f : Fld) (n : Nat) (b : Bool) : (s.setBitF f n b).progs = s.progs := rfl
@[simp] theorem State.setBitF_evl (s : State) (f : Fld) (n : Nat) (b : Bool) : (s.setBitF f n b).evl = s.evl := rfl
@[simp] theorem State.setBitF_cil (s : State) (f : Fld) (n : Nat) (b : Bool) : (s.setBitF f n b).cil = s.cil := rfl
@[simp] theorem State.setBitF_lck (s : State) (f : Fld) (n : Nat) (b : Bool) : (s.setBitF f n b).lck = s.lck := rfl
@[simp] theorem State.setBitF_ten (s : State) (f : Fld) (n : Nat) (b : Bool) : (s.setBitF f n b).ten = s.ten := rfl
@[simp] theorem State.setBitF_asy (s : State) (f : Fld) (n : Nat) (b : Bool) : (s.setBitF f n b).asy = s.asy := rfl
@[simp] theorem State.setBitF_ing (s : State) (f : Fld) (n : Nat) (b : Bool) : (s.setBitF f n b).ing = s.ing := rfl
@[simp] theorem State.setBitF_flt (s : State) (f : Fld) (n : Nat) (b : Bool) : (s.setBitF f n b).flt = s.flt := rfl
@[simp] theorem State.setBitF_i2c (s : State) (f : Fld) (n : Nat) (b : Bool) : (s.setBitF f n b).i2c = s.i2c := rfl
@[simp] theorem State.setBitF_lux (s : State) (f : Fld) (n : Nat) (b : Bool) : (s.setBitF f n b).lux = s.lux := rfl
@[simp] theorem State.setBitF_tlt (s : State) (f : Fld) (n : Nat) (b : Bool) : (s.setBitF f n b).tlt = s.tlt := rfl
@[simp] theorem State.setBitF_sio (s : State) (f : Fld) (n : Nat) (b : Bool) : (s.setBitF f n b).sio = s.sio := rfl
@[simp] theorem State.setBitF_tim (s : State) (f : Fld) (n : Nat) (b : Bool) : (s.setBitF f n b).tim = s.tim := rfl
@[simp] theorem State.setBitF_sil (s : State) (f : Fld) (n : Nat) (b : Bool) : (s.setBitF f n b).sil = s.sil := rfl
@[simp] theorem State.setBitF_ad (s : State) (f : Fld) (n : Nat) (b : Bool) : (s.setBitF f n b).ad = s.ad := rfl
@[simp] theorem State.setBitF_pmu (s : State) (f : Fld) (n : Nat) (b : Bool) : (s.setBitF f n b).pmu = s.pmu := rfl
@[simp] theorem State.setBitF_cpu (s : State) (f : Fld) (n : Nat) (b : Bool) : (s.setBitF f n b).cpu = s.cpu := rfl
@[simp] theorem State.setBitF_thm (s : State) (f : Fld) (n : Nat) (b : Bool) : (s.setBitF f n b).thm = s.thm := rfl
@[simp] theorem State.setBitF_qspi (s : State) (f : Fld) (n : Nat) (b : Bool) : (s.setBitF f n b).qspi = s.qspi := rfl
@[simp] theorem State.setBitF_uart (s : State) (f : Fld) (n : Nat) (b : Bool) : (s.setBitF f n b).uart = s.uart := rfl
@[simp] theorem State.setBitF_spi (s : State) (f : Fld) (n : Nat) (b : Bool) : (s.setBitF f n b).spi = s.spi := rfl
@[simp] theorem State.setBitF_net (s : State) (f : Fld) (n : Nat) (b : Bool) : (s.setBitF f n b).net = s.net := rfl
@[simp] theorem State.setBitF_crn (s : State) (f : Fld) (n : Nat) (b : Bool) : (s.setBitF f n b).crn = s.crn := rfl
@[simp] theorem State.setBitF_pending (s : State) (f : Fld) (n : Nat) (b : Bool) : (s.setBitF f n b).pending = s.pending := rfl

/-! `satAdd` writes `regs` alone. -/

@[simp] theorem State.satAdd_now (s : State) (f : Fld) (n : Nat) : (s.satAdd f n).now = s.now := rfl
@[simp] theorem State.satAdd_freeCtr (s : State) (f : Fld) (n : Nat) : (s.satAdd f n).freeCtr = s.freeCtr := rfl
@[simp] theorem State.satAdd_resp (s : State) (f : Fld) (n : Nat) : (s.satAdd f n).resp = s.resp := rfl
@[simp] theorem State.satAdd_flagAt (s : State) (f : Fld) (n : Nat) : (s.satAdd f n).flagAt = s.flagAt := rfl
@[simp] theorem State.satAdd_timers (s : State) (f : Fld) (n : Nat) : (s.satAdd f n).timers = s.timers := rfl
@[simp] theorem State.satAdd_sram (s : State) (f : Fld) (n : Nat) : (s.satAdd f n).sram = s.sram := rfl
@[simp] theorem State.satAdd_flash (s : State) (f : Fld) (n : Nat) : (s.satAdd f n).flash = s.flash := rfl
@[simp] theorem State.satAdd_otp (s : State) (f : Fld) (n : Nat) : (s.satAdd f n).otp = s.otp := rfl
@[simp] theorem State.satAdd_rom (s : State) (f : Fld) (n : Nat) : (s.satAdd f n).rom = s.rom := rfl
@[simp] theorem State.satAdd_dram (s : State) (f : Fld) (n : Nat) : (s.satAdd f n).dram = s.dram := rfl
@[simp] theorem State.satAdd_shelf (s : State) (f : Fld) (n : Nat) : (s.satAdd f n).shelf = s.shelf := rfl
@[simp] theorem State.satAdd_progs (s : State) (f : Fld) (n : Nat) : (s.satAdd f n).progs = s.progs := rfl
@[simp] theorem State.satAdd_evl (s : State) (f : Fld) (n : Nat) : (s.satAdd f n).evl = s.evl := rfl
@[simp] theorem State.satAdd_cil (s : State) (f : Fld) (n : Nat) : (s.satAdd f n).cil = s.cil := rfl
@[simp] theorem State.satAdd_lck (s : State) (f : Fld) (n : Nat) : (s.satAdd f n).lck = s.lck := rfl
@[simp] theorem State.satAdd_ten (s : State) (f : Fld) (n : Nat) : (s.satAdd f n).ten = s.ten := rfl
@[simp] theorem State.satAdd_asy (s : State) (f : Fld) (n : Nat) : (s.satAdd f n).asy = s.asy := rfl
@[simp] theorem State.satAdd_ing (s : State) (f : Fld) (n : Nat) : (s.satAdd f n).ing = s.ing := rfl
@[simp] theorem State.satAdd_flt (s : State) (f : Fld) (n : Nat) : (s.satAdd f n).flt = s.flt := rfl
@[simp] theorem State.satAdd_i2c (s : State) (f : Fld) (n : Nat) : (s.satAdd f n).i2c = s.i2c := rfl
@[simp] theorem State.satAdd_lux (s : State) (f : Fld) (n : Nat) : (s.satAdd f n).lux = s.lux := rfl
@[simp] theorem State.satAdd_tlt (s : State) (f : Fld) (n : Nat) : (s.satAdd f n).tlt = s.tlt := rfl
@[simp] theorem State.satAdd_sio (s : State) (f : Fld) (n : Nat) : (s.satAdd f n).sio = s.sio := rfl
@[simp] theorem State.satAdd_tim (s : State) (f : Fld) (n : Nat) : (s.satAdd f n).tim = s.tim := rfl
@[simp] theorem State.satAdd_sil (s : State) (f : Fld) (n : Nat) : (s.satAdd f n).sil = s.sil := rfl
@[simp] theorem State.satAdd_ad (s : State) (f : Fld) (n : Nat) : (s.satAdd f n).ad = s.ad := rfl
@[simp] theorem State.satAdd_pmu (s : State) (f : Fld) (n : Nat) : (s.satAdd f n).pmu = s.pmu := rfl
@[simp] theorem State.satAdd_cpu (s : State) (f : Fld) (n : Nat) : (s.satAdd f n).cpu = s.cpu := rfl
@[simp] theorem State.satAdd_thm (s : State) (f : Fld) (n : Nat) : (s.satAdd f n).thm = s.thm := rfl
@[simp] theorem State.satAdd_qspi (s : State) (f : Fld) (n : Nat) : (s.satAdd f n).qspi = s.qspi := rfl
@[simp] theorem State.satAdd_uart (s : State) (f : Fld) (n : Nat) : (s.satAdd f n).uart = s.uart := rfl
@[simp] theorem State.satAdd_spi (s : State) (f : Fld) (n : Nat) : (s.satAdd f n).spi = s.spi := rfl
@[simp] theorem State.satAdd_net (s : State) (f : Fld) (n : Nat) : (s.satAdd f n).net = s.net := rfl
@[simp] theorem State.satAdd_crn (s : State) (f : Fld) (n : Nat) : (s.satAdd f n).crn = s.crn := rfl
@[simp] theorem State.satAdd_pending (s : State) (f : Fld) (n : Nat) : (s.satAdd f n).pending = s.pending := rfl

/-! `satInc` writes `regs` alone. -/

@[simp] theorem State.satInc_now (s : State) (f : Fld) : (s.satInc f).now = s.now := rfl
@[simp] theorem State.satInc_freeCtr (s : State) (f : Fld) : (s.satInc f).freeCtr = s.freeCtr := rfl
@[simp] theorem State.satInc_resp (s : State) (f : Fld) : (s.satInc f).resp = s.resp := rfl
@[simp] theorem State.satInc_flagAt (s : State) (f : Fld) : (s.satInc f).flagAt = s.flagAt := rfl
@[simp] theorem State.satInc_timers (s : State) (f : Fld) : (s.satInc f).timers = s.timers := rfl
@[simp] theorem State.satInc_sram (s : State) (f : Fld) : (s.satInc f).sram = s.sram := rfl
@[simp] theorem State.satInc_flash (s : State) (f : Fld) : (s.satInc f).flash = s.flash := rfl
@[simp] theorem State.satInc_otp (s : State) (f : Fld) : (s.satInc f).otp = s.otp := rfl
@[simp] theorem State.satInc_rom (s : State) (f : Fld) : (s.satInc f).rom = s.rom := rfl
@[simp] theorem State.satInc_dram (s : State) (f : Fld) : (s.satInc f).dram = s.dram := rfl
@[simp] theorem State.satInc_shelf (s : State) (f : Fld) : (s.satInc f).shelf = s.shelf := rfl
@[simp] theorem State.satInc_progs (s : State) (f : Fld) : (s.satInc f).progs = s.progs := rfl
@[simp] theorem State.satInc_evl (s : State) (f : Fld) : (s.satInc f).evl = s.evl := rfl
@[simp] theorem State.satInc_cil (s : State) (f : Fld) : (s.satInc f).cil = s.cil := rfl
@[simp] theorem State.satInc_lck (s : State) (f : Fld) : (s.satInc f).lck = s.lck := rfl
@[simp] theorem State.satInc_ten (s : State) (f : Fld) : (s.satInc f).ten = s.ten := rfl
@[simp] theorem State.satInc_asy (s : State) (f : Fld) : (s.satInc f).asy = s.asy := rfl
@[simp] theorem State.satInc_ing (s : State) (f : Fld) : (s.satInc f).ing = s.ing := rfl
@[simp] theorem State.satInc_flt (s : State) (f : Fld) : (s.satInc f).flt = s.flt := rfl
@[simp] theorem State.satInc_i2c (s : State) (f : Fld) : (s.satInc f).i2c = s.i2c := rfl
@[simp] theorem State.satInc_lux (s : State) (f : Fld) : (s.satInc f).lux = s.lux := rfl
@[simp] theorem State.satInc_tlt (s : State) (f : Fld) : (s.satInc f).tlt = s.tlt := rfl
@[simp] theorem State.satInc_sio (s : State) (f : Fld) : (s.satInc f).sio = s.sio := rfl
@[simp] theorem State.satInc_tim (s : State) (f : Fld) : (s.satInc f).tim = s.tim := rfl
@[simp] theorem State.satInc_sil (s : State) (f : Fld) : (s.satInc f).sil = s.sil := rfl
@[simp] theorem State.satInc_ad (s : State) (f : Fld) : (s.satInc f).ad = s.ad := rfl
@[simp] theorem State.satInc_pmu (s : State) (f : Fld) : (s.satInc f).pmu = s.pmu := rfl
@[simp] theorem State.satInc_cpu (s : State) (f : Fld) : (s.satInc f).cpu = s.cpu := rfl
@[simp] theorem State.satInc_thm (s : State) (f : Fld) : (s.satInc f).thm = s.thm := rfl
@[simp] theorem State.satInc_qspi (s : State) (f : Fld) : (s.satInc f).qspi = s.qspi := rfl
@[simp] theorem State.satInc_uart (s : State) (f : Fld) : (s.satInc f).uart = s.uart := rfl
@[simp] theorem State.satInc_spi (s : State) (f : Fld) : (s.satInc f).spi = s.spi := rfl
@[simp] theorem State.satInc_net (s : State) (f : Fld) : (s.satInc f).net = s.net := rfl
@[simp] theorem State.satInc_crn (s : State) (f : Fld) : (s.satInc f).crn = s.crn := rfl
@[simp] theorem State.satInc_pending (s : State) (f : Fld) : (s.satInc f).pending = s.pending := rfl

/-! `wrapAdd` writes `regs` alone. -/

@[simp] theorem State.wrapAdd_now (s : State) (f : Fld) (n : Nat) : (s.wrapAdd f n).now = s.now := rfl
@[simp] theorem State.wrapAdd_freeCtr (s : State) (f : Fld) (n : Nat) : (s.wrapAdd f n).freeCtr = s.freeCtr := rfl
@[simp] theorem State.wrapAdd_resp (s : State) (f : Fld) (n : Nat) : (s.wrapAdd f n).resp = s.resp := rfl
@[simp] theorem State.wrapAdd_flagAt (s : State) (f : Fld) (n : Nat) : (s.wrapAdd f n).flagAt = s.flagAt := rfl
@[simp] theorem State.wrapAdd_timers (s : State) (f : Fld) (n : Nat) : (s.wrapAdd f n).timers = s.timers := rfl
@[simp] theorem State.wrapAdd_sram (s : State) (f : Fld) (n : Nat) : (s.wrapAdd f n).sram = s.sram := rfl
@[simp] theorem State.wrapAdd_flash (s : State) (f : Fld) (n : Nat) : (s.wrapAdd f n).flash = s.flash := rfl
@[simp] theorem State.wrapAdd_otp (s : State) (f : Fld) (n : Nat) : (s.wrapAdd f n).otp = s.otp := rfl
@[simp] theorem State.wrapAdd_rom (s : State) (f : Fld) (n : Nat) : (s.wrapAdd f n).rom = s.rom := rfl
@[simp] theorem State.wrapAdd_dram (s : State) (f : Fld) (n : Nat) : (s.wrapAdd f n).dram = s.dram := rfl
@[simp] theorem State.wrapAdd_shelf (s : State) (f : Fld) (n : Nat) : (s.wrapAdd f n).shelf = s.shelf := rfl
@[simp] theorem State.wrapAdd_progs (s : State) (f : Fld) (n : Nat) : (s.wrapAdd f n).progs = s.progs := rfl
@[simp] theorem State.wrapAdd_evl (s : State) (f : Fld) (n : Nat) : (s.wrapAdd f n).evl = s.evl := rfl
@[simp] theorem State.wrapAdd_cil (s : State) (f : Fld) (n : Nat) : (s.wrapAdd f n).cil = s.cil := rfl
@[simp] theorem State.wrapAdd_lck (s : State) (f : Fld) (n : Nat) : (s.wrapAdd f n).lck = s.lck := rfl
@[simp] theorem State.wrapAdd_ten (s : State) (f : Fld) (n : Nat) : (s.wrapAdd f n).ten = s.ten := rfl
@[simp] theorem State.wrapAdd_asy (s : State) (f : Fld) (n : Nat) : (s.wrapAdd f n).asy = s.asy := rfl
@[simp] theorem State.wrapAdd_ing (s : State) (f : Fld) (n : Nat) : (s.wrapAdd f n).ing = s.ing := rfl
@[simp] theorem State.wrapAdd_flt (s : State) (f : Fld) (n : Nat) : (s.wrapAdd f n).flt = s.flt := rfl
@[simp] theorem State.wrapAdd_i2c (s : State) (f : Fld) (n : Nat) : (s.wrapAdd f n).i2c = s.i2c := rfl
@[simp] theorem State.wrapAdd_lux (s : State) (f : Fld) (n : Nat) : (s.wrapAdd f n).lux = s.lux := rfl
@[simp] theorem State.wrapAdd_tlt (s : State) (f : Fld) (n : Nat) : (s.wrapAdd f n).tlt = s.tlt := rfl
@[simp] theorem State.wrapAdd_sio (s : State) (f : Fld) (n : Nat) : (s.wrapAdd f n).sio = s.sio := rfl
@[simp] theorem State.wrapAdd_tim (s : State) (f : Fld) (n : Nat) : (s.wrapAdd f n).tim = s.tim := rfl
@[simp] theorem State.wrapAdd_sil (s : State) (f : Fld) (n : Nat) : (s.wrapAdd f n).sil = s.sil := rfl
@[simp] theorem State.wrapAdd_ad (s : State) (f : Fld) (n : Nat) : (s.wrapAdd f n).ad = s.ad := rfl
@[simp] theorem State.wrapAdd_pmu (s : State) (f : Fld) (n : Nat) : (s.wrapAdd f n).pmu = s.pmu := rfl
@[simp] theorem State.wrapAdd_cpu (s : State) (f : Fld) (n : Nat) : (s.wrapAdd f n).cpu = s.cpu := rfl
@[simp] theorem State.wrapAdd_thm (s : State) (f : Fld) (n : Nat) : (s.wrapAdd f n).thm = s.thm := rfl
@[simp] theorem State.wrapAdd_qspi (s : State) (f : Fld) (n : Nat) : (s.wrapAdd f n).qspi = s.qspi := rfl
@[simp] theorem State.wrapAdd_uart (s : State) (f : Fld) (n : Nat) : (s.wrapAdd f n).uart = s.uart := rfl
@[simp] theorem State.wrapAdd_spi (s : State) (f : Fld) (n : Nat) : (s.wrapAdd f n).spi = s.spi := rfl
@[simp] theorem State.wrapAdd_net (s : State) (f : Fld) (n : Nat) : (s.wrapAdd f n).net = s.net := rfl
@[simp] theorem State.wrapAdd_crn (s : State) (f : Fld) (n : Nat) : (s.wrapAdd f n).crn = s.crn := rfl
@[simp] theorem State.wrapAdd_pending (s : State) (f : Fld) (n : Nat) : (s.wrapAdd f n).pending = s.pending := rfl

/-! `wrapInc` writes `regs` alone. -/

@[simp] theorem State.wrapInc_now (s : State) (f : Fld) : (s.wrapInc f).now = s.now := rfl
@[simp] theorem State.wrapInc_freeCtr (s : State) (f : Fld) : (s.wrapInc f).freeCtr = s.freeCtr := rfl
@[simp] theorem State.wrapInc_resp (s : State) (f : Fld) : (s.wrapInc f).resp = s.resp := rfl
@[simp] theorem State.wrapInc_flagAt (s : State) (f : Fld) : (s.wrapInc f).flagAt = s.flagAt := rfl
@[simp] theorem State.wrapInc_timers (s : State) (f : Fld) : (s.wrapInc f).timers = s.timers := rfl
@[simp] theorem State.wrapInc_sram (s : State) (f : Fld) : (s.wrapInc f).sram = s.sram := rfl
@[simp] theorem State.wrapInc_flash (s : State) (f : Fld) : (s.wrapInc f).flash = s.flash := rfl
@[simp] theorem State.wrapInc_otp (s : State) (f : Fld) : (s.wrapInc f).otp = s.otp := rfl
@[simp] theorem State.wrapInc_rom (s : State) (f : Fld) : (s.wrapInc f).rom = s.rom := rfl
@[simp] theorem State.wrapInc_dram (s : State) (f : Fld) : (s.wrapInc f).dram = s.dram := rfl
@[simp] theorem State.wrapInc_shelf (s : State) (f : Fld) : (s.wrapInc f).shelf = s.shelf := rfl
@[simp] theorem State.wrapInc_progs (s : State) (f : Fld) : (s.wrapInc f).progs = s.progs := rfl
@[simp] theorem State.wrapInc_evl (s : State) (f : Fld) : (s.wrapInc f).evl = s.evl := rfl
@[simp] theorem State.wrapInc_cil (s : State) (f : Fld) : (s.wrapInc f).cil = s.cil := rfl
@[simp] theorem State.wrapInc_lck (s : State) (f : Fld) : (s.wrapInc f).lck = s.lck := rfl
@[simp] theorem State.wrapInc_ten (s : State) (f : Fld) : (s.wrapInc f).ten = s.ten := rfl
@[simp] theorem State.wrapInc_asy (s : State) (f : Fld) : (s.wrapInc f).asy = s.asy := rfl
@[simp] theorem State.wrapInc_ing (s : State) (f : Fld) : (s.wrapInc f).ing = s.ing := rfl
@[simp] theorem State.wrapInc_flt (s : State) (f : Fld) : (s.wrapInc f).flt = s.flt := rfl
@[simp] theorem State.wrapInc_i2c (s : State) (f : Fld) : (s.wrapInc f).i2c = s.i2c := rfl
@[simp] theorem State.wrapInc_lux (s : State) (f : Fld) : (s.wrapInc f).lux = s.lux := rfl
@[simp] theorem State.wrapInc_tlt (s : State) (f : Fld) : (s.wrapInc f).tlt = s.tlt := rfl
@[simp] theorem State.wrapInc_sio (s : State) (f : Fld) : (s.wrapInc f).sio = s.sio := rfl
@[simp] theorem State.wrapInc_tim (s : State) (f : Fld) : (s.wrapInc f).tim = s.tim := rfl
@[simp] theorem State.wrapInc_sil (s : State) (f : Fld) : (s.wrapInc f).sil = s.sil := rfl
@[simp] theorem State.wrapInc_ad (s : State) (f : Fld) : (s.wrapInc f).ad = s.ad := rfl
@[simp] theorem State.wrapInc_pmu (s : State) (f : Fld) : (s.wrapInc f).pmu = s.pmu := rfl
@[simp] theorem State.wrapInc_cpu (s : State) (f : Fld) : (s.wrapInc f).cpu = s.cpu := rfl
@[simp] theorem State.wrapInc_thm (s : State) (f : Fld) : (s.wrapInc f).thm = s.thm := rfl
@[simp] theorem State.wrapInc_qspi (s : State) (f : Fld) : (s.wrapInc f).qspi = s.qspi := rfl
@[simp] theorem State.wrapInc_uart (s : State) (f : Fld) : (s.wrapInc f).uart = s.uart := rfl
@[simp] theorem State.wrapInc_spi (s : State) (f : Fld) : (s.wrapInc f).spi = s.spi := rfl
@[simp] theorem State.wrapInc_net (s : State) (f : Fld) : (s.wrapInc f).net = s.net := rfl
@[simp] theorem State.wrapInc_crn (s : State) (f : Fld) : (s.wrapInc f).crn = s.crn := rfl
@[simp] theorem State.wrapInc_pending (s : State) (f : Fld) : (s.wrapInc f).pending = s.pending := rfl

/-! `flagBits` writes `regs` and `flagAt` alone. -/

@[simp] theorem State.flagBits_now (s : State) (f : Fld) (b : Nat) : (s.flagBits f b).now = s.now := rfl
@[simp] theorem State.flagBits_freeCtr (s : State) (f : Fld) (b : Nat) : (s.flagBits f b).freeCtr = s.freeCtr := rfl
@[simp] theorem State.flagBits_resp (s : State) (f : Fld) (b : Nat) : (s.flagBits f b).resp = s.resp := rfl
@[simp] theorem State.flagBits_timers (s : State) (f : Fld) (b : Nat) : (s.flagBits f b).timers = s.timers := rfl
@[simp] theorem State.flagBits_sram (s : State) (f : Fld) (b : Nat) : (s.flagBits f b).sram = s.sram := rfl
@[simp] theorem State.flagBits_flash (s : State) (f : Fld) (b : Nat) : (s.flagBits f b).flash = s.flash := rfl
@[simp] theorem State.flagBits_otp (s : State) (f : Fld) (b : Nat) : (s.flagBits f b).otp = s.otp := rfl
@[simp] theorem State.flagBits_rom (s : State) (f : Fld) (b : Nat) : (s.flagBits f b).rom = s.rom := rfl
@[simp] theorem State.flagBits_dram (s : State) (f : Fld) (b : Nat) : (s.flagBits f b).dram = s.dram := rfl
@[simp] theorem State.flagBits_shelf (s : State) (f : Fld) (b : Nat) : (s.flagBits f b).shelf = s.shelf := rfl
@[simp] theorem State.flagBits_progs (s : State) (f : Fld) (b : Nat) : (s.flagBits f b).progs = s.progs := rfl
@[simp] theorem State.flagBits_evl (s : State) (f : Fld) (b : Nat) : (s.flagBits f b).evl = s.evl := rfl
@[simp] theorem State.flagBits_cil (s : State) (f : Fld) (b : Nat) : (s.flagBits f b).cil = s.cil := rfl
@[simp] theorem State.flagBits_lck (s : State) (f : Fld) (b : Nat) : (s.flagBits f b).lck = s.lck := rfl
@[simp] theorem State.flagBits_ten (s : State) (f : Fld) (b : Nat) : (s.flagBits f b).ten = s.ten := rfl
@[simp] theorem State.flagBits_asy (s : State) (f : Fld) (b : Nat) : (s.flagBits f b).asy = s.asy := rfl
@[simp] theorem State.flagBits_ing (s : State) (f : Fld) (b : Nat) : (s.flagBits f b).ing = s.ing := rfl
@[simp] theorem State.flagBits_flt (s : State) (f : Fld) (b : Nat) : (s.flagBits f b).flt = s.flt := rfl
@[simp] theorem State.flagBits_i2c (s : State) (f : Fld) (b : Nat) : (s.flagBits f b).i2c = s.i2c := rfl
@[simp] theorem State.flagBits_lux (s : State) (f : Fld) (b : Nat) : (s.flagBits f b).lux = s.lux := rfl
@[simp] theorem State.flagBits_tlt (s : State) (f : Fld) (b : Nat) : (s.flagBits f b).tlt = s.tlt := rfl
@[simp] theorem State.flagBits_sio (s : State) (f : Fld) (b : Nat) : (s.flagBits f b).sio = s.sio := rfl
@[simp] theorem State.flagBits_tim (s : State) (f : Fld) (b : Nat) : (s.flagBits f b).tim = s.tim := rfl
@[simp] theorem State.flagBits_sil (s : State) (f : Fld) (b : Nat) : (s.flagBits f b).sil = s.sil := rfl
@[simp] theorem State.flagBits_ad (s : State) (f : Fld) (b : Nat) : (s.flagBits f b).ad = s.ad := rfl
@[simp] theorem State.flagBits_pmu (s : State) (f : Fld) (b : Nat) : (s.flagBits f b).pmu = s.pmu := rfl
@[simp] theorem State.flagBits_cpu (s : State) (f : Fld) (b : Nat) : (s.flagBits f b).cpu = s.cpu := rfl
@[simp] theorem State.flagBits_thm (s : State) (f : Fld) (b : Nat) : (s.flagBits f b).thm = s.thm := rfl
@[simp] theorem State.flagBits_qspi (s : State) (f : Fld) (b : Nat) : (s.flagBits f b).qspi = s.qspi := rfl
@[simp] theorem State.flagBits_uart (s : State) (f : Fld) (b : Nat) : (s.flagBits f b).uart = s.uart := rfl
@[simp] theorem State.flagBits_spi (s : State) (f : Fld) (b : Nat) : (s.flagBits f b).spi = s.spi := rfl
@[simp] theorem State.flagBits_net (s : State) (f : Fld) (b : Nat) : (s.flagBits f b).net = s.net := rfl
@[simp] theorem State.flagBits_crn (s : State) (f : Fld) (b : Nat) : (s.flagBits f b).crn = s.crn := rfl
@[simp] theorem State.flagBits_pending (s : State) (f : Fld) (b : Nat) : (s.flagBits f b).pending = s.pending := rfl

/-! `flag` writes `regs` and `flagAt` alone. -/

@[simp] theorem State.flag_now (s : State) (f : Fld) : (s.flag f).now = s.now := rfl
@[simp] theorem State.flag_freeCtr (s : State) (f : Fld) : (s.flag f).freeCtr = s.freeCtr := rfl
@[simp] theorem State.flag_resp (s : State) (f : Fld) : (s.flag f).resp = s.resp := rfl
@[simp] theorem State.flag_timers (s : State) (f : Fld) : (s.flag f).timers = s.timers := rfl
@[simp] theorem State.flag_sram (s : State) (f : Fld) : (s.flag f).sram = s.sram := rfl
@[simp] theorem State.flag_flash (s : State) (f : Fld) : (s.flag f).flash = s.flash := rfl
@[simp] theorem State.flag_otp (s : State) (f : Fld) : (s.flag f).otp = s.otp := rfl
@[simp] theorem State.flag_rom (s : State) (f : Fld) : (s.flag f).rom = s.rom := rfl
@[simp] theorem State.flag_dram (s : State) (f : Fld) : (s.flag f).dram = s.dram := rfl
@[simp] theorem State.flag_shelf (s : State) (f : Fld) : (s.flag f).shelf = s.shelf := rfl
@[simp] theorem State.flag_progs (s : State) (f : Fld) : (s.flag f).progs = s.progs := rfl
@[simp] theorem State.flag_evl (s : State) (f : Fld) : (s.flag f).evl = s.evl := rfl
@[simp] theorem State.flag_cil (s : State) (f : Fld) : (s.flag f).cil = s.cil := rfl
@[simp] theorem State.flag_lck (s : State) (f : Fld) : (s.flag f).lck = s.lck := rfl
@[simp] theorem State.flag_ten (s : State) (f : Fld) : (s.flag f).ten = s.ten := rfl
@[simp] theorem State.flag_asy (s : State) (f : Fld) : (s.flag f).asy = s.asy := rfl
@[simp] theorem State.flag_ing (s : State) (f : Fld) : (s.flag f).ing = s.ing := rfl
@[simp] theorem State.flag_flt (s : State) (f : Fld) : (s.flag f).flt = s.flt := rfl
@[simp] theorem State.flag_i2c (s : State) (f : Fld) : (s.flag f).i2c = s.i2c := rfl
@[simp] theorem State.flag_lux (s : State) (f : Fld) : (s.flag f).lux = s.lux := rfl
@[simp] theorem State.flag_tlt (s : State) (f : Fld) : (s.flag f).tlt = s.tlt := rfl
@[simp] theorem State.flag_sio (s : State) (f : Fld) : (s.flag f).sio = s.sio := rfl
@[simp] theorem State.flag_tim (s : State) (f : Fld) : (s.flag f).tim = s.tim := rfl
@[simp] theorem State.flag_sil (s : State) (f : Fld) : (s.flag f).sil = s.sil := rfl
@[simp] theorem State.flag_ad (s : State) (f : Fld) : (s.flag f).ad = s.ad := rfl
@[simp] theorem State.flag_pmu (s : State) (f : Fld) : (s.flag f).pmu = s.pmu := rfl
@[simp] theorem State.flag_cpu (s : State) (f : Fld) : (s.flag f).cpu = s.cpu := rfl
@[simp] theorem State.flag_thm (s : State) (f : Fld) : (s.flag f).thm = s.thm := rfl
@[simp] theorem State.flag_qspi (s : State) (f : Fld) : (s.flag f).qspi = s.qspi := rfl
@[simp] theorem State.flag_uart (s : State) (f : Fld) : (s.flag f).uart = s.uart := rfl
@[simp] theorem State.flag_spi (s : State) (f : Fld) : (s.flag f).spi = s.spi := rfl
@[simp] theorem State.flag_net (s : State) (f : Fld) : (s.flag f).net = s.net := rfl
@[simp] theorem State.flag_crn (s : State) (f : Fld) : (s.flag f).crn = s.crn := rfl
@[simp] theorem State.flag_pending (s : State) (f : Fld) : (s.flag f).pending = s.pending := rfl

/-! `changeRc` writes `regs` and `flagAt` alone. -/

@[simp] theorem State.changeRc_now (s : State) (f : Fld) (v : Nat) : (s.changeRc f v).now = s.now := rfl
@[simp] theorem State.changeRc_freeCtr (s : State) (f : Fld) (v : Nat) : (s.changeRc f v).freeCtr = s.freeCtr := rfl
@[simp] theorem State.changeRc_resp (s : State) (f : Fld) (v : Nat) : (s.changeRc f v).resp = s.resp := rfl
@[simp] theorem State.changeRc_timers (s : State) (f : Fld) (v : Nat) : (s.changeRc f v).timers = s.timers := rfl
@[simp] theorem State.changeRc_sram (s : State) (f : Fld) (v : Nat) : (s.changeRc f v).sram = s.sram := rfl
@[simp] theorem State.changeRc_flash (s : State) (f : Fld) (v : Nat) : (s.changeRc f v).flash = s.flash := rfl
@[simp] theorem State.changeRc_otp (s : State) (f : Fld) (v : Nat) : (s.changeRc f v).otp = s.otp := rfl
@[simp] theorem State.changeRc_rom (s : State) (f : Fld) (v : Nat) : (s.changeRc f v).rom = s.rom := rfl
@[simp] theorem State.changeRc_dram (s : State) (f : Fld) (v : Nat) : (s.changeRc f v).dram = s.dram := rfl
@[simp] theorem State.changeRc_shelf (s : State) (f : Fld) (v : Nat) : (s.changeRc f v).shelf = s.shelf := rfl
@[simp] theorem State.changeRc_progs (s : State) (f : Fld) (v : Nat) : (s.changeRc f v).progs = s.progs := rfl
@[simp] theorem State.changeRc_evl (s : State) (f : Fld) (v : Nat) : (s.changeRc f v).evl = s.evl := rfl
@[simp] theorem State.changeRc_cil (s : State) (f : Fld) (v : Nat) : (s.changeRc f v).cil = s.cil := rfl
@[simp] theorem State.changeRc_lck (s : State) (f : Fld) (v : Nat) : (s.changeRc f v).lck = s.lck := rfl
@[simp] theorem State.changeRc_ten (s : State) (f : Fld) (v : Nat) : (s.changeRc f v).ten = s.ten := rfl
@[simp] theorem State.changeRc_asy (s : State) (f : Fld) (v : Nat) : (s.changeRc f v).asy = s.asy := rfl
@[simp] theorem State.changeRc_ing (s : State) (f : Fld) (v : Nat) : (s.changeRc f v).ing = s.ing := rfl
@[simp] theorem State.changeRc_flt (s : State) (f : Fld) (v : Nat) : (s.changeRc f v).flt = s.flt := rfl
@[simp] theorem State.changeRc_i2c (s : State) (f : Fld) (v : Nat) : (s.changeRc f v).i2c = s.i2c := rfl
@[simp] theorem State.changeRc_lux (s : State) (f : Fld) (v : Nat) : (s.changeRc f v).lux = s.lux := rfl
@[simp] theorem State.changeRc_tlt (s : State) (f : Fld) (v : Nat) : (s.changeRc f v).tlt = s.tlt := rfl
@[simp] theorem State.changeRc_sio (s : State) (f : Fld) (v : Nat) : (s.changeRc f v).sio = s.sio := rfl
@[simp] theorem State.changeRc_tim (s : State) (f : Fld) (v : Nat) : (s.changeRc f v).tim = s.tim := rfl
@[simp] theorem State.changeRc_sil (s : State) (f : Fld) (v : Nat) : (s.changeRc f v).sil = s.sil := rfl
@[simp] theorem State.changeRc_ad (s : State) (f : Fld) (v : Nat) : (s.changeRc f v).ad = s.ad := rfl
@[simp] theorem State.changeRc_pmu (s : State) (f : Fld) (v : Nat) : (s.changeRc f v).pmu = s.pmu := rfl
@[simp] theorem State.changeRc_cpu (s : State) (f : Fld) (v : Nat) : (s.changeRc f v).cpu = s.cpu := rfl
@[simp] theorem State.changeRc_thm (s : State) (f : Fld) (v : Nat) : (s.changeRc f v).thm = s.thm := rfl
@[simp] theorem State.changeRc_qspi (s : State) (f : Fld) (v : Nat) : (s.changeRc f v).qspi = s.qspi := rfl
@[simp] theorem State.changeRc_uart (s : State) (f : Fld) (v : Nat) : (s.changeRc f v).uart = s.uart := rfl
@[simp] theorem State.changeRc_spi (s : State) (f : Fld) (v : Nat) : (s.changeRc f v).spi = s.spi := rfl
@[simp] theorem State.changeRc_net (s : State) (f : Fld) (v : Nat) : (s.changeRc f v).net = s.net := rfl
@[simp] theorem State.changeRc_crn (s : State) (f : Fld) (v : Nat) : (s.changeRc f v).crn = s.crn := rfl
@[simp] theorem State.changeRc_pending (s : State) (f : Fld) (v : Nat) : (s.changeRc f v).pending = s.pending := rfl

/-! `armAt` writes `timers` alone. -/

@[simp] theorem State.armAt_now (s : State) (t : Timer) (d : Nat) : (s.armAt t d).now = s.now := rfl
@[simp] theorem State.armAt_freeCtr (s : State) (t : Timer) (d : Nat) : (s.armAt t d).freeCtr = s.freeCtr := rfl
@[simp] theorem State.armAt_resp (s : State) (t : Timer) (d : Nat) : (s.armAt t d).resp = s.resp := rfl
@[simp] theorem State.armAt_regs (s : State) (t : Timer) (d : Nat) : (s.armAt t d).regs = s.regs := rfl
@[simp] theorem State.armAt_flagAt (s : State) (t : Timer) (d : Nat) : (s.armAt t d).flagAt = s.flagAt := rfl
@[simp] theorem State.armAt_sram (s : State) (t : Timer) (d : Nat) : (s.armAt t d).sram = s.sram := rfl
@[simp] theorem State.armAt_flash (s : State) (t : Timer) (d : Nat) : (s.armAt t d).flash = s.flash := rfl
@[simp] theorem State.armAt_otp (s : State) (t : Timer) (d : Nat) : (s.armAt t d).otp = s.otp := rfl
@[simp] theorem State.armAt_rom (s : State) (t : Timer) (d : Nat) : (s.armAt t d).rom = s.rom := rfl
@[simp] theorem State.armAt_dram (s : State) (t : Timer) (d : Nat) : (s.armAt t d).dram = s.dram := rfl
@[simp] theorem State.armAt_shelf (s : State) (t : Timer) (d : Nat) : (s.armAt t d).shelf = s.shelf := rfl
@[simp] theorem State.armAt_progs (s : State) (t : Timer) (d : Nat) : (s.armAt t d).progs = s.progs := rfl
@[simp] theorem State.armAt_evl (s : State) (t : Timer) (d : Nat) : (s.armAt t d).evl = s.evl := rfl
@[simp] theorem State.armAt_cil (s : State) (t : Timer) (d : Nat) : (s.armAt t d).cil = s.cil := rfl
@[simp] theorem State.armAt_lck (s : State) (t : Timer) (d : Nat) : (s.armAt t d).lck = s.lck := rfl
@[simp] theorem State.armAt_ten (s : State) (t : Timer) (d : Nat) : (s.armAt t d).ten = s.ten := rfl
@[simp] theorem State.armAt_asy (s : State) (t : Timer) (d : Nat) : (s.armAt t d).asy = s.asy := rfl
@[simp] theorem State.armAt_ing (s : State) (t : Timer) (d : Nat) : (s.armAt t d).ing = s.ing := rfl
@[simp] theorem State.armAt_flt (s : State) (t : Timer) (d : Nat) : (s.armAt t d).flt = s.flt := rfl
@[simp] theorem State.armAt_i2c (s : State) (t : Timer) (d : Nat) : (s.armAt t d).i2c = s.i2c := rfl
@[simp] theorem State.armAt_lux (s : State) (t : Timer) (d : Nat) : (s.armAt t d).lux = s.lux := rfl
@[simp] theorem State.armAt_tlt (s : State) (t : Timer) (d : Nat) : (s.armAt t d).tlt = s.tlt := rfl
@[simp] theorem State.armAt_sio (s : State) (t : Timer) (d : Nat) : (s.armAt t d).sio = s.sio := rfl
@[simp] theorem State.armAt_tim (s : State) (t : Timer) (d : Nat) : (s.armAt t d).tim = s.tim := rfl
@[simp] theorem State.armAt_sil (s : State) (t : Timer) (d : Nat) : (s.armAt t d).sil = s.sil := rfl
@[simp] theorem State.armAt_ad (s : State) (t : Timer) (d : Nat) : (s.armAt t d).ad = s.ad := rfl
@[simp] theorem State.armAt_pmu (s : State) (t : Timer) (d : Nat) : (s.armAt t d).pmu = s.pmu := rfl
@[simp] theorem State.armAt_cpu (s : State) (t : Timer) (d : Nat) : (s.armAt t d).cpu = s.cpu := rfl
@[simp] theorem State.armAt_thm (s : State) (t : Timer) (d : Nat) : (s.armAt t d).thm = s.thm := rfl
@[simp] theorem State.armAt_qspi (s : State) (t : Timer) (d : Nat) : (s.armAt t d).qspi = s.qspi := rfl
@[simp] theorem State.armAt_uart (s : State) (t : Timer) (d : Nat) : (s.armAt t d).uart = s.uart := rfl
@[simp] theorem State.armAt_spi (s : State) (t : Timer) (d : Nat) : (s.armAt t d).spi = s.spi := rfl
@[simp] theorem State.armAt_net (s : State) (t : Timer) (d : Nat) : (s.armAt t d).net = s.net := rfl
@[simp] theorem State.armAt_crn (s : State) (t : Timer) (d : Nat) : (s.armAt t d).crn = s.crn := rfl
@[simp] theorem State.armAt_pending (s : State) (t : Timer) (d : Nat) : (s.armAt t d).pending = s.pending := rfl

/-! `arm` writes `timers` alone. -/

@[simp] theorem State.arm_now (s : State) (t : Timer) (d : Nat) : (s.arm t d).now = s.now := rfl
@[simp] theorem State.arm_freeCtr (s : State) (t : Timer) (d : Nat) : (s.arm t d).freeCtr = s.freeCtr := rfl
@[simp] theorem State.arm_resp (s : State) (t : Timer) (d : Nat) : (s.arm t d).resp = s.resp := rfl
@[simp] theorem State.arm_regs (s : State) (t : Timer) (d : Nat) : (s.arm t d).regs = s.regs := rfl
@[simp] theorem State.arm_flagAt (s : State) (t : Timer) (d : Nat) : (s.arm t d).flagAt = s.flagAt := rfl
@[simp] theorem State.arm_sram (s : State) (t : Timer) (d : Nat) : (s.arm t d).sram = s.sram := rfl
@[simp] theorem State.arm_flash (s : State) (t : Timer) (d : Nat) : (s.arm t d).flash = s.flash := rfl
@[simp] theorem State.arm_otp (s : State) (t : Timer) (d : Nat) : (s.arm t d).otp = s.otp := rfl
@[simp] theorem State.arm_rom (s : State) (t : Timer) (d : Nat) : (s.arm t d).rom = s.rom := rfl
@[simp] theorem State.arm_dram (s : State) (t : Timer) (d : Nat) : (s.arm t d).dram = s.dram := rfl
@[simp] theorem State.arm_shelf (s : State) (t : Timer) (d : Nat) : (s.arm t d).shelf = s.shelf := rfl
@[simp] theorem State.arm_progs (s : State) (t : Timer) (d : Nat) : (s.arm t d).progs = s.progs := rfl
@[simp] theorem State.arm_evl (s : State) (t : Timer) (d : Nat) : (s.arm t d).evl = s.evl := rfl
@[simp] theorem State.arm_cil (s : State) (t : Timer) (d : Nat) : (s.arm t d).cil = s.cil := rfl
@[simp] theorem State.arm_lck (s : State) (t : Timer) (d : Nat) : (s.arm t d).lck = s.lck := rfl
@[simp] theorem State.arm_ten (s : State) (t : Timer) (d : Nat) : (s.arm t d).ten = s.ten := rfl
@[simp] theorem State.arm_asy (s : State) (t : Timer) (d : Nat) : (s.arm t d).asy = s.asy := rfl
@[simp] theorem State.arm_ing (s : State) (t : Timer) (d : Nat) : (s.arm t d).ing = s.ing := rfl
@[simp] theorem State.arm_flt (s : State) (t : Timer) (d : Nat) : (s.arm t d).flt = s.flt := rfl
@[simp] theorem State.arm_i2c (s : State) (t : Timer) (d : Nat) : (s.arm t d).i2c = s.i2c := rfl
@[simp] theorem State.arm_lux (s : State) (t : Timer) (d : Nat) : (s.arm t d).lux = s.lux := rfl
@[simp] theorem State.arm_tlt (s : State) (t : Timer) (d : Nat) : (s.arm t d).tlt = s.tlt := rfl
@[simp] theorem State.arm_sio (s : State) (t : Timer) (d : Nat) : (s.arm t d).sio = s.sio := rfl
@[simp] theorem State.arm_tim (s : State) (t : Timer) (d : Nat) : (s.arm t d).tim = s.tim := rfl
@[simp] theorem State.arm_sil (s : State) (t : Timer) (d : Nat) : (s.arm t d).sil = s.sil := rfl
@[simp] theorem State.arm_ad (s : State) (t : Timer) (d : Nat) : (s.arm t d).ad = s.ad := rfl
@[simp] theorem State.arm_pmu (s : State) (t : Timer) (d : Nat) : (s.arm t d).pmu = s.pmu := rfl
@[simp] theorem State.arm_cpu (s : State) (t : Timer) (d : Nat) : (s.arm t d).cpu = s.cpu := rfl
@[simp] theorem State.arm_thm (s : State) (t : Timer) (d : Nat) : (s.arm t d).thm = s.thm := rfl
@[simp] theorem State.arm_qspi (s : State) (t : Timer) (d : Nat) : (s.arm t d).qspi = s.qspi := rfl
@[simp] theorem State.arm_uart (s : State) (t : Timer) (d : Nat) : (s.arm t d).uart = s.uart := rfl
@[simp] theorem State.arm_spi (s : State) (t : Timer) (d : Nat) : (s.arm t d).spi = s.spi := rfl
@[simp] theorem State.arm_net (s : State) (t : Timer) (d : Nat) : (s.arm t d).net = s.net := rfl
@[simp] theorem State.arm_crn (s : State) (t : Timer) (d : Nat) : (s.arm t d).crn = s.crn := rfl
@[simp] theorem State.arm_pending (s : State) (t : Timer) (d : Nat) : (s.arm t d).pending = s.pending := rfl

/-! `disarm` writes `timers` alone. -/

@[simp] theorem State.disarm_now (s : State) (t : Timer) : (s.disarm t).now = s.now := rfl
@[simp] theorem State.disarm_freeCtr (s : State) (t : Timer) : (s.disarm t).freeCtr = s.freeCtr := rfl
@[simp] theorem State.disarm_resp (s : State) (t : Timer) : (s.disarm t).resp = s.resp := rfl
@[simp] theorem State.disarm_regs (s : State) (t : Timer) : (s.disarm t).regs = s.regs := rfl
@[simp] theorem State.disarm_flagAt (s : State) (t : Timer) : (s.disarm t).flagAt = s.flagAt := rfl
@[simp] theorem State.disarm_sram (s : State) (t : Timer) : (s.disarm t).sram = s.sram := rfl
@[simp] theorem State.disarm_flash (s : State) (t : Timer) : (s.disarm t).flash = s.flash := rfl
@[simp] theorem State.disarm_otp (s : State) (t : Timer) : (s.disarm t).otp = s.otp := rfl
@[simp] theorem State.disarm_rom (s : State) (t : Timer) : (s.disarm t).rom = s.rom := rfl
@[simp] theorem State.disarm_dram (s : State) (t : Timer) : (s.disarm t).dram = s.dram := rfl
@[simp] theorem State.disarm_shelf (s : State) (t : Timer) : (s.disarm t).shelf = s.shelf := rfl
@[simp] theorem State.disarm_progs (s : State) (t : Timer) : (s.disarm t).progs = s.progs := rfl
@[simp] theorem State.disarm_evl (s : State) (t : Timer) : (s.disarm t).evl = s.evl := rfl
@[simp] theorem State.disarm_cil (s : State) (t : Timer) : (s.disarm t).cil = s.cil := rfl
@[simp] theorem State.disarm_lck (s : State) (t : Timer) : (s.disarm t).lck = s.lck := rfl
@[simp] theorem State.disarm_ten (s : State) (t : Timer) : (s.disarm t).ten = s.ten := rfl
@[simp] theorem State.disarm_asy (s : State) (t : Timer) : (s.disarm t).asy = s.asy := rfl
@[simp] theorem State.disarm_ing (s : State) (t : Timer) : (s.disarm t).ing = s.ing := rfl
@[simp] theorem State.disarm_flt (s : State) (t : Timer) : (s.disarm t).flt = s.flt := rfl
@[simp] theorem State.disarm_i2c (s : State) (t : Timer) : (s.disarm t).i2c = s.i2c := rfl
@[simp] theorem State.disarm_lux (s : State) (t : Timer) : (s.disarm t).lux = s.lux := rfl
@[simp] theorem State.disarm_tlt (s : State) (t : Timer) : (s.disarm t).tlt = s.tlt := rfl
@[simp] theorem State.disarm_sio (s : State) (t : Timer) : (s.disarm t).sio = s.sio := rfl
@[simp] theorem State.disarm_tim (s : State) (t : Timer) : (s.disarm t).tim = s.tim := rfl
@[simp] theorem State.disarm_sil (s : State) (t : Timer) : (s.disarm t).sil = s.sil := rfl
@[simp] theorem State.disarm_ad (s : State) (t : Timer) : (s.disarm t).ad = s.ad := rfl
@[simp] theorem State.disarm_pmu (s : State) (t : Timer) : (s.disarm t).pmu = s.pmu := rfl
@[simp] theorem State.disarm_cpu (s : State) (t : Timer) : (s.disarm t).cpu = s.cpu := rfl
@[simp] theorem State.disarm_thm (s : State) (t : Timer) : (s.disarm t).thm = s.thm := rfl
@[simp] theorem State.disarm_qspi (s : State) (t : Timer) : (s.disarm t).qspi = s.qspi := rfl
@[simp] theorem State.disarm_uart (s : State) (t : Timer) : (s.disarm t).uart = s.uart := rfl
@[simp] theorem State.disarm_spi (s : State) (t : Timer) : (s.disarm t).spi = s.spi := rfl
@[simp] theorem State.disarm_net (s : State) (t : Timer) : (s.disarm t).net = s.net := rfl
@[simp] theorem State.disarm_crn (s : State) (t : Timer) : (s.disarm t).crn = s.crn := rfl
@[simp] theorem State.disarm_pending (s : State) (t : Timer) : (s.disarm t).pending = s.pending := rfl

/-! `program` writes `flash` alone. -/

@[simp] theorem State.program_now (s : State) (a : Nat) (l : List Byte) : (s.program a l).now = s.now := rfl
@[simp] theorem State.program_freeCtr (s : State) (a : Nat) (l : List Byte) : (s.program a l).freeCtr = s.freeCtr := rfl
@[simp] theorem State.program_resp (s : State) (a : Nat) (l : List Byte) : (s.program a l).resp = s.resp := rfl
@[simp] theorem State.program_regs (s : State) (a : Nat) (l : List Byte) : (s.program a l).regs = s.regs := rfl
@[simp] theorem State.program_flagAt (s : State) (a : Nat) (l : List Byte) : (s.program a l).flagAt = s.flagAt := rfl
@[simp] theorem State.program_timers (s : State) (a : Nat) (l : List Byte) : (s.program a l).timers = s.timers := rfl
@[simp] theorem State.program_sram (s : State) (a : Nat) (l : List Byte) : (s.program a l).sram = s.sram := rfl
@[simp] theorem State.program_otp (s : State) (a : Nat) (l : List Byte) : (s.program a l).otp = s.otp := rfl
@[simp] theorem State.program_rom (s : State) (a : Nat) (l : List Byte) : (s.program a l).rom = s.rom := rfl
@[simp] theorem State.program_dram (s : State) (a : Nat) (l : List Byte) : (s.program a l).dram = s.dram := rfl
@[simp] theorem State.program_shelf (s : State) (a : Nat) (l : List Byte) : (s.program a l).shelf = s.shelf := rfl
@[simp] theorem State.program_progs (s : State) (a : Nat) (l : List Byte) : (s.program a l).progs = s.progs := rfl
@[simp] theorem State.program_evl (s : State) (a : Nat) (l : List Byte) : (s.program a l).evl = s.evl := rfl
@[simp] theorem State.program_cil (s : State) (a : Nat) (l : List Byte) : (s.program a l).cil = s.cil := rfl
@[simp] theorem State.program_lck (s : State) (a : Nat) (l : List Byte) : (s.program a l).lck = s.lck := rfl
@[simp] theorem State.program_ten (s : State) (a : Nat) (l : List Byte) : (s.program a l).ten = s.ten := rfl
@[simp] theorem State.program_asy (s : State) (a : Nat) (l : List Byte) : (s.program a l).asy = s.asy := rfl
@[simp] theorem State.program_ing (s : State) (a : Nat) (l : List Byte) : (s.program a l).ing = s.ing := rfl
@[simp] theorem State.program_flt (s : State) (a : Nat) (l : List Byte) : (s.program a l).flt = s.flt := rfl
@[simp] theorem State.program_i2c (s : State) (a : Nat) (l : List Byte) : (s.program a l).i2c = s.i2c := rfl
@[simp] theorem State.program_lux (s : State) (a : Nat) (l : List Byte) : (s.program a l).lux = s.lux := rfl
@[simp] theorem State.program_tlt (s : State) (a : Nat) (l : List Byte) : (s.program a l).tlt = s.tlt := rfl
@[simp] theorem State.program_sio (s : State) (a : Nat) (l : List Byte) : (s.program a l).sio = s.sio := rfl
@[simp] theorem State.program_tim (s : State) (a : Nat) (l : List Byte) : (s.program a l).tim = s.tim := rfl
@[simp] theorem State.program_sil (s : State) (a : Nat) (l : List Byte) : (s.program a l).sil = s.sil := rfl
@[simp] theorem State.program_ad (s : State) (a : Nat) (l : List Byte) : (s.program a l).ad = s.ad := rfl
@[simp] theorem State.program_pmu (s : State) (a : Nat) (l : List Byte) : (s.program a l).pmu = s.pmu := rfl
@[simp] theorem State.program_cpu (s : State) (a : Nat) (l : List Byte) : (s.program a l).cpu = s.cpu := rfl
@[simp] theorem State.program_thm (s : State) (a : Nat) (l : List Byte) : (s.program a l).thm = s.thm := rfl
@[simp] theorem State.program_qspi (s : State) (a : Nat) (l : List Byte) : (s.program a l).qspi = s.qspi := rfl
@[simp] theorem State.program_uart (s : State) (a : Nat) (l : List Byte) : (s.program a l).uart = s.uart := rfl
@[simp] theorem State.program_spi (s : State) (a : Nat) (l : List Byte) : (s.program a l).spi = s.spi := rfl
@[simp] theorem State.program_net (s : State) (a : Nat) (l : List Byte) : (s.program a l).net = s.net := rfl
@[simp] theorem State.program_crn (s : State) (a : Nat) (l : List Byte) : (s.program a l).crn = s.crn := rfl
@[simp] theorem State.program_pending (s : State) (a : Nat) (l : List Byte) : (s.program a l).pending = s.pending := rfl

/-! `erase` writes `flash` alone. -/

@[simp] theorem State.erase_now (s : State) (a n : Nat) : (s.erase a n).now = s.now := rfl
@[simp] theorem State.erase_freeCtr (s : State) (a n : Nat) : (s.erase a n).freeCtr = s.freeCtr := rfl
@[simp] theorem State.erase_resp (s : State) (a n : Nat) : (s.erase a n).resp = s.resp := rfl
@[simp] theorem State.erase_regs (s : State) (a n : Nat) : (s.erase a n).regs = s.regs := rfl
@[simp] theorem State.erase_flagAt (s : State) (a n : Nat) : (s.erase a n).flagAt = s.flagAt := rfl
@[simp] theorem State.erase_timers (s : State) (a n : Nat) : (s.erase a n).timers = s.timers := rfl
@[simp] theorem State.erase_sram (s : State) (a n : Nat) : (s.erase a n).sram = s.sram := rfl
@[simp] theorem State.erase_otp (s : State) (a n : Nat) : (s.erase a n).otp = s.otp := rfl
@[simp] theorem State.erase_rom (s : State) (a n : Nat) : (s.erase a n).rom = s.rom := rfl
@[simp] theorem State.erase_dram (s : State) (a n : Nat) : (s.erase a n).dram = s.dram := rfl
@[simp] theorem State.erase_shelf (s : State) (a n : Nat) : (s.erase a n).shelf = s.shelf := rfl
@[simp] theorem State.erase_progs (s : State) (a n : Nat) : (s.erase a n).progs = s.progs := rfl
@[simp] theorem State.erase_evl (s : State) (a n : Nat) : (s.erase a n).evl = s.evl := rfl
@[simp] theorem State.erase_cil (s : State) (a n : Nat) : (s.erase a n).cil = s.cil := rfl
@[simp] theorem State.erase_lck (s : State) (a n : Nat) : (s.erase a n).lck = s.lck := rfl
@[simp] theorem State.erase_ten (s : State) (a n : Nat) : (s.erase a n).ten = s.ten := rfl
@[simp] theorem State.erase_asy (s : State) (a n : Nat) : (s.erase a n).asy = s.asy := rfl
@[simp] theorem State.erase_ing (s : State) (a n : Nat) : (s.erase a n).ing = s.ing := rfl
@[simp] theorem State.erase_flt (s : State) (a n : Nat) : (s.erase a n).flt = s.flt := rfl
@[simp] theorem State.erase_i2c (s : State) (a n : Nat) : (s.erase a n).i2c = s.i2c := rfl
@[simp] theorem State.erase_lux (s : State) (a n : Nat) : (s.erase a n).lux = s.lux := rfl
@[simp] theorem State.erase_tlt (s : State) (a n : Nat) : (s.erase a n).tlt = s.tlt := rfl
@[simp] theorem State.erase_sio (s : State) (a n : Nat) : (s.erase a n).sio = s.sio := rfl
@[simp] theorem State.erase_tim (s : State) (a n : Nat) : (s.erase a n).tim = s.tim := rfl
@[simp] theorem State.erase_sil (s : State) (a n : Nat) : (s.erase a n).sil = s.sil := rfl
@[simp] theorem State.erase_ad (s : State) (a n : Nat) : (s.erase a n).ad = s.ad := rfl
@[simp] theorem State.erase_pmu (s : State) (a n : Nat) : (s.erase a n).pmu = s.pmu := rfl
@[simp] theorem State.erase_cpu (s : State) (a n : Nat) : (s.erase a n).cpu = s.cpu := rfl
@[simp] theorem State.erase_thm (s : State) (a n : Nat) : (s.erase a n).thm = s.thm := rfl
@[simp] theorem State.erase_qspi (s : State) (a n : Nat) : (s.erase a n).qspi = s.qspi := rfl
@[simp] theorem State.erase_uart (s : State) (a n : Nat) : (s.erase a n).uart = s.uart := rfl
@[simp] theorem State.erase_spi (s : State) (a n : Nat) : (s.erase a n).spi = s.spi := rfl
@[simp] theorem State.erase_net (s : State) (a n : Nat) : (s.erase a n).net = s.net := rfl
@[simp] theorem State.erase_crn (s : State) (a n : Nat) : (s.erase a n).crn = s.crn := rfl
@[simp] theorem State.erase_pending (s : State) (a n : Nat) : (s.erase a n).pending = s.pending := rfl

/-! `flashLeave` writes `flash` alone. -/

@[simp] theorem State.flashLeave_now (s : State) (a : Nat) (l : List Byte) : (s.flashLeave a l).now = s.now := rfl
@[simp] theorem State.flashLeave_freeCtr (s : State) (a : Nat) (l : List Byte) : (s.flashLeave a l).freeCtr = s.freeCtr := rfl
@[simp] theorem State.flashLeave_resp (s : State) (a : Nat) (l : List Byte) : (s.flashLeave a l).resp = s.resp := rfl
@[simp] theorem State.flashLeave_regs (s : State) (a : Nat) (l : List Byte) : (s.flashLeave a l).regs = s.regs := rfl
@[simp] theorem State.flashLeave_flagAt (s : State) (a : Nat) (l : List Byte) : (s.flashLeave a l).flagAt = s.flagAt := rfl
@[simp] theorem State.flashLeave_timers (s : State) (a : Nat) (l : List Byte) : (s.flashLeave a l).timers = s.timers := rfl
@[simp] theorem State.flashLeave_sram (s : State) (a : Nat) (l : List Byte) : (s.flashLeave a l).sram = s.sram := rfl
@[simp] theorem State.flashLeave_otp (s : State) (a : Nat) (l : List Byte) : (s.flashLeave a l).otp = s.otp := rfl
@[simp] theorem State.flashLeave_rom (s : State) (a : Nat) (l : List Byte) : (s.flashLeave a l).rom = s.rom := rfl
@[simp] theorem State.flashLeave_dram (s : State) (a : Nat) (l : List Byte) : (s.flashLeave a l).dram = s.dram := rfl
@[simp] theorem State.flashLeave_shelf (s : State) (a : Nat) (l : List Byte) : (s.flashLeave a l).shelf = s.shelf := rfl
@[simp] theorem State.flashLeave_progs (s : State) (a : Nat) (l : List Byte) : (s.flashLeave a l).progs = s.progs := rfl
@[simp] theorem State.flashLeave_evl (s : State) (a : Nat) (l : List Byte) : (s.flashLeave a l).evl = s.evl := rfl
@[simp] theorem State.flashLeave_cil (s : State) (a : Nat) (l : List Byte) : (s.flashLeave a l).cil = s.cil := rfl
@[simp] theorem State.flashLeave_lck (s : State) (a : Nat) (l : List Byte) : (s.flashLeave a l).lck = s.lck := rfl
@[simp] theorem State.flashLeave_ten (s : State) (a : Nat) (l : List Byte) : (s.flashLeave a l).ten = s.ten := rfl
@[simp] theorem State.flashLeave_asy (s : State) (a : Nat) (l : List Byte) : (s.flashLeave a l).asy = s.asy := rfl
@[simp] theorem State.flashLeave_ing (s : State) (a : Nat) (l : List Byte) : (s.flashLeave a l).ing = s.ing := rfl
@[simp] theorem State.flashLeave_flt (s : State) (a : Nat) (l : List Byte) : (s.flashLeave a l).flt = s.flt := rfl
@[simp] theorem State.flashLeave_i2c (s : State) (a : Nat) (l : List Byte) : (s.flashLeave a l).i2c = s.i2c := rfl
@[simp] theorem State.flashLeave_lux (s : State) (a : Nat) (l : List Byte) : (s.flashLeave a l).lux = s.lux := rfl
@[simp] theorem State.flashLeave_tlt (s : State) (a : Nat) (l : List Byte) : (s.flashLeave a l).tlt = s.tlt := rfl
@[simp] theorem State.flashLeave_sio (s : State) (a : Nat) (l : List Byte) : (s.flashLeave a l).sio = s.sio := rfl
@[simp] theorem State.flashLeave_tim (s : State) (a : Nat) (l : List Byte) : (s.flashLeave a l).tim = s.tim := rfl
@[simp] theorem State.flashLeave_sil (s : State) (a : Nat) (l : List Byte) : (s.flashLeave a l).sil = s.sil := rfl
@[simp] theorem State.flashLeave_ad (s : State) (a : Nat) (l : List Byte) : (s.flashLeave a l).ad = s.ad := rfl
@[simp] theorem State.flashLeave_pmu (s : State) (a : Nat) (l : List Byte) : (s.flashLeave a l).pmu = s.pmu := rfl
@[simp] theorem State.flashLeave_cpu (s : State) (a : Nat) (l : List Byte) : (s.flashLeave a l).cpu = s.cpu := rfl
@[simp] theorem State.flashLeave_thm (s : State) (a : Nat) (l : List Byte) : (s.flashLeave a l).thm = s.thm := rfl
@[simp] theorem State.flashLeave_qspi (s : State) (a : Nat) (l : List Byte) : (s.flashLeave a l).qspi = s.qspi := rfl
@[simp] theorem State.flashLeave_uart (s : State) (a : Nat) (l : List Byte) : (s.flashLeave a l).uart = s.uart := rfl
@[simp] theorem State.flashLeave_spi (s : State) (a : Nat) (l : List Byte) : (s.flashLeave a l).spi = s.spi := rfl
@[simp] theorem State.flashLeave_net (s : State) (a : Nat) (l : List Byte) : (s.flashLeave a l).net = s.net := rfl
@[simp] theorem State.flashLeave_crn (s : State) (a : Nat) (l : List Byte) : (s.flashLeave a l).crn = s.crn := rfl
@[simp] theorem State.flashLeave_pending (s : State) (a : Nat) (l : List Byte) : (s.flashLeave a l).pending = s.pending := rfl

/-! `sramWrite` writes `sram` alone. -/

@[simp] theorem State.sramWrite_now (s : State) (a : Nat) (l : List Byte) : (s.sramWrite a l).now = s.now := rfl
@[simp] theorem State.sramWrite_freeCtr (s : State) (a : Nat) (l : List Byte) : (s.sramWrite a l).freeCtr = s.freeCtr := rfl
@[simp] theorem State.sramWrite_resp (s : State) (a : Nat) (l : List Byte) : (s.sramWrite a l).resp = s.resp := rfl
@[simp] theorem State.sramWrite_regs (s : State) (a : Nat) (l : List Byte) : (s.sramWrite a l).regs = s.regs := rfl
@[simp] theorem State.sramWrite_flagAt (s : State) (a : Nat) (l : List Byte) : (s.sramWrite a l).flagAt = s.flagAt := rfl
@[simp] theorem State.sramWrite_timers (s : State) (a : Nat) (l : List Byte) : (s.sramWrite a l).timers = s.timers := rfl
@[simp] theorem State.sramWrite_flash (s : State) (a : Nat) (l : List Byte) : (s.sramWrite a l).flash = s.flash := rfl
@[simp] theorem State.sramWrite_otp (s : State) (a : Nat) (l : List Byte) : (s.sramWrite a l).otp = s.otp := rfl
@[simp] theorem State.sramWrite_rom (s : State) (a : Nat) (l : List Byte) : (s.sramWrite a l).rom = s.rom := rfl
@[simp] theorem State.sramWrite_dram (s : State) (a : Nat) (l : List Byte) : (s.sramWrite a l).dram = s.dram := rfl
@[simp] theorem State.sramWrite_shelf (s : State) (a : Nat) (l : List Byte) : (s.sramWrite a l).shelf = s.shelf := rfl
@[simp] theorem State.sramWrite_progs (s : State) (a : Nat) (l : List Byte) : (s.sramWrite a l).progs = s.progs := rfl
@[simp] theorem State.sramWrite_evl (s : State) (a : Nat) (l : List Byte) : (s.sramWrite a l).evl = s.evl := rfl
@[simp] theorem State.sramWrite_cil (s : State) (a : Nat) (l : List Byte) : (s.sramWrite a l).cil = s.cil := rfl
@[simp] theorem State.sramWrite_lck (s : State) (a : Nat) (l : List Byte) : (s.sramWrite a l).lck = s.lck := rfl
@[simp] theorem State.sramWrite_ten (s : State) (a : Nat) (l : List Byte) : (s.sramWrite a l).ten = s.ten := rfl
@[simp] theorem State.sramWrite_asy (s : State) (a : Nat) (l : List Byte) : (s.sramWrite a l).asy = s.asy := rfl
@[simp] theorem State.sramWrite_ing (s : State) (a : Nat) (l : List Byte) : (s.sramWrite a l).ing = s.ing := rfl
@[simp] theorem State.sramWrite_flt (s : State) (a : Nat) (l : List Byte) : (s.sramWrite a l).flt = s.flt := rfl
@[simp] theorem State.sramWrite_i2c (s : State) (a : Nat) (l : List Byte) : (s.sramWrite a l).i2c = s.i2c := rfl
@[simp] theorem State.sramWrite_lux (s : State) (a : Nat) (l : List Byte) : (s.sramWrite a l).lux = s.lux := rfl
@[simp] theorem State.sramWrite_tlt (s : State) (a : Nat) (l : List Byte) : (s.sramWrite a l).tlt = s.tlt := rfl
@[simp] theorem State.sramWrite_sio (s : State) (a : Nat) (l : List Byte) : (s.sramWrite a l).sio = s.sio := rfl
@[simp] theorem State.sramWrite_tim (s : State) (a : Nat) (l : List Byte) : (s.sramWrite a l).tim = s.tim := rfl
@[simp] theorem State.sramWrite_sil (s : State) (a : Nat) (l : List Byte) : (s.sramWrite a l).sil = s.sil := rfl
@[simp] theorem State.sramWrite_ad (s : State) (a : Nat) (l : List Byte) : (s.sramWrite a l).ad = s.ad := rfl
@[simp] theorem State.sramWrite_pmu (s : State) (a : Nat) (l : List Byte) : (s.sramWrite a l).pmu = s.pmu := rfl
@[simp] theorem State.sramWrite_cpu (s : State) (a : Nat) (l : List Byte) : (s.sramWrite a l).cpu = s.cpu := rfl
@[simp] theorem State.sramWrite_thm (s : State) (a : Nat) (l : List Byte) : (s.sramWrite a l).thm = s.thm := rfl
@[simp] theorem State.sramWrite_qspi (s : State) (a : Nat) (l : List Byte) : (s.sramWrite a l).qspi = s.qspi := rfl
@[simp] theorem State.sramWrite_uart (s : State) (a : Nat) (l : List Byte) : (s.sramWrite a l).uart = s.uart := rfl
@[simp] theorem State.sramWrite_spi (s : State) (a : Nat) (l : List Byte) : (s.sramWrite a l).spi = s.spi := rfl
@[simp] theorem State.sramWrite_net (s : State) (a : Nat) (l : List Byte) : (s.sramWrite a l).net = s.net := rfl
@[simp] theorem State.sramWrite_crn (s : State) (a : Nat) (l : List Byte) : (s.sramWrite a l).crn = s.crn := rfl
@[simp] theorem State.sramWrite_pending (s : State) (a : Nat) (l : List Byte) : (s.sramWrite a l).pending = s.pending := rfl

/-! `dramWrite` writes `dram` alone. -/

@[simp] theorem State.dramWrite_now (s : State) (a : Nat) (l : List Byte) : (s.dramWrite a l).now = s.now := rfl
@[simp] theorem State.dramWrite_freeCtr (s : State) (a : Nat) (l : List Byte) : (s.dramWrite a l).freeCtr = s.freeCtr := rfl
@[simp] theorem State.dramWrite_resp (s : State) (a : Nat) (l : List Byte) : (s.dramWrite a l).resp = s.resp := rfl
@[simp] theorem State.dramWrite_regs (s : State) (a : Nat) (l : List Byte) : (s.dramWrite a l).regs = s.regs := rfl
@[simp] theorem State.dramWrite_flagAt (s : State) (a : Nat) (l : List Byte) : (s.dramWrite a l).flagAt = s.flagAt := rfl
@[simp] theorem State.dramWrite_timers (s : State) (a : Nat) (l : List Byte) : (s.dramWrite a l).timers = s.timers := rfl
@[simp] theorem State.dramWrite_sram (s : State) (a : Nat) (l : List Byte) : (s.dramWrite a l).sram = s.sram := rfl
@[simp] theorem State.dramWrite_flash (s : State) (a : Nat) (l : List Byte) : (s.dramWrite a l).flash = s.flash := rfl
@[simp] theorem State.dramWrite_otp (s : State) (a : Nat) (l : List Byte) : (s.dramWrite a l).otp = s.otp := rfl
@[simp] theorem State.dramWrite_rom (s : State) (a : Nat) (l : List Byte) : (s.dramWrite a l).rom = s.rom := rfl
@[simp] theorem State.dramWrite_shelf (s : State) (a : Nat) (l : List Byte) : (s.dramWrite a l).shelf = s.shelf := rfl
@[simp] theorem State.dramWrite_progs (s : State) (a : Nat) (l : List Byte) : (s.dramWrite a l).progs = s.progs := rfl
@[simp] theorem State.dramWrite_evl (s : State) (a : Nat) (l : List Byte) : (s.dramWrite a l).evl = s.evl := rfl
@[simp] theorem State.dramWrite_cil (s : State) (a : Nat) (l : List Byte) : (s.dramWrite a l).cil = s.cil := rfl
@[simp] theorem State.dramWrite_lck (s : State) (a : Nat) (l : List Byte) : (s.dramWrite a l).lck = s.lck := rfl
@[simp] theorem State.dramWrite_ten (s : State) (a : Nat) (l : List Byte) : (s.dramWrite a l).ten = s.ten := rfl
@[simp] theorem State.dramWrite_asy (s : State) (a : Nat) (l : List Byte) : (s.dramWrite a l).asy = s.asy := rfl
@[simp] theorem State.dramWrite_ing (s : State) (a : Nat) (l : List Byte) : (s.dramWrite a l).ing = s.ing := rfl
@[simp] theorem State.dramWrite_flt (s : State) (a : Nat) (l : List Byte) : (s.dramWrite a l).flt = s.flt := rfl
@[simp] theorem State.dramWrite_i2c (s : State) (a : Nat) (l : List Byte) : (s.dramWrite a l).i2c = s.i2c := rfl
@[simp] theorem State.dramWrite_lux (s : State) (a : Nat) (l : List Byte) : (s.dramWrite a l).lux = s.lux := rfl
@[simp] theorem State.dramWrite_tlt (s : State) (a : Nat) (l : List Byte) : (s.dramWrite a l).tlt = s.tlt := rfl
@[simp] theorem State.dramWrite_sio (s : State) (a : Nat) (l : List Byte) : (s.dramWrite a l).sio = s.sio := rfl
@[simp] theorem State.dramWrite_tim (s : State) (a : Nat) (l : List Byte) : (s.dramWrite a l).tim = s.tim := rfl
@[simp] theorem State.dramWrite_sil (s : State) (a : Nat) (l : List Byte) : (s.dramWrite a l).sil = s.sil := rfl
@[simp] theorem State.dramWrite_ad (s : State) (a : Nat) (l : List Byte) : (s.dramWrite a l).ad = s.ad := rfl
@[simp] theorem State.dramWrite_pmu (s : State) (a : Nat) (l : List Byte) : (s.dramWrite a l).pmu = s.pmu := rfl
@[simp] theorem State.dramWrite_cpu (s : State) (a : Nat) (l : List Byte) : (s.dramWrite a l).cpu = s.cpu := rfl
@[simp] theorem State.dramWrite_thm (s : State) (a : Nat) (l : List Byte) : (s.dramWrite a l).thm = s.thm := rfl
@[simp] theorem State.dramWrite_qspi (s : State) (a : Nat) (l : List Byte) : (s.dramWrite a l).qspi = s.qspi := rfl
@[simp] theorem State.dramWrite_uart (s : State) (a : Nat) (l : List Byte) : (s.dramWrite a l).uart = s.uart := rfl
@[simp] theorem State.dramWrite_spi (s : State) (a : Nat) (l : List Byte) : (s.dramWrite a l).spi = s.spi := rfl
@[simp] theorem State.dramWrite_net (s : State) (a : Nat) (l : List Byte) : (s.dramWrite a l).net = s.net := rfl
@[simp] theorem State.dramWrite_crn (s : State) (a : Nat) (l : List Byte) : (s.dramWrite a l).crn = s.crn := rfl
@[simp] theorem State.dramWrite_pending (s : State) (a : Nat) (l : List Byte) : (s.dramWrite a l).pending = s.pending := rfl

/-! `evlSet` writes `evl` alone. -/

@[simp] theorem State.evlSet_evl (s : State) (f : EvlState → EvlState) : (s.evlSet f).evl = f s.evl := rfl
@[simp] theorem State.evlSet_now (s : State) (f : EvlState → EvlState) : (s.evlSet f).now = s.now := rfl
@[simp] theorem State.evlSet_freeCtr (s : State) (f : EvlState → EvlState) : (s.evlSet f).freeCtr = s.freeCtr := rfl
@[simp] theorem State.evlSet_resp (s : State) (f : EvlState → EvlState) : (s.evlSet f).resp = s.resp := rfl
@[simp] theorem State.evlSet_regs (s : State) (f : EvlState → EvlState) : (s.evlSet f).regs = s.regs := rfl
@[simp] theorem State.evlSet_flagAt (s : State) (f : EvlState → EvlState) : (s.evlSet f).flagAt = s.flagAt := rfl
@[simp] theorem State.evlSet_timers (s : State) (f : EvlState → EvlState) : (s.evlSet f).timers = s.timers := rfl
@[simp] theorem State.evlSet_sram (s : State) (f : EvlState → EvlState) : (s.evlSet f).sram = s.sram := rfl
@[simp] theorem State.evlSet_flash (s : State) (f : EvlState → EvlState) : (s.evlSet f).flash = s.flash := rfl
@[simp] theorem State.evlSet_otp (s : State) (f : EvlState → EvlState) : (s.evlSet f).otp = s.otp := rfl
@[simp] theorem State.evlSet_rom (s : State) (f : EvlState → EvlState) : (s.evlSet f).rom = s.rom := rfl
@[simp] theorem State.evlSet_dram (s : State) (f : EvlState → EvlState) : (s.evlSet f).dram = s.dram := rfl
@[simp] theorem State.evlSet_shelf (s : State) (f : EvlState → EvlState) : (s.evlSet f).shelf = s.shelf := rfl
@[simp] theorem State.evlSet_progs (s : State) (f : EvlState → EvlState) : (s.evlSet f).progs = s.progs := rfl
@[simp] theorem State.evlSet_cil (s : State) (f : EvlState → EvlState) : (s.evlSet f).cil = s.cil := rfl
@[simp] theorem State.evlSet_lck (s : State) (f : EvlState → EvlState) : (s.evlSet f).lck = s.lck := rfl
@[simp] theorem State.evlSet_ten (s : State) (f : EvlState → EvlState) : (s.evlSet f).ten = s.ten := rfl
@[simp] theorem State.evlSet_asy (s : State) (f : EvlState → EvlState) : (s.evlSet f).asy = s.asy := rfl
@[simp] theorem State.evlSet_ing (s : State) (f : EvlState → EvlState) : (s.evlSet f).ing = s.ing := rfl
@[simp] theorem State.evlSet_flt (s : State) (f : EvlState → EvlState) : (s.evlSet f).flt = s.flt := rfl
@[simp] theorem State.evlSet_i2c (s : State) (f : EvlState → EvlState) : (s.evlSet f).i2c = s.i2c := rfl
@[simp] theorem State.evlSet_lux (s : State) (f : EvlState → EvlState) : (s.evlSet f).lux = s.lux := rfl
@[simp] theorem State.evlSet_tlt (s : State) (f : EvlState → EvlState) : (s.evlSet f).tlt = s.tlt := rfl
@[simp] theorem State.evlSet_sio (s : State) (f : EvlState → EvlState) : (s.evlSet f).sio = s.sio := rfl
@[simp] theorem State.evlSet_tim (s : State) (f : EvlState → EvlState) : (s.evlSet f).tim = s.tim := rfl
@[simp] theorem State.evlSet_sil (s : State) (f : EvlState → EvlState) : (s.evlSet f).sil = s.sil := rfl
@[simp] theorem State.evlSet_ad (s : State) (f : EvlState → EvlState) : (s.evlSet f).ad = s.ad := rfl
@[simp] theorem State.evlSet_pmu (s : State) (f : EvlState → EvlState) : (s.evlSet f).pmu = s.pmu := rfl
@[simp] theorem State.evlSet_cpu (s : State) (f : EvlState → EvlState) : (s.evlSet f).cpu = s.cpu := rfl
@[simp] theorem State.evlSet_thm (s : State) (f : EvlState → EvlState) : (s.evlSet f).thm = s.thm := rfl
@[simp] theorem State.evlSet_qspi (s : State) (f : EvlState → EvlState) : (s.evlSet f).qspi = s.qspi := rfl
@[simp] theorem State.evlSet_uart (s : State) (f : EvlState → EvlState) : (s.evlSet f).uart = s.uart := rfl
@[simp] theorem State.evlSet_spi (s : State) (f : EvlState → EvlState) : (s.evlSet f).spi = s.spi := rfl
@[simp] theorem State.evlSet_net (s : State) (f : EvlState → EvlState) : (s.evlSet f).net = s.net := rfl
@[simp] theorem State.evlSet_crn (s : State) (f : EvlState → EvlState) : (s.evlSet f).crn = s.crn := rfl
@[simp] theorem State.evlSet_pending (s : State) (f : EvlState → EvlState) : (s.evlSet f).pending = s.pending := rfl

/-! `silSet` writes `sil` alone. -/

@[simp] theorem State.silSet_sil (s : State) (f : SilState → SilState) : (s.silSet f).sil = f s.sil := rfl
@[simp] theorem State.silSet_now (s : State) (f : SilState → SilState) : (s.silSet f).now = s.now := rfl
@[simp] theorem State.silSet_freeCtr (s : State) (f : SilState → SilState) : (s.silSet f).freeCtr = s.freeCtr := rfl
@[simp] theorem State.silSet_resp (s : State) (f : SilState → SilState) : (s.silSet f).resp = s.resp := rfl
@[simp] theorem State.silSet_regs (s : State) (f : SilState → SilState) : (s.silSet f).regs = s.regs := rfl
@[simp] theorem State.silSet_flagAt (s : State) (f : SilState → SilState) : (s.silSet f).flagAt = s.flagAt := rfl
@[simp] theorem State.silSet_timers (s : State) (f : SilState → SilState) : (s.silSet f).timers = s.timers := rfl
@[simp] theorem State.silSet_sram (s : State) (f : SilState → SilState) : (s.silSet f).sram = s.sram := rfl
@[simp] theorem State.silSet_flash (s : State) (f : SilState → SilState) : (s.silSet f).flash = s.flash := rfl
@[simp] theorem State.silSet_otp (s : State) (f : SilState → SilState) : (s.silSet f).otp = s.otp := rfl
@[simp] theorem State.silSet_rom (s : State) (f : SilState → SilState) : (s.silSet f).rom = s.rom := rfl
@[simp] theorem State.silSet_dram (s : State) (f : SilState → SilState) : (s.silSet f).dram = s.dram := rfl
@[simp] theorem State.silSet_shelf (s : State) (f : SilState → SilState) : (s.silSet f).shelf = s.shelf := rfl
@[simp] theorem State.silSet_progs (s : State) (f : SilState → SilState) : (s.silSet f).progs = s.progs := rfl
@[simp] theorem State.silSet_evl (s : State) (f : SilState → SilState) : (s.silSet f).evl = s.evl := rfl
@[simp] theorem State.silSet_cil (s : State) (f : SilState → SilState) : (s.silSet f).cil = s.cil := rfl
@[simp] theorem State.silSet_lck (s : State) (f : SilState → SilState) : (s.silSet f).lck = s.lck := rfl
@[simp] theorem State.silSet_ten (s : State) (f : SilState → SilState) : (s.silSet f).ten = s.ten := rfl
@[simp] theorem State.silSet_asy (s : State) (f : SilState → SilState) : (s.silSet f).asy = s.asy := rfl
@[simp] theorem State.silSet_ing (s : State) (f : SilState → SilState) : (s.silSet f).ing = s.ing := rfl
@[simp] theorem State.silSet_flt (s : State) (f : SilState → SilState) : (s.silSet f).flt = s.flt := rfl
@[simp] theorem State.silSet_i2c (s : State) (f : SilState → SilState) : (s.silSet f).i2c = s.i2c := rfl
@[simp] theorem State.silSet_lux (s : State) (f : SilState → SilState) : (s.silSet f).lux = s.lux := rfl
@[simp] theorem State.silSet_tlt (s : State) (f : SilState → SilState) : (s.silSet f).tlt = s.tlt := rfl
@[simp] theorem State.silSet_sio (s : State) (f : SilState → SilState) : (s.silSet f).sio = s.sio := rfl
@[simp] theorem State.silSet_tim (s : State) (f : SilState → SilState) : (s.silSet f).tim = s.tim := rfl
@[simp] theorem State.silSet_ad (s : State) (f : SilState → SilState) : (s.silSet f).ad = s.ad := rfl
@[simp] theorem State.silSet_pmu (s : State) (f : SilState → SilState) : (s.silSet f).pmu = s.pmu := rfl
@[simp] theorem State.silSet_cpu (s : State) (f : SilState → SilState) : (s.silSet f).cpu = s.cpu := rfl
@[simp] theorem State.silSet_thm (s : State) (f : SilState → SilState) : (s.silSet f).thm = s.thm := rfl
@[simp] theorem State.silSet_qspi (s : State) (f : SilState → SilState) : (s.silSet f).qspi = s.qspi := rfl
@[simp] theorem State.silSet_uart (s : State) (f : SilState → SilState) : (s.silSet f).uart = s.uart := rfl
@[simp] theorem State.silSet_spi (s : State) (f : SilState → SilState) : (s.silSet f).spi = s.spi := rfl
@[simp] theorem State.silSet_net (s : State) (f : SilState → SilState) : (s.silSet f).net = s.net := rfl
@[simp] theorem State.silSet_crn (s : State) (f : SilState → SilState) : (s.silSet f).crn = s.crn := rfl
@[simp] theorem State.silSet_pending (s : State) (f : SilState → SilState) : (s.silSet f).pending = s.pending := rfl

/-! `adSet` writes `ad` alone. -/

@[simp] theorem State.adSet_ad (s : State) (f : AdState → AdState) : (s.adSet f).ad = f s.ad := rfl
@[simp] theorem State.adSet_now (s : State) (f : AdState → AdState) : (s.adSet f).now = s.now := rfl
@[simp] theorem State.adSet_freeCtr (s : State) (f : AdState → AdState) : (s.adSet f).freeCtr = s.freeCtr := rfl
@[simp] theorem State.adSet_resp (s : State) (f : AdState → AdState) : (s.adSet f).resp = s.resp := rfl
@[simp] theorem State.adSet_regs (s : State) (f : AdState → AdState) : (s.adSet f).regs = s.regs := rfl
@[simp] theorem State.adSet_flagAt (s : State) (f : AdState → AdState) : (s.adSet f).flagAt = s.flagAt := rfl
@[simp] theorem State.adSet_timers (s : State) (f : AdState → AdState) : (s.adSet f).timers = s.timers := rfl
@[simp] theorem State.adSet_sram (s : State) (f : AdState → AdState) : (s.adSet f).sram = s.sram := rfl
@[simp] theorem State.adSet_flash (s : State) (f : AdState → AdState) : (s.adSet f).flash = s.flash := rfl
@[simp] theorem State.adSet_otp (s : State) (f : AdState → AdState) : (s.adSet f).otp = s.otp := rfl
@[simp] theorem State.adSet_rom (s : State) (f : AdState → AdState) : (s.adSet f).rom = s.rom := rfl
@[simp] theorem State.adSet_dram (s : State) (f : AdState → AdState) : (s.adSet f).dram = s.dram := rfl
@[simp] theorem State.adSet_shelf (s : State) (f : AdState → AdState) : (s.adSet f).shelf = s.shelf := rfl
@[simp] theorem State.adSet_progs (s : State) (f : AdState → AdState) : (s.adSet f).progs = s.progs := rfl
@[simp] theorem State.adSet_evl (s : State) (f : AdState → AdState) : (s.adSet f).evl = s.evl := rfl
@[simp] theorem State.adSet_cil (s : State) (f : AdState → AdState) : (s.adSet f).cil = s.cil := rfl
@[simp] theorem State.adSet_lck (s : State) (f : AdState → AdState) : (s.adSet f).lck = s.lck := rfl
@[simp] theorem State.adSet_ten (s : State) (f : AdState → AdState) : (s.adSet f).ten = s.ten := rfl
@[simp] theorem State.adSet_asy (s : State) (f : AdState → AdState) : (s.adSet f).asy = s.asy := rfl
@[simp] theorem State.adSet_ing (s : State) (f : AdState → AdState) : (s.adSet f).ing = s.ing := rfl
@[simp] theorem State.adSet_flt (s : State) (f : AdState → AdState) : (s.adSet f).flt = s.flt := rfl
@[simp] theorem State.adSet_i2c (s : State) (f : AdState → AdState) : (s.adSet f).i2c = s.i2c := rfl
@[simp] theorem State.adSet_lux (s : State) (f : AdState → AdState) : (s.adSet f).lux = s.lux := rfl
@[simp] theorem State.adSet_tlt (s : State) (f : AdState → AdState) : (s.adSet f).tlt = s.tlt := rfl
@[simp] theorem State.adSet_sio (s : State) (f : AdState → AdState) : (s.adSet f).sio = s.sio := rfl
@[simp] theorem State.adSet_tim (s : State) (f : AdState → AdState) : (s.adSet f).tim = s.tim := rfl
@[simp] theorem State.adSet_sil (s : State) (f : AdState → AdState) : (s.adSet f).sil = s.sil := rfl
@[simp] theorem State.adSet_pmu (s : State) (f : AdState → AdState) : (s.adSet f).pmu = s.pmu := rfl
@[simp] theorem State.adSet_cpu (s : State) (f : AdState → AdState) : (s.adSet f).cpu = s.cpu := rfl
@[simp] theorem State.adSet_thm (s : State) (f : AdState → AdState) : (s.adSet f).thm = s.thm := rfl
@[simp] theorem State.adSet_qspi (s : State) (f : AdState → AdState) : (s.adSet f).qspi = s.qspi := rfl
@[simp] theorem State.adSet_uart (s : State) (f : AdState → AdState) : (s.adSet f).uart = s.uart := rfl
@[simp] theorem State.adSet_spi (s : State) (f : AdState → AdState) : (s.adSet f).spi = s.spi := rfl
@[simp] theorem State.adSet_net (s : State) (f : AdState → AdState) : (s.adSet f).net = s.net := rfl
@[simp] theorem State.adSet_crn (s : State) (f : AdState → AdState) : (s.adSet f).crn = s.crn := rfl
@[simp] theorem State.adSet_pending (s : State) (f : AdState → AdState) : (s.adSet f).pending = s.pending := rfl

/-! `pmuSet` writes `pmu` alone. -/

@[simp] theorem State.pmuSet_pmu (s : State) (f : PmuState → PmuState) : (s.pmuSet f).pmu = f s.pmu := rfl
@[simp] theorem State.pmuSet_now (s : State) (f : PmuState → PmuState) : (s.pmuSet f).now = s.now := rfl
@[simp] theorem State.pmuSet_freeCtr (s : State) (f : PmuState → PmuState) : (s.pmuSet f).freeCtr = s.freeCtr := rfl
@[simp] theorem State.pmuSet_resp (s : State) (f : PmuState → PmuState) : (s.pmuSet f).resp = s.resp := rfl
@[simp] theorem State.pmuSet_regs (s : State) (f : PmuState → PmuState) : (s.pmuSet f).regs = s.regs := rfl
@[simp] theorem State.pmuSet_flagAt (s : State) (f : PmuState → PmuState) : (s.pmuSet f).flagAt = s.flagAt := rfl
@[simp] theorem State.pmuSet_timers (s : State) (f : PmuState → PmuState) : (s.pmuSet f).timers = s.timers := rfl
@[simp] theorem State.pmuSet_sram (s : State) (f : PmuState → PmuState) : (s.pmuSet f).sram = s.sram := rfl
@[simp] theorem State.pmuSet_flash (s : State) (f : PmuState → PmuState) : (s.pmuSet f).flash = s.flash := rfl
@[simp] theorem State.pmuSet_otp (s : State) (f : PmuState → PmuState) : (s.pmuSet f).otp = s.otp := rfl
@[simp] theorem State.pmuSet_rom (s : State) (f : PmuState → PmuState) : (s.pmuSet f).rom = s.rom := rfl
@[simp] theorem State.pmuSet_dram (s : State) (f : PmuState → PmuState) : (s.pmuSet f).dram = s.dram := rfl
@[simp] theorem State.pmuSet_shelf (s : State) (f : PmuState → PmuState) : (s.pmuSet f).shelf = s.shelf := rfl
@[simp] theorem State.pmuSet_progs (s : State) (f : PmuState → PmuState) : (s.pmuSet f).progs = s.progs := rfl
@[simp] theorem State.pmuSet_evl (s : State) (f : PmuState → PmuState) : (s.pmuSet f).evl = s.evl := rfl
@[simp] theorem State.pmuSet_cil (s : State) (f : PmuState → PmuState) : (s.pmuSet f).cil = s.cil := rfl
@[simp] theorem State.pmuSet_lck (s : State) (f : PmuState → PmuState) : (s.pmuSet f).lck = s.lck := rfl
@[simp] theorem State.pmuSet_ten (s : State) (f : PmuState → PmuState) : (s.pmuSet f).ten = s.ten := rfl
@[simp] theorem State.pmuSet_asy (s : State) (f : PmuState → PmuState) : (s.pmuSet f).asy = s.asy := rfl
@[simp] theorem State.pmuSet_ing (s : State) (f : PmuState → PmuState) : (s.pmuSet f).ing = s.ing := rfl
@[simp] theorem State.pmuSet_flt (s : State) (f : PmuState → PmuState) : (s.pmuSet f).flt = s.flt := rfl
@[simp] theorem State.pmuSet_i2c (s : State) (f : PmuState → PmuState) : (s.pmuSet f).i2c = s.i2c := rfl
@[simp] theorem State.pmuSet_lux (s : State) (f : PmuState → PmuState) : (s.pmuSet f).lux = s.lux := rfl
@[simp] theorem State.pmuSet_tlt (s : State) (f : PmuState → PmuState) : (s.pmuSet f).tlt = s.tlt := rfl
@[simp] theorem State.pmuSet_sio (s : State) (f : PmuState → PmuState) : (s.pmuSet f).sio = s.sio := rfl
@[simp] theorem State.pmuSet_tim (s : State) (f : PmuState → PmuState) : (s.pmuSet f).tim = s.tim := rfl
@[simp] theorem State.pmuSet_sil (s : State) (f : PmuState → PmuState) : (s.pmuSet f).sil = s.sil := rfl
@[simp] theorem State.pmuSet_ad (s : State) (f : PmuState → PmuState) : (s.pmuSet f).ad = s.ad := rfl
@[simp] theorem State.pmuSet_cpu (s : State) (f : PmuState → PmuState) : (s.pmuSet f).cpu = s.cpu := rfl
@[simp] theorem State.pmuSet_thm (s : State) (f : PmuState → PmuState) : (s.pmuSet f).thm = s.thm := rfl
@[simp] theorem State.pmuSet_qspi (s : State) (f : PmuState → PmuState) : (s.pmuSet f).qspi = s.qspi := rfl
@[simp] theorem State.pmuSet_uart (s : State) (f : PmuState → PmuState) : (s.pmuSet f).uart = s.uart := rfl
@[simp] theorem State.pmuSet_spi (s : State) (f : PmuState → PmuState) : (s.pmuSet f).spi = s.spi := rfl
@[simp] theorem State.pmuSet_net (s : State) (f : PmuState → PmuState) : (s.pmuSet f).net = s.net := rfl
@[simp] theorem State.pmuSet_crn (s : State) (f : PmuState → PmuState) : (s.pmuSet f).crn = s.crn := rfl
@[simp] theorem State.pmuSet_pending (s : State) (f : PmuState → PmuState) : (s.pmuSet f).pending = s.pending := rfl

/-! `cpuSet` writes `cpu` alone. -/

@[simp] theorem State.cpuSet_cpu (s : State) (f : CpuState → CpuState) : (s.cpuSet f).cpu = f s.cpu := rfl
@[simp] theorem State.cpuSet_now (s : State) (f : CpuState → CpuState) : (s.cpuSet f).now = s.now := rfl
@[simp] theorem State.cpuSet_freeCtr (s : State) (f : CpuState → CpuState) : (s.cpuSet f).freeCtr = s.freeCtr := rfl
@[simp] theorem State.cpuSet_resp (s : State) (f : CpuState → CpuState) : (s.cpuSet f).resp = s.resp := rfl
@[simp] theorem State.cpuSet_regs (s : State) (f : CpuState → CpuState) : (s.cpuSet f).regs = s.regs := rfl
@[simp] theorem State.cpuSet_flagAt (s : State) (f : CpuState → CpuState) : (s.cpuSet f).flagAt = s.flagAt := rfl
@[simp] theorem State.cpuSet_timers (s : State) (f : CpuState → CpuState) : (s.cpuSet f).timers = s.timers := rfl
@[simp] theorem State.cpuSet_sram (s : State) (f : CpuState → CpuState) : (s.cpuSet f).sram = s.sram := rfl
@[simp] theorem State.cpuSet_flash (s : State) (f : CpuState → CpuState) : (s.cpuSet f).flash = s.flash := rfl
@[simp] theorem State.cpuSet_otp (s : State) (f : CpuState → CpuState) : (s.cpuSet f).otp = s.otp := rfl
@[simp] theorem State.cpuSet_rom (s : State) (f : CpuState → CpuState) : (s.cpuSet f).rom = s.rom := rfl
@[simp] theorem State.cpuSet_dram (s : State) (f : CpuState → CpuState) : (s.cpuSet f).dram = s.dram := rfl
@[simp] theorem State.cpuSet_shelf (s : State) (f : CpuState → CpuState) : (s.cpuSet f).shelf = s.shelf := rfl
@[simp] theorem State.cpuSet_progs (s : State) (f : CpuState → CpuState) : (s.cpuSet f).progs = s.progs := rfl
@[simp] theorem State.cpuSet_evl (s : State) (f : CpuState → CpuState) : (s.cpuSet f).evl = s.evl := rfl
@[simp] theorem State.cpuSet_cil (s : State) (f : CpuState → CpuState) : (s.cpuSet f).cil = s.cil := rfl
@[simp] theorem State.cpuSet_lck (s : State) (f : CpuState → CpuState) : (s.cpuSet f).lck = s.lck := rfl
@[simp] theorem State.cpuSet_ten (s : State) (f : CpuState → CpuState) : (s.cpuSet f).ten = s.ten := rfl
@[simp] theorem State.cpuSet_asy (s : State) (f : CpuState → CpuState) : (s.cpuSet f).asy = s.asy := rfl
@[simp] theorem State.cpuSet_ing (s : State) (f : CpuState → CpuState) : (s.cpuSet f).ing = s.ing := rfl
@[simp] theorem State.cpuSet_flt (s : State) (f : CpuState → CpuState) : (s.cpuSet f).flt = s.flt := rfl
@[simp] theorem State.cpuSet_i2c (s : State) (f : CpuState → CpuState) : (s.cpuSet f).i2c = s.i2c := rfl
@[simp] theorem State.cpuSet_lux (s : State) (f : CpuState → CpuState) : (s.cpuSet f).lux = s.lux := rfl
@[simp] theorem State.cpuSet_tlt (s : State) (f : CpuState → CpuState) : (s.cpuSet f).tlt = s.tlt := rfl
@[simp] theorem State.cpuSet_sio (s : State) (f : CpuState → CpuState) : (s.cpuSet f).sio = s.sio := rfl
@[simp] theorem State.cpuSet_tim (s : State) (f : CpuState → CpuState) : (s.cpuSet f).tim = s.tim := rfl
@[simp] theorem State.cpuSet_sil (s : State) (f : CpuState → CpuState) : (s.cpuSet f).sil = s.sil := rfl
@[simp] theorem State.cpuSet_ad (s : State) (f : CpuState → CpuState) : (s.cpuSet f).ad = s.ad := rfl
@[simp] theorem State.cpuSet_pmu (s : State) (f : CpuState → CpuState) : (s.cpuSet f).pmu = s.pmu := rfl
@[simp] theorem State.cpuSet_thm (s : State) (f : CpuState → CpuState) : (s.cpuSet f).thm = s.thm := rfl
@[simp] theorem State.cpuSet_qspi (s : State) (f : CpuState → CpuState) : (s.cpuSet f).qspi = s.qspi := rfl
@[simp] theorem State.cpuSet_uart (s : State) (f : CpuState → CpuState) : (s.cpuSet f).uart = s.uart := rfl
@[simp] theorem State.cpuSet_spi (s : State) (f : CpuState → CpuState) : (s.cpuSet f).spi = s.spi := rfl
@[simp] theorem State.cpuSet_net (s : State) (f : CpuState → CpuState) : (s.cpuSet f).net = s.net := rfl
@[simp] theorem State.cpuSet_crn (s : State) (f : CpuState → CpuState) : (s.cpuSet f).crn = s.crn := rfl
@[simp] theorem State.cpuSet_pending (s : State) (f : CpuState → CpuState) : (s.cpuSet f).pending = s.pending := rfl

/-! `asySet` writes `asy` alone. -/

@[simp] theorem State.asySet_asy (s : State) (f : AsyState → AsyState) : (s.asySet f).asy = f s.asy := rfl
@[simp] theorem State.asySet_now (s : State) (f : AsyState → AsyState) : (s.asySet f).now = s.now := rfl
@[simp] theorem State.asySet_freeCtr (s : State) (f : AsyState → AsyState) : (s.asySet f).freeCtr = s.freeCtr := rfl
@[simp] theorem State.asySet_resp (s : State) (f : AsyState → AsyState) : (s.asySet f).resp = s.resp := rfl
@[simp] theorem State.asySet_regs (s : State) (f : AsyState → AsyState) : (s.asySet f).regs = s.regs := rfl
@[simp] theorem State.asySet_flagAt (s : State) (f : AsyState → AsyState) : (s.asySet f).flagAt = s.flagAt := rfl
@[simp] theorem State.asySet_timers (s : State) (f : AsyState → AsyState) : (s.asySet f).timers = s.timers := rfl
@[simp] theorem State.asySet_sram (s : State) (f : AsyState → AsyState) : (s.asySet f).sram = s.sram := rfl
@[simp] theorem State.asySet_flash (s : State) (f : AsyState → AsyState) : (s.asySet f).flash = s.flash := rfl
@[simp] theorem State.asySet_otp (s : State) (f : AsyState → AsyState) : (s.asySet f).otp = s.otp := rfl
@[simp] theorem State.asySet_rom (s : State) (f : AsyState → AsyState) : (s.asySet f).rom = s.rom := rfl
@[simp] theorem State.asySet_dram (s : State) (f : AsyState → AsyState) : (s.asySet f).dram = s.dram := rfl
@[simp] theorem State.asySet_shelf (s : State) (f : AsyState → AsyState) : (s.asySet f).shelf = s.shelf := rfl
@[simp] theorem State.asySet_progs (s : State) (f : AsyState → AsyState) : (s.asySet f).progs = s.progs := rfl
@[simp] theorem State.asySet_evl (s : State) (f : AsyState → AsyState) : (s.asySet f).evl = s.evl := rfl
@[simp] theorem State.asySet_cil (s : State) (f : AsyState → AsyState) : (s.asySet f).cil = s.cil := rfl
@[simp] theorem State.asySet_lck (s : State) (f : AsyState → AsyState) : (s.asySet f).lck = s.lck := rfl
@[simp] theorem State.asySet_ten (s : State) (f : AsyState → AsyState) : (s.asySet f).ten = s.ten := rfl
@[simp] theorem State.asySet_ing (s : State) (f : AsyState → AsyState) : (s.asySet f).ing = s.ing := rfl
@[simp] theorem State.asySet_flt (s : State) (f : AsyState → AsyState) : (s.asySet f).flt = s.flt := rfl
@[simp] theorem State.asySet_i2c (s : State) (f : AsyState → AsyState) : (s.asySet f).i2c = s.i2c := rfl
@[simp] theorem State.asySet_lux (s : State) (f : AsyState → AsyState) : (s.asySet f).lux = s.lux := rfl
@[simp] theorem State.asySet_tlt (s : State) (f : AsyState → AsyState) : (s.asySet f).tlt = s.tlt := rfl
@[simp] theorem State.asySet_sio (s : State) (f : AsyState → AsyState) : (s.asySet f).sio = s.sio := rfl
@[simp] theorem State.asySet_tim (s : State) (f : AsyState → AsyState) : (s.asySet f).tim = s.tim := rfl
@[simp] theorem State.asySet_sil (s : State) (f : AsyState → AsyState) : (s.asySet f).sil = s.sil := rfl
@[simp] theorem State.asySet_ad (s : State) (f : AsyState → AsyState) : (s.asySet f).ad = s.ad := rfl
@[simp] theorem State.asySet_pmu (s : State) (f : AsyState → AsyState) : (s.asySet f).pmu = s.pmu := rfl
@[simp] theorem State.asySet_cpu (s : State) (f : AsyState → AsyState) : (s.asySet f).cpu = s.cpu := rfl
@[simp] theorem State.asySet_thm (s : State) (f : AsyState → AsyState) : (s.asySet f).thm = s.thm := rfl
@[simp] theorem State.asySet_qspi (s : State) (f : AsyState → AsyState) : (s.asySet f).qspi = s.qspi := rfl
@[simp] theorem State.asySet_uart (s : State) (f : AsyState → AsyState) : (s.asySet f).uart = s.uart := rfl
@[simp] theorem State.asySet_spi (s : State) (f : AsyState → AsyState) : (s.asySet f).spi = s.spi := rfl
@[simp] theorem State.asySet_net (s : State) (f : AsyState → AsyState) : (s.asySet f).net = s.net := rfl
@[simp] theorem State.asySet_crn (s : State) (f : AsyState → AsyState) : (s.asySet f).crn = s.crn := rfl
@[simp] theorem State.asySet_pending (s : State) (f : AsyState → AsyState) : (s.asySet f).pending = s.pending := rfl

/-! `netSet` writes `net` alone. -/

@[simp] theorem State.netSet_net (s : State) (f : NetState → NetState) : (s.netSet f).net = f s.net := rfl
@[simp] theorem State.netSet_now (s : State) (f : NetState → NetState) : (s.netSet f).now = s.now := rfl
@[simp] theorem State.netSet_freeCtr (s : State) (f : NetState → NetState) : (s.netSet f).freeCtr = s.freeCtr := rfl
@[simp] theorem State.netSet_resp (s : State) (f : NetState → NetState) : (s.netSet f).resp = s.resp := rfl
@[simp] theorem State.netSet_regs (s : State) (f : NetState → NetState) : (s.netSet f).regs = s.regs := rfl
@[simp] theorem State.netSet_flagAt (s : State) (f : NetState → NetState) : (s.netSet f).flagAt = s.flagAt := rfl
@[simp] theorem State.netSet_timers (s : State) (f : NetState → NetState) : (s.netSet f).timers = s.timers := rfl
@[simp] theorem State.netSet_sram (s : State) (f : NetState → NetState) : (s.netSet f).sram = s.sram := rfl
@[simp] theorem State.netSet_flash (s : State) (f : NetState → NetState) : (s.netSet f).flash = s.flash := rfl
@[simp] theorem State.netSet_otp (s : State) (f : NetState → NetState) : (s.netSet f).otp = s.otp := rfl
@[simp] theorem State.netSet_rom (s : State) (f : NetState → NetState) : (s.netSet f).rom = s.rom := rfl
@[simp] theorem State.netSet_dram (s : State) (f : NetState → NetState) : (s.netSet f).dram = s.dram := rfl
@[simp] theorem State.netSet_shelf (s : State) (f : NetState → NetState) : (s.netSet f).shelf = s.shelf := rfl
@[simp] theorem State.netSet_progs (s : State) (f : NetState → NetState) : (s.netSet f).progs = s.progs := rfl
@[simp] theorem State.netSet_evl (s : State) (f : NetState → NetState) : (s.netSet f).evl = s.evl := rfl
@[simp] theorem State.netSet_cil (s : State) (f : NetState → NetState) : (s.netSet f).cil = s.cil := rfl
@[simp] theorem State.netSet_lck (s : State) (f : NetState → NetState) : (s.netSet f).lck = s.lck := rfl
@[simp] theorem State.netSet_ten (s : State) (f : NetState → NetState) : (s.netSet f).ten = s.ten := rfl
@[simp] theorem State.netSet_asy (s : State) (f : NetState → NetState) : (s.netSet f).asy = s.asy := rfl
@[simp] theorem State.netSet_ing (s : State) (f : NetState → NetState) : (s.netSet f).ing = s.ing := rfl
@[simp] theorem State.netSet_flt (s : State) (f : NetState → NetState) : (s.netSet f).flt = s.flt := rfl
@[simp] theorem State.netSet_i2c (s : State) (f : NetState → NetState) : (s.netSet f).i2c = s.i2c := rfl
@[simp] theorem State.netSet_lux (s : State) (f : NetState → NetState) : (s.netSet f).lux = s.lux := rfl
@[simp] theorem State.netSet_tlt (s : State) (f : NetState → NetState) : (s.netSet f).tlt = s.tlt := rfl
@[simp] theorem State.netSet_sio (s : State) (f : NetState → NetState) : (s.netSet f).sio = s.sio := rfl
@[simp] theorem State.netSet_tim (s : State) (f : NetState → NetState) : (s.netSet f).tim = s.tim := rfl
@[simp] theorem State.netSet_sil (s : State) (f : NetState → NetState) : (s.netSet f).sil = s.sil := rfl
@[simp] theorem State.netSet_ad (s : State) (f : NetState → NetState) : (s.netSet f).ad = s.ad := rfl
@[simp] theorem State.netSet_pmu (s : State) (f : NetState → NetState) : (s.netSet f).pmu = s.pmu := rfl
@[simp] theorem State.netSet_cpu (s : State) (f : NetState → NetState) : (s.netSet f).cpu = s.cpu := rfl
@[simp] theorem State.netSet_thm (s : State) (f : NetState → NetState) : (s.netSet f).thm = s.thm := rfl
@[simp] theorem State.netSet_qspi (s : State) (f : NetState → NetState) : (s.netSet f).qspi = s.qspi := rfl
@[simp] theorem State.netSet_uart (s : State) (f : NetState → NetState) : (s.netSet f).uart = s.uart := rfl
@[simp] theorem State.netSet_spi (s : State) (f : NetState → NetState) : (s.netSet f).spi = s.spi := rfl
@[simp] theorem State.netSet_crn (s : State) (f : NetState → NetState) : (s.netSet f).crn = s.crn := rfl
@[simp] theorem State.netSet_pending (s : State) (f : NetState → NetState) : (s.netSet f).pending = s.pending := rfl

/-! `crnSet` writes `crn` alone. -/

@[simp] theorem State.crnSet_crn (s : State) (f : CrnState → CrnState) : (s.crnSet f).crn = f s.crn := rfl
@[simp] theorem State.crnSet_now (s : State) (f : CrnState → CrnState) : (s.crnSet f).now = s.now := rfl
@[simp] theorem State.crnSet_freeCtr (s : State) (f : CrnState → CrnState) : (s.crnSet f).freeCtr = s.freeCtr := rfl
@[simp] theorem State.crnSet_resp (s : State) (f : CrnState → CrnState) : (s.crnSet f).resp = s.resp := rfl
@[simp] theorem State.crnSet_regs (s : State) (f : CrnState → CrnState) : (s.crnSet f).regs = s.regs := rfl
@[simp] theorem State.crnSet_flagAt (s : State) (f : CrnState → CrnState) : (s.crnSet f).flagAt = s.flagAt := rfl
@[simp] theorem State.crnSet_timers (s : State) (f : CrnState → CrnState) : (s.crnSet f).timers = s.timers := rfl
@[simp] theorem State.crnSet_sram (s : State) (f : CrnState → CrnState) : (s.crnSet f).sram = s.sram := rfl
@[simp] theorem State.crnSet_flash (s : State) (f : CrnState → CrnState) : (s.crnSet f).flash = s.flash := rfl
@[simp] theorem State.crnSet_otp (s : State) (f : CrnState → CrnState) : (s.crnSet f).otp = s.otp := rfl
@[simp] theorem State.crnSet_rom (s : State) (f : CrnState → CrnState) : (s.crnSet f).rom = s.rom := rfl
@[simp] theorem State.crnSet_dram (s : State) (f : CrnState → CrnState) : (s.crnSet f).dram = s.dram := rfl
@[simp] theorem State.crnSet_shelf (s : State) (f : CrnState → CrnState) : (s.crnSet f).shelf = s.shelf := rfl
@[simp] theorem State.crnSet_progs (s : State) (f : CrnState → CrnState) : (s.crnSet f).progs = s.progs := rfl
@[simp] theorem State.crnSet_evl (s : State) (f : CrnState → CrnState) : (s.crnSet f).evl = s.evl := rfl
@[simp] theorem State.crnSet_cil (s : State) (f : CrnState → CrnState) : (s.crnSet f).cil = s.cil := rfl
@[simp] theorem State.crnSet_lck (s : State) (f : CrnState → CrnState) : (s.crnSet f).lck = s.lck := rfl
@[simp] theorem State.crnSet_ten (s : State) (f : CrnState → CrnState) : (s.crnSet f).ten = s.ten := rfl
@[simp] theorem State.crnSet_asy (s : State) (f : CrnState → CrnState) : (s.crnSet f).asy = s.asy := rfl
@[simp] theorem State.crnSet_ing (s : State) (f : CrnState → CrnState) : (s.crnSet f).ing = s.ing := rfl
@[simp] theorem State.crnSet_flt (s : State) (f : CrnState → CrnState) : (s.crnSet f).flt = s.flt := rfl
@[simp] theorem State.crnSet_i2c (s : State) (f : CrnState → CrnState) : (s.crnSet f).i2c = s.i2c := rfl
@[simp] theorem State.crnSet_lux (s : State) (f : CrnState → CrnState) : (s.crnSet f).lux = s.lux := rfl
@[simp] theorem State.crnSet_tlt (s : State) (f : CrnState → CrnState) : (s.crnSet f).tlt = s.tlt := rfl
@[simp] theorem State.crnSet_sio (s : State) (f : CrnState → CrnState) : (s.crnSet f).sio = s.sio := rfl
@[simp] theorem State.crnSet_tim (s : State) (f : CrnState → CrnState) : (s.crnSet f).tim = s.tim := rfl
@[simp] theorem State.crnSet_sil (s : State) (f : CrnState → CrnState) : (s.crnSet f).sil = s.sil := rfl
@[simp] theorem State.crnSet_ad (s : State) (f : CrnState → CrnState) : (s.crnSet f).ad = s.ad := rfl
@[simp] theorem State.crnSet_pmu (s : State) (f : CrnState → CrnState) : (s.crnSet f).pmu = s.pmu := rfl
@[simp] theorem State.crnSet_cpu (s : State) (f : CrnState → CrnState) : (s.crnSet f).cpu = s.cpu := rfl
@[simp] theorem State.crnSet_thm (s : State) (f : CrnState → CrnState) : (s.crnSet f).thm = s.thm := rfl
@[simp] theorem State.crnSet_qspi (s : State) (f : CrnState → CrnState) : (s.crnSet f).qspi = s.qspi := rfl
@[simp] theorem State.crnSet_uart (s : State) (f : CrnState → CrnState) : (s.crnSet f).uart = s.uart := rfl
@[simp] theorem State.crnSet_spi (s : State) (f : CrnState → CrnState) : (s.crnSet f).spi = s.spi := rfl
@[simp] theorem State.crnSet_net (s : State) (f : CrnState → CrnState) : (s.crnSet f).net = s.net := rfl
@[simp] theorem State.crnSet_pending (s : State) (f : CrnState → CrnState) : (s.crnSet f).pending = s.pending := rfl

/-! `timSet` writes `tim` alone. -/

@[simp] theorem State.timSet_tim (s : State) (f : TimState → TimState) : (s.timSet f).tim = f s.tim := rfl
@[simp] theorem State.timSet_now (s : State) (f : TimState → TimState) : (s.timSet f).now = s.now := rfl
@[simp] theorem State.timSet_freeCtr (s : State) (f : TimState → TimState) : (s.timSet f).freeCtr = s.freeCtr := rfl
@[simp] theorem State.timSet_resp (s : State) (f : TimState → TimState) : (s.timSet f).resp = s.resp := rfl
@[simp] theorem State.timSet_regs (s : State) (f : TimState → TimState) : (s.timSet f).regs = s.regs := rfl
@[simp] theorem State.timSet_flagAt (s : State) (f : TimState → TimState) : (s.timSet f).flagAt = s.flagAt := rfl
@[simp] theorem State.timSet_timers (s : State) (f : TimState → TimState) : (s.timSet f).timers = s.timers := rfl
@[simp] theorem State.timSet_sram (s : State) (f : TimState → TimState) : (s.timSet f).sram = s.sram := rfl
@[simp] theorem State.timSet_flash (s : State) (f : TimState → TimState) : (s.timSet f).flash = s.flash := rfl
@[simp] theorem State.timSet_otp (s : State) (f : TimState → TimState) : (s.timSet f).otp = s.otp := rfl
@[simp] theorem State.timSet_rom (s : State) (f : TimState → TimState) : (s.timSet f).rom = s.rom := rfl
@[simp] theorem State.timSet_dram (s : State) (f : TimState → TimState) : (s.timSet f).dram = s.dram := rfl
@[simp] theorem State.timSet_shelf (s : State) (f : TimState → TimState) : (s.timSet f).shelf = s.shelf := rfl
@[simp] theorem State.timSet_progs (s : State) (f : TimState → TimState) : (s.timSet f).progs = s.progs := rfl
@[simp] theorem State.timSet_evl (s : State) (f : TimState → TimState) : (s.timSet f).evl = s.evl := rfl
@[simp] theorem State.timSet_cil (s : State) (f : TimState → TimState) : (s.timSet f).cil = s.cil := rfl
@[simp] theorem State.timSet_lck (s : State) (f : TimState → TimState) : (s.timSet f).lck = s.lck := rfl
@[simp] theorem State.timSet_ten (s : State) (f : TimState → TimState) : (s.timSet f).ten = s.ten := rfl
@[simp] theorem State.timSet_asy (s : State) (f : TimState → TimState) : (s.timSet f).asy = s.asy := rfl
@[simp] theorem State.timSet_ing (s : State) (f : TimState → TimState) : (s.timSet f).ing = s.ing := rfl
@[simp] theorem State.timSet_flt (s : State) (f : TimState → TimState) : (s.timSet f).flt = s.flt := rfl
@[simp] theorem State.timSet_i2c (s : State) (f : TimState → TimState) : (s.timSet f).i2c = s.i2c := rfl
@[simp] theorem State.timSet_lux (s : State) (f : TimState → TimState) : (s.timSet f).lux = s.lux := rfl
@[simp] theorem State.timSet_tlt (s : State) (f : TimState → TimState) : (s.timSet f).tlt = s.tlt := rfl
@[simp] theorem State.timSet_sio (s : State) (f : TimState → TimState) : (s.timSet f).sio = s.sio := rfl
@[simp] theorem State.timSet_sil (s : State) (f : TimState → TimState) : (s.timSet f).sil = s.sil := rfl
@[simp] theorem State.timSet_ad (s : State) (f : TimState → TimState) : (s.timSet f).ad = s.ad := rfl
@[simp] theorem State.timSet_pmu (s : State) (f : TimState → TimState) : (s.timSet f).pmu = s.pmu := rfl
@[simp] theorem State.timSet_cpu (s : State) (f : TimState → TimState) : (s.timSet f).cpu = s.cpu := rfl
@[simp] theorem State.timSet_thm (s : State) (f : TimState → TimState) : (s.timSet f).thm = s.thm := rfl
@[simp] theorem State.timSet_qspi (s : State) (f : TimState → TimState) : (s.timSet f).qspi = s.qspi := rfl
@[simp] theorem State.timSet_uart (s : State) (f : TimState → TimState) : (s.timSet f).uart = s.uart := rfl
@[simp] theorem State.timSet_spi (s : State) (f : TimState → TimState) : (s.timSet f).spi = s.spi := rfl
@[simp] theorem State.timSet_net (s : State) (f : TimState → TimState) : (s.timSet f).net = s.net := rfl
@[simp] theorem State.timSet_crn (s : State) (f : TimState → TimState) : (s.timSet f).crn = s.crn := rfl
@[simp] theorem State.timSet_pending (s : State) (f : TimState → TimState) : (s.timSet f).pending = s.pending := rfl

/-! `thmSet` writes `thm` alone. -/

@[simp] theorem State.thmSet_thm (s : State) (f : ThmState → ThmState) : (s.thmSet f).thm = f s.thm := rfl
@[simp] theorem State.thmSet_now (s : State) (f : ThmState → ThmState) : (s.thmSet f).now = s.now := rfl
@[simp] theorem State.thmSet_freeCtr (s : State) (f : ThmState → ThmState) : (s.thmSet f).freeCtr = s.freeCtr := rfl
@[simp] theorem State.thmSet_resp (s : State) (f : ThmState → ThmState) : (s.thmSet f).resp = s.resp := rfl
@[simp] theorem State.thmSet_regs (s : State) (f : ThmState → ThmState) : (s.thmSet f).regs = s.regs := rfl
@[simp] theorem State.thmSet_flagAt (s : State) (f : ThmState → ThmState) : (s.thmSet f).flagAt = s.flagAt := rfl
@[simp] theorem State.thmSet_timers (s : State) (f : ThmState → ThmState) : (s.thmSet f).timers = s.timers := rfl
@[simp] theorem State.thmSet_sram (s : State) (f : ThmState → ThmState) : (s.thmSet f).sram = s.sram := rfl
@[simp] theorem State.thmSet_flash (s : State) (f : ThmState → ThmState) : (s.thmSet f).flash = s.flash := rfl
@[simp] theorem State.thmSet_otp (s : State) (f : ThmState → ThmState) : (s.thmSet f).otp = s.otp := rfl
@[simp] theorem State.thmSet_rom (s : State) (f : ThmState → ThmState) : (s.thmSet f).rom = s.rom := rfl
@[simp] theorem State.thmSet_dram (s : State) (f : ThmState → ThmState) : (s.thmSet f).dram = s.dram := rfl
@[simp] theorem State.thmSet_shelf (s : State) (f : ThmState → ThmState) : (s.thmSet f).shelf = s.shelf := rfl
@[simp] theorem State.thmSet_progs (s : State) (f : ThmState → ThmState) : (s.thmSet f).progs = s.progs := rfl
@[simp] theorem State.thmSet_evl (s : State) (f : ThmState → ThmState) : (s.thmSet f).evl = s.evl := rfl
@[simp] theorem State.thmSet_cil (s : State) (f : ThmState → ThmState) : (s.thmSet f).cil = s.cil := rfl
@[simp] theorem State.thmSet_lck (s : State) (f : ThmState → ThmState) : (s.thmSet f).lck = s.lck := rfl
@[simp] theorem State.thmSet_ten (s : State) (f : ThmState → ThmState) : (s.thmSet f).ten = s.ten := rfl
@[simp] theorem State.thmSet_asy (s : State) (f : ThmState → ThmState) : (s.thmSet f).asy = s.asy := rfl
@[simp] theorem State.thmSet_ing (s : State) (f : ThmState → ThmState) : (s.thmSet f).ing = s.ing := rfl
@[simp] theorem State.thmSet_flt (s : State) (f : ThmState → ThmState) : (s.thmSet f).flt = s.flt := rfl
@[simp] theorem State.thmSet_i2c (s : State) (f : ThmState → ThmState) : (s.thmSet f).i2c = s.i2c := rfl
@[simp] theorem State.thmSet_lux (s : State) (f : ThmState → ThmState) : (s.thmSet f).lux = s.lux := rfl
@[simp] theorem State.thmSet_tlt (s : State) (f : ThmState → ThmState) : (s.thmSet f).tlt = s.tlt := rfl
@[simp] theorem State.thmSet_sio (s : State) (f : ThmState → ThmState) : (s.thmSet f).sio = s.sio := rfl
@[simp] theorem State.thmSet_tim (s : State) (f : ThmState → ThmState) : (s.thmSet f).tim = s.tim := rfl
@[simp] theorem State.thmSet_sil (s : State) (f : ThmState → ThmState) : (s.thmSet f).sil = s.sil := rfl
@[simp] theorem State.thmSet_ad (s : State) (f : ThmState → ThmState) : (s.thmSet f).ad = s.ad := rfl
@[simp] theorem State.thmSet_pmu (s : State) (f : ThmState → ThmState) : (s.thmSet f).pmu = s.pmu := rfl
@[simp] theorem State.thmSet_cpu (s : State) (f : ThmState → ThmState) : (s.thmSet f).cpu = s.cpu := rfl
@[simp] theorem State.thmSet_qspi (s : State) (f : ThmState → ThmState) : (s.thmSet f).qspi = s.qspi := rfl
@[simp] theorem State.thmSet_uart (s : State) (f : ThmState → ThmState) : (s.thmSet f).uart = s.uart := rfl
@[simp] theorem State.thmSet_spi (s : State) (f : ThmState → ThmState) : (s.thmSet f).spi = s.spi := rfl
@[simp] theorem State.thmSet_net (s : State) (f : ThmState → ThmState) : (s.thmSet f).net = s.net := rfl
@[simp] theorem State.thmSet_crn (s : State) (f : ThmState → ThmState) : (s.thmSet f).crn = s.crn := rfl
@[simp] theorem State.thmSet_pending (s : State) (f : ThmState → ThmState) : (s.thmSet f).pending = s.pending := rfl

end Sys2Proof.Machine
end

