-- ==== Sys2Proof/Laws/Events.lean ====
section
/-! SUPPORT. What raising an event can do: it changes EVL's own part and EVL's registers, and nothing else (R586, R587, R599). -/

namespace Sys2Proof.Machine

/-- `t` is `s` but for EVL's part and for registers inside EVL's block. -/
structure OnlyEvl (s t : State) : Prop where
  rest : ∃ r g e, t = { s with regs := r, flagAt := g, evl := e }
  regs : ∀ f : Fld, f.key / 32 / 65536 ≠ 0x400F → t.getF f = s.getF f

theorem OnlyEvl.refl (s : State) : OnlyEvl s s := ⟨⟨s.regs, s.flagAt, s.evl, rfl⟩, fun _ _ => rfl⟩

theorem OnlyEvl.trans {s t u : State} (h : OnlyEvl s t) (k : OnlyEvl t u) : OnlyEvl s u := by
  obtain ⟨⟨r, g, e, rfl⟩, h2⟩ := h
  obtain ⟨⟨r', g', e', rfl⟩, k2⟩ := k
  exact ⟨⟨r', g', e', rfl⟩, fun f hf => (k2 f hf).trans (h2 f hf)⟩

theorem OnlyEvl.evl (s : State) (e : EvlState) : OnlyEvl s { s with evl := e } := ⟨⟨s.regs, s.flagAt, e, rfl⟩, fun _ _ => rfl⟩

theorem OnlyEvl.setF (s : State) (f : Fld) (v : Nat) (h : f.key / 32 / 65536 = 0x400F) : OnlyEvl s (s.setF f v) :=
  ⟨⟨_, s.flagAt, s.evl, rfl⟩, fun g hg => State.getF_setF_ne s f g v fun e => hg (e ▸ h)⟩

theorem OnlyEvl.flagBits (s : State) (f : Fld) (b : Nat) (h : f.key / 32 / 65536 = 0x400F) : OnlyEvl s (s.flagBits f b) :=
  ⟨⟨_, _, s.evl, rfl⟩, fun g hg => State.getF_flagBits_ne s f g b fun e => hg (e ▸ h)⟩

theorem OnlyEvl.changeRc (s : State) (f : Fld) (v : Nat) (h : f.key / 32 / 65536 = 0x400F) : OnlyEvl s (s.changeRc f v) :=
  ⟨⟨_, _, s.evl, rfl⟩, fun g hg => State.getF_setF_ne s f g v fun e => hg (e ▸ h)⟩

theorem OnlyEvl.cond {c : Prop} {inst : Decidable c} {s a b : State} (ha : OnlyEvl s a) (hb : OnlyEvl s b) :
    OnlyEvl s (@ite _ c inst a b) := by split <;> assumption

theorem OnlyEvl.foldl {α : Type} {s t : State} {f : State → α → State} {l : List α} (h : OnlyEvl s t) (hf : ∀ x a, OnlyEvl x (f x a)) :
    OnlyEvl s (l.foldl f t) := by
  induction l generalizing t with
  | nil => exact h
  | cons a l ih => exact ih (h.trans (hf t a))

theorem State.closeCoal_only (s : State) (u : Nat) : OnlyEvl s (s.closeCoal u) := by
  unfold State.closeCoal
  split
  · exact OnlyEvl.refl s
  · exact OnlyEvl.evl s _

theorem State.closeDue_only (s : State) : OnlyEvl s s.closeDue := OnlyEvl.foldl (OnlyEvl.refl s) fun x c => State.closeCoal_only x c.uid

theorem State.evQueue_only (s : State) (o : Occ) (c : Bool) : OnlyEvl s (s.evQueue o c) := by
  have first : OnlyEvl s (if c = true ∧ 16 ≤ s.evl.coal.length then
      (match s.evl.coal with | c :: _ => s.closeCoal c.uid | [] => s) else s) := by
    split
    · split
      · exact State.closeCoal_only s _
      · exact OnlyEvl.refl s
    · exact OnlyEvl.refl s
  exact first.trans (OnlyEvl.trans (OnlyEvl.evl _ _) (OnlyEvl.cond (OnlyEvl.changeRc _ R.EVL_Q_MAX _ (by decide)) (OnlyEvl.refl _)))

theorem State.evIntake_only (s : State) (o : Occ) : OnlyEvl s (s.evIntake o) := by
  have lost : (lostFld o.cls).key / 32 / 65536 = 0x400F := by unfold lostFld; split <;> decide
  refine (State.closeDue_only s).trans ?_
  show OnlyEvl s.closeDue (match s.closeDue.evl.coal.find? fun c => c.id == o.id && c.src == o.src && c.arg0 == o.arg0 with
    | some _ => _ | none => _)
  split
  · exact OnlyEvl.evl _ _
  · split
    · exact State.evQueue_only _ o true
    · exact (OnlyEvl.setF _ _ _ lost).trans (OnlyEvl.flagBits _ _ _ (by decide))

theorem State.present_only (s : State) (o : Occ) : OnlyEvl s (s.present o) := by
  unfold State.present
  split
  · exact State.evIntake_only s o
  · unfold State.evHold
    split <;> exact OnlyEvl.evl s _

/-- Raising an event changes nothing outside EVL. -/
theorem State.raise_only (s : State) (e : EvId) (a b c : Nat) : OnlyEvl s (s.raise e a b c) := State.present_only s _

end Sys2Proof.Machine
end

