-- ==== Sys2Proof/Laws/Exec.lean ====
section
/-! SUPPORT. `exec` of each command is its meaning: the equation by which a proof enters a command, so that none need unfold `exec`. -/

namespace Sys2Proof.Machine

open Sys2Proof

variable (s : State)

theorem exec_registerWrite (core : Fin 2) (addr size : Nat) (data : Word) (env : BusEnv) : exec (.registerWrite core addr size data env) s = execRegisterWrite core addr size data env s := rfl
theorem exec_i2cRxd (i : Fin 2) : exec (.i2cRxd ch) s = execI2cRxd ch s := rfl
theorem exec_uartRxd (i : Fin 2) : exec (.uartRxd ch) s = execUartRxd ch s := rfl
theorem exec_spiRxd : exec .spiRxd s = execSpiRxd s := rfl
theorem exec_tlSeammax (tile : Fin 16) : exec (.tlSeammax tile) s = execTlSeammax tile s := rfl
theorem exec_evlQMax : exec .evlQMax s = execEvlQMax s := rfl
theorem exec_sysMtimeLo : exec .sysMtimeLo s = execSysMtimeLo s := rfl
theorem exec_pmuRtcLo : exec .pmuRtcLo s = execPmuRtcLo s := rfl
theorem exec_cilOpen : exec .cilOpen s = execCilOpen s := rfl
theorem exec_cilAppend : exec .cilAppend s = execCilAppend s := rfl
theorem exec_cilClose (progs : List Prog) : exec (.cilClose progs) s = execCilClose progs s := rfl
theorem exec_cilCheck (progs : List Prog) : exec (.cilCheck progs) s = execCilCheck progs s := rfl
theorem exec_cilCommit (progs : List Prog) : exec (.cilCommit progs) s = execCilCommit progs s := rfl
theorem exec_cilAbort : exec .cilAbort s = execCilAbort s := rfl
theorem exec_applyStepDone (ok : Bool) (part : Option Nat) (progs : List Prog) : exec (.applyStepDone ok part progs) s = execApplyStepDone ok part progs s := rfl
theorem exec_applyStepDeadline (progs : List Prog) : exec (.applyStepDeadline progs) s = execApplyStepDeadline progs s := rfl
theorem exec_passwordVerify (len : Nat) : exec (.passwordVerify len) s = execPasswordVerify len s := rfl
theorem exec_verificationDone (progs : List Prog) : exec (.verificationDone progs) s = execVerificationDone progs s := rfl
theorem exec_authEnd : exec .authEnd s = execAuthEnd s := rfl
theorem exec_sessionExpiry : exec .sessionExpiry s = execSessionExpiry s := rfl
theorem exec_lockEnd (progs : List Prog) : exec (.lockEnd progs) s = execLockEnd progs s := rfl
theorem exec_keyOpen (block code : Nat) : exec (.keyOpen block code) s = execKeyOpen block code s := rfl
theorem exec_keyClose (block code : Nat) : exec (.keyClose block code) s = execKeyClose block code s := rfl
theorem exec_keyExpiry (block : Nat) : exec (.keyExpiry block) s = execKeyExpiry block s := rfl
theorem exec_suspend (tenant : Fin 16) : exec (.suspend tenant) s = execSuspend tenant s := rfl
theorem exec_resume (tenant : Fin 16) : exec (.resume tenant) s = execResume tenant s := rfl
theorem exec_reset (tenant : Fin 16) : exec (.reset tenant) s = execReset tenant s := rfl
theorem exec_lendon (tenant : Fin 16) : exec (.lendon tenant) s = execLendon tenant s := rfl
theorem exec_lendoff (tenant : Fin 16) : exec (.lendoff tenant) s = execLendoff tenant s := rfl
theorem exec_tenSqdb (tenant : Fin 16) (queue : Fin 4) (tail : Nat) : exec (.tenSqdb tenant queue tail) s = execTenSqdb tenant queue tail s := rfl
theorem exec_tenCqhd (tenant : Fin 16) (queue : Fin 4) (head : Nat) : exec (.tenCqhd tenant queue head) s = execTenCqhd tenant queue head s := rfl
theorem exec_adWindowRead (offset size : Nat) : exec (.adWindowRead offset size) s = execAdWindowRead offset size s := rfl
theorem exec_adWindowWrite (offset size : Nat) (data : Word) : exec (.adWindowWrite offset size data) s = execAdWindowWrite offset size data s := rfl
theorem exec_memTimeout : exec .memTimeout s = execMemTimeout s := rfl
theorem exec_tenantFault (tenant : Fin 16) (code arg : Nat) : exec (.tenantFault tenant code arg) s = execTenantFault tenant code arg s := rfl
theorem exec_scrubComplete (tenant : Fin 16) : exec (.scrubComplete tenant) s = execScrubComplete tenant s := rfl
theorem exec_modelVerified (tenant : Fin 16) (err : Option MemErr) : exec (.modelVerified tenant err) s = execModelVerified tenant err s := rfl
theorem exec_stateAckTimeout (tenant : Fin 16) : exec (.stateAckTimeout tenant) s = execStateAckTimeout tenant s := rfl
theorem exec_canaryAuditRound : exec .canaryAuditRound s = execCanaryAuditRound s := rfl
theorem exec_auditAnswerTimeout : exec .auditAnswerTimeout s = execAuditAnswerTimeout s := rfl
theorem exec_majorFrameStart : exec .majorFrameStart s = execMajorFrameStart s := rfl
theorem exec_frameReportTimeout : exec .frameReportTimeout s = execFrameReportTimeout s := rfl
theorem exec_slotBoundary : exec .slotBoundary s = execSlotBoundary s := rfl
theorem exec_slotStopLead : exec .slotStopLead s = execSlotStopLead s := rfl
theorem exec_memoryGrant (err : Option BeatErr) : exec (.memoryGrant err) s = execMemoryGrant err s := rfl
theorem exec_frameStart (rx : Fin 2) (vc : Fin 16) (lanes : LaneNote) (hdr : HdrEcc) : exec (.frameStart rx vc lanes hdr) s = execFrameStart rx vc lanes hdr s := rfl
theorem exec_linePacket (rx : Fin 2) (vc : Fin 16) (lanes : LaneNote) (hdr : HdrEcc) (dtype : Nat) (payload : List Byte) (crcOk : Bool) : exec (.linePacket rx vc lanes hdr dtype payload crcOk) s = execLinePacket rx vc lanes hdr dtype payload crcOk s := rfl
theorem exec_frameEnd (rx : Fin 2) (vc : Fin 16) (lanes : LaneNote) (hdr : HdrEcc) : exec (.frameEnd rx vc lanes hdr) s = execFrameEnd rx vc lanes hdr s := rfl
theorem exec_frameTimeout (cam : Fin 4) : exec (.frameTimeout cam) s = execFrameTimeout cam s := rfl
theorem exec_cameraSilence (cam : Fin 4) : exec (.cameraSilence cam) s = execCameraSilence cam s := rfl
theorem exec_flintCopy (cam : Fin 4) : exec (.flintCopy cam) s = execFlintCopy cam s := rfl
theorem exec_phyError (rx : Fin 2) : exec (.phyError rx) s = execPhyError rx s := rfl
theorem exec_cameraConfigWrite (cam : Fin 4) (geom : Bool) (data : Word) : exec (.cameraConfigWrite cam geom data) s = execCameraConfigWrite cam geom data s := rfl
theorem exec_i2cTransfer (i : Fin 2) (addr : Nat) (a10 rd : Bool) (len : Nat) (rstart : Bool) : exec (.i2cTransfer ch addr a10 rd len rstart) s = execI2cTransfer ch addr a10 rd len rstart s := rfl
theorem exec_i2cTransferDone (i : Fin 2) (nack : Fin 3) (count : Nat) (data : List Byte) : exec (.i2cTransferDone ch nack count data) s = execI2cTransferDone ch nack count data s := rfl
theorem exec_arbitrationLost (i : Fin 2) (byte bit : Nat) (data : List Byte) : exec (.arbitrationLost i byte bit data) s = execArbitrationLost i byte bit data s := rfl
theorem exec_i2cRetry (i : Fin 2) (bus : I2cLine) : exec (.i2cRetry i bus) s = execI2cRetry i bus s := rfl
theorem exec_busStuck (i : Fin 2) (count : Nat) (data : List Byte) : exec (.busStuck i count data) s = execBusStuck i count data s := rfl
theorem exec_i2cBuserr (i : Fin 2) (count : Nat) (data : List Byte) : exec (.i2cBuserr i count data) s = execI2cBuserr i count data s := rfl
theorem exec_i2cTxd (i : Fin 2) (data : Byte) : exec (.i2cTxd ch data) s = execI2cTxd ch data s := rfl
theorem exec_linkTraining (ev : TrainEv) : exec (.linkTraining ev) s = execLinkTraining ev s := rfl
theorem exec_trainingStepTimeout (step : Fin 5) : exec (.trainingStepTimeout step) s = execTrainingStepTimeout step s := rfl
theorem exec_linkUp : exec .linkUp s = execLinkUp s := rfl
theorem exec_fastRetrain : exec .fastRetrain s = execFastRetrain s := rfl
theorem exec_blockLockLost (headers : List (List Nat)) : exec (.blockLockLost headers) s = execBlockLockLost headers s := rfl
theorem exec_retrain : exec .retrain s = execRetrain s := rfl
theorem exec_fulltrain : exec .fulltrain s = execFulltrain s := rfl
theorem exec_sillrst : exec .sillrst s = execSillrst s := rfl
theorem exec_dataFlit (ad : Bool) (headers : List (List Nat)) (flit : List Byte) : exec (.dataFlit ad headers flit) s = execDataFlit ad headers flit s := rfl
theorem exec_linkControlFlit (ad : Bool) (flit : List Byte) : exec (.linkControlFlit ad flit) s = execLinkControlFlit ad flit s := rfl
theorem exec_ackTimer (ad : Bool) : exec (.ackTimer ad) s = execAckTimer ad s := rfl
theorem exec_replayTimeout (ad : Bool) : exec (.replayTimeout ad) s = execReplayTimeout ad s := rfl
theorem exec_ready : exec .ready s = execReady s := rfl
theorem exec_tenCmd : exec .tenCmd s = execTenCmd s := rfl
theorem exec_tenAck (tenant : Fin 256) (action : Fin 256) (state : Fin 256) : exec (.tenAck tenant action state) s = execTenAck tenant action state s := rfl
theorem exec_doorbell (errs : List (Nat × MemErr)) : exec (.doorbell errs) s = execDoorbell errs s := rfl
theorem exec_majorTick : exec .majorTick s = execMajorTick s := rfl
theorem exec_frameReport (k : Nat) (lends : Fin 65536) (late : Fin 65536) (lateS : Fin 65536) (stalls : List Nat) : exec (.frameReport k lends late lateS stalls) s = execFrameReport k lends late lateS stalls s := rfl
theorem exec_probe : exec .probe s = execProbe s := rfl
theorem exec_probeResult (tile : Fin 256) (bits : Fin 256) (data : List Byte) : exec (.probeResult tile bits data) s = execProbeResult tile bits data s := rfl
theorem exec_config : exec .config s = execConfig s := rfl
theorem exec_configAck (tag : Fin 65536) (status reason : Fin 256) : exec (.configAck tag status reason) s = execConfigAck tag status reason s := rfl
theorem exec_event (body : List Byte) : exec (.event body) s = execEvent body s := rfl
theorem exec_energyPlan (body : List Byte) : exec (.energyPlan body) s = execEnergyPlan body s := rfl
theorem exec_pmEnter : exec .pmEnter s = execPmEnter s := rfl
theorem exec_pmAck (target : Fin 256) : exec (.pmAck target) s = execPmAck target s := rfl
theorem exec_pmAckTimeout : exec .pmAckTimeout s = execPmAckTimeout s := rfl
theorem exec_electricalIdle : exec .electricalIdle s = execElectricalIdle s := rfl
theorem exec_resumeAck (release : Bool) : exec (.resumeAck release) s = execResumeAck release s := rfl
theorem exec_debug (req : Option (Bool × Word × Word)) : exec (.debug req) s = execDebug req s := rfl
theorem exec_debugRsp (status : Fin 256) (data : Word) : exec (.debugRsp status data) s = execDebugRsp status data s := rfl
theorem exec_nakMsg : exec .nakMsg s = execNakMsg s := rfl
theorem exec_frameOpen : exec .frameOpen s = execFrameOpen s := rfl
theorem exec_frameData : exec .frameData s = execFrameData s := rfl
theorem exec_frameTrailer : exec .frameTrailer s = execFrameTrailer s := rfl
theorem exec_streakSet : exec .streakSet s = execStreakSet s := rfl
theorem exec_record (tenant : Fin 256) (count : Fin 256) (tag : Fin 65536) (body : List Byte) : exec (.record tenant count tag body) s = execRecord tenant count tag body s := rfl
theorem exec_complNote (tenant : Fin 256) (queue : Fin 256) (tail : Fin 65536) (tag : Fin 65536) : exec (.complNote tenant queue tail tag) s = execComplNote tenant queue tail tag s := rfl
theorem exec_memRd (err : Option MemErr) : exec (.memRd err) s = execMemRd err s := rfl
theorem exec_memRdData (tag : Nat) (status : Fin 256) (data : List Byte) : exec (.memRdData tag status data) s = execMemRdData tag status data s := rfl
theorem exec_memWr (err : Option MemErr) : exec (.memWr err) s = execMemWr err s := rfl
theorem exec_memWrAck (tag : Nat) (status : Fin 256) : exec (.memWrAck tag status) s = execMemWrAck tag status s := rfl
theorem exec_dozeIdleTimeout : exec .dozeIdleTimeout s = execDozeIdleTimeout s := rfl
theorem exec_sleepReq : exec .sleepReq s = execSleepReq s := rfl
theorem exec_sleepAfterTimeout : exec .sleepAfterTimeout s = execSleepAfterTimeout s := rfl
theorem exec_silResume : exec .silResume s = execSilResume s := rfl
theorem exec_sbWake (high : Bool) : exec (.sbWake high) s = execSbWake high s := rfl
theorem exec_resumeComplete : exec .resumeComplete s = execResumeComplete s := rfl
theorem exec_debugEnable (en : Bool) : exec (.debugEnable en) s = execDebugEnable en s := rfl
theorem exec_apllSlewDone : exec .apllSlewDone s = execApllSlewDone s := rfl
theorem exec_slewTimeout : exec .slewTimeout s = execSlewTimeout s := rfl
theorem exec_tpointRequest (data : Word) : exec (.tpointRequest data) s = execTpointRequest data s := rfl
theorem exec_tcapWrite (cap : Nat) : exec (.tcapWrite cap) s = execTcapWrite cap s := rfl
theorem exec_voutPoll (mv : Option Nat) : exec (.voutPoll mv) s = execVoutPoll mv s := rfl
theorem exec_voutTimeout : exec .voutTimeout s = execVoutTimeout s := rfl
theorem exec_clockPlanAckTimeout : exec .clockPlanAckTimeout s = execClockPlanAckTimeout s := rfl
theorem exec_tilePowerUp (tile : Fin 16) : exec (.tilePowerUp tile) s = execTilePowerUp tile s := rfl
theorem exec_memoryTrained (step : Fin 9) (rate : Fin 4) (density : Fin 9) : exec (.memoryTrained step rate density) s = execMemoryTrained step rate density s := rfl
theorem exec_mr4Poll (a b : Byte) (hot : Bool) : exec (.mr4Poll a b hot) s = execMr4Poll a b hot s := rfl
theorem exec_dramRefresh (channel : Fin 2) : exec (.dramRefresh channel) s = execDramRefresh channel s := rfl
theorem exec_wckOscMeasure (drift : Bool) : exec (.wckOscMeasure drift) s = execWckOscMeasure drift s := rfl
theorem exec_bundleDispatch (tile : Fin 16) : exec (.bundleDispatch tile) s = execBundleDispatch tile s := rfl
theorem exec_nextBundle (tile : Fin 16) : exec (.nextBundle tile) s = execNextBundle tile s := rfl
theorem exec_loop (tile : Fin 16) : exec (.loop tile) s = execLoop tile s := rfl
theorem exec_endl (tile : Fin 16) : exec (.endl tile) s = execEndl tile s := rfl
theorem exec_jump (tile : Fin 16) : exec (.jump tile) s = execJump tile s := rfl
theorem exec_halt (tile : Fin 16) : exec (.halt tile) s = execHalt tile s := rfl
theorem exec_sync (tile : Fin 16) : exec (.sync tile) s = execSync tile s := rfl
theorem exec_tileHalted (tile : Fin 16) : exec (.tileHalted tile) s = execTileHalted tile s := rfl
theorem exec_nop (tile : Fin 16) (engine : Fin 3) : exec (.nop tile engine) s = execNop tile engine s := rfl
theorem exec_mseta (tile : Fin 16) : exec (.mseta tile) s = execMseta tile s := rfl
theorem exec_mmode (tile : Fin 16) : exec (.mmode tile) s = execMmode tile s := rfl
theorem exec_wload (tile : Fin 16) (errs : List (Nat × LineErr)) : exec (.wload tile errs) s = execWload tile errs s := rfl
theorem exec_wswap (tile : Fin 16) : exec (.wswap tile) s = execWswap tile s := rfl
theorem exec_mma (tile : Fin 16) (errs : List (Nat × LineErr)) : exec (.mma tile errs) s = execMma tile errs s := rfl
theorem exec_sigo (tile : Fin 16) : exec (.sigo tile) s = execSigo tile s := rfl
theorem exec_sigc (tile : Fin 16) : exec (.sigc tile) s = execSigc tile s := rfl
theorem exec_aclr (tile : Fin 16) : exec (.aclr tile) s = execAclr tile s := rfl
theorem exec_valu (tile : Fin 16) : exec (.valu tile) s = execValu tile s := rfl
theorem exec_vfma (tile : Fin 16) : exec (.vfma tile) s = execVfma tile s := rfl
theorem exec_vcmp (tile : Fin 16) : exec (.vcmp tile) s = execVcmp tile s := rfl
theorem exec_vsh (tile : Fin 16) : exec (.vsh tile) s = execVsh tile s := rfl
theorem exec_vsfu (tile : Fin 16) : exec (.vsfu tile) s = execVsfu tile s := rfl
theorem exec_vcvt (tile : Fin 16) : exec (.vcvt tile) s = execVcvt tile s := rfl
theorem exec_vsel (tile : Fin 16) : exec (.vsel tile) s = execVsel tile s := rfl
theorem exec_vred (tile : Fin 16) : exec (.vred tile) s = execVred tile s := rfl
theorem exec_vld (tile : Fin 16) (errs : List (Nat × LineErr)) : exec (.vld tile errs) s = execVld tile errs s := rfl
theorem exec_vst (tile : Fin 16) : exec (.vst tile) s = execVst tile s := rfl
theorem exec_vldt (tile : Fin 16) (errs : List (Nat × LineErr)) : exec (.vldt tile errs) s = execVldt tile errs s := rfl
theorem exec_vrq (tile : Fin 16) : exec (.vrq tile) s = execVrq tile s := rfl
theorem exec_vacc (tile : Fin 16) : exec (.vacc tile) s = execVacc tile s := rfl
theorem exec_vparam (tile : Fin 16) (errs : List (Nat × LineErr)) : exec (.vparam tile errs) s = execVparam tile errs s := rfl
theorem exec_vspl (tile : Fin 16) : exec (.vspl tile) s = execVspl tile s := rfl
theorem exec_vseta (tile : Fin 16) : exec (.vseta tile) s = execVseta tile s := rfl
theorem exec_vpmap (tile : Fin 16) : exec (.vpmap tile) s = execVpmap tile s := rfl
theorem exec_msetd (tile : Fin 16) : exec (.msetd tile) s = execMsetd tile s := rfl
theorem exec_mload (tile : Fin 16) : exec (.mload tile) s = execMload tile s := rfl
theorem exec_mstore (tile : Fin 16) : exec (.mstore tile) s = execMstore tile s := rfl
theorem exec_msend (tile : Fin 16) : exec (.msend tile) s = execMsend tile s := rfl
theorem exec_mrecv (tile : Fin 16) : exec (.mrecv tile) s = execMrecv tile s := rfl
theorem exec_mfence (tile : Fin 16) : exec (.mfence tile) s = execMfence tile s := rfl
theorem exec_engineOpComplete (tile : Fin 16) (engine : Fin 3) : exec (.engineOpComplete tile engine) s = execEngineOpComplete tile engine s := rfl
theorem exec_shiftComplete (tile : Fin 16) (queue : Fin 8) (count : Nat) (errs : List (Nat × BeatErr)) : exec (.shiftComplete tile queue count errs) s = execShiftComplete tile queue count errs s := rfl
theorem exec_seamReached (tile : Fin 16) (interval drain : Nat) : exec (.seamReached tile interval drain) s = execSeamReached tile interval drain s := rfl
theorem exec_tileSeamLate (tile : Fin 16) (cycles : Nat) : exec (.tileSeamLate tile cycles) s = execTileSeamLate tile cycles s := rfl
theorem exec_tileCreditStall (tile : Fin 16) (queue : Fin 8) : exec (.tileCreditStall tile queue) s = execTileCreditStall tile queue s := rfl
theorem exec_tileDeadlock (tile : Fin 16) : exec (.tileDeadlock tile) s = execTileDeadlock tile s := rfl
theorem exec_swap (tile : Fin 16) (bank : Fin 2) (tenant : Fin 16) : exec (.swap tile bank tenant) s = execSwap tile bank tenant s := rfl
theorem exec_stop (tile : Fin 16) (reason : Fin 4) : exec (.stop tile reason) s = execStop tile reason s := rfl
theorem exec_start (tile : Fin 16) (bank : Fin 2) (tenant : Fin 16) : exec (.start tile bank tenant) s = execStart tile bank tenant s := rfl
theorem exec_swapLimitExpiry (tile : Fin 16) : exec (.swapLimitExpiry tile) s = execSwapLimitExpiry tile s := rfl
theorem exec_stopLimitExpiry (tile : Fin 16) : exec (.stopLimitExpiry tile) s = execStopLimitExpiry tile s := rfl
theorem exec_shiftWithdrawn (tile : Fin 16) (queue : Fin 8) (peer : Fin 16) (peerQ : Fin 8) (send : Bool) : exec (.shiftWithdrawn tile queue peer peerQ send) s = execShiftWithdrawn tile queue peer peerQ send s := rfl
theorem exec_programBankWrite (tile : Fin 16) (bank : Fin 2) (reg : Bool) (offset : Nat) (data : Word) : exec (.programBankWrite tile bank reg offset data) s = execProgramBankWrite tile bank reg offset data s := rfl
theorem exec_phaseBarrier (job : Nat) (err : Option MemErr) : exec (.phaseBarrier job err) s = execPhaseBarrier job err s := rfl
theorem exec_inferFrame (tenant : Fin 16) (err : Option MemErr) : exec (.inferFrame tenant err) s = execInferFrame tenant err s := rfl
theorem exec_inferCrops (tenant : Fin 16) (err : Option MemErr) : exec (.inferCrops tenant err) s = execInferCrops tenant err s := rfl
theorem exec_inferBatch (tenant : Fin 16) (err : Option MemErr) : exec (.inferBatch tenant err) s = execInferBatch tenant err s := rfl
theorem exec_copy (tenant : Fin 16) (errs : List (Nat × MemErr)) : exec (.copy tenant errs) s = execCopy tenant errs s := rfl
theorem exec_grad (tenant : Fin 16) (err : Option MemErr) : exec (.grad tenant err) s = execGrad tenant err s := rfl
theorem exec_reduce (tenant : Fin 16) (errs : List (Nat × MemErr)) : exec (.reduce tenant errs) s = execReduce tenant errs s := rfl
theorem exec_reduceFirst (tenant : Fin 16) (errs : List (Nat × MemErr)) : exec (.reduceFirst tenant errs) s = execReduceFirst tenant errs s := rfl
theorem exec_norm (tenant : Fin 16) (bad : Option (Nat × MemErr)) : exec (.norm tenant bad) s = execNorm tenant bad s := rfl
theorem exec_update (tenant : Fin 16) (bad : Option (Nat × MemErr)) : exec (.update tenant bad) s = execUpdate tenant bad s := rfl
theorem exec_jobComplete (job : Nat) : exec (.jobComplete job) s = execJobComplete job s := rfl
theorem exec_jobDeadline (job : Nat) : exec (.jobDeadline job) s = execJobDeadline job s := rfl
theorem exec_batchClose (tenant : Fin 16) : exec (.batchClose tenant) s = execBatchClose tenant s := rfl
theorem exec_flintScore (cam : Fin 4) (scores : Nat) (ecc : Fin 3) : exec (.flintScore cam scores ecc) s = execFlintScore cam scores ecc s := rfl
theorem exec_flintSelfTest (ok : Bool) : exec (.flintSelfTest ok) s = execFlintSelfTest ok s := rfl
theorem exec_flintOverrun (cam : Fin 4) : exec (.flintOverrun cam) s = execFlintOverrun cam s := rfl
theorem exec_assayJudge (ce : Bool) : exec (.assayJudge ce) s = execAssayJudge ce s := rfl
theorem exec_zoneExpiry (e : Fin 32) : exec (.zoneExpiry e) s = execZoneExpiry e s := rfl
theorem exec_runExpiry (tenant : Fin 16) (cam : Fin 4) (ctr : Nat) : exec (.runExpiry tenant cam ctr) s = execRunExpiry tenant cam ctr s := rfl
theorem exec_assaySelfCheck (copies : Bool) : exec (.assaySelfCheck copies) s = execAssaySelfCheck copies s := rfl
theorem exec_stkRngFail : exec .stkRngFail s = execStkRngFail s := rfl
theorem exec_demote : exec .demote s = execDemote s := rfl
theorem exec_distrust : exec .distrust s = execDistrust s := rfl
theorem exec_retry : exec .retry s = execRetry s := rfl
theorem exec_clearzones : exec .clearzones s = execClearzones s := rfl
theorem exec_qualification : exec .qualification s = execQualification s := rfl
theorem exec_qualificationDone : exec .qualificationDone s = execQualificationDone s := rfl
theorem exec_qualRecordTimeout : exec .qualRecordTimeout s = execQualRecordTimeout s := rfl
theorem exec_luxDarkWrite (luxin : Nat) (sched : Bool) : exec (.luxDarkWrite luxin sched) s = execLuxDarkWrite luxin sched s := rfl
theorem exec_luxinTimeout : exec .luxinTimeout s = execLuxinTimeout s := rfl
theorem exec_schedTimeout : exec .schedTimeout s = execSchedTimeout s := rfl
theorem exec_lightHoldExpiry : exec .lightHoldExpiry s = execLightHoldExpiry s := rfl
theorem exec_controlCycle (v0 v1 i0 i1 : Nat) : exec (.controlCycle v0 v1 i0 i1) s = execControlCycle v0 v1 i0 i1 s := rfl
theorem exec_ocTrip (ch : Fin 2) : exec (.ocTrip ch) s = execOcTrip ch s := rfl
theorem exec_scTrip (ch : Fin 2) (ramp : Bool) : exec (.scTrip ch ramp) s = execScTrip ch ramp s := rfl
theorem exec_hiccupRetry (ch : Fin 2) : exec (.hiccupRetry ch) s = execHiccupRetry ch s := rfl
theorem exec_vgdUndervoltage : exec .vgdUndervoltage s = execVgdUndervoltage s := rfl
theorem exec_vgdRecovery : exec .vgdRecovery s = execVgdRecovery s := rfl
theorem exec_sfl1Timeout : exec .sfl1Timeout s = execSfl1Timeout s := rfl
theorem exec_luxCopy : exec .luxCopy s = execLuxCopy s := rfl
theorem exec_home : exec .home s = execHome s := rfl
theorem exec_tiltStop : exec .tiltStop s = execTiltStop s := rfl
theorem exec_tltTarget (count : Word) : exec (.tltTarget count) s = execTltTarget count s := rfl
theorem exec_encIndex : exec .encIndex s = execEncIndex s := rfl
theorem exec_homingTimeout : exec .homingTimeout s = execHomingTimeout s := rfl
theorem exec_slsWindow : exec .slsWindow s = execSlsWindow s := rfl
theorem exec_potSample (code : Nat) : exec (.potSample code) s = execPotSample code s := rfl
theorem exec_bridgeOvercurrent : exec .bridgeOvercurrent s = execBridgeOvercurrent s := rfl
theorem exec_testPulseSample (preA inA forA preB inB forB : Fin 16) : exec (.testPulseSample preA inA forA preB inB forB) s = execTestPulseSample preA inA forA preB inB forB s := rfl
theorem exec_demandSample (a b : Fin 16) : exec (.demandSample a b) s = execDemandSample a b s := rfl
theorem exec_discrepancyTimeout (pair : Fin 4) : exec (.discrepancyTimeout pair) s = execDiscrepancyTimeout pair s := rfl
theorem exec_armA : exec .armA s = execArmA s := rfl
theorem exec_tripA : exec .tripA s = execTripA s := rfl
theorem exec_armB : exec .armB s = execArmB s := rfl
theorem exec_tripB : exec .tripB s = execTripB s := rfl
theorem exec_tpcfgWrite (period width : Nat) : exec (.tpcfgWrite period width) s = execTpcfgWrite period width s := rfl
theorem exec_trip (src : Fin 13) (asserted : Bool) : exec (.trip src asserted) s = execTrip src asserted s := rfl
theorem exec_offTest (out : Fin 2) (lowOk highOk : Bool) : exec (.offTest out lowOk highOk) s = execOffTest out lowOk highOk s := rfl
theorem exec_readbackMismatch : exec .readbackMismatch s = execReadbackMismatch s := rfl
theorem exec_safeResetFall : exec .safeResetFall s = execSafeResetFall s := rfl
theorem exec_safeResetRise : exec .safeResetRise s = execSafeResetRise s := rfl
theorem exec_resetStuck : exec .resetStuck s = execResetStuck s := rfl
theorem exec_lockstepMismatch (group : Fin 3) (addr : Word) : exec (.lockstepMismatch group addr) s = execLockstepMismatch group addr s := rfl
theorem exec_agreementFault (addr : Word) : exec (.agreementFault addr) s = execAgreementFault addr s := rfl
theorem exec_interruptInput (core : Fin 2) (line : Fin 3) : exec (.interruptInput core line) s = execInterruptInput core line s := rfl
theorem exec_split : exec .split s = execSplit s := rfl
theorem exec_join (core : Fin 2) : exec (.join core) s = execJoin core s := rfl
theorem exec_splitTimeout : exec .splitTimeout s = execSplitTimeout s := rfl
theorem exec_watchdogKick (n : Fin 2) (value : Fin 65536) : exec (.watchdogKick n value) s = execWatchdogKick n value s := rfl
theorem exec_watchdogExpiry (n : Fin 2) : exec (.watchdogExpiry n) s = execWatchdogExpiry n s := rfl
theorem exec_kickHalfTimeout (n : Fin 2) : exec (.kickHalfTimeout n) s = execKickHalfTimeout n s := rfl
theorem exec_scrubRead (found : Fin 3) : exec (.scrubRead found) s = execScrubRead found s := rfl
theorem exec_otpRead (offset : Fin 8192) : exec (.otpRead offset) s = execOtpRead offset s := rfl
theorem exec_otpReadDone : exec .otpReadDone s = execOtpReadDone s := rfl
theorem exec_idcode : exec .idcode s = execIdcode s := rfl
theorem exec_dtmcs : exec .dtmcs s = execDtmcs s := rfl
theorem exec_dmi (op : Fin 4) (addr : Fin 128) (data : Word) : exec (.dmi op addr data) s = execDmi op addr data s := rfl
theorem exec_bypass (code : Fin 32) : exec (.bypass code) s = execBypass code s := rfl
theorem exec_dmactiveWrite (v : Bool) : exec (.dmactiveWrite v) s = execDmactiveWrite v s := rfl
theorem exec_haltRequest (hart : Nat) : exec (.haltRequest hart) s = execHaltRequest hart s := rfl
theorem exec_resumeRequest (hart : Nat) : exec (.resumeRequest hart) s = execResumeRequest hart s := rfl
theorem exec_singleStep (hart : Nat) (insn : Word) : exec (.singleStep hart insn) s = execSingleStep hart insn s := rfl
theorem exec_accessRegister (write : Bool) (regno : Fin 65536) (data : Word) : exec (.accessRegister write regno data) s = execAccessRegister write regno data s := rfl
theorem exec_programBuffer (words : List Word) : exec (.programBuffer words) s = execProgramBuffer words s := rfl
theorem exec_systemBusAccess (m : Master) (op : BusOp) (addr size : Nat) (data : Word) (ecc : Fin 3) (env : BusEnv) : exec (.systemBusAccess m op addr size data ecc env) s = execSystemBusAccess m op addr size data ecc env s := rfl
theorem exec_ndmreset : exec .ndmreset s = execNdmreset s := rfl
theorem exec_portLinkUp (port : Fin 2) (good : Bool) : exec (.portLinkUp port good) s = execPortLinkUp port good s := rfl
theorem exec_portLinkDown (port : Fin 2) : exec (.portLinkDown port) s = execPortLinkDown port s := rfl
theorem exec_frameReceived (port : Fin 2) (bytes : List Byte) (fcsOk ue : Bool) : exec (.frameReceived port bytes fcsOk ue) s = execFrameReceived port bytes fcsOk ue s := rfl
theorem exec_rxTailWrite (q : Fin 17) (data : Word) : exec (.rxTailWrite q data) s = execRxTailWrite q data s := rfl
theorem exec_txTailWrite (data : Word) (ue : Bool) : exec (.txTailWrite data ue) s = execTxTailWrite data ue s := rfl
theorem exec_frameTransmitted (port : Fin 2) : exec (.frameTransmitted port) s = execFrameTransmitted port s := rfl
theorem exec_learnAge (mac : Nat) : exec (.learnAge mac) s = execLearnAge mac s := rfl
theorem exec_stormWindow (port : Fin 2) : exec (.stormWindow port) s = execStormWindow port s := rfl
theorem exec_fupEntryExpiry (k : Fin 16) : exec (.fupEntryExpiry k) s = execFupEntryExpiry k s := rfl
theorem exec_c22Write (phy reg : Fin 32) : exec (.c22Write phy reg) s = execC22Write phy reg s := rfl
theorem exec_c22Read (phy reg : Fin 32) : exec (.c22Read phy reg) s = execC22Read phy reg s := rfl
theorem exec_c45Address (phy dev : Fin 32) : exec (.c45Address phy dev) s = execC45Address phy dev s := rfl
theorem exec_c45Write (phy dev : Fin 32) : exec (.c45Write phy dev) s = execC45Write phy dev s := rfl
theorem exec_c45Read (phy dev : Fin 32) : exec (.c45Read phy dev) s = execC45Read phy dev s := rfl
theorem exec_c45ReadIncrement (phy dev : Fin 32) : exec (.c45ReadIncrement phy dev) s = execC45ReadIncrement phy dev s := rfl
theorem exec_mdioDone (data : Option Word) : exec (.mdioDone data) s = execMdioDone data s := rfl
theorem exec_snap : exec .snap s = execSnap s := rfl
theorem exec_tb3Align : exec .tb3Align s = execTb3Align s := rfl
theorem exec_selA : exec .selA s = execSelA s := rfl
theorem exec_selB : exec .selB s = execSelB s := rfl
theorem exec_baseStep (n : Fin 4) (step : Word) : exec (.baseStep n step) s = execBaseStep n step s := rfl
theorem exec_domainLockWrite (data : Word) : exec (.domainLockWrite data) s = execDomainLockWrite data s := rfl
theorem exec_syncTimeout (d : Fin 2) : exec (.syncTimeout d) s = execSyncTimeout d s := rfl
theorem exec_baseWrap (n : Fin 4) : exec (.baseWrap n) s = execBaseWrap n s := rfl
theorem exec_triggerFire (k : Fin 8) : exec (.triggerFire k) s = execTriggerFire k s := rfl
theorem exec_triggerArm (k : Fin 8) (data : Word) : exec (.triggerArm k data) s = execTriggerArm k data s := rfl
theorem exec_fsyncPulseEnd (pin : Fin 4) : exec (.fsyncPulseEnd pin) s = execFsyncPulseEnd pin s := rfl
theorem exec_cairnFrame : exec .cairnFrame s = execCairnFrame s := rfl
theorem exec_claim : exec .claim s = execClaim s := rfl
theorem exec_yield : exec .yield s = execYield s := rfl
theorem exec_roster : exec .roster s = execRoster s := rfl
theorem exec_cairnJoin : exec .cairnJoin s = execCairnJoin s := rfl
theorem exec_hello : exec .hello s = execHello s := rfl
theorem exec_beat : exec .beat s = execBeat s := rfl
theorem exec_chunkData (ue : Bool) : exec (.chunkData ue) s = execChunkData ue s := rfl
theorem exec_chunkAck : exec .chunkAck s = execChunkAck s := rfl
theorem exec_cairnStep (ue : Bool) : exec (.cairnStep ue) s = execCairnStep ue s := rfl
theorem exec_ckptMark (ue : Bool) : exec (.ckptMark ue) s = execCkptMark ue s := rfl
theorem exec_cairnFault (ue : Bool) : exec (.cairnFault ue) s = execCairnFault ue s := rfl
theorem exec_tListen : exec .tListen s = execTListen s := rfl
theorem exec_claimWait : exec .claimWait s = execClaimWait s := rfl
theorem exec_followTo : exec .followTo s = execFollowTo s := rfl
theorem exec_joinRetry : exec .joinRetry s = execJoinRetry s := rfl
theorem exec_backoff : exec .backoff s = execBackoff s := rfl
theorem exec_helloMs (port : Fin 2) : exec (.helloMs port) s = execHelloMs port s := rfl
theorem exec_neighbourTo (port : Fin 2) : exec (.neighbourTo port) s = execNeighbourTo port s := rfl
theorem exec_rosterMs : exec .rosterMs s = execRosterMs s := rfl
theorem exec_beatTimer : exec .beatTimer s = execBeatTimer s := rfl
theorem exec_headTo : exec .headTo s = execHeadTo s := rfl
theorem exec_beatTo (key : Nat) : exec (.beatTo key) s = execBeatTo key s := rfl
theorem exec_rankWait : exec .rankWait s = execRankWait s := rfl
theorem exec_rosterPublish : exec .rosterPublish s = execRosterPublish s := rfl
theorem exec_restart : exec .restart s = execRestart s := rfl
theorem exec_revert : exec .revert s = execRevert s := rfl
theorem exec_transferStart (ue : Bool) : exec (.transferStart ue) s = execTransferStart ue s := rfl
theorem exec_messageSend (ue : Bool) : exec (.messageSend ue) s = execMessageSend ue s := rfl
theorem exec_resendTimeout (id : Nat) : exec (.resendTimeout id) s = execResendTimeout id s := rfl
theorem exec_chunkAckTimer (src id : Nat) : exec (.chunkAckTimer src id) s = execChunkAckTimer src id s := rfl
theorem exec_transferIdleTimeout (src id : Nat) : exec (.transferIdleTimeout src id) s = execTransferIdleTimeout src id s := rfl
theorem exec_por : exec .por s = execPor s := rfl
theorem exec_porRelease : exec .porRelease s = execPorRelease s := rfl
theorem exec_supplyOutOfRange : exec .supplyOutOfRange s = execSupplyOutOfRange s := rfl
theorem exec_supplyRecovery : exec .supplyRecovery s = execSupplyRecovery s := rfl
theorem exec_clockFault : exec .clockFault s = execClockFault s := rfl
theorem exec_xtal32Fail : exec .xtal32Fail s = execXtal32Fail s := rfl
theorem exec_xtal32Running : exec .xtal32Running s = execXtal32Running s := rfl
theorem exec_cpllLock : exec .cpllLock s = execCpllLock s := rfl
theorem exec_sramInitDone : exec .sramInitDone s = execSramInitDone s := rfl
theorem exec_coresLeaveReset (fail : Fin 16) (density : Option Nat) (progs : List Prog) : exec (.coresLeaveReset fail density progs) s = execCoresLeaveReset fail density progs s := rfl
theorem exec_bootLoaderStart : exec .bootLoaderStart s = execBootLoaderStart s := rfl
theorem exec_pgRise (n : Fin 8) : exec (.pgRise n) s = execPgRise n s := rfl
theorem exec_pgTimeout (n : Fin 8) : exec (.pgTimeout n) s = execPgTimeout n s := rfl
theorem exec_pgLost (n : Fin 8) : exec (.pgLost n) s = execPgLost n s := rfl
theorem exec_startRetry : exec .startRetry s = execStartRetry s := rfl
theorem exec_pgReraise : exec .pgReraise s = execPgReraise s := rfl
theorem exec_avsStatusPoll (word : Option (Fin 65536)) (fault warn : Bool) (vout iout temp : Fin 65536) : exec (.avsStatusPoll word fault warn vout iout temp) s = execAvsStatusPoll word fault warn vout iout temp s := rfl
theorem exec_watch (held : Bool) : exec (.watch held) s = execWatch held s := rfl
theorem exec_work (held : Bool) (vmode : Option (Fin 256)) : exec (.work held vmode) s = execWork held vmode s := rfl
theorem exec_standby (held persisted : Bool) : exec (.standby held persisted) s = execStandby held persisted s := rfl
theorem exec_readyTimeout : exec .readyTimeout s = execReadyTimeout s := rfl
theorem exec_wakeAlarm : exec .wakeAlarm s = execWakeAlarm s := rfl
theorem exec_wakePin (pin : Fin 2) : exec (.wakePin pin) s = execWakePin pin s := rfl
theorem exec_updRequest (upd : Bool) : exec (.updRequest upd) s = execUpdRequest upd s := rfl
theorem exec_domainReset (mask : Nat) : exec (.domainReset mask) s = execDomainReset mask s := rfl
theorem exec_sysReset (sw : Bool) (code : Nat) : exec (.sysReset sw code) s = execSysReset sw code s := rfl
theorem exec_coreReset (sw : Bool) (code : Nat) : exec (.coreReset sw code) s = execCoreReset sw code s := rfl
theorem exec_adReset (code : Nat) : exec (.adReset code) s = execAdReset code s := rfl
theorem exec_qspiProgram (len : Fin 512) : exec (.qspiProgram len) s = execQspiProgram len s := rfl
theorem exec_qspiErase4k : exec .qspiErase4k s = execQspiErase4k s := rfl
theorem exec_qspiErase64k : exec .qspiErase64k s = execQspiErase64k s := rfl
theorem exec_qspiRead (len : Fin 512) : exec (.qspiRead len) s = execQspiRead len s := rfl
theorem exec_qspiDone : exec .qspiDone s = execQspiDone s := rfl
theorem exec_qspiTimeout : exec .qspiTimeout s = execQspiTimeout s := rfl
theorem exec_ntcSample (c0 c1 : Fin 4096) : exec (.ntcSample c0 c1) s = execNtcSample c0 c1 s := rfl
theorem exec_cdSensorSample (a b : BitVec 16) : exec (.cdSensorSample a b) s = execCdSensorSample a b s := rfl
theorem exec_forecast : exec .forecast s = execForecast s := rfl
theorem exec_planMissTimeout : exec .planMissTimeout s = execPlanMissTimeout s := rfl
theorem exec_cdHotTimer : exec .cdHotTimer s = execCdHotTimer s := rfl
theorem exec_watchordTimeout : exec .watchordTimeout s = execWatchordTimeout s := rfl
theorem exec_stepTest : exec .stepTest s = execStepTest s := rfl
theorem exec_stepTestAbort : exec .stepTestAbort s = execStepTestAbort s := rfl
theorem exec_stepTestSample : exec .stepTestSample s = execStepTestSample s := rfl
theorem exec_eventRaise (id cls src arg0 arg1 arg2 : Nat) : exec (.eventRaise id cls src arg0 arg1 arg2) s = execEventRaise id cls src arg0 arg1 arg2 s := rfl
theorem exec_coalesceClose : exec .coalesceClose s = execCoalesceClose s := rfl
theorem exec_logRecordWrite : exec .logRecordWrite s = execLogRecordWrite s := rfl
theorem exec_logRelease (slot : Nat) : exec (.logRelease slot) s = execLogRelease slot s := rfl
theorem exec_pageStart : exec .pageStart s = execPageStart s := rfl
theorem exec_flushTimeout : exec .flushTimeout s = execFlushTimeout s := rfl
theorem exec_pagePersisted (left : Option (List Byte)) : exec (.pagePersisted left) s = execPagePersisted left s := rfl
theorem exec_flush : exec .flush s = execFlush s := rfl
theorem exec_prestart : exec .prestart s = execPrestart s := rfl
theorem exec_firmwareEvent (idlo cls : Nat) : exec (.firmwareEvent idlo cls) s = execFirmwareEvent idlo cls s := rfl
theorem exec_gpioSet (data : Word) : exec (.gpioSet data) s = execGpioSet data s := rfl
theorem exec_gpioClr (data : Word) : exec (.gpioClr data) s = execGpioClr data s := rfl
theorem exec_gpioEdge (pin : Fin 24) (level : Bool) : exec (.gpioEdge pin level) s = execGpioEdge pin level s := rfl
theorem exec_uartTxd (i : Fin 2) (data : Byte) : exec (.uartTxd ch data) s = execUartTxd ch data s := rfl
theorem exec_uartRxByte (i : Fin 2) (data : Byte) (kind : Fin 5) : exec (.uartRxByte ch data kind) s = execUartRxByte ch data kind s := rfl
theorem exec_spiTransfer (len : Fin 256) (cs : Fin 8) (hold : Bool) (miso : List Byte) : exec (.spiTransfer len cs hold miso) s = execSpiTransfer len cs hold miso s := rfl
theorem exec_spiTxd (data : Byte) : exec (.spiTxd data) s = execSpiTxd data s := rfl
theorem exec_spiTransferDone : exec .spiTransferDone s = execSpiTransferDone s := rfl
theorem exec_trainingRetry : exec .trainingRetry s = execTrainingRetry s := rfl
theorem exec_sbWakeHeld : exec .sbWakeHeld s = execSbWakeHeld s := rfl
theorem exec_encoderEdge (up : Bool) : exec (.encoderEdge up) s = execEncoderEdge up s := rfl
theorem exec_pgFall (n : Fin 8) (timeout : Bool) : exec (.pgFall n timeout) s = execPgFall n timeout s := rfl
theorem exec_xo25StartTimeout : exec .xo25StartTimeout s = execXo25StartTimeout s := rfl
theorem exec_uartTxComplete (i : Fin 2) : exec (.uartTxComplete ch) s = execUartTxComplete ch s := rfl

end Sys2Proof.Machine
end

