-- ==== Sys2Proof/Laws/Keeps.lean ====
section
/-! SUPPORT. What a command does not do to the queue, the clock and the memories (`Keeps`): it holds of every named operation and
of every meaning, so a claim about every step follows from one lemma per command. -/

namespace Sys2Proof.Machine

/-- From `s` to `t` the boot ROM, the queue and the time are the same; and if the memories of `s` are in canonical form, those of
`t` are, and no OTP bit is lost. -/
structure KeepsBut (s t : State) : Prop where
  rom : t.rom = s.rom
  pending : t.pending = s.pending
  now : t.now = s.now
  mem : s.memWf = true → t.memWf = true ∧ OtpKept s t

/-- From `s` to `t` the boot ROM, OTP, the queue and the time are the same, and canonical memories stay canonical; SRAM
is the same if `ms`, the flash array if `mf`, DRAM and the shelf if `ma`. -/
structure Keeps (ms mf ma : Bool) (s t : State) : Prop where
  rom : t.rom = s.rom
  otp : t.otp = s.otp
  pending : t.pending = s.pending
  now : t.now = s.now
  mem : s.memWf = true → t.memWf = true
  sramSame : ms = true → t.sram = s.sram
  flashSame : mf = true → t.flash = s.flash
  adSame : ma = true → t.dram = s.dram ∧ t.shelf = s.shelf

variable {ms mf ma : Bool}

/-- The outcome keeps what `Keeps` says when it is a next state. -/
def KeepsOut (ms mf ma : Bool) (s : State) (o : Out) : Prop := ∀ t, o = .next t → Keeps ms mf ma s t

theorem OtpKept.refl (s : State) : OtpKept s s := fun a => by simp

theorem OtpKept.trans {s t u : State} (h : OtpKept s t) (k : OtpKept t u) : OtpKept s u := by
  intro a
  have h1 := h a
  have h2 := k a
  ext i hi
  have e1 := congrArg (fun x => x.getLsbD i) h1
  have e2 := congrArg (fun x => x.getLsbD i) h2
  simp [hi] at e1 e2 ⊢
  tauto

theorem Keeps.refl (s : State) : Keeps ms mf ma s s := ⟨rfl, rfl, rfl, rfl, id, fun _ => rfl, fun _ => rfl, fun _ => ⟨rfl, rfl⟩⟩

theorem Keeps.trans {s t u : State} (h : Keeps ms mf ma s t) (k : Keeps ms mf ma t u) : Keeps ms mf ma s u :=
  ⟨k.rom.trans h.rom, k.otp.trans h.otp, k.pending.trans h.pending, k.now.trans h.now, fun w => k.mem (h.mem w),
    fun w => (k.sramSame w).trans (h.sramSame w), fun w => (k.flashSame w).trans (h.flashSame w),
    fun w => ⟨(k.adSame w).1.trans (h.adSame w).1, (k.adSame w).2.trans (h.adSame w).2⟩⟩

theorem Keeps.but {s t : State} (h : Keeps false false false s t) : KeepsBut s t :=
  ⟨h.rom, h.pending, h.now, fun w => ⟨h.mem w, fun a => by simp [h.otp]⟩⟩

theorem KeepsBut.trans {s t u : State} (h : KeepsBut s t) (k : KeepsBut t u) : KeepsBut s u :=
  ⟨k.rom.trans h.rom, k.pending.trans h.pending, k.now.trans h.now,
    fun w => ⟨(k.mem (h.mem w).1).1, (h.mem w).2.trans (k.mem (h.mem w).1).2⟩⟩

/-! ### Rules by which a proof follows a definition's own form -/

/-- `Keeps` for the state an operation may answer. -/
def KeepsOpt (ms mf ma : Bool) (s : State) (o : Option State) : Prop := ∀ t, o = some t → Keeps ms mf ma s t

/-- `Keeps` for the state beside a value that an operation may answer. -/
def KeepsOptR {α : Type _} (ms mf ma : Bool) (s : State) (o : Option (α × State)) : Prop := ∀ v t, o = some (v, t) → Keeps ms mf ma s t

section Branches

variable {α : Type _} {β : Type _} {s : State} {c : Prop} {inst : Decidable c}

theorem Keeps.cond {a b : State} (ha : Keeps ms mf ma s a) (hb : Keeps ms mf ma s b) : Keeps ms mf ma s (@ite _ c inst a b) := by
  split <;> assumption

theorem Keeps.condL {a b : State × α} (ha : Keeps ms mf ma s a.1) (hb : Keeps ms mf ma s b.1) : Keeps ms mf ma s (@ite _ c inst a b).1 := by
  split <;> assumption

theorem Keeps.condR {a b : α × State} (ha : Keeps ms mf ma s a.2) (hb : Keeps ms mf ma s b.2) : Keeps ms mf ma s (@ite _ c inst a b).2 := by
  split <;> assumption

theorem Keeps.condRL {a b : α × State × β} (ha : Keeps ms mf ma s a.2.1) (hb : Keeps ms mf ma s b.2.1) :
    Keeps ms mf ma s (@ite _ c inst a b).2.1 := by split <;> assumption

theorem KeepsOpt.cond {a b : Option State} (ha : KeepsOpt ms mf ma s a) (hb : KeepsOpt ms mf ma s b) : KeepsOpt ms mf ma s (@ite _ c inst a b) := by
  split <;> assumption

theorem KeepsOptR.cond {a b : Option (α × State)} (ha : KeepsOptR ms mf ma s a) (hb : KeepsOptR ms mf ma s b) :
    KeepsOptR ms mf ma s (@ite _ c inst a b) := by split <;> assumption

theorem KeepsOut.cond {a b : Out} (ha : KeepsOut ms mf ma s a) (hb : KeepsOut ms mf ma s b) : KeepsOut ms mf ma s (@ite _ c inst a b) := by
  split <;> assumption

end Branches

theorem KeepsOpt.none {s : State} : KeepsOpt ms mf ma s Option.none := fun _ h => by cases h
theorem KeepsOpt.some {s e : State} (h : Keeps ms mf ma s e) : KeepsOpt ms mf ma s (Option.some e) := fun _ k => by cases k; exact h
theorem KeepsOpt.out {s t : State} {o : Option State} (h : KeepsOpt ms mf ma s o) (k : o = Option.some t) : Keeps ms mf ma s t := h t k
theorem KeepsOptR.none {α : Type _} {s : State} : KeepsOptR ms mf ma s (Option.none : Option (α × State)) := fun _ _ h => by cases h
theorem KeepsOptR.some {α : Type _} {s : State} {p : α × State} (h : Keeps ms mf ma s p.2) : KeepsOptR ms mf ma s (Option.some p) :=
  fun _ _ k => by cases k; exact h
theorem KeepsOptR.out {α : Type _} {s t : State} {v : α} {o : Option (α × State)} (h : KeepsOptR ms mf ma s o)
    (k : o = Option.some (v, t)) : Keeps ms mf ma s t := h v t k
theorem Keeps.eqL {α : Type _} {s t : State} {v : α} {p : State × α} (h : Keeps ms mf ma s p.1) (k : p = (t, v)) : Keeps ms mf ma s t := by
  rw [k] at h; exact h
theorem Keeps.eqR {α : Type _} {s t : State} {v : α} {p : α × State} (h : Keeps ms mf ma s p.2) (k : p = (v, t)) : Keeps ms mf ma s t := by
  rw [k] at h; exact h

theorem Keeps.foldl {α : Type _} {s e : State} {f : State → α → State} {l : List α} (h : Keeps ms mf ma s e)
    (hf : ∀ x a, Keeps ms mf ma s x → Keeps ms mf ma s (f x a)) : Keeps ms mf ma s (l.foldl f e) := by
  induction l generalizing e with
  | nil => exact h
  | cons a l ih => exact ih (hf _ _ h)

theorem Keeps.foldlL {α β : Type _} {s : State} {e : State × β} {f : State × β → α → State × β} {l : List α} (h : Keeps ms mf ma s e.1)
    (hf : ∀ x a, Keeps ms mf ma s x.1 → Keeps ms mf ma s (f x a).1) : Keeps ms mf ma s (l.foldl f e).1 := by
  induction l generalizing e with
  | nil => exact h
  | cons a l ih => exact ih (hf _ _ h)

theorem Keeps.foldlR {α β : Type _} {s : State} {e : β × State} {f : β × State → α → β × State} {l : List α} (h : Keeps ms mf ma s e.2)
    (hf : ∀ x a, Keeps ms mf ma s x.2 → Keeps ms mf ma s (f x a).2) : Keeps ms mf ma s (l.foldl f e).2 := by
  induction l generalizing e with
  | nil => exact h
  | cons a l ih => exact ih (hf _ _ h)

theorem Keeps.pairL {α : Type _} {s e : State} {v : α} (h : Keeps ms mf ma s e) : Keeps ms mf ma s (e, v).1 := h
theorem Keeps.pairR {α : Type _} {s e : State} {v : α} (h : Keeps ms mf ma s e) : Keeps ms mf ma s (v, e).2 := h

theorem KeepsOut.next {s e : State} (h : Keeps ms mf ma s e) : KeepsOut ms mf ma s (.next e) := by
  intro t ht; cases ht; exact h

theorem KeepsOut.out {s t : State} {o : Out} (h : KeepsOut ms mf ma s o) (ht : o = .next t) : Keeps ms mf ma s t := h t ht

/-! ### Changes of single parts of State -/

/-- Everything `Keeps` does not speak of may change. -/
theorem Keeps.upd {s e : State} (h : Keeps ms mf ma s e) {freeCtr resp regs flagAt timers progs evl cil lck ten asy ing flt i2c lux tlt sio tim sil ad
    pmu cpu thm qspi uart spi net crn} : Keeps ms mf ma s { e with
      freeCtr := freeCtr, resp := resp, regs := regs, flagAt := flagAt, timers := timers, progs := progs, evl := evl, cil := cil, lck := lck, ten := ten,
      asy := asy, ing := ing, flt := flt, i2c := i2c, lux := lux, tlt := tlt, sio := sio, tim := tim, sil := sil, ad := ad, pmu := pmu,
      cpu := cpu, thm := thm, qspi := qspi, uart := uart, spi := spi, net := net, crn := crn } :=
  h.trans ⟨rfl, rfl, rfl, rfl, id, fun _ => rfl, fun _ => rfl, fun _ => ⟨rfl, rfl⟩⟩

theorem State.memWf_iff {s : State} : s.memWf = true ↔ Sparse.wf 0 s.sram = true ∧ Sparse.wf erasedByte s.flash = true
    ∧ Sparse.wf 0 s.otp = true ∧ Sparse.wf 0 s.rom = true ∧ Sparse.wf 0 s.dram = true ∧ Sparse.wf 0 s.shelf = true := by
  simp [State.memWf, Bool.and_eq_true, and_assoc]

theorem Keeps.sram {s e : State} (h : Keeps false mf ma s e) {m : Sparse Byte} (hm : Sparse.wf 0 e.sram = true → Sparse.wf 0 m = true) :
    Keeps false mf ma s { e with sram := m } :=
  h.trans ⟨rfl, rfl, rfl, rfl, fun w => by rw [State.memWf_iff] at w ⊢; exact ⟨hm w.1, w.2⟩,
    nofun, fun _ => rfl, fun _ => ⟨rfl, rfl⟩⟩

theorem Keeps.flash {s e : State} (h : Keeps ms false ma s e) {m : Sparse Byte}
    (hm : Sparse.wf erasedByte e.flash = true → Sparse.wf erasedByte m = true) : Keeps ms false ma s { e with flash := m } :=
  h.trans ⟨rfl, rfl, rfl, rfl, fun w => by rw [State.memWf_iff] at w ⊢; exact ⟨w.1, hm w.2.1, w.2.2⟩,
    fun _ => rfl, nofun, fun _ => ⟨rfl, rfl⟩⟩

theorem Keeps.dram {s e : State} (h : Keeps ms mf false s e) {m : Sparse Byte} (hm : Sparse.wf 0 e.dram = true → Sparse.wf 0 m = true) :
    Keeps ms mf false s { e with dram := m } :=
  h.trans ⟨rfl, rfl, rfl, rfl, fun w => by rw [State.memWf_iff] at w ⊢; exact ⟨w.1, w.2.1, w.2.2.1, w.2.2.2.1, hm w.2.2.2.2.1, w.2.2.2.2.2⟩,
    fun _ => rfl, fun _ => rfl, nofun⟩

theorem Keeps.shelf {s e : State} (h : Keeps ms mf false s e) {m : Sparse Byte} (hm : Sparse.wf 0 e.shelf = true → Sparse.wf 0 m = true) :
    Keeps ms mf false s { e with shelf := m } :=
  h.trans ⟨rfl, rfl, rfl, rfl, fun w => by rw [State.memWf_iff] at w ⊢; exact ⟨w.1, w.2.1, w.2.2.1, w.2.2.2.1, w.2.2.2.2.1, hm w.2.2.2.2.2⟩,
    fun _ => rfl, fun _ => rfl, nofun⟩

/-- A fold of single writes keeps the canonical form. -/
theorem Sparse.wf_foldl {α β : Type} [DecidableEq α] {d : α} (f : Sparse α × Nat → β → Sparse α × Nat)
    (hf : ∀ m b, Sparse.wf d m.1 = true → Sparse.wf d (f m b).1 = true) (l : List β) :
    ∀ m : Sparse α × Nat, Sparse.wf d m.1 = true → Sparse.wf d (l.foldl f m).1 = true := by
  induction l with
  | nil => exact fun _ h => h
  | cons b l ih => exact fun m h => ih _ (hf m b h)

theorem wf_flashProgram (l : List Byte) : ∀ {m : Sparse Byte} (a : Nat), Sparse.wf erasedByte m = true →
    Sparse.wf erasedByte (flashProgram m a l) = true := by
  induction l with
  | nil => exact fun _ h => h
  | cons b l ih => exact fun a h => ih (a + 1) (Sparse.wf_set _ _ h)

theorem wf_otpBurn (l : List Byte) : ∀ {m : Sparse Byte} (a : Nat), Sparse.wf 0 m = true → Sparse.wf 0 (otpBurn m a l) = true := by
  induction l with
  | nil => exact fun _ h => h
  | cons b l ih => exact fun a h => ih (a + 1) (Sparse.wf_set _ _ h)

/-- A burn sets bits and clears none. -/
theorem otpBurn_kept (l : List Byte) : ∀ {m : Sparse Byte} (a j : Nat), Sparse.wf 0 m = true →
    Sparse.get 0 m j &&& ~~~(Sparse.get 0 (otpBurn m a l) j) = 0 := by
  induction l with
  | nil => intro m a j _; simp [otpBurn]
  | cons b l ih =>
    intro m a j h
    have h1 := ih (a + 1) j (Sparse.wf_set a (Sparse.get 0 m a ||| b) h)
    rw [Sparse.get_set a j _ h] at h1
    rw [otpBurn]
    split at h1
    · next haj =>
      subst haj
      ext i hi
      have e1 := congrArg (fun x => x.getLsbD i) h1
      simp [hi] at e1 ⊢
      tauto
    · exact h1

theorem KeepsBut.burn {s e : State} (h : KeepsBut s e) (a : Nat) (l : List Byte) : KeepsBut s (e.burn a l) :=
  h.trans ⟨rfl, rfl, rfl, fun w => by
    rw [State.memWf_iff] at w
    refine ⟨?_, fun j => otpBurn_kept l a j w.2.2.1⟩
    rw [State.memWf_iff]
    exact ⟨w.1, w.2.1, wf_otpBurn l a w.2.2.1, w.2.2.2⟩⟩

end Sys2Proof.Machine
end

