-- ==== Sys2Proof/Laws/KeepsCore.lean ====
section
/-! SUPPORT. `Keeps` for the named operations, the change log, the trip aggregator, the time bases and the lights. -/

namespace Sys2Proof.Machine

variable {ms mf ma : Bool}

theorem Keeps.setF {s e : State} {a1} {a2} (h : Keeps ms mf ma s e) : Keeps ms mf ma s (State.setF e a1 a2) := by
  delta State.setF
  exact h.upd

theorem Keeps.setFs {s e : State} {a1} (h : Keeps ms mf ma s e) : Keeps ms mf ma s (State.setFs e a1) := by
  delta State.setFs
  exact Keeps.foldl h (fun _ _ h0 => h0.setF)

theorem Keeps.flagBits {s e : State} {a1} {a2} (h : Keeps ms mf ma s e) : Keeps ms mf ma s (State.flagBits e a1 a2) := by
  delta State.flagBits
  extract_lets +onlyGivenNames x0
  have h0 : Keeps ms mf ma s x0 := h.setF
  clear_value x0
  exact h0.upd

theorem Keeps.flag {s e : State} {a1} (h : Keeps ms mf ma s e) : Keeps ms mf ma s (State.flag e a1) := by
  delta State.flag
  exact h.flagBits

theorem Keeps.setFlags {s e : State} {a1} {a2} (h : Keeps ms mf ma s e) : Keeps ms mf ma s (State.setFlags e a1 a2) := by
  delta State.setFlags
  exact Keeps.foldl h.setFs (fun _ _ h0 => h0.flag)

theorem Keeps.changeRc {s e : State} {a1} {a2} (h : Keeps ms mf ma s e) : Keeps ms mf ma s (State.changeRc e a1 a2) := by
  delta State.changeRc
  extract_lets +onlyGivenNames x0
  clear_value x0
  extract_lets +onlyGivenNames x1
  have h1 : Keeps ms mf ma s x1 := h.setF
  clear_value x1
  exact h1.upd

theorem Keeps.clearRc {s e : State} {a1} (h : Keeps ms mf ma s e) : Keeps ms mf ma s (State.clearRc e a1) := by
  delta State.clearRc
  split
  · exact Keeps.cond h h.setF
  · exact h.setF

theorem Keeps.satAdd {s e : State} {a1} {a2} (h : Keeps ms mf ma s e) : Keeps ms mf ma s (State.satAdd e a1 a2) := by
  delta State.satAdd
  exact h.setF

theorem Keeps.satInc {s e : State} {a1} (h : Keeps ms mf ma s e) : Keeps ms mf ma s (State.satInc e a1) := by
  delta State.satInc
  exact h.satAdd

theorem Keeps.wrapAdd {s e : State} {a1} {a2} (h : Keeps ms mf ma s e) : Keeps ms mf ma s (State.wrapAdd e a1 a2) := by
  delta State.wrapAdd
  exact h.setF

theorem Keeps.wrapInc {s e : State} {a1} (h : Keeps ms mf ma s e) : Keeps ms mf ma s (State.wrapInc e a1) := by
  delta State.wrapInc
  exact h.wrapAdd

theorem Keeps.setBitF {s e : State} {a1} {a2} {a3} (h : Keeps ms mf ma s e) : Keeps ms mf ma s (State.setBitF e a1 a2 a3) := by
  delta State.setBitF
  exact h.setF

theorem Keeps.clearRegs {s e : State} {a1} {a2} (h : Keeps ms mf ma s e) : Keeps ms mf ma s (State.clearRegs e a1 a2) := by
  delta State.clearRegs
  exact h.upd

theorem Keeps.disarm {s e : State} {a1} (h : Keeps ms mf ma s e) : Keeps ms mf ma s (State.disarm e a1) := by
  delta State.disarm
  exact h.upd

theorem Keeps.armAt {s e : State} {a1} {a2} (h : Keeps ms mf ma s e) : Keeps ms mf ma s (State.armAt e a1 a2) := by
  delta State.armAt
  exact h.upd

theorem Keeps.arm {s e : State} {a1} {a2} (h : Keeps ms mf ma s e) : Keeps ms mf ma s (State.arm e a1 a2) := by
  delta State.arm
  exact h.armAt

theorem Keeps.rearm {s e : State} {a1} {a2} (h : Keeps ms mf ma s e) : Keeps ms mf ma s (State.rearm e a1 a2) := by
  delta State.rearm
  split
  · exact h.armAt
  · exact h.arm

theorem Keeps.draw {s e : State} {a1} (h : Keeps ms mf ma s e) : Keeps ms mf ma s (State.draw e a1).2 := by
  delta State.draw
  exact Keeps.pairR h.upd

theorem Keeps.drawBelow {s e : State} {a1} (h : Keeps ms mf ma s e) : Keeps ms mf ma s (State.drawBelow e a1).2 := by
  delta State.drawBelow
  extract_lets +onlyGivenNames x0
  have h0 : Keeps ms mf ma s x0.2 := h.draw
  clear_value x0
  exact Keeps.pairR h0

theorem Keeps.program {s e : State} {a1} {a2} (h : Keeps ms false ma s e) : Keeps ms false ma s (State.program e a1 a2) := h.flash (wf_flashProgram _ _)

theorem Keeps.erase {s e : State} {a1} {a2} (h : Keeps ms false ma s e) : Keeps ms false ma s (State.erase e a1 a2) := h.flash (Sparse.wf_clear _ _)

theorem Keeps.flashLeave {s e : State} {a1} {a2} (h : Keeps ms false ma s e) : Keeps ms false ma s (State.flashLeave e a1 a2) := h.flash (Sparse.wf_setList _ _)

theorem Keeps.sramWrite {s e : State} {a1} {a2} (h : Keeps false mf ma s e) : Keeps false mf ma s (State.sramWrite e a1 a2) := h.sram (Sparse.wf_setList _ _)

theorem Keeps.dramWrite {s e : State} {a1} {a2} (h : Keeps ms mf false s e) : Keeps ms mf false s (State.dramWrite e a1 a2) := h.dram (Sparse.wf_setList _ _)

theorem Keeps.doIf {s e : State} {a1} {a2} (h : Keeps ms mf ma s e) (f2 : ∀ y0, Keeps ms mf ma s y0 → Keeps ms mf ma s (a2 y0)) : Keeps ms mf ma s (State.doIf e a1 a2) := by
  delta State.doIf
  exact Keeps.cond (f2 _ h) h

theorem Keeps.forN {s e : State} {a1} {a2} (h : Keeps ms mf ma s e) (f2 : ∀ y0, ∀ y1, Keeps ms mf ma s y1 → Keeps ms mf ma s (a2 y0 y1)) : Keeps ms mf ma s (State.forN e a1 a2) := by
  delta State.forN
  exact Keeps.foldl h (fun _ _ h0 => f2 _ _ h0)

theorem Keeps.forL {α : Type} {s e : State} {a2 : List α} {a3} (h : Keeps ms mf ma s e) (f3 : ∀ y0 y1, Keeps ms mf ma s y1 → Keeps ms mf ma s (a3 y0 y1)) :
    Keeps ms mf ma s (State.forL e a2 a3) := by
  delta State.forL
  exact Keeps.foldl h fun _ _ h0 => f3 _ _ h0

theorem Keeps.evlSet {s e : State} {a1} (h : Keeps ms mf ma s e) : Keeps ms mf ma s (State.evlSet e a1) := by
  delta State.evlSet
  exact h.upd

theorem Keeps.closeCoal {s e : State} {a1} (h : Keeps ms mf ma s e) : Keeps ms mf ma s (State.closeCoal e a1) := by
  delta State.closeCoal
  split
  · exact h
  · extract_lets +onlyGivenNames x0
    clear_value x0
    exact h.evlSet

theorem Keeps.closeDue {s e : State} (h : Keeps ms mf ma s e) : Keeps ms mf ma s (State.closeDue e) := by
  delta State.closeDue
  exact h.forL (fun _ _ h0 => h0.closeCoal)

theorem Keeps.evQueue {s e : State} {a1} {a2} (h : Keeps ms mf ma s e) : Keeps ms mf ma s (State.evQueue e a1 a2) := by
  delta State.evQueue
  extract_lets +onlyGivenNames x0
  have h0 : Keeps ms mf ma s x0 := Keeps.cond (by
    split
    · exact h.closeCoal
    · exact h) h
  clear_value x0
  extract_lets +onlyGivenNames x1
  clear_value x1
  extract_lets +onlyGivenNames x2
  clear_value x2
  extract_lets +onlyGivenNames x3
  have h3 : Keeps ms mf ma s x3 := h0.evlSet
  clear_value x3
  exact Keeps.cond h3.changeRc h3

theorem Keeps.evIntake {s e : State} {a1} (h : Keeps ms mf ma s e) : Keeps ms mf ma s (State.evIntake e a1) := by
  delta State.evIntake
  extract_lets +onlyGivenNames x0
  have h0 : Keeps ms mf ma s x0 := h.closeDue
  clear_value x0
  split
  · exact h0.evlSet
  · exact Keeps.cond h0.evQueue h0.satInc.flag

theorem Keeps.evHold {s e : State} {a1} (h : Keeps ms mf ma s e) : Keeps ms mf ma s (State.evHold e a1) := by
  delta State.evHold
  exact Keeps.cond h.evlSet h.evlSet

theorem Keeps.present {s e : State} {a1} (h : Keeps ms mf ma s e) : Keeps ms mf ma s (State.present e a1) := by
  delta State.present
  exact Keeps.cond h.evIntake h.evHold

theorem Keeps.raise {s e : State} {a1} {a2} {a3} {a4} (h : Keeps ms mf ma s e) : Keeps ms mf ma s (State.raise e a1 a2 a3 a4) := by
  delta State.raise
  exact h.present

theorem Keeps.raiseFrom {s e : State} {a1} {a2} {a3} {a4} (h : Keeps ms mf ma s e) : Keeps ms mf ma s (State.raiseFrom e a1 a2 a3 a4) := by
  delta State.raiseFrom
  exact h.present

theorem Keeps.raiseInt {s e : State} {a1} {a2} {a3} {a4} (h : Keeps ms mf ma s e) : Keeps ms mf ma s (State.raiseInt e a1 a2 a3 a4) := by
  delta State.raiseInt
  exact h.flag.raise

theorem Keeps.stepFail {s e : State} {a1} (h : Keeps ms mf ma s e) : Keeps ms mf ma s (State.stepFail e a1) := by
  delta State.stepFail
  exact Keeps.cond h.setFs.disarm.raiseInt h

theorem Keeps.answer {s e : State} {a1} (h : Keeps ms mf ma s e) : Keeps ms mf ma s (State.answer e a1) := by
  delta State.answer
  exact h.upd

theorem Keeps.access {s e : State} {a1} {a2} (h : Keeps ms mf ma s e) (f2 : ∀ y0, Keeps ms mf ma s y0 → Keeps ms mf ma s (a2 y0)) : Keeps ms mf ma s (State.access e a1 a2) := by
  delta State.access
  exact Keeps.cond (f2 _ h.answer) h.answer

theorem Keeps.showSlots {s e : State} (h : Keeps ms mf ma s e) : Keeps ms mf ma s (State.showSlots e) := by
  delta State.showSlots
  extract_lets +onlyGivenNames x0
  clear_value x0
  extract_lets +onlyGivenNames x1
  have h1 : Keeps ms mf ma s x1 := h.setF.setF
  clear_value x1
  extract_lets +onlyGivenNames x2
  have h2 : Keeps ms mf ma s x2 := Keeps.cond h1.setF.raise h1
  clear_value x2
  extract_lets +onlyGivenNames x3
  have h3 : Keeps ms mf ma s x3 := Keeps.cond h2.setF.raise h2
  clear_value x3
  split
  · exact h3.setF.setF
  · exact h3.setF

theorem Keeps.setSlot {s e : State} {a1} {a2} (h : Keeps ms false ma s e) : Keeps ms false ma s (State.setSlot e a1 a2) := by
  delta State.setSlot
  exact (h.forN (fun _ _ h0 => h0.program)).showSlots

theorem Keeps.eraseSlot {s e : State} {a1} (h : Keeps ms false ma s e) : Keeps ms false ma s (State.eraseSlot e a1) := by
  delta State.eraseSlot
  exact h.erase.erase.showSlots

theorem Keeps.logTry {s e : State} {a0} {a2} (h : Keeps ms false ma s e) : Keeps ms false ma s (State.logTry a0 e a2).1 := by
  induction a0 generalizing e a2 with
  | zero =>
    rw [State.logTry.eq_1]
    exact Keeps.pairL h.raise
  | succ n ih =>
    rw [State.logTry.eq_2]
    split
    · exact Keeps.pairL (((((Keeps.cond h.erase h).upd).program).setF).upd)
    · apply ih
      exact (Keeps.cond h.erase h).upd
    · apply ih
      exact (((Keeps.cond h.erase h).upd).flashLeave).upd

theorem Keeps.logWrite {s e : State} {a1} (h : Keeps ms false ma s e) : Keeps ms false ma s (State.logWrite e a1).1 := by
  delta State.logWrite
  exact h.logTry

theorem Keeps.log {s e : State} {a1} (h : Keeps ms false ma s e) : Keeps ms false ma s (State.log e a1) := by
  delta State.log
  exact h.logWrite

theorem Keeps.logFind {s e : State} (h : Keeps ms mf ma s e) : Keeps ms mf ma s (State.logFind e) := by
  delta State.logFind
  extract_lets +onlyGivenNames x0 x1
  clear_value x1 x0
  split
  · exact h.upd.doIf (fun _ h1 => h1.raise)
  · exact (h.upd.setF.doIf (fun _ h1 => h1.raise)).doIf (fun _ h1 => h1.raise)

theorem Keeps.showKeys {s e : State} (h : Keeps ms mf ma s e) : Keeps ms mf ma s (State.showKeys e) := by
  delta State.showKeys
  extract_lets +onlyGivenNames x0
  clear_value x0
  exact h.setFs

theorem Keeps.otpCheck {s e : State} (h : Keeps ms mf ma s e) : Keeps ms mf ma s (State.otpCheck e) := by
  delta State.otpCheck
  extract_lets +onlyGivenNames x0
  clear_value x0
  extract_lets +onlyGivenNames x1
  have h1 : Keeps ms mf ma s x1 := h.showKeys
  clear_value x1
  extract_lets +onlyGivenNames x2
  have h2 : Keeps ms mf ma s x2 := h1.setF
  clear_value x2
  extract_lets +onlyGivenNames x3
  have h3 : Keeps ms mf ma s x3 := h2.setF
  clear_value x3
  extract_lets +onlyGivenNames x4
  have h4 : Keeps ms mf ma s x4 := by
    unfold x4
    split
    · exact h3.setF
    · exact h3
  clear_value x4
  exact (h4.forL (fun _ _ h5 => h5.raiseInt)).doIf (fun _ h5 => h5.raise)

theorem Keeps.clearPassword {s e : State} (h : Keeps ms mf ma s e) : Keeps ms mf ma s (State.clearPassword e) := by
  delta State.clearPassword
  exact h.forN (fun _ _ h0 => h0.setF)

theorem Keeps.endSession {s e : State} (h : Keeps ms mf ma s e) : Keeps ms mf ma s (State.endSession e) := by
  delta State.endSession
  exact h.setF.disarm

theorem Keeps.startLockout {s e : State} (h : Keeps ms mf ma s e) : Keeps ms mf ma s (State.startLockout e) := by
  delta State.startLockout
  exact h.setF.arm

theorem Keeps.execPasswordVerify {s e : State} {a0} (h : Keeps ms mf ma s e) : KeepsOut ms mf ma s (execPasswordVerify a0 e) := by
  delta execPasswordVerify
  exact KeepsOut.next (h.access (fun _ h0 => Keeps.cond h0.flag (Keeps.cond h0.flag.clearPassword (by
    extract_lets +onlyGivenNames x1
    have h1 : Keeps ms mf ma s x1 := h0.setF
    clear_value x1
    exact h1.upd))))

theorem Keeps.authOk {s e : State} (h : Keeps ms false ma s e) : Keeps ms false ma s (State.authOk e) := by
  delta State.authOk
  extract_lets +onlyGivenNames x0
  have h0 : Keeps ms false ma s x0.1 := h.logWrite
  clear_value x0
  exact Keeps.cond h0.setF.arm.setF.raiseInt h0

theorem Keeps.authFail {s e : State} (h : Keeps ms false ma s e) : Keeps ms false ma s (State.authFail e) := by
  delta State.authFail
  extract_lets +onlyGivenNames x0
  have h0 : Keeps ms false ma s x0.1 := h.logWrite
  clear_value x0
  exact Keeps.cond h0 (Keeps.cond h0.setF.raiseInt (by
    extract_lets +onlyGivenNames x1
    have h1 : Keeps ms false ma s x1.1 := h0.logWrite
    clear_value x1
    exact Keeps.cond h1 (by
      extract_lets +onlyGivenNames x2
      have h2 : Keeps ms false ma s x2 := h1.setF.raiseInt
      clear_value x2
      exact h2.startLockout.raiseInt)))

theorem Keeps.execVerificationDone {s e : State} {a0} (h : Keeps ms false ma s e) : KeepsOut ms false ma s (execVerificationDone a0 e) := by
  delta execVerificationDone
  exact KeepsOut.next (by
    split
    · exact h
    · extract_lets +onlyGivenNames x0
      have h0 : Keeps ms false ma s x0 := h.upd
      clear_value x0
      extract_lets +onlyGivenNames x1
      have h1 : Keeps ms false ma s x1 := Keeps.cond h0.authOk h0.authFail
      clear_value x1
      extract_lets +onlyGivenNames x2
      have h2 : Keeps ms false ma s x2 := h1.setF.clearPassword
      clear_value x2
      exact h2.upd)

theorem Keeps.execAuthEnd {s e : State} (h : Keeps ms mf ma s e) : KeepsOut ms mf ma s (execAuthEnd e) := by
  delta execAuthEnd
  exact KeepsOut.next (h.access (fun _ h0 => h0.endSession))

theorem Keeps.execSessionExpiry {s e : State} (h : Keeps ms mf ma s e) : KeepsOut ms mf ma s (execSessionExpiry e) := by
  delta execSessionExpiry
  exact KeepsOut.next (Keeps.cond h.endSession h)

theorem Keeps.execLockEnd {s e : State} {a0} (h : Keeps ms false ma s e) : KeepsOut ms false ma s (execLockEnd a0 e) := by
  delta execLockEnd
  exact KeepsOut.next (Keeps.cond (by
    extract_lets +onlyGivenNames x0
    have h0 : Keeps ms false ma s x0 := h.disarm.setF.setF
    clear_value x0
    extract_lets +onlyGivenNames x1
    have h1 : Keeps ms false ma s x1 := h0.upd.log
    clear_value x1
    exact h1.upd) h)

theorem Keeps.closeKey {s e : State} {a1} (h : Keeps ms mf ma s e) : Keeps ms mf ma s (State.closeKey e a1) := by
  delta State.closeKey
  exact h.setBitF.disarm

theorem Keeps.execKeyOpen {s e : State} {a0} {a1} (h : Keeps ms mf ma s e) : KeepsOut ms mf ma s (execKeyOpen a0 a1 e) := by
  delta execKeyOpen
  exact KeepsOut.next (h.access (fun _ h0 => by
    extract_lets +onlyGivenNames x1
    clear_value x1
    exact Keeps.cond h0.flag (Keeps.cond h0.raiseInt h0.setBitF.arm)))

theorem Keeps.execKeyClose {s e : State} {a0} {a1} (h : Keeps ms mf ma s e) : KeepsOut ms mf ma s (execKeyClose a0 a1 e) := by
  delta execKeyClose
  exact KeepsOut.next (h.access (fun _ h0 => by
    extract_lets +onlyGivenNames x1
    clear_value x1
    exact Keeps.cond h0.flag h0.closeKey))

theorem Keeps.execKeyExpiry {s e : State} {a0} (h : Keeps ms mf ma s e) : KeepsOut ms mf ma s (execKeyExpiry a0 e) := by
  delta execKeyExpiry
  exact KeepsOut.next (Keeps.cond h.closeKey h)

theorem Keeps.keyViolation {s e : State} {a1} (h : Keeps ms mf ma s e) : Keeps ms mf ma s (State.keyViolation e a1) := by
  delta State.keyViolation
  exact h.answer.raiseInt

theorem Keeps.keyed {s e : State} {a1} {a2} {a3} (h : Keeps ms mf ma s e) (f3 : ∀ y0, Keeps ms mf ma s y0 → Keeps ms mf ma s (a3 y0)) : Keeps ms mf ma s (State.keyed e a1 a2 a3) := by
  delta State.keyed
  exact Keeps.cond h.answer (Keeps.cond (f3 _ h.answer) h.keyViolation)

theorem Keeps.enterSto {s e : State} (h : Keeps ms mf ma s e) : Keeps ms mf ma s (State.enterSto e) := by
  delta State.enterSto
  extract_lets +onlyGivenNames x0
  have h0 : Keeps ms mf ma s x0 := h.setF.disarm.raiseInt
  clear_value x0
  exact h0.upd

theorem Keeps.tltRefresh {s e : State} (h : Keeps ms mf ma s e) : Keeps ms mf ma s (State.tltRefresh e) := by
  delta State.tltRefresh
  extract_lets +onlyGivenNames x0
  clear_value x0
  exact Keeps.cond h (Keeps.cond (Keeps.cond h.setF.raise h) (Keeps.cond h h.enterSto))

theorem Keeps.deEnergise {s e : State} {a1} (h : Keeps ms mf ma s e) : Keeps ms mf ma s (State.deEnergise e a1) := by
  delta State.deEnergise
  extract_lets +onlyGivenNames x0
  clear_value x0
  extract_lets +onlyGivenNames x1
  clear_value x1
  extract_lets +onlyGivenNames x2
  clear_value x2
  extract_lets +onlyGivenNames x3
  have h3 : Keeps ms mf ma s x3 := h.doIf (fun _ h4 => h4.setF.setF)
  clear_value x3
  extract_lets +onlyGivenNames x5
  have h5 : Keeps ms mf ma s x5 := h3.doIf (fun _ h6 => h6.setF.setF)
  clear_value x5
  exact h5.doIf (fun _ h7 => h7.flag)

theorem Keeps.assertTrip {s e : State} {a1} {a2} (h : Keeps ms mf ma s e) : Keeps ms mf ma s (State.assertTrip e a1 a2) := by
  delta State.assertTrip
  extract_lets +onlyGivenNames x0
  clear_value x0
  extract_lets +onlyGivenNames x1
  have h1 : Keeps ms mf ma s x1 := Keeps.cond h h.flagBits
  clear_value x1
  extract_lets +onlyGivenNames x2
  have h2 : Keeps ms mf ma s x2 := h1.doIf (fun _ h3 => h3.setBitF)
  clear_value x2
  extract_lets +onlyGivenNames x4
  have h4 : Keeps ms mf ma s x4 := h2.deEnergise
  clear_value x4
  exact (h4.doIf (fun _ h5 => h5.raise)).tltRefresh

theorem Keeps.endTrip {s e : State} {a1} (h : Keeps ms mf ma s e) : Keeps ms mf ma s (State.endTrip e a1) := by
  delta State.endTrip
  exact h.setBitF.tltRefresh

theorem Keeps.followTrip {s e : State} {a1} {a2} (h : Keeps ms mf ma s e) : Keeps ms mf ma s (State.followTrip e a1 a2) := by
  delta State.followTrip
  exact Keeps.cond (Keeps.cond h h.assertTrip) (Keeps.cond h.endTrip h)

theorem Keeps.execArmA {s e : State} (h : Keeps ms mf ma s e) : KeepsOut ms mf ma s (execArmA e) := by
  delta execArmA
  exact KeepsOut.next (h.access (fun _ h0 => Keeps.cond h0.setF.setF.tltRefresh h0.flag))

theorem Keeps.execArmB {s e : State} (h : Keeps ms mf ma s e) : KeepsOut ms mf ma s (execArmB e) := by
  delta execArmB
  exact KeepsOut.next (h.access (fun _ h0 => Keeps.cond h0.setF.setF h0.flag))

theorem Keeps.execTripA {s e : State} (h : Keeps ms mf ma s e) : KeepsOut ms mf ma s (execTripA e) := by
  delta execTripA
  exact KeepsOut.next (h.access (fun _ h0 => h0.setF.assertTrip))

theorem Keeps.execTripB {s e : State} (h : Keeps ms mf ma s e) : KeepsOut ms mf ma s (execTripB e) := by
  delta execTripB
  exact KeepsOut.next (h.access (fun _ h0 => h0.setF.assertTrip))

theorem Keeps.rbFail {s e : State} (h : Keeps ms mf ma s e) : Keeps ms mf ma s (State.rbFail e) := by
  delta State.rbFail
  exact h.raise.assertTrip

theorem Keeps.execOffTest {s e : State} {a0} {a1} {a2} (h : Keeps ms mf ma s e) : KeepsOut ms mf ma s (execOffTest a0 a1 a2 e) := by
  delta execOffTest
  exact KeepsOut.next (Keeps.cond (by
    extract_lets +onlyGivenNames x0
    have h0 : Keeps ms mf ma s x0 := h.rearm
    clear_value x0
    extract_lets +onlyGivenNames x1
    have h1 : Keeps ms mf ma s x1 := Keeps.cond h0 h0.arm
    clear_value x1
    extract_lets +onlyGivenNames x2
    clear_value x2
    exact Keeps.cond h1.rbFail h1) h)

theorem Keeps.execReadbackMismatch {s e : State} (h : Keeps ms mf ma s e) : KeepsOut ms mf ma s (execReadbackMismatch e) := by
  delta execReadbackMismatch
  exact KeepsOut.next h.rbFail

theorem Keeps.execTpcfgWrite {s e : State} {a0} {a1} (h : Keeps ms mf ma s e) : KeepsOut ms mf ma s (execTpcfgWrite a0 a1 e) := by
  delta execTpcfgWrite
  exact KeepsOut.next (h.keyed (fun _ h0 => by
    extract_lets +onlyGivenNames x1
    clear_value x1
    extract_lets +onlyGivenNames x2
    clear_value x2
    exact Keeps.cond (by
      extract_lets +onlyGivenNames x3
      have h3 : Keeps ms mf ma s x3 := h0.setF.setF
      clear_value x3
      exact h3.doIf (fun _ h4 => h4.flag)) h0.raiseInt))

theorem Keeps.tltViolation {s e : State} {a1} (h : Keeps ms mf ma s e) : Keeps ms mf ma s (State.tltViolation e a1) := by
  delta State.tltViolation
  exact Keeps.cond h h.setFs.upd.disarm.raiseInt.assertTrip

theorem Keeps.homeStep {s e : State} {a1} (h : Keeps ms mf ma s e) : Keeps ms mf ma s (State.homeStep e a1) := by
  delta State.homeStep
  exact h.upd.arm

theorem Keeps.homeFail {s e : State} (h : Keeps ms mf ma s e) : Keeps ms mf ma s (State.homeFail e) := by
  delta State.homeFail
  extract_lets +onlyGivenNames x0
  have h0 : Keeps ms mf ma s x0 := h.setFs.disarm
  clear_value x0
  exact h0.upd.raiseInt

theorem Keeps.setSigned {s e : State} {a1} {a2} (h : Keeps ms mf ma s e) : Keeps ms mf ma s (State.setSigned e a1 a2) := by
  delta State.setSigned
  exact h.setF

theorem Keeps.homeLower {s e : State} (h : Keeps ms mf ma s e) : Keeps ms mf ma s (State.homeLower e) := by
  delta State.homeLower
  extract_lets +onlyGivenNames x0
  have h0 : Keeps ms mf ma s x0 := h.setF.setF
  clear_value x0
  exact h0.upd.homeStep

theorem Keeps.homeUpper {s e : State} (h : Keeps ms mf ma s e) : Keeps ms mf ma s (State.homeUpper e) := by
  delta State.homeUpper
  extract_lets +onlyGivenNames x0
  have h0 : Keeps ms mf ma s x0 := h.setF.setF
  clear_value x0
  extract_lets +onlyGivenNames x1
  clear_value x1
  exact Keeps.cond h0.homeFail h0.upd.homeStep

theorem Keeps.limitDemand {s e : State} {a1} (h : Keeps ms mf ma s e) : Keeps ms mf ma s (State.limitDemand e a1) := by
  delta State.limitDemand
  exact Keeps.cond h (Keeps.cond (Keeps.cond h.tltViolation (by
    split
    · exact h.homeLower
    · exact h.homeUpper
    · exact h.tltViolation
    · exact h.tltViolation
    · exact h.tltViolation
    · exact h.tltViolation
    · exact h)) h.tltViolation)

theorem Keeps.sioSources {s e : State} (h : Keeps ms mf ma s e) : Keeps ms mf ma s (State.sioSources e) := by
  delta State.sioSources
  exact h.followTrip.followTrip

theorem Keeps.setPair {s e : State} {a1} {a2} (h : Keeps ms mf ma s e) : Keeps ms mf ma s (State.setPair e a1 a2) := by
  delta State.setPair
  exact h.upd

theorem Keeps.setDemand {s e : State} {a1} {a2} (h : Keeps ms mf ma s e) : Keeps ms mf ma s (State.setDemand e a1 a2) := by
  delta State.setDemand
  exact (((Keeps.cond h.setF.raiseInt h.setF.raiseInt.setPair).sioSources).doIf (fun _ h0 => h0.limitDemand)).tltRefresh

theorem Keeps.pairFault {s e : State} {a1} {a2} {a3} (h : Keeps ms mf ma s e) : Keeps ms mf ma s (State.pairFault e a1 a2 a3) := by
  delta State.pairFault
  exact Keeps.cond h (by
    extract_lets +onlyGivenNames x0
    clear_value x0
    extract_lets +onlyGivenNames x1
    have h1 : Keeps ms mf ma s x1 := h.setF.raiseInt
    clear_value x1
    extract_lets +onlyGivenNames x2
    have h2 : Keeps ms mf ma s x2 := Keeps.cond h1 h1.setDemand
    clear_value x2
    exact h2.setF.sioSources.tltRefresh)

theorem Keeps.demandSample {s e : State} {a1} {a2} {a3} (h : Keeps ms mf ma s e) : Keeps ms mf ma s (State.demandSample e a1 a2 a3) := by
  delta State.demandSample
  extract_lets +onlyGivenNames x0
  clear_value x0
  extract_lets +onlyGivenNames x1
  clear_value x1
  extract_lets +onlyGivenNames x2
  have h2 : Keeps ms mf ma s x2 := h.setPair
  clear_value x2
  extract_lets +onlyGivenNames x3
  have h3 : Keeps ms mf ma s x3 := h2.setF.setF
  clear_value x3
  extract_lets +onlyGivenNames x4
  have h4 : Keeps ms mf ma s x4 := Keeps.cond h3.disarm (Keeps.cond h3 h3.arm)
  clear_value x4
  extract_lets +onlyGivenNames x5
  clear_value x5
  exact Keeps.cond h4.setDemand (Keeps.cond h4.setDemand h4)

theorem Keeps.execDemandSample {s e : State} {a0} {a1} (h : Keeps ms mf ma s e) : KeepsOut ms mf ma s (execDemandSample a0 a1 e) := by
  delta execDemandSample
  exact KeepsOut.next (Keeps.cond (h.arm.forN (fun _ _ h0 => h0.demandSample)) h)

theorem Keeps.testPeriod {s e : State} {a1} {a2} {a3} (h : Keeps ms mf ma s e) : Keeps ms mf ma s (State.testPeriod e a1 a2 a3) := by
  delta State.testPeriod
  exact Keeps.cond h (Keeps.cond h.pairFault (Keeps.cond h.pairFault (Keeps.cond (Keeps.cond h.setPair.setDemand h.setPair) h)))

theorem Keeps.execTestPulseSample {s e : State} {a0} {a1} {a2} {a3} {a4} {a5} (h : Keeps ms mf ma s e) : KeepsOut ms mf ma s (execTestPulseSample a0 a1 a2 a3 a4 a5 e) := by
  delta execTestPulseSample
  exact KeepsOut.next (Keeps.cond (h.rearm.forN (fun _ _ h0 => h0.testPeriod)) h)

theorem Keeps.execDiscrepancyTimeout {s e : State} {a0} (h : Keeps ms mf ma s e) : KeepsOut ms mf ma s (execDiscrepancyTimeout a0 e) := by
  delta execDiscrepancyTimeout
  exact KeepsOut.next (Keeps.cond (by
    extract_lets +onlyGivenNames x0
    have h0 : Keeps ms mf ma s x0 := h.disarm
    clear_value x0
    exact Keeps.cond h0 h0.pairFault) h)

theorem Keeps.unlatchChannels {s e : State} (h : Keeps ms mf ma s e) : Keeps ms mf ma s (State.unlatchChannels e) := by
  delta State.unlatchChannels
  exact h.forN (fun _ _ h0 => Keeps.cond h0.setFs.upd.setF h0)

theorem Keeps.safetyReset {s e : State} (h : Keeps ms mf ma s e) : Keeps ms mf ma s (State.safetyReset e) := by
  delta State.safetyReset
  extract_lets +onlyGivenNames x0
  have h0 : Keeps ms mf ma s x0 := h.forN (fun _ _ h1 => Keeps.cond h1.setF.setF.setPair.disarm h1)
  clear_value x0
  extract_lets +onlyGivenNames x2
  have h2 : Keeps ms mf ma s x2 := h0.sioSources
  clear_value x2
  extract_lets +onlyGivenNames x3
  have h3 : Keeps ms mf ma s x3 := h2.setF
  clear_value x3
  extract_lets +onlyGivenNames x4
  have h4 : Keeps ms mf ma s x4 := h3.setF.setF
  clear_value x4
  extract_lets +onlyGivenNames x5
  have h5 : Keeps ms mf ma s x5 := h4.doIf (fun _ h6 => h6.unlatchChannels)
  clear_value x5
  extract_lets +onlyGivenNames x7
  have h7 : Keeps ms mf ma s x7 := h5.doIf (fun _ h8 => h8.setF)
  clear_value x7
  exact h7.tltRefresh

theorem Keeps.execSafeResetFall {s e : State} (h : Keeps ms mf ma s e) : KeepsOut ms mf ma s (execSafeResetFall e) := by
  delta execSafeResetFall
  exact KeepsOut.next (by
    split
    · exact h
    · extract_lets +onlyGivenNames x0
      clear_value x0
      extract_lets +onlyGivenNames x1
      clear_value x1
      exact h.upd.arm)

theorem Keeps.execSafeResetRise {s e : State} (h : Keeps ms mf ma s e) : KeepsOut ms mf ma s (execSafeResetRise e) := by
  delta execSafeResetRise
  exact KeepsOut.next (by
    split
    · exact h
    · extract_lets +onlyGivenNames x0
      clear_value x0
      extract_lets +onlyGivenNames x1
      clear_value x1
      exact Keeps.cond h.upd.disarm.satInc.raiseInt.safetyReset h.upd.disarm.satInc.raiseInt)

theorem Keeps.execResetStuck {s e : State} (h : Keeps ms mf ma s e) : KeepsOut ms mf ma s (execResetStuck e) := by
  delta execResetStuck
  exact KeepsOut.next (Keeps.cond (Keeps.raise (by
    extract_lets +onlyGivenNames x0
    have h0 : Keeps ms mf ma s x0 := h.disarm
    clear_value x0
    exact h0.upd)) h)

theorem Keeps.resetRuns {s e : State} {a1} (h : Keeps ms mf ma s e) : Keeps ms mf ma s (State.resetRuns e a1) := by
  delta State.resetRuns
  exact h.upd

theorem Keeps.afterRead {s e : State} {a1} (h : Keeps ms mf ma s e) : Keeps ms mf ma s (State.afterRead e a1) := by
  delta State.afterRead
  exact h.forL (fun _ _ h0 => by
    split
    · exact h0.clearRc
    · exact h0)

theorem Keeps.storeWord {s e : State} {a1} {a2} (h : Keeps ms mf ma s e) : Keeps ms mf ma s (State.storeWord e a1 a2) := by
  delta State.storeWord
  exact h.setFs

theorem Keeps.storeClamp {s e : State} {a1} {a2} {a3} (h : Keeps ms mf ma s e) : Keeps ms mf ma s (State.storeClamp e a1 a2 a3) := by
  delta State.storeClamp
  extract_lets +onlyGivenNames x0
  clear_value x0
  extract_lets +onlyGivenNames x1
  clear_value x1
  extract_lets +onlyGivenNames x2
  have h2 : Keeps ms mf ma s x2 := h.storeWord
  clear_value x2
  split
  · exact h2.flag
  · exact h2

theorem Keeps.storeAt {s e : State} {a1} {a2} {a3} (h : Keeps ms mf ma s e) : Keeps ms mf ma s (State.storeAt e a1 a2 a3) := by
  delta State.storeAt
  split
  · exact h.storeClamp
  · exact h

theorem Keeps.timSet {s e : State} {a1} (h : Keeps ms mf ma s e) : Keeps ms mf ma s (State.timSet e a1) := by
  delta State.timSet
  exact h.upd

theorem Keeps.setTb {s e : State} {a1} {a2} (h : Keeps ms mf ma s e) : Keeps ms mf ma s (State.setTb e a1 a2) := by
  delta State.setTb
  extract_lets +onlyGivenNames x0
  clear_value x0
  extract_lets +onlyGivenNames x1
  clear_value x1
  exact h.timSet

theorem Keeps.addTb {s e : State} {a1} {a2} (h : Keeps ms mf ma s e) : Keeps ms mf ma s (State.addTb e a1 a2) := by
  delta State.addTb
  exact h.setTb

theorem Keeps.timTick {s e : State} (h : Keeps ms mf ma s e) : Keeps ms mf ma s (State.timTick e) := by
  delta State.timTick
  exact Keeps.cond h (by
    extract_lets +onlyGivenNames x0
    clear_value x0
    extract_lets +onlyGivenNames x1
    clear_value x1
    extract_lets +onlyGivenNames x2
    clear_value x2
    extract_lets +onlyGivenNames x3
    clear_value x3
    extract_lets +onlyGivenNames x4
    have h4 : Keeps ms mf ma s x4 := h.addTb.addTb.addTb
    clear_value x4
    exact h4.addTb.timSet)

theorem Keeps.selectBase {s e : State} {a1} (h : Keeps ms mf ma s e) : Keeps ms mf ma s (State.selectBase e a1) := by
  delta State.selectBase
  exact Keeps.cond h (by
    extract_lets +onlyGivenNames x0
    have h0 : Keeps ms mf ma s x0 := h.timSet
    clear_value x0
    exact h0.setFs.raiseInt)

theorem Keeps.holdover {s e : State} {a1} (h : Keeps ms mf ma s e) : Keeps ms mf ma s (State.holdover e a1) := by
  delta State.holdover
  exact h.setF.raiseInt

theorem Keeps.selLost {s e : State} (h : Keeps ms mf ma s e) : Keeps ms mf ma s (State.selLost e) := by
  delta State.selLost
  extract_lets +onlyGivenNames x0
  clear_value x0
  exact Keeps.cond (Keeps.cond h.selectBase h.holdover) h.holdover

theorem Keeps.timEval {s e : State} (h : Keeps ms mf ma s e) : Keeps ms mf ma s (State.timEval e) := by
  delta State.timEval
  extract_lets +onlyGivenNames x0
  clear_value x0
  extract_lets +onlyGivenNames x1
  clear_value x1
  extract_lets +onlyGivenNames x2
  clear_value x2
  extract_lets +onlyGivenNames x3
  clear_value x3
  extract_lets +onlyGivenNames x4
  have h4 : Keeps ms mf ma s x4 := h.timSet
  clear_value x4
  extract_lets +onlyGivenNames x5
  have h5 : Keeps ms mf ma s x5 := Keeps.cond h4.flag h4
  clear_value x5
  extract_lets +onlyGivenNames x6
  have h6 : Keeps ms mf ma s x6 := Keeps.cond h5.flag h5
  clear_value x6
  extract_lets +onlyGivenNames x7
  clear_value x7
  extract_lets +onlyGivenNames x8
  clear_value x8
  exact Keeps.cond h6.setF (Keeps.cond h6.selLost h6)

theorem Keeps.execSnap {s e : State} (h : Keeps ms mf ma s e) : KeepsOut ms mf ma s (execSnap e) := by
  delta execSnap
  exact KeepsOut.next (h.access (fun _ h0 => h0.setFs))

theorem Keeps.execTb3Align {s e : State} (h : Keeps ms mf ma s e) : KeepsOut ms mf ma s (execTb3Align e) := by
  delta execTb3Align
  exact KeepsOut.next (h.access (fun _ h0 => by
    extract_lets +onlyGivenNames x1
    clear_value x1
    exact h0.addTb.timSet.raise))

theorem Keeps.selWrite {s e : State} {a1} (h : Keeps ms mf ma s e) : Keeps ms mf ma s (State.selWrite e a1) := by
  delta State.selWrite
  extract_lets +onlyGivenNames x0
  have h0 : Keeps ms mf ma s x0 := h.selectBase.timEval
  clear_value x0
  exact Keeps.cond h0.selLost h0

theorem Keeps.execSelA {s e : State} (h : Keeps ms mf ma s e) : KeepsOut ms mf ma s (execSelA e) := by
  delta execSelA
  exact KeepsOut.next (h.access (fun _ h0 => h0.selWrite))

theorem Keeps.execSelB {s e : State} (h : Keeps ms mf ma s e) : KeepsOut ms mf ma s (execSelB e) := by
  delta execSelB
  exact KeepsOut.next (h.access (fun _ h0 => h0.selWrite))

theorem Keeps.execBaseStep {s e : State} {a0} {a1} (h : Keeps ms mf ma s e) : KeepsOut ms mf ma s (execBaseStep a0 a1 e) := by
  delta execBaseStep
  exact KeepsOut.next (h.access (fun _ h0 => Keeps.cond h0.flag (by
    extract_lets +onlyGivenNames x1
    clear_value x1
    extract_lets +onlyGivenNames x2
    have h2 : Keeps ms mf ma s x2 := h0.addTb
    clear_value x2
    extract_lets +onlyGivenNames x3
    have h3 : Keeps ms mf ma s x3 := Keeps.cond h2.timSet h2
    clear_value x3
    exact h3.raise)))

theorem Keeps.execDomainLockWrite {s e : State} {a0} (h : Keeps ms mf ma s e) : KeepsOut ms mf ma s (execDomainLockWrite a0 e) := by
  delta execDomainLockWrite
  exact KeepsOut.next (h.access (fun _ h0 => h0.storeAt.timEval))

theorem Keeps.syncSeen {s e : State} {a1} (h : Keeps ms mf ma s e) : Keeps ms mf ma s (State.syncSeen e a1) := by
  delta State.syncSeen
  extract_lets +onlyGivenNames x0
  have h0 : Keeps ms mf ma s x0 := h.setF
  clear_value x0
  exact h0.arm.timEval

theorem Keeps.execSyncTimeout {s e : State} {a0} (h : Keeps ms mf ma s e) : KeepsOut ms mf ma s (execSyncTimeout a0 e) := by
  delta execSyncTimeout
  exact KeepsOut.next (Keeps.cond (by
    extract_lets +onlyGivenNames x0
    have h0 : Keeps ms mf ma s x0 := h.disarm.setF
    clear_value x0
    exact h0.raise.timEval) h)

theorem Keeps.execBaseWrap {s e : State} {a0} (h : Keeps ms mf ma s e) : KeepsOut ms mf ma s (execBaseWrap a0 e) := by
  delta execBaseWrap
  exact KeepsOut.next (Keeps.cond h.timSet.flagBits h)

theorem Keeps.ttrgRepeat {s e : State} {a0} {a1} (h : Keeps ms mf ma s e) : Keeps ms mf ma s (State.ttrgRepeat a0 a1 e).1 := by
  induction a0 generalizing a1 e with
  | zero =>
    rw [State.ttrgRepeat.eq_1]
    exact h
  | succ n ih =>
    rw [State.ttrgRepeat.eq_2]
    exact Keeps.condL (by
      apply ih
      exact h.setFs) h

theorem Keeps.ttrgActs {s e : State} {a1} (h : Keeps ms mf ma s e) : Keeps ms mf ma s (State.ttrgActs e a1).1 := by
  delta State.ttrgActs
  dsimp only
  exact Keeps.condL (Keeps.pairL h.setF) (Keeps.condL (Keeps.condL (Keeps.pairL h.setFs.setF) (Keeps.pairL h.setFs)) h.ttrgRepeat)

theorem Keeps.ttrgTarget {s e : State} {a1} (h : Keeps ms mf ma s e) : Keeps ms mf ma s (State.ttrgTarget e a1) := by
  delta State.ttrgTarget
  extract_lets +onlyGivenNames x0
  clear_value x0
  exact Keeps.cond h.timSet.arm (Keeps.cond h.armAt h)

theorem Keeps.execTriggerArm {s e : State} {a0} {a1} (h : Keeps ms mf ma s e) : KeepsOut ms mf ma s (execTriggerArm a0 a1 e) := by
  delta execTriggerArm
  exact KeepsOut.next (h.access (fun _ h0 => by
    extract_lets +onlyGivenNames x1
    clear_value x1
    exact Keeps.cond h0.flag (Keeps.cond h0.flag h0.storeAt)))

theorem Keeps.execFsyncPulseEnd {s e : State} {a0} (h : Keeps ms mf ma s e) : KeepsOut ms mf ma s (execFsyncPulseEnd a0 e) := by
  delta execFsyncPulseEnd
  exact KeepsOut.next (Keeps.cond h.disarm.timSet h)

theorem Keeps.silSet {s e : State} {a1} (h : Keeps ms mf ma s e) : Keeps ms mf ma s (State.silSet e a1) := by
  delta State.silSet
  exact h.upd

theorem Keeps.setLink {s e : State} {a1} {a2} (h : Keeps ms mf ma s e) : Keeps ms mf ma s (State.setLink e a1 a2) := by
  delta State.setLink
  exact h.silSet

theorem Keeps.onWire {s e : State} {a1} {a2} (h : Keeps ms mf ma s e) : Keeps ms mf ma s (State.onWire e a1 a2) := by
  delta State.onWire
  exact h.setLink.silSet

theorem Keeps.endGroup {s e : State} {a1} (h : Keeps ms mf ma s e) : Keeps ms mf ma s (State.endGroup e a1) := by
  delta State.endGroup
  exact Keeps.cond h (h.forN (fun _ _ h0 => h0.onWire))

theorem Keeps.sendFlit {s e : State} {a1} {a2} (h : Keeps ms mf ma s e) : Keeps ms mf ma s (State.sendFlit e a1 a2) := by
  delta State.sendFlit
  extract_lets +onlyGivenNames x0
  clear_value x0
  extract_lets +onlyGivenNames x1
  clear_value x1
  split
  · exact h
  · extract_lets +onlyGivenNames x2
    clear_value x2
    extract_lets +onlyGivenNames x3
    have h3 : Keeps ms mf ma s x3 := h.doIf (fun _ h4 => h4.arm)
    clear_value x3
    extract_lets +onlyGivenNames x5
    have h5 : Keeps ms mf ma s x5 := h3.setLink
    clear_value x5
    extract_lets +onlyGivenNames x6
    have h6 : Keeps ms mf ma s x6 := h5.onWire.silSet
    clear_value x6
    exact Keeps.cond h6.wrapInc h6

theorem Keeps.pump {s e : State} {a0} {a1} (h : Keeps ms mf ma s e) : Keeps ms mf ma s (State.pump a0 a1 e) := by
  induction a0 generalizing e with
  | zero =>
    rw [State.pump.eq_1]
    exact h
  | succ n ih =>
    rw [State.pump.eq_2]
    exact Keeps.cond (by
      split
      · apply ih
        exact h.setLink.sendFlit
      · exact h) h

theorem Keeps.transmit {s e : State} {a1} (h : Keeps ms mf ma s e) : Keeps ms mf ma s (State.transmit e a1) := by
  delta State.transmit
  exact h.pump

theorem Keeps.sendAck {s e : State} {a1} (h : Keeps ms mf ma s e) : Keeps ms mf ma s (State.sendAck e a1) := by
  delta State.sendAck
  exact Keeps.cond h.onWire.setLink.disarm h

theorem Keeps.sendNak {s e : State} {a1} (h : Keeps ms mf ma s e) : Keeps ms mf ma s (State.sendNak e a1) := by
  delta State.sendNak
  exact Keeps.cond h (by
    extract_lets +onlyGivenNames x0
    have h0 : Keeps ms mf ma s x0 := h.onWire.setLink
    clear_value x0
    exact h0.disarm.doIf (fun _ h1 => h1.satInc))

theorem Keeps.freeFlits {s e : State} {a1} {a2} {a3} (h : Keeps ms mf ma s e) : Keeps ms mf ma s (State.freeFlits e a1 a2 a3) := by
  delta State.freeFlits
  exact h.setLink

theorem Keeps.startResume {s e : State} {a1} (h : Keeps ms mf ma s e) : Keeps ms mf ma s (State.startResume e a1) := by
  delta State.startResume
  exact Keeps.cond h.silSet h

theorem Keeps.sendAd {s e : State} {a1} (h : Keeps ms mf ma s e) : Keeps ms mf ma s (State.sendAd e a1) := by
  delta State.sendAd
  exact h.setLink.startResume.transmit

theorem Keeps.adQueue {s e : State} {a1} (h : Keeps ms mf ma s e) : Keeps ms mf ma s (State.adQueue e a1) := by
  delta State.adQueue
  exact h.setLink.transmit

theorem Keeps.drawXform {s e : State} {a1} (h : Keeps ms mf ma s e) : Keeps ms mf ma s (State.drawXform e a1).2 := by
  delta State.drawXform
  extract_lets +onlyGivenNames x0
  have h0 : Keeps ms mf ma s x0.2 := Keeps.condR h.draw (Keeps.pairR h)
  clear_value x0
  extract_lets +onlyGivenNames x1
  clear_value x1
  extract_lets +onlyGivenNames x2
  have h2 : Keeps ms mf ma s x2.2 := Keeps.condR h0.drawBelow (Keeps.pairR h0)
  clear_value x2
  extract_lets +onlyGivenNames x3
  have h3 : Keeps ms mf ma s x3.2 := Keeps.condR h2.draw (Keeps.pairR h2)
  clear_value x3
  exact Keeps.pairR h3

theorem Keeps.drawXforms {s e : State} {a0} (h : Keeps ms mf ma s e) : Keeps ms mf ma s (drawXforms a0 e).2 := by
  induction a0 generalizing e with
  | nil =>
    rw [drawXforms.eq_1]
    exact h
  | cons y l ih =>
    rw [drawXforms.eq_2]
    apply ih
    exact h.drawXform

theorem Keeps.sendStreak {s e : State} {a1} {a2} {a3} {a4} {a5} (h : Keeps ms mf ma s e) : Keeps ms mf ma s (State.sendStreak e a1 a2 a3 a4 a5) := by
  delta State.sendStreak
  extract_lets +onlyGivenNames x0
  have h0 : Keeps ms mf ma s x0 := h.sendAd
  clear_value x0
  extract_lets +onlyGivenNames x1
  have h1 : Keeps ms mf ma s x1 := h0.wrapInc
  clear_value x1
  exact h1.upd

theorem Keeps.drawSeed {s e : State} (h : Keeps ms mf ma s e) : Keeps ms mf ma s (State.drawSeed e).2 := by
  delta State.drawSeed
  extract_lets +onlyGivenNames x0
  have h0 : Keeps ms mf ma s x0.2 := h.drawBelow
  clear_value x0
  exact Keeps.pairR h0

theorem Keeps.streakRun {s e : State} {a1} {a2} {a3} (h : Keeps ms mf ma s e) : Keeps ms mf ma s (State.streakRun e a1 a2 a3) := by
  delta State.streakRun
  exact Keeps.cond h (by
    extract_lets +onlyGivenNames x0
    clear_value x0
    extract_lets +onlyGivenNames x1
    clear_value x1
    exact h.upd.drawSeed.drawXforms.sendStreak)

theorem Keeps.luxShow {s e : State} (h : Keeps ms mf ma s e) : Keeps ms mf ma s (State.luxShow e) := by
  delta State.luxShow
  exact Keeps.cond h (by
    extract_lets +onlyGivenNames x0
    clear_value x0
    extract_lets +onlyGivenNames x1
    have h1 : Keeps ms mf ma s x1 := Keeps.cond h (h.setF.raiseInt.doIf (fun _ h2 => h2.stepFail))
    clear_value x1
    exact h1.setF.setF)

theorem Keeps.luxPreempt {s e : State} {a1} (h : Keeps ms mf ma s e) : Keeps ms mf ma s (State.luxPreempt e a1) := by
  delta State.luxPreempt
  exact Keeps.cond h (Keeps.cond h.raiseInt.setF h)

theorem Keeps.refreshZones {s e : State} {a1} (h : Keeps ms mf ma s e) : Keeps ms mf ma s (State.refreshZones e a1) := by
  delta State.refreshZones
  extract_lets +onlyGivenNames x0
  clear_value x0
  exact Keeps.cond h h.setF.flag.luxPreempt

theorem Keeps.execTrip {s e : State} {a0} {a1} (h : Keeps ms mf ma s e) : KeepsOut ms mf ma s (execTrip a0 a1 e) := by
  delta execTrip
  exact KeepsOut.next (Keeps.cond h.assertTrip (by
    extract_lets +onlyGivenNames x0
    clear_value x0
    extract_lets +onlyGivenNames x1
    have h1 : Keeps ms mf ma s x1 := h.endTrip
    clear_value x1
    exact Keeps.cond h1.setF.refreshZones h1))

theorem Keeps.clearZones {s e : State} {a1} (h : Keeps ms mf ma s e) : Keeps ms mf ma s (State.clearZones e a1) := by
  delta State.clearZones
  extract_lets +onlyGivenNames x0
  clear_value x0
  exact h.resetRuns.refreshZones

theorem Keeps.clearAllZones {s e : State} (h : Keeps ms mf ma s e) : Keeps ms mf ma s (State.clearAllZones e) := by
  delta State.clearAllZones
  exact h.clearZones

theorem Keeps.clearCamera {s e : State} {a1} (h : Keeps ms mf ma s e) : Keeps ms mf ma s (State.clearCamera e a1) := by
  delta State.clearCamera
  exact h.clearZones

theorem Keeps.presence {s e : State} {a1} {a2} (h : Keeps ms mf ma s e) : Keeps ms mf ma s (State.presence e a1 a2) := by
  delta State.presence
  exact h.clearZones

theorem Keeps.sfl1Refresh {s e : State} (h : Keeps ms mf ma s e) : Keeps ms mf ma s (State.sfl1Refresh e) := by
  delta State.sfl1Refresh
  exact Keeps.cond h (by
    extract_lets +onlyGivenNames x0
    have h0 : Keeps ms mf ma s x0 := Keeps.cond h.disarm (Keeps.cond h h.arm)
    clear_value x0
    exact Keeps.cond (Keeps.cond h0 h0.raiseInt.assertTrip) (Keeps.cond h0.followTrip h0))

theorem Keeps.execSfl1Timeout {s e : State} (h : Keeps ms mf ma s e) : KeepsOut ms mf ma s (execSfl1Timeout e) := by
  delta execSfl1Timeout
  exact KeepsOut.next (Keeps.cond h.sfl1Refresh h)

theorem Keeps.luxDarkRefresh {s e : State} (h : Keeps ms mf ma s e) : Keeps ms mf ma s (State.luxDarkRefresh e) := by
  delta State.luxDarkRefresh
  exact h.luxShow.sfl1Refresh

theorem Keeps.execLuxDarkWrite {s e : State} {a0} {a1} (h : Keeps ms mf ma s e) : KeepsOut ms mf ma s (execLuxDarkWrite a0 a1 e) := by
  delta execLuxDarkWrite
  exact KeepsOut.next (h.access (fun _ h0 => by
    extract_lets +onlyGivenNames x1
    clear_value x1
    extract_lets +onlyGivenNames x2
    clear_value x2
    extract_lets +onlyGivenNames x3
    have h3 : Keeps ms mf ma s x3 := h0.setFs
    clear_value x3
    exact (Keeps.cond h3.arm.arm.disarm.upd (Keeps.cond h3.arm.arm.disarm (Keeps.cond h3.arm.arm.arm h3.arm.arm))).luxDarkRefresh))

theorem Keeps.execLuxinTimeout {s e : State} (h : Keeps ms mf ma s e) : KeepsOut ms mf ma s (execLuxinTimeout e) := by
  delta execLuxinTimeout
  exact KeepsOut.next (Keeps.cond (by
    extract_lets +onlyGivenNames x0
    have h0 : Keeps ms mf ma s x0 := h.disarm.disarm.setF.raise
    clear_value x0
    exact h0.upd.luxDarkRefresh) h)

theorem Keeps.execSchedTimeout {s e : State} (h : Keeps ms mf ma s e) : KeepsOut ms mf ma s (execSchedTimeout e) := by
  delta execSchedTimeout
  exact KeepsOut.next (Keeps.cond h.disarm.setF.raise.luxDarkRefresh h)

theorem Keeps.execLightHoldExpiry {s e : State} (h : Keeps ms mf ma s e) : KeepsOut ms mf ma s (execLightHoldExpiry e) := by
  delta execLightHoldExpiry
  exact KeepsOut.next (Keeps.cond (by
    extract_lets +onlyGivenNames x0
    have h0 : Keeps ms mf ma s x0 := h.disarm
    clear_value x0
    exact h0.upd.luxDarkRefresh) h)

theorem Keeps.setCh {s e : State} {a1} {a2} (h : Keeps ms mf ma s e) : Keeps ms mf ma s (State.setCh e a1 a2) := by
  delta State.setCh
  exact h.upd

theorem Keeps.undoFailover {s e : State} {a1} (h : Keeps ms mf ma s e) : Keeps ms mf ma s (State.undoFailover e a1) := by
  delta State.undoFailover
  extract_lets +onlyGivenNames x0
  have h0 : Keeps ms mf ma s x0 := h.setCh
  clear_value x0
  exact Keeps.cond h0.setF.setCh h0

theorem Keeps.failover {s e : State} {a1} (h : Keeps ms mf ma s e) : Keeps ms mf ma s (State.failover e a1) := by
  delta State.failover
  extract_lets +onlyGivenNames x0
  clear_value x0
  exact Keeps.cond (by
    extract_lets +onlyGivenNames x1
    clear_value x1
    exact h.setF.setCh.raiseInt) h

theorem Keeps.latchCh {s e : State} {a1} {a2} (h : Keeps ms mf ma s e) : Keeps ms mf ma s (State.latchCh e a1 a2) := by
  delta State.latchCh
  extract_lets +onlyGivenNames x0
  have h0 : Keeps ms mf ma s x0 := h.undoFailover.setFs
  clear_value x0
  exact h0.disarm.raiseInt.failover

theorem Keeps.chFault {s e : State} {a1} {a2} (h : Keeps ms mf ma s e) : Keeps ms mf ma s (State.chFault e a1 a2) := by
  delta State.chFault
  extract_lets +onlyGivenNames x0
  clear_value x0
  exact Keeps.cond h.latchCh (by
    extract_lets +onlyGivenNames x1
    have h1 : Keeps ms mf ma s x1 := h.undoFailover.setCh
    clear_value x1
    exact h1.setFs.arm)

theorem Keeps.execOcTrip {s e : State} {a0} (h : Keeps ms mf ma s e) : KeepsOut ms mf ma s (execOcTrip a0 e) := by
  delta execOcTrip
  exact KeepsOut.next (by
    extract_lets +onlyGivenNames x0
    clear_value x0
    exact Keeps.cond (by
      extract_lets +onlyGivenNames x1
      have h1 : Keeps ms mf ma s x1 := h.setCh
      clear_value x1
      exact Keeps.cond h1.raiseInt.chFault.setCh.sfl1Refresh h1) h)

theorem Keeps.execScTrip {s e : State} {a0} {a1} (h : Keeps ms mf ma s e) : KeepsOut ms mf ma s (execScTrip a0 a1 e) := by
  delta execScTrip
  exact KeepsOut.next (by
    extract_lets +onlyGivenNames x0
    clear_value x0
    exact Keeps.cond (by
      extract_lets +onlyGivenNames x1
      clear_value x1
      extract_lets +onlyGivenNames x2
      have h2 : Keeps ms mf ma s x2 := h.setF.raiseInt
      clear_value x2
      exact h2.chFault.sfl1Refresh) (Keeps.cond (by
      extract_lets +onlyGivenNames x3
      clear_value x3
      extract_lets +onlyGivenNames x4
      have h4 : Keeps ms mf ma s x4 := h.setF.raiseInt.setCh
      clear_value x4
      exact Keeps.cond h4.setF h4.setF) h))

theorem Keeps.execHiccupRetry {s e : State} {a0} (h : Keeps ms mf ma s e) : KeepsOut ms mf ma s (execHiccupRetry a0 e) := by
  delta execHiccupRetry
  exact KeepsOut.next (by
    extract_lets +onlyGivenNames x0
    clear_value x0
    exact Keeps.cond (by
      extract_lets +onlyGivenNames x1
      have h1 : Keeps ms mf ma s x1 := h.disarm.setCh
      clear_value x1
      exact h1.setF.sfl1Refresh) h)

theorem Keeps.execVgdUndervoltage {s e : State} (h : Keeps ms mf ma s e) : KeepsOut ms mf ma s (execVgdUndervoltage e) := by
  delta execVgdUndervoltage
  exact KeepsOut.next (Keeps.cond h ((h.upd.raise.forN (fun _ _ h0 => Keeps.cond h0.setFs h0)).sfl1Refresh))

theorem Keeps.execVgdRecovery {s e : State} (h : Keeps ms mf ma s e) : KeepsOut ms mf ma s (execVgdRecovery e) := by
  delta execVgdRecovery
  exact KeepsOut.next (Keeps.cond h ((h.upd.forN (fun _ _ h0 => Keeps.cond h0.setF h0)).sfl1Refresh))

theorem Keeps.execLuxCopy {s e : State} (h : Keeps ms mf ma s e) : KeepsOut ms mf ma s (execLuxCopy e) := by
  delta execLuxCopy
  exact KeepsOut.next (Keeps.cond h.raise.assertTrip h)

theorem Keeps.chMeasure {s e : State} {a1} {a2} {a3} (h : Keeps ms mf ma s e) : Keeps ms mf ma s (State.chMeasure e a1 a2 a3).1 := by
  delta State.chMeasure
  extract_lets +onlyGivenNames x0
  clear_value x0
  extract_lets +onlyGivenNames x1
  clear_value x1
  extract_lets +onlyGivenNames x2
  clear_value x2
  extract_lets +onlyGivenNames x3
  clear_value x3
  extract_lets +onlyGivenNames x4
  clear_value x4
  extract_lets +onlyGivenNames x5
  clear_value x5
  extract_lets +onlyGivenNames x6
  clear_value x6
  extract_lets +onlyGivenNames x7
  clear_value x7
  extract_lets +onlyGivenNames x8
  have h8 : Keeps ms mf ma s x8 := h.setCh
  clear_value x8
  extract_lets +onlyGivenNames x9
  have h9 : Keeps ms mf ma s x9 := h8.setFs
  clear_value x9
  extract_lets +onlyGivenNames x10
  clear_value x10
  exact Keeps.pairL h9

theorem Keeps.latchEvent {s e : State} {a1} {a2} (h : Keeps ms mf ma s e) : Keeps ms mf ma s (State.latchEvent e a1 a2) := by
  delta State.latchEvent
  split
  · exact h.raiseInt
  · exact h.raiseInt
  · exact h.raiseInt

theorem Keeps.judgeChannel {s e : State} {a1} {a2} {a3} (h : Keeps ms mf ma s e) : Keeps ms mf ma s (State.judgeChannel e a1 a2 a3).1 := by
  delta State.judgeChannel
  exact Keeps.condL (by
    extract_lets +onlyGivenNames x0
    have h0 : Keeps ms mf ma s x0.1 := h.chMeasure
    clear_value x0
    exact Keeps.condL h0 (Keeps.pairL h0.undoFailover.latchEvent)) (Keeps.pairL h.setCh)

theorem Keeps.judgeChannels {s e : State} {a1} {a2} {a3} {a4} (h : Keeps ms mf ma s e) : Keeps ms mf ma s (State.judgeChannels e a1 a2 a3 a4) := by
  delta State.judgeChannels
  extract_lets +onlyGivenNames x0
  have h0 : Keeps ms mf ma s x0.1 := h.judgeChannel
  clear_value x0
  extract_lets +onlyGivenNames x1
  have h1 : Keeps ms mf ma s x1.1 := h0.judgeChannel
  clear_value x1
  extract_lets +onlyGivenNames x2
  have h2 : Keeps ms mf ma s x2 := h1.doIf (fun _ h3 => h3.latchCh)
  clear_value x2
  exact h2.doIf (fun _ h4 => h4.latchCh)

theorem Keeps.applyLevels {s e : State} {a1} {a2} (h : Keeps ms mf ma s e) : Keeps ms mf ma s (State.applyLevels e a1 a2) := by
  delta State.applyLevels
  exact h.forN (fun _ _ h0 => Keeps.cond h0.setFs (by
    extract_lets +onlyGivenNames x1
    have h1 : Keeps ms mf ma s x1 := h0.doIf (fun _ h2 => h2.setF)
    clear_value x1
    exact Keeps.cond (Keeps.cond (by
      extract_lets +onlyGivenNames x3
      clear_value x3
      extract_lets +onlyGivenNames x4
      clear_value x4
      exact h1.setCh.setF) h1.setF) h1))

theorem Keeps.execControlCycle {s e : State} {a0} {a1} {a2} {a3} (h : Keeps ms mf ma s e) : KeepsOut ms mf ma s (execControlCycle a0 a1 a2 a3 e) := by
  delta execControlCycle
  exact KeepsOut.next (Keeps.cond (by
    extract_lets +onlyGivenNames x0
    have h0 : Keeps ms mf ma s x0 := h.rearm
    clear_value x0
    extract_lets +onlyGivenNames x1
    have h1 : Keeps ms mf ma s x1 := h0.judgeChannels
    clear_value x1
    extract_lets +onlyGivenNames x2
    clear_value x2
    extract_lets +onlyGivenNames x3
    clear_value x3
    extract_lets +onlyGivenNames x4
    have h4 : Keeps ms mf ma s x4 := h1.refreshZones.luxShow
    clear_value x4
    exact h4.upd.setF.applyLevels.sfl1Refresh) h)

end Sys2Proof.Machine
end

