-- ==== Sys2Proof/Laws/KeepsTiles.lean ====
section
/-! SUPPORT. `Keeps` for frames, belief, the Sill link and the tiles. -/

namespace Sys2Proof.Machine

variable {ms mf ma : Bool}

theorem Keeps.setCam {s e : State} {a1} {a2} (h : Keeps ms mf ma s e) : Keeps ms mf ma s (State.setCam e a1 a2) := by
  delta State.setCam
  exact h.upd

theorem Keeps.setFrame {s e : State} {a1} {a2} (h : Keeps ms mf ma s e) : Keeps ms mf ma s (State.setFrame e a1 a2) := by
  delta State.setFrame
  exact h.setCam

theorem Keeps.dropPacket {s e : State} {a1} {a2} (h : Keeps ms mf ma s e) : Keeps ms mf ma s (State.dropPacket e a1 a2) := by
  delta State.dropPacket
  split
  · exact h.satInc
  · exact h.satInc

theorem Keeps.rxLanes {s e : State} {a1} {a2} (h : Keeps ms mf ma s e) : Keeps ms mf ma s (State.rxLanes e a1 a2) := by
  delta State.rxLanes
  extract_lets +onlyGivenNames x0
  have h0 : Keeps ms mf ma s x0 := Keeps.cond h.setF h
  clear_value x0
  exact h0.setF

theorem Keeps.stamp {s e : State} {a1} (h : Keeps ms mf ma s e) : Keeps ms mf ma s (State.stamp e a1) := by
  delta State.stamp
  extract_lets +onlyGivenNames x0
  clear_value x0
  extract_lets +onlyGivenNames x1
  clear_value x1
  exact h.upd

theorem Keeps.camUnhealthy {s e : State} {a1} (h : Keeps ms mf ma s e) : Keeps ms mf ma s (State.camUnhealthy e a1) := by
  delta State.camUnhealthy
  extract_lets +onlyGivenNames x0
  have h0 : Keeps ms mf ma s x0 := h.setCam.setF
  clear_value x0
  exact Keeps.cond h0 h0.setF.raiseInt.clearCamera

theorem Keeps.camHealth {s e : State} {a1} {a2} (h : Keeps ms mf ma s e) : Keeps ms mf ma s (State.camHealth e a1 a2) := by
  delta State.camHealth
  extract_lets +onlyGivenNames x0
  have h0 : Keeps ms mf ma s x0 := h.setF
  clear_value x0
  extract_lets +onlyGivenNames x1
  have h1 : Keeps ms mf ma s x1 := h0.doIf (fun _ h2 => h2.flag.setCam)
  clear_value x1
  exact Keeps.cond h1 (Keeps.cond (by
    extract_lets +onlyGivenNames x3
    clear_value x3
    extract_lets +onlyGivenNames x4
    clear_value x4
    extract_lets +onlyGivenNames x5
    have h5 : Keeps ms mf ma s x5 := h1.setF.setCam
    clear_value x5
    exact Keeps.cond h5.setF.raiseInt h5) (by
    extract_lets +onlyGivenNames x6
    clear_value x6
    extract_lets +onlyGivenNames x7
    have h7 : Keeps ms mf ma s x7 := h1.setCam.setF
    clear_value x7
    extract_lets +onlyGivenNames x8
    have h8 : Keeps ms mf ma s x8 := h7.raise
    clear_value x8
    exact Keeps.cond h8.camUnhealthy h8))

theorem Keeps.sendEnds {s e : State} (h : Keeps ms mf ma s e) : Keeps ms mf ma s (State.sendEnds e) := by
  delta State.sendEnds
  extract_lets +onlyGivenNames x0
  clear_value x0
  exact h.upd.forL (fun _ _ h1 => h1.sendAd)

theorem Keeps.sendTrailer {s e : State} {a1} {a2} {a3} (h : Keeps ms mf ma s e) : Keeps ms mf ma s (State.sendTrailer e a1 a2 a3) := by
  delta State.sendTrailer
  extract_lets -underBinder +onlyGivenNames x0
  clear_value x0
  extract_lets -underBinder +onlyGivenNames x1
  have h1 : Keeps ms mf ma s x1 := h.doIf (fun _ h2 => by
    extract_lets -underBinder +onlyGivenNames x3
    clear_value x3
    exact Keeps.cond (by
      extract_lets -underBinder +onlyGivenNames x4
      clear_value x4
      exact h2.upd) h2.sendEnds.sendAd)
  clear_value x1
  extract_lets -underBinder +onlyGivenNames x5
  have h5 : Keeps ms mf ma s x5 := h1.stamp
  clear_value x5
  extract_lets -underBinder +onlyGivenNames x6
  have h6 : Keeps ms mf ma s x6 := h5.setF
  clear_value x6
  exact h6.setFrame.camHealth

theorem Keeps.cutFrame {s e : State} {a1} {a2} (h : Keeps ms mf ma s e) : Keeps ms mf ma s (State.cutFrame e a1 a2) := by
  delta State.cutFrame
  split
  · exact Keeps.cond h h.sendTrailer
  · exact h

theorem Keeps.abortForward {s e : State} (h : Keeps ms mf ma s e) : Keeps ms mf ma s (State.abortForward e) := by
  delta State.abortForward
  exact h.sendEnds.forN (fun _ _ h0 => h0.cutFrame)

theorem Keeps.frameOver {s e : State} {a1} {a2} (h : Keeps ms mf ma s e) : Keeps ms mf ma s (State.frameOver e a1 a2) := by
  delta State.frameOver
  extract_lets +onlyGivenNames x0
  clear_value x0
  extract_lets +onlyGivenNames x1
  have h1 : Keeps ms mf ma s x1 := h.setCam
  clear_value x1
  exact h1.disarm

theorem Keeps.closeFrame {s e : State} {a1} {a2} {a3} (h : Keeps ms mf ma s e) : Keeps ms mf ma s (State.closeFrame e a1 a2 a3) := by
  delta State.closeFrame
  split
  · exact h
  · extract_lets -underBinder +onlyGivenNames x0
    clear_value x0
    extract_lets -underBinder +onlyGivenNames x1
    have h1 : Keeps ms mf ma s x1 := Keeps.cond h h.sendTrailer
    clear_value x1
    exact h1.frameOver

theorem Keeps.openFrame {s e : State} {a1} {a2} {a3} (h : Keeps ms mf ma s e) : Keeps ms mf ma s (State.openFrame e a1 a2 a3) := by
  delta State.openFrame
  extract_lets +onlyGivenNames x0
  clear_value x0
  extract_lets +onlyGivenNames x1
  clear_value x1
  extract_lets +onlyGivenNames x2
  clear_value x2
  extract_lets +onlyGivenNames x3
  clear_value x3
  extract_lets +onlyGivenNames x4
  clear_value x4
  extract_lets +onlyGivenNames x5
  clear_value x5
  extract_lets +onlyGivenNames x6
  clear_value x6
  extract_lets +onlyGivenNames x7
  clear_value x7
  extract_lets +onlyGivenNames x8
  clear_value x8
  extract_lets +onlyGivenNames x9
  clear_value x9
  extract_lets +onlyGivenNames x10
  have h10 : Keeps ms mf ma s x10 := h.setCam
  clear_value x10
  extract_lets +onlyGivenNames x11
  have h11 : Keeps ms mf ma s x11 := h10.arm
  clear_value x11
  exact Keeps.cond (by
    extract_lets +onlyGivenNames x12
    have h12 : Keeps ms mf ma s x12 := h11.sendEnds.sendAd
    clear_value x12
    exact Keeps.cond (h12.forN (fun _ _ h13 => Keeps.cond h13.streakRun h13)) h12) h11

theorem Keeps.hdrCount {s e : State} {a1} {a2} (h : Keeps ms mf ma s e) : Keeps ms mf ma s (State.hdrCount e a1 a2) := by
  delta State.hdrCount
  exact Keeps.cond h.satInc h

theorem Keeps.hdrBad {s e : State} {a1} {a2} (h : Keeps ms mf ma s e) : Keeps ms mf ma s (State.hdrBad e a1 a2) := by
  delta State.hdrBad
  split
  · exact Keeps.cond h h.setFrame
  · exact h

theorem Keeps.execFrameStart {s e : State} {a0} {a1} {a2} {a3} (h : Keeps ms mf ma s e) : KeepsOut ms mf ma s (execFrameStart a0 a1 a2 a3 e) := by
  delta execFrameStart
  exact KeepsOut.next (Keeps.cond h (by
    extract_lets -underBinder +onlyGivenNames x0
    have h0 : Keeps ms mf ma s x0 := h.rxLanes
    clear_value x0
    exact Keeps.cond h0.hdrBad (by
      extract_lets -underBinder +onlyGivenNames x1
      have h1 : Keeps ms mf ma s x1 := by
        unfold x1
        split
        · exact h0.closeFrame
        · exact h0
      clear_value x1
      split
      · exact h1.dropPacket
      · extract_lets -underBinder +onlyGivenNames x2
        have h2 : Keeps ms mf ma s x2 := h1.hdrCount
        clear_value x2
        exact h2.closeFrame.openFrame)))

theorem Keeps.forwardLine {s e : State} {a1} {a2} {a3} (h : Keeps ms mf ma s e) : Keeps ms mf ma s (State.forwardLine e a1 a2 a3) := by
  delta State.forwardLine
  extract_lets +onlyGivenNames x0
  clear_value x0
  extract_lets +onlyGivenNames x1
  clear_value x1
  extract_lets +onlyGivenNames x2
  clear_value x2
  extract_lets +onlyGivenNames x3
  clear_value x3
  extract_lets +onlyGivenNames x4
  have h4 : Keeps ms mf ma s x4 := h.setFrame
  clear_value x4
  exact Keeps.cond (h4.forN (fun _ _ h5 => h5.sendAd)) h4

theorem Keeps.makeRoom {s e : State} {a1} {a2} {a3} (h : Keeps ms mf ma s e) : Keeps ms mf ma s (State.makeRoom e a1 a2 a3) := by
  delta State.makeRoom
  exact Keeps.cond ((h.forN (fun _ _ h0 => by
    split
    · exact Keeps.cond h0.cutFrame h0
    · exact h0)).raiseInt) h

theorem Keeps.takeLine {s e : State} {a1} {a2} {a3} {a4} (h : Keeps ms mf ma s e) : Keeps ms mf ma s (State.takeLine e a1 a2 a3 a4) := by
  delta State.takeLine
  extract_lets -underBinder +onlyGivenNames x0
  clear_value x0
  extract_lets -underBinder +onlyGivenNames x1
  clear_value x1
  extract_lets -underBinder +onlyGivenNames x2
  clear_value x2
  extract_lets -underBinder +onlyGivenNames x3
  clear_value x3
  extract_lets -underBinder +onlyGivenNames x4
  have h4 : Keeps ms mf ma s x4 := h.setFrame
  clear_value x4
  exact Keeps.cond h4 (by
    extract_lets -underBinder +onlyGivenNames x5
    have h5 : Keeps ms mf ma s x5 := h4.makeRoom
    clear_value x5
    split
    · exact h5.forwardLine
    · exact h5)

theorem Keeps.execLinePacket {s e : State} {a0} {a1} {a2} {a3} {a4} {a5} {a6} (h : Keeps ms mf ma s e) : KeepsOut ms mf ma s (execLinePacket a0 a1 a2 a3 a4 a5 a6 e) := by
  delta execLinePacket
  exact KeepsOut.next (Keeps.cond h (by
    extract_lets -underBinder +onlyGivenNames x0
    have h0 : Keeps ms mf ma s x0 := h.rxLanes
    clear_value x0
    exact Keeps.cond h0.hdrBad (by
      split
      · exact h0.dropPacket
      · extract_lets -underBinder +onlyGivenNames x1
        have h1 : Keeps ms mf ma s x1 := h0.hdrCount
        clear_value x1
        exact Keeps.cond h1 (Keeps.cond h1.dropPacket (by
          split
          · exact h1.dropPacket
          · exact Keeps.cond (Keeps.cond h1 h1.setFrame) h1.takeLine)))))

theorem Keeps.execFrameEnd {s e : State} {a0} {a1} {a2} {a3} (h : Keeps ms mf ma s e) : KeepsOut ms mf ma s (execFrameEnd a0 a1 a2 a3 e) := by
  delta execFrameEnd
  exact KeepsOut.next (Keeps.cond h (by
    extract_lets -underBinder +onlyGivenNames x0
    have h0 : Keeps ms mf ma s x0 := h.rxLanes
    clear_value x0
    exact Keeps.cond h0.hdrBad (by
      split
      · exact h0.hdrCount.closeFrame
      · extract_lets -underBinder +onlyGivenNames x1
        have h1 : Keeps ms mf ma s x1 := by
          unfold x1
          split
          · exact h0.hdrCount
          · exact h0
        clear_value x1
        exact h1.dropPacket)))

theorem Keeps.execFrameTimeout {s e : State} {a0} (h : Keeps ms mf ma s e) : KeepsOut ms mf ma s (execFrameTimeout a0 e) := by
  delta execFrameTimeout
  exact KeepsOut.next (Keeps.cond h.closeFrame h)

theorem Keeps.execCameraSilence {s e : State} {a0} (h : Keeps ms mf ma s e) : KeepsOut ms mf ma s (execCameraSilence a0 e) := by
  delta execCameraSilence
  exact KeepsOut.next (by
    split
    · exact Keeps.cond h.setCam.raise.camUnhealthy h
    · exact h)

theorem Keeps.execFlintCopy {s e : State} {a0} (h : Keeps ms mf ma s e) : KeepsOut ms mf ma s (execFlintCopy a0 e) := by
  delta execFlintCopy
  exact KeepsOut.next (by
    extract_lets +onlyGivenNames x0
    clear_value x0
    split
    · exact h
    · exact h.setCam.wrapInc.upd.doIf (fun _ h1 => h1.satInc.raiseInt))

theorem Keeps.execPhyError {s e : State} {a0} (h : Keeps ms mf ma s e) : KeepsOut ms mf ma s (execPhyError a0 e) := by
  delta execPhyError
  exact KeepsOut.next (Keeps.cond h (by
    extract_lets +onlyGivenNames x0
    have h0 : Keeps ms mf ma s x0 := h.satInc.raiseInt
    clear_value x0
    exact h0.forN (fun _ _ h1 => by
      split
      · exact Keeps.cond h1.setFrame h1
      · exact h1)))

theorem Keeps.camRefuse {s e : State} {a1} (h : Keeps ms mf ma s e) : Keeps ms mf ma s (State.camRefuse e a1) := by
  delta State.camRefuse
  exact h.raiseInt

theorem Keeps.execCameraConfigWrite {s e : State} {a0} {a1} {a2} (h : Keeps ms mf ma s e) : KeepsOut ms mf ma s (execCameraConfigWrite a0 a1 a2 e) := by
  delta execCameraConfigWrite
  exact KeepsOut.next (h.keyed (fun _ h0 => by
    extract_lets -underBinder +onlyGivenNames x1
    clear_value x1
    extract_lets -underBinder +onlyGivenNames x2
    clear_value x2
    exact Keeps.cond (by
      extract_lets -underBinder +onlyGivenNames x3
      clear_value x3
      extract_lets -underBinder +onlyGivenNames x4
      clear_value x4
      exact Keeps.cond h0.setF.setF h0.camRefuse) (by
      extract_lets -underBinder +onlyGivenNames x5
      clear_value x5
      extract_lets -underBinder +onlyGivenNames x6
      clear_value x6
      extract_lets -underBinder +onlyGivenNames x7
      clear_value x7
      extract_lets -underBinder +onlyGivenNames x8
      clear_value x8
      exact Keeps.cond (by
        extract_lets -underBinder +onlyGivenNames x9
        clear_value x9
        extract_lets -underBinder +onlyGivenNames x10
        have h10 : Keeps ms mf ma s x10 := Keeps.cond h0.closeFrame.setCam (Keeps.cond h0.setCam h0)
        clear_value x10
        exact h10.setFs) h0.camRefuse)))

theorem Keeps.adSet {s e : State} {a1} (h : Keeps ms mf ma s e) : Keeps ms mf ma s (State.adSet e a1) := by
  delta State.adSet
  exact h.upd

theorem Keeps.dspSet {s e : State} {a1} (h : Keeps ms mf ma s e) : Keeps ms mf ma s (State.dspSet e a1) := by
  delta State.dspSet
  exact h.adSet

theorem Keeps.tileSet {s e : State} {a1} {a2} (h : Keeps ms mf ma s e) : Keeps ms mf ma s (State.tileSet e a1 a2) := by
  delta State.tileSet
  exact h.adSet

theorem Keeps.adSend {s e : State} {a1} (h : Keeps ms mf ma s e) : Keeps ms mf ma s (State.adSend e a1) := by
  delta State.adSend
  extract_lets +onlyGivenNames x0
  have h0 : Keeps ms mf ma s x0 := h.adQueue
  clear_value x0
  exact Keeps.cond h0.dspSet h0

theorem Keeps.adRaise {s e : State} {a1} {a2} {a3} {a4} (h : Keeps ms mf ma s e) : Keeps ms mf ma s (State.adRaise e a1 a2 a3 a4) := by
  delta State.adRaise
  extract_lets +onlyGivenNames x0
  have h0 : Keeps ms mf ma s x0.2 := h.draw
  clear_value x0
  exact h0.adSend

theorem Keeps.adFault {s e : State} {a1} {a2} {a3} (h : Keeps ms mf ma s e) : Keeps ms mf ma s (State.adFault e a1 a2 a3) := by
  delta State.adFault
  exact h.dspSet

theorem Keeps.setPoison {s e : State} {a1} {a2} {a3} (h : Keeps ms mf ma s e) : Keeps ms mf ma s (State.setPoison e a1 a2 a3) := by
  delta State.setPoison
  exact h.setBitF

theorem Keeps.readLine {s e : State} {a1} {a2} (h : Keeps ms mf ma s e) : Keeps ms mf ma s (State.readLine e a1 a2).2 := by
  delta State.readLine
  exact Keeps.condR (Keeps.pairR h) (by
    extract_lets +onlyGivenNames x0
    have h0 : Keeps ms mf ma s x0.2 := h.draw
    clear_value x0
    exact Keeps.pairR h0.adFault)

theorem Keeps.readLines {s e : State} {a0} {a1} (h : Keeps ms mf ma s e) : Keeps ms mf ma s (State.readLines a0 a1 e).2 := by
  induction a0 generalizing a1 e with
  | nil =>
    rw [State.readLines.eq_1]
    exact h
  | cons y l ih =>
    rw [State.readLines.eq_2]
    apply ih
    exact h.readLine

theorem Keeps.lineError {s e : State} {a1} {a2} {a3} (h : Keeps ms mf ma s e) : Keeps ms mf ma s (State.lineError e a1 a2 a3) := by
  delta State.lineError
  split
  · exact h.satInc.adRaise
  · exact h.satInc.setPoison.adRaise
  · exact h.setPoison.adRaise

theorem Keeps.lineErrors {s e : State} {a1} {a2} {a3} (h : Keeps ms mf ma s e) : Keeps ms mf ma s (State.lineErrors e a1 a2 a3) := by
  delta State.lineErrors
  exact h.forL (fun _ _ h0 => by
    split
    · exact h0.lineError
    · exact h0)

theorem Keeps.readChecked {s e : State} {a1} {a2} {a3} (h : Keeps ms mf ma s e) : Keeps ms mf ma s (State.readChecked e a1 a2 a3).2 := by
  delta State.readChecked
  exact h.lineErrors.readLines

theorem Keeps.writeLine {s e : State} {a1} {a2} {a3} {a4} (h : Keeps ms mf ma s e) : Keeps ms mf ma s (State.writeLine e a1 a2 a3 a4) := by
  delta State.writeLine
  exact Keeps.cond h.adSet.setPoison h.adFault

theorem Keeps.setVreg {s e : State} {a1} {a2} {a3} {a4} (h : Keeps ms mf ma s e) : Keeps ms mf ma s (State.setVreg e a1 a2 a3 a4) := by
  delta State.setVreg
  exact h.adSet

theorem Keeps.setAcc {s e : State} {a1} {a2} {a3} {a4} {a5} {a6} {a7} (h : Keeps ms mf ma s e) : Keeps ms mf ma s (State.setAcc e a1 a2 a3 a4 a5 a6 a7) := by
  delta State.setAcc
  extract_lets +onlyGivenNames x0
  clear_value x0
  exact h.adSet

theorem Keeps.clearBank {s e : State} {a1} {a2} {a3} (h : Keeps ms mf ma s e) : Keeps ms mf ma s (State.clearBank e a1 a2 a3) := by
  delta State.clearBank
  extract_lets +onlyGivenNames x0
  clear_value x0
  exact h.adSet

theorem Keeps.markBank {s e : State} {a1} {a2} {a3} (h : Keeps ms mf ma s e) : Keeps ms mf ma s (State.markBank e a1 a2 a3) := by
  delta State.markBank
  exact h.forN (fun _ _ h0 => h0.adSet)

theorem Keeps.tenWrite {s e : State} {a1} {a2} {a3} (h : Keeps ms mf false s e) : Keeps ms mf false s (State.tenWrite e a1 a2 a3) := by
  refine h.dram (Sparse.wf_foldl _ (fun m b k => ?_) a3 (e.dram, 0))
  dsimp only
  split
  · exact Sparse.wf_set _ _ k
  · exact k

theorem Keeps.tenStore {s e : State} {a1} {a2} {a3} (h : Keeps ms mf false s e) : Keeps ms mf false s (State.tenStore e a1 a2 a3) := by
  delta State.tenStore
  exact h.tenWrite.doIf (fun _ h0 => h0.adFault)

theorem Keeps.shelfPut {s e : State} {a1} {a2} {a3} (h : Keeps ms mf false s e) : Keeps ms mf false s (State.shelfPut e a1 a2 a3) := by
  delta State.shelfPut
  have hr : Keeps ms mf false s { e with shelf := (a3.foldl (fun (x : Sparse Byte × Nat) b =>
      ((match e.shelfAt a1 (a2 + x.2) with | some p => Sparse.set 0 x.1 p b | none => x.1), x.2 + 1)) (e.shelf, 0)).1 } := by
    refine h.shelf fun w => Sparse.wf_foldl _ (fun m b hm => ?_) _ _ w
    dsimp only
    split
    · exact Sparse.wf_set _ _ hm
    · exact hm
  exact hr.doIf (fun _ h0 => h0.adFault)

theorem Keeps.markShelf {s e : State} {a1} {a2} (h : Keeps ms mf ma s e) : Keeps ms mf ma s (State.markShelf e a1 a2) := by
  delta State.markShelf
  split
  · exact h.adSet
  · exact h

theorem Keeps.shelfMark {s e : State} {a1} {a2} {a3} {a4} (h : Keeps ms mf ma s e) : Keeps ms mf ma s (State.shelfMark e a1 a2 a3 a4) := by
  delta State.shelfMark
  exact Keeps.cond h.markShelf.markShelf (by
    split
    · exact Keeps.cond h.adSet h
    · exact h)

theorem Keeps.readMem64 {s e : State} {a1} {a2} (h : Keeps ms mf ma s e) : Keeps ms mf ma s (State.readMem64 e a1 a2).2 := by
  delta State.readMem64
  exact Keeps.condR (by
    split
    · exact Keeps.pairR h
    · extract_lets +onlyGivenNames x0
      have h0 : Keeps ms mf ma s x0.2 := h.draw
      clear_value x0
      exact Keeps.pairR h0.adFault) (Keeps.condR (Keeps.pairR h) (by
    extract_lets +onlyGivenNames x1
    have h1 : Keeps ms mf ma s x1.2 := h.draw
    clear_value x1
    exact Keeps.pairR h1.adFault))

theorem Keeps.writeMem64 {s e : State} {a1} {a2} {a3} {a4} (h : Keeps ms mf false s e) : Keeps ms mf false s (State.writeMem64 e a1 a2 a3 a4) := by
  delta State.writeMem64
  refine Keeps.cond ?_ (Keeps.cond h.tenWrite h.adFault)
  split
  · exact (h.shelf (Sparse.wf_setList _ _)).adSet
  · exact h.adFault

theorem Keeps.eccError {s e : State} {a1} {a2} (h : Keeps ms mf ma s e) : Keeps ms mf ma s (State.eccError e a1 a2).2 := by
  delta State.eccError
  split
  · exact Keeps.condR (Keeps.pairR h.raise) (Keeps.condR (Keeps.pairR h.adFault) (Keeps.pairR h))
  · exact Keeps.pairR h

theorem Keeps.nocError {s e : State} {a1} (h : Keeps ms mf ma s e) : Keeps ms mf ma s (State.nocError e a1) := by
  delta State.nocError
  exact h.satInc.adRaise

theorem Keeps.meetError {s e : State} {a1} {a2} {a3} (h : Keeps ms mf ma s e) : Keeps ms mf ma s (State.meetError e a1 a2 a3).2 := by
  delta State.meetError
  split
  · exact Keeps.condR (Keeps.pairR h) h.eccError
  · exact Keeps.condR (Keeps.pairR h) h.eccError
  · exact Keeps.condR (Keeps.pairR h.satInc.adRaise) (Keeps.pairR h)
  · exact Keeps.condR (Keeps.pairR h.markShelf.satInc.adRaise) (Keeps.pairR h)
  · exact Keeps.pairR h
  · exact Keeps.pairR h.nocError

theorem Keeps.fetch {s e : State} {a1} {a2} {a3} {a4} (h : Keeps ms mf ma s e) : Keeps ms mf ma s (State.fetch e a1 a2 a3 a4).2 := by
  delta State.fetch
  refine Keeps.foldlR (e := ([], e)) h (fun r i h0 => ?_)
  extract_lets x1 x2 x3 x4 x5 x6 x7 x8
  have h6 : Keeps ms mf ma s x6 := Keeps.cond h0 h0.adFault
  have h7 : Keeps ms mf ma s x7.2 := by
    unfold x7
    split
    · exact h6.meetError
    · exact h6
  have h8 : Keeps ms mf ma s x8.2 := h7.draw
  split
  · exact h8
  · split
    · exact h7
    · exact h7

theorem Keeps.store {s e : State} {a1} {a2} {a3} (h : Keeps ms mf false s e) : Keeps ms mf false s (State.store e a1 a2 a3) := by
  delta State.store
  exact Keeps.foldlL (Keeps.pairL h) (fun _ _ h0 => Keeps.pairL (Keeps.cond h0.shelfPut.shelfMark h0.tenStore))

theorem Keeps.refill {s e : State} {a1} (h : Keeps ms mf ma s e) : Keeps ms mf ma s (State.refill e a1) := by
  delta State.refill
  split
  · exact h
  · extract_lets +onlyGivenNames x0
    clear_value x0
    extract_lets +onlyGivenNames x1
    clear_value x1
    exact h.dspSet

theorem Keeps.fillBucket {s e : State} {a1} (h : Keeps ms mf ma s e) : Keeps ms mf ma s (State.fillBucket e a1) := by
  delta State.fillBucket
  split
  · exact h
  · exact h.dspSet

theorem Keeps.charge {s e : State} {a1} {a2} (h : Keeps ms mf ma s e) : Keeps ms mf ma s (State.charge e a1 a2) := by
  delta State.charge
  extract_lets +onlyGivenNames x0
  have h0 : Keeps ms mf ma s x0 := h.refill
  clear_value x0
  extract_lets +onlyGivenNames x1
  clear_value x1
  exact h0.dspSet

theorem Keeps.progStart {s e : State} {a1} {a2} {a3} (h : Keeps ms mf ma s e) : Keeps ms mf ma s (State.progStart e a1 a2 a3) := by
  delta State.progStart
  extract_lets -underBinder +onlyGivenNames x0
  clear_value x0
  extract_lets -underBinder +onlyGivenNames x1
  clear_value x1
  extract_lets -underBinder -merge +onlyGivenNames y2_0 x2
  clear_value x2
  extract_lets -underBinder +onlyGivenNames x3
  clear_value x3
  extract_lets -underBinder +onlyGivenNames x4
  have h4 : Keeps ms mf ma s x4 := h.tileSet
  clear_value x4
  extract_lets -underBinder +onlyGivenNames x5
  have h5 : Keeps ms mf ma s x5 := Keeps.cond h4 h4.adSet
  clear_value x5
  extract_lets -underBinder +onlyGivenNames x6
  have h6 : Keeps ms mf ma s x6 := h5.forN (fun _ _ h7 => Keeps.cond h7 h7.setF)
  clear_value x6
  extract_lets -underBinder +onlyGivenNames x8
  have h8 : Keeps ms mf ma s x8 := h6.setFs
  clear_value x8
  exact h8.wrapInc.disarm.disarm

theorem Keeps.poisonLost {s e : State} {a1} {a2} (h : Keeps ms mf ma s e) : Keeps ms mf ma s (State.poisonLost e a1 a2) := by
  delta State.poisonLost
  exact h.forL (fun _ _ h0 => h0.setPoison)

theorem Keeps.addToken {s e : State} {a1} {a2} (h : Keeps ms mf ma s e) : Keeps ms mf ma s (State.addToken e a1 a2) := by
  delta State.addToken
  exact Keeps.cond h h.setF

theorem Keeps.stray {s e : State} {a1} (h : Keeps ms mf ma s e) : Keeps ms mf ma s (State.stray e a1) := by
  delta State.stray
  exact h.setF

theorem Keeps.withdrawn {s e : State} {a1} {a2} {a3} {a4} {a5} (h : Keeps ms mf ma s e) : Keeps ms mf ma s (State.withdrawn e a1 a2 a3 a4 a5) := by
  delta State.withdrawn
  extract_lets +onlyGivenNames x0
  clear_value x0
  split
  · extract_lets +onlyGivenNames x1
    have h1 : Keeps ms mf ma s x1 := h.poisonLost.tileSet
    clear_value x1
    extract_lets +onlyGivenNames x2
    have h2 : Keeps ms mf ma s x2 := Keeps.cond h1.addToken h1
    clear_value x2
    exact h2.setF.flag.adRaise
  · exact Keeps.cond h h.stray

theorem Keeps.openLines {s e : State} {a0} (h : Keeps ms mf ma s e) : Keeps ms mf ma s (State.openLines a0 e).2 := by
  induction a0 generalizing e with
  | zero => exact h
  | succ n ih =>
    rw [State.openLines.eq_2]
    exact ih h.draw

theorem Keeps.cancelMac {s e : State} {a1} {a2} (h : Keeps ms mf ma s e) : Keeps ms mf ma s (State.cancelMac e a1 a2) := by
  delta State.cancelMac
  extract_lets -underBinder +onlyGivenNames x0
  clear_value x0
  extract_lets -underBinder +onlyGivenNames x1
  clear_value x1
  split
  · extract_lets -underBinder +onlyGivenNames x2
    have h2 : Keeps ms mf ma s x2.2 := h.openLines
    clear_value x2
    extract_lets -underBinder +onlyGivenNames x3
    have h3 : Keeps ms mf ma s x3.2 := h2.draw
    clear_value x3
    exact h3.tileSet
  · extract_lets -underBinder +onlyGivenNames x4
    have h4 : Keeps ms mf ma s x4 := h.forN (fun _ _ h5 => h5.forN (fun _ _ h6 => by
      extract_lets -underBinder +onlyGivenNames x7
      have h7 : Keeps ms mf ma s x7.2 := h6.draw
      clear_value x7
      exact h7.setAcc))
    clear_value x4
    exact h4.markBank
  · exact h.forN (fun _ _ h8 => h8.forN (fun _ _ h9 => by
      extract_lets -underBinder +onlyGivenNames x10
      have h10 : Keeps ms mf ma s x10.2 := h9.draw
      clear_value x10
      exact h10.setAcc))
  · exact h

theorem Keeps.cancelVec {s e : State} {a1} {a2} (h : Keeps ms mf ma s e) : Keeps ms mf ma s (State.cancelVec e a1 a2) := by
  delta State.cancelVec
  extract_lets -underBinder +onlyGivenNames x0
  clear_value x0
  extract_lets -underBinder +onlyGivenNames x1
  clear_value x1
  extract_lets -underBinder +onlyGivenNames x2
  have h2 : Keeps ms mf ma s x2.2 := h.draw
  clear_value x2
  extract_lets -underBinder +onlyGivenNames x3
  have h3 : Keeps ms mf ma s x3.2 := h2.draw
  clear_value x3
  split
  · exact h
  · extract_lets -underBinder +onlyGivenNames x4
    clear_value x4
    exact h.forN (fun _ _ h5 => by
      extract_lets -underBinder +onlyGivenNames x6
      have h6 : Keeps ms mf ma s x6.2 := h5.draw
      clear_value x6
      exact h6.writeLine)
  · extract_lets -underBinder +onlyGivenNames x7
    clear_value x7
    extract_lets -underBinder +onlyGivenNames x8
    clear_value x8
    extract_lets -underBinder +onlyGivenNames x9
    clear_value x9
    exact h3.setVreg
  · extract_lets -underBinder +onlyGivenNames x10
    clear_value x10
    extract_lets -underBinder +onlyGivenNames x11
    have h11 : Keeps ms mf ma s x11.2 := h.openLines
    clear_value x11
    extract_lets -underBinder +onlyGivenNames x12
    have h12 : Keeps ms mf ma s x12.2 := h11.draw
    clear_value x12
    extract_lets -underBinder +onlyGivenNames x13
    clear_value x13
    exact h12.tileSet
  · exact h
  · exact h3.setVreg

theorem Keeps.abortTile {s e : State} {a1} {a2} {a3} {a4} {a5} (h : Keeps ms mf ma s e) : Keeps ms mf ma s (State.abortTile e a1 a2 a3 a4 a5) := by
  delta State.abortTile
  extract_lets -underBinder +onlyGivenNames x0
  clear_value x0
  extract_lets -underBinder +onlyGivenNames x1
  have h1 : Keeps ms mf ma s x1 := by
    unfold x1
    split
    · exact h.cancelMac
    · exact h
  clear_value x1
  extract_lets -underBinder +onlyGivenNames x2
  have h2 : Keeps ms mf ma s x2 := by
    unfold x2
    split
    · exact h1.cancelVec
    · exact h1
  clear_value x2
  extract_lets -underBinder +onlyGivenNames x3
  clear_value x3
  extract_lets -underBinder +onlyGivenNames x4
  clear_value x4
  extract_lets -underBinder +onlyGivenNames x5
  clear_value x5
  extract_lets -underBinder +onlyGivenNames x6
  have h6 : Keeps ms mf ma s x6 := h2.forL (fun _ _ h7 => h7.poisonLost)
  clear_value x6
  extract_lets -underBinder +onlyGivenNames x8
  have h8 : Keeps ms mf ma s x8 := h6.tileSet
  clear_value x8
  extract_lets -underBinder +onlyGivenNames x9
  have h9 : Keeps ms mf ma s x9 := h8.setFs
  clear_value x9
  exact h9.disarm.disarm

theorem Keeps.sendWithdrawals {s e : State} {a1} (h : Keeps ms mf ma s e) : Keeps ms mf ma s (State.sendWithdrawals e a1) := by
  delta State.sendWithdrawals
  split
  · exact h
  · exact h.tileSet.forL (fun _ _ h0 => h0.withdrawn)

theorem Keeps.recordFault {s e : State} {a1} {a2} {a3} {a4} {a5} (h : Keeps ms mf ma s e) : Keeps ms mf ma s (State.recordFault e a1 a2 a3 a4 a5) := by
  delta State.recordFault
  extract_lets +onlyGivenNames x0
  have h0 : Keeps ms mf ma s x0 := Keeps.cond h h.setFs
  clear_value x0
  exact h0.flag.adFault.adRaise

theorem Keeps.tileFaultAt {s e : State} {a1} {a2} {a3} {a4} {a5} (h : Keeps ms mf ma s e) : Keeps ms mf ma s (State.tileFaultAt e a1 a2 a3 a4 a5) := by
  delta State.tileFaultAt
  exact h.recordFault.abortTile

theorem Keeps.tileFault {s e : State} {a1} {a2} {a3} {a4} (h : Keeps ms mf ma s e) : Keeps ms mf ma s (State.tileFault e a1 a2 a3 a4) := by
  delta State.tileFault
  extract_lets -underBinder +onlyGivenNames x0
  clear_value x0
  extract_lets -underBinder +onlyGivenNames x1
  have h1 : Keeps ms mf ma s x1 := Keeps.cond h h.tileSet
  clear_value x1
  exact h1.tileFaultAt

theorem Keeps.signal {s e : State} {a1} {a2} {a3} {a4} (h : Keeps ms mf ma s e) : Keeps ms mf ma s (State.signal e a1 a2 a3 a4) := by
  delta State.signal
  exact Keeps.cond h (Keeps.cond h.tileFaultAt h.addToken)

theorem Keeps.linkOff {s e : State} (h : Keeps ms mf ma s e) : Keeps ms mf ma s (State.linkOff e) := by
  delta State.linkOff
  exact h.silSet.setFs

theorem Keeps.setTenant {s e : State} {a1} {a2} (h : Keeps ms mf ma s e) : Keeps ms mf ma s (State.setTenant e a1 a2) := by
  delta State.setTenant
  exact Keeps.cond h h.setF.setBitF.raise

theorem Keeps.tenantSet {s e : State} {a1} {a2} (h : Keeps ms mf ma s e) : Keeps ms mf ma s (State.tenantSet e a1 a2) := by
  delta State.tenantSet
  exact h.upd

theorem Keeps.dropTenant {s e : State} {a1} (h : Keeps ms mf ma s e) : Keeps ms mf ma s (State.dropTenant e a1) := by
  delta State.dropTenant
  extract_lets +onlyGivenNames x0
  have h0 : Keeps ms mf ma s x0 := h.setTenant.tenantSet
  clear_value x0
  exact h0.forN (fun _ _ h1 => h1.setF.setF)

theorem Keeps.setTrust {s e : State} {a1} (h : Keeps ms mf ma s e) : Keeps ms mf ma s (State.setTrust e a1) := by
  delta State.setTrust
  exact Keeps.cond h (Keeps.cond h.upd.setFs.raiseInt.resetRuns.refreshZones h.upd.setFs.raiseInt.refreshZones)

theorem Keeps.adBefore {s e : State} (h : Keeps ms mf ma s e) : Keeps ms mf ma s (State.adBefore e) := by
  delta State.adBefore
  exact h.clearAllZones.abortForward.setTrust

theorem Keeps.adLose {s e : State} {a1} (h : Keeps ms mf false s e) : Keeps ms mf false s (State.adLose e a1) := by
  delta State.adLose
  have k : ∀ x : State, Keeps ms mf false s x → Keeps ms mf false s { x with
      ad := .init, dram := if a1 then x.dram else [], shelf := [], asy := { x.asy with qual := none, qualBad := false },
      cil := { x.cil with loads := [], resident := if a1 then x.cil.resident else [] } } := by
    intro x hx
    refine ((hx.dram (m := if a1 then x.dram else []) fun w => ?_).shelf (m := []) fun _ => rfl).upd
    split
    · exact w
    · rfl
  exact (k _ (h.upd.upd.linkOff.upd.setF)).clearRegs.setF

theorem Keeps.adCount {s e : State} {a1} (h : Keeps ms mf ma s e) : Keeps ms mf ma s (State.adCount e a1) := by
  delta State.adCount
  exact h.setF.wrapInc

theorem Keeps.adReset {s e : State} {a1} (h : Keeps ms mf false s e) : Keeps ms mf false s (State.adReset e a1) := by
  delta State.adReset
  exact (h.adBefore.adCount.forN (fun _ _ h0 => h0.dropTenant)).adLose

theorem Keeps.adEntryReset {s e : State} (h : Keeps ms mf false s e) : Keeps ms mf false s (State.adEntryReset e) := by
  delta State.adEntryReset
  exact (h.adBefore.adCount.forN (fun _ _ h0 => Keeps.cond h0 h0.dropTenant)).adLose

theorem Keeps.adDomainsOff {s e : State} (h : Keeps ms mf ma s e) : Keeps ms mf ma s (State.adDomainsOff e) := by
  delta State.adDomainsOff
  exact h.forL (fun _ _ h0 => h0.setBitF)

theorem Keeps.dropTiles {s e : State} (h : Keeps ms mf ma s e) : Keeps ms mf ma s (State.dropTiles e) := by
  delta State.dropTiles
  exact h.forN (fun _ _ h0 => Keeps.cond h0 h0.setBitF)

theorem Keeps.asySet {s e : State} {a1} (h : Keeps ms mf ma s e) : Keeps ms mf ma s (State.asySet e a1) := by
  delta State.asySet
  exact h.upd

theorem Keeps.giveUp {s e : State} (h : Keeps ms mf false s e) : Keeps ms mf false s (State.giveUp e) := by
  delta State.giveUp
  exact h.adReset.adDomainsOff.setF.raiseInt

theorem Keeps.requestAdReset {s e : State} {a1} (h : Keeps ms mf false s e) : Keeps ms mf false s (State.requestAdReset e a1) := by
  delta State.requestAdReset
  exact Keeps.cond h.setF (Keeps.cond h (Keeps.cond h.giveUp (by
    extract_lets -underBinder +onlyGivenNames x0
    have h0 : Keeps ms mf false s x0 := h.doIf (fun _ h1 => h1.asySet)
    clear_value x0
    exact h0.adReset.setF.raise)))

theorem Keeps.distrust {s e : State} (h : Keeps ms mf false s e) : Keeps ms mf false s (State.distrust e) := by
  delta State.distrust
  exact Keeps.cond h h.setTrust.requestAdReset

theorem Keeps.qualFail {s e : State} (h : Keeps ms mf false s e) : Keeps ms mf false s (State.qualFail e) := by
  delta State.qualFail
  exact h.asySet.disarm.raiseInt.flag.requestAdReset

theorem Keeps.ladder {s e : State} {a1} (h : Keeps ms mf false s e) : Keeps ms mf false s (State.ladder e a1) := by
  delta State.ladder
  extract_lets -underBinder +onlyGivenNames x0
  clear_value x0
  extract_lets -underBinder +onlyGivenNames x1
  have h1 : Keeps ms mf false s x1 := h.asySet.setF
  clear_value x1
  extract_lets -underBinder +onlyGivenNames x2
  have h2 : Keeps ms mf false s x2 := h1.satInc
  clear_value x2
  split
  · exact h2
  · exact Keeps.cond h2.distrust (Keeps.cond h2.setTrust h2.setF)

theorem Keeps.ladderAtOnce {s e : State} {a1} (h : Keeps ms mf false s e) : Keeps ms mf false s (State.ladderAtOnce e a1) := by
  delta State.ladderAtOnce
  exact h.ladder.distrust

theorem Keeps.tenViolCount {s e : State} {a1} (h : Keeps ms mf ma s e) : Keeps ms mf ma s (State.tenViolCount e a1) := by
  delta State.tenViolCount
  exact h.satInc.setF.flag

theorem Keeps.tenViol {s e : State} {a1} (h : Keeps ms mf false s e) : Keeps ms mf false s (State.tenViol e a1) := by
  delta State.tenViol
  exact h.tenViolCount.raise.ladder

theorem Keeps.trustVerdict {s e : State} {a1} {a2} (h : Keeps ms mf false s e) : Keeps ms mf false s (State.trustVerdict e a1 a2) := by
  delta State.trustVerdict
  extract_lets -underBinder +onlyGivenNames x0
  clear_value x0
  exact Keeps.cond (Keeps.cond (by
    extract_lets -underBinder +onlyGivenNames x1
    have h1 : Keeps ms mf false s x1 := h.satInc
    clear_value x1
    exact Keeps.cond h1.setTrust h1) h) (Keeps.cond (by
    extract_lets -underBinder +onlyGivenNames x2
    clear_value x2
    extract_lets -underBinder +onlyGivenNames x3
    have h3 : Keeps ms mf false s x3 := h.asySet
    clear_value x3
    extract_lets -underBinder +onlyGivenNames x4
    have h4 : Keeps ms mf false s x4 := Keeps.cond h3.setF h3
    clear_value x4
    exact Keeps.cond (Keeps.cond h4.setTrust (Keeps.cond h4.distrust h4)) h4) h)

theorem Keeps.asyRefused {s e : State} (h : Keeps ms mf ma s e) : Keeps ms mf ma s (State.asyRefused e) := by
  delta State.asyRefused
  exact h.flag

theorem Keeps.execDemote {s e : State} (h : Keeps ms mf ma s e) : KeepsOut ms mf ma s (execDemote e) := by
  delta execDemote
  exact KeepsOut.next (h.access (fun _ h0 => Keeps.cond h0.setTrust h0.asyRefused))

theorem Keeps.execDistrust {s e : State} (h : Keeps ms mf false s e) : KeepsOut ms mf false s (execDistrust e) := by
  delta execDistrust
  exact KeepsOut.next (h.access (fun _ h0 => Keeps.cond h0.asyRefused h0.distrust))

theorem Keeps.adDomainsOn {s e : State} (h : Keeps ms mf ma s e) : Keeps ms mf ma s (State.adDomainsOn e) := by
  delta State.adDomainsOn
  exact h.forL (fun _ _ h0 => h0.setBitF)

theorem Keeps.execRetry {s e : State} (h : Keeps ms mf false s e) : KeepsOut ms mf false s (execRetry e) := by
  delta execRetry
  exact KeepsOut.next (h.access (fun _ h0 => Keeps.cond h0.adDomainsOn.requestAdReset h0.asyRefused))

theorem Keeps.execClearzones {s e : State} (h : Keeps ms mf ma s e) : KeepsOut ms mf ma s (execClearzones e) := by
  delta execClearzones
  exact KeepsOut.next (h.access (fun _ h0 => h0.clearAllZones))

theorem Keeps.execAssaySelfCheck {s e : State} {a0} (h : Keeps ms mf ma s e) : KeepsOut ms mf ma s (execAssaySelfCheck a0 e) := by
  delta execAssaySelfCheck
  exact KeepsOut.next (Keeps.cond ((((h.doIf (fun _ h0 => h0.setF)).clearAllZones).raise).assertTrip) h)

theorem Keeps.execStkRngFail {s e : State} (h : Keeps ms mf ma s e) : KeepsOut ms mf ma s (execStkRngFail e) := by
  delta execStkRngFail
  exact KeepsOut.next (Keeps.cond h.satInc.setF.raiseInt h)

theorem Keeps.silCount {s e : State} {a1} {a2} (h : Keeps ms mf ma s e) : Keeps ms mf ma s (State.silCount e a1 a2) := by
  delta State.silCount
  exact h.satInc.setF.flag.raise

theorem Keeps.silViol {s e : State} {a1} {a2} (h : Keeps ms mf false s e) : Keeps ms mf false s (State.silViol e a1 a2) := by
  delta State.silViol
  exact h.silCount.ladder

theorem Keeps.nakMsg {s e : State} {a1} {a2} {a3} (h : Keeps ms mf ma s e) : Keeps ms mf ma s (State.nakMsg e a1 a2 a3) := by
  delta State.nakMsg
  exact h.sendAd

theorem Keeps.silBadMsg {s e : State} {a1} {a2} {a3} (h : Keeps ms mf false s e) : Keeps ms mf false s (State.silBadMsg e a1 a2 a3) := by
  delta State.silBadMsg
  exact h.nakMsg.silViol

theorem Keeps.linkTimersOff {s e : State} (h : Keeps ms mf ma s e) : Keeps ms mf ma s (State.linkTimersOff e) := by
  delta State.linkTimersOff
  exact Keeps.foldl h (fun _ _ h0 => h0.disarm)

theorem Keeps.startTraining {s e : State} (h : Keeps ms mf ma s e) : Keeps ms mf ma s (State.startTraining e) := by
  delta State.startTraining
  exact h.linkTimersOff.silSet.setFs.arm

theorem Keeps.fullTraining {s e : State} (h : Keeps ms mf false s e) : Keeps ms mf false s (State.fullTraining e) := by
  delta State.fullTraining
  exact h.startTraining.ladder

theorem Keeps.linkDown {s e : State} (h : Keeps ms mf false s e) : Keeps ms mf false s (State.linkDown e) := by
  delta State.linkDown
  extract_lets -underBinder +onlyGivenNames x0
  have h0 : Keeps ms mf false s x0 := h.linkTimersOff.setF.raiseInt
  clear_value x0
  extract_lets -underBinder +onlyGivenNames x1
  have h1 : Keeps ms mf false s x1 := h0.silCount.ladder
  clear_value x1
  exact Keeps.cond h1 (Keeps.cond h1.distrust h1.requestAdReset)

theorem Keeps.attemptFails {s e : State} (h : Keeps ms mf false s e) : Keeps ms mf false s (State.attemptFails e) := by
  delta State.attemptFails
  exact Keeps.cond h.fullTraining (by
    extract_lets -underBinder +onlyGivenNames x0
    have h0 : Keeps ms mf false s x0 := h.disarm.silSet
    clear_value x0
    exact Keeps.cond h0.arm h0.linkDown)

theorem Keeps.execTrainingStepTimeout {s e : State} {a0} (h : Keeps ms mf false s e) : KeepsOut ms mf false s (execTrainingStepTimeout a0 e) := by
  delta execTrainingStepTimeout
  exact KeepsOut.next (by
    split
    · exact Keeps.cond h.attemptFails h
    · exact h)

theorem Keeps.execTrainingRetry {s e : State} (h : Keeps ms mf ma s e) : KeepsOut ms mf ma s (execTrainingRetry e) := by
  delta execTrainingRetry
  exact KeepsOut.next (Keeps.cond h.disarm.silSet.setF.arm h)

theorem Keeps.trained {s e : State} {a1} {a2} (h : Keeps ms mf ma s e) : Keeps ms mf ma s (State.trained e a1 a2) := by
  delta State.trained
  exact h.silSet

theorem Keeps.trn2 {s e : State} {a1} (h : Keeps ms mf false s e) : Keeps ms mf false s (State.trn2 e a1) := by
  delta State.trn2
  extract_lets -underBinder +onlyGivenNames x0
  clear_value x0
  exact Keeps.cond h.attemptFails (Keeps.cond h (by
    extract_lets -underBinder +onlyGivenNames x1
    have h1 : Keeps ms mf false s x1 := h.setF.trained.setLink
    clear_value x1
    exact h1.onWire))

theorem Keeps.execLinkTraining {s e : State} {a0} (h : Keeps ms mf false s e) : KeepsOut ms mf false s (execLinkTraining a0 e) := by
  delta execLinkTraining
  exact KeepsOut.next (by
    split
    · exact Keeps.cond h.startTraining.silSet.setFs.arm h
    · exact Keeps.cond (Keeps.cond h.attemptFails h.setF.trained) h
    · exact Keeps.cond (Keeps.cond h.attemptFails (by
        extract_lets -underBinder +onlyGivenNames x0
        clear_value x0
        extract_lets -underBinder +onlyGivenNames x1
        have h1 : Keeps ms mf false s x1 := h.silSet.doIf (fun _ h2 => h2.setF)
        clear_value x1
        exact h1.trained)) h
    · exact Keeps.cond (Keeps.cond h.trn2 h.attemptFails) h)

theorem Keeps.initFc {s e : State} {a1} (h : Keeps ms mf false s e) : Keeps ms mf false s (State.initFc e a1) := by
  delta State.initFc
  exact Keeps.cond (Keeps.cond h.attemptFails (Keeps.cond h.silCount.attemptFails (by
    extract_lets -underBinder +onlyGivenNames x0
    have h0 : Keeps ms mf false s x0 := h.trained
    clear_value x0
    exact Keeps.cond h0.setLink.setLink h0))) h

theorem Keeps.sendBody {s e : State} {a0} {a1} {a2} {a3} {a4} (h : Keeps ms mf ma s e) : Keeps ms mf ma s (State.sendBody a0 a1 a2 a3 a4 e) := by
  induction a0 generalizing a1 a2 a3 a4 e with
  | zero =>
    rw [State.sendBody.eq_1]
    exact h
  | succ n ih =>
    rw [State.sendBody.eq_2]
    exact Keeps.cond (Keeps.cond h.sendAd.setF h.setF.raise) (by
      apply ih
      exact h.sendAd.setF)

theorem Keeps.loadFirmware {s e : State} (h : Keeps ms mf ma s e) : Keeps ms mf ma s (State.loadFirmware e) := by
  delta State.loadFirmware
  extract_lets +onlyGivenNames x0
  have h0 : Keeps ms mf ma s x0 := h.silSet.setFs
  clear_value x0
  exact Keeps.cond (by
    extract_lets +onlyGivenNames x1
    clear_value x1
    extract_lets +onlyGivenNames x2
    clear_value x2
    extract_lets +onlyGivenNames x3
    clear_value x3
    exact h0.sendBody) h0

theorem Keeps.execLinkUp {s e : State} (h : Keeps ms mf ma s e) : KeepsOut ms mf ma s (execLinkUp e) := by
  delta execLinkUp
  exact KeepsOut.next (Keeps.cond (by
    extract_lets +onlyGivenNames x0
    clear_value x0
    extract_lets +onlyGivenNames x1
    have h1 : Keeps ms mf ma s x1 := h.disarm.silSet
    clear_value x1
    extract_lets +onlyGivenNames x2
    have h2 : Keeps ms mf ma s x2 := h1.setF.raiseInt
    clear_value x2
    extract_lets +onlyGivenNames x3
    have h3 : Keeps ms mf ma s x3 := Keeps.cond h2 h2.raise
    clear_value x3
    extract_lets +onlyGivenNames x4
    have h4 : Keeps ms mf ma s x4 := h3.transmit.transmit
    clear_value x4
    exact Keeps.cond h4.loadFirmware h4) h)

theorem Keeps.startEntry {s e : State} {a1} (h : Keeps ms mf ma s e) : Keeps ms mf ma s (State.startEntry e a1) := by
  delta State.startEntry
  extract_lets +onlyGivenNames x0
  clear_value x0
  exact h.silSet.setLink.arm.transmit

theorem Keeps.wantedSleep {s e : State} (h : Keeps ms mf ma s e) : Keeps ms mf ma s (State.wantedSleep e) := by
  delta State.wantedSleep
  exact Keeps.cond h.startEntry h

theorem Keeps.startFast {s e : State} (h : Keeps ms mf false s e) : Keeps ms mf false s (State.startFast e) := by
  delta State.startFast
  exact Keeps.cond (by
    extract_lets -underBinder +onlyGivenNames x0
    clear_value x0
    extract_lets -underBinder +onlyGivenNames x1
    clear_value x1
    extract_lets -underBinder +onlyGivenNames x2
    have h2 : Keeps ms mf false s x2 := h.satInc.raiseInt
    clear_value x2
    extract_lets -underBinder +onlyGivenNames x3
    have h3 : Keeps ms mf false s x3 := h2.silSet
    clear_value x3
    exact Keeps.cond h3.fullTraining h3.disarm.disarm.arm) h

theorem Keeps.replayFrom {s e : State} {a1} {a2} (h : Keeps ms mf ma s e) : Keeps ms mf ma s (State.replayFrom e a1 a2) := by
  delta State.replayFrom
  extract_lets +onlyGivenNames x0
  clear_value x0
  exact Keeps.cond h (by
    extract_lets +onlyGivenNames x1
    have h1 : Keeps ms mf ma s x1 := (h.forL (fun _ _ h2 => h2.onWire)).silSet
    clear_value x1
    exact Keeps.cond h1.arm h1)

theorem Keeps.replayAll {s e : State} {a1} (h : Keeps ms mf ma s e) : Keeps ms mf ma s (State.replayAll e a1) := by
  delta State.replayAll
  split
  · exact h.replayFrom
  · exact h

theorem Keeps.execFastRetrain {s e : State} (h : Keeps ms mf false s e) : KeepsOut ms mf false s (execFastRetrain e) := by
  delta execFastRetrain
  exact KeepsOut.next (Keeps.cond (Keeps.cond h.fullTraining (Keeps.cond h (by
    extract_lets -underBinder +onlyGivenNames x0
    have h0 : Keeps ms mf false s x0 := h.disarm.silSet
    clear_value x0
    extract_lets -underBinder +onlyGivenNames x1
    have h1 : Keeps ms mf false s x1 := h0.doIf (fun _ h2 => h2.silSet.disarm)
    clear_value x1
    extract_lets -underBinder +onlyGivenNames x3
    have h3 : Keeps ms mf false s x3 := Keeps.cond h1.raise h1
    clear_value x3
    exact h3.replayAll.replayAll.transmit.transmit.wantedSleep))) h)

theorem Keeps.execBlockLockLost {s e : State} {a0} (h : Keeps ms mf false s e) : KeepsOut ms mf false s (execBlockLockLost a0 e) := by
  delta execBlockLockLost
  exact KeepsOut.next (by
    extract_lets -underBinder +onlyGivenNames x0
    clear_value x0
    exact Keeps.cond h.startFast h)

theorem Keeps.execRetrain {s e : State} (h : Keeps ms mf false s e) : KeepsOut ms mf false s (execRetrain e) := by
  delta execRetrain
  exact KeepsOut.next (h.access (fun _ h0 => h0.startFast))

theorem Keeps.execFulltrain {s e : State} (h : Keeps ms mf ma s e) : KeepsOut ms mf ma s (execFulltrain e) := by
  delta execFulltrain
  exact KeepsOut.next (h.access (fun _ h0 => Keeps.cond h0 h0.startTraining))

theorem Keeps.execSillrst {s e : State} (h : Keeps ms mf ma s e) : KeepsOut ms mf ma s (execSillrst e) := by
  delta execSillrst
  exact KeepsOut.next (h.access (fun _ h0 => Keeps.cond h0 h0.startTraining))

theorem Keeps.crcError {s e : State} (h : Keeps ms mf false s e) : Keeps ms mf false s (State.crcError e) := by
  delta State.crcError
  extract_lets -underBinder +onlyGivenNames x0
  clear_value x0
  extract_lets -underBinder +onlyGivenNames x1
  have h1 : Keeps ms mf false s x1 := h.satInc.raise.silSet
  clear_value x1
  exact Keeps.cond h1.startFast h1

theorem Keeps.takeSeq {s e : State} {a1} (h : Keeps ms mf ma s e) : Keeps ms mf ma s (State.takeSeq e a1) := by
  delta State.takeSeq
  extract_lets +onlyGivenNames x0
  clear_value x0
  extract_lets +onlyGivenNames x1
  have h1 : Keeps ms mf ma s x1 := h.setLink.silSet
  clear_value x1
  exact Keeps.cond h1.sendAck (Keeps.cond h1.arm h1)

theorem Keeps.applyAck {s e : State} {a1} {a2} (h : Keeps ms mf ma s e) : Keeps ms mf ma s (State.applyAck e a1 a2) := by
  delta State.applyAck
  extract_lets +onlyGivenNames x0
  clear_value x0
  extract_lets +onlyGivenNames x1
  clear_value x1
  exact Keeps.cond h (by
    extract_lets +onlyGivenNames x2
    have h2 : Keeps ms mf ma s x2 := h.setLink
    clear_value x2
    exact Keeps.cond h2.disarm h2.arm)

theorem Keeps.applyCred {s e : State} {a1} {a2} {a3} (h : Keeps ms mf ma s e) : Keeps ms mf ma s (State.applyCred e a1 a2 a3) := by
  delta State.applyCred
  exact h.setLink

theorem Keeps.askReplay {s e : State} {a1} {a2} (h : Keeps ms mf false s e) : Keeps ms mf false s (State.askReplay e a1 a2) := by
  delta State.askReplay
  extract_lets -underBinder +onlyGivenNames x0
  clear_value x0
  exact Keeps.cond h (Keeps.cond h.startFast (by
    extract_lets -underBinder +onlyGivenNames x1
    clear_value x1
    exact h.setLink))

theorem Keeps.replayDue {s e : State} {a1} (h : Keeps ms mf ma s e) : Keeps ms mf ma s (State.replayDue e a1) := by
  delta State.replayDue
  split
  · exact Keeps.cond (by
      extract_lets +onlyGivenNames x0
      clear_value x0
      extract_lets +onlyGivenNames x1
      have h1 : Keeps ms mf ma s x1 := h.setLink
      clear_value x1
      exact h1.replayFrom.transmit) h
  · exact h

theorem Keeps.takeCtl {s e : State} {a1} {a2} (h : Keeps ms mf false s e) : Keeps ms mf false s (State.takeCtl e a1 a2) := by
  delta State.takeCtl
  extract_lets -underBinder +onlyGivenNames x0
  clear_value x0
  exact Keeps.cond (Keeps.cond h h.initFc) (Keeps.cond h (by
    extract_lets -underBinder +onlyGivenNames x1
    clear_value x1
    extract_lets -underBinder +onlyGivenNames x2
    have h2 : Keeps ms mf false s x2 := h.applyAck
    clear_value x2
    extract_lets -underBinder +onlyGivenNames x3
    have h3 : Keeps ms mf false s x3 := h2.forN (fun _ _ h4 => h4.applyCred)
    clear_value x3
    exact (h3.doIf (fun _ h5 => h5.askReplay)).transmit))

theorem Keeps.setPart {s e : State} {a1} {a2} {a3} (h : Keeps ms mf ma s e) : Keeps ms mf ma s (State.setPart e a1 a2 a3) := by
  delta State.setPart
  exact h.setLink

theorem Keeps.wholeMsg {s e : State} {a1} {a2} {a3} (h : Keeps ms mf false s e) : Keeps ms mf false s (State.wholeMsg e a1 a2 a3) := by
  delta State.wholeMsg
  extract_lets m len freed
  have hf : Keeps ms mf false s (freed e) := h.freeFlits
  clear_value freed len m
  exact Keeps.cond hf.silBadMsg (Keeps.cond hf.nakMsg.silCount.ladderAtOnce (Keeps.cond h.silSet.wrapInc hf.silBadMsg))

theorem Keeps.spoilt {s e : State} {a1} {a2} {a3} (h : Keeps ms mf false s e) : Keeps ms mf false s (State.spoilt e a1 a2 a3) := by
  delta State.spoilt
  extract_lets -underBinder +onlyGivenNames x0
  have h0 : Keeps ms mf false s x0 := h.freeFlits
  clear_value x0
  exact h0.setPart.silBadMsg

theorem Keeps.assemble {s e : State} {a1} (h : Keeps ms mf false s e) : Keeps ms mf false s (State.assemble e a1) := by
  delta State.assemble
  extract_lets cur new room took whole
  have hw : ∀ p d, Keeps ms mf false s (whole (took e) p d) := fun p d => Keeps.cond h.setLink.setPart.wholeMsg h.setLink.setPart
  clear_value whole took room new cur
  split
  · exact Keeps.cond (Keeps.cond h.setPart h) (Keeps.cond h.spoilt (Keeps.cond h.spoilt (hw _ _)))
  · exact h.freeFlits.setPart.silBadMsg
  · exact Keeps.cond h.spoilt (Keeps.cond h.spoilt (hw _ _))
  · exact h.spoilt

theorem Keeps.adAssemble {s e : State} {a1} (h : Keeps ms mf ma s e) : Keeps ms mf ma s (State.adAssemble e a1) := by
  delta State.adAssemble
  extract_lets +onlyGivenNames x0
  have h0 : Keeps ms mf ma s x0 := h.setLink
  clear_value x0
  extract_lets +onlyGivenNames x1
  clear_value x1
  split
  · exact h0.freeFlits
  · extract_lets +onlyGivenNames x2
    clear_value x2
    exact Keeps.cond h0.setPart.silSet h0.setPart

theorem Keeps.takeFlit {s e : State} {a1} {a2} (h : Keeps ms mf false s e) : Keeps ms mf false s (State.takeFlit e a1 a2) := by
  delta State.takeFlit
  exact Keeps.cond (by
    extract_lets -underBinder +onlyGivenNames x0
    have h0 : Keeps ms mf false s x0 := Keeps.cond h h.crcError
    clear_value x0
    exact Keeps.cond h0 h0.sendNak) (Keeps.cond h.takeCtl (Keeps.cond h (Keeps.cond (Keeps.cond h h.silBadMsg) (by
    extract_lets -underBinder +onlyGivenNames x1
    clear_value x1
    exact Keeps.cond (Keeps.cond h.takeSeq.adAssemble h.takeSeq.assemble) (Keeps.cond h.sendNak h.sendAck)))))

theorem Keeps.offWire {s e : State} {a1} (h : Keeps ms mf ma s e) : Keeps ms mf ma s (State.offWire e a1) := by
  delta State.offWire
  exact h.silSet

theorem Keeps.arrive {s e : State} {a1} {a2} (h : Keeps ms mf false s e) : Keeps ms mf false s (State.arrive e a1 a2) := by
  delta State.arrive
  exact Keeps.cond h h.offWire.takeFlit

theorem Keeps.execDataFlit {s e : State} {a0} {a1} {a2} (h : Keeps ms mf false s e) : KeepsOut ms mf false s (execDataFlit a0 a1 a2 e) := by
  delta execDataFlit
  exact KeepsOut.next (by
    extract_lets -underBinder -merge +onlyGivenNames x0
    try clear_value x0
    extract_lets -underBinder -merge +onlyGivenNames x1
    try clear_value x1
    exact Keeps.cond h h.arrive)

theorem Keeps.execLinkControlFlit {s e : State} {a0} {a1} (h : Keeps ms mf false s e) : KeepsOut ms mf false s (execLinkControlFlit a0 a1 e) := by
  delta execLinkControlFlit
  exact KeepsOut.next (by
    extract_lets -underBinder +onlyGivenNames x0
    clear_value x0
    exact Keeps.cond h h.arrive)

theorem Keeps.drain {s e : State} {a1} (h : Keeps ms mf false s e) : Keeps ms mf false s (State.drain e a1) := by
  delta State.drain
  extract_lets -underBinder +onlyGivenNames x0
  clear_value x0
  exact h.silSet.forL (fun _ _ h1 => h1.takeFlit)

theorem Keeps.execAckTimer {s e : State} {a0} (h : Keeps ms mf ma s e) : KeepsOut ms mf ma s (execAckTimer a0 e) := by
  delta execAckTimer
  exact KeepsOut.next (Keeps.cond h.sendAck h)

theorem Keeps.execReplayTimeout {s e : State} {a0} (h : Keeps ms mf false s e) : KeepsOut ms mf false s (execReplayTimeout a0 e) := by
  delta execReplayTimeout
  exact KeepsOut.next (by
    split
    · exact Keeps.cond h.askReplay h
    · exact h)

theorem Keeps.linkTick {s e : State} (h : Keeps ms mf false s e) : Keeps ms mf false s (State.linkTick e) := by
  delta State.linkTick
  exact h.drain.drain.replayDue.replayDue

theorem Keeps.takeAd {s e : State} {a1} {a2} (h : Keeps ms mf false s e) : KeepsOptR ms mf false s (State.takeAd e a1 a2) := by
  delta State.takeAd
  extract_lets x
  have hx : Keeps ms mf false s x := h.drain
  clear_value x
  split
  · exact KeepsOptR.none
  · exact KeepsOptR.cond KeepsOptR.none (KeepsOptR.some hx.silSet.freeFlits.sendAck)

theorem Keeps.takeCd {s e : State} {a1} (h : Keeps ms mf false s e) : KeepsOptR ms mf false s (State.takeCd e a1) := by
  delta State.takeCd
  extract_lets x
  have hx : Keeps ms mf false s x := h.drain
  clear_value x
  split
  · exact KeepsOptR.cond KeepsOptR.none (KeepsOptR.some hx.silSet.freeFlits.sendAck)
  · exact KeepsOptR.cond (KeepsOptR.some hx.draw.silSet.wrapInc) KeepsOptR.none

theorem Keeps.takeToken {s e : State} {a1} {a2} (h : Keeps ms mf ma s e) : Keeps ms mf ma s (State.takeToken e a1 a2) := by
  delta State.takeToken
  exact Keeps.cond h h.setF

theorem Keeps.dispatch {s e : State} {a1} (h : Keeps ms mf ma s e) : Keeps ms mf ma s (State.dispatch e a1) := by
  delta State.dispatch
  extract_lets -underBinder +onlyGivenNames x0
  clear_value x0
  exact Keeps.cond h (Keeps.cond h.tileFault (by
    extract_lets -underBinder +onlyGivenNames x1
    clear_value x1
    exact Keeps.cond h.setF (by
      split
      · exact h.tileFault
      · exact Keeps.cond h h.takeToken.tileSet)))

theorem Keeps.execBundleDispatch {s e : State} {a0} (h : Keeps ms mf ma s e) : KeepsOut ms mf ma s (execBundleDispatch a0 e) := by
  delta execBundleDispatch
  exact KeepsOut.next h.dispatch

theorem Keeps.goTo {s e : State} {a1} {a2} (h : Keeps ms mf ma s e) : Keeps ms mf ma s (State.goTo e a1 a2) := by
  delta State.goTo
  extract_lets -underBinder +onlyGivenNames x0
  have h0 : Keeps ms mf ma s x0 := h.tileSet.setF
  clear_value x0
  exact Keeps.cond h0.tileFault h0

theorem Keeps.seqOp {s e : State} {a1} {a2} {a3} (h : Keeps ms mf ma s e) (f3 : ∀ y0, ∀ y1, Keeps ms mf ma s y1 → Keeps ms mf ma s (a3 y0 y1)) : Keeps ms mf ma s (State.seqOp e a1 a2 a3) := by
  delta State.seqOp
  exact Keeps.cond h (Keeps.cond (f3 _ _ h.dispatch) h.dispatch)

theorem Keeps.setLoops {s e : State} {a1} {a2} (h : Keeps ms mf ma s e) : Keeps ms mf ma s (State.setLoops e a1 a2) := by
  delta State.setLoops
  exact h.tileSet.setF

theorem Keeps.execNextBundle {s e : State} {a0} (h : Keeps ms mf ma s e) : KeepsOut ms mf ma s (execNextBundle a0 e) := by
  delta execNextBundle
  exact KeepsOut.next (h.seqOp (fun _ _ h0 => h0.goTo))

theorem Keeps.execLoop {s e : State} {a0} (h : Keeps ms mf ma s e) : KeepsOut ms mf ma s (execLoop a0 e) := by
  delta execLoop
  exact KeepsOut.next (h.seqOp (fun _ _ h0 => by
    extract_lets -underBinder +onlyGivenNames x1
    clear_value x1
    exact h0.setLoops.goTo))

theorem Keeps.execEndl {s e : State} {a0} (h : Keeps ms mf ma s e) : KeepsOut ms mf ma s (execEndl a0 e) := by
  delta execEndl
  exact KeepsOut.next (h.seqOp (fun _ _ h0 => by
    extract_lets -underBinder +onlyGivenNames x1
    clear_value x1
    split
    · exact Keeps.cond h0.setLoops.goTo h0.setLoops.goTo
    · exact h0))

theorem Keeps.execJump {s e : State} {a0} (h : Keeps ms mf ma s e) : KeepsOut ms mf ma s (execJump a0 e) := by
  delta execJump
  exact KeepsOut.next (h.seqOp (fun _ _ h0 => h0.goTo))

theorem Keeps.execHalt {s e : State} {a0} (h : Keeps ms mf ma s e) : KeepsOut ms mf ma s (execHalt a0 e) := by
  delta execHalt
  exact KeepsOut.next (h.seqOp (fun _ _ h0 => h0.tileSet))

theorem Keeps.execSync {s e : State} {a0} (h : Keeps ms mf ma s e) : KeepsOut ms mf ma s (execSync a0 e) := by
  delta execSync
  exact KeepsOut.next (h.seqOp (fun _ _ h0 => h0.goTo))

theorem Keeps.goIdle {s e : State} {a1} (h : Keeps ms mf ma s e) : Keeps ms mf ma s (State.goIdle e a1) := by
  delta State.goIdle
  extract_lets +onlyGivenNames x0
  have h0 : Keeps ms mf ma s x0 := h.tileSet
  clear_value x0
  exact h0.disarm.disarm.setFlags

theorem Keeps.endAbort {s e : State} {a1} (h : Keeps ms mf ma s e) : Keeps ms mf ma s (State.endAbort e a1) := by
  delta State.endAbort
  split
  · exact h
  · exact Keeps.cond h (by
      extract_lets -underBinder +onlyGivenNames x0
      clear_value x0
      extract_lets -underBinder +onlyGivenNames x1
      have h1 : Keeps ms mf ma s x1 := h.tileSet
      clear_value x1
      extract_lets -underBinder +onlyGivenNames x2
      have h2 : Keeps ms mf ma s x2 := h1.setFlags.adRaise
      clear_value x2
      exact Keeps.cond h2.goIdle (Keeps.cond h2.progStart h2.setF))

theorem Keeps.takeReq {s e : State} {a1} (h : Keeps ms mf ma s e) : Keeps ms mf ma s (State.takeReq e a1) := by
  delta State.takeReq
  split
  · exact Keeps.cond h.progStart h.goIdle
  · exact h

theorem Keeps.seamMax {s e : State} {a1} {a2} (h : Keeps ms mf ma s e) : Keeps ms mf ma s (State.seamMax e a1 a2) := by
  delta State.seamMax
  exact Keeps.cond h.changeRc h

theorem Keeps.execSeamReached {s e : State} {a0} {a1} {a2} (h : Keeps ms mf ma s e) : KeepsOut ms mf ma s (execSeamReached a0 a1 a2 e) := by
  delta execSeamReached
  exact KeepsOut.next (by
    extract_lets -underBinder +onlyGivenNames x0
    clear_value x0
    exact Keeps.cond (Keeps.cond h.tileFault (by
      extract_lets -underBinder +onlyGivenNames x1
      have h1 : Keeps ms mf ma s x1 := h.wrapInc.seamMax.seamMax
      clear_value x1
      split
      · exact h1.takeReq
      · exact h1.tileSet.setF)) h)

theorem Keeps.execTileHalted {s e : State} {a0} (h : Keeps ms mf ma s e) : KeepsOut ms mf ma s (execTileHalted a0 e) := by
  delta execTileHalted
  exact KeepsOut.next (by
    extract_lets -underBinder +onlyGivenNames x0
    clear_value x0
    exact Keeps.cond h.tileSet.setFlags.wrapInc.takeReq h)

theorem Keeps.execTlSeammax {s e : State} {a0} (h : Keeps ms mf ma s e) : KeepsOut ms mf ma s (execTlSeammax a0 e) := by
  delta execTlSeammax
  exact KeepsOut.next (by
    extract_lets +onlyGivenNames x0
    clear_value x0
    exact Keeps.cond h.answer.clearRc.clearRc h.answer)

theorem Keeps.swapRefused {s e : State} {a1} (h : Keeps ms mf ma s e) : Keeps ms mf ma s (State.swapRefused e a1) := by
  delta State.swapRefused
  exact h.flag

theorem Keeps.tileAccess {s e : State} {a1} {a2} (h : Keeps ms mf ma s e) (f2 : ∀ y0, Keeps ms mf ma s y0 → Keeps ms mf ma s (a2 y0)) : Keeps ms mf ma s (State.tileAccess e a1 a2) := by
  delta State.tileAccess
  exact Keeps.cond (f2 _ h.answer) h.answer

theorem Keeps.swapTile {s e : State} {a1} {a2} {a3} (h : Keeps ms mf ma s e) : Keeps ms mf ma s (State.swapTile e a1 a2 a3) := by
  delta State.swapTile
  extract_lets -underBinder +onlyGivenNames x0
  clear_value x0
  exact Keeps.cond h.swapRefused (Keeps.cond h.progStart h.tileSet.arm)

theorem Keeps.execSwap {s e : State} {a0} {a1} {a2} (h : Keeps ms mf ma s e) : KeepsOut ms mf ma s (execSwap a0 a1 a2 e) := by
  delta execSwap
  exact KeepsOut.next (h.tileAccess (fun _ h0 => h0.swapTile))

theorem Keeps.stopTile {s e : State} {a1} {a2} (h : Keeps ms mf ma s e) : Keeps ms mf ma s (State.stopTile e a1 a2) := by
  delta State.stopTile
  split
  · exact h.swapRefused
  · extract_lets +onlyGivenNames x0
    clear_value x0
    exact Keeps.cond h.tileSet.disarm.arm (Keeps.cond h.tileSet h.goIdle)

theorem Keeps.execStop {s e : State} {a0} {a1} (h : Keeps ms mf ma s e) : KeepsOut ms mf ma s (execStop a0 a1 e) := by
  delta execStop
  exact KeepsOut.next (h.tileAccess (fun _ h0 => h0.stopTile))

theorem Keeps.startTile {s e : State} {a1} {a2} {a3} (h : Keeps ms mf ma s e) : Keeps ms mf ma s (State.startTile e a1 a2 a3) := by
  delta State.startTile
  extract_lets -underBinder +onlyGivenNames x0
  clear_value x0
  exact Keeps.cond h.swapRefused h.setFs.progStart

theorem Keeps.execStart {s e : State} {a0} {a1} {a2} (h : Keeps ms mf ma s e) : KeepsOut ms mf ma s (execStart a0 a1 a2 e) := by
  delta execStart
  exact KeepsOut.next (h.tileAccess (fun _ h0 => h0.startTile))

theorem Keeps.execSwapLimitExpiry {s e : State} {a0} (h : Keeps ms mf ma s e) : KeepsOut ms mf ma s (execSwapLimitExpiry a0 e) := by
  delta execSwapLimitExpiry
  exact KeepsOut.next (by
    extract_lets -underBinder +onlyGivenNames x0
    clear_value x0
    exact Keeps.cond (by
      split
      · exact Keeps.cond h h.recordFault.abortTile
      · exact h.disarm) h)

theorem Keeps.execTileSeamLate {s e : State} {a0} {a1} (h : Keeps ms mf ma s e) : KeepsOut ms mf ma s (execTileSeamLate a0 a1 e) := by
  delta execTileSeamLate
  exact KeepsOut.next (by
    extract_lets -underBinder +onlyGivenNames x0
    clear_value x0
    exact Keeps.cond h.tileFault h)

theorem Keeps.execTileCreditStall {s e : State} {a0} {a1} (h : Keeps ms mf ma s e) : KeepsOut ms mf ma s (execTileCreditStall a0 a1 e) := by
  delta execTileCreditStall
  exact KeepsOut.next (by
    extract_lets -underBinder +onlyGivenNames x0
    clear_value x0
    split
    · exact Keeps.cond h.tileFaultAt h
    · exact h)

theorem Keeps.execTileDeadlock {s e : State} {a0} (h : Keeps ms mf ma s e) : KeepsOut ms mf ma s (execTileDeadlock a0 e) := by
  delta execTileDeadlock
  exact KeepsOut.next (by
    extract_lets -underBinder +onlyGivenNames x0
    clear_value x0
    extract_lets -underBinder +onlyGivenNames x1
    clear_value x1
    exact Keeps.cond h.tileFault h)

theorem Keeps.execShiftWithdrawn {s e : State} {a0} {a1} {a2} {a3} {a4} (h : Keeps ms mf ma s e) : KeepsOut ms mf ma s (execShiftWithdrawn a0 a1 a2 a3 a4 e) := by
  delta execShiftWithdrawn
  exact KeepsOut.next (Keeps.cond h.withdrawn h)

theorem Keeps.execProgramBankWrite {s e : State} {a0} {a1} {a2} {a3} {a4} (h : Keeps ms mf ma s e) : KeepsOut ms mf ma s (execProgramBankWrite a0 a1 a2 a3 a4 e) := by
  delta execProgramBankWrite
  exact KeepsOut.next (by
    extract_lets +onlyGivenNames x0
    clear_value x0
    extract_lets +onlyGivenNames x1
    clear_value x1
    exact h.tileAccess (fun _ h2 => Keeps.cond h2.flag.adRaise.answer (Keeps.cond h2.setFs (by
      extract_lets +onlyGivenNames x3
      clear_value x3
      extract_lets +onlyGivenNames x4
      clear_value x4
      extract_lets +onlyGivenNames x5
      clear_value x5
      extract_lets +onlyGivenNames x6
      clear_value x6
      exact Keeps.cond h2.answer h2.adSet))))

theorem Keeps.engineOp {s e : State} {a1} {a2} {a3} {a4} {a5} (h : Keeps ms mf ma s e) (f5 : ∀ y0, ∀ y1, Keeps ms mf ma s y1 → Keeps ms mf ma s (a5 y0 y1)) : Keeps ms mf ma s (State.engineOp e a1 a2 a3 a4 a5) := by
  delta State.engineOp
  exact Keeps.cond h (by
    split
    · exact Keeps.cond (f5 _ _ h.takeToken.tileSet) h
    · exact h)

theorem Keeps.execNop {s e : State} {a0} {a1} (h : Keeps ms mf ma s e) : KeepsOut ms mf ma s (execNop a0 a1 e) := by
  delta execNop
  exact KeepsOut.next (h.engineOp (fun _ _ h0 => h0))

theorem Keeps.execEngineOpComplete {s e : State} {a0} {a1} (h : Keeps ms mf ma s e) : KeepsOut ms mf ma s (execEngineOpComplete a0 a1 e) := by
  delta execEngineOpComplete
  exact KeepsOut.next (by
    extract_lets -underBinder +onlyGivenNames x0
    clear_value x0
    extract_lets -underBinder +onlyGivenNames x1
    clear_value x1
    split
    · exact Keeps.cond h.tileSet.signal h
    · exact h)

theorem Keeps.setMa {s e : State} {a1} {a2} {a3} (h : Keeps ms mf ma s e) : Keeps ms mf ma s (State.setMa e a1 a2 a3) := by
  delta State.setMa
  exact h.tileSet

theorem Keeps.execMseta {s e : State} {a0} (h : Keeps ms mf ma s e) : KeepsOut ms mf ma s (execMseta a0 e) := by
  delta execMseta
  exact KeepsOut.next (h.engineOp (fun _ _ h0 => Keeps.cond h0.tileFault h0.setMa))

theorem Keeps.execMmode {s e : State} {a0} (h : Keeps ms mf ma s e) : KeepsOut ms mf ma s (execMmode a0 e) := by
  delta execMmode
  exact KeepsOut.next (h.engineOp (fun _ _ h0 => Keeps.cond h0.tileFault h0.tileSet))

theorem Keeps.execWload {s e : State} {a0} {a1} (h : Keeps ms mf ma s e) : KeepsOut ms mf ma s (execWload a0 a1 e) := by
  delta execWload
  exact KeepsOut.next (h.engineOp (fun _ _ h0 => by
    extract_lets -underBinder +onlyGivenNames x1
    clear_value x1
    extract_lets -underBinder +onlyGivenNames x2
    clear_value x2
    extract_lets -underBinder +onlyGivenNames x3
    clear_value x3
    extract_lets -underBinder +onlyGivenNames x4
    clear_value x4
    exact Keeps.cond h0.tileFault (by
      extract_lets -underBinder +onlyGivenNames x5
      have h5 : Keeps ms mf ma s x5.2 := h0.readChecked
      clear_value x5
      exact h5.tileSet)))

theorem Keeps.execWswap {s e : State} {a0} (h : Keeps ms mf ma s e) : KeepsOut ms mf ma s (execWswap a0 e) := by
  delta execWswap
  exact KeepsOut.next (h.engineOp (fun _ _ h0 => h0.tileSet))

theorem Keeps.mmaRows {s e : State} {a1} {a2} {a3} {a4} {a5} {a6} {a7} {a8} (h : Keeps ms mf ma s e) : Keeps ms mf ma s (State.mmaRows e a1 a2 a3 a4 a5 a6 a7 a8) := by
  delta State.mmaRows
  extract_lets +onlyGivenNames x0
  clear_value x0
  extract_lets +onlyGivenNames x1
  clear_value x1
  exact h.forN (fun _ _ h2 => by
    extract_lets +onlyGivenNames x3
    clear_value x3
    extract_lets +onlyGivenNames x4
    clear_value x4
    exact h2.forN (fun _ _ h5 => h5.setAcc))

theorem Keeps.startBank {s e : State} {a1} {a2} (h : Keeps ms mf ma s e) : Keeps ms mf ma s (State.startBank e a1 a2) := by
  delta State.startBank
  extract_lets +onlyGivenNames x0
  clear_value x0
  exact h.clearBank.tileSet

theorem Keeps.macAsNop {s e : State} {a1} (h : Keeps ms mf ma s e) : Keeps ms mf ma s (State.macAsNop e a1) := by
  delta State.macAsNop
  exact h.tileSet

theorem Keeps.execMma {s e : State} {a0} {a1} (h : Keeps ms mf ma s e) : KeepsOut ms mf ma s (execMma a0 a1 e) := by
  delta execMma
  exact KeepsOut.next (h.engineOp (fun _ _ h0 => by
    extract_lets -underBinder +onlyGivenNames x1
    clear_value x1
    extract_lets -underBinder +onlyGivenNames x2
    clear_value x2
    extract_lets -underBinder +onlyGivenNames x3
    clear_value x3
    extract_lets -underBinder +onlyGivenNames x4
    clear_value x4
    exact Keeps.cond h0.tileFault (Keeps.cond h0.macAsNop.tileSet (by
      extract_lets -underBinder +onlyGivenNames x5
      clear_value x5
      extract_lets -underBinder +onlyGivenNames x6
      clear_value x6
      extract_lets -underBinder +onlyGivenNames x7
      clear_value x7
      extract_lets -underBinder +onlyGivenNames x8
      have h8 : Keeps ms mf ma s x8.2 := h0.readChecked
      clear_value x8
      extract_lets -underBinder +onlyGivenNames x9
      have h9 : Keeps ms mf ma s x9 := Keeps.cond h8.startBank h8
      clear_value x9
      extract_lets -underBinder +onlyGivenNames x10
      have h10 : Keeps ms mf ma s x10 := h9.mmaRows
      clear_value x10
      extract_lets -underBinder +onlyGivenNames x11
      have h11 : Keeps ms mf ma s x11 := Keeps.cond h10.setMa h10
      clear_value x11
      exact h11.wrapAdd))))

theorem Keeps.execAclr {s e : State} {a0} (h : Keeps ms mf ma s e) : KeepsOut ms mf ma s (execAclr a0 e) := by
  delta execAclr
  exact KeepsOut.next (h.engineOp (fun _ _ h0 => Keeps.cond h0.tileFault h0.startBank))

theorem Keeps.execSigo {s e : State} {a0} (h : Keeps ms mf ma s e) : KeepsOut ms mf ma s (execSigo a0 e) := by
  delta execSigo
  exact KeepsOut.next (h.engineOp (fun _ _ h0 => h0.tileSet))

theorem Keeps.execSigc {s e : State} {a0} (h : Keeps ms mf ma s e) : KeepsOut ms mf ma s (execSigc a0 e) := by
  delta execSigc
  exact KeepsOut.next (h.engineOp (fun _ _ h0 => h0.tileSet))

theorem Keeps.sigRead {s e : State} {a1} {a2} (h : Keeps ms mf ma s e) : Keeps ms mf ma s (State.sigRead e a1 a2) := by
  delta State.sigRead
  exact h.tileSet

theorem Keeps.lanewise {s e : State} {a1} {a2} {a3} {a4} {a5} {a6} {a7} (h : Keeps ms mf ma s e) : Keeps ms mf ma s (State.lanewise e a1 a2 a3 a4 a5 a6 a7) := by
  delta State.lanewise
  extract_lets +onlyGivenNames x0
  clear_value x0
  extract_lets +onlyGivenNames x1
  clear_value x1
  extract_lets +onlyGivenNames x2
  clear_value x2
  extract_lets +onlyGivenNames x3
  clear_value x3
  extract_lets +onlyGivenNames x4
  clear_value x4
  extract_lets +onlyGivenNames x5
  clear_value x5
  extract_lets +onlyGivenNames x6
  clear_value x6
  exact h.setVreg

theorem Keeps.lanewiseSat {s e : State} {a1} {a2} {a3} {a4} {a5} {a6} {a7} (h : Keeps ms mf ma s e) : Keeps ms mf ma s (State.lanewiseSat e a1 a2 a3 a4 a5 a6 a7) := by
  delta State.lanewiseSat
  extract_lets +onlyGivenNames x0
  clear_value x0
  exact h.lanewise.wrapAdd

theorem Keeps.execValu {s e : State} {a0} (h : Keeps ms mf ma s e) : KeepsOut ms mf ma s (execValu a0 e) := by
  delta execValu
  exact KeepsOut.next (h.engineOp (fun _ _ h0 => h0.lanewiseSat))

theorem Keeps.execVfma {s e : State} {a0} (h : Keeps ms mf ma s e) : KeepsOut ms mf ma s (execVfma a0 e) := by
  delta execVfma
  exact KeepsOut.next (h.engineOp (fun _ _ h0 => h0.lanewiseSat))

theorem Keeps.execVcmp {s e : State} {a0} (h : Keeps ms mf ma s e) : KeepsOut ms mf ma s (execVcmp a0 e) := by
  delta execVcmp
  exact KeepsOut.next (h.engineOp (fun _ _ h0 => h0.lanewise))

theorem Keeps.execVsh {s e : State} {a0} (h : Keeps ms mf ma s e) : KeepsOut ms mf ma s (execVsh a0 e) := by
  delta execVsh
  exact KeepsOut.next (h.engineOp (fun _ _ h0 => h0.lanewise))

theorem Keeps.execVsfu {s e : State} {a0} (h : Keeps ms mf ma s e) : KeepsOut ms mf ma s (execVsfu a0 e) := by
  delta execVsfu
  exact KeepsOut.next (h.engineOp (fun _ _ h0 => h0.lanewise))

theorem Keeps.execVcvt {s e : State} {a0} (h : Keeps ms mf ma s e) : KeepsOut ms mf ma s (execVcvt a0 e) := by
  delta execVcvt
  exact KeepsOut.next (h.engineOp (fun _ _ h0 => by
    extract_lets +onlyGivenNames x1
    clear_value x1
    extract_lets +onlyGivenNames x2
    clear_value x2
    extract_lets +onlyGivenNames x3
    clear_value x3
    extract_lets +onlyGivenNames x4
    clear_value x4
    extract_lets +onlyGivenNames x5
    clear_value x5
    extract_lets +onlyGivenNames x6
    clear_value x6
    extract_lets +onlyGivenNames x7
    clear_value x7
    extract_lets +onlyGivenNames x8
    have h8 : Keeps ms mf ma s x8.2 := h0.draw
    clear_value x8
    extract_lets +onlyGivenNames x9
    clear_value x9
    extract_lets +onlyGivenNames x10
    have h10 : Keeps ms mf ma s x10 := h8.setVreg
    clear_value x10
    exact h10.wrapAdd))

theorem Keeps.execVsel {s e : State} {a0} (h : Keeps ms mf ma s e) : KeepsOut ms mf ma s (execVsel a0 e) := by
  delta execVsel
  exact KeepsOut.next (h.engineOp (fun _ _ h0 => h0.lanewise))

theorem Keeps.execVred {s e : State} {a0} (h : Keeps ms mf ma s e) : KeepsOut ms mf ma s (execVred a0 e) := by
  delta execVred
  exact KeepsOut.next (h.engineOp (fun _ _ h0 => by
    extract_lets +onlyGivenNames x1
    clear_value x1
    exact h0.setVreg))

theorem Keeps.setVa {s e : State} {a1} {a2} {a3} (h : Keeps ms mf ma s e) : Keeps ms mf ma s (State.setVa e a1 a2 a3) := by
  delta State.setVa
  exact h.tileSet

theorem Keeps.execVld {s e : State} {a0} {a1} (h : Keeps ms mf ma s e) : KeepsOut ms mf ma s (execVld a0 a1 e) := by
  delta execVld
  exact KeepsOut.next (h.engineOp (fun _ _ h0 => by
    extract_lets -underBinder +onlyGivenNames x1
    clear_value x1
    extract_lets -underBinder +onlyGivenNames x2
    clear_value x2
    extract_lets -underBinder +onlyGivenNames x3
    clear_value x3
    exact Keeps.cond h0.tileFault (by
      extract_lets -underBinder +onlyGivenNames x4
      have h4 : Keeps ms mf ma s x4.2 := h0.readChecked
      clear_value x4
      extract_lets -underBinder +onlyGivenNames x5
      have h5 : Keeps ms mf ma s x5 := h4.setVreg
      clear_value x5
      exact Keeps.cond h5.setVa h5)))

theorem Keeps.execVst {s e : State} {a0} (h : Keeps ms mf ma s e) : KeepsOut ms mf ma s (execVst a0 e) := by
  delta execVst
  exact KeepsOut.next (h.engineOp (fun _ _ h0 => by
    extract_lets -underBinder +onlyGivenNames x1
    clear_value x1
    extract_lets -underBinder +onlyGivenNames x2
    clear_value x2
    extract_lets -underBinder +onlyGivenNames x3
    clear_value x3
    exact Keeps.cond h0.tileFault (by
      extract_lets -underBinder +onlyGivenNames x4
      clear_value x4
      extract_lets -underBinder +onlyGivenNames x5
      clear_value x5
      extract_lets -underBinder +onlyGivenNames x6
      have h6 : Keeps ms mf ma s x6 := h0.forN (fun _ _ h7 => h7.writeLine)
      clear_value x6
      exact Keeps.cond h6.setVa h6)))

theorem Keeps.execVldt {s e : State} {a0} {a1} (h : Keeps ms mf ma s e) : KeepsOut ms mf ma s (execVldt a0 a1 e) := by
  delta execVldt
  exact KeepsOut.next (h.engineOp (fun _ _ h0 => by
    extract_lets -underBinder +onlyGivenNames x1
    clear_value x1
    extract_lets -underBinder +onlyGivenNames x2
    clear_value x2
    extract_lets -underBinder +onlyGivenNames x3
    clear_value x3
    extract_lets -underBinder +onlyGivenNames x4
    clear_value x4
    extract_lets -underBinder +onlyGivenNames x5
    clear_value x5
    exact Keeps.cond h0.tileFault (Keeps.cond h0.tileFault (by
      extract_lets -underBinder +onlyGivenNames x6
      have h6 : Keeps ms mf ma s x6.2 := h0.readChecked
      clear_value x6
      extract_lets -underBinder +onlyGivenNames x7
      clear_value x7
      exact h6.setVreg))))

theorem Keeps.execVrq {s e : State} {a0} (h : Keeps ms mf ma s e) : KeepsOut ms mf ma s (execVrq a0 e) := by
  delta execVrq
  exact KeepsOut.next (h.engineOp (fun _ _ h0 => by
    extract_lets -underBinder +onlyGivenNames x1
    clear_value x1
    extract_lets -underBinder +onlyGivenNames x2
    clear_value x2
    extract_lets -underBinder +onlyGivenNames x3
    clear_value x3
    extract_lets -underBinder +onlyGivenNames x4
    clear_value x4
    extract_lets -underBinder +onlyGivenNames x5
    clear_value x5
    exact Keeps.cond h0.tileFault (by
      extract_lets -underBinder +onlyGivenNames x6
      clear_value x6
      extract_lets -underBinder +onlyGivenNames x7
      clear_value x7
      extract_lets -underBinder +onlyGivenNames x8
      have h8 : Keeps ms mf ma s x8 := Keeps.cond h0.sigRead h0
      clear_value x8
      extract_lets -underBinder +onlyGivenNames x9
      clear_value x9
      extract_lets -underBinder +onlyGivenNames x10
      clear_value x10
      extract_lets -underBinder +onlyGivenNames x11
      clear_value x11
      extract_lets -underBinder +onlyGivenNames x12
      have h12 : Keeps ms mf ma s x12.2 := Keeps.condR h8.draw (Keeps.pairR h8)
      clear_value x12
      extract_lets -underBinder +onlyGivenNames x13
      clear_value x13
      extract_lets -underBinder +onlyGivenNames x14
      clear_value x14
      extract_lets -underBinder +onlyGivenNames x15
      clear_value x15
      extract_lets -underBinder +onlyGivenNames x16
      have h16 : Keeps ms mf ma s x16 := h12.setVreg
      clear_value x16
      exact Keeps.cond h16 h16.wrapAdd)))

theorem Keeps.execVacc {s e : State} {a0} (h : Keeps ms mf ma s e) : KeepsOut ms mf ma s (execVacc a0 e) := by
  delta execVacc
  exact KeepsOut.next (h.engineOp (fun _ _ h0 => by
    extract_lets -underBinder +onlyGivenNames x1
    clear_value x1
    extract_lets -underBinder +onlyGivenNames x2
    clear_value x2
    extract_lets -underBinder +onlyGivenNames x3
    clear_value x3
    exact Keeps.cond h0.tileFault (by
      extract_lets -underBinder +onlyGivenNames x4
      clear_value x4
      extract_lets -underBinder +onlyGivenNames x5
      clear_value x5
      exact Keeps.cond (by
        extract_lets -underBinder +onlyGivenNames x6
        clear_value x6
        extract_lets -underBinder +onlyGivenNames x7
        have h7 : Keeps ms mf ma s x7 := Keeps.cond h0.sigRead h0
        clear_value x7
        exact h7.setVreg) (by
        extract_lets -underBinder +onlyGivenNames x8
        clear_value x8
        exact h0.setVreg))))

theorem Keeps.execVparam {s e : State} {a0} {a1} (h : Keeps ms mf ma s e) : KeepsOut ms mf ma s (execVparam a0 a1 e) := by
  delta execVparam
  exact KeepsOut.next (h.engineOp (fun _ _ h0 => by
    extract_lets -underBinder +onlyGivenNames x1
    clear_value x1
    extract_lets -underBinder +onlyGivenNames x2
    clear_value x2
    extract_lets -underBinder +onlyGivenNames x3
    clear_value x3
    exact Keeps.cond h0.tileFault (by
      extract_lets -underBinder +onlyGivenNames x4
      have h4 : Keeps ms mf ma s x4.2 := h0.readChecked
      clear_value x4
      extract_lets -underBinder +onlyGivenNames x5
      clear_value x5
      exact Keeps.cond h4.tileFault h4.tileSet)))

theorem Keeps.execVspl {s e : State} {a0} (h : Keeps ms mf ma s e) : KeepsOut ms mf ma s (execVspl a0 e) := by
  delta execVspl
  exact KeepsOut.next (h.engineOp (fun _ _ h0 => by
    extract_lets +onlyGivenNames x1
    clear_value x1
    extract_lets +onlyGivenNames x2
    clear_value x2
    exact h0.setVreg))

theorem Keeps.execVseta {s e : State} {a0} (h : Keeps ms mf ma s e) : KeepsOut ms mf ma s (execVseta a0 e) := by
  delta execVseta
  exact KeepsOut.next (h.engineOp (fun _ _ h0 => Keeps.cond h0.tileFault h0.setVa))

theorem Keeps.execVpmap {s e : State} {a0} (h : Keeps ms mf ma s e) : KeepsOut ms mf ma s (execVpmap a0 e) := by
  delta execVpmap
  exact KeepsOut.next (h.engineOp (fun _ _ h0 => by
    extract_lets +onlyGivenNames x1
    clear_value x1
    extract_lets +onlyGivenNames x2
    clear_value x2
    extract_lets +onlyGivenNames x3
    clear_value x3
    exact h0.setVreg))

theorem Keeps.execMsetd {s e : State} {a0} (h : Keeps ms mf ma s e) : KeepsOut ms mf ma s (execMsetd a0 e) := by
  delta execMsetd
  exact KeepsOut.next (h.engineOp (fun _ _ h0 => by
    extract_lets +onlyGivenNames x1
    clear_value x1
    extract_lets +onlyGivenNames x2
    clear_value x2
    exact h0.tileSet))

theorem Keeps.issue {s e : State} {a1} {a2} {a3} (h : Keeps ms mf ma s e) : Keeps ms mf ma s (State.issue e a1 a2 a3) := by
  delta State.issue
  exact h.tileSet

theorem Keeps.issueMem {s e : State} {a1} {a2} {a3} (h : Keeps ms mf ma s e) : Keeps ms mf ma s (State.issueMem e a1 a2 a3) := by
  delta State.issueMem
  extract_lets -underBinder +onlyGivenNames x0
  clear_value x0
  extract_lets -underBinder +onlyGivenNames x1
  clear_value x1
  extract_lets -underBinder +onlyGivenNames x2
  clear_value x2
  exact Keeps.cond h.tileFault (Keeps.cond h.tileFault h.issue)

theorem Keeps.issuePeer {s e : State} {a1} {a2} {a3} (h : Keeps ms mf ma s e) : Keeps ms mf ma s (State.issuePeer e a1 a2 a3) := by
  delta State.issuePeer
  extract_lets -underBinder +onlyGivenNames x0
  clear_value x0
  extract_lets -underBinder +onlyGivenNames x1
  clear_value x1
  extract_lets -underBinder +onlyGivenNames x2
  clear_value x2
  exact Keeps.cond h.tileFault (Keeps.cond h.tileFault h.issue)

theorem Keeps.execMload {s e : State} {a0} (h : Keeps ms mf ma s e) : KeepsOut ms mf ma s (execMload a0 e) := by
  delta execMload
  exact KeepsOut.next (h.engineOp (fun _ _ h0 => h0.issueMem))

theorem Keeps.execMstore {s e : State} {a0} (h : Keeps ms mf ma s e) : KeepsOut ms mf ma s (execMstore a0 e) := by
  delta execMstore
  exact KeepsOut.next (h.engineOp (fun _ _ h0 => h0.issueMem))

theorem Keeps.execMsend {s e : State} {a0} (h : Keeps ms mf ma s e) : KeepsOut ms mf ma s (execMsend a0 e) := by
  delta execMsend
  exact KeepsOut.next (h.engineOp (fun _ _ h0 => h0.issuePeer))

theorem Keeps.execMrecv {s e : State} {a0} (h : Keeps ms mf ma s e) : KeepsOut ms mf ma s (execMrecv a0 e) := by
  delta execMrecv
  exact KeepsOut.next (h.engineOp (fun _ _ h0 => h0.issuePeer))

theorem Keeps.execMfence {s e : State} {a0} (h : Keeps ms mf ma s e) : KeepsOut ms mf ma s (execMfence a0 e) := by
  delta execMfence
  exact KeepsOut.next (h.engineOp (fun _ _ h0 => h0))

theorem Keeps.advance {s e : State} {a1} {a2} {a3} (h : Keeps ms mf ma s e) : Keeps ms mf ma s (State.advance e a1 a2 a3) := by
  delta State.advance
  exact h.tileSet

theorem Keeps.jobPoison {s e : State} {a1} (h : Keeps ms mf ma s e) : Keeps ms mf ma s (State.jobPoison e a1) := by
  delta State.jobPoison
  exact h.dspSet

theorem Keeps.jobWrote {s e : State} {a1} {a2} (h : Keeps ms mf ma s e) : Keeps ms mf ma s (State.jobWrote e a1 a2) := by
  delta State.jobWrote
  exact h.dspSet

theorem Keeps.sourceError {s e : State} {a1} {a2} {a3} (h : Keeps ms mf ma s e) : Keeps ms mf ma s (State.sourceError e a1 a2 a3) := by
  delta State.sourceError
  split
  · exact h.lineError
  · exact h

theorem Keeps.wayError {s e : State} {a1} {a2} {a3} (h : Keeps ms mf ma s e) : Keeps ms mf ma s (State.wayError e a1 a2 a3).2 := by
  delta State.wayError
  split
  · exact h.meetError
  · exact Keeps.pairR h

theorem Keeps.moveLine {s e : State} {a1} {a2} {a3} {a4} (h : Keeps ms mf false s e) : Keeps ms mf false s (State.moveLine e a1 a2 a3 a4) := by
  delta State.moveLine
  extract_lets +onlyGivenNames x0
  clear_value x0
  extract_lets +onlyGivenNames x1
  clear_value x1
  extract_lets +onlyGivenNames x2
  clear_value x2
  exact Keeps.cond (by
    extract_lets +onlyGivenNames x3
    have h3 : Keeps ms mf false s x3.2 := h.wayError
    clear_value x3
    extract_lets +onlyGivenNames x4
    have h4 : Keeps ms mf false s x4.2 := h3.readMem64
    clear_value x4
    extract_lets +onlyGivenNames x5
    clear_value x5
    extract_lets +onlyGivenNames x6
    have h6 : Keeps ms mf false s x6.2 := h4.draw
    clear_value x6
    extract_lets +onlyGivenNames x7
    have h7 : Keeps ms mf false s x7 := Keeps.cond h6 h4
    clear_value x7
    extract_lets +onlyGivenNames x8
    clear_value x8
    extract_lets +onlyGivenNames x9
    have h9 : Keeps ms mf false s x9 := h7.doIf (fun _ h10 => h10.jobPoison)
    clear_value x9
    exact h9.writeLine.advance) (by
    extract_lets +onlyGivenNames x11
    have h11 : Keeps ms mf false s x11.2 := h.sourceError.readLine
    clear_value x11
    extract_lets +onlyGivenNames x12
    have h12 : Keeps ms mf false s x12.2 := Keeps.condR h11.wayError (Keeps.pairR h11)
    clear_value x12
    extract_lets +onlyGivenNames x13
    clear_value x13
    extract_lets +onlyGivenNames x14
    have h14 : Keeps ms mf false s x14 := h12.doIf (fun _ h15 => h15.jobPoison)
    clear_value x14
    exact h14.writeMem64.jobWrote.advance)

theorem Keeps.moveLines {s e : State} {a0} {a1} {a2} {a4} {a5} (h : Keeps ms mf false s e) : Keeps ms mf false s (State.moveLines a0 a1 a2 e a4 a5) := by
  induction a0 generalizing e a1 with
  | zero =>
    rw [State.moveLines.eq_1]
    exact h
  | succ n ih =>
    rw [State.moveLines.eq_2]
    split
    · refine Keeps.cond h ?_
      apply ih
      exact h.moveLine
    · exact h

theorem Keeps.sendLine {s e : State} {a1} {a2} {a3} (h : Keeps ms mf ma s e) : Keeps ms mf ma s (State.sendLine e a1 a2 a3) := by
  delta State.sendLine
  split
  · exact h
  · split
    · exact h
    · exact Keeps.cond h (by
        extract_lets +onlyGivenNames x0
        have h0 : Keeps ms mf ma s x0.2 := h.sourceError.readLine
        clear_value x0
        extract_lets +onlyGivenNames x1
        have h1 : Keeps ms mf ma s x1.2 := Keeps.condR (Keeps.pairR h0.nocError) (Keeps.pairR h0)
        clear_value x1
        exact h1.advance.tileSet)

theorem Keeps.receiveLine {s e : State} {a1} {a2} (h : Keeps ms mf ma s e) : Keeps ms mf ma s (State.receiveLine e a1 a2) := by
  delta State.receiveLine
  split
  · exact Keeps.cond h h.tileSet.writeLine.advance
  · exact h

theorem Keeps.movePeer {s e : State} {a0} {a1} {a2} {a4} {a5} (h : Keeps ms mf ma s e) : Keeps ms mf ma s (State.movePeer a0 a1 a2 e a4 a5) := by
  induction a0 generalizing e a1 with
  | zero =>
    rw [State.movePeer.eq_1]
    exact h
  | succ n ih =>
    rw [State.movePeer.eq_2]
    split
    · exact h
    · apply ih
      exact Keeps.cond h.sendLine (h.doIf (fun _ h0 => h0.sendLine)).receiveLine

theorem Keeps.endShift {s e : State} {a1} {a2} {a3} (h : Keeps ms mf ma s e) : Keeps ms mf ma s (State.endShift e a1 a2 a3) := by
  delta State.endShift
  exact h.tileSet.signal

theorem Keeps.execShiftComplete {s e : State} {a0} {a1} {a2} {a3} (h : Keeps ms mf false s e) : KeepsOut ms mf false s (execShiftComplete a0 a1 a2 a3 e) := by
  delta execShiftComplete
  exact KeepsOut.next (by
    extract_lets -underBinder +onlyGivenNames x0
    clear_value x0
    extract_lets -underBinder +onlyGivenNames x1
    clear_value x1
    split
    · exact h
    · exact Keeps.cond h (Keeps.cond h.tileFaultAt (by
        extract_lets -underBinder +onlyGivenNames x2
        have h2 : Keeps ms mf false s x2 := Keeps.cond h.movePeer (Keeps.cond h.moveLines h)
        clear_value x2
        split
        · exact Keeps.cond h2.endShift h2
        · exact h2)))

theorem Keeps.execMemoryGrant {s e : State} {a0} (h : Keeps ms mf false s e) : KeepsOut ms mf false s (execMemoryGrant a0 e) := by
  delta execMemoryGrant
  exact KeepsOut.next (Keeps.cond (by
    extract_lets +onlyGivenNames x0
    have h0 : Keeps ms mf false s x0 := h.forN (fun _ _ h1 => h1.refill)
    clear_value x0
    split
    · extract_lets +onlyGivenNames x2
      clear_value x2
      extract_lets +onlyGivenNames x3
      have h3 : Keeps ms mf false s x3 := h0.charge.dspSet
      clear_value x3
      exact h3.moveLine
    · exact h0) h)

end Sys2Proof.Machine
end

