-- ==== Sys2Proof/Laws/KeepsTenants.lean ====
section
/-! SUPPORT. `Keeps` for tenants, jobs, clocks, the event log and Assay. -/

namespace Sys2Proof.Machine

variable {ms mf ma : Bool}

theorem Keeps.auditAsked {s e : State} {a1} (h : Keeps ms mf ma s e) : Keeps ms mf ma s (State.auditAsked e a1) := by
  delta State.auditAsked
  exact h.upd

theorem Keeps.memIssue {s e : State} {a1} (h : Keeps ms mf ma s e) : Keeps ms mf ma s (State.memIssue e a1) := by
  delta State.memIssue
  extract_lets -underBinder +onlyGivenNames x0
  clear_value x0
  extract_lets -underBinder +onlyGivenNames x1
  clear_value x1
  extract_lets -underBinder +onlyGivenNames x2
  have h2 : Keeps ms mf ma s x2 := h.silSet
  clear_value x2
  extract_lets -underBinder +onlyGivenNames x3
  have h3 : Keeps ms mf ma s x3 := by
    unfold x3
    split
    · exact h2.auditAsked
    · exact h2
  clear_value x3
  exact h3.sendAd

theorem Keeps.memAsk {s e : State} {a1} (h : Keeps ms mf ma s e) : Keeps ms mf ma s (State.memAsk e a1) := by
  delta State.memAsk
  exact Keeps.cond h.memIssue h.silSet

theorem Keeps.loadPump {s e : State} {a0} (h : Keeps ms mf ma s e) : Keeps ms mf ma s (State.loadPump a0 e) := by
  induction a0 generalizing e with
  | zero =>
    rw [State.loadPump.eq_1]
    exact h
  | succ n ih =>
    rw [State.loadPump.eq_2]
    split
    · exact h
    · refine Keeps.cond h ?_
      apply ih
      exact h.upd.memIssue

theorem Keeps.loadFailed {s e : State} (h : Keeps ms mf ma s e) : Keeps ms mf ma s (State.loadFailed e) := by
  delta State.loadFailed
  exact h.upd

theorem Keeps.memDone {s e : State} {a1} (h : Keeps ms mf ma s e) : Keeps ms mf ma s (State.memDone e a1) := by
  delta State.memDone
  extract_lets -underBinder -merge +onlyGivenNames x0
  have h0 : Keeps ms mf ma s x0 := h.silSet
  try clear_value x0
  split
  · exact h0.silSet.memIssue
  · exact h0.loadPump

theorem Keeps.execAdWindowRead {s e : State} {a0} {a1} (h : Keeps ms mf ma s e) : KeepsOut ms mf ma s (execAdWindowRead a0 a1 e) := by
  delta execAdWindowRead
  exact KeepsOut.next (Keeps.cond h.answer h.answer.memAsk)

theorem Keeps.execAdWindowWrite {s e : State} {a0} {a1} {a2} (h : Keeps ms mf ma s e) : KeepsOut ms mf ma s (execAdWindowWrite a0 a1 a2 e) := by
  delta execAdWindowWrite
  exact KeepsOut.next (Keeps.cond h.answer h.answer.memAsk)

theorem Keeps.memFault {s e : State} {a1} {a2} (h : Keeps ms mf ma s e) : Keeps ms mf ma s (State.memFault e a1 a2) := by
  delta State.memFault
  exact Keeps.cond h.adFault h

theorem Keeps.memMeets {s e : State} {a1} {a2} (h : Keeps ms mf ma s e) : Keeps ms mf ma s (State.memMeets e a1 a2).2 := by
  delta State.memMeets
  split
  · exact Keeps.pairR h.eccError
  · extract_lets -underBinder +onlyGivenNames x0
    have h0 : Keeps ms mf ma s x0.2 := h.eccError
    clear_value x0
    exact Keeps.pairR h0
  · exact Keeps.pairR h.nocError
  · exact Keeps.pairR h

theorem Keeps.execMemRd {s e : State} {a0} (h : Keeps ms mf false s e) : KeepsOut ms mf false s (execMemRd a0 e) := by
  delta execMemRd
  exact KeepsOut.next (by
    split
    · exact h
    · exact Keeps.cond ((h.takeAd.out ‹_›)) (by
        extract_lets -underBinder -merge +onlyGivenNames x0
        try clear_value x0
        extract_lets -underBinder -merge +onlyGivenNames x1
        try clear_value x1
        extract_lets -underBinder -merge +onlyGivenNames x2
        try clear_value x2
        exact Keeps.cond (by
          extract_lets -underBinder -merge +onlyGivenNames x3
          have h3 : Keeps ms mf false s x3.2 := ((h.takeAd.out ‹_›)).draw
          try clear_value x3
          exact h3.memFault.adSend) (by
          extract_lets -underBinder -merge +onlyGivenNames x4
          have h4 : Keeps ms mf false s x4 := Keeps.cond (((h.takeAd.out ‹_›)).charge) ((h.takeAd.out ‹_›))
          try clear_value x4
          extract_lets -underBinder -merge +onlyGivenNames x5
          have h5 : Keeps ms mf false s x5.2 := h4.memMeets
          try clear_value x5
          extract_lets -underBinder -merge +onlyGivenNames x6
          try clear_value x6
          exact Keeps.cond (by
            extract_lets -underBinder -merge +onlyGivenNames x7
            have h7 : Keeps ms mf false s x7.2 := h5.draw
            try clear_value x7
            exact h7.adSend) h5.adSend)))

theorem Keeps.execMemWr {s e : State} {a0} (h : Keeps ms mf false s e) : KeepsOut ms mf false s (execMemWr a0 e) := by
  delta execMemWr
  exact KeepsOut.next (by
    split
    · exact h
    · exact Keeps.cond ((h.takeAd.out ‹_›)) (by
        extract_lets -underBinder +onlyGivenNames x0
        clear_value x0
        extract_lets -underBinder +onlyGivenNames x1
        clear_value x1
        extract_lets -underBinder +onlyGivenNames x2
        clear_value x2
        extract_lets -underBinder +onlyGivenNames x3
        clear_value x3
        extract_lets -underBinder +onlyGivenNames x4
        clear_value x4
        exact Keeps.cond ((((h.takeAd.out ‹_›)).memFault).adSend) (by
          extract_lets -underBinder +onlyGivenNames x5
          have h5 : Keeps ms mf false s x5 := Keeps.cond (((h.takeAd.out ‹_›)).charge) ((h.takeAd.out ‹_›))
          clear_value x5
          extract_lets -underBinder +onlyGivenNames x6
          have h6 : Keeps ms mf false s x6.2 := h5.memMeets
          clear_value x6
          exact Keeps.cond h6.adSend (by
            extract_lets -underBinder +onlyGivenNames x7
            have h7 : Keeps ms mf false s x7 := Keeps.cond h6.tenWrite h6.dramWrite
            clear_value x7
            exact h7.adSend))))

theorem Keeps.sendCmd {s e : State} {a1} {a2} (h : Keeps ms mf ma s e) : Keeps ms mf ma s (State.sendCmd e a1 a2) := by
  delta State.sendCmd
  exact h.sendAd

theorem Keeps.command {s e : State} {a1} {a2} (h : Keeps ms mf ma s e) : Keeps ms mf ma s (State.command e a1 a2) := by
  delta State.command
  exact h.tenantSet.sendCmd.arm

theorem Keeps.dropCmd {s e : State} {a1} (h : Keeps ms mf ma s e) : Keeps ms mf ma s (State.dropCmd e a1) := by
  delta State.dropCmd
  exact h.tenantSet.disarm

theorem Keeps.clearTenantCams {s e : State} {a1} (h : Keeps ms mf ma s e) : Keeps ms mf ma s (State.clearTenantCams e a1) := by
  delta State.clearTenantCams
  exact h.forN (fun _ _ h0 => Keeps.cond h0.clearCamera h0)

theorem Keeps.startReset {s e : State} {a1} (h : Keeps ms mf ma s e) : Keeps ms mf ma s (State.startReset e a1) := by
  delta State.startReset
  extract_lets -underBinder +onlyGivenNames x0
  have h0 : Keeps ms mf ma s x0 := Keeps.cond h.clearTenantCams h
  clear_value x0
  extract_lets -underBinder +onlyGivenNames x1
  have h1 : Keeps ms mf ma s x1 := h0.setTenant.tenantSet
  clear_value x1
  exact Keeps.cond h1.command h1

theorem Keeps.stayFaulted {s e : State} {a1} (h : Keeps ms mf ma s e) : Keeps ms mf ma s (State.stayFaulted e a1) := by
  delta State.stayFaulted
  exact Keeps.cond h.command h

theorem Keeps.becomeFaulted {s e : State} {a1} (h : Keeps ms mf ma s e) : Keeps ms mf ma s (State.becomeFaulted e a1) := by
  delta State.becomeFaulted
  extract_lets -underBinder +onlyGivenNames x0
  have h0 : Keeps ms mf ma s x0 := h.dropCmd.setTenant
  clear_value x0
  exact Keeps.cond (by
    extract_lets -underBinder +onlyGivenNames x1
    clear_value x1
    exact Keeps.cond h0.tenantSet.startReset h0.stayFaulted.raise) h0.stayFaulted

theorem Keeps.noteFault {s e : State} {a1} {a2} {a3} (h : Keeps ms mf ma s e) : Keeps ms mf ma s (State.noteFault e a1 a2 a3) := by
  delta State.noteFault
  exact h.setF.raiseInt

theorem Keeps.borrowLate {s e : State} {a1} (h : Keeps ms mf ma s e) : Keeps ms mf ma s (State.borrowLate e a1) := by
  delta State.borrowLate
  extract_lets -underBinder +onlyGivenNames x0
  clear_value x0
  exact Keeps.cond h.tenantSet.setF.raise.sendCmd (Keeps.cond (by
    extract_lets -underBinder +onlyGivenNames x1
    have h1 : Keeps ms mf ma s x1 := h.tenantSet.raise
    clear_value x1
    exact h1.upd) h.tenantSet)

theorem Keeps.tenantFault {s e : State} {a1} {a2} {a3} (h : Keeps ms mf ma s e) : Keeps ms mf ma s (State.tenantFault e a1 a2 a3) := by
  delta State.tenantFault
  exact Keeps.cond h (by
    extract_lets -underBinder +onlyGivenNames x0
    have h0 : Keeps ms mf ma s x0 := h.noteFault
    clear_value x0
    extract_lets -underBinder +onlyGivenNames x1
    have h1 : Keeps ms mf ma s x1 := Keeps.cond h0.raise h0
    clear_value x1
    extract_lets -underBinder +onlyGivenNames x2
    clear_value x2
    exact Keeps.cond h1.borrowLate (Keeps.cond h1.becomeFaulted h1))

theorem Keeps.execTenantFault {s e : State} {a0} {a1} {a2} (h : Keeps ms mf ma s e) : KeepsOut ms mf ma s (execTenantFault a0 a1 a2 e) := by
  delta execTenantFault
  exact KeepsOut.next (Keeps.cond h.dspSet.tenantFault h)

theorem Keeps.cmdRefused {s e : State} (h : Keeps ms mf ma s e) : Keeps ms mf ma s (State.cmdRefused e) := by
  delta State.cmdRefused
  exact h.flag

theorem Keeps.suspendAll {s e : State} (h : Keeps ms mf ma s e) : Keeps ms mf ma s (State.suspendAll e) := by
  delta State.suspendAll
  exact h.forN (fun _ _ h0 => Keeps.cond (by
    extract_lets -underBinder +onlyGivenNames x1
    have h1 : Keeps ms mf ma s x1 := h0.setTenant
    clear_value x1
    exact Keeps.cond h1.command h1) h0)

theorem Keeps.execSuspend {s e : State} {a0} (h : Keeps ms mf ma s e) : KeepsOut ms mf ma s (execSuspend a0 e) := by
  delta execSuspend
  exact KeepsOut.next (h.access (fun _ h0 => by
    extract_lets -underBinder +onlyGivenNames x1
    clear_value x1
    exact Keeps.cond h0.setTenant.command h0.cmdRefused))

theorem Keeps.execResume {s e : State} {a0} (h : Keeps ms mf ma s e) : KeepsOut ms mf ma s (execResume a0 e) := by
  delta execResume
  exact KeepsOut.next (h.access (fun _ h0 => by
    extract_lets -underBinder +onlyGivenNames x1
    clear_value x1
    exact Keeps.cond h0.setTenant.command h0.cmdRefused))

theorem Keeps.execReset {s e : State} {a0} (h : Keeps ms mf ma s e) : KeepsOut ms mf ma s (execReset a0 e) := by
  delta execReset
  exact KeepsOut.next (h.access (fun _ h0 => by
    extract_lets -underBinder +onlyGivenNames x1
    clear_value x1
    exact Keeps.cond h0.dropCmd.startReset h0.cmdRefused))

theorem Keeps.lendPermit {s e : State} {a1} {a2} {a3} (h : Keeps ms mf ma s e) : Keeps ms mf ma s (State.lendPermit e a1 a2 a3) := by
  delta State.lendPermit
  exact Keeps.cond h.setF.sendCmd h.cmdRefused

theorem Keeps.execLendon {s e : State} {a0} (h : Keeps ms mf ma s e) : KeepsOut ms mf ma s (execLendon a0 e) := by
  delta execLendon
  exact KeepsOut.next (h.access (fun _ h0 => h0.lendPermit))

theorem Keeps.execLendoff {s e : State} {a0} (h : Keeps ms mf ma s e) : KeepsOut ms mf ma s (execLendoff a0 e) := by
  delta execLendoff
  exact KeepsOut.next (h.access (fun _ h0 => h0.lendPermit))

theorem Keeps.uncommanded {s e : State} {a1} (h : Keeps ms mf false s e) : Keeps ms mf false s (State.uncommanded e a1) := by
  delta State.uncommanded
  extract_lets -underBinder +onlyGivenNames x0
  have h0 : Keeps ms mf false s x0 := h.tenViol
  clear_value x0
  split
  · exact h0.command
  · split
    · exact h0.command
    · exact h0

theorem Keeps.takeTenAck {s e : State} {a1} {a2} {a3} (h : Keeps ms mf false s e) : Keeps ms mf false s (State.takeTenAck e a1 a2 a3) := by
  delta State.takeTenAck
  extract_lets -underBinder +onlyGivenNames x0
  clear_value x0
  split
  · exact h
  · exact Keeps.cond (((h.takeCd.out ‹_›)).tenViol) (by
      extract_lets -underBinder +onlyGivenNames x1
      clear_value x1
      extract_lets -underBinder +onlyGivenNames x2
      clear_value x2
      split
      · exact Keeps.cond (((h.takeCd.out ‹_›)).dropCmd) (Keeps.cond (((h.takeCd.out ‹_›)).setTenant) (((h.takeCd.out ‹_›)).uncommanded))
      · exact Keeps.cond (((h.takeCd.out ‹_›)).setTenant) (Keeps.cond ((h.takeCd.out ‹_›)) (((h.takeCd.out ‹_›)).uncommanded)))

theorem Keeps.stateAckTimeout {s e : State} {a1} (h : Keeps ms mf false s e) : Keeps ms mf false s (State.stateAckTimeout e a1) := by
  delta State.stateAckTimeout
  extract_lets -underBinder +onlyGivenNames x0
  clear_value x0
  split
  · exact Keeps.cond (by
      extract_lets -underBinder +onlyGivenNames x1
      clear_value x1
      extract_lets -underBinder +onlyGivenNames x2
      have h2 : Keeps ms mf false s x2 := h.disarm.tenViol
      clear_value x2
      exact Keeps.cond h2 (Keeps.cond h2.noteFault.becomeFaulted h2.sendCmd.tenantSet.arm)) h
  · exact h

theorem Keeps.execModelVerified {s e : State} {a0} {a1} (h : Keeps ms mf ma s e) : KeepsOut ms mf ma s (execModelVerified a0 a1 e) := by
  delta execModelVerified
  exact KeepsOut.next (by
    extract_lets -underBinder +onlyGivenNames x0
    clear_value x0
    exact Keeps.cond (by
      extract_lets -underBinder +onlyGivenNames x1
      clear_value x1
      extract_lets -underBinder +onlyGivenNames x2
      clear_value x2
      extract_lets -underBinder +onlyGivenNames x3
      have h3 : Keeps ms mf ma s x3 := h.charge
      clear_value x3
      extract_lets -underBinder +onlyGivenNames x4
      have h4 : Keeps ms mf ma s x4.2 := h3.memMeets
      clear_value x4
      extract_lets -underBinder +onlyGivenNames x5
      have h5 : Keeps ms mf ma s x5 := h4
      clear_value x5
      exact Keeps.cond (by
        extract_lets -underBinder +onlyGivenNames x6
        clear_value x6
        extract_lets -underBinder +onlyGivenNames x7
        have h7 : Keeps ms mf ma s x7 := h5.setTenant
        clear_value x7
        extract_lets -underBinder +onlyGivenNames x8
        have h8 : Keeps ms mf ma s x8 := Keeps.cond h7.raiseInt.setF.tenantSet h7
        clear_value x8
        exact h8.command) h5.noteFault.becomeFaulted) h)

theorem Keeps.execTenSqdb {s e : State} {a0} {a1} {a2} (h : Keeps ms mf ma s e) : KeepsOut ms mf ma s (execTenSqdb a0 a1 a2 e) := by
  delta execTenSqdb
  exact KeepsOut.next (h.access (fun _ h0 => by
    extract_lets -underBinder +onlyGivenNames x1
    clear_value x1
    extract_lets -underBinder +onlyGivenNames x2
    clear_value x2
    exact Keeps.cond h0.raiseInt h0.sendAd))

theorem Keeps.execComplNote {s e : State} {a0} {a1} {a2} {a3} (h : Keeps ms mf false s e) : KeepsOut ms mf false s (execComplNote a0 a1 a2 a3 e) := by
  delta execComplNote
  exact KeepsOut.next (by
    extract_lets -underBinder +onlyGivenNames x0
    clear_value x0
    split
    · exact h
    · exact Keeps.cond (((h.takeCd.out ‹_›)).tenViol) (((h.takeCd.out ‹_›)).flag))

theorem Keeps.roundEnded {s e : State} {a1} (h : Keeps ms mf ma s e) : Keeps ms mf ma s (State.roundEnded e a1) := by
  delta State.roundEnded
  exact h.upd

theorem Keeps.auditFailed {s e : State} {a1} {a2} {a3} (h : Keeps ms mf false s e) : Keeps ms mf false s (State.auditFailed e a1 a2 a3) := by
  delta State.auditFailed
  extract_lets -underBinder +onlyGivenNames x0
  have h0 : Keeps ms mf false s x0 := h.roundEnded.satInc.setFs
  clear_value x0
  extract_lets -underBinder +onlyGivenNames x1
  have h1 : Keeps ms mf false s x1 := h0.tenViolCount.raiseInt
  clear_value x1
  exact h1.raise.ladderAtOnce

theorem Keeps.auditAnswered {s e : State} {a1} (h : Keeps ms mf ma s e) : Keeps ms mf ma s (State.auditAnswered e a1) := by
  delta State.auditAnswered
  split
  · exact h
  · extract_lets -underBinder +onlyGivenNames x0
    clear_value x0
    exact Keeps.cond h.roundEnded.wrapInc h.upd

theorem Keeps.probes {s e : State} {a1} (h : Keeps ms mf ma s e) : Keeps ms mf ma s (State.probes e a1) := by
  delta State.probes
  split
  · exact h
  · extract_lets -underBinder +onlyGivenNames x0
    clear_value x0
    extract_lets -underBinder +onlyGivenNames x1
    clear_value x1
    extract_lets -underBinder +onlyGivenNames x2
    clear_value x2
    extract_lets -underBinder +onlyGivenNames x3
    have h3 : Keeps ms mf ma s x3 := h.memAsk
    clear_value x3
    exact h3.memAsk

theorem Keeps.auditRound {s e : State} (h : Keeps ms mf ma s e) : Keeps ms mf ma s (State.auditRound e) := by
  delta State.auditRound
  extract_lets +onlyGivenNames x0
  have h0 : Keeps ms mf ma s x0.2 := h.draw
  clear_value x0
  extract_lets +onlyGivenNames x1
  clear_value x1
  extract_lets +onlyGivenNames x2
  clear_value x2
  extract_lets +onlyGivenNames x3
  clear_value x3
  extract_lets +onlyGivenNames x4
  have h4 : Keeps ms mf ma s x4 := h0
  clear_value x4
  extract_lets +onlyGivenNames x5
  clear_value x5
  extract_lets +onlyGivenNames x6
  have h6 : Keeps ms mf ma s x6 := h4.upd
  clear_value x6
  extract_lets +onlyGivenNames x7
  have h7 : Keeps ms mf ma s x7 := Keeps.cond h6 (h6.forL (fun _ _ h8 => h8.memAsk))
  clear_value x7
  extract_lets +onlyGivenNames x8
  have h8 : Keeps ms mf ma s x8 := h7.forL (fun _ _ h9 => h9.memAsk)
  clear_value x8
  extract_lets +onlyGivenNames x9
  have h9 : Keeps ms mf ma s x9 := h8.probes
  clear_value x9
  split
  · extract_lets +onlyGivenNames x10
    clear_value x10
    exact h9.upd.auditAsked.sendAd
  · exact h9

theorem Keeps.execCanaryAuditRound {s e : State} (h : Keeps ms mf ma s e) : KeepsOut ms mf ma s (execCanaryAuditRound e) := by
  delta execCanaryAuditRound
  exact KeepsOut.next (Keeps.cond (by
    extract_lets -underBinder +onlyGivenNames x0
    have h0 : Keeps ms mf ma s x0 := h.rearm
    clear_value x0
    exact Keeps.cond h0.satInc.raise h0.auditRound) h)

theorem Keeps.execAuditAnswerTimeout {s e : State} (h : Keeps ms mf false s e) : KeepsOut ms mf false s (execAuditAnswerTimeout e) := by
  delta execAuditAnswerTimeout
  exact KeepsOut.next (by
    split
    · split
      · exact h.auditFailed
      · exact h
    · exact h)

theorem Keeps.auditJudge {s e : State} {a1} {a2} {a3} (h : Keeps ms mf false s e) : Keeps ms mf false s (State.auditJudge e a1 a2 a3) := by
  delta State.auditJudge
  exact Keeps.cond h (Keeps.cond (Keeps.cond h.auditAnswered h.auditFailed) (Keeps.cond h.auditAnswered (Keeps.cond h.auditFailed h.auditAnswered)))

theorem Keeps.execProbe {s e : State} (h : Keeps ms mf false s e) : KeepsOut ms mf false s (execProbe e) := by
  delta execProbe
  exact KeepsOut.next (by
    split
    · exact h
    · extract_lets -underBinder -merge +onlyGivenNames x0
      try clear_value x0
      extract_lets -underBinder -merge +onlyGivenNames x1
      try clear_value x1
      exact Keeps.cond ((h.takeAd.out ‹_›)) (by
        extract_lets -underBinder -merge +onlyGivenNames x2
        try clear_value x2
        extract_lets -underBinder -merge +onlyGivenNames x3
        try clear_value x3
        extract_lets -underBinder -merge +onlyGivenNames x4
        try clear_value x4
        extract_lets -underBinder -merge +onlyGivenNames x5
        have h5 : Keeps ms mf false s x5.2 := Keeps.condR (((h.takeAd.out ‹_›)).draw) (Keeps.pairR ((h.takeAd.out ‹_›)))
        try clear_value x5
        exact h5.adSend))

theorem Keeps.execProbeResult {s e : State} {a0} {a1} {a2} (h : Keeps ms mf false s e) : KeepsOut ms mf false s (execProbeResult a0 a1 a2 e) := by
  delta execProbeResult
  exact KeepsOut.next (by
    split
    · exact h
    · exact Keeps.cond (Keeps.cond (((h.takeCd.out ‹_›)).auditAnswered) (((h.takeCd.out ‹_›)).auditFailed)) ((h.takeCd.out ‹_›)))

theorem Keeps.execMajorFrameStart {s e : State} (h : Keeps ms mf ma s e) : KeepsOut ms mf ma s (execMajorFrameStart e) := by
  delta execMajorFrameStart
  exact KeepsOut.next (Keeps.cond (by
    extract_lets -underBinder +onlyGivenNames x0
    clear_value x0
    extract_lets -underBinder +onlyGivenNames x1
    have h1 : Keeps ms mf ma s x1 := h.rearm.sendAd
    clear_value x1
    extract_lets -underBinder -merge +onlyGivenNames y2_0 x2
    have h2 : Keeps ms mf ma s x2 := h1.upd.setF
    clear_value x2
    exact Keeps.cond h2 h2.upd.arm) h)

theorem Keeps.revokeLate {s e : State} {a0} (h : Keeps ms mf false s e) : Keeps ms mf false s (State.revokeLate a0 e) := by
  induction a0 generalizing e with
  | zero =>
    rw [State.revokeLate.eq_1]
    exact h
  | succ n ih =>
    rw [State.revokeLate.eq_2]
    apply ih
    exact Keeps.cond h.upd.tenViolCount.raise.raise.ladder h.upd.tenViolCount.raise.raise

theorem Keeps.execFrameReport {s e : State} {a0} {a1} {a2} {a3} {a4} (h : Keeps ms mf false s e) : KeepsOut ms mf false s (execFrameReport a0 a1 a2 a3 a4 e) := by
  delta execFrameReport
  exact KeepsOut.next (by
    extract_lets -underBinder +onlyGivenNames x0
    clear_value x0
    split
    · exact h
    · extract_lets -underBinder -merge +onlyGivenNames y1_0 x1
      have h1 : Keeps ms mf false s x1 := Keeps.cond ((((h.takeCd.out ‹_›)).upd).disarm) (((h.takeCd.out ‹_›)).tenViol)
      clear_value x1
      extract_lets -underBinder +onlyGivenNames x2
      have h2 : Keeps ms mf false s x2 := h1.setFs
      clear_value x2
      extract_lets -underBinder +onlyGivenNames x3
      have h3 : Keeps ms mf false s x3 := h2.forN (fun _ _ h4 => h4.setF)
      clear_value x3
      exact h3.revokeLate)

theorem Keeps.execFrameReportTimeout {s e : State} (h : Keeps ms mf false s e) : KeepsOut ms mf false s (execFrameReportTimeout e) := by
  delta execFrameReportTimeout
  exact KeepsOut.next (Keeps.cond h.upd.disarm.tenViol h)

theorem Keeps.loadRegions {s e : State} {a1} (h : Keeps ms mf ma s e) : Keeps ms mf ma s (State.loadRegions e a1) := by
  delta State.loadRegions
  extract_lets -underBinder +onlyGivenNames x0
  have h0 : Keeps ms mf ma s x0 := h.forN (fun _ _ h1 => h1.setF)
  clear_value x0
  exact h0.forL (fun _ _ h2 => h2.setF.setF)

theorem Keeps.tagUnit {s e : State} {a1} {a2} (h : Keeps ms mf false s e) : Keeps ms mf false s (State.tagUnit e a1 a2) := by
  delta State.tagUnit
  exact (h.shelf (Sparse.wf_clear _ _)).adSet.setF.setF

theorem Keeps.applyPlan {s e : State} {a1} {a2} {a3} (h : Keeps ms mf false s e) : Keeps ms mf false s (State.applyPlan e a1 a2 a3) := by
  delta State.applyPlan
  extract_lets -underBinder +onlyGivenNames x0
  clear_value x0
  extract_lets -underBinder +onlyGivenNames x1
  have h1 : Keeps ms mf false s x1 := h.forN (fun _ _ h2 => h2.setF)
  clear_value x1
  extract_lets -underBinder +onlyGivenNames x3
  have h3 : Keeps ms mf false s x3 := h1.forL (fun _ _ h4 => h4.forL (fun _ _ h5 => h5.tagUnit))
  clear_value x3
  extract_lets -underBinder +onlyGivenNames x6
  have h6 : Keeps ms mf false s x6 := h3.forN (fun _ _ h7 => h7.setF)
  clear_value x6
  exact h6.dspSet

theorem Keeps.takePlan {s e : State} {a1} (h : Keeps ms mf false s e) : Keeps ms mf false s (State.takePlan e a1).2 := by
  delta State.takePlan
  split
  · exact Keeps.pairR h
  · split
    · exact Keeps.pairR h
    · exact Keeps.condR (Keeps.pairR h) (by
        extract_lets -underBinder +onlyGivenNames x0
        clear_value x0
        extract_lets -underBinder +onlyGivenNames x1
        clear_value x1
        extract_lets -underBinder +onlyGivenNames x2
        have h2 : Keeps ms mf false s x2 := h.loadRegions
        clear_value x2
        split
        · exact Keeps.pairR h2.applyPlan
        · exact Keeps.pairR h)

theorem Keeps.configAck {s e : State} {a1} {a2} {a3} (h : Keeps ms mf ma s e) : Keeps ms mf ma s (State.configAck e a1 a2 a3) := by
  delta State.configAck
  exact h.adSend

theorem Keeps.takeFirmware {s e : State} {a1} {a2} {a3} (h : Keeps ms mf ma s e) : Keeps ms mf ma s (State.takeFirmware e a1 a2 a3) := by
  delta State.takeFirmware
  exact Keeps.cond h (by
    extract_lets -underBinder +onlyGivenNames x0
    have h0 : Keeps ms mf ma s x0 := h.dspSet
    clear_value x0
    exact Keeps.cond h0.configAck h0)

theorem Keeps.takePlanPart {s e : State} {a1} {a2} {a3} (h : Keeps ms mf false s e) : Keeps ms mf false s (State.takePlanPart e a1 a2 a3) := by
  delta State.takePlanPart
  extract_lets -underBinder +onlyGivenNames x0
  clear_value x0
  exact Keeps.cond h (by
    extract_lets -underBinder +onlyGivenNames x1
    clear_value x1
    exact Keeps.cond h.dspSet (by
      extract_lets -underBinder +onlyGivenNames x2
      have h2 : Keeps ms mf false s x2.2 := h.dspSet.takePlan
      clear_value x2
      exact h2.configAck))

theorem Keeps.takeItem {s e : State} {a1} {a2} {a3} (h : Keeps ms mf ma s e) : Keeps ms mf ma s (State.takeItem e a1 a2 a3) := by
  delta State.takeItem
  split
  · exact h.dspSet
  · exact h.configAck

theorem Keeps.execConfig {s e : State} (h : Keeps ms mf false s e) : KeepsOut ms mf false s (execConfig e) := by
  delta execConfig
  exact KeepsOut.next (by
    split
    · exact h
    · extract_lets -underBinder +onlyGivenNames x0
      clear_value x0
      extract_lets -underBinder +onlyGivenNames x1
      clear_value x1
      extract_lets -underBinder +onlyGivenNames x2
      clear_value x2
      exact Keeps.cond ((h.takeAd.out ‹_›)) (Keeps.cond (((h.takeAd.out ‹_›)).takeFirmware) (Keeps.cond ((h.takeAd.out ‹_›)) (Keeps.cond (((h.takeAd.out ‹_›)).takePlanPart) (Keeps.cond (((h.takeAd.out ‹_›)).takeItem) ((h.takeAd.out ‹_›)))))))

theorem Keeps.jobsSet {s e : State} {a1} (h : Keeps ms mf ma s e) : Keeps ms mf ma s (State.jobsSet e a1) := by
  delta State.jobsSet
  exact h.dspSet

theorem Keeps.writeCompletion {s e : State} {a1} {a2} (h : Keeps ms mf false s e) : Keeps ms mf false s (State.writeCompletion e a1 a2) := by
  delta State.writeCompletion
  extract_lets -underBinder +onlyGivenNames x0
  clear_value x0
  extract_lets -underBinder +onlyGivenNames x1
  clear_value x1
  extract_lets -underBinder +onlyGivenNames x2
  clear_value x2
  extract_lets -underBinder +onlyGivenNames x3
  clear_value x3
  extract_lets -underBinder +onlyGivenNames x4
  have h4 : Keeps ms mf false s x4 := h.charge.tenStore
  clear_value x4
  extract_lets -underBinder +onlyGivenNames x5
  clear_value x5
  extract_lets -underBinder +onlyGivenNames x6
  have h6 : Keeps ms mf false s x6 := h4.dspSet
  clear_value x6
  exact Keeps.cond h6.adSend h6

theorem Keeps.finish {s e : State} {a1} {a2} (h : Keeps ms mf false s e) : Keeps ms mf false s (State.finish e a1 a2) := by
  delta State.finish
  exact Keeps.cond h.jobsSet (by
    extract_lets -underBinder +onlyGivenNames x0
    have h0 : Keeps ms mf false s x0 := h.jobsSet.writeCompletion
    clear_value x0
    split
    · exact h0.dspSet
    · exact h0)

theorem Keeps.flushHeld {s e : State} {a1} (h : Keeps ms mf false s e) : Keeps ms mf false s (State.flushHeld e a1) := by
  delta State.flushHeld
  exact h.forL (fun _ _ h0 => Keeps.cond h0 h0.finish)

theorem Keeps.setDspSt {s e : State} {a1} {a2} (h : Keeps ms mf ma s e) : Keeps ms mf ma s (State.setDspSt e a1 a2) := by
  delta State.setDspSt
  exact h.dspSet

theorem Keeps.tenAck {s e : State} {a1} {a2} {a3} (h : Keeps ms mf ma s e) : Keeps ms mf ma s (State.tenAck e a1 a2 a3) := by
  delta State.tenAck
  exact h.adSend

theorem Keeps.settle {s e : State} {a1} (h : Keeps ms mf ma s e) : Keeps ms mf ma s (State.settle e a1) := by
  delta State.settle
  extract_lets -underBinder +onlyGivenNames x0
  clear_value x0
  exact Keeps.cond h.setDspSt.tenAck (Keeps.cond h.setDspSt.tenAck h)

theorem Keeps.stopOnce {s e : State} {a1} {a2} (h : Keeps ms mf ma s e) : Keeps ms mf ma s (State.stopOnce e a1 a2) := by
  delta State.stopOnce
  split
  · exact h
  · exact Keeps.cond h.stopTile h

theorem Keeps.cutJob {s e : State} {a1} {a2} (h : Keeps ms mf false s e) : Keeps ms mf false s (State.cutJob e a1 a2) := by
  delta State.cutJob
  extract_lets -underBinder +onlyGivenNames x0
  have h0 : Keeps ms mf false s x0 := h.forL (fun _ _ h1 => h1.stopOnce)
  clear_value x0
  extract_lets -underBinder +onlyGivenNames x2
  clear_value x2
  extract_lets -underBinder +onlyGivenNames x3
  have h3 : Keeps ms mf false s x3 := h0.jobsSet
  clear_value x3
  split
  · exact h3.finish
  · exact Keeps.cond h3.finish h3

theorem Keeps.cutOn {s e : State} {a1} {a2} (h : Keeps ms mf false s e) : Keeps ms mf false s (State.cutOn e a1 a2) := by
  delta State.cutOn
  exact (h.forL (fun _ _ h0 => h0.cutJob)).stopOnce

theorem Keeps.revoke {s e : State} {a1} (h : Keeps ms mf false s e) : Keeps ms mf false s (State.revoke e a1) := by
  delta State.revoke
  exact h.cutOn.dspSet

theorem Keeps.revokeFor {s e : State} {a1} (h : Keeps ms mf false s e) : Keeps ms mf false s (State.revokeFor e a1) := by
  delta State.revokeFor
  split
  · exact h.forL (fun _ _ h0 => by
      split
      · exact Keeps.cond h0 h0.revoke
      · exact h0)
  · exact h

theorem Keeps.lendTile {s e : State} {a1} (h : Keeps ms mf ma s e) : Keeps ms mf ma s (State.lendTile e a1) := by
  delta State.lendTile
  exact Keeps.cond (by
    split
    · exact h.dspSet
    · exact h) h

theorem Keeps.lendAll {s e : State} (h : Keeps ms mf ma s e) : Keeps ms mf ma s (State.lendAll e) := by
  delta State.lendAll
  extract_lets -underBinder +onlyGivenNames x0
  have h0 : Keeps ms mf ma s x0 := h.dspSet
  clear_value x0
  exact h0.forN (fun _ _ h1 => h1.lendTile)

theorem Keeps.fillBank {s e : State} {a1} {a2} (h : Keeps ms mf ma s e) : Keeps ms mf ma s (State.fillBank e a1 a2) := by
  delta State.fillBank
  extract_lets -underBinder +onlyGivenNames x0
  have h0 : Keeps ms mf ma s x0 := h.adSet
  clear_value x0
  exact h0.forN (fun _ _ h1 => h1.setF)

theorem Keeps.tagBanks {s e : State} {a1} {a2} (h : Keeps ms mf ma s e) : Keeps ms mf ma s (State.tagBanks e a1 a2) := by
  delta State.tagBanks
  exact h.forN (fun _ _ h0 => Keeps.cond h0 (by
    extract_lets -underBinder +onlyGivenNames x1
    have h1 : Keeps ms mf ma s x1 := h0.fillBank
    clear_value x1
    exact h1.setF.setF))

theorem Keeps.loadProgram {s e : State} {a1} {a2} {a3} {a4} (h : Keeps ms mf ma s e) : Keeps ms mf ma s (State.loadProgram e a1 a2 a3 a4) := by
  delta State.loadProgram
  extract_lets -underBinder +onlyGivenNames x0
  clear_value x0
  extract_lets -underBinder +onlyGivenNames x1
  clear_value x1
  extract_lets -underBinder +onlyGivenNames x2
  clear_value x2
  extract_lets -underBinder +onlyGivenNames x3
  clear_value x3
  extract_lets -underBinder +onlyGivenNames x4
  have h4 : Keeps ms mf ma s x4 := h.charge
  clear_value x4
  extract_lets -underBinder +onlyGivenNames x5
  clear_value x5
  extract_lets -underBinder +onlyGivenNames x6
  have h6 : Keeps ms mf ma s x6 := h4.adSet
  clear_value x6
  exact h6.setFs

theorem Keeps.loadXforms {s e : State} {a1} {a2} {a3} (h : Keeps ms mf ma s e) : Keeps ms mf ma s (State.loadXforms e a1 a2 a3) := by
  delta State.loadXforms
  extract_lets -underBinder +onlyGivenNames x0
  have h0 : Keeps ms mf ma s x0 := h.forN (fun _ _ h1 => h1.setF)
  clear_value x0
  split
  · exact h0
  · extract_lets -underBinder +onlyGivenNames x2
    clear_value x2
    extract_lets -underBinder +onlyGivenNames x3
    have h3 : Keeps ms mf ma s x3 := h0.setF
    clear_value x3
    exact Keeps.foldlL (Keeps.pairL h3) (fun _ _ h4 => Keeps.pairL h4.setFs)

theorem Keeps.groupSet {s e : State} {a1} {a2} (h : Keeps ms mf ma s e) : Keeps ms mf ma s (State.groupSet e a1 a2) := by
  delta State.groupSet
  exact h.jobsSet

theorem Keeps.pkgError {s e : State} {a1} {a2} (h : Keeps ms mf ma s e) : Keeps ms mf ma s (State.pkgError e a1 a2).2 := by
  delta State.pkgError
  split
  · exact h.meetError
  · exact Keeps.pairR h

theorem Keeps.groupPoison {s e : State} {a1} (h : Keeps ms mf false s e) : Keeps ms mf false s (State.groupPoison e a1) := by
  delta State.groupPoison
  exact h.forL (fun _ _ h0 => by
    extract_lets -underBinder +onlyGivenNames x1
    clear_value x1
    exact h0.jobsSet.finish)

theorem Keeps.launch {s e : State} {a1} {a2} {a3} (h : Keeps ms mf ma s e) : Keeps ms mf ma s (State.launch e a1 a2 a3) := by
  delta State.launch
  extract_lets -underBinder +onlyGivenNames x0
  have h0 : Keeps ms mf ma s x0 := h.groupSet
  clear_value x0
  extract_lets -underBinder +onlyGivenNames x1
  have h1 : Keeps ms mf ma s x1 := by
    unfold x1
    split
    · exact h0.dspSet
    · exact h0
  clear_value x1
  split
  · exact h1
  · exact h1.forN (fun _ _ h2 => by
      extract_lets -underBinder +onlyGivenNames x3
      clear_value x3
      exact h2.tagBanks.loadProgram.loadXforms.startTile)

theorem Keeps.launchRead {s e : State} {a1} {a2} {a3} {a4} (h : Keeps ms mf false s e) : Keeps ms mf false s (State.launchRead e a1 a2 a3 a4) := by
  delta State.launchRead
  extract_lets -underBinder +onlyGivenNames x0
  have h0 : Keeps ms mf false s x0.2 := h.pkgError
  clear_value x0
  exact Keeps.cond h0.groupPoison h0.launch

theorem Keeps.startRow {s e : State} {a1} {a2} {a3} (h : Keeps ms mf false s e) (f3 : ∀ y0, ∀ y1, ∀ y2, ∀ y3, Keeps ms mf false s y3 → Keeps ms mf false s (a3 y0 y1 y2 y3)) : Keeps ms mf false s (State.startRow e a1 a2 a3) := by
  delta State.startRow
  exact Keeps.cond h (by
    split
    · exact Keeps.cond h (Keeps.cond h (Keeps.cond ((f3 _ _ _ _ h).settle) h.revokeFor))
    · exact h)

theorem Keeps.execInferFrame {s e : State} {a0} {a1} (h : Keeps ms mf false s e) : KeepsOut ms mf false s (execInferFrame a0 a1 e) := by
  delta execInferFrame
  exact KeepsOut.next (h.startRow (fun _ _ _ _ h0 => h0.launchRead))

theorem Keeps.execInferCrops {s e : State} {a0} {a1} (h : Keeps ms mf false s e) : KeepsOut ms mf false s (execInferCrops a0 a1 e) := by
  delta execInferCrops
  exact KeepsOut.next (h.startRow (fun _ _ _ _ h0 => h0.launchRead))

theorem Keeps.execInferBatch {s e : State} {a0} {a1} (h : Keeps ms mf false s e) : KeepsOut ms mf false s (execInferBatch a0 a1 e) := by
  delta execInferBatch
  exact KeepsOut.next (h.startRow (fun _ _ _ _ h0 => h0.launchRead))

theorem Keeps.execGrad {s e : State} {a0} {a1} (h : Keeps ms mf false s e) : KeepsOut ms mf false s (execGrad a0 a1 e) := by
  delta execGrad
  exact KeepsOut.next (h.startRow (fun _ _ _ _ h0 => h0.launchRead))

theorem Keeps.beginPlain {s e : State} {a1} {a2} {a3} (h : Keeps ms mf ma s e) : Keeps ms mf ma s (State.beginPlain e a1 a2 a3) := by
  delta State.beginPlain
  extract_lets -underBinder +onlyGivenNames x0
  have h0 : Keeps ms mf ma s x0 := h.jobsSet
  clear_value x0
  split
  · exact h0.dspSet
  · exact h0

theorem Keeps.execCopy {s e : State} {a0} {a1} (h : Keeps ms mf false s e) : KeepsOut ms mf false s (execCopy a0 a1 e) := by
  delta execCopy
  exact KeepsOut.next (h.startRow (fun _ _ _ _ h0 => by
    extract_lets -underBinder -merge +onlyGivenNames x1
    try clear_value x1
    extract_lets -underBinder -merge +onlyGivenNames x2
    have h2 : Keeps ms mf false s x2.2 := h0.fetch
    try clear_value x2
    exact h2.charge.store.beginPlain))

theorem Keeps.execPhaseBarrier {s e : State} {a0} {a1} (h : Keeps ms mf ma s e) : KeepsOut ms mf ma s (execPhaseBarrier a0 a1 e) := by
  delta execPhaseBarrier
  exact KeepsOut.next (by
    split
    · exact h
    · split
      · exact h
      · extract_lets -underBinder +onlyGivenNames x0
        clear_value x0
        split
        · extract_lets -underBinder +onlyGivenNames x1
          clear_value x1
          extract_lets -underBinder +onlyGivenNames x2
          clear_value x2
          exact Keeps.cond (by
            extract_lets -underBinder +onlyGivenNames x3
            have h3 : Keeps ms mf ma s x3.2 := h.pkgError
            clear_value x3
            exact Keeps.cond (by
              extract_lets -underBinder +onlyGivenNames x4
              have h4 : Keeps ms mf ma s x4 := h3.groupSet
              clear_value x4
              exact h4.forL (fun _ _ h5 => h5.stopOnce)) (by
              extract_lets -underBinder +onlyGivenNames x6
              have h6 : Keeps ms mf ma s x6 := h3
              clear_value x6
              extract_lets -underBinder +onlyGivenNames x7
              have h7 : Keeps ms mf ma s x7 := h6.forN (fun _ _ h8 => by
                extract_lets -underBinder +onlyGivenNames x9
                clear_value x9
                extract_lets -underBinder +onlyGivenNames x10
                clear_value x10
                extract_lets -underBinder +onlyGivenNames x11
                have h11 : Keeps ms mf ma s x11 := ((Keeps.cond h8 h8.tagBanks).loadProgram).loadXforms
                clear_value x11
                exact Keeps.cond h11.swapTile h11.startTile)
              clear_value x7
              extract_lets -underBinder +onlyGivenNames x12
              clear_value x12
              exact h7.groupSet.lendAll)) h
        · exact h)

theorem Keeps.updDone {s e : State} {a1} (h : Keeps ms mf ma s e) : Keeps ms mf ma s (State.updDone e a1) := by
  delta State.updDone
  exact Keeps.cond h.setF.wrapInc h

theorem Keeps.execJobComplete {s e : State} {a0} (h : Keeps ms mf false s e) : KeepsOut ms mf false s (execJobComplete a0 e) := by
  delta execJobComplete
  exact KeepsOut.next (by
    split
    · exact h
    · extract_lets -underBinder +onlyGivenNames x0
      clear_value x0
      exact Keeps.cond (by
        extract_lets -underBinder +onlyGivenNames x1
        clear_value x1
        exact h.finish.updDone.settle.lendAll) h)

theorem Keeps.execJobDeadline {s e : State} {a0} (h : Keeps ms mf false s e) : KeepsOut ms mf false s (execJobDeadline a0 e) := by
  delta execJobDeadline
  exact KeepsOut.next (by
    split
    · exact h
    · exact Keeps.cond (Keeps.cond h.finish.settle (by
        extract_lets -underBinder +onlyGivenNames x0
        have h0 : Keeps ms mf false s x0 := h.jobsSet
        clear_value x0
        exact Keeps.cond h0 (h0.forL (fun _ _ h1 => h1.stopOnce)))) h)

theorem Keeps.execBatchClose {s e : State} {a0} (h : Keeps ms mf false s e) : KeepsOut ms mf false s (execBatchClose a0 e) := by
  delta execBatchClose
  exact KeepsOut.next (by
    split
    · exact h
    · extract_lets -underBinder +onlyGivenNames x0
      clear_value x0
      exact Keeps.cond (by
        extract_lets -underBinder +onlyGivenNames x1
        clear_value x1
        extract_lets -underBinder +onlyGivenNames x2
        have h2 : Keeps ms mf false s x2 := h.dspSet.groupSet
        clear_value x2
        exact h2.settle.revokeFor.lendAll) h)

theorem Keeps.takeDesc {s e : State} {a1} {a2} {a3} {a4} (h : Keeps ms mf false s e) : Keeps ms mf false s (State.takeDesc e a1 a2 a3 a4) := by
  delta State.takeDesc
  extract_lets -underBinder +onlyGivenNames x0
  have h0 : Keeps ms mf false s x0.2 := h.fetch
  clear_value x0
  extract_lets -underBinder +onlyGivenNames x1
  clear_value x1
  extract_lets -underBinder +onlyGivenNames x2
  have h2 : Keeps ms mf false s x2 := h0.charge
  clear_value x2
  extract_lets -underBinder -merge +onlyGivenNames y3_0 x3
  clear_value x3
  split
  · exact h2.jobsSet
  · exact h2.jobsSet.finish

theorem Keeps.takeDescs {s e : State} {a0} {a2} {a3} {a4} {a5} (h : Keeps ms mf false s e) : Keeps ms mf false s (State.takeDescs a0 e a2 a3 a4 a5) := by
  induction a0 generalizing e a2 a3 a4 with
  | zero =>
    rw [State.takeDescs.eq_1]
    exact h
  | succ n ih =>
    rw [State.takeDescs.eq_2]
    exact Keeps.cond h (by
      apply ih
      exact h.takeDesc.dspSet.setF)

theorem Keeps.execDoorbell {s e : State} {a0} (h : Keeps ms mf false s e) : KeepsOut ms mf false s (execDoorbell a0 e) := by
  delta execDoorbell
  exact KeepsOut.next (by
    split
    · exact h
    · extract_lets -underBinder -merge +onlyGivenNames x0
      try clear_value x0
      extract_lets -underBinder -merge +onlyGivenNames x1
      try clear_value x1
      extract_lets -underBinder -merge +onlyGivenNames x2
      try clear_value x2
      extract_lets -underBinder -merge +onlyGivenNames x3
      try clear_value x3
      exact Keeps.cond ((h.takeAd.out ‹_›)) (by
        extract_lets -underBinder -merge +onlyGivenNames x4
        try clear_value x4
        extract_lets -underBinder -merge +onlyGivenNames x5
        have h5 : Keeps ms mf false s x5 := ((h.takeAd.out ‹_›)).dspSet
        try clear_value x5
        exact h5.takeDescs.settle.revokeFor.lendAll))

theorem Keeps.execTenCqhd {s e : State} {a0} {a1} {a2} (h : Keeps ms mf false s e) : KeepsOut ms mf false s (execTenCqhd a0 a1 a2 e) := by
  delta execTenCqhd
  exact KeepsOut.next (h.access (fun _ h0 => by
    extract_lets -underBinder +onlyGivenNames x1
    clear_value x1
    extract_lets -underBinder +onlyGivenNames x2
    have h2 : Keeps ms mf false s x2 := h0.setF.dspSet
    clear_value x2
    exact Keeps.cond h2.flushHeld h2))

theorem Keeps.dropJobs {s e : State} {a1} (h : Keeps ms mf ma s e) : Keeps ms mf ma s (State.dropJobs e a1) := by
  delta State.dropJobs
  exact h.jobsSet.dspSet

theorem Keeps.execTenCmd {s e : State} (h : Keeps ms mf false s e) : KeepsOut ms mf false s (execTenCmd e) := by
  delta execTenCmd
  exact KeepsOut.next (by
    split
    · exact h
    · extract_lets -underBinder +onlyGivenNames x0
      clear_value x0
      exact Keeps.cond ((h.takeAd.out ‹_›)) (by
        split
        · extract_lets -underBinder +onlyGivenNames x1
          have h1 : Keeps ms mf false s x1 := ((h.takeAd.out ‹_›)).forL (fun _ _ h2 => h2.cutJob)
          clear_value x1
          exact h1.setDspSt.tenAck.lendAll
        · extract_lets -underBinder +onlyGivenNames x3
          have h3 : Keeps ms mf false s x3 := Keeps.cond ((h.takeAd.out ‹_›)) ((((h.takeAd.out ‹_›)).setDspSt).fillBucket)
          clear_value x3
          exact h3.tenAck.settle.revokeFor.lendAll
        · extract_lets -underBinder +onlyGivenNames x4
          have h4 : Keeps ms mf false s x4 := ((h.takeAd.out ‹_›)).forL (fun _ _ h5 => h5.stopOnce)
          clear_value x4
          extract_lets -underBinder +onlyGivenNames x6
          have h6 : Keeps ms mf false s x6 := h4.dspSet
          clear_value x6
          exact h6.setDspSt.tenAck.arm
        · exact (((h.takeAd.out ‹_›)).dspSet).lendAll
        · extract_lets -underBinder +onlyGivenNames x7
          have h7 : Keeps ms mf false s x7 := ((h.takeAd.out ‹_›)).dspSet
          clear_value x7
          exact h7.forL (fun _ _ h8 => h8.revoke)
        · exact (((h.takeAd.out ‹_›)).setDspSt).tenAck
        · exact ((((h.takeAd.out ‹_›)).dropJobs).setDspSt).tenAck
        · exact (h.takeAd.out ‹_›)))

theorem Keeps.scrubRegion {s e : State} {a1} (h : Keeps ms mf false s e) : Keeps ms mf false s (State.scrubRegion e a1) := by
  delta State.scrubRegion
  exact Keeps.cond h (h.dram (Sparse.wf_clear _ _)).charge

theorem Keeps.untagBanks {s e : State} {a1} (h : Keeps ms mf ma s e) : Keeps ms mf ma s (State.untagBanks e a1) := by
  delta State.untagBanks
  exact h.forN (fun _ _ h0 => h0.forN (fun _ _ h1 => Keeps.cond (by
    extract_lets -underBinder +onlyGivenNames x2
    have h2 : Keeps ms mf ma s x2 := h1.fillBank
    clear_value x2
    exact h2.setF.setF) h1))

theorem Keeps.resetRings {s e : State} {a1} (h : Keeps ms mf ma s e) : Keeps ms mf ma s (State.resetRings e a1) := by
  delta State.resetRings
  extract_lets -underBinder +onlyGivenNames x0
  clear_value x0
  extract_lets -underBinder +onlyGivenNames x1
  have h1 : Keeps ms mf ma s x1 := h.dspSet
  clear_value x1
  exact h1.forN (fun _ _ h2 => h2.setF.setF)

theorem Keeps.abortJobs {s e : State} {a1} (h : Keeps ms mf false s e) : Keeps ms mf false s (State.abortJobs e a1) := by
  delta State.abortJobs
  exact h.forL (fun _ _ h0 => h0.finish.doIf (fun _ h1 => h1.updDone))

theorem Keeps.execScrubComplete {s e : State} {a0} (h : Keeps ms mf false s e) : KeepsOut ms mf false s (execScrubComplete a0 e) := by
  delta execScrubComplete
  exact KeepsOut.next (by
    extract_lets -underBinder +onlyGivenNames x0
    clear_value x0
    exact Keeps.cond (by
      extract_lets -underBinder +onlyGivenNames x1
      have h1 : Keeps ms mf false s x1 := h.abortJobs
      clear_value x1
      exact Keeps.cond h1 (by
        extract_lets -underBinder +onlyGivenNames x2
        have h2 : Keeps ms mf false s x2 := h1.disarm.dropJobs.resetRings.untagBanks
        clear_value x2
        extract_lets -underBinder +onlyGivenNames x3
        have h3 : Keeps ms mf false s x3 := h2.forL (fun _ _ h4 => h4.scrubRegion)
        clear_value x3
        exact h3.setTenant.command)) h)

theorem Keeps.execStopLimitExpiry {s e : State} {a0} (h : Keeps ms mf false s e) : KeepsOut ms mf false s (execStopLimitExpiry a0 e) := by
  delta execStopLimitExpiry
  exact KeepsOut.next (by
    extract_lets -underBinder -merge +onlyGivenNames x0
    try clear_value x0
    exact Keeps.cond (by
      split
      · extract_lets -underBinder -merge +onlyGivenNames x1
        try clear_value x1
        exact Keeps.cond h (by
          extract_lets -underBinder -merge +onlyGivenNames x2
          have h2 : Keeps ms mf false s x2 := Keeps.cond h.recordFault h
          try clear_value x2
          extract_lets -underBinder -merge +onlyGivenNames x3
          have h3 : Keeps ms mf false s x3 := h2.abortTile
          try clear_value x3
          extract_lets -underBinder -merge +onlyGivenNames x4
          have h4 : Keeps ms mf false s x4 := h3.adFault.dspSet
          try clear_value x4
          extract_lets -underBinder -merge +onlyGivenNames x5
          have h5 : Keeps ms mf false s x5 := Keeps.cond (h4.forL (fun _ _ h6 => by
            extract_lets -underBinder -merge +onlyGivenNames x7
            try clear_value x7
            exact h6.jobsSet.finish)) h3
          try clear_value x5
          exact h5.lendAll)
      · exact h.disarm) h)

theorem Keeps.abortsDone {s e : State} (h : Keeps ms mf ma s e) : Keeps ms mf ma s (State.abortsDone e) := by
  delta State.abortsDone
  extract_lets -underBinder +onlyGivenNames x0
  have h0 : Keeps ms mf ma s x0 := h.forN (fun _ _ h1 => h1.sendWithdrawals)
  clear_value x0
  extract_lets -underBinder +onlyGivenNames x2
  clear_value x2
  exact Keeps.cond h0 ((h0.forL (fun _ _ h3 => h3.endAbort)).doIf (fun _ h4 => h4.lendAll))

theorem Keeps.execSlotStopLead {s e : State} (h : Keeps ms mf false s e) : KeepsOut ms mf false s (execSlotStopLead e) := by
  delta execSlotStopLead
  exact KeepsOut.next (Keeps.cond (h.disarm.forN (fun _ _ h0 => Keeps.cond (by
    split
    · exact h0.revoke
    · exact h0.cutOn) h0)) h)

theorem Keeps.countCycles {s e : State} (h : Keeps ms mf ma s e) : Keeps ms mf ma s (State.countCycles e) := by
  delta State.countCycles
  exact h.forN (fun _ _ h0 => Keeps.cond (by
    extract_lets -underBinder +onlyGivenNames x1
    clear_value x1
    exact h0.tileSet.wrapAdd) h0)

theorem Keeps.setDividers {s e : State} {a1} (h : Keeps ms mf ma s e) : Keeps ms mf ma s (State.setDividers e a1) := by
  delta State.setDividers
  exact h.forN (fun _ _ h0 => by
    extract_lets -underBinder +onlyGivenNames x1
    clear_value x1
    exact Keeps.cond h0 (by
      extract_lets -underBinder +onlyGivenNames x2
      clear_value x2
      exact h0.setFs))

theorem Keeps.clockPlan {s e : State} (h : Keeps ms mf ma s e) : Keeps ms mf ma s (State.clockPlan e) := by
  delta State.clockPlan
  split
  · exact Keeps.cond h (by
      extract_lets -underBinder +onlyGivenNames x0
      clear_value x0
      extract_lets -underBinder +onlyGivenNames x1
      have h1 : Keeps ms mf ma s x1 := h.dspSet.setDividers
      clear_value x1
      exact h1.setF.arm)
  · exact h

theorem Keeps.beginSlot {s e : State} {a1} (h : Keeps ms mf false s e) : Keeps ms mf false s (State.beginSlot e a1) := by
  delta State.beginSlot
  extract_lets -underBinder +onlyGivenNames x0
  have h0 : Keeps ms mf false s x0 := h.dspSet
  clear_value x0
  extract_lets -underBinder +onlyGivenNames x1
  have h1 : Keeps ms mf false s x1 := h0.clockPlan
  clear_value x1
  extract_lets -underBinder +onlyGivenNames x2
  have h2 : Keeps ms mf false s x2 := Keeps.cond h1.arm h1
  clear_value x2
  exact (h2.forN (fun _ _ h3 => h3.revokeFor)).lendAll

theorem Keeps.execSlotBoundary {s e : State} (h : Keeps ms mf false s e) : KeepsOut ms mf false s (execSlotBoundary e) := by
  delta execSlotBoundary
  exact KeepsOut.next (Keeps.cond (by
    extract_lets -underBinder +onlyGivenNames x0
    have h0 : Keeps ms mf false s x0 := h.rearm
    clear_value x0
    exact h0.beginSlot) h)

theorem Keeps.pmuSet {s e : State} {a1} (h : Keeps ms mf ma s e) : Keeps ms mf ma s (State.pmuSet e a1) := by
  delta State.pmuSet
  exact h.upd

theorem Keeps.writeVout {s e : State} {a1} (h : Keeps ms mf ma s e) : Keeps ms mf ma s (State.writeVout e a1) := by
  delta State.writeVout
  exact h.pmuSet.setF.arm

theorem Keeps.sendItem {s e : State} {a1} (h : Keeps ms mf ma s e) : Keeps ms mf ma s (State.sendItem e a1) := by
  delta State.sendItem
  exact h.sendAd.arm

theorem Keeps.firstItem {s e : State} {a1} (h : Keeps ms mf ma s e) : Keeps ms mf ma s (State.firstItem e a1) := by
  delta State.firstItem
  extract_lets -underBinder +onlyGivenNames x0
  clear_value x0
  extract_lets -underBinder +onlyGivenNames x1
  clear_value x1
  exact h.pmuSet.setF.sendItem

theorem Keeps.startChange {s e : State} (h : Keeps ms mf ma s e) : Keeps ms mf ma s (State.startChange e) := by
  delta State.startChange
  extract_lets -underBinder +onlyGivenNames x0
  clear_value x0
  extract_lets -underBinder +onlyGivenNames x1
  clear_value x1
  extract_lets -underBinder +onlyGivenNames x2
  clear_value x2
  extract_lets -underBinder +onlyGivenNames x3
  clear_value x3
  exact Keeps.cond h (by
    extract_lets -underBinder +onlyGivenNames x4
    have h4 : Keeps ms mf ma s x4 := h.setF
    clear_value x4
    extract_lets -underBinder +onlyGivenNames x5
    clear_value x5
    exact Keeps.cond h4.pmuSet.writeVout.arm h4.firstItem)

theorem Keeps.pointsChanged {s e : State} (h : Keeps ms mf ma s e) : Keeps ms mf ma s (State.pointsChanged e) := by
  delta State.pointsChanged
  exact Keeps.cond h.pmuSet h.startChange

theorem Keeps.endChange {s e : State} (h : Keeps ms mf ma s e) : Keeps ms mf ma s (State.endChange e) := by
  delta State.endChange
  extract_lets -underBinder +onlyGivenNames x0
  clear_value x0
  extract_lets -underBinder +onlyGivenNames x1
  have h1 : Keeps ms mf ma s x1 := h.pmuSet.setF.disarm.disarm.disarm
  clear_value x1
  exact Keeps.cond h1.startChange h1

theorem Keeps.changeDone {s e : State} {a1} (h : Keeps ms mf ma s e) : Keeps ms mf ma s (State.changeDone e a1) := by
  delta State.changeDone
  exact h.raiseInt.endChange

theorem Keeps.itemDone {s e : State} {a1} (h : Keeps ms mf ma s e) : Keeps ms mf ma s (State.itemDone e a1) := by
  delta State.itemDone
  extract_lets -underBinder +onlyGivenNames x0
  have h0 : Keeps ms mf ma s x0 := h.disarm
  clear_value x0
  extract_lets -underBinder +onlyGivenNames x1
  have h1 : Keeps ms mf ma s x1 := h0.forN (fun _ _ h2 => Keeps.cond h2 h2.setF)
  clear_value x1
  extract_lets -underBinder +onlyGivenNames x3
  have h3 : Keeps ms mf ma s x3 := h1.setF.pmuSet
  clear_value x3
  exact Keeps.cond h3.pmuSet.writeVout h3.changeDone

theorem Keeps.itemFails {s e : State} (h : Keeps ms mf false s e) : Keeps ms mf false s (State.itemFails e) := by
  delta State.itemFails
  exact h.raiseInt.ladder.endChange

theorem Keeps.execClockPlanAckTimeout {s e : State} (h : Keeps ms mf false s e) : KeepsOut ms mf false s (execClockPlanAckTimeout e) := by
  delta execClockPlanAckTimeout
  exact KeepsOut.next (by
    split
    · exact Keeps.cond (Keeps.cond h.itemFails h.pmuSet.sendItem) h
    · exact h)

theorem Keeps.avsFail {s e : State} (h : Keeps ms mf ma s e) : Keeps ms mf ma s (State.avsFail e) := by
  delta State.avsFail
  exact h.satInc.raiseInt

theorem Keeps.changePoll {s e : State} {a1} {a2} (h : Keeps ms mf ma s e) : Keeps ms mf ma s (State.changePoll e a1 a2) := by
  delta State.changePoll
  split
  · exact h.avsFail.raiseInt.endChange
  · exact Keeps.cond h.rearm (by
      extract_lets -underBinder +onlyGivenNames x0
      have h0 : Keeps ms mf ma s x0 := h.disarm.disarm
      clear_value x0
      exact Keeps.cond h0.firstItem h0.changeDone)

theorem Keeps.changeLate {s e : State} {a1} (h : Keeps ms mf ma s e) : Keeps ms mf ma s (State.changeLate e a1) := by
  delta State.changeLate
  exact h.writeVout.raiseInt.endChange

theorem Keeps.execTpointRequest {s e : State} {a0} (h : Keeps ms mf ma s e) : KeepsOut ms mf ma s (execTpointRequest a0 e) := by
  delta execTpointRequest
  exact KeepsOut.next (h.access (fun _ h0 => (h0.forN (fun _ _ h1 => h1.setF)).pointsChanged))

theorem Keeps.execTcapWrite {s e : State} {a0} (h : Keeps ms mf ma s e) : KeepsOut ms mf ma s (execTcapWrite a0 e) := by
  delta execTcapWrite
  exact KeepsOut.next (h.access (fun _ h0 => Keeps.cond h0.flag h0.setF.pointsChanged))

theorem Keeps.queueLost {s e : State} (h : Keeps ms mf ma s e) : Keeps ms mf ma s (State.queueLost e) := by
  delta State.queueLost
  exact h.forN (fun _ _ h0 => by
    extract_lets -underBinder +onlyGivenNames x1
    clear_value x1
    exact Keeps.cond h0.evQueue.setF h0)

theorem Keeps.beginNew {s e : State} {a1} (h : Keeps ms mf ma s e) : Keeps ms mf ma s (State.beginNew e a1) := by
  delta State.beginNew
  extract_lets -underBinder +onlyGivenNames x0
  have h0 : Keeps ms mf ma s x0 := h.evlSet
  clear_value x0
  split
  · exact h0.satInc.flag
  · exact h0.evlSet

theorem Keeps.beginBack {s e : State} {a1} (h : Keeps ms mf ma s e) : Keeps ms mf ma s (State.beginBack e a1) := by
  delta State.beginBack
  split
  · exact h.evlSet
  · exact h

theorem Keeps.dropBacks {s e : State} (h : Keeps ms mf ma s e) : Keeps ms mf ma s (State.dropBacks e) := by
  delta State.dropBacks
  exact h.evlSet

theorem Keeps.beginRecord {s e : State} (h : Keeps ms mf ma s e) : Keeps ms mf ma s (State.beginRecord e) := by
  delta State.beginRecord
  exact Keeps.cond h (by
    extract_lets -underBinder +onlyGivenNames x0
    have h0 : Keeps ms mf ma s x0 := h.dropBacks
    clear_value x0
    split
    · exact h0.beginNew
    · split
      · exact h0.beginBack
      · split
        · exact h0.beginNew
        · exact h0)

theorem Keeps.putRecord {s e : State} {a1} (h : Keeps ms mf ma s e) : Keeps ms mf ma s (State.putRecord e a1) := by
  delta State.putRecord
  extract_lets -underBinder +onlyGivenNames x0
  clear_value x0
  extract_lets -underBinder +onlyGivenNames x1
  clear_value x1
  extract_lets -underBinder +onlyGivenNames x2
  clear_value x2
  extract_lets -underBinder +onlyGivenNames x3
  have h3 : Keeps ms mf ma s x3 := h.evlSet
  clear_value x3
  extract_lets -underBinder +onlyGivenNames x4
  have h4 : Keeps ms mf ma s x4 := h3.setF.setF
  clear_value x4
  extract_lets -underBinder +onlyGivenNames x5
  have h5 : Keeps ms mf ma s x5 := h4.doIf (fun _ h6 => h6.flag)
  clear_value x5
  split
  · exact h5
  · exact h5.satInc.raiseInt

theorem Keeps.putBack {s e : State} {a1} (h : Keeps ms mf ma s e) : Keeps ms mf ma s (State.putBack e a1) := by
  delta State.putBack
  split
  · exact h.evlSet
  · exact h

theorem Keeps.recordDone {s e : State} (h : Keeps ms mf ma s e) : Keeps ms mf ma s (State.recordDone e) := by
  delta State.recordDone
  split
  · exact h
  · extract_lets -underBinder +onlyGivenNames x0
    have h0 : Keeps ms mf ma s x0 := h.evlSet
    clear_value x0
    exact Keeps.cond h0.putBack h0.putRecord

theorem Keeps.recordTick {s e : State} (h : Keeps ms mf ma s e) : Keeps ms mf ma s (State.recordTick e) := by
  delta State.recordTick
  exact Keeps.cond h.recordDone h

theorem Keeps.execEventRaise {s e : State} {a0} {a1} {a2} {a3} {a4} {a5} (h : Keeps ms mf ma s e) : KeepsOut ms mf ma s (execEventRaise a0 a1 a2 a3 a4 a5 e) := by
  delta execEventRaise
  exact KeepsOut.next h.present

theorem Keeps.execCoalesceClose {s e : State} (h : Keeps ms mf ma s e) : KeepsOut ms mf ma s (execCoalesceClose e) := by
  delta execCoalesceClose
  exact KeepsOut.next h.closeDue

theorem Keeps.execLogRecordWrite {s e : State} (h : Keeps ms mf ma s e) : KeepsOut ms mf ma s (execLogRecordWrite e) := by
  delta execLogRecordWrite
  exact KeepsOut.next (Keeps.cond h.beginRecord.queueLost h)

theorem Keeps.releaseSlot {s e : State} {a1} (h : Keeps ms mf ma s e) : Keeps ms mf ma s (State.releaseSlot e a1) := by
  delta State.releaseSlot
  extract_lets -underBinder +onlyGivenNames x0
  clear_value x0
  exact h.evlSet

theorem Keeps.execLogRelease {s e : State} {a0} (h : Keeps ms mf ma s e) : KeepsOut ms mf ma s (execLogRelease a0 e) := by
  delta execLogRelease
  exact KeepsOut.next (h.access (fun _ h0 => by
    extract_lets -underBinder +onlyGivenNames x1
    clear_value x1
    exact (h0.doIf (fun _ h2 => h2.forL (fun _ _ h3 => h3.releaseSlot))).setF))

theorem Keeps.logRamUe {s e : State} {a1} (h : Keeps ms mf ma s e) : Keeps ms mf ma s (State.logRamUe e a1) := by
  delta State.logRamUe
  exact h.evlSet.raiseInt

theorem Keeps.startPage {s e : State} (h : Keeps ms false ma s e) : Keeps ms false ma s (State.startPage e) := by
  delta State.startPage
  exact Keeps.cond h (by
    extract_lets -underBinder +onlyGivenNames x0
    clear_value x0
    extract_lets -underBinder +onlyGivenNames x1
    have h1 : Keeps ms false ma s x1 := h.doIf (fun _ h2 => h2.erase)
    clear_value x1
    exact h1.evlSet.setF)

theorem Keeps.execPageStart {s e : State} (h : Keeps ms false ma s e) : KeepsOut ms false ma s (execPageStart e) := by
  delta execPageStart
  exact KeepsOut.next (Keeps.cond h.startPage h)

theorem Keeps.execFlushTimeout {s e : State} (h : Keeps ms false ma s e) : KeepsOut ms false ma s (execFlushTimeout e) := by
  delta execFlushTimeout
  exact KeepsOut.next (Keeps.cond h.startPage h)

theorem Keeps.execPagePersisted {s e : State} {a0} (h : Keeps ms false ma s e) : KeepsOut ms false ma s (execPagePersisted a0 e) := by
  delta execPagePersisted
  exact KeepsOut.next (by
    split
    · exact h
    · extract_lets -underBinder +onlyGivenNames x0
      clear_value x0
      extract_lets -underBinder +onlyGivenNames x1
      clear_value x1
      extract_lets -underBinder +onlyGivenNames x2
      clear_value x2
      extract_lets -underBinder +onlyGivenNames x3
      have h3 : Keeps ms false ma s x3 := h.setF.setF
      clear_value x3
      extract_lets -underBinder +onlyGivenNames x4
      have h4 : Keeps ms false ma s x4 := h3.evlSet
      clear_value x4
      split
      · extract_lets -underBinder +onlyGivenNames x5
        have h5 : Keeps ms false ma s x5 := h4.program
        clear_value x5
        extract_lets -underBinder +onlyGivenNames x6
        have h6 : Keeps ms false ma s x6 := h5.evlSet
        clear_value x6
        exact h6.setF.wrapInc.flag
      · extract_lets -underBinder +onlyGivenNames x7
        have h7 : Keeps ms false ma s x7 := h4.flashLeave.satInc
        clear_value x7
        extract_lets -underBinder +onlyGivenNames x8
        have h8 : Keeps ms false ma s x8 := h7.raiseInt
        clear_value x8
        exact Keeps.cond h8.setF.raise h8)

theorem Keeps.execFlush {s e : State} (h : Keeps ms false ma s e) : KeepsOut ms false ma s (execFlush e) := by
  delta execFlush
  exact KeepsOut.next (h.access (fun _ h0 => by
    extract_lets -underBinder +onlyGivenNames x1
    clear_value x1
    exact h0.evlSet.startPage))

theorem Keeps.execPrestart {s e : State} (h : Keeps ms mf ma s e) : KeepsOut ms mf ma s (execPrestart e) := by
  delta execPrestart
  exact KeepsOut.next (h.access (fun _ h0 => h0.setF.setF))

theorem Keeps.execFirmwareEvent {s e : State} {a0} {a1} (h : Keeps ms mf ma s e) : KeepsOut ms mf ma s (execFirmwareEvent a0 a1 e) := by
  delta execFirmwareEvent
  exact KeepsOut.next (h.access (fun _ h0 => Keeps.cond h0.flag h0.present))

theorem Keeps.execEvlQMax {s e : State} (h : Keeps ms mf ma s e) : KeepsOut ms mf ma s (execEvlQMax e) := by
  delta execEvlQMax
  exact KeepsOut.next (h.access (fun _ h0 => h0.answer.clearRc))

theorem Keeps.adEvent {s e : State} {a1} (h : Keeps ms mf ma s e) : Keeps ms mf ma s (State.adEvent e a1) := by
  delta State.adEvent
  extract_lets -underBinder +onlyGivenNames x0
  clear_value x0
  exact Keeps.cond h.satInc.raiseInt (by
    extract_lets -underBinder +onlyGivenNames x1
    clear_value x1
    extract_lets -underBinder +onlyGivenNames x2
    clear_value x2
    exact h.present)

theorem Keeps.tearPage {s e : State} (h : Keeps ms false ma s e) : Keeps ms false ma s (State.tearPage e) := by
  delta State.tearPage
  split
  · exact h
  · extract_lets -underBinder +onlyGivenNames x0
    have h0 : Keeps ms false ma s x0.2 := h.draw
    clear_value x0
    extract_lets -underBinder +onlyGivenNames x1
    clear_value x1
    extract_lets -underBinder +onlyGivenNames x2
    have h2 : Keeps ms false ma s x2 := h0.flashLeave
    clear_value x2
    exact h2.evlSet

theorem Keeps.evlRestart {s e : State} {a1} (h : Keeps ms false ma s e) : Keeps ms false ma s (State.evlRestart e a1) := by
  delta State.evlRestart
  extract_lets -underBinder +onlyGivenNames x0
  clear_value x0
  extract_lets -underBinder +onlyGivenNames x1
  clear_value x1
  extract_lets -underBinder +onlyGivenNames x2
  clear_value x2
  extract_lets -underBinder +onlyGivenNames x3
  clear_value x3
  extract_lets -underBinder +onlyGivenNames x4
  clear_value x4
  extract_lets -underBinder +onlyGivenNames x5
  clear_value x5
  extract_lets -underBinder +onlyGivenNames x6
  have h6 : Keeps ms false ma s x6 := by
    unfold x6
    split
    · exact h.setF
    · exact h.erase.setF
  clear_value x6
  extract_lets -underBinder +onlyGivenNames x7
  clear_value x7
  extract_lets -underBinder +onlyGivenNames x8
  clear_value x8
  extract_lets -underBinder +onlyGivenNames x9
  clear_value x9
  extract_lets -underBinder +onlyGivenNames x10
  clear_value x10
  extract_lets -underBinder +onlyGivenNames x11
  have h11 : Keeps ms false ma s x11 := h6.setF.setF
  clear_value x11
  exact h11.evlSet

theorem Keeps.evlTakeHeld {s e : State} (h : Keeps ms mf ma s e) : Keeps ms mf ma s (State.evlTakeHeld e) := by
  delta State.evlTakeHeld
  extract_lets -underBinder +onlyGivenNames x0
  clear_value x0
  extract_lets -underBinder +onlyGivenNames x1
  clear_value x1
  extract_lets -underBinder +onlyGivenNames x2
  have h2 : Keeps ms mf ma s x2 := h.evlSet
  clear_value x2
  extract_lets -underBinder +onlyGivenNames x3
  have h3 : Keeps ms mf ma s x3 := h2.forL (fun _ _ h4 => Keeps.cond h4.evQueue h4.satInc)
  clear_value x3
  exact (h3.forN (fun _ _ h5 => h5.satAdd)).queueLost

theorem Keeps.showScores {s e : State} {a1} {a2} {a3} (h : Keeps ms mf ma s e) : Keeps ms mf ma s (State.showScores e a1 a2 a3) := by
  delta State.showScores
  extract_lets -underBinder +onlyGivenNames x0
  clear_value x0
  extract_lets -underBinder +onlyGivenNames x1
  have h1 : Keeps ms mf ma s x1 := h.setF.setF
  clear_value x1
  exact h1.forN (fun _ _ h2 => h2.setF)

theorem Keeps.keepScores {s e : State} {a1} (h : Keeps ms mf ma s e) : Keeps ms mf ma s (State.keepScores e a1) := by
  delta State.keepScores
  exact h.asySet

theorem Keeps.dropCopy {s e : State} {a1} (h : Keeps ms mf ma s e) : Keeps ms mf ma s (State.dropCopy e a1) := by
  delta State.dropCopy
  exact h.upd

theorem Keeps.flintFault {s e : State} (h : Keeps ms mf ma s e) : Keeps ms mf ma s (State.flintFault e) := by
  delta State.flintFault
  exact h.setF.flag.clearAllZones

theorem Keeps.flintSram {s e : State} {a1} (h : Keeps ms mf ma s e) : Keeps ms mf ma s (State.flintSram e a1) := by
  delta State.flintSram
  split
  · exact h.satInc.raise
  · exact h.flintFault
  · exact h

theorem Keeps.execFlintScore {s e : State} {a0} {a1} {a2} (h : Keeps ms mf ma s e) : KeepsOut ms mf ma s (execFlintScore a0 a1 a2 e) := by
  delta execFlintScore
  exact KeepsOut.next (by
    extract_lets -underBinder +onlyGivenNames x0
    clear_value x0
    split
    · exact h
    · exact Keeps.cond h (by
        extract_lets -underBinder +onlyGivenNames x1
        have h1 : Keeps ms mf ma s x1 := h.dropCopy.wrapInc.flintSram
        clear_value x1
        exact Keeps.cond h1 (by
          extract_lets -underBinder +onlyGivenNames x2
          clear_value x2
          extract_lets -underBinder +onlyGivenNames x3
          have h3 : Keeps ms mf ma s x3 := h1.showScores.keepScores
          clear_value x3
          extract_lets -underBinder +onlyGivenNames x4
          clear_value x4
          exact h3.forN (fun _ _ h5 => Keeps.cond h5.presence h5))))

theorem Keeps.execFlintSelfTest {s e : State} {a0} (h : Keeps ms mf ma s e) : KeepsOut ms mf ma s (execFlintSelfTest a0 e) := by
  delta execFlintSelfTest
  exact KeepsOut.next (Keeps.cond (by
    extract_lets -underBinder +onlyGivenNames x0
    have h0 : Keeps ms mf ma s x0 := h.rearm
    clear_value x0
    exact Keeps.cond h0.setFs h0.setF.satInc.raiseInt.flintFault) h)

theorem Keeps.execFlintOverrun {s e : State} {a0} (h : Keeps ms mf ma s e) : KeepsOut ms mf ma s (execFlintOverrun a0 e) := by
  delta execFlintOverrun
  exact KeepsOut.next (by
    split
    · exact h
    · exact Keeps.cond h.dropCopy.satInc.raiseInt.flintFault h)

theorem Keeps.flintPowerUp {s e : State} (h : Keeps ms mf ma s e) : Keeps ms mf ma s (State.flintPowerUp e) := by
  delta State.flintPowerUp
  extract_lets -underBinder +onlyGivenNames x0
  have h0 : Keeps ms mf ma s x0 := h.clearRegs.disarm
  clear_value x0
  extract_lets -underBinder +onlyGivenNames x1
  clear_value x1
  extract_lets -underBinder -merge +onlyGivenNames y2_0 x2
  have h2 : Keeps ms mf ma s x2 := h0.upd
  clear_value x2
  exact Keeps.cond h2.setF.arm h2.raise.flintFault

theorem Keeps.stopTimers {s e : State} {a1} (h : Keeps ms mf ma s e) : Keeps ms mf ma s (State.stopTimers e a1) := by
  delta State.stopTimers
  exact h.upd

theorem Keeps.clearKeep {s e : State} {a1} {a2} {a3} (h : Keeps ms mf ma s e) : Keeps ms mf ma s (State.clearKeep e a1 a2 a3) := by
  delta State.clearKeep
  exact h.clearRegs.setFs

theorem Keeps.clearCore {s e : State} (h : Keeps ms mf ma s e) : Keeps ms mf ma s (State.clearCore e) := by
  delta State.clearCore
  exact Keeps.foldl h.clearKeep (fun _ _ h0 => h0.clearRegs)

theorem Keeps.resetCore {s e : State} (h : Keeps ms false ma s e) : Keeps ms false ma s (State.resetCore e) := by
  delta State.resetCore
  extract_lets -underBinder +onlyGivenNames x0
  have h0 : Keeps ms false ma s x0 := h.tearPage
  clear_value x0
  extract_lets -underBinder -merge +onlyGivenNames y1_0 x1
  clear_value x1
  extract_lets -underBinder +onlyGivenNames x2
  have h2 : Keeps ms false ma s x2 := h0.clearCore.stopTimers
  clear_value x2
  exact h2.upd

theorem Keeps.resetDomain {s e : State} {a1} (h : Keeps ms false ma s e) : Keeps ms false ma s (State.resetDomain e a1) := by
  delta State.resetDomain
  split
  · exact h.resetCore
  · exact h.stopTimers.flintPowerUp
  · extract_lets -underBinder +onlyGivenNames x0
    clear_value x0
    extract_lets -underBinder +onlyGivenNames x1
    have h1 : Keeps ms false ma s x1 := h.clearKeep.stopTimers
    clear_value x1
    exact h1.upd
  · extract_lets -underBinder +onlyGivenNames x2
    clear_value x2
    extract_lets -underBinder +onlyGivenNames x3
    have h3 : Keeps ms false ma s x3 := h.clearRegs.stopTimers
    clear_value x3
    exact h3.upd
  · extract_lets -underBinder +onlyGivenNames x4
    have h4 : Keeps ms false ma s x4 := h.clearRegs.stopTimers
    clear_value x4
    exact h4.upd
  · extract_lets -underBinder +onlyGivenNames x5
    have h5 : Keeps ms false ma s x5 := h.clearRegs.stopTimers
    clear_value x5
    exact h5.upd
  · exact h

theorem Keeps.domOn {s e : State} {a1} (h : Keeps ms false ma s e) : Keeps ms false ma s (State.domOn e a1) := by
  delta State.domOn
  exact Keeps.cond h h.setBitF.resetDomain

theorem Keeps.domOff {s e : State} {a1} (h : Keeps ms false ma s e) : Keeps ms false ma s (State.domOff e a1) := by
  delta State.domOff
  exact Keeps.cond (by
    extract_lets -underBinder +onlyGivenNames x0
    have h0 : Keeps ms false ma s x0 := Keeps.cond h.upd (Keeps.cond h.abortForward.resetDomain h.resetDomain)
    clear_value x0
    exact h0.stopTimers.setBitF) h

theorem Keeps.pinLevel {s e : State} {a1} {a2} (h : Keeps ms mf ma s e) : Keeps ms mf ma s (State.pinLevel e a1 a2) := by
  delta State.pinLevel
  exact Keeps.cond h (by
    extract_lets -underBinder +onlyGivenNames x0
    have h0 : Keeps ms mf ma s x0 := h.setBitF
    clear_value x0
    exact Keeps.cond h0.flagBits h0)

theorem Keeps.drivePins {s e : State} (h : Keeps ms mf ma s e) : Keeps ms mf ma s (State.drivePins e) := by
  delta State.drivePins
  exact h.forN (fun _ _ h0 => by
    split
    · exact h0.pinLevel
    · exact h0)

theorem Keeps.fromImg {s e : State} {a1} {a2} {a3} (h : Keeps ms mf ma s e) : Keeps ms mf ma s (State.fromImg e a1 a2 a3) := by
  delta State.fromImg
  exact h.setF

theorem Keeps.blkCore {s e : State} (h : Keeps ms mf ma s e) : Keeps ms mf ma s (State.blkCore e) := by
  delta State.blkCore
  extract_lets -underBinder +onlyGivenNames x0
  have h0 : Keeps ms mf ma s x0 := h.fromImg.fromImg
  clear_value x0
  extract_lets -underBinder +onlyGivenNames x1
  have h1 : Keeps ms mf ma s x1 := h0.forN (fun _ _ h2 => h2.fromImg)
  clear_value x1
  extract_lets -underBinder +onlyGivenNames x3
  have h3 : Keeps ms mf ma s x3 := h1.forN (fun _ _ h4 => h4.fromImg)
  clear_value x3
  exact (h3.forN (fun _ _ h5 => h5.fromImg.fromImg)).drivePins

theorem Keeps.blkPower {s e : State} (h : Keeps ms mf ma s e) : Keeps ms mf ma s (State.blkPower e) := by
  delta State.blkPower
  exact h.setF.pmuSet.fromImg

theorem Keeps.blkStreak {s e : State} (h : Keeps ms mf ma s e) : Keeps ms mf ma s (State.blkStreak e) := by
  delta State.blkStreak
  extract_lets -underBinder -merge +onlyGivenNames y0_0 x0
  have h0 : Keeps ms mf ma s x0 := h.upd
  clear_value x0
  extract_lets -underBinder +onlyGivenNames x1
  have h1 : Keeps ms mf ma s x1 := h0.fromImg.fromImg
  clear_value x1
  exact h1.forN (fun _ _ h2 => by
    extract_lets -underBinder +onlyGivenNames x3
    clear_value x3
    extract_lets -underBinder +onlyGivenNames x4
    have h4 : Keeps ms mf ma s x4 := h2.fromImg.setF
    clear_value x4
    exact h4.forN (fun _ _ h5 => h5.setF))

theorem Keeps.blkBelief {s e : State} (h : Keeps ms mf ma s e) : Keeps ms mf ma s (State.blkBelief e) := by
  delta State.blkBelief
  extract_lets -underBinder +onlyGivenNames x0
  have h0 : Keeps ms mf ma s x0 := h.fromImg
  clear_value x0
  extract_lets -underBinder +onlyGivenNames x1
  have h1 : Keeps ms mf ma s x1 := h0.forN (fun _ _ h2 => by
    extract_lets -underBinder +onlyGivenNames x3
    clear_value x3
    exact h2.fromImg.setF.setF)
  clear_value x1
  extract_lets -underBinder +onlyGivenNames x4
  have h4 : Keeps ms mf ma s x4 := h1.fromImg.fromImg
  clear_value x4
  extract_lets -underBinder +onlyGivenNames x5
  have h5 : Keeps ms mf ma s x5 := h4.fromImg.fromImg
  clear_value x5
  extract_lets -underBinder +onlyGivenNames x6
  have h6 : Keeps ms mf ma s x6 := h5.fromImg.fromImg
  clear_value x6
  exact h6.forN (fun _ _ h7 => by
    extract_lets -underBinder +onlyGivenNames x8
    clear_value x8
    exact h7.setF.setF)

theorem Keeps.blkLight {s e : State} (h : Keeps ms mf ma s e) : Keeps ms mf ma s (State.blkLight e) := by
  delta State.blkLight
  extract_lets -underBinder +onlyGivenNames x0
  have h0 : Keeps ms mf ma s x0 := h.fromImg.fromImg
  clear_value x0
  extract_lets -underBinder +onlyGivenNames x1
  have h1 : Keeps ms mf ma s x1 := h0.fromImg.fromImg
  clear_value x1
  extract_lets -underBinder +onlyGivenNames x2
  have h2 : Keeps ms mf ma s x2 := h1.fromImg.fromImg
  clear_value x2
  extract_lets -underBinder +onlyGivenNames x3
  have h3 : Keeps ms mf ma s x3 := h2.fromImg.fromImg
  clear_value x3
  extract_lets -underBinder +onlyGivenNames x4
  have h4 : Keeps ms mf ma s x4 := h3.fromImg.fromImg
  clear_value x4
  exact h4.forN (fun _ _ h5 => h5.fromImg.fromImg)

theorem Keeps.blkSafe {s e : State} (h : Keeps ms mf ma s e) : Keeps ms mf ma s (State.blkSafe e) := by
  delta State.blkSafe
  extract_lets -underBinder +onlyGivenNames x0
  have h0 : Keeps ms mf ma s x0 := h.fromImg.fromImg
  clear_value x0
  extract_lets -underBinder +onlyGivenNames x1
  have h1 : Keeps ms mf ma s x1 := h0.fromImg.fromImg
  clear_value x1
  extract_lets -underBinder +onlyGivenNames x2
  have h2 : Keeps ms mf ma s x2 := h1.fromImg.fromImg
  clear_value x2
  extract_lets -underBinder +onlyGivenNames x3
  have h3 : Keeps ms mf ma s x3 := h2.fromImg.fromImg
  clear_value x3
  extract_lets -underBinder +onlyGivenNames x4
  have h4 : Keeps ms mf ma s x4 := h3.fromImg.fromImg
  clear_value x4
  extract_lets -underBinder +onlyGivenNames x5
  have h5 : Keeps ms mf ma s x5 := h4.forN (fun _ _ h6 => h6.fromImg)
  clear_value x5
  exact h5.forN (fun _ _ h7 => h7.fromImg.fromImg)

theorem Keeps.blkNet {s e : State} (h : Keeps ms mf ma s e) : Keeps ms mf ma s (State.blkNet e) := by
  delta State.blkNet
  extract_lets -underBinder +onlyGivenNames x0
  have h0 : Keeps ms mf ma s x0 := h.forN (fun _ _ h1 => h1.fromImg)
  clear_value x0
  extract_lets -underBinder +onlyGivenNames x2
  have h2 : Keeps ms mf ma s x2 := h0.fromImg.fromImg
  clear_value x2
  extract_lets -underBinder +onlyGivenNames x3
  have h3 : Keeps ms mf ma s x3 := h2.fromImg.fromImg
  clear_value x3
  exact h3.forN (fun _ _ h4 => Keeps.cond (by
    extract_lets -underBinder +onlyGivenNames x5
    clear_value x5
    exact h4.setFs) h4)

theorem Keeps.blkCams {s e : State} (h : Keeps ms mf ma s e) : Keeps ms mf ma s (State.blkCams e) := by
  delta State.blkCams
  exact h.forN (fun _ _ h0 => by
    extract_lets -underBinder +onlyGivenNames x1
    clear_value x1
    exact h0.setF)

theorem Keeps.blkRest {s e : State} (h : Keeps ms mf ma s e) : Keeps ms mf ma s (State.blkRest e) := by
  delta State.blkRest
  extract_lets -underBinder +onlyGivenNames x0
  have h0 : Keeps ms mf ma s x0 := h.fromImg.fromImg
  clear_value x0
  extract_lets -underBinder +onlyGivenNames x1
  have h1 : Keeps ms mf ma s x1 := h0.fromImg.fromImg
  clear_value x1
  exact h1.fromImg

theorem Keeps.writeBlocks {s e : State} (h : Keeps ms mf ma s e) : Keeps ms mf ma s (State.writeBlocks e) := by
  delta State.writeBlocks
  extract_lets -underBinder +onlyGivenNames x0
  clear_value x0
  extract_lets -underBinder +onlyGivenNames x1
  have h1 : Keeps ms mf ma s x1 := h.blkCore.blkStreak.blkBelief.blkCams.blkLight.blkSafe.blkNet.blkRest
  clear_value x1
  exact h1.refreshZones.luxDarkRefresh.sioSources.tltRefresh

theorem Keeps.setRun {s e : State} {a1} (h : Keeps ms mf ma s e) : Keeps ms mf ma s (State.setRun e a1) := by
  delta State.setRun
  exact h.asySet

theorem Keeps.onNth {s e : State} {a1} {a2} {a3} (h : Keeps ms mf false s e) : Keeps ms mf false s (State.onNth e a1 a2 a3) := by
  delta State.onNth
  extract_lets -underBinder +onlyGivenNames x0
  clear_value x0
  exact Keeps.cond h.asySet.ladder h.asySet

theorem Keeps.seqGap {s e : State} {a1} {a2} (h : Keeps ms mf false s e) : Keeps ms mf false s (State.seqGap e a1 a2) := by
  delta State.seqGap
  extract_lets -underBinder +onlyGivenNames x0
  have h0 : Keeps ms mf false s x0 := h.raiseInt
  clear_value x0
  extract_lets -underBinder +onlyGivenNames x1
  have h1 : Keeps ms mf false s x1 := h0.clearTenantCams
  clear_value x1
  extract_lets -underBinder +onlyGivenNames x2
  clear_value x2
  extract_lets -underBinder +onlyGivenNames x3
  have h3 : Keeps ms mf false s x3 := h1.asySet
  clear_value x3
  exact Keeps.cond h3.ladder h3

theorem Keeps.ringPut {s e : State} {a1} {a2} {a3} {a4} (h : Keeps ms mf ma s e) : Keeps ms mf ma s (State.ringPut e a1 a2 a3 a4) := by
  delta State.ringPut
  extract_lets -underBinder +onlyGivenNames x0
  clear_value x0
  extract_lets -underBinder +onlyGivenNames x1
  clear_value x1
  extract_lets -underBinder +onlyGivenNames x2
  have h2 : Keeps ms mf ma s x2 := h.forN (fun _ _ h3 => h3.setF)
  clear_value x2
  extract_lets -underBinder +onlyGivenNames x4
  have h4 : Keeps ms mf ma s x4 := h2.setF
  clear_value x4
  exact Keeps.cond h4.wrapInc h4

theorem Keeps.lastRef {s e : State} {a1} {a2} {a3} {a4} (h : Keeps ms mf ma s e) : Keeps ms mf ma s (State.lastRef e a1 a2 a3 a4) := by
  delta State.lastRef
  exact h.setFs

theorem Keeps.giveVerdict {s e : State} {a1} {a2} {a3} {a4} {a5} {a6} {a7} (h : Keeps ms mf ma s e) : Keeps ms mf ma s (State.giveVerdict e a1 a2 a3 a4 a5 a6 a7) := by
  delta State.giveVerdict
  extract_lets -underBinder +onlyGivenNames x0
  have h0 : Keeps ms mf ma s x0 := h.wrapInc.ringPut
  clear_value x0
  exact Keeps.cond h0 h0.lastRef

theorem Keeps.badPair {s e : State} {a1} {a2} {a3} (h : Keeps ms mf ma s e) : Keeps ms mf ma s (State.badPair e a1 a2 a3) := by
  delta State.badPair
  exact h.satInc.setFs.raiseInt

theorem Keeps.takePairs {s e : State} {a0} {a1} {a2} (h : Keeps ms mf ma s e) : Keeps ms mf ma s (takePairs a0 a1 a2 e).2 := by
  induction a0 generalizing a1 a2 e with
  | nil =>
    rw [takePairs.eq_1]
    exact h
  | cons y l ih =>
    rw [takePairs.eq_2]
    split
    · apply ih
      exact h
    · exact Keeps.condR (by
        apply ih
        exact h) (Keeps.condR (by
        apply ih
        exact h.satInc) (Keeps.condR (by
        apply ih
        exact h.wrapInc) (by
        apply ih
        exact h.badPair)))

theorem Keeps.recPresence {s e : State} {a1} (h : Keeps ms mf ma s e) : Keeps ms mf ma s (State.recPresence e a1) := by
  delta State.recPresence
  exact Keeps.cond (h.forN (fun _ _ h0 => Keeps.cond h0.presence h0)) (Keeps.cond h.presence h)

theorem Keeps.setRunOf {s e : State} {a1} {a2} (h : Keeps ms mf ma s e) : Keeps ms mf ma s (State.setRunOf e a1 a2) := by
  delta State.setRunOf
  exact h.asySet

theorem Keeps.setGoodOf {s e : State} {a1} {a2} (h : Keeps ms mf ma s e) : Keeps ms mf ma s (State.setGoodOf e a1 a2) := by
  delta State.setGoodOf
  exact h.asySet

theorem Keeps.earn {s e : State} {a1} {a2} (h : Keeps ms mf ma s e) : Keeps ms mf ma s (State.earn e a1 a2) := by
  delta State.earn
  extract_lets -underBinder +onlyGivenNames x0
  clear_value x0
  extract_lets -underBinder +onlyGivenNames x1
  clear_value x1
  exact Keeps.cond h (Keeps.cond (by
    extract_lets -underBinder +onlyGivenNames x2
    clear_value x2
    extract_lets -underBinder +onlyGivenNames x3
    clear_value x3
    extract_lets -underBinder +onlyGivenNames x4
    clear_value x4
    exact h.setRunOf.setGoodOf) (Keeps.cond h h.setRunOf))

theorem Keeps.earnAll {s e : State} {a1} (h : Keeps ms mf ma s e) : Keeps ms mf ma s (State.earnAll e a1) := by
  delta State.earnAll
  extract_lets -underBinder +onlyGivenNames x0
  clear_value x0
  exact (h.forN (fun _ _ h1 => h1.earn)).refreshZones

theorem Keeps.recordRate {s e : State} (h : Keeps ms mf ma s e) : Keeps ms mf ma s (State.recordRate e).2 := by
  delta State.recordRate
  extract_lets -underBinder +onlyGivenNames x0
  clear_value x0
  exact Keeps.pairR h.silSet

theorem Keeps.intake {s e : State} {a1} (h : Keeps ms mf false s e) : Keeps ms mf false s (State.intake e a1) := by
  delta State.intake
  exact Keeps.cond h.satInc (Keeps.cond (by
    extract_lets -underBinder +onlyGivenNames x0
    have h0 : Keeps ms mf false s x0 := h.satInc.raiseInt
    clear_value x0
    exact Keeps.cond h0.setF.seqGap h0) (by
    extract_lets -underBinder +onlyGivenNames x1
    clear_value x1
    exact h.asySet))

theorem Keeps.judgeCrc {s e : State} {a1} (h : Keeps ms mf false s e) : Keeps ms mf false s (State.judgeCrc e a1) := by
  delta State.judgeCrc
  extract_lets -underBinder +onlyGivenNames x0
  clear_value x0
  extract_lets -underBinder +onlyGivenNames x1
  clear_value x1
  extract_lets -underBinder +onlyGivenNames x2
  have h2 : Keeps ms mf false s x2 := by
    unfold x2
    split
    · exact h.clearCamera
    · exact Keeps.cond h.clearTenantCams h
  clear_value x2
  extract_lets -underBinder +onlyGivenNames x3
  have h3 : Keeps ms mf false s x3 := h2.raiseInt
  clear_value x3
  extract_lets -underBinder +onlyGivenNames x4
  have h4 : Keeps ms mf false s x4 := h3.giveVerdict
  clear_value x4
  exact h4.trustVerdict

theorem Keeps.freeRun {s e : State} {a1} (h : Keeps ms mf ma s e) : Keeps ms mf ma s (State.freeRun e a1) := by
  delta State.freeRun
  split
  · exact h.setRun
  · exact h

theorem Keeps.judgeRest {s e : State} {a1} {a2} (h : Keeps ms mf false s e) : Keeps ms mf false s (State.judgeRest e a1 a2) := by
  delta State.judgeRest
  extract_lets -underBinder -merge +onlyGivenNames x0
  try clear_value x0
  extract_lets -underBinder -merge +onlyGivenNames x1
  try clear_value x1
  extract_lets -underBinder -merge +onlyGivenNames x2
  try clear_value x2
  extract_lets -underBinder -merge +onlyGivenNames x3
  try clear_value x3
  extract_lets -underBinder -merge +onlyGivenNames x4
  try clear_value x4
  extract_lets -underBinder -merge +onlyGivenNames x5
  try clear_value x5
  extract_lets -underBinder -merge +onlyGivenNames x6
  try clear_value x6
  extract_lets -underBinder -merge +onlyGivenNames x7
  try clear_value x7
  extract_lets -underBinder -merge +onlyGivenNames x8
  try clear_value x8
  extract_lets -underBinder -merge +onlyGivenNames x9
  try clear_value x9
  extract_lets -underBinder -merge +onlyGivenNames x10
  try clear_value x10
  extract_lets -underBinder -merge +onlyGivenNames x11
  have h11 : Keeps ms mf false s x11 := h.setF
  try clear_value x11
  extract_lets -underBinder -merge +onlyGivenNames x12
  have h12 : Keeps ms mf false s x12 := by
    have k : ∀ o : Option RunEntry, Keeps ms mf false s (match o with
        | some e => if x8 then let q := Machine.takePairs a2.pairs a2.first e x11; q.2.setRun (a2.note q.1) else x11
        | none => x11) := fun o => match o with
      | some _ => Keeps.cond h11.takePairs.setRun h11
      | none => h11
    exact k x2
  try clear_value x12
  extract_lets -underBinder -merge +onlyGivenNames x14
  try clear_value x14
  extract_lets -underBinder -merge +onlyGivenNames x15
  try clear_value x15
  extract_lets -underBinder -merge +onlyGivenNames x16
  try clear_value x16
  extract_lets -underBinder -merge +onlyGivenNames x17
  try clear_value x17
  extract_lets -underBinder -merge +onlyGivenNames x18
  try clear_value x18
  extract_lets -underBinder -merge +onlyGivenNames x19
  have h19 : Keeps ms mf false s x19 := Keeps.cond h12.freeRun h12
  try clear_value x19
  extract_lets -underBinder -merge +onlyGivenNames x20
  have h20 : Keeps ms mf false s x20 := h19.giveVerdict
  try clear_value x20
  extract_lets -underBinder -merge +onlyGivenNames x21
  have h21 : Keeps ms mf false s x21 := Keeps.cond (Keeps.cond h20.earnAll (Keeps.cond h20.clearCamera h20)) h20
  try clear_value x21
  extract_lets -underBinder -merge +onlyGivenNames x22
  have h22 : Keeps ms mf false s x22 := by
    unfold x22
    split
    · exact h21.raiseInt
    · exact Keeps.cond h21.flag h21
  try clear_value x22
  extract_lets -underBinder -merge +onlyGivenNames x23
  have h23 : Keeps ms mf false s x23 := Keeps.cond h22.raise h22
  try clear_value x23
  extract_lets -underBinder -merge +onlyGivenNames x24
  have h24 : Keeps ms mf false s x24 := h23.trustVerdict
  try clear_value x24
  extract_lets -underBinder -merge +onlyGivenNames x25
  have h25 : Keeps ms mf false s x25 := Keeps.cond h24.seqGap h24
  try clear_value x25
  extract_lets -underBinder -merge +onlyGivenNames x26
  have h26 : Keeps ms mf false s x26 := Keeps.cond h25.raise.onNth h25
  try clear_value x26
  exact Keeps.cond h26.raiseInt.onNth h26

theorem Keeps.judge {s e : State} {a1} (h : Keeps ms mf false s e) : Keeps ms mf false s (State.judge e a1) := by
  delta State.judge
  exact Keeps.cond h.judgeCrc (by
    extract_lets -underBinder -merge +onlyGivenNames x0
    try clear_value x0
    extract_lets -underBinder -merge +onlyGivenNames x1
    have h1 : Keeps ms mf false s x1 := h.recPresence
    try clear_value x1
    exact Keeps.cond (by
      extract_lets -underBinder -merge +onlyGivenNames x2
      have h2 : Keeps ms mf false s x2 := Keeps.cond h1.clearCamera h1
      try clear_value x2
      exact h2.lastRef.tenViol) h1.judgeRest)

theorem Keeps.headOn {s e : State} (h : Keeps ms mf ma s e) : Keeps ms mf ma s (State.headOn e) := by
  delta State.headOn
  extract_lets -underBinder +onlyGivenNames x0
  clear_value x0
  exact h.asySet

theorem Keeps.execAssayJudge {s e : State} {a0} (h : Keeps ms mf false s e) : KeepsOut ms mf false s (execAssayJudge a0 e) := by
  delta execAssayJudge
  exact KeepsOut.next (by
    split
    · exact h
    · exact Keeps.cond ((((h.doIf (fun _ h0 => h0.raise)).asySet).judge).headOn) h)

theorem Keeps.closeIntake {s e : State} (h : Keeps ms mf ma s e) : Keeps ms mf ma s (State.closeIntake e) := by
  delta State.closeIntake
  extract_lets -underBinder +onlyGivenNames x0
  have h0 : Keeps ms mf ma s x0 := h.clearAllZones
  clear_value x0
  extract_lets -underBinder +onlyGivenNames x1
  clear_value x1
  extract_lets -underBinder +onlyGivenNames x2
  have h2 : Keeps ms mf ma s x2 := h0.asySet
  clear_value x2
  extract_lets -underBinder +onlyGivenNames x3
  have h3 : Keeps ms mf ma s x3 := h2.forL (fun _ _ h4 => by
    extract_lets -underBinder +onlyGivenNames x5
    clear_value x5
    exact h4.giveVerdict)
  clear_value x3
  exact h3.setF

theorem Keeps.execZoneExpiry {s e : State} {a0} (h : Keeps ms mf ma s e) : KeepsOut ms mf ma s (execZoneExpiry a0 e) := by
  delta execZoneExpiry
  exact KeepsOut.next (Keeps.cond (by
    extract_lets -underBinder +onlyGivenNames x0
    clear_value x0
    exact h.setRunOf.setGoodOf.refreshZones) h)

theorem Keeps.execRunExpiry {s e : State} {a0} {a1} {a2} (h : Keeps ms mf ma s e) : KeepsOut ms mf ma s (execRunExpiry a0 a1 a2 e) := by
  delta execRunExpiry
  exact KeepsOut.next (by
    split
    · exact h
    · exact Keeps.cond h.asySet h)

end Sys2Proof.Machine
end

