-- ==== Sys2Proof/Laws/KeepsBlocks.lean ====
section
/-! SUPPORT. `Keeps` for resets, power, the dispatcher's frames and the image loader. -/

namespace Sys2Proof.Machine

variable {ms mf ma : Bool}

theorem Keeps.cpuSet {s e : State} {a1} (h : Keeps ms mf ma s e) : Keeps ms mf ma s (State.cpuSet e a1) := by
  delta State.cpuSet
  exact h.upd

theorem Keeps.coreReset {s e : State} (h : Keeps ms mf ma s e) : Keeps ms mf ma s (State.coreReset e) := by
  delta State.coreReset
  extract_lets -underBinder -merge +onlyGivenNames x0
  have h0 : Keeps ms mf ma s x0 := h.endSession.setF.clearPassword
  try clear_value x0
  extract_lets -underBinder -merge +onlyGivenNames x1
  have h1 : Keeps ms mf ma s x1 := h0.clearKeep.setF
  try clear_value x1
  extract_lets -underBinder -merge +onlyGivenNames x2
  have h2 : Keeps ms mf ma s x2 := Keeps.foldl h1 (fun _ _ h3 => h3.disarm)
  try clear_value x2
  extract_lets -underBinder -merge +onlyGivenNames x4
  try clear_value x4
  extract_lets -underBinder -merge +onlyGivenNames x5
  have h5 : Keeps ms mf ma s x5 := h2.upd
  try clear_value x5
  extract_lets -underBinder -merge +onlyGivenNames x6
  have h6 : Keeps ms mf ma s x6 := h5.cpuSet
  try clear_value x6
  extract_lets -underBinder -merge +onlyGivenNames x7
  have h7 : Keeps ms mf ma s x7 := h6.setF
  try clear_value x7
  exact (Keeps.cond h7 h7.endTrip).endTrip

theorem Keeps.coreResetBy {s e : State} {a1} (h : Keeps ms mf ma s e) : Keeps ms mf ma s (State.coreResetBy e a1) := by
  delta State.coreResetBy
  exact Keeps.cond h h.flag.coreReset

theorem Keeps.evlStart {s e : State} {a1} (h : Keeps ms false ma s e) : Keeps ms false ma s (State.evlStart e a1) := by
  delta State.evlStart
  extract_lets -underBinder -merge +onlyGivenNames x0
  have h0 : Keeps ms false ma s x0 := Keeps.cond h h.evlSet
  try clear_value x0
  exact h0.evlRestart.evlTakeHeld

theorem Keeps.adOff {s e : State} {a1} (h : Keeps ms mf false s e) : Keeps ms mf false s (State.adOff e a1) := by
  delta State.adOff
  exact h.adBefore.adLose.adDomainsOff.setBitF.setF

theorem Keeps.adEnablesOff {s e : State} (h : Keeps ms mf ma s e) : Keeps ms mf ma s (State.adEnablesOff e) := by
  delta State.adEnablesOff
  exact h.forL (fun _ _ h0 => h0.setBitF.disarm.disarm)

theorem Keeps.sysReset {s e : State} (h : Keeps ms false false s e) : Keeps ms false false s (State.sysReset e) := by
  delta State.sysReset
  extract_lets -underBinder -merge +onlyGivenNames x0
  have h0 : Keeps ms false false s x0 := Keeps.cond h.adReset.adOff h
  try clear_value x0
  extract_lets -underBinder -merge +onlyGivenNames x1
  have h1 : Keeps ms false false s x1 := h0.adEnablesOff
  try clear_value x1
  extract_lets -underBinder -merge +onlyGivenNames x2
  have h2 : Keeps ms false false s x2 := h1.forL (fun _ _ h3 => h3.domOff)
  try clear_value x2
  extract_lets -underBinder -merge +onlyGivenNames x4
  have h4 : Keeps ms false false s x4 := h2.coreReset
  try clear_value x4
  extract_lets -underBinder -merge +onlyGivenNames x5
  have h5 : Keeps ms false false s x5 := h4.resetCore
  try clear_value x5
  extract_lets -underBinder -merge +onlyGivenNames x6
  have h6 : Keeps ms false false s x6 := Keeps.cond h5.evlStart h5
  try clear_value x6
  extract_lets -underBinder -merge +onlyGivenNames x7
  have h7 : Keeps ms false false s x7 := Keeps.foldl h6 (fun _ _ h8 => h8.disarm)
  try clear_value x7
  extract_lets -underBinder -merge +onlyGivenNames x9
  have h9 : Keeps ms false false s x9 := h7.pmuSet
  try clear_value x9
  extract_lets -underBinder -merge +onlyGivenNames x10
  have h10 : Keeps ms false false s x10 := h9.setFs
  try clear_value x10
  exact Keeps.cond h10.arm h10

theorem Keeps.sysResetBy {s e : State} {a1} (h : Keeps ms false false s e) : Keeps ms false false s (State.sysResetBy e a1) := by
  delta State.sysResetBy
  exact Keeps.cond h h.flag.sysReset

theorem Keeps.execSysReset {s e : State} {a0} {a1} (h : Keeps ms false false s e) : KeepsOut ms false false s (execSysReset a0 a1 e) := by
  delta execSysReset
  exact KeepsOut.next (Keeps.cond (h.access (fun _ h0 => Keeps.cond h0.sysResetBy h0)) (Keeps.cond h.disarm.sysResetBy h))

theorem Keeps.execCoreReset {s e : State} {a0} {a1} (h : Keeps ms mf ma s e) : KeepsOut ms mf ma s (execCoreReset a0 a1 e) := by
  delta execCoreReset
  exact KeepsOut.next (Keeps.cond (h.access (fun _ h0 => Keeps.cond h0.coreResetBy h0)) (Keeps.cond h.disarm.coreResetBy h))

theorem Keeps.execNdmreset {s e : State} (h : Keeps ms mf ma s e) : KeepsOut ms mf ma s (execNdmreset e) := by
  delta execNdmreset
  exact KeepsOut.next (Keeps.cond h.coreResetBy h)

theorem Keeps.execAdReset {s e : State} {a0} (h : Keeps ms mf false s e) : KeepsOut ms mf false s (execAdReset a0 e) := by
  delta execAdReset
  exact KeepsOut.next (h.access (fun _ h0 => Keeps.cond h0 (Keeps.cond h0.adReset.setF (Keeps.cond h0.giveUp (by
    extract_lets -underBinder -merge +onlyGivenNames x1
    have h1 : Keeps ms mf false s x1 := h0.asySet
    try clear_value x1
    exact h1.adReset.setF.raise)))))

theorem Keeps.execPor {s e : State} (h : Keeps false false false s e) : KeepsOut false false false s (execPor e) := by
  delta execPor
  extract_lets -underBinder -merge +onlyGivenNames x0
  have h0 : Keeps false false false s x0 := h.tearPage
  clear_value x0
  refine KeepsOut.next (h0.trans ⟨rfl, rfl, rfl, rfl, fun w => ?_, nofun, nofun, nofun⟩)
  rw [State.memWf_iff] at w ⊢
  exact ⟨rfl, w.2.1, w.2.2.1, w.2.2.2.1, rfl, rfl⟩

theorem Keeps.execSupplyOutOfRange {s e : State} (h : Keeps ms mf ma s e) : KeepsOut ms mf ma s (execSupplyOutOfRange e) := by
  delta execSupplyOutOfRange
  exact KeepsOut.next (Keeps.cond h h.assertTrip)

theorem Keeps.execSupplyRecovery {s e : State} (h : Keeps ms false false s e) : KeepsOut ms false false s (execSupplyRecovery e) := by
  delta execSupplyRecovery
  exact KeepsOut.next (Keeps.cond h.endTrip.sysResetBy h)

theorem Keeps.execClockFault {s e : State} (h : Keeps ms mf ma s e) : KeepsOut ms mf ma s (execClockFault e) := by
  delta execClockFault
  exact KeepsOut.next (Keeps.cond h.raise.assertTrip.arm h)

theorem Keeps.execXtal32Fail {s e : State} (h : Keeps ms mf ma s e) : KeepsOut ms mf ma s (execXtal32Fail e) := by
  delta execXtal32Fail
  exact KeepsOut.next (Keeps.cond h.setFs.raiseInt h)

theorem Keeps.execXtal32Running {s e : State} (h : Keeps ms mf ma s e) : KeepsOut ms mf ma s (execXtal32Running e) := by
  delta execXtal32Running
  exact KeepsOut.next (Keeps.cond h h.setFlags)

theorem Keeps.claimBuf {s e : State} {a1} {a2} (h : Keeps ms mf false s e) : Keeps ms mf false s (State.claimBuf e a1 a2).2 := by
  delta State.claimBuf
  extract_lets +onlyGivenNames x0 x1 x2
  have h2 : ∀ y0 y1, Keeps ms mf false s y1 → Keeps ms mf false s (x2 y0 y1).2 := by
    intro _ _ k
    simp only [x2]
    exact k.dspSet
  clear_value x2
  split
  · exact h2 _ _ h
  · exact h2 _ _ h
  · exact Keeps.condR (h2 _ _ h.finish) (Keeps.condR (h2 _ _ h.finish) h)

theorem Keeps.claimBufs {s e : State} {a0} {a2} (h : Keeps ms mf false s e) : Keeps ms mf false s (claimBufs a0 e a2).2 := by
  induction a0 generalizing e a2 with
  | nil =>
    rw [claimBufs.eq_1]
    exact h
  | cons y l ih =>
    rw [claimBufs.eq_2]
    apply ih
    exact h.claimBuf

theorem Keeps.execFrameOpen {s e : State} (h : Keeps ms mf false s e) : KeepsOut ms mf false s (execFrameOpen e) := by
  delta execFrameOpen
  exact KeepsOut.next (by
    split
    · exact h
    · extract_lets -underBinder -merge +onlyGivenNames x0
      try clear_value x0
      exact Keeps.cond ((h.takeAd.out ‹_›)) (by
        extract_lets -underBinder -merge +onlyGivenNames x1
        have h1 : Keeps ms mf false s x1 := ((h.takeAd.out ‹_›)).dspSet
        try clear_value x1
        extract_lets -underBinder -merge +onlyGivenNames x2
        have h2 : Keeps ms mf false s x2.2 := h1.claimBufs
        try clear_value x2
        exact h2.dspSet))

theorem Keeps.execFrameData {s e : State} (h : Keeps ms mf false s e) : KeepsOut ms mf false s (execFrameData e) := by
  delta execFrameData
  exact KeepsOut.next (by
    split
    · exact h
    · extract_lets -underBinder -merge +onlyGivenNames x0
      try clear_value x0
      extract_lets -underBinder -merge +onlyGivenNames x1
      try clear_value x1
      extract_lets -underBinder -merge +onlyGivenNames x2
      try clear_value x2
      split
      · exact (h.takeAd.out ‹_›)
      · exact Keeps.cond ((h.takeAd.out ‹_›)) (by
          extract_lets -underBinder -merge +onlyGivenNames x3
          try clear_value x3
          exact ((h.takeAd.out ‹_›)).dspSet))

theorem Keeps.writeFrame {s e : State} {a1} {a2} {a3} (h : Keeps ms mf false s e) : Keeps ms mf false s (State.writeFrame e a1 a2 a3) := by
  delta State.writeFrame
  exact h.forL (fun _ _ h0 => h0.charge.tenStore)

theorem Keeps.execFrameTrailer {s e : State} (h : Keeps ms mf false s e) : KeepsOut ms mf false s (execFrameTrailer e) := by
  delta execFrameTrailer
  exact KeepsOut.next (by
    split
    · exact h
    · extract_lets -underBinder -merge +onlyGivenNames x0
      try clear_value x0
      extract_lets -underBinder -merge +onlyGivenNames x1
      try clear_value x1
      extract_lets -underBinder -merge +onlyGivenNames x2
      try clear_value x2
      split
      · exact (h.takeAd.out ‹_›)
      · extract_lets -underBinder -merge +onlyGivenNames x3
        have h3 : Keeps ms mf false s x3 := ((h.takeAd.out ‹_›)).dspSet
        try clear_value x3
        exact Keeps.cond h3 (by
          extract_lets -underBinder -merge +onlyGivenNames x4
          have h4 : Keeps ms mf false s x4 := h3.forL (fun _ _ h5 => by
            extract_lets -underBinder -merge +onlyGivenNames x6
            try clear_value x6
            extract_lets -underBinder -merge +onlyGivenNames x7
            try clear_value x7
            extract_lets -underBinder -merge +onlyGivenNames x8
            try clear_value x8
            extract_lets -underBinder -merge +onlyGivenNames x9
            have h9 : Keeps ms mf false s x9 := Keeps.cond h5 h5.writeFrame
            try clear_value x9
            extract_lets -underBinder -merge +onlyGivenNames x10
            have h10 : Keeps ms mf false s x10 := h9.jobsSet
            try clear_value x10
            exact Keeps.cond h10.finish h10)
          try clear_value x4
          exact (h4.forL (fun _ _ h11 => h11.settle.revokeFor)).lendAll))

theorem Keeps.execStreakSet {s e : State} (h : Keeps ms mf false s e) : KeepsOut ms mf false s (execStreakSet e) := by
  delta execStreakSet
  exact KeepsOut.next (by
    split
    · exact h
    · exact Keeps.cond ((h.takeAd.out ‹_›)) (by
        extract_lets -underBinder -merge +onlyGivenNames x0
        try clear_value x0
        extract_lets -underBinder -merge +onlyGivenNames x1
        try clear_value x1
        extract_lets -underBinder -merge +onlyGivenNames x2
        try clear_value x2
        exact ((h.takeAd.out ‹_›)).dspSet))

theorem Keeps.energyPlan {s e : State} {a1} (h : Keeps ms mf ma s e) : Keeps ms mf ma s (State.energyPlan e a1) := by
  delta State.energyPlan
  extract_lets -underBinder -merge +onlyGivenNames x0
  have h0 : Keeps ms mf ma s x0.2 := h.draw
  try clear_value x0
  extract_lets -underBinder -merge +onlyGivenNames x1
  have h1 : Keeps ms mf ma s x1.2 := h0.draw
  try clear_value x1
  extract_lets -underBinder -merge +onlyGivenNames x2
  have h2 : Keeps ms mf ma s x2 := h1
  try clear_value x2
  extract_lets -underBinder -merge +onlyGivenNames x3
  try clear_value x3
  extract_lets -underBinder -merge +onlyGivenNames x4
  try clear_value x4
  extract_lets -underBinder -merge +onlyGivenNames x5
  try clear_value x5
  exact h2.adSend

theorem Keeps.frameReport {s e : State} {a1} (h : Keeps ms mf ma s e) : Keeps ms mf ma s (State.frameReport e a1) := by
  delta State.frameReport
  extract_lets -underBinder -merge +onlyGivenNames x0
  have h0 : Keeps ms mf ma s x0.2 := h.draw
  try clear_value x0
  extract_lets -underBinder -merge +onlyGivenNames x1
  have h1 : Keeps ms mf ma s x1 := h0
  try clear_value x1
  exact h1.adSend.dspSet

theorem Keeps.execMajorTick {s e : State} (h : Keeps ms mf false s e) : KeepsOut ms mf false s (execMajorTick e) := by
  delta execMajorTick
  exact KeepsOut.next (by
    split
    · exact h
    · exact Keeps.cond ((h.takeAd.out ‹_›)) (by
        extract_lets -underBinder -merge +onlyGivenNames x0
        try clear_value x0
        extract_lets -underBinder -merge +onlyGivenNames x1
        have h1 : Keeps ms mf false s x1 := Keeps.cond ((h.takeAd.out ‹_›)) (((h.takeAd.out ‹_›)).frameReport)
        try clear_value x1
        exact h1.arm.beginSlot.energyPlan))

theorem Keeps.execApllSlewDone {s e : State} (h : Keeps ms mf ma s e) : KeepsOut ms mf ma s (execApllSlewDone e) := by
  delta execApllSlewDone
  exact KeepsOut.next (by
    split
    · exact Keeps.cond h.dspSet.disarm.setFs.configAck h
    · exact h)

theorem Keeps.execSlewTimeout {s e : State} (h : Keeps ms mf ma s e) : KeepsOut ms mf ma s (execSlewTimeout e) := by
  delta execSlewTimeout
  exact KeepsOut.next (by
    split
    · exact Keeps.cond (by
        extract_lets -underBinder -merge +onlyGivenNames x0
        have h0 : Keeps ms mf ma s x0 := h.dspSet.disarm.setDividers
        try clear_value x0
        exact h0.setFs.adRaise.configAck) h
    · exact h)

theorem Keeps.freshTile {s e : State} {a1} (h : Keeps ms mf ma s e) : Keeps ms mf ma s (State.freshTile e a1) := by
  delta State.freshTile
  exact h.adSet.clearRegs

theorem Keeps.execTilePowerUp {s e : State} {a0} (h : Keeps ms mf ma s e) : KeepsOut ms mf ma s (execTilePowerUp a0 e) := by
  delta execTilePowerUp
  exact KeepsOut.next (by
    extract_lets -underBinder -merge +onlyGivenNames x0
    try clear_value x0
    extract_lets -underBinder -merge +onlyGivenNames x1
    try clear_value x1
    exact Keeps.cond (by
      extract_lets -underBinder -merge +onlyGivenNames x2
      have h2 : Keeps ms mf ma s x2 := h.setBitF.pmuSet
      try clear_value x2
      exact h2.freshTile.pointsChanged) h)

theorem Keeps.execMemoryTrained {s e : State} {a0} {a1} {a2} (h : Keeps ms mf ma s e) : KeepsOut ms mf ma s (execMemoryTrained a0 a1 a2 e) := by
  delta execMemoryTrained
  exact KeepsOut.next (Keeps.cond (by
    extract_lets -underBinder -merge +onlyGivenNames x0
    try clear_value x0
    exact Keeps.cond (by
      extract_lets -underBinder -merge +onlyGivenNames x1
      have h1 : Keeps ms mf ma s x1 := h.setFs
      try clear_value x1
      exact Keeps.cond h1.setF.adRaise (Keeps.cond h1.setFs.arm.arm h)) (Keeps.cond h.setF h)) h)

theorem Keeps.execMr4Poll {s e : State} {a0} {a1} {a2} (h : Keeps ms mf ma s e) : KeepsOut ms mf ma s (execMr4Poll a0 a1 a2 e) := by
  delta execMr4Poll
  exact KeepsOut.next (Keeps.cond (by
    extract_lets -underBinder -merge +onlyGivenNames x0
    have h0 : Keeps ms mf ma s x0 := h.rearm.setFs
    try clear_value x0
    extract_lets -underBinder -merge +onlyGivenNames x1
    have h1 : Keeps ms mf ma s x1 := h0.dspSet
    try clear_value x1
    exact Keeps.cond h1.adRaise h1) h)

theorem Keeps.execDramRefresh {s e : State} {a0} (h : Keeps ms mf ma s e) : KeepsOut ms mf ma s (execDramRefresh a0 e) := by
  delta execDramRefresh
  exact KeepsOut.next (Keeps.cond h.dspSet h)

theorem Keeps.execWckOscMeasure {s e : State} {a0} (h : Keeps ms mf ma s e) : KeepsOut ms mf ma s (execWckOscMeasure a0 e) := by
  delta execWckOscMeasure
  exact KeepsOut.next (Keeps.cond (by
    extract_lets -underBinder -merge +onlyGivenNames x0
    have h0 : Keeps ms mf ma s x0 := h.rearm
    try clear_value x0
    exact Keeps.cond h0.adRaise h0) h)

theorem Keeps.setTrans {s e : State} {a1} (h : Keeps ms mf ma s e) : Keeps ms mf ma s (State.setTrans e a1) := by
  delta State.setTrans
  exact h.pmuSet.setF

theorem Keeps.endTrans {s e : State} (h : Keeps ms mf ma s e) : Keeps ms mf ma s (State.endTrans e) := by
  delta State.endTrans
  exact h.pmuSet.setF

theorem Keeps.reach {s e : State} {a1} (h : Keeps ms mf ma s e) : Keeps ms mf ma s (State.reach e a1) := by
  delta State.reach
  exact (h.setF.raiseInt.doIf (fun _ h0 => h0.stepFail)).endTrans

theorem Keeps.lowerNext {s e : State} {a1} {a2} (h : Keeps ms mf ma s e) : Keeps ms mf ma s (State.lowerNext e a1 a2) := by
  induction a2 generalizing e a1 with
  | nil =>
    rw [State.lowerNext.eq_1]
    exact h.setTrans
  | cons y l ih =>
    rw [State.lowerNext.eq_2]
    exact Keeps.cond h.setBitF.disarm.setTrans.arm (by
      apply ih
      exact h.setBitF.disarm)

theorem Keeps.showPlls {s e : State} (h : Keeps ms mf ma s e) : Keeps ms mf ma s (State.showPlls e) := by
  delta State.showPlls
  exact h.setFs

theorem Keeps.beginStart {s e : State} (h : Keeps ms mf ma s e) : Keeps ms mf ma s (State.beginStart e) := by
  delta State.beginStart
  extract_lets -underBinder -merge +onlyGivenNames x0
  have h0 : Keeps ms mf ma s x0 := h.pmuSet.setF
  try clear_value x0
  exact Keeps.cond h0 h0.setTrans.setBitF.arm

theorem Keeps.beginWake {s e : State} {a1} (h : Keeps ms mf ma s e) : Keeps ms mf ma s (State.beginWake e a1) := by
  delta State.beginWake
  extract_lets -underBinder -merge +onlyGivenNames x0
  have h0 : Keeps ms mf ma s x0 := h.setFlags.pmuSet
  try clear_value x0
  exact h0.raise.beginStart

theorem Keeps.lowered {s e : State} {a1} (h : Keeps ms mf ma s e) : Keeps ms mf ma s (State.lowered e a1) := by
  delta State.lowered
  extract_lets -underBinder -merge +onlyGivenNames x0
  have h0 : Keeps ms mf ma s x0 := h.endTrans
  try clear_value x0
  split
  · exact Keeps.cond h0.pmuSet.arm h0
  · exact h0.reach
  · extract_lets -underBinder -merge +onlyGivenNames x1
    have h1 : Keeps ms mf ma s x1 := h0.setFs.pmuSet
    try clear_value x1
    extract_lets -underBinder -merge +onlyGivenNames x2
    have h2 : Keeps ms mf ma s x2 := h1.reach
    try clear_value x2
    extract_lets -underBinder -merge +onlyGivenNames x3
    try clear_value x3
    exact Keeps.cond h2 h2.beginWake
  · exact h0.pmuSet.beginStart
  · exact h0

theorem Keeps.beginLower {s e : State} {a1} {a2} {a3} (h : Keeps ms mf ma s e) : Keeps ms mf ma s (State.beginLower e a1 a2 a3) := by
  delta State.beginLower
  extract_lets -underBinder -merge +onlyGivenNames x0
  try clear_value x0
  extract_lets -underBinder -merge +onlyGivenNames x1
  have h1 : Keeps ms mf ma s x1 := h.lowerNext
  try clear_value x1
  split
  · exact Keeps.cond h1.lowered h1
  · exact h1

theorem Keeps.failStart {s e : State} (h : Keeps ms false ma s e) : Keeps ms false ma s (State.failStart e) := by
  delta State.failStart
  extract_lets -underBinder -merge +onlyGivenNames x0
  have h0 : Keeps ms false ma s x0 := h.coreReset
  try clear_value x0
  extract_lets -underBinder -merge +onlyGivenNames x1
  have h1 : Keeps ms false ma s x1 := h0.forL (fun _ _ h2 => h2.domOff)
  try clear_value x1
  exact (h1.disarm.forN (fun _ _ h3 => h3.disarm)).beginLower

theorem Keeps.failTrans {s e : State} {a1} (h : Keeps ms false ma s e) : Keeps ms false ma s (State.failTrans e a1) := by
  delta State.failTrans
  exact Keeps.cond h.failStart (by
    extract_lets -underBinder -merge +onlyGivenNames x0
    have h0 : Keeps ms false ma s x0 := Keeps.cond h.disarm.disarm h
    try clear_value x0
    exact h0.beginLower)

theorem Keeps.raised {s e : State} {a1} (h : Keeps ms false ma s e) : Keeps ms false ma s (State.raised e a1) := by
  delta State.raised
  split
  · exact h.endTrans
  · exact (((h.forL (fun _ _ h0 => h0.domOn)).showPlls).writeBlocks).reach
  · exact h.setTrans.arm.arm
  · exact h.domOn.domOn.showPlls.blkCams.blkNet.endTrans
  · exact h.endTrans

theorem Keeps.raiseNext {s e : State} {a1} (h : Keeps ms false ma s e) : Keeps ms false ma s (State.raiseNext e a1) := by
  delta State.raiseNext
  split
  · exact h.raised
  · exact Keeps.cond h.failTrans h.setTrans.setBitF.arm

theorem Keeps.beginRaise {s e : State} {a1} {a2} (h : Keeps ms false ma s e) : Keeps ms false ma s (State.beginRaise e a1 a2) := by
  delta State.beginRaise
  extract_lets -underBinder -merge +onlyGivenNames x0
  try clear_value x0
  exact h.setTrans.raiseNext

theorem Keeps.execPgRise {s e : State} {a0} (h : Keeps ms false ma s e) : KeepsOut ms false ma s (execPgRise a0 e) := by
  delta execPgRise
  exact KeepsOut.next (by
    extract_lets -underBinder -merge +onlyGivenNames x0
    try clear_value x0
    exact Keeps.cond h (by
      extract_lets -underBinder -merge +onlyGivenNames x1
      have h1 : Keeps ms false ma s x1 := h.setBitF
      try clear_value x1
      split
      · exact Keeps.cond (by
          extract_lets -underBinder -merge +onlyGivenNames x2
          have h2 : Keeps ms false ma s x2 := h1.disarm
          try clear_value x2
          extract_lets -underBinder -merge +onlyGivenNames x3
          have h3 : Keeps ms false ma s x3 := Keeps.cond h2.domOn.evlStart.arm h2
          try clear_value x3
          extract_lets -underBinder -merge +onlyGivenNames x4
          try clear_value x4
          exact h3.setTrans.raiseNext) h1
      · exact h1))

theorem Keeps.execPgTimeout {s e : State} {a0} (h : Keeps ms false ma s e) : KeepsOut ms false ma s (execPgTimeout a0 e) := by
  delta execPgTimeout
  exact KeepsOut.next (by
    split
    · exact Keeps.cond (by
        extract_lets -underBinder -merge +onlyGivenNames x0
        have h0 : Keeps ms false ma s x0 := h.disarm.setBitF
        try clear_value x0
        exact h0.raiseInt.failTrans) h
    · exact h)

theorem Keeps.execPgFall {s e : State} {a0} {a1} (h : Keeps ms mf ma s e) : KeepsOut ms mf ma s (execPgFall a0 a1 e) := by
  delta execPgFall
  exact KeepsOut.next (by
    extract_lets -underBinder -merge +onlyGivenNames x0
    try clear_value x0
    split
    · exact Keeps.cond (by
        extract_lets -underBinder -merge +onlyGivenNames x1
        have h1 : Keeps ms mf ma s x1 := h.disarm
        try clear_value x1
        extract_lets -underBinder -merge +onlyGivenNames x2
        have h2 : Keeps ms mf ma s x2 := Keeps.cond h1 h1.setBitF
        try clear_value x2
        extract_lets -underBinder -merge +onlyGivenNames x3
        have h3 : Keeps ms mf ma s x3 := h2.lowerNext
        try clear_value x3
        split
        · exact Keeps.cond h3.lowered h3
        · exact h3) (Keeps.cond h (Keeps.cond h h.setBitF))
    · exact Keeps.cond h h.setBitF)

theorem Keeps.execStartRetry {s e : State} (h : Keeps ms mf ma s e) : KeepsOut ms mf ma s (execStartRetry e) := by
  delta execStartRetry
  exact KeepsOut.next (Keeps.cond h.disarm.beginStart h)

theorem Keeps.execXo25StartTimeout {s e : State} (h : Keeps ms false ma s e) : KeepsOut ms false ma s (execXo25StartTimeout e) := by
  delta execXo25StartTimeout
  exact KeepsOut.next (Keeps.cond h.raise.failStart h)

theorem Keeps.execPorRelease {s e : State} (h : Keeps ms mf ma s e) : KeepsOut ms mf ma s (execPorRelease e) := by
  delta execPorRelease
  exact KeepsOut.next (Keeps.cond h.pmuSet.beginStart h)

theorem Keeps.execCpllLock {s e : State} (h : Keeps ms mf ma s e) : KeepsOut ms mf ma s (execCpllLock e) := by
  delta execCpllLock
  exact KeepsOut.next (Keeps.cond h.disarm.setFs.endTrip h)

theorem Keeps.loseAd {s e : State} (h : Keeps ms false false s e) : Keeps ms false false s (State.loseAd e) := by
  delta State.loseAd
  extract_lets -underBinder -merge +onlyGivenNames x0
  have h0 : Keeps ms false false s x0 := h.closeIntake.adReset.adOff
  try clear_value x0
  extract_lets -underBinder -merge +onlyGivenNames x1
  have h1 : Keeps ms false false s x1 := h0.domOff.showPlls
  try clear_value x1
  extract_lets -underBinder -merge +onlyGivenNames x2
  have h2 : Keeps ms false false s x2 := Keeps.foldl h1 (fun _ _ h3 => h3.disarm)
  try clear_value x2
  exact h2.pmuSet.beginLower

theorem Keeps.noteLoss {s e : State} {a1} (h : Keeps ms mf ma s e) : Keeps ms mf ma s (State.noteLoss e a1) := by
  delta State.noteLoss
  extract_lets -underBinder -merge +onlyGivenNames x0
  try clear_value x0
  extract_lets -underBinder -merge +onlyGivenNames x1
  have h1 : Keeps ms mf ma s x1 := h.pmuSet
  try clear_value x1
  exact Keeps.cond h1.pmuSet.setBitF h1

theorem Keeps.dropAd {s e : State} {a1} (h : Keeps ms false false s e) : Keeps ms false false s (State.dropAd e a1) := by
  delta State.dropAd
  exact Keeps.cond h.loseAd (by
    split
    · exact Keeps.cond h.failTrans h
    · exact Keeps.cond h.pmuSet.setBitF h)

theorem Keeps.answerLoss {s e : State} {a1} (h : Keeps ms false false s e) : Keeps ms false false s (State.answerLoss e a1) := by
  delta State.answerLoss
  split
  · extract_lets -underBinder -merge +onlyGivenNames x0
    have h0 : Keeps ms false false s x0 := h.sysResetBy
    try clear_value x0
    extract_lets -underBinder -merge +onlyGivenNames x1
    have h1 : Keeps ms false false s x1 := h0.domOff.disarm
    try clear_value x1
    exact h1.beginLower
  · extract_lets -underBinder -merge +onlyGivenNames x2
    have h2 : Keeps ms false false s x2 := h.sysResetBy
    try clear_value x2
    extract_lets -underBinder -merge +onlyGivenNames x3
    have h3 : Keeps ms false false s x3 := h2.domOff.disarm
    try clear_value x3
    exact h3.beginLower
  · extract_lets -underBinder -merge +onlyGivenNames x4
    have h4 : Keeps ms false false s x4 := h.dropAd
    try clear_value x4
    extract_lets -underBinder -merge +onlyGivenNames x5
    have h5 : Keeps ms false false s x5 := h4.forL (fun _ _ h6 => h6.domOff)
    try clear_value x5
    extract_lets -underBinder -merge +onlyGivenNames x7
    have h7 : Keeps ms false false s x7 := h5.showPlls.setBitF
    try clear_value x7
    exact Keeps.cond h7 h7.arm
  · exact Keeps.cond h.setBitF h
  · exact h.dropAd

theorem Keeps.execPgLost {s e : State} {a0} (h : Keeps ms false false s e) : KeepsOut ms false false s (execPgLost a0 e) := by
  delta execPgLost
  exact KeepsOut.next (by
    extract_lets -underBinder -merge +onlyGivenNames x0
    try clear_value x0
    exact Keeps.cond h (by
      extract_lets -underBinder -merge +onlyGivenNames x1
      have h1 : Keeps ms false false s x1 := h.setBitF
      try clear_value x1
      split
      · exact Keeps.cond h1 (Keeps.cond h1.disarm.setBitF.raiseInt.failTrans h1.noteLoss.raiseInt.answerLoss)
      · exact h1.noteLoss.raiseInt.answerLoss))

theorem Keeps.execPgReraise {s e : State} (h : Keeps ms false ma s e) : KeepsOut ms false ma s (execPgReraise e) := by
  delta execPgReraise
  exact KeepsOut.next (Keeps.cond h.disarm.beginRaise h)

theorem Keeps.cmdRefuse {s e : State} {a1} (h : Keeps ms mf ma s e) : Keeps ms mf ma s (State.cmdRefuse e a1) := by
  delta State.cmdRefuse
  exact h.raiseInt

theorem Keeps.pmuCmd {s e : State} {a1} {a2} {a3} (h : Keeps ms mf ma s e) (f3 : ∀ y0, Keeps ms mf ma s y0 → Keeps ms mf ma s (a3 y0)) : Keeps ms mf ma s (State.pmuCmd e a1 a2 a3) := by
  delta State.pmuCmd
  exact Keeps.cond (Keeps.cond (f3 _ h.setF) h) (h.access (fun _ h0 =>
    Keeps.cond (h0.pmuSet.doIf (fun _ h1 => h1.arm)).setF (f3 _ (h0.pmuSet.doIf (fun _ h1 => h1.arm)).setF)))

theorem Keeps.enterWork {s e : State} {a1} (h : Keeps ms false ma s e) : Keeps ms false ma s (State.enterWork e a1) := by
  delta State.enterWork
  extract_lets -underBinder -merge +onlyGivenNames x0
  try clear_value x0
  extract_lets -underBinder -merge +onlyGivenNames x1
  have h1 : Keeps ms false ma s x1 := h.setF
  try clear_value x1
  extract_lets -underBinder -merge +onlyGivenNames x2
  have h2 : Keeps ms false ma s x2 := h1.pmuSet.setF
  try clear_value x2
  exact h2.beginRaise

theorem Keeps.execWork {s e : State} {a0} {a1} (h : Keeps ms false ma s e) : KeepsOut ms false ma s (execWork a0 a1 e) := by
  delta execWork
  exact KeepsOut.next (h.pmuCmd (fun _ h0 => Keeps.cond h0.cmdRefuse (Keeps.cond h0.cmdRefuse (by
    split
    · exact h0.avsFail.cmdRefuse
    · exact Keeps.cond h0.enterWork h0.setF.avsFail.cmdRefuse))))

theorem Keeps.workDomains {s e : State} {a1} (h : Keeps ms false false s e) : Keeps ms false false s (State.workDomains e a1) := by
  delta State.workDomains
  extract_lets -underBinder -merge +onlyGivenNames x0
  have h0 : Keeps ms false false s x0 := h.disarm.disarm
  try clear_value x0
  extract_lets -underBinder -merge +onlyGivenNames x1
  have h1 : Keeps ms false false s x1 := h0.setF
  try clear_value x1
  extract_lets -underBinder -merge +onlyGivenNames x2
  have h2 : Keeps ms false false s x2 := h1.adEntryReset
  try clear_value x2
  extract_lets -underBinder -merge +onlyGivenNames x3
  have h3 : Keeps ms false false s x3 := h2.domOn.showPlls.adDomainsOn.pmuSet
  try clear_value x3
  exact h3.setTrans

theorem Keeps.execVoutPoll {s e : State} {a0} (h : Keeps ms false false s e) : KeepsOut ms false false s (execVoutPoll a0 e) := by
  delta execVoutPoll
  exact KeepsOut.next (Keeps.cond h (by
    split
    · exact h.changePoll
    · split
      · exact h.avsFail.failTrans
      · exact Keeps.cond h.workDomains h.rearm
    · exact h.disarm))

theorem Keeps.execVoutTimeout {s e : State} (h : Keeps ms false ma s e) : KeepsOut ms false ma s (execVoutTimeout e) := by
  delta execVoutTimeout
  exact KeepsOut.next (Keeps.cond h (by
    split
    · exact h.changeLate
    · exact h.raiseInt.failTrans
    · exact h.disarm))

theorem Keeps.noteAdPower {s e : State} {a1} {a2} (h : Keeps ms mf ma s e) : Keeps ms mf ma s (State.noteAdPower e a1 a2) := by
  delta State.noteAdPower
  extract_lets -underBinder -merge +onlyGivenNames x0
  try clear_value x0
  extract_lets -underBinder -merge +onlyGivenNames x1
  try clear_value x1
  extract_lets -underBinder -merge +onlyGivenNames x2
  try clear_value x2
  exact h.upd

theorem Keeps.execAvsStatusPoll {s e : State} {a0} {a1} {a2} {a3} {a4} {a5} (h : Keeps ms false false s e) : KeepsOut ms false false s (execAvsStatusPoll a0 a1 a2 a3 a4 a5 e) := by
  delta execAvsStatusPoll
  exact KeepsOut.next (Keeps.cond h (by
    extract_lets -underBinder -merge +onlyGivenNames x0
    have h0 : Keeps ms false false s x0 := h.rearm
    try clear_value x0
    split
    · exact h0.avsFail
    · extract_lets -underBinder -merge +onlyGivenNames x1
      have h1 : Keeps ms false false s x1 := h0.setFs
      try clear_value x1
      extract_lets -underBinder -merge +onlyGivenNames x2
      have h2 : Keeps ms false false s x2 := h1.noteAdPower
      try clear_value x2
      exact Keeps.cond h2.raiseInt.answerLoss (Keeps.cond h2.raiseInt h2)))

theorem Keeps.leaveRest {s e : State} (h : Keeps ms false false s e) : Keeps ms false false s (State.leaveRest e) := by
  delta State.leaveRest
  extract_lets -underBinder -merge +onlyGivenNames x0
  have h0 : Keeps ms false false s x0 := h.closeIntake.abortForward
  try clear_value x0
  extract_lets -underBinder -merge +onlyGivenNames x1
  try clear_value x1
  extract_lets -underBinder -merge +onlyGivenNames x2
  have h2 : Keeps ms false false s x2 := h0.adOff.domOff.showPlls
  try clear_value x2
  extract_lets -underBinder -merge +onlyGivenNames x3
  have h3 : Keeps ms false false s x3 := Keeps.foldl h2 (fun _ _ h4 => h4.disarm)
  try clear_value x3
  extract_lets -underBinder -merge +onlyGivenNames x5
  have h5 : Keeps ms false false s x5 := h3.setF
  try clear_value x5
  exact h5.beginLower

theorem Keeps.leaveWork {s e : State} (h : Keeps ms false false s e) : Keeps ms false false s (State.leaveWork e) := by
  delta State.leaveWork
  extract_lets -underBinder -merge +onlyGivenNames x0
  have h0 : Keeps ms false false s x0 := h.suspendAll.pmuSet
  try clear_value x0
  exact Keeps.cond h0.leaveRest h0.setTrans

theorem Keeps.leaveGoOn {s e : State} (h : Keeps ms false false s e) : Keeps ms false false s (State.leaveGoOn e) := by
  delta State.leaveGoOn
  split
  · exact Keeps.cond h.leaveRest h
  · exact h

theorem Keeps.execTenAck {s e : State} {a0} {a1} {a2} (h : Keeps ms false false s e) : KeepsOut ms false false s (execTenAck a0 a1 a2 e) := by
  delta execTenAck
  exact KeepsOut.next h.takeTenAck.leaveGoOn

theorem Keeps.execStateAckTimeout {s e : State} {a0} (h : Keeps ms false false s e) : KeepsOut ms false false s (execStateAckTimeout a0 e) := by
  delta execStateAckTimeout
  exact KeepsOut.next h.stateAckTimeout.leaveGoOn

theorem Keeps.execWatch {s e : State} {a0} (h : Keeps ms false false s e) : KeepsOut ms false false s (execWatch a0 e) := by
  delta execWatch
  exact KeepsOut.next (h.pmuCmd (fun _ h0 => Keeps.cond h0.leaveWork (Keeps.cond h0 h0.cmdRefuse)))

theorem Keeps.drainPages {s e : State} {a0} (h : Keeps ms false ma s e) : Keeps ms false ma s (State.drainPages a0 e) := by
  induction a0 generalizing e with
  | zero =>
    rw [State.drainPages.eq_1]
    exact h
  | succ n ih =>
    rw [State.drainPages.eq_2]
    exact Keeps.cond h (by
      split
      · apply ih
        exact (h.startPage.execPagePersisted).out ‹_›
      · exact h)

theorem Keeps.drainQueue {s e : State} {a0} (h : Keeps ms mf ma s e) : Keeps ms mf ma s (State.drainQueue a0 e) := by
  induction a0 generalizing e with
  | zero =>
    rw [State.drainQueue.eq_1]
    exact h
  | succ n ih =>
    rw [State.drainQueue.eq_2]
    exact Keeps.cond h.recordDone (by
      apply ih
      exact h.recordDone.beginRecord.queueLost)

theorem Keeps.evlStandby {s e : State} {a1} (h : Keeps ms false ma s e) : Keeps ms false ma s (State.evlStandby e a1) := by
  delta State.evlStandby
  extract_lets -underBinder -merge +onlyGivenNames x0
  have h0 : Keeps ms false ma s x0 := h.forL (fun _ _ h1 => h1.closeCoal)
  try clear_value x0
  extract_lets -underBinder -merge +onlyGivenNames x2
  have h2 : Keeps ms false ma s x2 := h0.drainQueue.doIf (fun _ h3 => h3.drainPages)
  try clear_value x2
  extract_lets -underBinder -merge +onlyGivenNames x4
  try clear_value x4
  exact h2.evlSet

theorem Keeps.execStandby {s e : State} {a0} {a1} (h : Keeps ms false ma s e) : KeepsOut ms false ma s (execStandby a0 a1 e) := by
  delta execStandby
  exact KeepsOut.next (h.pmuCmd (fun _ h0 => Keeps.cond h0.cmdRefuse (by
    extract_lets -underBinder -merge +onlyGivenNames x1
    have h1 : Keeps ms false ma s x1 := h0.setFs
    try clear_value x1
    extract_lets -underBinder -merge +onlyGivenNames x2
    have h2 : Keeps ms false ma s x2 := h1.tltRefresh.evlStandby
    try clear_value x2
    extract_lets -underBinder -merge +onlyGivenNames x3
    have h3 : Keeps ms false ma s x3 := h2.coreReset
    try clear_value x3
    extract_lets -underBinder -merge +onlyGivenNames x4
    have h4 : Keeps ms false ma s x4 := (h3.forL (fun _ _ h5 => h5.domOff)).showPlls
    try clear_value x4
    exact h4.beginLower)))

theorem Keeps.wake {s e : State} {a1} (h : Keeps ms mf ma s e) : Keeps ms mf ma s (State.wake e a1) := by
  delta State.wake
  exact Keeps.cond h (Keeps.cond h.beginWake (by
    split
    · exact Keeps.cond h.pmuSet h
    · exact h))

theorem Keeps.execWakeAlarm {s e : State} (h : Keeps ms mf ma s e) : KeepsOut ms mf ma s (execWakeAlarm e) := by
  delta execWakeAlarm
  exact KeepsOut.next (Keeps.cond h.wake h)

theorem Keeps.execWakePin {s e : State} {a0} (h : Keeps ms mf ma s e) : KeepsOut ms mf ma s (execWakePin a0 e) := by
  delta execWakePin
  exact KeepsOut.next h.wake

theorem Keeps.updFollow {s e : State} (h : Keeps ms mf ma s e) : Keeps ms mf ma s (State.updFollow e) := by
  delta State.updFollow
  extract_lets -underBinder -merge +onlyGivenNames x0
  try clear_value x0
  extract_lets -underBinder -merge +onlyGivenNames x1
  have h1 : Keeps ms mf ma s x1 := Keeps.cond h.clearRegs h
  try clear_value x1
  exact h1.setBitF.setF

theorem Keeps.execUpdRequest {s e : State} {a0} (h : Keeps ms mf ma s e) : KeepsOut ms mf ma s (execUpdRequest a0 e) := by
  delta execUpdRequest
  exact KeepsOut.next (h.access (fun _ h0 => h0.setF.updFollow))

theorem Keeps.tileReset {s e : State} {a1} (h : Keeps ms mf false s e) : Keeps ms mf false s (State.tileReset e a1) := by
  delta State.tileReset
  exact Keeps.cond h.freshTile h.pmuSet.cutOn

theorem Keeps.tilesReset {s e : State} (h : Keeps ms mf ma s e) : Keeps ms mf ma s (State.tilesReset e) := by
  delta State.tilesReset
  extract_lets -underBinder -merge +onlyGivenNames x0
  try clear_value x0
  exact Keeps.cond h (h.pmuSet.forL (fun _ _ h1 => h1.freshTile))

theorem Keeps.execDomainReset {s e : State} {a0} (h : Keeps ms false false s e) : KeepsOut ms false false s (execDomainReset a0 e) := by
  delta execDomainReset
  exact KeepsOut.next (h.access (fun _ h0 => by
    extract_lets -underBinder -merge +onlyGivenNames x1
    try clear_value x1
    exact Keeps.cond h0.cmdRefuse (by
      extract_lets -underBinder -merge +onlyGivenNames x2
      have h2 : Keeps ms false false s x2 := h0.forL (fun _ _ h3 => Keeps.cond h3.domOff.domOn h3)
      try clear_value x2
      extract_lets -underBinder -merge +onlyGivenNames x4
      have h4 : Keeps ms false false s x4 := Keeps.cond h2.blkBelief h2
      try clear_value x4
      extract_lets -underBinder -merge +onlyGivenNames x5
      have h5 : Keeps ms false false s x5 := Keeps.cond h4.blkCams h4
      try clear_value x5
      extract_lets -underBinder -merge +onlyGivenNames x6
      have h6 : Keeps ms false false s x6 := Keeps.cond h5.blkNet h5
      try clear_value x6
      extract_lets -underBinder -merge +onlyGivenNames x7
      have h7 : Keeps ms false false s x7 := Keeps.cond h6.clearRegs h6
      try clear_value x7
      exact h7.forN (fun _ _ h8 => Keeps.cond h8.tileReset h8))))

theorem Keeps.execDozeIdleTimeout {s e : State} (h : Keeps ms mf ma s e) : KeepsOut ms mf ma s (execDozeIdleTimeout e) := by
  delta execDozeIdleTimeout
  exact KeepsOut.next (Keeps.cond h.startEntry h)

theorem Keeps.execPmEnter {s e : State} (h : Keeps ms mf false s e) : KeepsOut ms mf false s (execPmEnter e) := by
  delta execPmEnter
  exact KeepsOut.next (by
    split
    · exact Keeps.cond (by
        extract_lets -underBinder -merge +onlyGivenNames x0
        try clear_value x0
        extract_lets -underBinder -merge +onlyGivenNames x1
        try clear_value x1
        exact ((((h.takeAd.out ‹_›)).setLink).silSet).transmit) ((h.takeAd.out ‹_›))
    · exact h)

theorem Keeps.execPmAck {s e : State} {a0} (h : Keeps ms mf false s e) : KeepsOut ms mf false s (execPmAck a0 e) := by
  delta execPmAck
  exact KeepsOut.next (Keeps.cond (by
    split
    · exact h
    · exact Keeps.cond ((((h.takeCd.out ‹_›)).silSet).disarm) ((h.takeCd.out ‹_›))) h)

theorem Keeps.execPmAckTimeout {s e : State} (h : Keeps ms mf false s e) : KeepsOut ms mf false s (execPmAckTimeout e) := by
  delta execPmAckTimeout
  exact KeepsOut.next (Keeps.cond h.silSet.disarm.silViol h)

theorem Keeps.rest {s e : State} {a1} (h : Keeps ms mf ma s e) : Keeps ms mf ma s (State.rest e a1) := by
  delta State.rest
  extract_lets -underBinder -merge +onlyGivenNames x0
  have h0 : Keeps ms mf ma s x0 := h.setF.raise
  try clear_value x0
  exact Keeps.cond h0.setF h0

theorem Keeps.execElectricalIdle {s e : State} (h : Keeps ms mf ma s e) : KeepsOut ms mf ma s (execElectricalIdle e) := by
  delta execElectricalIdle
  exact KeepsOut.next (Keeps.cond (by
    extract_lets -underBinder -merge +onlyGivenNames x0
    try clear_value x0
    extract_lets -underBinder -merge +onlyGivenNames x1
    have h1 : Keeps ms mf ma s x1 := h.endGroup.endGroup.silSet
    try clear_value x1
    extract_lets -underBinder -merge +onlyGivenNames x2
    have h2 : Keeps ms mf ma s x2 := h1.rest
    try clear_value x2
    extract_lets -underBinder -merge +onlyGivenNames x3
    have h3 : Keeps ms mf ma s x3 := h2.doIf (fun _ h4 => h4.dspSet)
    try clear_value x3
    exact Keeps.cond h3.startResume (Keeps.cond h3 h3.startResume)) h)

theorem Keeps.execSleepReq {s e : State} (h : Keeps ms mf ma s e) : KeepsOut ms mf ma s (execSleepReq e) := by
  delta execSleepReq
  exact KeepsOut.next (h.access (fun _ h0 => Keeps.cond h0.startEntry (Keeps.cond h0.silSet (Keeps.cond h0.rest (Keeps.cond h0.silSet h0)))))

theorem Keeps.execSleepAfterTimeout {s e : State} (h : Keeps ms mf ma s e) : KeepsOut ms mf ma s (execSleepAfterTimeout e) := by
  delta execSleepAfterTimeout
  exact KeepsOut.next (by
    extract_lets -underBinder -merge +onlyGivenNames x0
    try clear_value x0
    exact Keeps.cond h.rest h)

theorem Keeps.execSilResume {s e : State} (h : Keeps ms mf ma s e) : KeepsOut ms mf ma s (execSilResume e) := by
  delta execSilResume
  exact KeepsOut.next (h.access (fun _ h0 => h0.startResume))

theorem Keeps.execSbWake {s e : State} {a0} (h : Keeps ms mf ma s e) : KeepsOut ms mf ma s (execSbWake a0 e) := by
  delta execSbWake
  exact KeepsOut.next (Keeps.cond h (Keeps.cond h.silSet.disarm (by
    extract_lets -underBinder -merge +onlyGivenNames x0
    have h0 : Keeps ms mf ma s x0 := h.doIf (fun _ h1 => h1.silSet)
    try clear_value x0
    exact Keeps.cond h0.arm h0)))

theorem Keeps.execResumeComplete {s e : State} (h : Keeps ms mf false s e) : KeepsOut ms mf false s (execResumeComplete e) := by
  delta execResumeComplete
  exact KeepsOut.next (by
    extract_lets -underBinder -merge +onlyGivenNames x0
    try clear_value x0
    extract_lets -underBinder -merge +onlyGivenNames x1
    try clear_value x1
    extract_lets -underBinder -merge +onlyGivenNames x2
    try clear_value x2
    exact Keeps.cond (by
      extract_lets -underBinder -merge +onlyGivenNames x3
      try clear_value x3
      extract_lets -underBinder -merge +onlyGivenNames x4
      try clear_value x4
      extract_lets -underBinder -merge +onlyGivenNames x5
      try clear_value x5
      extract_lets -underBinder -merge +onlyGivenNames x6
      have h6 : Keeps ms mf false s x6 := h.silSet.setLink
      try clear_value x6
      extract_lets -underBinder -merge +onlyGivenNames x7
      have h7 : Keeps ms mf false s x7 := h6.setF
      try clear_value x7
      extract_lets -underBinder -merge +onlyGivenNames x8
      have h8 : Keeps ms mf false s x8 := Keeps.cond h7.raise h7.raise
      try clear_value x8
      extract_lets -underBinder -merge +onlyGivenNames x9
      have h9 : Keeps ms mf false s x9 := h8.doIf (fun _ h10 => h10.arm)
      try clear_value x9
      exact Keeps.cond h9.startFast h9.sendAck.sendAck.transmit.transmit) h)

theorem Keeps.execResumeAck {s e : State} {a0} (h : Keeps ms mf false s e) : KeepsOut ms mf false s (execResumeAck a0 e) := by
  delta execResumeAck
  exact KeepsOut.next (by
    split
    · exact h
    · extract_lets -underBinder -merge +onlyGivenNames x0
      have h0 : Keeps ms mf false s x0 := ((h.takeAd.out ‹_›)).silSet
      try clear_value x0
      extract_lets -underBinder -merge +onlyGivenNames x1
      have h1 : Keeps ms mf false s x1 := h0.dspSet.transmit
      try clear_value x1
      exact (Keeps.cond h1.disarm h1).wantedSleep)

theorem Keeps.execSbWakeHeld {s e : State} (h : Keeps ms mf false s e) : KeepsOut ms mf false s (execSbWakeHeld e) := by
  delta execSbWakeHeld
  exact KeepsOut.next (Keeps.cond h.disarm.silSet.silViol h)

theorem Keeps.execDebugEnable {s e : State} {a0} (h : Keeps ms mf false s e) : KeepsOut ms mf false s (execDebugEnable a0 e) := by
  delta execDebugEnable
  exact KeepsOut.next (h.keyed (fun _ h0 => Keeps.cond (Keeps.cond h0 h0.setF.raise.setTrust.setF.asySet.disarm) (Keeps.cond (by
    extract_lets -underBinder -merge +onlyGivenNames x1
    have h1 : Keeps ms mf false s x1 := h0.setF
    try clear_value x1
    exact Keeps.cond h1.adReset.setF h1.setF) h0)))

theorem Keeps.execNakMsg {s e : State} (h : Keeps ms mf false s e) : KeepsOut ms mf false s (execNakMsg e) := by
  delta execNakMsg
  exact KeepsOut.next (by
    split
    · exact (h.takeAd.out ‹_›)
    · exact h)

theorem Keeps.sendCase {s e : State} {a1} {a2} {a3} (h : Keeps ms mf ma s e) : Keeps ms mf ma s (State.sendCase e a1 a2 a3) := by
  delta State.sendCase
  extract_lets -underBinder -merge +onlyGivenNames x0
  try clear_value x0
  extract_lets -underBinder -merge +onlyGivenNames x1
  try clear_value x1
  extract_lets -underBinder -merge +onlyGivenNames x2
  try clear_value x2
  extract_lets -underBinder -merge +onlyGivenNames x3
  try clear_value x3
  extract_lets -underBinder -merge +onlyGivenNames x4
  try clear_value x4
  extract_lets -underBinder -merge +onlyGivenNames x5
  try clear_value x5
  extract_lets -underBinder -merge +onlyGivenNames x6
  try clear_value x6
  extract_lets -underBinder -merge +onlyGivenNames x7
  have h7 : Keeps ms mf ma s x7 := h.sendAd
  try clear_value x7
  extract_lets -underBinder -merge +onlyGivenNames x8
  have h8 : Keeps ms mf ma s x8 := h7.sendAd.wrapInc
  try clear_value x8
  extract_lets -underBinder -merge +onlyGivenNames x9
  have h9 : Keeps ms mf ma s x9 := h8.forN (fun _ _ h10 => h10.sendAd)
  try clear_value x9
  extract_lets -underBinder -merge +onlyGivenNames x11
  have h11 : Keeps ms mf ma s x11 := h9.sendAd
  try clear_value x11
  exact h11.arm

theorem Keeps.beginRun {s e : State} {a1} {a2} {a3} (h : Keeps ms mf ma s e) : Keeps ms mf ma s (State.beginRun e a1 a2 a3) := by
  delta State.beginRun
  split
  · exact h.asySet.disarm
  · extract_lets -underBinder -merge +onlyGivenNames x0
    have h0 : Keeps ms mf ma s x0.2 := Keeps.condR h.drawXforms (Keeps.pairR h)
    try clear_value x0
    extract_lets -underBinder -merge +onlyGivenNames x1
    have h1 : Keeps ms mf ma s x1 := h0.asySet
    try clear_value x1
    exact h1.sendCase

theorem Keeps.nextRun {s e : State} {a1} {a2} (h : Keeps ms mf ma s e) : Keeps ms mf ma s (State.nextRun e a1 a2) := by
  delta State.nextRun
  exact Keeps.cond h.beginRun h.beginRun

theorem Keeps.katUnusable {s e : State} (h : Keeps ms mf ma s e) : Keeps ms mf ma s (State.katUnusable e) := by
  delta State.katUnusable
  exact h.setF.flag.raise

theorem Keeps.execQualification {s e : State} (h : Keeps ms mf ma s e) : KeepsOut ms mf ma s (execQualification e) := by
  delta execQualification
  exact KeepsOut.next (Keeps.cond h (by
    split
    · exact h.katUnusable
    · exact Keeps.cond h.katUnusable (by
        extract_lets -underBinder -merge +onlyGivenNames x0
        have h0 : Keeps ms mf ma s x0 := h.setF
        try clear_value x0
        extract_lets -underBinder -merge +onlyGivenNames x1
        have h1 : Keeps ms mf ma s x1 := h0.forN (fun _ _ h2 => Keeps.cond h2.setF h2)
        try clear_value x1
        exact h1.beginRun)))

theorem Keeps.qualRecord {s e : State} {a1} {a2} (h : Keeps ms mf ma s e) : Keeps ms mf ma s (State.qualRecord e a1 a2) := by
  delta State.qualRecord
  split
  · exact h.asySet
  · extract_lets -underBinder -merge +onlyGivenNames x0
    try clear_value x0
    extract_lets -underBinder -merge +onlyGivenNames x1
    have h1 : Keeps ms mf ma s x1 := Keeps.cond h.setF h
    try clear_value x1
    split
    · exact h1
    · extract_lets -underBinder -merge +onlyGivenNames x2
      try clear_value x2
      exact Keeps.cond (by
        extract_lets -underBinder -merge +onlyGivenNames x3
        try clear_value x3
        extract_lets -underBinder -merge +onlyGivenNames x4
        have h4 : Keeps ms mf ma s x4 := h1.asySet
        try clear_value x4
        exact Keeps.cond h4 h4.disarm.nextRun) h1.asySet.disarm

theorem Keeps.execRecord {s e : State} {a0} {a1} {a2} {a3} (h : Keeps ms mf false s e) : KeepsOut ms mf false s (execRecord a0 a1 a2 a3 e) := by
  delta execRecord
  exact KeepsOut.next (by
    split
    · exact h
    · extract_lets -underBinder -merge +onlyGivenNames x0
      have h0 : Keeps ms mf false s x0.2 := ((h.takeCd.out ‹_›)).recordRate
      try clear_value x0
      extract_lets -underBinder -merge +onlyGivenNames x1
      try clear_value x1
      exact Keeps.cond h0.silViol (by
        split
        · exact Keeps.cond h0.qualRecord h0.intake
        · exact h0.intake))

theorem Keeps.execQualificationDone {s e : State} (h : Keeps ms mf false s e) : KeepsOut ms mf false s (execQualificationDone e) := by
  delta execQualificationDone
  exact KeepsOut.next (by
    split
    · exact h
    · exact Keeps.cond h (Keeps.cond h.qualFail (by
        split
        · exact h.qualFail
        · exact Keeps.cond (by
            extract_lets -underBinder -merge +onlyGivenNames x0
            have h0 : Keeps ms mf false s x0 := h.asySet.disarm
            try clear_value x0
            extract_lets -underBinder -merge +onlyGivenNames x1
            have h1 : Keeps ms mf false s x1 := h0.setF.flag
            try clear_value x1
            exact h1.setTrust.raise) h)))

theorem Keeps.execQualRecordTimeout {s e : State} (h : Keeps ms mf false s e) : KeepsOut ms mf false s (execQualRecordTimeout e) := by
  delta execQualRecordTimeout
  exact KeepsOut.next (by
    split
    · exact h
    · exact Keeps.cond h (by
        split
        · exact h.qualFail
        · split
          · exact h
          · exact Keeps.cond h.disarm.nextRun h.qualFail))

theorem Keeps.after {s e : State} {a1} (h : Keeps ms mf ma s e) (f1 : KeepsOut ms mf ma s a1) : Keeps ms mf ma s (State.after e a1) := by
  delta State.after
  split
  · exact f1.out rfl
  · exact h

theorem Keeps.writeTags {s e : State} {a1} {a2} (h : Keeps ms mf false s e) : Keeps ms mf false s (State.writeTags e a1 a2) := by
  delta State.writeTags
  exact h.forN (fun _ _ h0 => by
    extract_lets -underBinder -merge +onlyGivenNames x1
    try clear_value x1
    exact Keeps.cond (by
      extract_lets -underBinder -merge +onlyGivenNames x2
      try clear_value x2
      extract_lets -underBinder -merge +onlyGivenNames x3
      try clear_value x3
      extract_lets -underBinder -merge +onlyGivenNames x4
      have h4 : Keeps ms mf false s x4 := h0.fillBank
      try clear_value x4
      exact h4.setF.setF) (by
      extract_lets -underBinder -merge +onlyGivenNames x5
      try clear_value x5
      exact h0.tagUnit.setF))

theorem Keeps.writeSwap {s e : State} {a1} {a2} (h : Keeps ms mf ma s e) : Keeps ms mf ma s (State.writeSwap e a1 a2) := by
  delta State.writeSwap
  extract_lets -underBinder -merge +onlyGivenNames x0
  try clear_value x0
  extract_lets -underBinder -merge +onlyGivenNames x1
  try clear_value x1
  split
  · exact h.swapTile
  · exact Keeps.cond h.swapRefused h.stopTile
  · exact h.startTile
  · exact h

theorem Keeps.adBusWrite {s e : State} {a1} {a2} (h : Keeps ms mf false s e) : Keeps ms mf false s (State.adBusWrite e a1 a2) := by
  delta State.adBusWrite
  extract_lets -underBinder -merge +onlyGivenNames x0
  try clear_value x0
  split
  · exact h.after h.execProgramBankWrite
  · split
    · exact h.answer
    · exact Keeps.cond h.answer (by
        extract_lets -underBinder -merge +onlyGivenNames x1
        try clear_value x1
        extract_lets -underBinder -merge +onlyGivenNames x2
        try clear_value x2
        extract_lets -underBinder -merge +onlyGivenNames x3
        have h3 : Keeps ms mf false s x3 := h.answer
        try clear_value x3
        exact Keeps.cond (h3.after h3.execProgramBankWrite) (Keeps.cond h3.writeSwap (Keeps.cond h3.writeTags (Keeps.cond (Keeps.cond h3.swapRefused h3) h3.storeClamp))))

theorem Keeps.adBusRead {s e : State} {a1} (h : Keeps ms mf ma s e) : Keeps ms mf ma s (State.adBusRead e a1) := by
  delta State.adBusRead
  split
  · exact Keeps.cond h.answer h.answer
  · split
    · exact h.answer
    · exact Keeps.cond h.answer.afterRead h.answer

theorem Keeps.dmPut {s e : State} {a1} {a2} (h : Keeps ms mf ma s e) : Keeps ms mf ma s (State.dmPut e a1 a2) := by
  delta State.dmPut
  exact h.dspSet

theorem Keeps.dmStep {s e : State} (h : Keeps ms mf ma s e) : Keeps ms mf ma s (State.dmStep e) := by
  delta State.dmStep
  exact Keeps.cond h.dmPut (Keeps.cond h.dmPut h)

theorem Keeps.dmRead {s e : State} (h : Keeps ms mf ma s e) : Keeps ms mf ma s (State.dmRead e) := by
  delta State.dmRead
  extract_lets -underBinder -merge +onlyGivenNames x0
  have h0 : Keeps ms mf ma s x0 := Keeps.cond h.adBusRead h.answer
  try clear_value x0
  exact Keeps.dmStep (by
    split
    · exact h0.dmPut
    · exact h0)

theorem Keeps.dmWrite {s e : State} {a1} {a2} (h : Keeps ms mf false s e) : Keeps ms mf false s (State.dmWrite e a1 a2) := by
  delta State.dmWrite
  exact Keeps.cond (by
    extract_lets -underBinder -merge +onlyGivenNames x0
    try clear_value x0
    exact h.dmPut) (Keeps.cond h (Keeps.cond (by
    extract_lets -underBinder -merge +onlyGivenNames x1
    have h1 : Keeps ms mf false s x1 := h.dmPut
    try clear_value x1
    exact Keeps.cond h1.dmRead h1) (Keeps.cond (by
    extract_lets -underBinder -merge +onlyGivenNames x2
    have h2 : Keeps ms mf false s x2 := h.dmPut
    try clear_value x2
    exact (Keeps.cond h2.adBusWrite h2.answer).dmStep) h)))

theorem Keeps.debugModule {s e : State} {a1} {a2} {a3} (h : Keeps ms mf false s e) : Keeps ms mf false s (State.debugModule e a1 a2 a3) := by
  delta State.debugModule
  extract_lets -underBinder -merge +onlyGivenNames x0
  try clear_value x0
  extract_lets -underBinder -merge +onlyGivenNames x1
  have h1 : Keeps ms mf false s x1.2 := h.draw
  try clear_value x1
  extract_lets -underBinder -merge +onlyGivenNames x2
  have h2 : Keeps ms mf false s x2 := h1
  try clear_value x2
  extract_lets -underBinder -merge +onlyGivenNames x3
  try clear_value x3
  extract_lets -underBinder -merge +onlyGivenNames x4
  have h4 : Keeps ms mf false s x4 := Keeps.cond h2.dmWrite (Keeps.cond h2.dmRead h2)
  try clear_value x4
  exact h4.answer.adSend

theorem Keeps.execDebug {s e : State} {a0} (h : Keeps ms mf false s e) : KeepsOut ms mf false s (execDebug a0 e) := by
  delta execDebug
  exact KeepsOut.next (by
    extract_lets -underBinder -merge +onlyGivenNames x0
    have h0 : Keeps ms mf false s x0 := by
      unfold x0
      split
      · exact Keeps.cond h.sendAd h
      · exact h
    try clear_value x0
    split
    · exact Keeps.cond (((h0.takeAd.out ‹_›)).debugModule) ((h0.takeAd.out ‹_›))
    · exact h0)

theorem Keeps.execDebugRsp {s e : State} {a0} {a1} (h : Keeps ms mf false s e) : KeepsOut ms mf false s (execDebugRsp a0 a1 e) := by
  delta execDebugRsp
  exact KeepsOut.next (by
    split
    · exact ((h.takeCd.out ‹_›)).answer
    · exact h)

theorem Keeps.cilCmd {s e : State} {a1} (h : Keeps ms mf ma s e) (f1 : ∀ y0, Keeps ms mf ma s y0 → Keeps ms mf ma s (a1 y0)) : Keeps ms mf ma s (State.cilCmd e a1) := by
  delta State.cilCmd
  exact h.access (fun _ h0 => Keeps.cond h0.flag (f1 _ h0))

theorem Keeps.cilRefuse {s e : State} (h : Keeps ms mf ma s e) : Keeps ms mf ma s (State.cilRefuse e) := by
  delta State.cilRefuse
  exact h.flag

theorem Keeps.cilEnd {s e : State} {a1} {a2} (h : Keeps ms mf ma s e) : Keeps ms mf ma s (State.cilEnd e a1 a2) := by
  delta State.cilEnd
  exact h.setFlags

theorem Keeps.execCilOpen {s e : State} (h : Keeps ms false ma s e) : KeepsOut ms false ma s (execCilOpen e) := by
  delta execCilOpen
  exact KeepsOut.next (h.cilCmd (fun _ h0 => Keeps.cond h0.cilRefuse (by
    extract_lets -underBinder -merge +onlyGivenNames x1
    try clear_value x1
    exact h0.eraseSlot.setSlot.setF.cilEnd)))

theorem Keeps.execCilAppend {s e : State} (h : Keeps ms false ma s e) : KeepsOut ms false ma s (execCilAppend e) := by
  delta execCilAppend
  exact KeepsOut.next (h.cilCmd (fun _ h0 => Keeps.cond (by
    extract_lets -underBinder -merge +onlyGivenNames x1
    try clear_value x1
    extract_lets -underBinder -merge +onlyGivenNames x2
    try clear_value x2
    extract_lets -underBinder -merge +onlyGivenNames x3
    try clear_value x3
    exact h0.program.setF.cilEnd) h0.cilRefuse))

theorem Keeps.reject {s e : State} {a1} {a2} (h : Keeps ms false ma s e) : Keeps ms false ma s (State.reject e a1 a2) := by
  delta State.reject
  exact h.raiseInt.log.cilEnd

theorem Keeps.execCilClose {s e : State} {a0} (h : Keeps ms false ma s e) : KeepsOut ms false ma s (execCilClose a0 e) := by
  delta execCilClose
  exact KeepsOut.next (h.cilCmd (fun _ h0 => by
    extract_lets -underBinder -merge +onlyGivenNames x1
    try clear_value x1
    exact Keeps.cond h0.cilRefuse (by
      extract_lets -underBinder -merge +onlyGivenNames x2
      try clear_value x2
      extract_lets -underBinder -merge +onlyGivenNames x3
      try clear_value x3
      extract_lets -underBinder -merge +onlyGivenNames x4
      have h4 : Keeps ms false ma s x4 := h0.upd
      try clear_value x4
      extract_lets -underBinder -merge +onlyGivenNames x5
      have h5 : Keeps ms false ma s x5 := Keeps.cond h4.setSlot.log.cilEnd h4.reject
      try clear_value x5
      exact h5.upd)))

theorem Keeps.execCilAbort {s e : State} (h : Keeps ms false ma s e) : KeepsOut ms false ma s (execCilAbort e) := by
  delta execCilAbort
  exact KeepsOut.next (h.cilCmd (fun _ h0 => by
    extract_lets -underBinder -merge +onlyGivenNames x1
    try clear_value x1
    exact Keeps.cond h0.eraseSlot.setF.cilEnd h0.cilEnd))

theorem Keeps.writeReport {s e : State} {a1} (h : Keeps ms mf ma s e) : Keeps ms mf ma s (State.writeReport e a1) := by
  delta State.writeReport
  extract_lets -underBinder -merge +onlyGivenNames x0
  try clear_value x0
  extract_lets -underBinder -merge +onlyGivenNames x1
  have h1 : Keeps ms mf ma s x1 := h.forN (fun _ _ h2 => by
    extract_lets -underBinder -merge +onlyGivenNames x3
    try clear_value x3
    exact h2.forN (fun _ _ h4 => h4.setF))
  try clear_value x1
  exact h1.setFs

theorem Keeps.runCheck {s e : State} (h : Keeps ms false ma s e) : Keeps ms false ma s (State.runCheck e).2.1 := by
  delta State.runCheck
  extract_lets -underBinder -merge +onlyGivenNames x0
  try clear_value x0
  extract_lets -underBinder -merge +onlyGivenNames x1
  try clear_value x1
  extract_lets -underBinder -merge +onlyGivenNames x2
  try clear_value x2
  extract_lets -underBinder -merge +onlyGivenNames x3
  try clear_value x3
  extract_lets -underBinder -merge +onlyGivenNames x4
  try clear_value x4
  extract_lets -underBinder -merge +onlyGivenNames x5
  have h5 : Keeps ms false ma s x5 := h.writeReport.setF
  try clear_value x5
  extract_lets -underBinder -merge +onlyGivenNames x6
  have h6 : Keeps ms false ma s x6 := h5.doIf (fun _ h7 => h7.raiseInt)
  try clear_value x6
  extract_lets -underBinder -merge +onlyGivenNames x8
  try clear_value x8
  extract_lets -underBinder -merge +onlyGivenNames x9
  try clear_value x9
  exact Keeps.condRL h6.reject (Keeps.condRL h6.reject h6)

theorem Keeps.execCilCheck {s e : State} {a0} (h : Keeps ms false ma s e) : KeepsOut ms false ma s (execCilCheck a0 e) := by
  delta execCilCheck
  refine KeepsOut.next (h.cilCmd (fun x h0 => Keeps.cond h0.cilRefuse ?_))
  have h1 : Keeps ms false ma s { x with progs := a0 } := h0.upd
  have h2 := h1.runCheck
  generalize State.runCheck { x with progs := a0 } = r at h2 ⊢
  extract_lets y x1
  have h3 : Keeps ms false ma s x1 := Keeps.cond h2.cilEnd h2
  exact h3.upd

theorem Keeps.execCilCommit {s e : State} {a0} (h : Keeps ms false ma s e) : KeepsOut ms false ma s (execCilCommit a0 e) := by
  delta execCilCommit
  refine KeepsOut.next (h.cilCmd (fun x h0 => ?_))
  extract_lets -underBinder +onlyGivenNames k
  refine Keeps.cond h0.cilRefuse ?_
  have h1 : Keeps ms false ma s { x with progs := a0 } := h0.upd
  have h2 := h1.runCheck
  generalize State.runCheck { x with progs := a0 } = r at h2 ⊢
  refine Keeps.upd (e := if !r.2.2 then r.2.1 else _) ?_
  refine Keeps.cond h2 (Keeps.cond h2.reject ?_)
  have h4 := fun b => h2.endSession.logWrite (a1 := b)
  exact Keeps.cond (h4 _).flag.cilEnd (Keeps.arm (Keeps.upd ((h4 _).setSlot.raise.setFs)))

end Sys2Proof.Machine
end

