-- ==== Sys2Proof/Laws/KeepsPower.lean ====
section
/-! SUPPORT. `Keeps` for the apply, the cores, and the network. -/

namespace Sys2Proof.Machine

variable {ms mf ma : Bool}

theorem Keeps.setApply {s e : State} {a1} (h : Keeps ms mf ma s e) : Keeps ms mf ma s (State.setApply e a1) := by
  delta State.setApply
  exact h.upd

theorem Keeps.startLoads {s e : State} {a1} (h : Keeps ms mf ma s e) : Keeps ms mf ma s (State.startLoads e a1) := by
  delta State.startLoads
  exact Keeps.cond h.setApply (by
    extract_lets -underBinder -merge +onlyGivenNames x0
    try clear_value x0
    exact h.upd.loadPump)

theorem Keeps.sendPlan {s e : State} {a0} {a1} {a2} {a3} (h : Keeps ms mf ma s e) : Keeps ms mf ma s (State.sendPlan a0 a1 a2 a3 e) := by
  induction a0 generalizing a1 a2 a3 e with
  | zero =>
    rw [State.sendPlan.eq_1]
    exact h
  | succ n ih =>
    rw [State.sendPlan.eq_2]
    exact Keeps.cond h.sendAd (by
      apply ih
      exact h.sendAd)

theorem Keeps.restoreLending {s e : State} (h : Keeps ms mf ma s e) : Keeps ms mf ma s (State.restoreLending e) := by
  delta State.restoreLending
  extract_lets -underBinder -merge +onlyGivenNames x0
  have h0 : Keeps ms mf ma s x0 := h.forL (fun _ _ h1 => h1.setF)
  try clear_value x0
  exact h0.upd.setF

theorem Keeps.planAccepted {s e : State} (h : Keeps ms mf ma s e) : Keeps ms mf ma s (State.planAccepted e) := by
  delta State.planAccepted
  extract_lets -underBinder -merge +onlyGivenNames x0
  have h0 : Keeps ms mf ma s x0 := h.forL (fun _ _ h1 => by
    extract_lets -underBinder -merge +onlyGivenNames x2
    have h2 : Keeps ms mf ma s x2 := h1.setTenant.setF.command
    try clear_value x2
    exact Keeps.cond h2 h2.sendCmd)
  try clear_value x0
  extract_lets -underBinder -merge +onlyGivenNames x3
  try clear_value x3
  extract_lets -underBinder -merge +onlyGivenNames x4
  have h4 : Keeps ms mf ma s x4 := h0.upd
  try clear_value x4
  exact h4.disarm.armAt

theorem Keeps.step2 {s e : State} (h : Keeps ms mf ma s e) : Keeps ms mf ma s (State.step2 e) := by
  delta State.step2
  exact h.closeIntake.tltRefresh

theorem Keeps.step5 {s e : State} {a1} (h : Keeps ms false ma s e) : Keeps ms false ma s (State.step5 e a1) := by
  delta State.step5
  extract_lets -underBinder -merge +onlyGivenNames x0
  try clear_value x0
  extract_lets -underBinder -merge +onlyGivenNames x1
  try clear_value x1
  extract_lets -underBinder -merge +onlyGivenNames x2
  have h2 : Keeps ms false ma s x2 := h.upd.blkPower
  try clear_value x2
  exact Keeps.cond h2 h2.beginRaise

theorem Keeps.beginStep {s e : State} {a1} {a2} (h : Keeps ms false ma s e) : Keeps ms false ma s (State.beginStep e a1 a2) := by
  delta State.beginStep
  extract_lets -underBinder -merge +onlyGivenNames x0
  try clear_value x0
  extract_lets -underBinder -merge +onlyGivenNames x1
  have h1 : Keeps ms false ma s x1 := h.setApply.armAt
  try clear_value x1
  split
  · exact h1.step2
  · exact Keeps.cond h1.suspendAll h1
  · exact h1.step5
  · exact Keeps.cond (by
      extract_lets -underBinder -merge +onlyGivenNames x2
      have h2 : Keeps ms false ma s x2 := h1.setF
      try clear_value x2
      exact Keeps.cond h2.startLoads h2) h1
  · exact Keeps.cond (by
      extract_lets -underBinder -merge +onlyGivenNames x3
      try clear_value x3
      exact h1.setApply.sendPlan) h1
  · exact h1

theorem Keeps.startLoad {s e : State} (h : Keeps ms false ma s e) : Keeps ms false ma s (State.startLoad e) := by
  delta State.startLoad
  split
  · exact Keeps.cond h.beginStep h
  · exact h

theorem Keeps.endApply {s e : State} (h : Keeps ms mf ma s e) : Keeps ms mf ma s (State.endApply e) := by
  delta State.endApply
  extract_lets -underBinder -merge +onlyGivenNames x0
  have h0 : Keeps ms mf ma s x0 := h.setApply.disarm.setF
  try clear_value x0
  exact h0.upd

theorem Keeps.stopEntry {s e : State} (h : Keeps ms false false s e) : Keeps ms false false s (State.stopEntry e) := by
  delta State.stopEntry
  split
  · exact Keeps.cond (Keeps.cond h.leaveRest h.failTrans) h
  · exact h

theorem Keeps.noImage {s e : State} (h : Keeps ms false false s e) : Keeps ms false false s (State.noImage e) := by
  delta State.noImage
  extract_lets -underBinder -merge +onlyGivenNames x0
  have h0 : Keeps ms false false s x0 := h.endApply.log
  try clear_value x0
  extract_lets -underBinder -merge +onlyGivenNames x1
  have h1 : Keeps ms false false s x1 := h0.setF.raise
  try clear_value x1
  extract_lets -underBinder -merge +onlyGivenNames x2
  try clear_value x2
  extract_lets -underBinder -merge +onlyGivenNames x3
  have h3 : Keeps ms false false s x3 := h1.upd
  try clear_value x3
  extract_lets -underBinder -merge +onlyGivenNames x4
  have h4 : Keeps ms false false s x4 := h3.setFs
  try clear_value x4
  extract_lets -underBinder -merge +onlyGivenNames x5
  have h5 : Keeps ms false false s x5 := h4.closeIntake.tltRefresh
  try clear_value x5
  exact Keeps.cond h5.leaveWork (Keeps.cond h5.stopEntry (((h5.forL (fun _ _ h6 => h6.domOn)).showPlls).reach))

theorem Keeps.applyOk {s e : State} {a1} (h : Keeps ms false ma s e) : Keeps ms false ma s (State.applyOk e a1) := by
  delta State.applyOk
  extract_lets -underBinder -merge +onlyGivenNames x0
  have h0 : Keeps ms false ma s x0 := h.endApply
  try clear_value x0
  extract_lets -underBinder -merge +onlyGivenNames x1
  try clear_value x1
  extract_lets -underBinder -merge +onlyGivenNames x2
  have h2 : Keeps ms false ma s x2 := Keeps.cond h0 (((h0.upd.doIf (fun _ h3 => h3.setF)).tltRefresh).flag)
  try clear_value x2
  exact Keeps.cond h2.startLoad h2

theorem Keeps.bootCheck {s e : State} {a1} (h : Keeps ms mf ma s e) : Keeps ms mf ma s (State.bootCheck e a1).1 := by
  delta State.bootCheck
  extract_lets -underBinder -merge +onlyGivenNames x0
  try clear_value x0
  extract_lets -underBinder -merge +onlyGivenNames x1
  have h1 : Keeps ms mf ma s x1 := h.writeReport.setFs
  try clear_value x1
  extract_lets -underBinder -merge +onlyGivenNames x2
  have h2 : Keeps ms mf ma s x2 := h1.doIf (fun _ h3 => h3.raiseInt)
  try clear_value x2
  exact Keeps.condL (Keeps.pairL h2.raiseInt) (Keeps.pairL h2)

theorem Keeps.bootApply {s e : State} {a1} (h : Keeps ms false ma s e) : Keeps ms false ma s (State.bootApply e a1) := by
  delta State.bootApply
  exact h.setF.beginStep

theorem Keeps.applyFails {s e : State} {a1} (h : Keeps ms false false s e) : Keeps ms false false s (State.applyFails e a1) := by
  delta State.applyFails
  extract_lets -underBinder -merge +onlyGivenNames x0
  have h0 : Keeps ms false false s x0 := h.endApply
  try clear_value x0
  exact Keeps.cond h0.qualFail (by
    extract_lets -underBinder -merge +onlyGivenNames x1
    have h1 : Keeps ms false false s x1 := h0.setFlags
    try clear_value x1
    exact Keeps.cond h1.noImage (by
      extract_lets -underBinder -merge +onlyGivenNames x2
      try clear_value x2
      extract_lets -underBinder -merge +onlyGivenNames x3
      have h3 : Keeps ms false false s x3 := h1.setSlot
      try clear_value x3
      extract_lets -underBinder -merge +onlyGivenNames x4
      have h4 : Keeps ms false false s x4 := h3.log.raise
      try clear_value x4
      split
      · extract_lets -underBinder -merge +onlyGivenNames x5
        have h5 : Keeps ms false false s x5.1 := h4.bootCheck
        try clear_value x5
        extract_lets -underBinder -merge +onlyGivenNames x6
        have h6 : Keeps ms false false s x6 := h5.setF
        try clear_value x6
        exact Keeps.cond h6.noImage h6.bootApply
      · exact h4.noImage))

theorem Keeps.step9 {s e : State} {a1} (h : Keeps ms false ma s e) : Keeps ms false ma s (State.step9 e a1) := by
  delta State.step9
  extract_lets -underBinder -merge +onlyGivenNames x0
  try clear_value x0
  extract_lets -underBinder -merge +onlyGivenNames x1
  try clear_value x1
  extract_lets -underBinder -merge +onlyGivenNames x2
  have h2 : Keeps ms false ma s x2 := h.setSlot
  try clear_value x2
  extract_lets -underBinder -merge +onlyGivenNames x3
  have h3 : Keeps ms false ma s x3 := h2.log.raise
  try clear_value x3
  exact Keeps.cond h3.setSlot h3

theorem Keeps.execApplyStepDeadline {s e : State} {a0} (h : Keeps ms false false s e) : KeepsOut ms false false s (execApplyStepDeadline a0 e) := by
  delta execApplyStepDeadline
  exact KeepsOut.next (by
    split
    · exact h
    · exact Keeps.cond (by
        extract_lets -underBinder -merge +onlyGivenNames x0
        try clear_value x0
        extract_lets -underBinder -merge +onlyGivenNames x1
        have h1 : Keeps ms false false s x1 := (h.upd.doIf (fun _ h2 => h2.ladder)).applyFails
        try clear_value x1
        exact h1.upd) h)

theorem Keeps.workSince {s e : State} (h : Keeps ms mf ma s e) : Keeps ms mf ma s (State.workSince e) := by
  delta State.workSince
  exact h.upd.arm

theorem Keeps.firstReady {s e : State} (h : Keeps ms false ma s e) : Keeps ms false ma s (State.firstReady e) := by
  delta State.firstReady
  extract_lets -underBinder -merge +onlyGivenNames x0
  have h0 : Keeps ms false ma s x0 := h.disarm
  try clear_value x0
  extract_lets -underBinder -merge +onlyGivenNames x1
  have h1 : Keeps ms false ma s x1 := by
    unfold x1
    split
    · exact Keeps.cond (by
        extract_lets -underBinder -merge +onlyGivenNames x2
        have h2 : Keeps ms false ma s x2 := h0.forN (fun _ _ h3 => Keeps.cond h3.setTenant h3)
        try clear_value x2
        exact h2.reach.updFollow.arm.workSince) h0
    · exact h0
  try clear_value x1
  extract_lets -underBinder -merge +onlyGivenNames x4
  have h4 : Keeps ms false ma s x4 := h1.startChange
  try clear_value x4
  split
  · exact Keeps.cond h4.startLoads h4
  · exact h4.startLoad

theorem Keeps.execReady {s e : State} (h : Keeps ms false false s e) : KeepsOut ms false false s (execReady e) := by
  delta execReady
  exact KeepsOut.next (Keeps.cond h (by
    split
    · exact h
    · exact Keeps.cond ((h.takeCd.out ‹_›)) (by
        extract_lets -underBinder -merge +onlyGivenNames x0
        have h0 : Keeps ms false false s x0 := ((((h.takeCd.out ‹_›)).setF).flag).silSet
        try clear_value x0
        split
        · exact Keeps.cond h0 h0.firstReady
        · split
          · exact Keeps.cond h0.startLoads h0.startChange
          · exact h0.startChange)))

theorem Keeps.execReadyTimeout {s e : State} (h : Keeps ms mf false s e) : KeepsOut ms mf false s (execReadyTimeout e) := by
  delta execReadyTimeout
  exact KeepsOut.next (Keeps.cond (by
    extract_lets -underBinder -merge +onlyGivenNames x0
    have h0 : Keeps ms mf false s x0 := h.disarm.raiseInt
    try clear_value x0
    extract_lets -underBinder -merge +onlyGivenNames x1
    have h1 : Keeps ms mf false s x1 := by
      unfold x1
      split
      · exact Keeps.cond h0.reach.updFollow.arm.workSince h0
      · exact h0
    try clear_value x1
    exact h1.qualFail) h)

theorem Keeps.planAnswered {s e : State} {a1} {a2} {a3} (h : Keeps ms false false s e) : Keeps ms false false s (State.planAnswered e a1 a2 a3) := by
  delta State.planAnswered
  exact Keeps.cond (by
    extract_lets -underBinder -merge +onlyGivenNames x0
    have h0 : Keeps ms false false s x0 := h.setApply
    try clear_value x0
    exact (Keeps.cond h0 h0.restoreLending).planAccepted) (by
    extract_lets -underBinder -merge +onlyGivenNames x1
    have h1 : Keeps ms false false s x1 := Keeps.cond h h.ladder
    try clear_value x1
    exact h1.applyFails)

theorem Keeps.execConfigAck {s e : State} {a0} {a1} {a2} (h : Keeps ms false false s e) : KeepsOut ms false false s (execConfigAck a0 a1 a2 e) := by
  delta execConfigAck
  exact KeepsOut.next (by
    split
    · exact h
    · extract_lets -underBinder -merge +onlyGivenNames x0
      try clear_value x0
      exact Keeps.cond (((h.takeCd.out ‹_›)).setF) (Keeps.cond (by
        split
        · exact Keeps.cond (((h.takeCd.out ‹_›)).planAnswered) (((h.takeCd.out ‹_›)).silBadMsg)
        · exact ((h.takeCd.out ‹_›)).silBadMsg) (by
        split
        · exact Keeps.cond (Keeps.cond (((h.takeCd.out ‹_›)).itemDone) (((h.takeCd.out ‹_›)).itemFails)) (((h.takeCd.out ‹_›)).silBadMsg)
        · exact ((h.takeCd.out ‹_›)).silBadMsg)))

theorem Keeps.execEvent {s e : State} {a0} (h : Keeps ms mf false s e) : KeepsOut ms mf false s (execEvent a0 e) := by
  delta execEvent
  exact KeepsOut.next (by
    split
    · exact h
    · extract_lets -underBinder -merge +onlyGivenNames x0
      try clear_value x0
      extract_lets -underBinder -merge +onlyGivenNames x1
      have h1 : Keeps ms mf false s x1 := ((h.takeCd.out ‹_›)).silSet
      try clear_value x1
      exact Keeps.cond h1.satInc.raise h1.adEvent)

theorem Keeps.mismatch {s e : State} {a1} {a2} (h : Keeps ms mf ma s e) : Keeps ms mf ma s (State.mismatch e a1 a2) := by
  delta State.mismatch
  extract_lets -underBinder -merge +onlyGivenNames x0
  try clear_value x0
  extract_lets -underBinder -merge +onlyGivenNames x1
  have h1 : Keeps ms mf ma s x1 := h.cpuSet
  try clear_value x1
  extract_lets -underBinder -merge +onlyGivenNames x2
  have h2 : Keeps ms mf ma s x2 := h1.setFs
  try clear_value x2
  extract_lets -underBinder -merge +onlyGivenNames x3
  have h3 : Keeps ms mf ma s x3 := h2.assertTrip.raise
  try clear_value x3
  exact Keeps.cond h3.setF.raise.disarm h3.arm

theorem Keeps.execLockstepMismatch {s e : State} {a0} {a1} (h : Keeps ms mf ma s e) : KeepsOut ms mf ma s (execLockstepMismatch a0 a1 e) := by
  delta execLockstepMismatch
  exact KeepsOut.next (Keeps.cond h.mismatch h)

theorem Keeps.execAgreementFault {s e : State} {a0} (h : Keeps ms mf ma s e) : KeepsOut ms mf ma s (execAgreementFault a0 e) := by
  delta execAgreementFault
  exact KeepsOut.next (Keeps.cond h.raise.mismatch h)

theorem Keeps.setCore {s e : State} {a1} {a2} (h : Keeps ms mf ma s e) : Keeps ms mf ma s (State.setCore e a1 a2) := by
  delta State.setCore
  exact h.cpuSet

theorem Keeps.execInterruptInput {s e : State} {a0} {a1} (h : Keeps ms mf ma s e) : KeepsOut ms mf ma s (execInterruptInput a0 a1 e) := by
  delta execInterruptInput
  exact KeepsOut.next (Keeps.cond h (by
    extract_lets -underBinder -merge +onlyGivenNames x0
    try clear_value x0
    extract_lets -underBinder -merge +onlyGivenNames x1
    try clear_value x1
    exact Keeps.cond h.setCore (Keeps.cond (by
      extract_lets -underBinder -merge +onlyGivenNames x2
      try clear_value x2
      exact h.setCore.setCore) h)))

theorem Keeps.wdtStart {s e : State} {a1} (h : Keeps ms mf ma s e) : Keeps ms mf ma s (State.wdtStart e a1) := by
  delta State.wdtStart
  extract_lets -underBinder -merge +onlyGivenNames x0
  have h0 : Keeps ms mf ma s x0 := h.cpuSet
  try clear_value x0
  exact h0.setF.arm.disarm

theorem Keeps.wdtStop {s e : State} {a1} (h : Keeps ms mf ma s e) : Keeps ms mf ma s (State.wdtStop e a1) := by
  delta State.wdtStop
  exact h.setF.disarm.disarm

theorem Keeps.wdtExpire {s e : State} {a1} (h : Keeps ms mf ma s e) : Keeps ms mf ma s (State.wdtExpire e a1) := by
  delta State.wdtExpire
  extract_lets -underBinder -merge +onlyGivenNames x0
  have h0 : Keeps ms mf ma s x0 := h.wdtStop.assertTrip.raise
  try clear_value x0
  exact Keeps.cond h0 h0.cpuSet.arm

theorem Keeps.execWatchdogKick {s e : State} {a0} {a1} (h : Keeps ms mf ma s e) : KeepsOut ms mf ma s (execWatchdogKick a0 a1 e) := by
  delta execWatchdogKick
  exact KeepsOut.next (h.access (fun _ h0 => by
    extract_lets -underBinder -merge +onlyGivenNames x1
    try clear_value x1
    extract_lets -underBinder -merge +onlyGivenNames x2
    try clear_value x2
    exact Keeps.cond h0 (Keeps.cond (Keeps.cond h0.cpuSet.arm h0.wdtExpire) (Keeps.cond h0.wdtExpire (Keeps.cond h0.wdtExpire (Keeps.cond h0.wdtExpire (Keeps.cond h0.wdtExpire h0.wdtStart)))))))

theorem Keeps.execWatchdogExpiry {s e : State} {a0} (h : Keeps ms mf ma s e) : KeepsOut ms mf ma s (execWatchdogExpiry a0 e) := by
  delta execWatchdogExpiry
  exact KeepsOut.next (Keeps.cond h.wdtExpire h)

theorem Keeps.execKickHalfTimeout {s e : State} {a0} (h : Keeps ms mf ma s e) : KeepsOut ms mf ma s (execKickHalfTimeout a0 e) := by
  delta execKickHalfTimeout
  exact KeepsOut.next (Keeps.cond h.wdtExpire h)

theorem Keeps.startC1 {s e : State} {a1} (h : Keeps ms mf ma s e) : Keeps ms mf ma s (State.startC1 e a1) := by
  delta State.startC1
  exact h.cpuSet.wdtStart

theorem Keeps.execSplit {s e : State} (h : Keeps ms mf ma s e) : KeepsOut ms mf ma s (execSplit e) := by
  delta execSplit
  exact KeepsOut.next (h.access (fun _ h0 => Keeps.cond h0 (Keeps.cond h0.flag (by
    extract_lets -underBinder -merge +onlyGivenNames x1
    have h1 : Keeps ms mf ma s x1 := h0.forL (fun _ _ h2 => h2.closeKey)
    try clear_value x1
    extract_lets -underBinder -merge +onlyGivenNames x3
    have h3 : Keeps ms mf ma s x3 := h1.setFlags.startC1
    try clear_value x3
    exact h3.wrapInc.arm.raise))))

theorem Keeps.joinPair {s e : State} (h : Keeps ms mf ma s e) : Keeps ms mf ma s (State.joinPair e) := by
  delta State.joinPair
  extract_lets -underBinder -merge +onlyGivenNames x0
  try clear_value x0
  extract_lets -underBinder -merge +onlyGivenNames x1
  try clear_value x1
  extract_lets -underBinder -merge +onlyGivenNames x2
  have h2 : Keeps ms mf ma s x2 := h.cpuSet
  try clear_value x2
  extract_lets -underBinder -merge +onlyGivenNames x3
  have h3 : Keeps ms mf ma s x3 := h2.setFlags.disarm
  try clear_value x3
  extract_lets -underBinder -merge +onlyGivenNames x4
  have h4 : Keeps ms mf ma s x4 := h3.cpuSet
  try clear_value x4
  exact h4.wdtStop.raise

theorem Keeps.execJoin {s e : State} {a0} (h : Keeps ms mf ma s e) : KeepsOut ms mf ma s (execJoin a0 e) := by
  delta execJoin
  exact KeepsOut.next (h.access (fun _ h0 => Keeps.cond h0 (Keeps.cond h0.setFs (Keeps.cond h0 (Keeps.cond h0.cpuSet h0.joinPair)))))

theorem Keeps.execSplitTimeout {s e : State} (h : Keeps ms mf ma s e) : KeepsOut ms mf ma s (execSplitTimeout e) := by
  delta execSplitTimeout
  exact KeepsOut.next (Keeps.cond h.disarm.raise.coreResetBy h)

theorem Keeps.execSysMtimeLo {s e : State} (h : Keeps ms mf ma s e) : KeepsOut ms mf ma s (execSysMtimeLo e) := by
  delta execSysMtimeLo
  exact KeepsOut.next (Keeps.cond h.setF.answer h.answer)

theorem Keeps.sramCe {s e : State} {a1} (h : Keeps ms mf ma s e) : Keeps ms mf ma s (State.sramCe e a1) := by
  delta State.sramCe
  exact h.satInc.raiseInt

theorem Keeps.sramUe {s e : State} {a1} (h : Keeps ms mf ma s e) : Keeps ms mf ma s (State.sramUe e a1) := by
  delta State.sramUe
  exact h.satInc.setF.raiseInt

theorem Keeps.execScrubRead {s e : State} {a0} (h : Keeps ms mf ma s e) : KeepsOut ms mf ma s (execScrubRead a0 e) := by
  delta execScrubRead
  exact KeepsOut.next (Keeps.cond h (by
    extract_lets -underBinder -merge +onlyGivenNames x0
    try clear_value x0
    extract_lets -underBinder -merge +onlyGivenNames x1
    have h1 : Keeps ms mf ma s x1 := h.rearm
    try clear_value x1
    extract_lets -underBinder -merge +onlyGivenNames x2
    have h2 : Keeps ms mf ma s x2 := h1.cpuSet
    try clear_value x2
    split
    · exact h2
    · exact h2.sramCe
    · exact h2.raise))

theorem Keeps.execOtpRead {s e : State} {a0} (h : Keeps ms mf ma s e) : KeepsOut ms mf ma s (execOtpRead a0 e) := by
  delta execOtpRead
  exact KeepsOut.next (h.access (fun _ h0 => Keeps.cond h0.flag (by
    extract_lets -underBinder -merge +onlyGivenNames x1
    have h1 : Keeps ms mf ma s x1 := h0.setFs
    try clear_value x1
    exact h1.cpuSet)))

theorem Keeps.execOtpReadDone {s e : State} (h : Keeps ms mf ma s e) : KeepsOut ms mf ma s (execOtpReadDone e) := by
  delta execOtpReadDone
  exact KeepsOut.next (by
    split
    · exact h
    · extract_lets -underBinder -merge +onlyGivenNames x0
      try clear_value x0
      extract_lets -underBinder -merge +onlyGivenNames x1
      have h1 : Keeps ms mf ma s x1 := h.setFs
      try clear_value x1
      exact h1.cpuSet)

theorem Keeps.dbgSet {s e : State} {a1} (h : Keeps ms mf ma s e) : Keeps ms mf ma s (State.dbgSet e a1) := by
  delta State.dbgSet
  exact h.cpuSet

theorem Keeps.tap {s e : State} {a1} {a2} (h : Keeps ms mf ma s e) : Keeps ms mf ma s (State.tap e a1 a2) := by
  delta State.tap
  exact h.dbgSet.answer

theorem Keeps.execIdcode {s e : State} (h : Keeps ms mf ma s e) : KeepsOut ms mf ma s (execIdcode e) := by
  delta execIdcode
  exact KeepsOut.next h.tap

theorem Keeps.execDtmcs {s e : State} (h : Keeps ms mf ma s e) : KeepsOut ms mf ma s (execDtmcs e) := by
  delta execDtmcs
  exact KeepsOut.next h.tap

theorem Keeps.execDmi {s e : State} {a0} {a1} {a2} (h : Keeps ms mf ma s e) : KeepsOut ms mf ma s (execDmi a0 a1 a2 e) := by
  delta execDmi
  exact KeepsOut.next (by
    extract_lets -underBinder -merge +onlyGivenNames x0
    try clear_value x0
    extract_lets -underBinder -merge +onlyGivenNames x1
    try clear_value x1
    extract_lets -underBinder -merge +onlyGivenNames x2
    have h2 : Keeps ms mf ma s x2 := h.tap
    try clear_value x2
    exact Keeps.cond h2 h2.dbgSet)

theorem Keeps.execBypass {s e : State} {a0} (h : Keeps ms mf ma s e) : KeepsOut ms mf ma s (execBypass a0 e) := by
  delta execBypass
  exact KeepsOut.next (Keeps.cond h h.tap)

theorem Keeps.execDmactiveWrite {s e : State} {a0} (h : Keeps ms mf ma s e) : KeepsOut ms mf ma s (execDmactiveWrite a0 e) := by
  delta execDmactiveWrite
  exact KeepsOut.next (Keeps.cond h (Keeps.cond h.setFs.dbgSet (Keeps.cond h (Keeps.cond h.raise h.setF.raiseInt))))

theorem Keeps.dbgHart {s e : State} {a1} (h : Keeps ms mf ma s e) : Keeps ms mf ma s (State.dbgHart e a1) := by
  delta State.dbgHart
  exact h.dbgSet

theorem Keeps.execHaltRequest {s e : State} {a0} (h : Keeps ms mf ma s e) : KeepsOut ms mf ma s (execHaltRequest a0 e) := by
  delta execHaltRequest
  exact KeepsOut.next (Keeps.cond h (by
    extract_lets -underBinder -merge +onlyGivenNames x0
    have h0 : Keeps ms mf ma s x0 := h.dbgHart
    try clear_value x0
    exact Keeps.cond h0.setF h0))

theorem Keeps.replay {s e : State} (h : Keeps ms mf ma s e) : Keeps ms mf ma s (State.replay e) := by
  delta State.replay
  extract_lets -underBinder -merge +onlyGivenNames x0
  have h0 : Keeps ms mf ma s x0 := h.cpuSet
  try clear_value x0
  extract_lets -underBinder -merge +onlyGivenNames x1
  try clear_value x1
  extract_lets -underBinder -merge +onlyGivenNames x2
  have h2 : Keeps ms mf ma s x2 := h.cpuSet
  try clear_value x2
  extract_lets -underBinder -merge +onlyGivenNames x3
  have h3 : Keeps ms mf ma s x3 := Keeps.cond h (Keeps.cond h0.satInc (h2.doIf (fun _ h4 => h4.satInc)))
  try clear_value x3
  exact h3.dbgSet

theorem Keeps.execResumeRequest {s e : State} {a0} (h : Keeps ms mf ma s e) : KeepsOut ms mf ma s (execResumeRequest a0 e) := by
  delta execResumeRequest
  exact KeepsOut.next (Keeps.cond h (by
    extract_lets -underBinder -merge +onlyGivenNames x0
    have h0 : Keeps ms mf ma s x0 := h.dbgHart
    try clear_value x0
    exact Keeps.cond (by
      extract_lets -underBinder -merge +onlyGivenNames x1
      have h1 : Keeps ms mf ma s x1 := h0.replay.setF
      try clear_value x1
      exact Keeps.cond h1.joinPair h1) h0))

theorem Keeps.execSingleStep {s e : State} {a0} {a1} (h : Keeps ms mf ma s e) : KeepsOut ms mf ma s (execSingleStep a0 a1 e) := by
  delta execSingleStep
  exact KeepsOut.next (Keeps.cond h (by
    extract_lets -underBinder -merge +onlyGivenNames x0
    have h0 : Keeps ms mf ma s x0 := h.dbgHart
    try clear_value x0
    exact Keeps.cond (by
      extract_lets -underBinder -merge +onlyGivenNames x1
      have h1 : Keeps ms mf ma s x1 := h0.replay.setCore
      try clear_value x1
      exact Keeps.cond h1.setCore h1) h0))

theorem Keeps.logReplay {s e : State} {a1} {a2} (h : Keeps ms mf ma s e) : Keeps ms mf ma s (State.logReplay e a1 a2) := by
  delta State.logReplay
  exact Keeps.cond h (Keeps.cond h.dbgSet h.dbgSet.raise)

theorem Keeps.execAccessRegister {s e : State} {a0} {a1} {a2} (h : Keeps ms mf ma s e) : KeepsOut ms mf ma s (execAccessRegister a0 a1 a2 e) := by
  delta execAccessRegister
  exact KeepsOut.next (by
    extract_lets -underBinder -merge +onlyGivenNames x0
    try clear_value x0
    exact Keeps.cond h (Keeps.cond h (Keeps.cond h.dbgSet (Keeps.cond h.dbgSet (Keeps.cond (by
      extract_lets -underBinder -merge +onlyGivenNames x1
      have h1 : Keeps ms mf ma s x1 := h.dbgSet
      try clear_value x1
      exact Keeps.cond h1 (by
        extract_lets -underBinder -merge +onlyGivenNames x2
        have h2 : Keeps ms mf ma s x2 := h1.setCore
        try clear_value x2
        exact h2.logReplay)) (by
      extract_lets -underBinder -merge +onlyGivenNames x3
      try clear_value x3
      exact h.dbgSet.answer))))))

theorem Keeps.execProgramBuffer {s e : State} {a0} (h : Keeps ms mf ma s e) : KeepsOut ms mf ma s (execProgramBuffer a0 e) := by
  delta execProgramBuffer
  exact KeepsOut.next (Keeps.cond h (by
    extract_lets -underBinder -merge +onlyGivenNames x0
    try clear_value x0
    extract_lets -underBinder -merge +onlyGivenNames x1
    have h1 : Keeps ms mf ma s x1 := h.dbgSet
    try clear_value x1
    exact Keeps.cond h1 (Keeps.cond h1.dbgSet (by
      extract_lets -underBinder -merge +onlyGivenNames x2
      try clear_value x2
      extract_lets -underBinder -merge +onlyGivenNames x3
      have h3 : Keeps ms mf ma s x3 := h1.setCore
      try clear_value x3
      exact Keeps.cond h3.setCore h3))))

theorem Keeps.execSramInitDone {s e : State} (h : Keeps false mf ma s e) : KeepsOut false mf ma s (execSramInitDone e) := by
  delta Sys2Proof.Machine.execSramInitDone
  exact KeepsOut.next (Keeps.cond h (by
    extract_lets +onlyGivenNames x0
    have h0 : Keeps false mf ma s x0 := Keeps.cond (h.sram fun _ => Sparse.wf_nil 0) h
    clear_value x0
    exact h0.pmuSet.cpuSet.setF))

theorem Keeps.selfTest {s e : State} {a1} (h : Keeps ms mf ma s e) : Keeps ms mf ma s (State.selfTest e a1) := by
  delta State.selfTest
  exact Keeps.cond h.setFs.raise (by
    extract_lets -underBinder -merge +onlyGivenNames x0
    have h0 : Keeps ms mf ma s x0 := h.setFs
    try clear_value x0
    extract_lets -underBinder -merge +onlyGivenNames x1
    have h1 : Keeps ms mf ma s x1 := h0.wrapInc
    try clear_value x1
    exact Keeps.cond h1 h1.raise)

theorem Keeps.rebuildLockout {s e : State} (h : Keeps ms false ma s e) : Keeps ms false ma s (State.rebuildLockout e) := by
  delta State.rebuildLockout
  extract_lets -underBinder -merge +onlyGivenNames x0
  try clear_value x0
  extract_lets -underBinder -merge +onlyGivenNames x1
  try clear_value x1
  extract_lets -underBinder -merge +onlyGivenNames x2
  try clear_value x2
  extract_lets -underBinder -merge +onlyGivenNames x3
  try clear_value x3
  extract_lets -underBinder -merge +onlyGivenNames x4
  try clear_value x4
  extract_lets -underBinder -merge +onlyGivenNames x5
  have h5 : Keeps ms false ma s x5 := h.setF
  try clear_value x5
  exact Keeps.cond h5.log.startLockout (Keeps.cond h5.startLockout h5)

theorem Keeps.bootSlot {s e : State} {a1} (h : Keeps ms false false s e) : Keeps ms false false s (State.bootSlot e a1) := by
  delta State.bootSlot
  split
  · exact h.noImage
  · exact Keeps.cond h.noImage (by
      extract_lets -underBinder -merge +onlyGivenNames x0
      have h0 : Keeps ms false false s x0.1 := h.bootCheck
      try clear_value x0
      exact Keeps.cond h0.noImage h0.bootApply)

theorem Keeps.redoApply {s e : State} {a1} {a2} (h : Keeps ms false false s e) : Keeps ms false false s (State.redoApply e a1 a2) := by
  delta State.redoApply
  extract_lets -underBinder -merge +onlyGivenNames x0
  try clear_value x0
  extract_lets -underBinder -merge +onlyGivenNames x1
  try clear_value x1
  extract_lets -underBinder -merge +onlyGivenNames x2
  try clear_value x2
  extract_lets -underBinder -merge +onlyGivenNames x3
  try clear_value x3
  extract_lets -underBinder -merge +onlyGivenNames x4
  have h4 : Keeps ms false false s x4.1 := h.logWrite
  try clear_value x4
  exact Keeps.cond (by
    extract_lets -underBinder -merge +onlyGivenNames x5
    have h5 : Keeps ms false false s x5 := h4.raise.setF
    try clear_value x5
    extract_lets -underBinder -merge +onlyGivenNames x6
    have h6 : Keeps ms false false s x6 := Keeps.cond h5.setSlot h5
    try clear_value x6
    exact h6.beginStep) h4.applyFails

theorem Keeps.resolve {s e : State} (h : Keeps ms false false s e) : Keeps ms false false s (State.resolve e) := by
  delta State.resolve
  extract_lets -underBinder -merge +onlyGivenNames x0
  have h0 : Keeps ms false false s x0 := Keeps.cond h.setSlot h
  try clear_value x0
  split
  · exact h0.bootSlot
  · extract_lets -underBinder -merge +onlyGivenNames x1
    try clear_value x1
    extract_lets -underBinder -merge +onlyGivenNames x2
    have h2 : Keeps ms false false s x2 := h0.log
    try clear_value x2
    exact Keeps.cond (by
      extract_lets -underBinder -merge +onlyGivenNames x3
      have h3 : Keeps ms false false s x3.1 := h2.bootCheck
      try clear_value x3
      exact Keeps.cond (by
        extract_lets -underBinder -merge +onlyGivenNames x4
        try clear_value x4
        extract_lets -underBinder -merge +onlyGivenNames x5
        have h5 : Keeps ms false false s x5 := h3.setSlot
        try clear_value x5
        extract_lets -underBinder -merge +onlyGivenNames x6
        try clear_value x6
        extract_lets -underBinder -merge +onlyGivenNames x7
        have h7 : Keeps ms false false s x7 := h5.log.raise
        try clear_value x7
        exact h7.bootSlot) h3.redoApply) h2.bootSlot

theorem Keeps.readSfdp {s e : State} {a1} (h : Keeps ms mf ma s e) : Keeps ms mf ma s (State.readSfdp e a1).1 := by
  delta State.readSfdp
  exact Keeps.condL (Keeps.pairL h) (by
    split
    · exact Keeps.condL (Keeps.pairL h.setF) (Keeps.pairL h.raise)
    · exact Keeps.pairL h.raise)

theorem Keeps.execCoresLeaveReset {s e : State} {a0} {a1} {a2} (h : Keeps ms false false s e) : KeepsOut ms false false s (execCoresLeaveReset a0 a1 a2 e) := by
  delta execCoresLeaveReset
  exact KeepsOut.next (Keeps.cond h (by
    extract_lets -underBinder -merge +onlyGivenNames x0
    have h0 : Keeps ms false false s x0 := h.upd
    try clear_value x0
    extract_lets -underBinder -merge +onlyGivenNames x1
    have h1 : Keeps ms false false s x1 := h0.cpuSet
    try clear_value x1
    extract_lets -underBinder -merge +onlyGivenNames x2
    have h2 : Keeps ms false false s x2 := h1.raise.selfTest
    try clear_value x2
    extract_lets -underBinder -merge +onlyGivenNames x3
    have h3 : Keeps ms false false s x3.1 := h2.readSfdp
    try clear_value x3
    extract_lets -underBinder -merge +onlyGivenNames x4
    have h4 : Keeps ms false false s x4 := h3.otpCheck
    try clear_value x4
    extract_lets -underBinder -merge +onlyGivenNames x5
    have h5 : Keeps ms false false s x5 := h4.logFind
    try clear_value x5
    extract_lets -underBinder -merge +onlyGivenNames x6
    have h6 : Keeps ms false false s x6 := (Keeps.cond h5.rebuildLockout h5).showSlots
    try clear_value x6
    extract_lets -underBinder -merge +onlyGivenNames x7
    have h7 : Keeps ms false false s x7 := Keeps.cond h4.noImage (Keeps.cond h6.noImage h6.resolve)
    try clear_value x7
    extract_lets -underBinder -merge +onlyGivenNames x8
    have h8 : Keeps ms false false s x8 := h7.pmuSet
    try clear_value x8
    exact h8.upd))

theorem Keeps.startLoader {s e : State} {a1} {a2} (h : Keeps false mf ma s e) : Keeps false mf ma s (State.startLoader e a1 a2) := by
  delta State.startLoader
  extract_lets -underBinder -merge +onlyGivenNames x0
  have h0 : Keeps false mf ma s x0 := h.sramWrite
  try clear_value x0
  extract_lets -underBinder -merge +onlyGivenNames x1
  try clear_value x1
  extract_lets -underBinder -merge +onlyGivenNames x2
  have h2 : Keeps false mf ma s x2 := h0.cpuSet
  try clear_value x2
  extract_lets -underBinder -merge +onlyGivenNames x3
  have h3 : Keeps false mf ma s x3 := h2.wdtStart
  try clear_value x3
  exact Keeps.cond h3.setF.startC1 h3

theorem Keeps.showSelected {s e : State} {a1} {a2} {a3} (h : Keeps ms mf ma s e) : Keeps ms mf ma s (State.showSelected e a1 a2 a3) := by
  delta State.showSelected
  split
  · exact h.setFs
  · exact h.setFs

theorem Keeps.execBootLoaderStart {s e : State} (h : Keeps false mf ma s e) : KeepsOut false mf ma s (execBootLoaderStart e) := by
  delta execBootLoaderStart
  exact KeepsOut.next (Keeps.cond h (by
    extract_lets -underBinder -merge +onlyGivenNames x0
    try clear_value x0
    extract_lets -underBinder -merge +onlyGivenNames x1
    try clear_value x1
    extract_lets -underBinder -merge +onlyGivenNames x2
    try clear_value x2
    extract_lets -underBinder -merge +onlyGivenNames x3
    have h3 : Keeps false mf ma s x3 := h.showSelected.showSelected
    try clear_value x3
    extract_lets -underBinder -merge +onlyGivenNames x4
    have h4 : Keeps false mf ma s x4 := Keeps.cond h3.raise h3
    try clear_value x4
    split
    · exact h4.startLoader
    · exact h4.setF.raise.cpuSet))

theorem Keeps.recoveryByte {s e : State} {a1} (h : Keeps false mf ma s e) : Keeps false mf ma s (State.recoveryByte e a1) := by
  delta State.recoveryByte
  extract_lets -underBinder -merge +onlyGivenNames x0
  try clear_value x0
  extract_lets -underBinder -merge +onlyGivenNames x1
  try clear_value x1
  extract_lets -underBinder -merge +onlyGivenNames x2
  have h2 : Keeps false mf ma s x2 := h.cpuSet
  try clear_value x2
  extract_lets -underBinder -merge +onlyGivenNames x3
  have h3 : Keeps false mf ma s x3 := h.cpuSet
  try clear_value x3
  exact Keeps.cond h2 (Keeps.cond h3 (Keeps.cond h2 (by
    extract_lets -underBinder -merge +onlyGivenNames x4
    try clear_value x4
    exact Keeps.cond h.startLoader h3)))

theorem Keeps.netSet {s e : State} {a1} (h : Keeps ms mf ma s e) : Keeps ms mf ma s (State.netSet e a1) := by
  delta State.netSet
  exact h.upd

theorem Keeps.egress {s e : State} {a1} {a2} (h : Keeps ms mf ma s e) : Keeps ms mf ma s (State.egress e a1 a2) := by
  delta State.egress
  exact Keeps.cond h.netSet h

theorem Keeps.ringWrite {s e : State} {a1} {a2} (h : Keeps false mf ma s e) : Keeps false mf ma s (State.ringWrite e a1 a2) := by
  delta State.ringWrite
  exact Keeps.cond h.sramWrite h

theorem Keeps.ringNext {s e : State} {a1} (h : Keeps ms mf ma s e) : Keeps ms mf ma s (State.ringNext e a1) := by
  delta State.ringNext
  exact h.setF

theorem Keeps.ringFill {s e : State} {a1} {a2} {a3} {a4} (h : Keeps false mf ma s e) : Keeps false mf ma s (State.ringFill e a1 a2 a3 a4).1 := by
  delta State.ringFill
  extract_lets -underBinder -merge +onlyGivenNames x0
  try clear_value x0
  extract_lets -underBinder -merge +onlyGivenNames x1
  try clear_value x1
  exact Keeps.condL (Keeps.pairL h.satInc) (by
    extract_lets -underBinder -merge +onlyGivenNames x2
    try clear_value x2
    extract_lets -underBinder -merge +onlyGivenNames x3
    try clear_value x3
    extract_lets -underBinder -merge +onlyGivenNames x4
    try clear_value x4
    exact Keeps.condL (Keeps.pairL h.ringWrite.ringWrite.ringNext) (by
      extract_lets -underBinder -merge +onlyGivenNames x5
      have h5 : Keeps false mf ma s x5 := h.ringWrite
      try clear_value x5
      extract_lets -underBinder -merge +onlyGivenNames x6
      have h6 : Keeps false mf ma s x6 := h5.ringWrite
      try clear_value x6
      exact Keeps.pairL h6.ringWrite.ringNext))

theorem Keeps.netRingErr {s e : State} {a1} {a2} (h : Keeps ms mf ma s e) : Keeps ms mf ma s (State.netRingErr e a1 a2) := by
  delta State.netRingErr
  exact h.setF.sramUe.raiseInt

theorem Keeps.rxDeliver {s e : State} {a1} {a2} {a3} {a4} {a5} (h : Keeps false mf ma s e) : Keeps false mf ma s (State.rxDeliver e a1 a2 a3 a4 a5) := by
  delta State.rxDeliver
  exact Keeps.cond h.netRingErr (by
    split
    · exact ((Keeps.eqL h.ringFill ‹_›)).raiseInt
    · exact ((Keeps.eqL h.ringFill ‹_›)).flag
    · exact ((Keeps.eqL h.ringFill ‹_›)).flag)

theorem Keeps.txComplete {s e : State} {a1} {a2} (h : Keeps false mf ma s e) : Keeps false mf ma s (State.txComplete e a1 a2) := by
  delta State.txComplete
  extract_lets -underBinder -merge +onlyGivenNames x0
  try clear_value x0
  exact h.ringWrite.ringWrite.flag

theorem Keeps.txReject {s e : State} {a1} {a2} (h : Keeps false mf ma s e) : Keeps false mf ma s (State.txReject e a1 a2) := by
  delta State.txReject
  exact h.txComplete.satInc.raise

theorem Keeps.txTake {s e : State} (h : Keeps false mf ma s e) : Keeps false mf ma s (State.txTake e) := by
  delta State.txTake
  extract_lets -underBinder -merge +onlyGivenNames x0
  try clear_value x0
  extract_lets -underBinder -merge +onlyGivenNames x1
  try clear_value x1
  extract_lets -underBinder -merge +onlyGivenNames x2
  try clear_value x2
  extract_lets -underBinder -merge +onlyGivenNames x3
  try clear_value x3
  extract_lets -underBinder -merge +onlyGivenNames x4
  try clear_value x4
  extract_lets -underBinder -merge +onlyGivenNames x5
  try clear_value x5
  extract_lets -underBinder -merge +onlyGivenNames x6
  try clear_value x6
  extract_lets -underBinder -merge +onlyGivenNames x7
  have h7 : Keeps false mf ma s x7 := h.ringNext
  try clear_value x7
  exact Keeps.cond h7.txReject (Keeps.cond h7.txReject (Keeps.cond h7.txReject (by
    extract_lets -underBinder -merge +onlyGivenNames x8
    try clear_value x8
    extract_lets -underBinder -merge +onlyGivenNames x9
    try clear_value x9
    extract_lets -underBinder -merge +onlyGivenNames x10
    have h10 : Keeps false mf ma s x10 := h7.netSet
    try clear_value x10
    exact h10.forL (fun _ _ h11 => h11.egress))))

theorem Keeps.txPump {s e : State} {a0} (h : Keeps false mf ma s e) : Keeps false mf ma s (State.txPump a0 e) := by
  induction a0 generalizing e with
  | zero =>
    rw [State.txPump.eq_1]
    exact h
  | succ n ih =>
    rw [State.txPump.eq_2]
    exact Keeps.cond h (by
      apply ih
      exact h.txTake)

theorem Keeps.execTxTailWrite {s e : State} {a0} {a1} (h : Keeps false mf ma s e) : KeepsOut false mf ma s (execTxTailWrite a0 a1 e) := by
  delta execTxTailWrite
  exact KeepsOut.next (h.access (fun _ h0 => by
    extract_lets -underBinder -merge +onlyGivenNames x1
    have h1 : Keeps false mf ma s x1 := h0.setF
    try clear_value x1
    exact Keeps.cond h1 (Keeps.cond h1.netRingErr h1.txPump)))

theorem Keeps.txTrigger {s e : State} {a1} (h : Keeps false mf ma s e) : Keeps false mf ma s (State.txTrigger e a1) := by
  delta State.txTrigger
  exact Keeps.cond h.txTake.txPump h

theorem Keeps.execRxTailWrite {s e : State} {a0} {a1} (h : Keeps ms mf ma s e) : KeepsOut ms mf ma s (execRxTailWrite a0 a1 e) := by
  delta execRxTailWrite
  exact KeepsOut.next (h.access (fun _ h0 => h0.setF))

theorem Keeps.toPort2 {s e : State} {a1} {a2} {a3} (h : Keeps false mf ma s e) : Keeps false mf ma s (State.toPort2 e a1 a2 a3) := by
  delta State.toPort2
  exact Keeps.cond h.rxDeliver h

theorem Keeps.toMgmt {s e : State} {a1} {a2} {a3} {a4} {a5} (h : Keeps false mf ma s e) : Keeps false mf ma s (State.toMgmt e a1 a2 a3 a4 a5) := by
  delta State.toMgmt
  exact Keeps.cond h.rxDeliver h

theorem Keeps.ptpBad {s e : State} {a1} (h : Keeps ms mf ma s e) : Keeps ms mf ma s (State.ptpBad e a1) := by
  delta State.ptpBad
  exact h.raiseInt

theorem Keeps.syncFlood {s e : State} {a1} (h : Keeps ms mf ma s e) : Keeps ms mf ma s (State.syncFlood e a1).1 := by
  delta State.syncFlood
  extract_lets -underBinder -merge +onlyGivenNames x0
  try clear_value x0
  exact Keeps.pairL h.timSet

theorem Keeps.ptpFrame {s e : State} {a1} {a2} {a3} {a4} (h : Keeps false mf ma s e) : Keeps false mf ma s (State.ptpFrame e a1 a2 a3 a4) := by
  delta State.ptpFrame
  extract_lets +onlyGivenNames x0 x1 x2 x3 x4 x5 x6
  have h6 : Keeps false mf ma s x6.1 := Keeps.condL h.syncSeen.syncFlood h
  clear_value x6
  extract_lets +onlyGivenNames x7 x8 x9 x10
  have h8 : Keeps false mf ma s x8 := Keeps.cond h6.raise h6
  have h9 : ∀ y, Keeps false mf ma s y → Keeps false mf ma s (x9 y) := fun _ k => Keeps.cond k k.toMgmt
  have h10 : ∀ y z, Keeps false mf ma s y → Keeps false mf ma s (x10 y z) := fun _ _ k => h9 _ k.egress
  clear_value x10 x9 x8
  exact Keeps.cond h8.ptpBad (Keeps.cond (h10 _ _ h8) (Keeps.cond (Keeps.cond h8.ptpBad (h10 _ _ h8)) (Keeps.cond (h9 _ h8)
    (Keeps.cond (h10 _ _ h8) (Keeps.cond h8.ptpBad (h10 _ _ h8))))))

theorem Keeps.learnSrc {s e : State} {a1} {a2} (h : Keeps ms mf ma s e) : Keeps ms mf ma s (State.learnSrc e a1 a2) := by
  delta State.learnSrc
  extract_lets -underBinder -merge +onlyGivenNames x0
  try clear_value x0
  exact Keeps.cond h (by
    extract_lets -underBinder -merge +onlyGivenNames x1
    try clear_value x1
    exact Keeps.cond h h.netSet.arm)

theorem Keeps.stormCount {s e : State} {a1} (h : Keeps ms mf ma s e) : Keeps ms mf ma s (State.stormCount e a1).1 := by
  delta State.stormCount
  extract_lets -underBinder -merge +onlyGivenNames x0
  have h0 : Keeps ms mf ma s x0 := Keeps.cond h h.arm
  try clear_value x0
  extract_lets -underBinder -merge +onlyGivenNames x1
  try clear_value x1
  exact Keeps.pairL h0.netSet

theorem Keeps.ordinary {s e : State} {a1} {a2} {a3} (h : Keeps false mf ma s e) : Keeps false mf ma s (State.ordinary e a1 a2 a3) := by
  delta State.ordinary
  extract_lets -underBinder -merge +onlyGivenNames x0
  have h0 : Keeps false mf ma s x0.1 := Keeps.condL h.stormCount (Keeps.pairL h)
  try clear_value x0
  extract_lets -underBinder -merge +onlyGivenNames x1
  have h1 : Keeps false mf ma s x1 := h0
  try clear_value x1
  exact Keeps.cond h1.satInc.raise (by
    extract_lets -underBinder -merge +onlyGivenNames x2
    have h2 : Keeps false mf ma s x2 := h1.learnSrc
    try clear_value x2
    extract_lets -underBinder -merge +onlyGivenNames x3
    have h3 : Keeps false mf ma s x3 := Keeps.cond h2.satInc h2
    try clear_value x3
    exact Keeps.cond h3.toPort2 (Keeps.cond h3.egress.toPort2 (Keeps.cond h3 h3.egress)))

theorem Keeps.classify {s e : State} {a1} {a2} {a3} (h : Keeps false mf ma s e) : Keeps false mf ma s (State.classify e a1 a2 a3) := by
  delta State.classify
  exact Keeps.cond (Keeps.cond h.netSet h) (by
    split
    · exact Keeps.cond h.ptpFrame h.egress.ptpBad
    · exact Keeps.cond h.toMgmt h.ordinary)

theorem Keeps.execFrameReceived {s e : State} {a0} {a1} {a2} {a3} (h : Keeps false mf ma s e) : KeepsOut false mf ma s (execFrameReceived a0 a1 a2 a3 e) := by
  delta execFrameReceived
  exact KeepsOut.next (by
    extract_lets -underBinder -merge +onlyGivenNames x0
    try clear_value x0
    extract_lets -underBinder -merge +onlyGivenNames x1
    try clear_value x1
    exact Keeps.cond h (Keeps.cond h.satInc.raise (Keeps.cond h.satInc.raise (by
      extract_lets -underBinder -merge +onlyGivenNames x2
      have h2 : Keeps false mf ma s x2 := h.wrapInc
      try clear_value x2
      exact Keeps.cond h2.satInc h2.classify))))

theorem Keeps.correct {s e : State} {a1} {a2} {a3} (h : Keeps ms mf ma s e) : Keeps ms mf ma s (State.correct e a1 a2 a3).1 := by
  delta State.correct
  split
  · exact Keeps.pairL h
  · extract_lets -underBinder -merge +onlyGivenNames x0
    try clear_value x0
    extract_lets -underBinder -merge +onlyGivenNames x1
    try clear_value x1
    extract_lets -underBinder -merge +onlyGivenNames x2
    try clear_value x2
    extract_lets -underBinder -merge +onlyGivenNames x3
    have h3 : Keeps ms mf ma s x3 := h.wrapInc
    try clear_value x3
    exact Keeps.pairL (Keeps.cond h3.ptpBad h3)

theorem Keeps.fupDrop {s e : State} {a1} (h : Keeps ms mf ma s e) : Keeps ms mf ma s (State.fupDrop e a1) := by
  delta State.fupDrop
  exact h.netSet.disarm

theorem Keeps.fupRecord {s e : State} {a1} {a2} {a3} (h : Keeps ms mf ma s e) : Keeps ms mf ma s (State.fupRecord e a1 a2 a3) := by
  delta State.fupRecord
  split
  · exact h.netSet.arm
  · exact h

theorem Keeps.txLeft {s e : State} {a1} {a2} (h : Keeps false mf ma s e) : Keeps false mf ma s (State.txLeft e a1 a2) := by
  delta State.txLeft
  split
  · exact h
  · extract_lets -underBinder -merge +onlyGivenNames x0
    try clear_value x0
    extract_lets -underBinder -merge +onlyGivenNames x1
    have h1 : Keeps false mf ma s x1 := Keeps.cond h (Keeps.cond h.setF h.ringWrite)
    try clear_value x1
    extract_lets -underBinder -merge +onlyGivenNames x2
    try clear_value x2
    extract_lets -underBinder -merge +onlyGivenNames x3
    have h3 : Keeps false mf ma s x3 := h1.netSet
    try clear_value x3
    exact Keeps.cond h3.txComplete h3

theorem Keeps.sendFrame {s e : State} {a1} {a2} (h : Keeps false mf ma s e) : Keeps false mf ma s (State.sendFrame e a1 a2) := by
  delta State.sendFrame
  extract_lets -underBinder -merge +onlyGivenNames x0
  try clear_value x0
  extract_lets -underBinder -merge +onlyGivenNames x1
  have h1 : Keeps false mf ma s x1.1 := by
    unfold x1
    split
    · exact h.correct
    · exact Keeps.pairL h.fupRecord
    · split
      · exact h.fupDrop.correct
      · exact Keeps.pairL h
    · exact Keeps.pairL h
  try clear_value x1
  extract_lets -underBinder -merge +onlyGivenNames x2
  have h2 : Keeps false mf ma s x2 := h1.netSet
  try clear_value x2
  split
  · exact h2.txLeft
  · exact h2

theorem Keeps.sendNext {s e : State} {a0} {a1} (h : Keeps false mf ma s e) : Keeps false mf ma s (State.sendNext a0 a1 e) := by
  induction a0 generalizing a1 e with
  | zero =>
    rw [State.sendNext.eq_1]
    exact h
  | succ n ih =>
    rw [State.sendNext.eq_2]
    split
    · exact h
    · exact Keeps.cond (by
        apply ih
        exact h.netSet.satInc.ptpBad) h.netSet.sendFrame

theorem Keeps.execFrameTransmitted {s e : State} {a0} (h : Keeps false mf ma s e) : KeepsOut false mf ma s (execFrameTransmitted a0 e) := by
  delta execFrameTransmitted
  exact KeepsOut.next (Keeps.cond h.sendNext h)

theorem Keeps.execLearnAge {s e : State} {a0} (h : Keeps ms mf ma s e) : KeepsOut ms mf ma s (execLearnAge a0 e) := by
  delta execLearnAge
  exact KeepsOut.next (Keeps.cond h.disarm.netSet h)

theorem Keeps.execStormWindow {s e : State} {a0} (h : Keeps ms mf ma s e) : KeepsOut ms mf ma s (execStormWindow a0 e) := by
  delta execStormWindow
  exact KeepsOut.next (Keeps.cond h.rearm.netSet h)

theorem Keeps.execFupEntryExpiry {s e : State} {a0} (h : Keeps ms mf ma s e) : KeepsOut ms mf ma s (execFupEntryExpiry a0 e) := by
  delta execFupEntryExpiry
  exact KeepsOut.next (Keeps.cond h.fupDrop h)

theorem Keeps.mdioStart {s e : State} {a1} {a2} {a3} (h : Keeps ms mf ma s e) : Keeps ms mf ma s (State.mdioStart e a1 a2 a3) := by
  delta State.mdioStart
  exact Keeps.cond h h.setF.netSet

theorem Keeps.execC22Write {s e : State} {a0} {a1} (h : Keeps ms mf ma s e) : KeepsOut ms mf ma s (execC22Write a0 a1 e) := by
  delta execC22Write
  exact KeepsOut.next (h.access (fun _ h0 => h0.mdioStart))

theorem Keeps.execC22Read {s e : State} {a0} {a1} (h : Keeps ms mf ma s e) : KeepsOut ms mf ma s (execC22Read a0 a1 e) := by
  delta execC22Read
  exact KeepsOut.next (h.access (fun _ h0 => h0.mdioStart))

theorem Keeps.execC45Address {s e : State} {a0} {a1} (h : Keeps ms mf ma s e) : KeepsOut ms mf ma s (execC45Address a0 a1 e) := by
  delta execC45Address
  exact KeepsOut.next (h.access (fun _ h0 => h0.mdioStart))

theorem Keeps.execC45Write {s e : State} {a0} {a1} (h : Keeps ms mf ma s e) : KeepsOut ms mf ma s (execC45Write a0 a1 e) := by
  delta execC45Write
  exact KeepsOut.next (h.access (fun _ h0 => h0.mdioStart))

theorem Keeps.execC45Read {s e : State} {a0} {a1} (h : Keeps ms mf ma s e) : KeepsOut ms mf ma s (execC45Read a0 a1 e) := by
  delta execC45Read
  exact KeepsOut.next (h.access (fun _ h0 => h0.mdioStart))

theorem Keeps.execC45ReadIncrement {s e : State} {a0} {a1} (h : Keeps ms mf ma s e) : KeepsOut ms mf ma s (execC45ReadIncrement a0 a1 e) := by
  delta execC45ReadIncrement
  exact KeepsOut.next (h.access (fun _ h0 => h0.mdioStart))

theorem Keeps.execMdioDone {s e : State} {a0} (h : Keeps ms mf ma s e) : KeepsOut ms mf ma s (execMdioDone a0 e) := by
  delta execMdioDone
  exact KeepsOut.next (by
    split
    · exact h
    · extract_lets -underBinder -merge +onlyGivenNames x0
      have h0 : Keeps ms mf ma s x0 := h.netSet.setFlags
      try clear_value x0
      exact Keeps.cond (by
        split
        · exact h0.setF
        · exact h0.setFs.raise) h0)

theorem Keeps.crnSet {s e : State} {a1} (h : Keeps ms mf ma s e) : Keeps ms mf ma s (State.crnSet e a1) := by
  delta State.crnSet
  exact h.upd

theorem Keeps.setW2 {s e : State} {a1} {a2} (h : Keeps ms mf ma s e) : Keeps ms mf ma s (State.setW2 e a1 a2) := by
  delta State.setW2
  exact h.setFs

theorem Keeps.crnCount {s e : State} (h : Keeps ms mf ma s e) : Keeps ms mf ma s (State.crnCount e) := by
  delta State.crnCount
  exact h.crnSet

theorem Keeps.crnSendOn {s e : State} {a1} {a2} {a3} {a4} (h : Keeps ms mf ma s e) : Keeps ms mf ma s (State.crnSendOn e a1 a2 a3 a4) := by
  delta State.crnSendOn
  extract_lets -underBinder -merge +onlyGivenNames x0
  try clear_value x0
  exact (h.forL (fun _ _ h1 => h1.egress)).crnCount

theorem Keeps.crnSend {s e : State} {a1} {a2} {a3} (h : Keeps ms mf ma s e) : Keeps ms mf ma s (State.crnSend e a1 a2 a3) := by
  delta State.crnSend
  exact h.crnSendOn

theorem Keeps.crnFault {s e : State} {a1} {a2} {a3} {a4} (h : Keeps ms mf ma s e) : Keeps ms mf ma s (State.crnFault e a1 a2 a3 a4) := by
  delta State.crnFault
  exact h.crnSend

theorem Keeps.sendClaim {s e : State} (h : Keeps ms mf ma s e) : Keeps ms mf ma s (State.sendClaim e) := by
  delta State.sendClaim
  exact h.crnSend.arm

theorem Keeps.sendYield {s e : State} {a1} (h : Keeps ms mf ma s e) : Keeps ms mf ma s (State.sendYield e a1) := by
  delta State.sendYield
  exact h.crnSend.raise

theorem Keeps.sendJoin {s e : State} (h : Keeps ms mf ma s e) : Keeps ms mf ma s (State.sendJoin e) := by
  delta State.sendJoin
  extract_lets -underBinder -merge +onlyGivenNames x0
  try clear_value x0
  exact h.crnSend.arm

theorem Keeps.sendHello {s e : State} {a1} (h : Keeps ms mf ma s e) : Keeps ms mf ma s (State.sendHello e a1) := by
  delta State.sendHello
  extract_lets -underBinder -merge +onlyGivenNames x0
  try clear_value x0
  exact h.egress.crnCount.crnSet

theorem Keeps.sendBeat {s e : State} (h : Keeps ms mf ma s e) : Keeps ms mf ma s (State.sendBeat e) := by
  delta State.sendBeat
  extract_lets -underBinder -merge +onlyGivenNames x0
  have h0 : Keeps ms mf ma s x0.2 := h.draw
  try clear_value x0
  exact h0.crnSend.crnSet

theorem Keeps.sendRoster {s e : State} {a1} (h : Keeps ms mf ma s e) : Keeps ms mf ma s (State.sendRoster e a1) := by
  delta State.sendRoster
  exact h.crnSend

theorem Keeps.crnSelf {s e : State} (h : Keeps ms mf ma s e) : Keeps ms mf ma s (State.crnSelf e) := by
  delta State.crnSelf
  extract_lets -underBinder -merge +onlyGivenNames x0
  try clear_value x0
  extract_lets -underBinder -merge +onlyGivenNames x1
  try clear_value x1
  extract_lets -underBinder -merge +onlyGivenNames x2
  try clear_value x2
  extract_lets -underBinder -merge +onlyGivenNames x3
  try clear_value x3
  extract_lets -underBinder -merge +onlyGivenNames x4
  have h4 : Keeps ms mf ma s x4 := h.setFs
  try clear_value x4
  extract_lets -underBinder -merge +onlyGivenNames x5
  have h5 : Keeps ms mf ma s x5 := h4.setW2
  try clear_value x5
  extract_lets -underBinder -merge +onlyGivenNames x6
  have h6 : Keeps ms mf ma s x6 := h5.setW2
  try clear_value x6
  split
  · exact h6.crnSet
  · exact h6

theorem Keeps.takeRoster {s e : State} {a1} {a2} {a3} {a4} (h : Keeps ms mf ma s e) : Keeps ms mf ma s (State.takeRoster e a1 a2 a3 a4) := by
  delta State.takeRoster
  extract_lets -underBinder -merge +onlyGivenNames x0
  have h0 : Keeps ms mf ma s x0 := Keeps.cond h h.flag
  try clear_value x0
  extract_lets -underBinder -merge +onlyGivenNames x1
  have h1 : Keeps ms mf ma s x1 := h0.crnSet.setFs
  try clear_value x1
  extract_lets -underBinder -merge +onlyGivenNames x2
  have h2 : Keeps ms mf ma s x2 := h1.clearRegs
  try clear_value x2
  extract_lets -underBinder -merge +onlyGivenNames x3
  try clear_value x3
  exact (h2.forN (fun _ _ h4 => h4.setF)).crnSelf

theorem Keeps.noRoster {s e : State} (h : Keeps ms mf ma s e) : Keeps ms mf ma s (State.noRoster e) := by
  delta State.noRoster
  extract_lets -underBinder -merge +onlyGivenNames x0
  try clear_value x0
  extract_lets -underBinder -merge +onlyGivenNames x1
  have h1 : Keeps ms mf ma s x1 := h.crnSet.takeRoster.setW2
  try clear_value x1
  exact h1.crnSet

theorem Keeps.crnTo {s e : State} {a1} (h : Keeps ms mf ma s e) : Keeps ms mf ma s (State.crnTo e a1) := by
  delta State.crnTo
  extract_lets -underBinder -merge +onlyGivenNames x0
  have h0 : Keeps ms mf ma s x0 := h.upd
  try clear_value x0
  extract_lets -underBinder -merge +onlyGivenNames x1
  have h1 : Keeps ms mf ma s x1 := Keeps.cond h0 h0.flag
  try clear_value x1
  exact h1.setF.crnSet

theorem Keeps.toListen {s e : State} (h : Keeps ms mf ma s e) : Keeps ms mf ma s (State.toListen e) := by
  delta State.toListen
  extract_lets -underBinder -merge +onlyGivenNames x0
  have h0 : Keeps ms mf ma s x0 := h.crnTo.noRoster
  try clear_value x0
  exact Keeps.cond h0 h0.arm

theorem Keeps.toClaiming {s e : State} (h : Keeps ms mf ma s e) : Keeps ms mf ma s (State.toClaiming e) := by
  delta State.toClaiming
  exact h.crnTo.sendClaim

theorem Keeps.toFollow {s e : State} {a1} (h : Keeps ms mf ma s e) : Keeps ms mf ma s (State.toFollow e a1) := by
  delta State.toFollow
  exact h.crnTo.crnSet.arm

theorem Keeps.toJoining {s e : State} {a1} {a2} (h : Keeps ms mf ma s e) : Keeps ms mf ma s (State.toJoining e a1 a2) := by
  delta State.toJoining
  extract_lets -underBinder -merge +onlyGivenNames x0
  have h0 : Keeps ms mf ma s x0 := h.crnTo.noRoster.setW2
  try clear_value x0
  exact h0.crnSet.sendJoin

theorem Keeps.crnDown {s e : State} (h : Keeps ms mf ma s e) : Keeps ms mf ma s (State.crnDown e) := by
  delta State.crnDown
  exact h.crnTo.noRoster

theorem Keeps.keyDup {s e : State} (h : Keeps ms mf ma s e) : Keeps ms mf ma s (State.keyDup e) := by
  delta State.keyDup
  extract_lets -underBinder -merge +onlyGivenNames x0
  have h0 : Keeps ms mf ma s x0 := h.raise
  try clear_value x0
  extract_lets -underBinder -merge +onlyGivenNames x1
  try clear_value x1
  extract_lets -underBinder -merge +onlyGivenNames x2
  have h2 : Keeps ms mf ma s x2 := h0.crnSet
  try clear_value x2
  exact Keeps.cond h2.crnSet.toListen (by
    extract_lets -underBinder -merge +onlyGivenNames x3
    have h3 : Keeps ms mf ma s x3.2 := h2.drawBelow
    try clear_value x3
    exact h3.crnTo.noRoster.arm)

theorem Keeps.crnPlace {s e : State} (h : Keeps ms mf ma s e) : Keeps ms mf ma s (State.crnPlace e) := by
  delta State.crnPlace
  extract_lets -underBinder -merge +onlyGivenNames x0
  try clear_value x0
  extract_lets -underBinder -merge +onlyGivenNames x1
  try clear_value x1
  extract_lets -underBinder -merge +onlyGivenNames x2
  have h2 : Keeps ms mf ma s x2 := h.crnSet
  try clear_value x2
  split
  · exact Keeps.cond h2.crnFault.raise h2
  · exact h2

theorem Keeps.takeover {s e : State} {a1} (h : Keeps ms mf ma s e) : Keeps ms mf ma s (State.takeover e a1) := by
  delta State.takeover
  split
  · exact h
  · extract_lets -underBinder -merge +onlyGivenNames x0
    try clear_value x0
    extract_lets -underBinder -merge +onlyGivenNames x1
    have h1 : Keeps ms mf ma s x1 := h.crnSet
    try clear_value x1
    exact h1.crnFault.raise

theorem Keeps.crnFill {s e : State} (h : Keeps ms mf ma s e) : Keeps ms mf ma s (State.crnFill e) := by
  delta State.crnFill
  exact h.forN (fun _ _ h0 => Keeps.cond h0.takeover h0)

theorem Keeps.crnPublish {s e : State} (h : Keeps ms mf ma s e) : Keeps ms mf ma s (State.crnPublish e) := by
  delta State.crnPublish
  extract_lets -underBinder -merge +onlyGivenNames x0
  try clear_value x0
  extract_lets -underBinder -merge +onlyGivenNames x1
  have h1 : Keeps ms mf ma s x1 := h.takeRoster
  try clear_value x1
  extract_lets -underBinder -merge +onlyGivenNames x2
  have h2 : Keeps ms mf ma s x2 := h1.crnSet.arm
  try clear_value x2
  exact h2.sendRoster.raise

theorem Keeps.crnUpdate {s e : State} (h : Keeps ms mf ma s e) : Keeps ms mf ma s (State.crnUpdate e) := by
  delta State.crnUpdate
  extract_lets -underBinder -merge +onlyGivenNames x0
  have h0 : Keeps ms mf ma s x0 := h.crnPlace.crnFill
  try clear_value x0
  exact Keeps.cond h0 (Keeps.cond h0.crnSet h0.crnPublish)

theorem Keeps.toHead {s e : State} (h : Keeps ms mf ma s e) : Keeps ms mf ma s (State.toHead e) := by
  delta State.toHead
  extract_lets -underBinder -merge +onlyGivenNames x0
  try clear_value x0
  extract_lets -underBinder -merge +onlyGivenNames x1
  have h1 : Keeps ms mf ma s x1 := h.crnTo.noRoster.setW2
  try clear_value x1
  extract_lets -underBinder -merge +onlyGivenNames x2
  have h2 : Keeps ms mf ma s x2 := h1.crnSet.setF
  try clear_value x2
  extract_lets -underBinder -merge +onlyGivenNames x3
  have h3 : Keeps ms mf ma s x3 := h2.arm.arm
  try clear_value x3
  exact h3.raise.crnPlace.crnFill.crnPublish

theorem Keeps.headNbr {s e : State} (h : Keeps ms mf ma s e) : Keeps ms mf ma s (State.headNbr e) := by
  delta State.headNbr
  exact Keeps.cond h.crnSet.crnUpdate h

theorem Keeps.nbrLost {s e : State} {a1} (h : Keeps ms mf ma s e) : Keeps ms mf ma s (State.nbrLost e a1) := by
  delta State.nbrLost
  extract_lets -underBinder -merge +onlyGivenNames x0
  try clear_value x0
  extract_lets -underBinder -merge +onlyGivenNames x1
  have h1 : Keeps ms mf ma s x1 := h.disarm.crnSet
  try clear_value x1
  exact Keeps.cond h1 (Keeps.cond h1.crnFault h1.headNbr)

theorem Keeps.crnLinkUp {s e : State} {a1} (h : Keeps ms mf ma s e) : Keeps ms mf ma s (State.crnLinkUp e a1) := by
  delta State.crnLinkUp
  exact Keeps.cond h (by
    extract_lets -underBinder -merge +onlyGivenNames x0
    have h0 : Keeps ms mf ma s x0 := h.arm
    try clear_value x0
    exact Keeps.cond h0.toListen h0)

theorem Keeps.crnLinkDown {s e : State} {a1} (h : Keeps ms mf ma s e) : Keeps ms mf ma s (State.crnLinkDown e a1) := by
  delta State.crnLinkDown
  extract_lets -underBinder -merge +onlyGivenNames x0
  have h0 : Keeps ms mf ma s x0 := h.disarm
  try clear_value x0
  extract_lets -underBinder -merge +onlyGivenNames x1
  have h1 : Keeps ms mf ma s x1 := Keeps.cond h0 h0.crnDown
  try clear_value x1
  exact h1.nbrLost

theorem Keeps.crnEnable {s e : State} {a1} (h : Keeps ms mf ma s e) : Keeps ms mf ma s (State.crnEnable e a1) := by
  delta State.crnEnable
  exact Keeps.cond h (Keeps.cond (by
    extract_lets -underBinder -merge +onlyGivenNames x0
    have h0 : Keeps ms mf ma s x0 := h.setF
    try clear_value x0
    exact h0.forL (fun _ _ h1 => h1.crnLinkUp)) (by
    extract_lets -underBinder -merge +onlyGivenNames x2
    have h2 : Keeps ms mf ma s x2 := h.crnDown.setF
    try clear_value x2
    extract_lets -underBinder -merge +onlyGivenNames x3
    have h3 : Keeps ms mf ma s x3 := h2.upd
    try clear_value x3
    exact h3.upd))

theorem Keeps.crnBad {s e : State} {a1} {a2} (h : Keeps ms mf ma s e) : Keeps ms mf ma s (State.crnBad e a1 a2) := by
  delta State.crnBad
  exact h.satInc.raise

theorem Keeps.crnFlood {s e : State} {a1} (h : Keeps ms mf ma s e) : Keeps ms mf ma s (State.crnFlood e a1).1 := by
  delta State.crnFlood
  extract_lets -underBinder -merge +onlyGivenNames x0
  try clear_value x0
  extract_lets -underBinder -merge +onlyGivenNames x1
  try clear_value x1
  extract_lets -underBinder -merge +onlyGivenNames x2
  try clear_value x2
  exact Keeps.pairL h.crnSet

theorem Keeps.execCairnFrame {s e : State} (h : Keeps ms mf ma s e) : KeepsOut ms mf ma s (execCairnFrame e) := by
  delta execCairnFrame
  exact KeepsOut.next (by
    split
    · exact h
    · extract_lets -underBinder -merge +onlyGivenNames x0
      have h0 : Keeps ms mf ma s x0 := h.netSet
      try clear_value x0
      extract_lets -underBinder -merge +onlyGivenNames x1
      try clear_value x1
      extract_lets -underBinder -merge +onlyGivenNames x2
      try clear_value x2
      extract_lets -underBinder -merge +onlyGivenNames x3
      try clear_value x3
      extract_lets -underBinder -merge +onlyGivenNames x4
      try clear_value x4
      extract_lets -underBinder -merge +onlyGivenNames x5
      try clear_value x5
      extract_lets -underBinder -merge +onlyGivenNames x6
      try clear_value x6
      extract_lets -underBinder -merge +onlyGivenNames x7
      try clear_value x7
      extract_lets -underBinder -merge +onlyGivenNames x8
      try clear_value x8
      extract_lets -underBinder -merge +onlyGivenNames x9
      try clear_value x9
      extract_lets -underBinder -merge +onlyGivenNames x10
      try clear_value x10
      exact Keeps.cond h0 (Keeps.cond h0.crnBad (Keeps.cond h0.crnBad (Keeps.cond h0.crnBad (by
        extract_lets -underBinder -merge +onlyGivenNames x11
        have h11 : Keeps ms mf ma s x11.1 := Keeps.condL (Keeps.pairL h0) h0.crnFlood
        try clear_value x11
        extract_lets -underBinder -merge +onlyGivenNames x12
        have h12 : Keeps ms mf ma s x12 := h11
        try clear_value x12
        exact Keeps.cond h12.raise (by
          extract_lets -underBinder -merge +onlyGivenNames x13
          try clear_value x13
          exact Keeps.cond (Keeps.cond h12.crnSet h12.satInc.raise) (by
            extract_lets -underBinder -merge +onlyGivenNames x14
            have h14 : Keeps ms mf ma s x14 := h12.crnSet
            try clear_value x14
            extract_lets -underBinder -merge +onlyGivenNames x15
            have h15 : Keeps ms mf ma s x15 := Keeps.cond h14.crnSet h14
            try clear_value x15
            exact Keeps.cond h15.egress h15)))))))

theorem Keeps.crnTake {s e : State} {a1} (h : Keeps ms mf ma s e) : KeepsOptR ms mf ma s (State.crnTake e a1) := by
  intro v t k
  simp only [State.crnTake, Option.map_eq_some_iff, Prod.mk.injEq] at k
  obtain ⟨m, -, -, rfl⟩ := k
  exact h.crnSet

theorem Keeps.execClaim {s e : State} (h : Keeps ms mf ma s e) : KeepsOut ms mf ma s (execClaim e) := by
  delta execClaim
  exact KeepsOut.next (by
    split
    · exact h
    · extract_lets -underBinder -merge +onlyGivenNames x0
      try clear_value x0
      extract_lets -underBinder -merge +onlyGivenNames x1
      try clear_value x1
      exact Keeps.cond ((h.crnTake.out ‹_›)) (Keeps.cond ((h.crnTake.out ‹_›)) (Keeps.cond (((h.crnTake.out ‹_›)).keyDup) (Keeps.cond (Keeps.cond ((h.crnTake.out ‹_›)) (Keeps.cond (((h.crnTake.out ‹_›)).toClaiming) (((h.crnTake.out ‹_›)).toFollow))) (Keeps.cond (Keeps.cond ((((h.crnTake.out ‹_›)).sendYield).toFollow) ((h.crnTake.out ‹_›))) (Keeps.cond (Keeps.cond ((((h.crnTake.out ‹_›)).sendYield).toFollow) (((h.crnTake.out ‹_›)).arm)) (Keeps.cond (((h.crnTake.out ‹_›)).sendRoster) ((h.crnTake.out ‹_›)))))))))

theorem Keeps.execYield {s e : State} (h : Keeps ms mf ma s e) : KeepsOut ms mf ma s (execYield e) := by
  delta execYield
  exact KeepsOut.next (by
    split
    · exact h
    · exact Keeps.cond (((h.crnTake.out ‹_›)).satInc) ((h.crnTake.out ‹_›)))

theorem Keeps.execTListen {s e : State} (h : Keeps ms mf ma s e) : KeepsOut ms mf ma s (execTListen e) := by
  delta execTListen
  exact KeepsOut.next (Keeps.cond h.toClaiming h)

theorem Keeps.execClaimWait {s e : State} (h : Keeps ms mf ma s e) : KeepsOut ms mf ma s (execClaimWait e) := by
  delta execClaimWait
  exact KeepsOut.next (by
    extract_lets -underBinder -merge +onlyGivenNames x0
    try clear_value x0
    exact Keeps.cond h.toHead h)

theorem Keeps.execFollowTo {s e : State} (h : Keeps ms mf ma s e) : KeepsOut ms mf ma s (execFollowTo e) := by
  delta execFollowTo
  exact KeepsOut.next (Keeps.cond h.toListen h)

theorem Keeps.execBackoff {s e : State} (h : Keeps ms mf ma s e) : KeepsOut ms mf ma s (execBackoff e) := by
  delta execBackoff
  exact KeepsOut.next (Keeps.cond h.toListen h)

theorem Keeps.execRestart {s e : State} (h : Keeps ms mf ma s e) : KeepsOut ms mf ma s (execRestart e) := by
  delta execRestart
  exact KeepsOut.next (h.access (fun _ h0 => by
    extract_lets -underBinder -merge +onlyGivenNames x1
    have h1 : Keeps ms mf ma s x1 := h0.crnSet
    try clear_value x1
    exact Keeps.cond h1.toListen h1))

theorem Keeps.toMember {s e : State} (h : Keeps ms mf ma s e) : Keeps ms mf ma s (State.toMember e) := by
  delta State.toMember
  exact h.crnTo.arm.raise

theorem Keeps.execRoster {s e : State} (h : Keeps ms mf ma s e) : KeepsOut ms mf ma s (execRoster e) := by
  delta execRoster
  refine KeepsOut.next ?_
  split
  · exact h
  · next m x hx =>
    have h0 : Keeps ms mf ma s x := h.crnTake.out hx
    extract_lets -underBinder +onlyGivenNames l prio st take
    have ht : Keeps ms mf ma s (take x) := h0.takeRoster
    clear_value take st prio l
    exact Keeps.cond h0 (Keeps.cond h0.toJoining (Keeps.cond (Keeps.cond h0 (Keeps.cond h0.satInc (by
      extract_lets y z
      exact Keeps.cond ht.crnSet.toMember.arm ht.crnSet)))
      (Keeps.cond (Keeps.cond (Keeps.cond ht.crnSet.arm h0.satInc) (Keeps.cond h0.toJoining h0))
        (Keeps.cond (Keeps.cond h0.sendYield.toJoining h0) h0))))

theorem Keeps.execJoinRetry {s e : State} (h : Keeps ms mf ma s e) : KeepsOut ms mf ma s (execJoinRetry e) := by
  delta execJoinRetry
  exact KeepsOut.next (Keeps.cond (Keeps.cond h.crnSet.sendJoin h.toListen) h)

theorem Keeps.rankConflict {s e : State} {a1} {a2} (h : Keeps ms mf ma s e) : Keeps ms mf ma s (State.rankConflict e a1 a2) := by
  delta State.rankConflict
  exact h.crnFault.raise

theorem Keeps.execCairnJoin {s e : State} (h : Keeps ms mf ma s e) : KeepsOut ms mf ma s (execCairnJoin e) := by
  delta execCairnJoin
  exact KeepsOut.next (by
    split
    · exact h
    · exact Keeps.cond ((h.crnTake.out ‹_›)) (by
        extract_lets -underBinder -merge +onlyGivenNames x0
        try clear_value x0
        extract_lets -underBinder -merge +onlyGivenNames x1
        try clear_value x1
        extract_lets -underBinder -merge +onlyGivenNames x2
        try clear_value x2
        extract_lets -underBinder -merge +onlyGivenNames x3
        try clear_value x3
        extract_lets -underBinder -merge +onlyGivenNames x4
        try clear_value x4
        extract_lets -underBinder -merge +onlyGivenNames x5
        try clear_value x5
        extract_lets -underBinder -merge +onlyGivenNames x6
        try clear_value x6
        exact Keeps.cond ((((h.crnTake.out ‹_›)).crnFault).raise) (Keeps.cond ((h.crnTake.out ‹_›)) (by
          extract_lets -underBinder -merge +onlyGivenNames x7
          have h7 : Keeps ms mf ma s x7 := ((h.crnTake.out ‹_›)).arm
          try clear_value x7
          extract_lets -underBinder -merge +onlyGivenNames x8
          try clear_value x8
          extract_lets -underBinder -merge +onlyGivenNames x9
          have h9 : Keeps ms mf ma s x9 := Keeps.cond h7.crnFault.raise h7
          try clear_value x9
          extract_lets -underBinder -merge +onlyGivenNames x10
          try clear_value x10
          extract_lets -underBinder -merge +onlyGivenNames x11
          try clear_value x11
          extract_lets -underBinder -merge +onlyGivenNames x12
          try clear_value x12
          extract_lets -underBinder -merge +onlyGivenNames x13
          try clear_value x13
          extract_lets -underBinder -merge +onlyGivenNames x14
          try clear_value x14
          extract_lets -underBinder -merge +onlyGivenNames x15
          try clear_value x15
          extract_lets -underBinder -merge +onlyGivenNames x16
          try clear_value x16
          split
          · exact h9.crnSet.rankConflict.crnUpdate
          · exact h9.crnSet.rankConflict.crnUpdate
          · exact h9.crnSet.crnUpdate))))

theorem Keeps.execRosterPublish {s e : State} (h : Keeps ms mf ma s e) : KeepsOut ms mf ma s (execRosterPublish e) := by
  delta execRosterPublish
  exact KeepsOut.next (Keeps.cond (by
    extract_lets -underBinder -merge +onlyGivenNames x0
    have h0 : Keeps ms mf ma s x0 := h.disarm
    try clear_value x0
    exact Keeps.cond h0.crnPublish h0) h)

theorem Keeps.execRosterMs {s e : State} (h : Keeps ms mf ma s e) : KeepsOut ms mf ma s (execRosterMs e) := by
  delta execRosterMs
  exact KeepsOut.next (Keeps.cond h.rearm.sendRoster h)

theorem Keeps.execHelloMs {s e : State} {a0} (h : Keeps ms mf ma s e) : KeepsOut ms mf ma s (execHelloMs a0 e) := by
  delta execHelloMs
  exact KeepsOut.next (by
    extract_lets -underBinder -merge +onlyGivenNames x0
    try clear_value x0
    exact Keeps.cond h (by
      extract_lets -underBinder -merge +onlyGivenNames x1
      have h1 : Keeps ms mf ma s x1 := h.rearm
      try clear_value x1
      exact Keeps.cond h1.crnSet h1.sendHello))

theorem Keeps.execBeatTimer {s e : State} (h : Keeps ms mf ma s e) : KeepsOut ms mf ma s (execBeatTimer e) := by
  delta execBeatTimer
  exact KeepsOut.next (Keeps.cond (by
    extract_lets -underBinder -merge +onlyGivenNames x0
    have h0 : Keeps ms mf ma s x0 := h.rearm
    try clear_value x0
    exact Keeps.cond h0.crnSet h0.sendBeat) h)

theorem Keeps.slotEdge {s e : State} (h : Keeps ms mf ma s e) : Keeps ms mf ma s (State.slotEdge e) := by
  delta State.slotEdge
  exact Keeps.cond h (by
    extract_lets -underBinder -merge +onlyGivenNames x0
    have h0 : Keeps ms mf ma s x0 := h.forN (fun _ _ h1 => Keeps.cond h1 (Keeps.cond h1.rearm.sendHello (Keeps.cond h1.sendHello h1)))
    try clear_value x0
    exact Keeps.cond h0 (Keeps.cond h0.rearm.sendBeat (Keeps.cond h0.sendBeat h0)))

theorem Keeps.execHello {s e : State} (h : Keeps ms mf ma s e) : KeepsOut ms mf ma s (execHello e) := by
  delta execHello
  exact KeepsOut.next (by
    split
    · exact h
    · extract_lets -underBinder -merge +onlyGivenNames x0
      have h0 : Keeps ms mf ma s x0 := ((h.crnTake.out ‹_›)).arm
      try clear_value x0
      exact Keeps.cond h0 h0.crnSet.headNbr)

theorem Keeps.execNeighbourTo {s e : State} {a0} (h : Keeps ms mf ma s e) : KeepsOut ms mf ma s (execNeighbourTo a0 e) := by
  delta execNeighbourTo
  exact KeepsOut.next (Keeps.cond h.nbrLost h)

theorem Keeps.execBeat {s e : State} (h : Keeps ms mf ma s e) : KeepsOut ms mf ma s (execBeat e) := by
  delta execBeat
  exact KeepsOut.next (by
    split
    · exact h
    · exact Keeps.cond (((h.crnTake.out ‹_›)).arm) ((h.crnTake.out ‹_›)))

theorem Keeps.execHeadTo {s e : State} (h : Keeps ms mf ma s e) : KeepsOut ms mf ma s (execHeadTo e) := by
  delta execHeadTo
  exact KeepsOut.next (Keeps.cond h.raise.toListen h)

theorem Keeps.execBeatTo {s e : State} {a0} (h : Keeps ms mf ma s e) : KeepsOut ms mf ma s (execBeatTo a0 e) := by
  delta execBeatTo
  exact KeepsOut.next (Keeps.cond h (Keeps.cond h (by
    extract_lets -underBinder -merge +onlyGivenNames x0
    have h0 : Keeps ms mf ma s x0 := h.disarm.crnSet
    try clear_value x0
    exact h0.crnFault.raise.crnUpdate)))

theorem Keeps.execRankWait {s e : State} (h : Keeps ms mf ma s e) : KeepsOut ms mf ma s (execRankWait e) := by
  delta execRankWait
  exact KeepsOut.next (Keeps.cond h.disarm.crnSet.crnUpdate h)

theorem Keeps.execRevert {s e : State} (h : Keeps ms mf ma s e) : KeepsOut ms mf ma s (execRevert e) := by
  delta execRevert
  exact KeepsOut.next (h.access (fun _ h0 => Keeps.cond h0 (by
    extract_lets -underBinder -merge +onlyGivenNames x1
    have h1 : Keeps ms mf ma s x1 := h0.forN (fun _ _ h2 => by
      split
      · exact h2
      · exact h2.crnSet)
    try clear_value x1
    exact h1.crnUpdate)))

theorem Keeps.crnRingErr {s e : State} {a1} {a2} (h : Keeps ms mf ma s e) : Keeps ms mf ma s (State.crnRingErr e a1 a2) := by
  delta State.crnRingErr
  extract_lets -underBinder -merge +onlyGivenNames x0
  try clear_value x0
  exact h.setFs.sramUe.flag.raise

theorem Keeps.crnPut {s e : State} {a1} {a2} {a3} {a4} (h : Keeps false mf ma s e) : Keeps false mf ma s (State.crnPut e a1 a2 a3 a4) := by
  delta State.crnPut
  exact Keeps.cond h.crnRingErr (by
    split
    · exact ((Keeps.eqL h.ringFill ‹_›)).flag
    · exact (Keeps.eqL h.ringFill ‹_›))

theorem Keeps.crnDeliver {s e : State} {a1} {a2} (h : Keeps false mf ma s e) : Keeps false mf ma s (State.crnDeliver e a1 a2) := by
  delta State.crnDeliver
  exact h.crnPut

theorem Keeps.crnToFw {s e : State} {a1} {a2} (h : Keeps false mf ma s e) : Keeps false mf ma s (State.crnToFw e a1 a2) := by
  delta State.crnToFw
  split
  · exact h
  · exact ((h.crnTake.out ‹_›)).crnDeliver

theorem Keeps.execCairnStep {s e : State} {a0} (h : Keeps false mf ma s e) : KeepsOut false mf ma s (execCairnStep a0 e) := by
  delta execCairnStep
  exact KeepsOut.next h.crnToFw

theorem Keeps.execCkptMark {s e : State} {a0} (h : Keeps false mf ma s e) : KeepsOut false mf ma s (execCkptMark a0 e) := by
  delta execCkptMark
  exact KeepsOut.next h.crnToFw

theorem Keeps.execCairnFault {s e : State} {a0} (h : Keeps false mf ma s e) : KeepsOut false mf ma s (execCairnFault a0 e) := by
  delta execCairnFault
  exact KeepsOut.next h.crnToFw

theorem Keeps.execMessageSend {s e : State} {a0} (h : Keeps false mf ma s e) : KeepsOut false mf ma s (execMessageSend a0 e) := by
  delta execMessageSend
  exact KeepsOut.next (Keeps.cond h (Keeps.cond h.crnRingErr (Keeps.cond h (Keeps.cond h.ringWrite.ringWrite.ringNext.satInc (Keeps.cond h.ringWrite.ringWrite.ringNext.satInc (Keeps.cond h.ringWrite.ringWrite.ringNext.satInc h.crnSendOn.ringWrite.ringWrite.ringNext))))))

end Sys2Proof.Machine
end

