-- ==== Sys2Proof/Laws/KeepsBus.lean ====
section
/-! SUPPORT. `Keeps` for ports, transfers, thermal, tilt and bus accesses. -/

namespace Sys2Proof.Machine

variable {ms mf ma : Bool}

theorem Keeps.setI2c {s e : State} {a1} {a2} (h : Keeps ms mf ma s e) : Keeps ms mf ma s (State.setI2c e a1 a2) := by
  delta State.setI2c
  exact h.upd

theorem Keeps.i2cEvent {s e : State} {a1} {a2} (h : Keeps ms mf ma s e) : Keeps ms mf ma s (State.i2cEvent e a1 a2) := by
  delta State.i2cEvent
  exact h.raiseFrom

theorem Keeps.i2cOff {s e : State} {a1} {a2} (h : Keeps ms mf ma s e) : Keeps ms mf ma s (State.i2cOff e a1 a2) := by
  delta State.i2cOff
  exact h.setI2c

theorem Keeps.i2cEnd {s e : State} {a1} {a2} (h : Keeps ms mf ma s e) : Keeps ms mf ma s (State.i2cEnd e a1 a2) := by
  delta State.i2cEnd
  exact h.setFlags

theorem Keeps.i2cGo {s e : State} {a1} (h : Keeps ms mf ma s e) : Keeps ms mf ma s (State.i2cGo e a1) := by
  delta State.i2cGo
  extract_lets -underBinder -merge +onlyGivenNames x0
  try clear_value x0
  extract_lets -underBinder -merge +onlyGivenNames x1
  try clear_value x1
  extract_lets -underBinder -merge +onlyGivenNames x2
  try clear_value x2
  exact Keeps.cond h.setI2c.setF h

theorem Keeps.execI2cTransfer {s e : State} {a0} {a1} {a2} {a3} {a4} {a5} (h : Keeps ms mf ma s e) : KeepsOut ms mf ma s (execI2cTransfer a0 a1 a2 a3 a4 a5 e) := by
  delta execI2cTransfer
  exact KeepsOut.next (h.access (fun _ h0 => by
    extract_lets -underBinder -merge +onlyGivenNames x1
    try clear_value x1
    exact Keeps.cond h0.flag (by
      extract_lets -underBinder -merge +onlyGivenNames x2
      try clear_value x2
      exact h0.setFs.i2cGo)))

theorem Keeps.i2cReceive {s e : State} {a1} {a2} (h : Keeps ms mf ma s e) : Keeps ms mf ma s (State.i2cReceive e a1 a2) := by
  delta State.i2cReceive
  exact h.setI2c

theorem Keeps.i2cMoved {s e : State} {a1} {a2} {a3} (h : Keeps ms mf ma s e) : Keeps ms mf ma s (State.i2cMoved e a1 a2 a3) := by
  delta State.i2cMoved
  extract_lets -underBinder -merge +onlyGivenNames x0
  try clear_value x0
  extract_lets -underBinder -merge +onlyGivenNames x1
  have h1 : Keeps ms mf ma s x1 := h.setF
  try clear_value x1
  exact Keeps.cond h1.i2cReceive h1.setI2c

theorem Keeps.execI2cTransferDone {s e : State} {a0} {a1} {a2} {a3} (h : Keeps ms mf ma s e) : KeepsOut ms mf ma s (execI2cTransferDone a0 a1 a2 a3 e) := by
  delta execI2cTransferDone
  exact KeepsOut.next (by
    extract_lets -underBinder -merge +onlyGivenNames x0
    try clear_value x0
    exact Keeps.cond h (by
      extract_lets -underBinder -merge +onlyGivenNames x1
      have h1 : Keeps ms mf ma s x1 := h.i2cMoved
      try clear_value x1
      extract_lets -underBinder -merge +onlyGivenNames x2
      try clear_value x2
      extract_lets -underBinder -merge +onlyGivenNames x3
      have h3 : Keeps ms mf ma s x3 := h1.i2cOff
      try clear_value x3
      extract_lets -underBinder -merge +onlyGivenNames x4
      have h4 : Keeps ms mf ma s x4 := (h3.doIf (fun _ h5 => h5.setI2c)).i2cEnd
      try clear_value x4
      exact h4.doIf (fun _ h6 => h6.flag.i2cEvent)))

theorem Keeps.execArbitrationLost {s e : State} {a0} {a1} {a2} {a3} (h : Keeps ms mf ma s e) : KeepsOut ms mf ma s (execArbitrationLost a0 a1 a2 a3 e) := by
  delta execArbitrationLost
  exact KeepsOut.next (by
    extract_lets -underBinder -merge +onlyGivenNames x0
    try clear_value x0
    exact Keeps.cond h (by
      extract_lets -underBinder -merge +onlyGivenNames x1
      try clear_value x1
      extract_lets -underBinder -merge +onlyGivenNames x2
      try clear_value x2
      extract_lets -underBinder -merge +onlyGivenNames x3
      try clear_value x3
      extract_lets -underBinder -merge +onlyGivenNames x4
      have h4 : Keeps ms mf ma s x4 := h.setFs
      try clear_value x4
      extract_lets -underBinder -merge +onlyGivenNames x5
      have h5 : Keeps ms mf ma s x5 := h4.i2cOff.flag
      try clear_value x5
      extract_lets -underBinder -merge +onlyGivenNames x6
      have h6 : Keeps ms mf ma s x6 := h5.satInc.i2cEvent
      try clear_value x6
      extract_lets -underBinder -merge +onlyGivenNames x7
      try clear_value x7
      extract_lets -underBinder -merge +onlyGivenNames x8
      have h8 : Keeps ms mf ma s x8 := h6.setF
      try clear_value x8
      extract_lets -underBinder -merge +onlyGivenNames x9
      have h9 : Keeps ms mf ma s x9 := h8.doIf (fun _ h10 => h10.i2cReceive)
      try clear_value x9
      extract_lets -underBinder -merge +onlyGivenNames x11
      have h11 : Keeps ms mf ma s x11 := h9.doIf (fun _ h12 => h12.flag.i2cEvent)
      try clear_value x11
      extract_lets -underBinder -merge +onlyGivenNames x13
      try clear_value x13
      exact Keeps.cond h11.setF h11.satInc.flag.i2cEvent.i2cEnd))

theorem Keeps.i2cSees {s e : State} {a1} {a2} (h : Keeps ms mf ma s e) : Keeps ms mf ma s (State.i2cSees e a1 a2) := by
  delta State.i2cSees
  extract_lets -underBinder -merge +onlyGivenNames x0
  try clear_value x0
  exact Keeps.cond h (by
    split
    · exact h
    · exact h.i2cOff
    · exact h.i2cOff
    · exact Keeps.cond h h.i2cOff)

theorem Keeps.execI2cRetry {s e : State} {a0} {a1} (h : Keeps ms mf ma s e) : KeepsOut ms mf ma s (execI2cRetry a0 a1 e) := by
  delta execI2cRetry
  exact KeepsOut.next (Keeps.cond h.i2cSees.i2cGo h)

theorem Keeps.i2cAbort {s e : State} {a1} {a2} {a3} {a4} (h : Keeps ms mf ma s e) : Keeps ms mf ma s (State.i2cAbort e a1 a2 a3 a4) := by
  delta State.i2cAbort
  exact ((h.doIf (fun _ h0 => h0.i2cMoved)).i2cOff).i2cEnd

theorem Keeps.execBusStuck {s e : State} {a0} {a1} {a2} (h : Keeps ms mf ma s e) : KeepsOut ms mf ma s (execBusStuck a0 a1 a2 e) := by
  delta execBusStuck
  exact KeepsOut.next (Keeps.cond h.flag.i2cEvent.i2cAbort h)

theorem Keeps.execI2cBuserr {s e : State} {a0} {a1} {a2} (h : Keeps ms mf ma s e) : KeepsOut ms mf ma s (execI2cBuserr a0 a1 a2 e) := by
  delta execI2cBuserr
  exact KeepsOut.next (Keeps.cond h.flag.i2cEvent.i2cAbort h)

theorem Keeps.execI2cTxd {s e : State} {a0} {a1} (h : Keeps ms mf ma s e) : KeepsOut ms mf ma s (execI2cTxd a0 a1 e) := by
  delta execI2cTxd
  exact KeepsOut.next (h.access (fun _ h0 => h0.setI2c))

theorem Keeps.execI2cRxd {s e : State} {a0} (h : Keeps ms mf ma s e) : KeepsOut ms mf ma s (execI2cRxd a0 e) := by
  delta execI2cRxd
  exact KeepsOut.next (h.access (fun _ h0 => by
    split
    · exact h0.setI2c.answer
    · extract_lets -underBinder -merge +onlyGivenNames x1
      have h1 : Keeps ms mf ma s x1.2 := h0.draw
      try clear_value x1
      exact h1.answer))

theorem Keeps.execGpioSet {s e : State} {a0} (h : Keeps ms mf ma s e) : KeepsOut ms mf ma s (execGpioSet a0 e) := by
  delta execGpioSet
  exact KeepsOut.next (h.access (fun _ h0 => h0.setF.drivePins))

theorem Keeps.execGpioClr {s e : State} {a0} (h : Keeps ms mf ma s e) : KeepsOut ms mf ma s (execGpioClr a0 e) := by
  delta execGpioClr
  exact KeepsOut.next (h.access (fun _ h0 => by
    extract_lets -underBinder -merge +onlyGivenNames x1
    try clear_value x1
    exact h0.setF.drivePins))

theorem Keeps.execGpioEdge {s e : State} {a0} {a1} (h : Keeps ms mf ma s e) : KeepsOut ms mf ma s (execGpioEdge a0 a1 e) := by
  delta execGpioEdge
  exact KeepsOut.next (Keeps.cond h h.pinLevel)

theorem Keeps.setUart {s e : State} {a1} {a2} (h : Keeps ms mf ma s e) : Keeps ms mf ma s (State.setUart e a1 a2) := by
  delta State.setUart
  exact h.upd.setFs

theorem Keeps.execUartTxd {s e : State} {a0} {a1} (h : Keeps ms mf ma s e) : KeepsOut ms mf ma s (execUartTxd a0 a1 e) := by
  delta execUartTxd
  exact KeepsOut.next (h.access (fun _ h0 => by
    extract_lets -underBinder -merge +onlyGivenNames x1
    try clear_value x1
    exact Keeps.cond h0.setUart h0))

theorem Keeps.execUartTxComplete {s e : State} {a0} (h : Keeps ms mf ma s e) : KeepsOut ms mf ma s (execUartTxComplete a0 e) := by
  delta execUartTxComplete
  exact KeepsOut.next (by
    extract_lets -underBinder -merge +onlyGivenNames x0
    try clear_value x0
    extract_lets -underBinder -merge +onlyGivenNames x1
    try clear_value x1
    exact Keeps.cond h h.setUart.flag)

theorem Keeps.uartErr {s e : State} {a1} {a2} {a3} (h : Keeps ms mf ma s e) : Keeps ms mf ma s (State.uartErr e a1 a2 a3) := by
  delta State.uartErr
  exact h.raiseInt

theorem Keeps.execUartRxByte {s e : State} {a0} {a1} {a2} (h : Keeps false mf ma s e) : KeepsOut false mf ma s (execUartRxByte a0 a1 a2 e) := by
  delta execUartRxByte
  exact KeepsOut.next (by
    extract_lets -underBinder -merge +onlyGivenNames x0
    try clear_value x0
    extract_lets -underBinder -merge +onlyGivenNames x1
    try clear_value x1
    exact Keeps.cond h (by
      split
      · exact h.satInc.uartErr
      · exact h.uartErr
      · exact Keeps.cond h.satInc.uartErr (Keeps.cond h.satInc.uartErr (Keeps.cond h.recoveryByte h.setUart.flag.drivePins))))

theorem Keeps.execUartRxd {s e : State} {a0} (h : Keeps ms mf ma s e) : KeepsOut ms mf ma s (execUartRxd a0 e) := by
  delta execUartRxd
  exact KeepsOut.next (by
    extract_lets -underBinder -merge +onlyGivenNames x0
    try clear_value x0
    extract_lets -underBinder -merge +onlyGivenNames x1
    try clear_value x1
    exact Keeps.cond h.answer h.setUart.drivePins.answer)

theorem Keeps.setSpi {s e : State} {a1} (h : Keeps ms mf ma s e) : Keeps ms mf ma s (State.setSpi e a1) := by
  delta State.setSpi
  exact h.upd.setFs

theorem Keeps.spiPump {s e : State} {a0} (h : Keeps ms mf ma s e) : Keeps ms mf ma s (State.spiPump a0 e) := by
  induction a0 generalizing e with
  | zero =>
    rw [State.spiPump.eq_1]
    exact h
  | succ n ih =>
    rw [State.spiPump.eq_2]
    split
    · exact h
    · exact Keeps.cond (by
        apply ih
        exact h.setSpi.wrapInc) h

theorem Keeps.execSpiTransfer {s e : State} {a0} {a1} {a2} {a3} (h : Keeps ms mf ma s e) : KeepsOut ms mf ma s (execSpiTransfer a0 a1 a2 a3 e) := by
  delta execSpiTransfer
  exact KeepsOut.next (h.access (fun _ h0 => by
    extract_lets -underBinder -merge +onlyGivenNames x1
    try clear_value x1
    exact Keeps.cond h0.flag (by
      extract_lets -underBinder -merge +onlyGivenNames x2
      try clear_value x2
      extract_lets -underBinder -merge +onlyGivenNames x3
      have h3 : Keeps ms mf ma s x3 := h0.setSpi
      try clear_value x3
      exact h3.setFs.drivePins.spiPump)))

theorem Keeps.execSpiTxd {s e : State} {a0} (h : Keeps ms mf ma s e) : KeepsOut ms mf ma s (execSpiTxd a0 e) := by
  delta execSpiTxd
  exact KeepsOut.next (h.access (fun _ h0 => Keeps.cond h0.setSpi.spiPump h0))

theorem Keeps.execSpiRxd {s e : State} (h : Keeps ms mf ma s e) : KeepsOut ms mf ma s (execSpiRxd e) := by
  delta execSpiRxd
  exact KeepsOut.next (Keeps.cond h.answer (by
    extract_lets -underBinder -merge +onlyGivenNames x0
    try clear_value x0
    exact h.setSpi.spiPump.answer))

theorem Keeps.execSpiTransferDone {s e : State} (h : Keeps ms mf ma s e) : KeepsOut ms mf ma s (execSpiTransferDone e) := by
  delta execSpiTransferDone
  exact KeepsOut.next (Keeps.cond (by
    extract_lets -underBinder -merge +onlyGivenNames x0
    try clear_value x0
    extract_lets -underBinder -merge +onlyGivenNames x1
    have h1 : Keeps ms mf ma s x1 := h.setSpi.drivePins
    try clear_value x1
    exact h1.setFlags) h)

theorem Keeps.setTx {s e : State} {a1} {a2} (h : Keeps ms mf ma s e) : Keeps ms mf ma s (State.setTx e a1 a2) := by
  delta State.setTx
  exact h.crnSet

theorem Keeps.crnAsk {s e : State} {a0} (h : Keeps ms mf ma s e) : Keeps ms mf ma s (State.crnAsk a0 e) := by
  induction a0 generalizing e with
  | zero =>
    rw [State.crnAsk.eq_1]
    exact h
  | succ n ih =>
    rw [State.crnAsk.eq_2]
    exact Keeps.cond h (by
      split
      · apply ih
        exact h.crnSet.memAsk
      · split
        · apply ih
          exact h.setTx.memAsk
        · exact h)

theorem Keeps.sendFrag {s e : State} {a1} {a2} (h : Keeps ms mf ma s e) : Keeps ms mf ma s (State.sendFrag e a1 a2) := by
  delta State.sendFrag
  extract_lets -underBinder -merge +onlyGivenNames x0
  try clear_value x0
  exact h.crnSend

theorem Keeps.sendWindow {s e : State} {a0} {a1} (h : Keeps ms mf ma s e) : Keeps ms mf ma s (State.sendWindow a0 a1 e) := by
  induction a0 generalizing a1 e with
  | zero =>
    rw [State.sendWindow.eq_1]
    exact h
  | succ n ih =>
    rw [State.sendWindow.eq_2]
    split
    · exact h
    · exact Keeps.cond (by
        apply ih
        exact h.setTx.sendFrag) h

theorem Keeps.txEnd {s e : State} {a1} {a2} {a3} (h : Keeps false mf ma s e) : Keeps false mf ma s (State.txEnd e a1 a2 a3) := by
  delta State.txEnd
  extract_lets -underBinder -merge +onlyGivenNames x0
  try clear_value x0
  extract_lets -underBinder -merge +onlyGivenNames x1
  have h1 : Keeps false mf ma s x1 := h.disarm.crnSet
  try clear_value x1
  extract_lets -underBinder -merge +onlyGivenNames x2
  have h2 : Keeps false mf ma s x2 := h1.ringWrite
  try clear_value x2
  extract_lets -underBinder -merge +onlyGivenNames x3
  have h3 : Keeps false mf ma s x3 := h2.ringWrite.flag
  try clear_value x3
  exact Keeps.cond h3 h3.satInc.flag.raise

theorem Keeps.execTransferStart {s e : State} {a0} (h : Keeps false mf ma s e) : KeepsOut false mf ma s (execTransferStart a0 e) := by
  delta execTransferStart
  exact KeepsOut.next (by
    extract_lets -underBinder -merge +onlyGivenNames x0
    try clear_value x0
    extract_lets -underBinder -merge +onlyGivenNames x1
    try clear_value x1
    exact Keeps.cond h (Keeps.cond h.crnRingErr (Keeps.cond h (by
      extract_lets -underBinder -merge +onlyGivenNames x2
      try clear_value x2
      extract_lets -underBinder -merge +onlyGivenNames x3
      try clear_value x3
      extract_lets -underBinder -merge +onlyGivenNames x4
      have h4 : Keeps false mf ma s x4 := h.ringNext.crnSet
      try clear_value x4
      exact Keeps.cond h4.txEnd h4.crnAsk))))

theorem Keeps.xferRead {s e : State} {a1} {a2} {a3} {a4} (h : Keeps false mf ma s e) : Keeps false mf ma s (State.xferRead e a1 a2 a3 a4) := by
  delta State.xferRead
  split
  · exact h.crnAsk
  · exact Keeps.cond h.txEnd.crnAsk (by
      extract_lets -underBinder -merge +onlyGivenNames x0
      try clear_value x0
      extract_lets -underBinder -merge +onlyGivenNames x1
      try clear_value x1
      extract_lets -underBinder -merge +onlyGivenNames x2
      have h2 : Keeps false mf ma s x2 := h.setTx
      try clear_value x2
      extract_lets -underBinder -merge +onlyGivenNames x3
      have h3 : Keeps false mf ma s x3 := h2.crnAsk
      try clear_value x3
      exact Keeps.cond h3.sendWindow.arm h3)

theorem Keeps.execChunkAck {s e : State} (h : Keeps false mf ma s e) : KeepsOut false mf ma s (execChunkAck e) := by
  delta execChunkAck
  exact KeepsOut.next (by
    split
    · exact h
    · split
      · exact (h.crnTake.out ‹_›)
      · extract_lets -underBinder -merge +onlyGivenNames x0
        try clear_value x0
        extract_lets -underBinder -merge +onlyGivenNames x1
        try clear_value x1
        extract_lets -underBinder -merge +onlyGivenNames x2
        try clear_value x2
        exact Keeps.cond ((((h.crnTake.out ‹_›)).txEnd).crnAsk) (Keeps.cond ((((h.crnTake.out ‹_›)).txEnd).crnAsk) (Keeps.cond (by
          extract_lets -underBinder -merge +onlyGivenNames x3
          have h3 : Keeps false mf ma s x3 := ((h.crnTake.out ‹_›)).setTx
          try clear_value x3
          exact h3.sendWindow.arm) ((h.crnTake.out ‹_›)))))

theorem Keeps.execResendTimeout {s e : State} {a0} (h : Keeps false mf ma s e) : KeepsOut false mf ma s (execResendTimeout a0 e) := by
  delta execResendTimeout
  exact KeepsOut.next (by
    split
    · exact h
    · exact Keeps.cond h (Keeps.cond h (Keeps.cond h.txEnd.crnAsk (by
        extract_lets -underBinder -merge +onlyGivenNames x0
        have h0 : Keeps false mf ma s x0 := h.setTx.arm
        try clear_value x0
        exact h0.forL (fun _ _ h1 => h1.sendFrag)))))

theorem Keeps.setRx {s e : State} {a1} {a2} (h : Keeps ms mf ma s e) : Keeps ms mf ma s (State.setRx e a1 a2) := by
  delta State.setRx
  exact h.crnSet

theorem Keeps.xferAck {s e : State} {a1} {a2} {a3} {a4} {a5} {a6} (h : Keeps ms mf ma s e) : Keeps ms mf ma s (State.xferAck e a1 a2 a3 a4 a5 a6) := by
  delta State.xferAck
  exact h.crnSend

theorem Keeps.rxClose {s e : State} {a1} (h : Keeps ms mf ma s e) : Keeps ms mf ma s (State.rxClose e a1) := by
  delta State.rxClose
  exact h.disarm.disarm.crnSet

theorem Keeps.ackNow {s e : State} {a1} (h : Keeps ms mf ma s e) : Keeps ms mf ma s (State.ackNow e a1) := by
  delta State.ackNow
  extract_lets -underBinder -merge +onlyGivenNames x0
  try clear_value x0
  exact h.setRx.disarm.xferAck

theorem Keeps.rxFail {s e : State} {a1} {a2} (h : Keeps ms mf ma s e) : Keeps ms mf ma s (State.rxFail e a1 a2) := by
  delta State.rxFail
  extract_lets -underBinder -merge +onlyGivenNames x0
  try clear_value x0
  extract_lets -underBinder -merge +onlyGivenNames x1
  have h1 : Keeps ms mf ma s x1 := h.rxClose.xferAck
  try clear_value x1
  exact h1.satInc.flag.raise

theorem Keeps.rxDone {s e : State} {a1} {a2} {a3} (h : Keeps false mf ma s e) : Keeps false mf ma s (State.rxDone e a1 a2 a3) := by
  delta State.rxDone
  exact Keeps.cond (by
    extract_lets -underBinder -merge +onlyGivenNames x0
    have h0 : Keeps false mf ma s x0 := h.rxClose.crnSet
    try clear_value x0
    extract_lets -underBinder -merge +onlyGivenNames x1
    have h1 : Keeps false mf ma s x1 := h0.xferAck
    try clear_value x1
    extract_lets -underBinder -merge +onlyGivenNames x2
    have h2 : Keeps false mf ma s x2.2 := h1.drawBelow
    try clear_value x2
    extract_lets -underBinder -merge +onlyGivenNames x3
    have h3 : Keeps false mf ma s x3.2 := h2.draw
    try clear_value x3
    exact h3.crnPut) h.rxFail

theorem Keeps.rxWrite {s e : State} {a1} {a2} {a3} (h : Keeps ms mf ma s e) : Keeps ms mf ma s (State.rxWrite e a1 a2 a3) := by
  delta State.rxWrite
  extract_lets -underBinder -merge +onlyGivenNames x0
  try clear_value x0
  extract_lets -underBinder -merge +onlyGivenNames x1
  try clear_value x1
  exact h.crnSet.crnAsk

theorem Keeps.rxFrag {s e : State} {a1} {a2} {a3} {a4} {a5} (h : Keeps false mf ma s e) : Keeps false mf ma s (State.rxFrag e a1 a2 a3 a4 a5) := by
  delta State.rxFrag
  exact Keeps.cond (Keeps.cond h.arm h.arm.arm) (by
    extract_lets +onlyGivenNames x0
    clear_value x0
    exact Keeps.cond h.arm.setRx.rxWrite.rxDone (Keeps.cond h.arm.setRx.rxWrite.ackNow (Keeps.cond h.arm.setRx.rxWrite h.arm.setRx.rxWrite.arm)))

theorem Keeps.chunkTake {s e : State} (h : Keeps ms mf ma s e) : KeepsOptR ms mf ma s (State.chunkTake e) := by
  intro v t k
  simp only [State.chunkTake, Option.map_eq_some_iff, Prod.mk.injEq] at k
  obtain ⟨m, -, -, rfl⟩ := k
  exact h.crnSet

theorem Keeps.execChunkData {s e : State} {a0} (h : Keeps false mf ma s e) : KeepsOut false mf ma s (execChunkData a0 e) := by
  delta execChunkData
  exact KeepsOut.next (by
    split
    · exact h
    · extract_lets -underBinder -merge +onlyGivenNames x0
      try clear_value x0
      extract_lets -underBinder -merge +onlyGivenNames x1
      try clear_value x1
      extract_lets -underBinder -merge +onlyGivenNames x2
      try clear_value x2
      extract_lets -underBinder -merge +onlyGivenNames x3
      try clear_value x3
      extract_lets -underBinder -merge +onlyGivenNames x4
      try clear_value x4
      extract_lets -underBinder -merge +onlyGivenNames x5
      try clear_value x5
      extract_lets -underBinder -merge +onlyGivenNames x6
      try clear_value x6
      extract_lets -underBinder -merge +onlyGivenNames x7
      try clear_value x7
      exact Keeps.cond (((h.chunkTake.out ‹_›)).xferAck) (Keeps.cond (by
        extract_lets -underBinder -merge +onlyGivenNames x8
        have h8 : Keeps false mf ma s x8 := by
          unfold x8
          split
          · exact ((h.chunkTake.out ‹_›)).rxClose
          · exact (h.chunkTake.out ‹_›)
        try clear_value x8
        exact h8.crnBad.xferAck) (by
        split
        · exact ((h.chunkTake.out ‹_›)).rxFrag
        · extract_lets -underBinder -merge +onlyGivenNames x9
          try clear_value x9
          exact Keeps.cond (((h.chunkTake.out ‹_›)).xferAck) (by
            extract_lets -underBinder -merge +onlyGivenNames x10
            try clear_value x10
            extract_lets -underBinder -merge +onlyGivenNames x11
            have h11 : Keeps false mf ma s x11 := ((h.chunkTake.out ‹_›)).crnSet
            try clear_value x11
            exact h11.rxFrag))))

theorem Keeps.xferWritten {s e : State} {a1} {a2} (h : Keeps ms mf ma s e) : Keeps ms mf ma s (State.xferWritten e a1 a2) := by
  delta State.xferWritten
  split
  · exact Keeps.cond h.crnAsk h.rxFail.crnAsk
  · exact h.crnAsk

theorem Keeps.execChunkAckTimer {s e : State} {a0} {a1} (h : Keeps ms mf ma s e) : KeepsOut ms mf ma s (execChunkAckTimer a0 a1 e) := by
  delta execChunkAckTimer
  exact KeepsOut.next (by
    split
    · exact h
    · exact Keeps.cond h.ackNow h)

theorem Keeps.execTransferIdleTimeout {s e : State} {a0} {a1} (h : Keeps ms mf ma s e) : KeepsOut ms mf ma s (execTransferIdleTimeout a0 a1 e) := by
  delta execTransferIdleTimeout
  exact KeepsOut.next (by
    split
    · exact h
    · exact Keeps.cond h.rxClose.satInc h)

theorem Keeps.execMemTimeout {s e : State} (h : Keeps false mf false s e) : KeepsOut false mf false s (execMemTimeout e) := by
  delta execMemTimeout
  exact KeepsOut.next (by
    split
    · extract_lets -underBinder -merge +onlyGivenNames x0
      have h0 : Keeps false mf false s x0 := h.memDone
      try clear_value x0
      extract_lets -underBinder -merge +onlyGivenNames x1
      have h1 : Keeps false mf false s x1 := by
        unfold x1
        split
        · exact h0.answer
        · exact h0
        · exact h0.xferRead
        · exact h0.xferWritten
        · exact h0.loadFailed
      try clear_value x1
      exact h1.raiseInt.silViol
    · exact h)

theorem Keeps.execMemRdData {s e : State} {a0} {a1} {a2} (h : Keeps false mf false s e) : KeepsOut false mf false s (execMemRdData a0 a1 a2 e) := by
  delta execMemRdData
  exact KeepsOut.next (by
    split
    · exact h
    · split
      · exact ((h.takeCd.out ‹_›)).silBadMsg
      · extract_lets -underBinder -merge +onlyGivenNames x0
        have h0 : Keeps false mf false s x0 := ((h.takeCd.out ‹_›)).memDone
        try clear_value x0
        split
        · exact h0.answer
        · exact h0.auditJudge
        · exact h0.xferRead
        · exact h0)

theorem Keeps.execMemWrAck {s e : State} {a0} {a1} (h : Keeps ms mf false s e) : KeepsOut ms mf false s (execMemWrAck a0 a1 e) := by
  delta execMemWrAck
  exact KeepsOut.next (by
    split
    · exact h
    · split
      · exact ((h.takeCd.out ‹_›)).silBadMsg
      · extract_lets -underBinder -merge +onlyGivenNames x0
        have h0 : Keeps ms mf false s x0 := ((h.takeCd.out ‹_›)).memDone
        try clear_value x0
        split
        · exact h0.answer
        · exact h0.auditJudge
        · exact h0.xferWritten
        · exact Keeps.cond h0 h0.loadFailed)

theorem Keeps.execPortLinkUp {s e : State} {a0} {a1} (h : Keeps ms mf ma s e) : KeepsOut ms mf ma s (execPortLinkUp a0 a1 e) := by
  delta execPortLinkUp
  exact KeepsOut.next (by
    extract_lets -underBinder -merge +onlyGivenNames x0
    try clear_value x0
    exact Keeps.cond h (Keeps.cond h.raise h.setF.raiseInt.crnLinkUp))

theorem Keeps.portFlush {s e : State} {a1} (h : Keeps false mf ma s e) : Keeps false mf ma s (State.portFlush e a1) := by
  delta State.portFlush
  extract_lets -underBinder -merge +onlyGivenNames x0
  try clear_value x0
  extract_lets -underBinder -merge +onlyGivenNames x1
  have h1 : Keeps false mf ma s x1 := h.netSet
  try clear_value x1
  extract_lets -underBinder -merge +onlyGivenNames x2
  have h2 : Keeps false mf ma s x2 := h1.forL (fun _ _ h3 => Keeps.cond h3.netSet.txComplete h3)
  try clear_value x2
  exact h2.forN (fun _ _ h4 => Keeps.cond h4.fupDrop h4)

theorem Keeps.portDown {s e : State} {a1} (h : Keeps false mf ma s e) : Keeps false mf ma s (State.portDown e a1) := by
  delta State.portDown
  exact h.setF.portFlush.crnLinkDown

theorem Keeps.execPortLinkDown {s e : State} {a0} (h : Keeps false mf ma s e) : KeepsOut false mf ma s (execPortLinkDown a0 e) := by
  delta execPortLinkDown
  exact KeepsOut.next (by
    extract_lets -underBinder -merge +onlyGivenNames x0
    try clear_value x0
    exact Keeps.cond h (by
      extract_lets -underBinder -merge +onlyGivenNames x1
      try clear_value x1
      extract_lets -underBinder -merge +onlyGivenNames x2
      have h2 : Keeps false mf ma s x2 := h.portDown.netSet
      try clear_value x2
      extract_lets -underBinder -merge +onlyGivenNames x3
      have h3 : Keeps false mf ma s x3 := h2.raiseInt
      try clear_value x3
      exact Keeps.cond h3.setF.raise h3))

theorem Keeps.portEnable {s e : State} {a1} (h : Keeps false mf ma s e) : Keeps false mf ma s (State.portEnable e a1) := by
  delta State.portEnable
  extract_lets -underBinder -merge +onlyGivenNames x0
  have h0 : Keeps false mf ma s x0 := h.setF.setFs
  try clear_value x0
  exact h0.forN (fun _ _ h1 => Keeps.cond h1.flag.portDown h1)

theorem Keeps.ttrgFire {s e : State} {a1} (h : Keeps false mf ma s e) : Keeps false mf ma s (State.ttrgFire e a1) := by
  delta State.ttrgFire
  extract_lets -underBinder -merge +onlyGivenNames x0
  have h0 : Keeps false mf ma s x0 := h.wrapInc.flagBits.ttrgTarget
  try clear_value x0
  extract_lets -underBinder -merge +onlyGivenNames x1
  have h1 : Keeps false mf ma s x1 := Keeps.cond h0.slotEdge h0
  try clear_value x1
  exact h1.txTrigger

theorem Keeps.execTriggerFire {s e : State} {a0} (h : Keeps false mf ma s e) : KeepsOut false mf ma s (execTriggerFire a0 e) := by
  delta execTriggerFire
  exact KeepsOut.next (by
    extract_lets -underBinder -merge +onlyGivenNames x0
    try clear_value x0
    exact Keeps.cond h (by
      extract_lets -underBinder -merge +onlyGivenNames x1
      try clear_value x1
      extract_lets -underBinder -merge +onlyGivenNames x2
      have h2 : Keeps false mf ma s x2.1 := h.ttrgActs
      try clear_value x2
      extract_lets -underBinder -merge +onlyGivenNames x3
      have h3 : Keeps false mf ma s x3 := h2
      try clear_value x3
      extract_lets -underBinder -merge +onlyGivenNames x4
      try clear_value x4
      extract_lets -underBinder -merge +onlyGivenNames x5
      have h5 : Keeps false mf ma s x5 := Keeps.cond h3.ttrgFire h3
      try clear_value x5
      exact Keeps.cond h5.satAdd.raiseInt h5))

theorem Keeps.qspiEnd {s e : State} {a1} (h : Keeps ms mf ma s e) : Keeps ms mf ma s (State.qspiEnd e a1) := by
  delta State.qspiEnd
  extract_lets -underBinder -merge +onlyGivenNames x0
  have h0 : Keeps ms mf ma s x0 := h.setFs.disarm
  try clear_value x0
  exact h0.upd

theorem Keeps.qspiStart {s e : State} {a1} {a2} {a3} (h : Keeps ms mf ma s e) : Keeps ms mf ma s (State.qspiStart e a1 a2 a3) := by
  delta State.qspiStart
  exact Keeps.cond h (Keeps.cond h.flag (Keeps.cond h.flag (by
    extract_lets -underBinder -merge +onlyGivenNames x0
    try clear_value x0
    extract_lets -underBinder -merge +onlyGivenNames x1
    have h1 : Keeps ms mf ma s x1 := h.upd
    try clear_value x1
    exact h1.setFs.arm)))

theorem Keeps.execQspiProgram {s e : State} {a0} (h : Keeps ms mf ma s e) : KeepsOut ms mf ma s (execQspiProgram a0 e) := by
  delta execQspiProgram
  exact KeepsOut.next (h.access (fun _ h0 => h0.qspiStart))

theorem Keeps.execQspiErase4k {s e : State} (h : Keeps ms mf ma s e) : KeepsOut ms mf ma s (execQspiErase4k e) := by
  delta execQspiErase4k
  exact KeepsOut.next (h.access (fun _ h0 => h0.qspiStart))

theorem Keeps.execQspiErase64k {s e : State} (h : Keeps ms mf ma s e) : KeepsOut ms mf ma s (execQspiErase64k e) := by
  delta execQspiErase64k
  exact KeepsOut.next (h.access (fun _ h0 => h0.qspiStart))

theorem Keeps.execQspiRead {s e : State} {a0} (h : Keeps ms mf ma s e) : KeepsOut ms mf ma s (execQspiRead a0 e) := by
  delta execQspiRead
  exact KeepsOut.next (h.access (fun _ h0 => h0.qspiStart))

theorem Keeps.qspiFill {s e : State} {a1} (h : Keeps ms mf ma s e) : Keeps ms mf ma s (State.qspiFill e a1) := by
  delta State.qspiFill
  extract_lets -underBinder -merge +onlyGivenNames x0
  try clear_value x0
  extract_lets -underBinder -merge +onlyGivenNames x1
  try clear_value x1
  exact h.forN (fun _ _ h2 => h2.setF)

theorem Keeps.execQspiDone {s e : State} (h : Keeps ms false ma s e) : KeepsOut ms false ma s (execQspiDone e) := by
  delta execQspiDone
  exact KeepsOut.next (by
    split
    · exact h
    · extract_lets -underBinder -merge +onlyGivenNames x0
      have h0 : Keeps ms false ma s x0 := Keeps.cond h.program (Keeps.cond h.qspiFill h.erase)
      try clear_value x0
      exact h0.qspiEnd)

theorem Keeps.execQspiTimeout {s e : State} (h : Keeps ms false ma s e) : KeepsOut ms false ma s (execQspiTimeout e) := by
  delta execQspiTimeout
  exact KeepsOut.next (by
    split
    · exact h
    · exact Keeps.cond h (by
        extract_lets -underBinder -merge +onlyGivenNames x0
        try clear_value x0
        extract_lets -underBinder -merge +onlyGivenNames x1
        try clear_value x1
        extract_lets -underBinder -merge +onlyGivenNames x2
        have h2 : Keeps ms false ma s x2.2 := h.draw
        try clear_value x2
        exact h2.flashLeave.qspiEnd.raise))

theorem Keeps.thmSet {s e : State} {a1} (h : Keeps ms mf ma s e) : Keeps ms mf ma s (State.thmSet e a1) := by
  delta State.thmSet
  exact h.upd

theorem Keeps.setI {s e : State} {a1} {a2} (h : Keeps ms mf ma s e) : Keeps ms mf ma s (State.setI e a1 a2) := by
  delta State.setI
  exact h.setF

theorem Keeps.ntcReport {s e : State} {a1} {a2} {a3} (h : Keeps ms mf ma s e) : Keeps ms mf ma s (State.ntcReport e a1 a2 a3) := by
  delta State.ntcReport
  exact Keeps.cond h.raiseInt h

theorem Keeps.execNtcSample {s e : State} {a0} {a1} (h : Keeps ms mf ma s e) : KeepsOut ms mf ma s (execNtcSample a0 a1 e) := by
  delta execNtcSample
  exact KeepsOut.next (Keeps.cond h (by
    extract_lets -underBinder -merge +onlyGivenNames x0
    have h0 : Keeps ms mf ma s x0 := h.rearm
    try clear_value x0
    extract_lets -underBinder -merge +onlyGivenNames x1
    try clear_value x1
    extract_lets -underBinder -merge +onlyGivenNames x2
    try clear_value x2
    extract_lets -underBinder -merge +onlyGivenNames x3
    have h3 : Keeps ms mf ma s x3 := h0.ntcReport.ntcReport
    try clear_value x3
    extract_lets -underBinder -merge +onlyGivenNames x4
    have h4 : Keeps ms mf ma s x4 := h3.thmSet
    try clear_value x4
    extract_lets -underBinder -merge +onlyGivenNames x5
    have h5 : Keeps ms mf ma s x5 := h4.setI
    try clear_value x5
    extract_lets -underBinder -merge +onlyGivenNames x6
    have h6 : Keeps ms mf ma s x6 := h5.setI
    try clear_value x6
    exact Keeps.cond h6.stepFail h6))

theorem Keeps.execCdSensorSample {s e : State} {a0} {a1} (h : Keeps ms mf ma s e) : KeepsOut ms mf ma s (execCdSensorSample a0 a1 e) := by
  delta execCdSensorSample
  exact KeepsOut.next (Keeps.cond h (by
    extract_lets -underBinder -merge +onlyGivenNames x0
    have h0 : Keeps ms mf ma s x0 := h.rearm
    try clear_value x0
    extract_lets -underBinder -merge +onlyGivenNames x1
    try clear_value x1
    extract_lets -underBinder -merge +onlyGivenNames x2
    try clear_value x2
    extract_lets -underBinder -merge +onlyGivenNames x3
    have h3 : Keeps ms mf ma s x3 := Keeps.cond h0.raiseInt h0
    try clear_value x3
    extract_lets -underBinder -merge +onlyGivenNames x4
    try clear_value x4
    exact h3.setI.thmSet))

theorem Keeps.orderWatch {s e : State} (h : Keeps ms false false s e) : Keeps ms false false s (State.orderWatch e) := by
  delta State.orderWatch
  extract_lets -underBinder -merge +onlyGivenNames x0
  have h0 : Keeps ms false false s x0 := Keeps.cond h.setF (Keeps.cond h.leaveWork h)
  try clear_value x0
  exact h0.setF.arm.thmSet

theorem Keeps.execCdHotTimer {s e : State} (h : Keeps ms false false s e) : KeepsOut ms false false s (execCdHotTimer e) := by
  delta execCdHotTimer
  exact KeepsOut.next (Keeps.cond h (by
    extract_lets -underBinder -merge +onlyGivenNames x0
    have h0 : Keeps ms false false s x0 := Keeps.cond h.thmSet.raiseInt.orderWatch h
    try clear_value x0
    exact Keeps.cond (by
      extract_lets -underBinder -merge +onlyGivenNames x1
      have h1 : Keeps ms false false s x1 := h0.thmSet
      try clear_value x1
      extract_lets -underBinder -merge +onlyGivenNames x2
      have h2 : Keeps ms false false s x2 := h1.setF.assertTrip
      try clear_value x2
      exact h2.setF.assertTrip.raiseInt) h0))

theorem Keeps.execWatchordTimeout {s e : State} (h : Keeps ms mf ma s e) : KeepsOut ms mf ma s (execWatchordTimeout e) := by
  delta execWatchordTimeout
  exact KeepsOut.next (Keeps.cond h.disarm.thmSet h)

theorem Keeps.execEnergyPlan {s e : State} {a0} (h : Keeps ms mf false s e) : KeepsOut ms mf false s (execEnergyPlan a0 e) := by
  delta execEnergyPlan
  exact KeepsOut.next (by
    split
    · exact h
    · exact Keeps.cond (by
        extract_lets -underBinder -merge +onlyGivenNames x0
        have h0 : Keeps ms mf false s x0 := ((h.takeCd.out ‹_›)).thmSet
        try clear_value x0
        exact Keeps.cond h0.arm h0) ((((h.takeCd.out ‹_›)).satInc).raise))

theorem Keeps.execPlanMissTimeout {s e : State} (h : Keeps ms mf ma s e) : KeepsOut ms mf ma s (execPlanMissTimeout e) := by
  delta execPlanMissTimeout
  exact KeepsOut.next (Keeps.cond h.disarm.thmSet.raise h)

theorem Keeps.park {s e : State} (h : Keeps ms mf ma s e) : Keeps ms mf ma s (State.park e) := by
  delta State.park
  extract_lets -underBinder -merge +onlyGivenNames x0
  try clear_value x0
  extract_lets -underBinder -merge +onlyGivenNames x1
  have h1 : Keeps ms mf ma s x1 := h.forL (fun _ _ h2 => h2.setF.sendCmd)
  try clear_value x1
  exact h1.thmSet

theorem Keeps.unpark {s e : State} (h : Keeps ms mf ma s e) : Keeps ms mf ma s (State.unpark e) := by
  delta State.unpark
  extract_lets -underBinder -merge +onlyGivenNames x0
  have h0 : Keeps ms mf ma s x0 := h.forL (fun _ _ h1 => h1.setF.sendCmd)
  try clear_value x0
  exact h0.thmSet

theorem Keeps.applyActs {s e : State} {a1} (h : Keeps ms mf ma s e) : Keeps ms mf ma s (State.applyActs e a1) := by
  delta State.applyActs
  extract_lets -underBinder -merge +onlyGivenNames x0
  try clear_value x0
  exact Keeps.cond h (by
    extract_lets -underBinder -merge +onlyGivenNames x1
    have h1 : Keeps ms mf ma s x1 := Keeps.cond h.park (Keeps.cond h.unpark h)
    try clear_value x1
    extract_lets -underBinder -merge +onlyGivenNames x2
    have h2 : Keeps ms mf ma s x2 := h1.setFs
    try clear_value x2
    extract_lets -underBinder -merge +onlyGivenNames x3
    have h3 : Keeps ms mf ma s x3 := Keeps.cond h2 h2.setF.pointsChanged
    try clear_value x3
    extract_lets -underBinder -merge +onlyGivenNames x4
    have h4 : Keeps ms mf ma s x4 := h3.thmSet
    try clear_value x4
    extract_lets -underBinder -merge +onlyGivenNames x5
    try clear_value x5
    exact h4.raiseInt)

theorem Keeps.tryUndo {s e : State} {a1} (h : Keeps ms mf ma s e) : Keeps ms mf ma s (State.tryUndo e a1) := by
  delta State.tryUndo
  split
  · exact h.thmSet
  · extract_lets -underBinder -merge +onlyGivenNames x0
    try clear_value x0
    extract_lets -underBinder -merge +onlyGivenNames x1
    have h1 : Keeps ms mf ma s x1 := h.thmSet
    try clear_value x1
    extract_lets -underBinder -merge +onlyGivenNames x2
    try clear_value x2
    exact Keeps.cond h1.applyActs h1

theorem Keeps.judgeHeat {s e : State} {a1} (h : Keeps ms mf ma s e) : Keeps ms mf ma s (State.judgeHeat e a1) := by
  delta State.judgeHeat
  extract_lets -underBinder -merge +onlyGivenNames x0
  try clear_value x0
  exact Keeps.cond (by
    extract_lets -underBinder -merge +onlyGivenNames x1
    try clear_value x1
    extract_lets -underBinder -merge +onlyGivenNames x2
    have h2 : Keeps ms mf ma s x2 := h.applyActs.thmSet
    try clear_value x2
    exact Keeps.cond h2.setF.raiseInt h2.setF) h.setF.tryUndo

theorem Keeps.showForecast {s e : State} {a1} (h : Keeps ms mf ma s e) : Keeps ms mf ma s (State.showForecast e a1) := by
  delta State.showForecast
  extract_lets -underBinder -merge +onlyGivenNames x0
  try clear_value x0
  extract_lets -underBinder -merge +onlyGivenNames x1
  have h1 : Keeps ms mf ma s x1 := h.setI.setI
  try clear_value x1
  exact h1.setFs

theorem Keeps.adHard {s e : State} (h : Keeps ms false false s e) : Keeps ms false false s (State.adHard e) := by
  delta State.adHard
  extract_lets -underBinder -merge +onlyGivenNames x0
  try clear_value x0
  extract_lets -underBinder -merge +onlyGivenNames x1
  have h1 : Keeps ms false false s x1 := h.setI
  try clear_value x1
  exact Keeps.cond h1.thmSet (by
    extract_lets -underBinder -merge +onlyGivenNames x2
    try clear_value x2
    extract_lets -underBinder -merge +onlyGivenNames x3
    have h3 : Keeps ms false false s x3 := h1.thmSet
    try clear_value x3
    exact Keeps.cond h3.raiseInt.orderWatch h3)

theorem Keeps.releaseWatch {s e : State} (h : Keeps ms mf ma s e) : Keeps ms mf ma s (State.releaseWatch e) := by
  delta State.releaseWatch
  exact Keeps.cond h.setF.thmSet h

theorem Keeps.noteGain {s e : State} (h : Keeps ms mf ma s e) : Keeps ms mf ma s (State.noteGain e) := by
  delta State.noteGain
  extract_lets -underBinder -merge +onlyGivenNames x0
  try clear_value x0
  extract_lets -underBinder -merge +onlyGivenNames x1
  have h1 : Keeps ms mf ma s x1 := h.thmSet
  try clear_value x1
  exact Keeps.cond h1.raise h1

theorem Keeps.showPower {s e : State} (h : Keeps ms mf ma s e) : Keeps ms mf ma s (State.showPower e) := by
  delta State.showPower
  exact h.setF.setF

theorem Keeps.execForecast {s e : State} (h : Keeps ms false false s e) : KeepsOut ms false false s (execForecast e) := by
  delta execForecast
  exact KeepsOut.next (Keeps.cond h (by
    extract_lets -underBinder -merge +onlyGivenNames x0
    have h0 : Keeps ms false false s x0 := h.rearm.showPower
    try clear_value x0
    extract_lets -underBinder -merge +onlyGivenNames x1
    have h1 : Keeps ms false false s x1 := Keeps.cond h0.satInc h0
    try clear_value x1
    exact Keeps.cond h1 (by
      extract_lets -underBinder -merge +onlyGivenNames x2
      try clear_value x2
      extract_lets -underBinder -merge +onlyGivenNames x3
      have h3 : Keeps ms false false s x3 := h1.noteGain.doIf (fun _ h4 => h4.judgeHeat)
      try clear_value x3
      exact ((h3.doIf (fun _ h5 => h5.showForecast)).adHard).releaseWatch)))

theorem Keeps.execStepTest {s e : State} (h : Keeps ms mf ma s e) : KeepsOut ms mf ma s (execStepTest e) := by
  delta execStepTest
  exact KeepsOut.next (h.access (fun _ h0 => by
    extract_lets -underBinder -merge +onlyGivenNames x1
    try clear_value x1
    exact Keeps.cond h0.flag (by
      extract_lets -underBinder -merge +onlyGivenNames x2
      have h2 : Keeps ms mf ma s x2 := h0.thmSet
      try clear_value x2
      exact h2.setFs.arm)))

theorem Keeps.execStepTestAbort {s e : State} (h : Keeps ms mf ma s e) : KeepsOut ms mf ma s (execStepTestAbort e) := by
  delta execStepTestAbort
  exact KeepsOut.next (h.access (fun _ h0 => h0.stepFail))

theorem Keeps.divOpen {s e : State} {a1} {a2} (h : Keeps ms mf ma s e) : Keeps ms mf ma s (State.divOpen e a1 a2).2 := by
  delta State.divOpen
  exact Keeps.condR h.draw (Keeps.pairR h)

theorem Keeps.fit {s e : State} (h : Keeps ms mf ma s e) : Keeps ms mf ma s (State.fit e) := by
  delta State.fit
  exact Keeps.cond h.stepFail (Keeps.cond h.stepFail (by
    extract_lets +onlyGivenNames x0
    clear_value x0
    extract_lets +onlyGivenNames x1
    clear_value x1
    extract_lets +onlyGivenNames x2
    clear_value x2
    extract_lets +onlyGivenNames x3
    clear_value x3
    extract_lets +onlyGivenNames x4
    have h4 : Keeps ms mf ma s x4.2 := h.divOpen
    clear_value x4
    exact h4.divOpen.setFs.disarm.raiseInt))

theorem Keeps.execStepTestSample {s e : State} (h : Keeps ms mf ma s e) : KeepsOut ms mf ma s (execStepTestSample e) := by
  delta execStepTestSample
  exact KeepsOut.next (Keeps.cond h (by
    extract_lets -underBinder -merge +onlyGivenNames x0
    have h0 : Keeps ms mf ma s x0 := h.rearm
    try clear_value x0
    extract_lets -underBinder -merge +onlyGivenNames x1
    try clear_value x1
    extract_lets -underBinder -merge +onlyGivenNames x2
    have h2 : Keeps ms mf ma s x2 := h0.setF.thmSet
    try clear_value x2
    exact Keeps.cond h2.setF.flag (Keeps.cond h2.fit h2)))

theorem Keeps.execHome {s e : State} (h : Keeps ms mf ma s e) : KeepsOut ms mf ma s (execHome e) := by
  delta execHome
  exact KeepsOut.next (h.access (fun _ h0 => by
    extract_lets -underBinder -merge +onlyGivenNames x1
    try clear_value x1
    extract_lets -underBinder -merge +onlyGivenNames x2
    try clear_value x2
    exact Keeps.cond (by
      extract_lets -underBinder -merge +onlyGivenNames x3
      have h3 : Keeps ms mf ma s x3 := (h0.doIf (fun _ h4 => h4.raise)).setF
      try clear_value x3
      extract_lets -underBinder -merge +onlyGivenNames x5
      have h5 : Keeps ms mf ma s x5 := h3.setF
      try clear_value x5
      extract_lets -underBinder -merge +onlyGivenNames x6
      try clear_value x6
      extract_lets -underBinder -merge +onlyGivenNames x7
      have h7 : Keeps ms mf ma s x7 := h5.upd.homeStep
      try clear_value x7
      exact Keeps.cond h7.tltViolation (Keeps.cond h7.homeLower h7)) h0.flag))

theorem Keeps.execTiltStop {s e : State} (h : Keeps ms mf ma s e) : KeepsOut ms mf ma s (execTiltStop e) := by
  delta execTiltStop
  exact KeepsOut.next (h.access (fun _ h0 => by
    extract_lets -underBinder -merge +onlyGivenNames x1
    try clear_value x1
    exact Keeps.cond h0.setF (Keeps.cond h0.enterSto h0)))

theorem Keeps.execTltTarget {s e : State} {a0} (h : Keeps ms mf ma s e) : KeepsOut ms mf ma s (execTltTarget a0 e) := by
  delta execTltTarget
  exact KeepsOut.next (h.access (fun _ h0 => by
    extract_lets -underBinder -merge +onlyGivenNames x1
    try clear_value x1
    extract_lets -underBinder -merge +onlyGivenNames x2
    try clear_value x2
    exact Keeps.cond (by
      extract_lets -underBinder -merge +onlyGivenNames x3
      have h3 : Keeps ms mf ma s x3 := h0.setF
      try clear_value x3
      exact Keeps.cond h3.setF (by
        extract_lets -underBinder -merge +onlyGivenNames x4
        have h4 : Keeps ms mf ma s x4 := h3.setF
        try clear_value x4
        exact h4.upd)) h0.flag))

theorem Keeps.indexWindow {s e : State} {a1} (h : Keeps ms mf ma s e) : Keeps ms mf ma s (State.indexWindow e a1) := by
  delta State.indexWindow
  extract_lets -underBinder -merge +onlyGivenNames x0
  try clear_value x0
  exact Keeps.cond h.upd (Keeps.cond h.upd h)

theorem Keeps.execEncoderEdge {s e : State} {a0} (h : Keeps ms mf ma s e) : KeepsOut ms mf ma s (execEncoderEdge a0 e) := by
  delta execEncoderEdge
  exact KeepsOut.next (Keeps.cond h (by
    extract_lets -underBinder -merge +onlyGivenNames x0
    have h0 : Keeps ms mf ma s x0 := h.setSigned
    try clear_value x0
    exact Keeps.cond h0 (Keeps.cond h0.tltViolation (Keeps.cond h0.tltViolation (Keeps.cond h0.tltViolation (by
      extract_lets -underBinder -merge +onlyGivenNames x1
      have h1 : Keeps ms mf ma s x1 := h0.indexWindow
      try clear_value x1
      exact Keeps.cond (by
        extract_lets -underBinder -merge +onlyGivenNames x2
        have h2 : Keeps ms mf ma s x2 := h1.setFs.disarm
        try clear_value x2
        exact h2.upd.raiseInt) (Keeps.cond h1.setF h1)))))))

theorem Keeps.execEncIndex {s e : State} (h : Keeps ms mf ma s e) : KeepsOut ms mf ma s (execEncIndex e) := by
  delta execEncIndex
  exact KeepsOut.next (Keeps.cond h (Keeps.cond (Keeps.cond (Keeps.cond (by
    extract_lets -underBinder -merge +onlyGivenNames x0
    have h0 : Keeps ms mf ma s x0 := h.setSigned
    try clear_value x0
    exact h0.upd) (by
    extract_lets -underBinder -merge +onlyGivenNames x1
    have h1 : Keeps ms mf ma s x1 := h.setSigned.homeStep
    try clear_value x1
    exact Keeps.cond h1.homeUpper h1)) h) (Keeps.cond h.tltViolation h.upd)))

theorem Keeps.execHomingTimeout {s e : State} (h : Keeps ms mf ma s e) : KeepsOut ms mf ma s (execHomingTimeout e) := by
  delta execHomingTimeout
  exact KeepsOut.next (Keeps.cond h.homeFail h)

theorem Keeps.execSlsWindow {s e : State} (h : Keeps ms mf ma s e) : KeepsOut ms mf ma s (execSlsWindow e) := by
  delta execSlsWindow
  exact KeepsOut.next (Keeps.cond (by
    extract_lets -underBinder -merge +onlyGivenNames x0
    try clear_value x0
    extract_lets -underBinder -merge +onlyGivenNames x1
    try clear_value x1
    extract_lets -underBinder -merge +onlyGivenNames x2
    try clear_value x2
    extract_lets -underBinder -merge +onlyGivenNames x3
    have h3 : Keeps ms mf ma s x3 := h.upd.setSigned.rearm
    try clear_value x3
    exact Keeps.cond h3.tltViolation h3) h)

theorem Keeps.execPotSample {s e : State} {a0} (h : Keeps ms mf ma s e) : KeepsOut ms mf ma s (execPotSample a0 e) := by
  delta execPotSample
  exact KeepsOut.next (Keeps.cond (by
    extract_lets -underBinder -merge +onlyGivenNames x0
    have h0 : Keeps ms mf ma s x0 := h.setF.rearm.setF
    try clear_value x0
    extract_lets -underBinder -merge +onlyGivenNames x1
    try clear_value x1
    exact Keeps.cond (by
      split
      · exact h0.upd
      · exact Keeps.cond h0.tltViolation h0) h0.upd) h)

theorem Keeps.execBridgeOvercurrent {s e : State} (h : Keeps ms mf ma s e) : KeepsOut ms mf ma s (execBridgeOvercurrent e) := by
  delta execBridgeOvercurrent
  exact KeepsOut.next (Keeps.cond h (by
    extract_lets -underBinder -merge +onlyGivenNames x0 x1 x2
    have h2 : Keeps ms mf ma s x2 := h.upd
    extract_lets -underBinder -merge +onlyGivenNames x3 x4
    have h4 : Keeps ms mf ma s x4 := h2.setFs.raise
    clear_value x4
    extract_lets -underBinder -merge +onlyGivenNames x5
    have h5 : Keeps ms mf ma s x5 := Keeps.cond h4.enterSto h4
    exact Keeps.cond h5.assertTrip h5))

theorem Keeps.refuseIn {s e : State} {a1} (h : Keeps ms mf ma s e) : Keeps ms mf ma s (State.refuseIn e a1) := by
  delta State.refuseIn
  split
  · exact h.flag
  · exact h

theorem Keeps.bit {s e : State} {a1} {a2} (h : Keeps ms mf ma s e) (f2 : ∀ y0, Keeps ms mf ma s y0 → KeepsOut ms mf ma s (a2 y0)) : Keeps ms mf ma s (State.bit e a1 a2) := by
  delta State.bit
  exact Keeps.cond (h.after (f2 _ h)) h

theorem Keeps.noCommand {s e : State} {a1} {a2} (h : Keeps ms mf ma s e) : Keeps ms mf ma s (State.noCommand e a1 a2) := by
  delta State.noCommand
  exact h.access (fun _ h0 => Keeps.cond h0 h0.refuseIn)

theorem Keeps.cmdSys {s e : State} {a0} {a1} {a2} (h : Keeps ms false false s e) : KeepsOpt ms false false s (cmdSys a0 a1 a2 e) := by
  delta cmdSys
  split
  · exact KeepsOpt.some ((((h.access (fun _ h0 => h0)).bit (fun _ h1 => h1.execAdReset)).bit (fun _ h2 => h2.execCoreReset)).bit (fun _ h3 => h3.execSysReset))
  · exact KeepsOpt.some (((h.access (fun _ h4 => h4)).bit (fun _ h5 => h5.execSplit)).bit (fun _ h6 => h6.execJoin))
  · exact KeepsOpt.some (h.after h.execWatchdogKick)
  · exact KeepsOpt.some (h.after h.execWatchdogKick)
  · exact KeepsOpt.some (h.after h.execOtpRead)
  · exact KeepsOpt.none

theorem Keeps.cmdPmu {s e : State} {a0} {a1} {a2} (h : Keeps ms false false s e) : KeepsOpt ms false false s (cmdPmu a0 a1 a2 e) := by
  delta cmdPmu
  extract_lets -underBinder -merge +onlyGivenNames x0
  try clear_value x0
  split
  · exact KeepsOpt.some (by
      split
      · exact h.after h.execWatch
      · exact h.after h.execWork
      · exact h.after h.execStandby
      · exact h.noCommand)
  · exact KeepsOpt.some (h.after h.execUpdRequest)
  · exact KeepsOpt.some (h.after h.execDomainReset)
  · exact KeepsOpt.some (h.after h.execTpointRequest)
  · exact KeepsOpt.some (h.after h.execTcapWrite)
  · exact KeepsOpt.none

theorem Keeps.cmdCil {s e : State} {a0} {a1} {a2} (h : Keeps ms false ma s e) : KeepsOpt ms false ma s (cmdCil a0 a1 a2 e) := by
  delta cmdCil
  exact KeepsOpt.cond KeepsOpt.none (KeepsOpt.some (by
    split
    · exact h.after h.execCilOpen
    · exact h.after h.execCilAppend
    · exact h.after h.execCilClose
    · exact h.after h.execCilCheck
    · exact h.after h.execCilCommit
    · exact h.after h.execCilAbort
    · exact h.noCommand))

theorem Keeps.cmdTen {s e : State} {a0} {a1} (h : Keeps ms mf false s e) : KeepsOpt ms mf false s (cmdTen a0 a1 e) := by
  delta cmdTen
  extract_lets -underBinder -merge +onlyGivenNames x0
  try clear_value x0
  exact KeepsOpt.cond (KeepsOpt.some (by
    split
    · exact h.after h.execSuspend
    · exact h.after h.execResume
    · exact h.after h.execReset
    · exact h.after h.execLendon
    · exact h.after h.execLendoff
    · exact h.noCommand)) (KeepsOpt.cond (KeepsOpt.some (h.after h.execTenSqdb)) (KeepsOpt.cond (KeepsOpt.some (h.after h.execTenCqhd)) KeepsOpt.none))

theorem Keeps.cmdAsy {s e : State} {a0} {a1} (h : Keeps ms mf false s e) : KeepsOpt ms mf false s (cmdAsy a0 a1 e) := by
  delta cmdAsy
  exact KeepsOpt.cond KeepsOpt.none (KeepsOpt.some (by
    split
    · exact h.after h.execDemote
    · exact h.after h.execDistrust
    · exact h.after h.execRetry
    · exact h.after h.execClearzones
    · exact h.noCommand))

theorem Keeps.cmdIng {s e : State} {a0} {a1} (h : Keeps ms mf ma s e) : KeepsOpt ms mf ma s (cmdIng a0 a1 e) := by
  delta cmdIng
  exact KeepsOpt.cond (KeepsOpt.some (h.after h.execCameraConfigWrite)) KeepsOpt.none

theorem Keeps.cmdSil {s e : State} {a0} {a1} (h : Keeps ms mf false s e) : KeepsOpt ms mf false s (cmdSil a0 a1 e) := by
  delta cmdSil
  split
  · exact KeepsOpt.some ((((h.access (fun _ h0 => h0)).bit (fun _ h1 => h1.execRetrain)).bit (fun _ h2 => h2.execFulltrain)).bit (fun _ h3 => h3.execSillrst))
  · exact KeepsOpt.some (((h.access (fun _ h4 => h4.storeAt)).bit (fun _ h5 => h5.execSleepReq)).bit (fun _ h6 => h6.execSilResume))
  · exact KeepsOpt.some (h.after h.execDebugEnable)
  · exact KeepsOpt.none

theorem Keeps.ringEnable {s e : State} {a1} {a2} {a3} {a4} (h : Keeps ms mf ma s e) : Keeps ms mf ma s (State.ringEnable e a1 a2 a3 a4) := by
  delta State.ringEnable
  exact Keeps.cond h.setF h

theorem Keeps.cmdNet {s e : State} {a0} {a1} {a2} (h : Keeps false mf ma s e) : KeepsOpt false mf ma s (cmdNet a0 a1 a2 e) := by
  delta cmdNet
  extract_lets -underBinder -merge +onlyGivenNames x0
  try clear_value x0
  extract_lets -underBinder -merge +onlyGivenNames x1
  try clear_value x1
  extract_lets -underBinder -merge +onlyGivenNames x2
  try clear_value x2
  exact KeepsOpt.cond (KeepsOpt.some (h.access (fun _ h3 => h3.setF.portEnable))) (KeepsOpt.cond (KeepsOpt.some (Keeps.cond (h.access (fun _ h4 => h4)) (by
    split
    · exact h.after h.execC22Write
    · exact h.after h.execC22Read
    · exact h.after h.execC45Address
    · exact h.after h.execC45Write
    · exact h.after h.execC45Read
    · exact h.after h.execC45ReadIncrement
    · exact h.access (fun _ h5 => h5)))) (KeepsOpt.cond (KeepsOpt.some (h.after h.execRxTailWrite)) (KeepsOpt.cond (by
    extract_lets -underBinder -merge +onlyGivenNames x6
    try clear_value x6
    exact KeepsOpt.some (h.access (fun _ h7 => h7.storeAt.ringEnable))) (KeepsOpt.cond (KeepsOpt.some (h.access (fun _ h8 => h8.storeAt.ringEnable))) (KeepsOpt.cond (KeepsOpt.some (h.after h.execTxTailWrite)) KeepsOpt.none)))))

theorem Keeps.cmdTim {s e : State} {a0} {a1} (h : Keeps ms mf ma s e) : KeepsOpt ms mf ma s (cmdTim a0 a1 e) := by
  delta cmdTim
  extract_lets -underBinder -merge +onlyGivenNames x0
  try clear_value x0
  exact KeepsOpt.cond (KeepsOpt.some (((((h.access (fun _ h1 => h1)).bit (fun _ h2 => h2.execSnap)).bit (fun _ h3 => h3.execTb3Align)).bit (fun _ h4 => h4.execSelA)).bit (fun _ h5 => h5.execSelB))) (KeepsOpt.cond (KeepsOpt.some (h.after h.execDomainLockWrite)) (KeepsOpt.cond (KeepsOpt.some (h.after h.execBaseStep)) (KeepsOpt.cond (KeepsOpt.some (h.after h.execTriggerArm)) KeepsOpt.none)))

theorem Keeps.cmdCrn {s e : State} {a0} {a1} (h : Keeps ms mf ma s e) : KeepsOpt ms mf ma s (cmdCrn a0 a1 e) := by
  delta cmdCrn
  split
  · exact KeepsOpt.some (h.access (fun _ h0 => h0.crnEnable))
  · exact KeepsOpt.some (((h.access (fun _ h1 => h1)).bit (fun _ h2 => h2.execRestart)).bit (fun _ h3 => h3.execRevert))
  · exact KeepsOpt.some (h.access (fun _ h4 => h4.storeAt.ringEnable))
  · exact KeepsOpt.some (h.access (fun _ h5 => h5.storeAt.ringEnable))
  · exact KeepsOpt.some (h.access (fun _ h6 => h6.storeAt.ringEnable))
  · exact KeepsOpt.none

theorem Keeps.cmdTlt {s e : State} {a0} {a1} (h : Keeps ms mf ma s e) : KeepsOpt ms mf ma s (cmdTlt a0 a1 e) := by
  delta cmdTlt
  split
  · exact KeepsOpt.some (((h.access (fun _ h0 => h0)).bit (fun _ h1 => h1.execHome)).bit (fun _ h2 => h2.execTiltStop))
  · exact KeepsOpt.some (h.after h.execTltTarget)
  · exact KeepsOpt.none

theorem Keeps.cmdSio {s e : State} {a0} {a1} (h : Keeps ms mf ma s e) : KeepsOpt ms mf ma s (cmdSio a0 a1 e) := by
  delta cmdSio
  split
  · exact KeepsOpt.some (((((h.access (fun _ h0 => h0)).bit (fun _ h1 => h1.execArmA)).bit (fun _ h2 => h2.execArmB)).bit (fun _ h3 => h3.execTripA)).bit (fun _ h4 => h4.execTripB))
  · exact KeepsOpt.some (h.after h.execTpcfgWrite)
  · exact KeepsOpt.none

theorem Keeps.cmdEvl {s e : State} {a0} {a1} (h : Keeps ms false ma s e) : KeepsOpt ms false ma s (cmdEvl a0 a1 e) := by
  delta cmdEvl
  split
  · exact KeepsOpt.some (h.after h.execLogRelease)
  · exact KeepsOpt.some (((h.access (fun _ h0 => h0)).bit (fun _ h1 => h1.execPrestart)).bit (fun _ h2 => h2.execFlush))
  · exact KeepsOpt.some ((h.access (fun _ h3 => h3)).bit (fun _ h4 => h4.execFirmwareEvent))
  · exact KeepsOpt.none

theorem Keeps.cmdLck {s e : State} {a0} {a1} (h : Keeps ms mf ma s e) : KeepsOpt ms mf ma s (cmdLck a0 a1 e) := by
  delta cmdLck
  exact KeepsOpt.cond (KeepsOpt.some (h.access (fun _ h0 => h0.setF))) (by
    split
    · exact KeepsOpt.some ((h.access (fun _ h1 => h1)).bit (fun _ h2 => h2.execPasswordVerify))
    · exact KeepsOpt.some ((h.access (fun _ h3 => h3)).bit (fun _ h4 => h4.execAuthEnd))
    · exact KeepsOpt.some (h.after (KeepsOut.cond h.execKeyOpen h.execKeyClose))
    · exact KeepsOpt.none)

theorem Keeps.cmdI2c {s e : State} {a0} {a1} {a2} (h : Keeps ms mf ma s e) : KeepsOpt ms mf ma s (cmdI2c a0 a1 a2 e) := by
  delta cmdI2c
  split
  · exact KeepsOpt.some ((h.access (fun _ h0 => h0)).bit (fun _ h1 => h1.execI2cTransfer))
  · exact KeepsOpt.some (h.after h.execI2cTxd)
  · exact KeepsOpt.none

theorem Keeps.cmdQspi {s e : State} {a0} {a1} (h : Keeps ms mf ma s e) : KeepsOpt ms mf ma s (cmdQspi a0 a1 e) := by
  delta cmdQspi
  exact KeepsOpt.cond KeepsOpt.none (by
    extract_lets -underBinder -merge +onlyGivenNames x0
    try clear_value x0
    exact KeepsOpt.some (by
      split
      · exact h.after h.execQspiProgram
      · exact h.after h.execQspiErase4k
      · exact h.after h.execQspiErase64k
      · exact h.after h.execQspiRead
      · exact Keeps.cond (h.access (fun _ h1 => h1)) h.noCommand))

theorem Keeps.cmdSpi {s e : State} {a0} {a1} {a2} (h : Keeps ms mf ma s e) : KeepsOpt ms mf ma s (cmdSpi a0 a1 a2 e) := by
  delta cmdSpi
  split
  · exact KeepsOpt.some ((h.access (fun _ h0 => h0)).bit (fun _ h1 => h1.execSpiTransfer))
  · exact KeepsOpt.some (h.after h.execSpiTxd)
  · exact KeepsOpt.none

theorem Keeps.cmdGpio {s e : State} {a0} {a1} (h : Keeps ms mf ma s e) : KeepsOpt ms mf ma s (cmdGpio a0 a1 e) := by
  delta cmdGpio
  split
  · exact KeepsOpt.some (h.access (fun _ h0 => h0.setF.drivePins))
  · exact KeepsOpt.some (h.after h.execGpioSet)
  · exact KeepsOpt.some (h.after h.execGpioClr)
  · exact KeepsOpt.none

theorem Keeps.cmdWrite {s e : State} {a0} {a1} {a2} {a3} {a4} (h : Keeps false false false s e) : KeepsOpt false false false s (cmdWrite a0 a1 a2 a3 a4 e) := by
  delta cmdWrite
  extract_lets -underBinder -merge +onlyGivenNames x0
  try clear_value x0
  split
  · exact h.cmdSys
  · exact h.cmdPmu
  · exact h.cmdCil
  · exact h.cmdTen
  · exact h.cmdAsy
  · exact h.cmdIng
  · exact h.cmdSil
  · exact h.cmdNet
  · exact h.cmdTim
  · exact h.cmdCrn
  · exact KeepsOpt.cond (KeepsOpt.some (h.after h.execLuxDarkWrite)) KeepsOpt.none
  · exact h.cmdTlt
  · exact h.cmdSio
  · exact h.cmdEvl
  · exact h.cmdLck
  · exact KeepsOpt.cond (KeepsOpt.some (((h.access (fun _ h1 => h1)).bit (fun _ h2 => h2.execStepTest)).bit (fun _ h3 => h3.execStepTestAbort))) KeepsOpt.none
  · exact h.cmdI2c
  · exact h.cmdI2c
  · exact h.cmdQspi
  · exact h.cmdSpi
  · exact KeepsOpt.cond (KeepsOpt.some (h.after h.execUartTxd)) KeepsOpt.none
  · exact h.cmdGpio
  · exact KeepsOpt.none

theorem Keeps.settled {s e : State} {a1} {a2} (h : Keeps ms mf ma s e) : Keeps ms mf ma s (State.settled e a1 a2) := by
  delta State.settled
  split
  · exact h.refreshZones.luxDarkRefresh.sioSources.tltRefresh
  · exact h.refreshZones.luxDarkRefresh.sioSources.tltRefresh
  · exact h.refreshZones.luxDarkRefresh.sioSources.tltRefresh
  · exact h.refreshZones.luxDarkRefresh.sioSources.tltRefresh
  · exact h.refreshZones.luxDarkRefresh.sioSources.tltRefresh
  · exact h.timEval
  · exact h.drivePins
  · exact h

theorem Keeps.plainWrite {s e : State} {a1} {a2} {a3} {a4} (h : Keeps ms mf ma s e) : Keeps ms mf ma s (State.plainWrite e a1 a2 a3 a4) := by
  delta State.plainWrite
  exact Keeps.cond h.keyViolation (by
    extract_lets -underBinder -merge +onlyGivenNames x0
    have h0 : Keeps ms mf ma s x0 := h.answer
    try clear_value x0
    exact Keeps.cond h0.refuseIn (by
      extract_lets -underBinder -merge +onlyGivenNames x1
      try clear_value x1
      exact h0.storeClamp.settled))

theorem Keeps.regWrite {s e : State} {a1} {a2} {a3} {a4} {a5} (h : Keeps false false false s e) : Keeps false false false s (State.regWrite e a1 a2 a3 a4 a5) := by
  delta State.regWrite
  extract_lets -underBinder -merge +onlyGivenNames x0
  try clear_value x0
  split
  · exact h.answer
  · exact Keeps.cond h.answer (Keeps.cond h.answer (Keeps.cond h.answer (by
      split
      · exact (h.cmdWrite.out ‹_›)
      · exact h.plainWrite)))

theorem Keeps.execPmuRtcLo {s e : State} (h : Keeps ms mf ma s e) : KeepsOut ms mf ma s (execPmuRtcLo e) := by
  delta execPmuRtcLo
  exact KeepsOut.next (h.access (fun _ h0 => h0.setF.answer))

theorem Keeps.regRead {s e : State} {a1} {a2} {a3} (h : Keeps ms mf ma s e) : Keeps ms mf ma s (State.regRead e a1 a2 a3) := by
  delta State.regRead
  extract_lets -underBinder -merge +onlyGivenNames x0
  try clear_value x0
  extract_lets -underBinder -merge +onlyGivenNames x1
  try clear_value x1
  split
  · exact h.answer
  · exact Keeps.cond h.answer (Keeps.cond h.answer (Keeps.cond h.answer (Keeps.cond (h.after h.execSysMtimeLo) (Keeps.cond (h.after h.execPmuRtcLo) (Keeps.cond (h.after h.execEvlQMax) (Keeps.cond (h.after h.execI2cRxd) (Keeps.cond (h.after h.execSpiRxd) (Keeps.cond (h.after h.execUartRxd) h.answer.afterRead))))))))

theorem Keeps.busFault {s e : State} {a1} (h : Keeps ms mf ma s e) : Keeps ms mf ma s (State.busFault e a1) := by
  delta State.busFault
  split
  · exact h.answer
  · exact h.answer

theorem Keeps.busMisaligned {s e : State} {a1} (h : Keeps ms mf ma s e) : Keeps ms mf ma s (State.busMisaligned e a1) := by
  delta State.busMisaligned
  split
  · exact h.answer
  · exact h.answer

theorem Keeps.answerBytes {s e : State} {a1} (h : Keeps ms mf ma s e) : Keeps ms mf ma s (State.answerBytes e a1) := by
  delta State.answerBytes
  exact h.answer

theorem Keeps.romRead {s e : State} {a1} {a2} {a3} {a4} (h : Keeps ms mf ma s e) : Keeps ms mf ma s (State.romRead e a1 a2 a3 a4) := by
  delta State.romRead
  exact Keeps.cond h.busFault.raise h.answerBytes

theorem Keeps.sramRead {s e : State} {a1} {a2} {a3} {a4} (h : Keeps ms mf ma s e) : Keeps ms mf ma s (State.sramRead e a1 a2 a3 a4) := by
  delta State.sramRead
  extract_lets -underBinder -merge +onlyGivenNames x0
  have h0 : Keeps ms mf ma s x0 := h.answerBytes
  try clear_value x0
  split
  · exact h0
  · exact h0.sramCe
  · exact h.busFault.sramUe

theorem Keeps.logRead {s e : State} {a1} {a2} {a3} (h : Keeps ms mf ma s e) : Keeps ms mf ma s (State.logRead e a1 a2 a3) := by
  delta State.logRead
  exact Keeps.cond h.answer.logRamUe h.answerBytes

theorem Keeps.busLoad {s e : State} {a1} {a2} {a3} {a4} (h : Keeps ms mf ma s e) : Keeps ms mf ma s (State.busLoad e a1 a2 a3 a4) := by
  delta State.busLoad
  split
  · exact Keeps.cond h.busMisaligned (by
      split
      · exact h.romRead
      · exact h.sramRead
      · exact Keeps.cond h.answerBytes h.answer
      · exact h.logRead)
  · exact Keeps.cond (by
      split
      · exact h.after h.execAdWindowRead
      · exact h.answer) (Keeps.cond h.regRead h.answer)

theorem Keeps.busStore {s e : State} {a1} {a2} {a3} {a4} {a5} (h : Keeps false false false s e) : Keeps false false false s (State.busStore e a1 a2 a3 a4 a5) := by
  delta State.busStore
  split
  · exact Keeps.cond h.busMisaligned (by
      split
      · exact h.busFault
      · exact h.sramWrite.answer
      · exact h.answer)
  · exact Keeps.cond (by
      split
      · exact h.after h.execAdWindowWrite
      · exact h.answer) (Keeps.cond h.regWrite h.answer)

theorem Keeps.coreAccess {s e : State} {a1} {a2} {a3} {a4} {a5} {a6} {a7} (h : Keeps false false false s e) : Keeps false false false s (State.coreAccess e a1 a2 a3 a4 a5 a6 a7) := by
  delta State.coreAccess
  split
  · exact Keeps.cond h.answer.mismatch (by
      split
      · exact h.busStore
      · exact h.busLoad)
  · split
    · exact h.busStore
    · exact h.busLoad

theorem Keeps.execRegisterWrite {s e : State} {a0} {a1} {a2} {a3} {a4} (h : Keeps false false false s e) : KeepsOut false false false s (execRegisterWrite a0 a1 a2 a3 a4 e) := by
  delta execRegisterWrite
  exact KeepsOut.next h.coreAccess

theorem Keeps.debugAccess {s e : State} {a1} {a2} {a3} {a4} {a5} {a6} (h : Keeps false false false s e) : Keeps false false false s (State.debugAccess e a1 a2 a3 a4 a5 a6) := by
  delta State.debugAccess
  exact Keeps.cond h (Keeps.cond h.dbgSet (by
    extract_lets -underBinder -merge +onlyGivenNames x0
    have h0 : Keeps false false false s x0 := by
      unfold x0
      split
      · exact h.busStore
      · exact h.busLoad
    try clear_value x0
    extract_lets -underBinder -merge +onlyGivenNames x1
    have h1 : Keeps false false false s x1 := h0.dbgSet
    try clear_value x1
    split
    · exact h1.dbgSet
    · exact h1.dbgSet
    · exact h1))

theorem Keeps.execSystemBusAccess {s e : State} {a0} {a1} {a2} {a3} {a4} {a5} {a6} (h : Keeps false false false s e) : KeepsOut false false false s (execSystemBusAccess a0 a1 a2 a3 a4 a5 a6 e) := by
  delta execSystemBusAccess
  exact KeepsOut.next (by
    split
    · exact Keeps.cond h.coreAccess h
    · exact h.debugAccess)

theorem Keeps.updMoved {s e : State} {a1} {a2} (h : Keeps ms mf ma s e) : Keeps ms mf ma s (State.updMoved e a1 a2) := by
  delta State.updMoved
  exact h.charge.wrapAdd

theorem Keeps.updRow {s e : State} {a1} {a2} {a3} (h : Keeps ms mf false s e) (f3 : ∀ y0, ∀ y1, Keeps ms mf false s y1 → Keeps ms mf false s (a3 y0 y1)) : Keeps ms mf false s (State.updRow e a1 a2 a3) := by
  delta State.updRow
  exact h.startRow (fun _ _ _ _ h0 => Keeps.cond h0.finish (Keeps.cond h0 (f3 _ _ h0.setFs)))

theorem Keeps.updPoison {s e : State} {a1} (h : Keeps ms mf ma s e) : Keeps ms mf ma s (State.updPoison e a1) := by
  delta State.updPoison
  exact h.satInc.adRaise

theorem Keeps.updReduce {s e : State} {a1} {a2} {a3} (h : Keeps ms mf false s e) : Keeps ms mf false s (State.updReduce e a1 a2 a3) := by
  delta State.updReduce
  extract_lets -underBinder -merge +onlyGivenNames x0
  try clear_value x0
  extract_lets -underBinder -merge +onlyGivenNames x1
  have h1 : Keeps ms mf false s x1.2 := h.fetch
  try clear_value x1
  extract_lets -underBinder -merge +onlyGivenNames x2
  try clear_value x2
  extract_lets -underBinder -merge +onlyGivenNames x3
  have h3 : Keeps ms mf false s x3.2 := Keeps.condR (Keeps.pairR h1) h1.fetch
  try clear_value x3
  exact Keeps.cond h3.updPoison.beginPlain (by
    extract_lets -underBinder -merge +onlyGivenNames x4
    have h4 : Keeps ms mf false s x4 := h3
    try clear_value x4
    extract_lets -underBinder -merge +onlyGivenNames x5
    try clear_value x5
    extract_lets -underBinder -merge +onlyGivenNames x6
    try clear_value x6
    extract_lets -underBinder -merge +onlyGivenNames x7
    try clear_value x7
    extract_lets -underBinder -merge +onlyGivenNames x8
    try clear_value x8
    exact h4.updMoved.store.beginPlain)

theorem Keeps.execReduce {s e : State} {a0} {a1} (h : Keeps ms mf false s e) : KeepsOut ms mf false s (execReduce a0 a1 e) := by
  delta execReduce
  exact KeepsOut.next (h.updRow (fun _ _ h0 => h0.updReduce))

theorem Keeps.execReduceFirst {s e : State} {a0} {a1} (h : Keeps ms mf false s e) : KeepsOut ms mf false s (execReduceFirst a0 a1 e) := by
  delta execReduceFirst
  exact KeepsOut.next (h.updRow (fun _ _ h0 => h0.updReduce))

theorem Keeps.putSlot {s e : State} {a1} {a2} {a3} {a4} {a5} {a6} (h : Keeps ms mf false s e) : Keeps ms mf false s (State.putSlot e a1 a2 a3 a4 a5 a6) := by
  delta State.putSlot
  extract_lets -underBinder -merge +onlyGivenNames x0
  try clear_value x0
  exact (h.forN (fun _ _ h1 => h1.tenWrite)).doIf (fun _ h2 => h2.adFault)

theorem Keeps.badTensor {s e : State} {a1} {a2} {a3} {a4} (h : Keeps ms mf ma s e) : Keeps ms mf ma s (State.badTensor e a1 a2 a3 a4).2 := by
  delta State.badTensor
  split
  · exact Keeps.pairR h
  · extract_lets -underBinder -merge +onlyGivenNames x0
    have h0 : Keeps ms mf ma s x0.2 := h.meetError
    try clear_value x0
    exact Keeps.pairR h0

theorem Keeps.execNorm {s e : State} {a0} {a1} (h : Keeps ms mf false s e) : KeepsOut ms mf false s (execNorm a0 a1 e) := by
  delta execNorm
  exact KeepsOut.next (h.updRow (fun _ _ h0 => by
    extract_lets -underBinder -merge +onlyGivenNames x1
    try clear_value x1
    extract_lets -underBinder -merge +onlyGivenNames x2
    try clear_value x2
    extract_lets -underBinder -merge +onlyGivenNames x3
    try clear_value x3
    extract_lets -underBinder -merge +onlyGivenNames x4
    have h4 : Keeps ms mf false s x4.2 := h0.badTensor
    try clear_value x4
    extract_lets -underBinder -merge +onlyGivenNames x5
    have h5 : Keeps ms mf false s x5 := h4.updMoved
    try clear_value x5
    extract_lets -underBinder -merge +onlyGivenNames x6
    try clear_value x6
    extract_lets -underBinder -merge +onlyGivenNames x7
    try clear_value x7
    extract_lets -underBinder -merge +onlyGivenNames x8
    try clear_value x8
    extract_lets -underBinder -merge +onlyGivenNames x9
    have h9 : Keeps ms mf false s x9 := h5.forN (fun _ _ h10 => by
      split
      · exact h10.store
      · exact h10)
    try clear_value x9
    extract_lets -underBinder -merge +onlyGivenNames x11
    try clear_value x11
    extract_lets -underBinder -merge +onlyGivenNames x12
    have h12 : Keeps ms mf false s x12 := Keeps.cond h9.satInc.adRaise h9
    try clear_value x12
    extract_lets -underBinder -merge +onlyGivenNames x13
    have h13 : Keeps ms mf false s x13 := Keeps.cond h12.updPoison h12
    try clear_value x13
    exact h13.beginPlain))

theorem Keeps.updTensor {s e : State} {a1} {a2} {a3} {a4} {a5} {a6} (h : Keeps ms mf false s e) : Keeps ms mf false s (State.updTensor e a1 a2 a3 a4 a5 a6) := by
  delta State.updTensor
  extract_lets -underBinder -merge +onlyGivenNames x0
  try clear_value x0
  extract_lets -underBinder -merge +onlyGivenNames x1
  try clear_value x1
  extract_lets -underBinder -merge +onlyGivenNames x2
  try clear_value x2
  extract_lets -underBinder -merge +onlyGivenNames x3
  try clear_value x3
  extract_lets -underBinder -merge +onlyGivenNames x4
  try clear_value x4
  extract_lets -underBinder -merge +onlyGivenNames x5
  try clear_value x5
  extract_lets -underBinder -merge +onlyGivenNames x6
  try clear_value x6
  extract_lets -underBinder -merge +onlyGivenNames x7
  try clear_value x7
  extract_lets -underBinder -merge +onlyGivenNames x8
  try clear_value x8
  extract_lets -underBinder -merge +onlyGivenNames x9
  have h9 : Keeps ms mf false s x9 := h.tenStore
  try clear_value x9
  extract_lets -underBinder -merge +onlyGivenNames x10
  have h10 : Keeps ms mf false s x10 := h9.tenStore
  try clear_value x10
  extract_lets -underBinder -merge +onlyGivenNames x11
  have h11 : Keeps ms mf false s x11 := Keeps.cond h10 h10.tenStore
  try clear_value x11
  exact h11.putSlot

theorem Keeps.execUpdate {s e : State} {a0} {a1} (h : Keeps ms mf false s e) : KeepsOut ms mf false s (execUpdate a0 a1 e) := by
  delta execUpdate
  exact KeepsOut.next (h.updRow (fun _ _ h0 => by
    extract_lets -underBinder -merge +onlyGivenNames x1
    try clear_value x1
    extract_lets -underBinder -merge +onlyGivenNames x2
    try clear_value x2
    extract_lets -underBinder -merge +onlyGivenNames x3
    try clear_value x3
    extract_lets -underBinder -merge +onlyGivenNames x4
    have h4 : Keeps ms mf false s x4.2 := h0.badTensor
    try clear_value x4
    extract_lets -underBinder -merge +onlyGivenNames x5
    have h5 : Keeps ms mf false s x5 := h4.updMoved
    try clear_value x5
    extract_lets -underBinder -merge +onlyGivenNames x6
    have h6 : Keeps ms mf false s x6 := h5.forL (fun _ _ h7 => Keeps.cond h7 h7.updTensor)
    try clear_value x6
    extract_lets -underBinder -merge +onlyGivenNames x8
    have h8 : Keeps ms mf false s x8 := Keeps.cond h6.updPoison h6
    try clear_value x8
    exact h8.beginPlain))

end Sys2Proof.Machine
end

