-- ==== Sys2Proof/Laws/KeepsBut.lean ====
section
/-! SUPPORT. The one command that writes OTP, APPLY_STEP_DONE (R375), and the cycle that passes on an empty queue. -/

namespace Sys2Proof.Machine

/-- What follows a burn keeps what it kept. -/
theorem KeepsBut.and {s e t : State} (h : KeepsBut s e) (k : Keeps false false false e t) : KeepsBut s t := h.trans k.but

theorem KeepsBut.burnKey {s e : State} (h : KeepsBut s e) (k : Nat) (l : List Byte) : KeepsBut s (e.burnKey k l) := by
  delta State.burnKey
  exact ((h.burn _ _).burn _ _).burn _ _

theorem KeepsBut.burnRevoke {s e : State} (h : KeepsBut s e) (k : Nat) : KeepsBut s (e.burnRevoke k) := h.burn _ _

theorem KeepsBut.forL {α : Type} {s : State} {f : α → State → State} (hf : ∀ a t, KeepsBut s t → KeepsBut s (f a t)) (l : List α) :
    ∀ {e : State}, KeepsBut s e → KeepsBut s (e.forL l f) := by
  induction l with
  | nil => exact fun h => h
  | cons a l ih => exact fun h => ih (hf a _ h)

theorem KeepsBut.burnPart {s e : State} (h : KeepsBut s e) (k : Nat) (l : List Byte) (n : Nat) : KeepsBut s (e.burnPart k l n) := by
  delta State.burnPart
  exact (h.burn _ _).burn _ _

theorem KeepsBut.step4 (s : State) (k : Nat) : KeepsBut s (s.step4 k) := by
  delta State.step4
  extract_lets -underBinder +onlyGivenNames c l b x
  have hx : KeepsBut s x := by
    unfold x
    split
    · exact ((Keeps.refl s).but.burnKey _ _).and (Keeps.refl _).log
    · exact (Keeps.refl s).but
  clear_value x
  exact (KeepsBut.forL (fun n t h => (h.burnRevoke n).and (Keeps.refl _).log) b.2 hx).and (Keeps.refl _).showKeys

theorem KeepsBut.burning {s : State} {a : Apply} {m : Nat} : KeepsBut s (s.burning a m) := by
  delta State.burning
  split
  · exact (Keeps.refl s).but.burnPart _ _ _
  · exact (Keeps.refl s).but

/-- `KeepsBut` for the state an operation may answer. -/
def KeepsButOpt (s : State) (o : Option State) : Prop := ∀ t, o = some t → KeepsBut s t

theorem KeepsButOpt.some {s e : State} (h : KeepsBut s e) : KeepsButOpt s (some e) := fun _ k => by cases k; exact h
theorem KeepsButOpt.none {s : State} : KeepsButOpt s none := fun _ k => by cases k

theorem KeepsButOpt.cond {s : State} {c : Prop} {inst : Decidable c} {a b : Option State} (ha : KeepsButOpt s a) (hb : KeepsButOpt s b) :
    KeepsButOpt s (@ite _ c inst a b) := by split <;> assumption

theorem KeepsBut.stepWork {s : State} {a : Apply} : KeepsButOpt s (s.stepWork a) := by
  have h := Keeps.refl (ms := false) (mf := false) (ma := false) s
  delta State.stepWork
  split
  · exact .some (Keeps.cond h.adReset h).but
  · exact .some (KeepsBut.step4 s _)
  · exact .some h.writeBlocks.dropTiles.but
  · exact .cond (.cond .none (.some h.upd.but)) (.some h.but)
  · exact .some (Keeps.cond h h.restoreLending).but
  · exact .cond (.cond (.some h.setF.but) .none) (.some h.but)
  · exact .some h.step9.but
  · exact .some h.but

theorem KeepsBut.execApplyStepDone {s t : State} {ok : Bool} {part : Option Nat} {progs : List Prog}
    (h : execApplyStepDone ok part progs s = .next t) : KeepsBut s t := by
  delta Sys2Proof.Machine.execApplyStepDone at h
  cases h
  split
  · exact (Keeps.refl s).but
  · extract_lets -underBinder +onlyGivenNames x y
    have hx : Keeps false false false s x := (Keeps.refl s).upd
    clear_value x
    have hy : KeepsBut s y := by
      unfold y
      split
      · exact hx.but
      · split
        · exact hx.but.trans KeepsBut.burning
        · split
          · exact hx.applyFails.but
          · split
            · exact hx.but
            · split
              · exact hx.applyFails.but
              · next u hu =>
                have hu := hx.but.trans (KeepsBut.stepWork u hu)
                split
                · exact hu.and (Keeps.refl _).beginStep
                · exact hu.and (Keeps.refl _).applyOk
    exact hy.and (Keeps.refl y).upd

/-- A cycle takes 8 ns; it changes neither the queue, nor SRAM, the flash array, OTP and the boot ROM, and keeps the memories canonical. -/
theorem Keeps.cycle (s : State) : Keeps true true false { s with now := s.now + 8 } s.tick := by
  delta State.tick
  extract_lets x
  have hx : Keeps true true false s x := (Keeps.refl s).sendEnds.linkTick.abortsDone.tilesReset.countCycles
  clear_value x
  have ht : Keeps true true false s x.timTick := hx.timTick
  refine Keeps.recordTick ?_
  have hn : x.now = s.now := hx.now
  refine ⟨ht.rom, ht.otp, ht.pending, ?_, fun w => ht.mem w, ht.sramSame, ht.flashSame, fun w => nomatch w⟩
  show x.now + 8 = s.now + 8
  rw [hn]

end Sys2Proof.Machine
end

