-- ==== Sys2Proof/WellFormed.lean ====
section
/-! DEFINITION. Well-formed commands: operands held as numbers and lists lie in the ranges of the fields they stand for (R3, R68b, R111,
R119, R146, R163, R165, R253, R333, R349, R371, R401, R414, R455, R486, R552, R561, R562, R586, R592, R611, R649). -/

namespace Sys2Proof

open Machine

/-- The command's operands are in range. -/
def Instr.wf (i : Instr) : Bool :=
  match i with
  | .registerWrite _ addr size _ _ => decide (addr < 2 ^ 32) && [1, 2, 4].contains size
  | .i2cRxd _ => true
  | .uartRxd _ => true
  | .spiRxd => true
  | .tlSeammax _ => true
  | .evlQMax => true
  | .sysMtimeLo => true
  | .pmuRtcLo => true
  | .cilOpen => true
  | .cilAppend => true
  | .cilClose _ => true
  | .cilCheck _ => true
  | .cilCommit _ => true
  | .cilAbort => true
  | .applyStepDone _ part _ => part.all fun m => decide (m ≤ 64)
  | .applyStepDeadline _ => true
  | .passwordVerify len => decide (len < 64)
  | .verificationDone _ => true
  | .authEnd => true
  | .sessionExpiry => true
  | .lockEnd _ => true
  | .keyOpen block code => decide (block < 32) && decide (code < 65536)
  | .keyClose block code => decide (block < 32) && decide (code < 65536)
  | .keyExpiry block => decide (block < 25)
  | .suspend _ => true
  | .resume _ => true
  | .reset _ => true
  | .lendon _ => true
  | .lendoff _ => true
  | .tenSqdb _ _ tail => decide (tail < 1024)
  | .tenCqhd _ _ head => decide (head < 1024)
  | .adWindowRead offset size => decide (offset < 2 ^ 28) && (size == 1 || size == 2 || size == 4)
  | .adWindowWrite offset size _ => decide (offset < 2 ^ 28) && (size == 1 || size == 2 || size == 4)
  | .memTimeout => true
  | .tenantFault _ code arg => decide (code < 256) && decide (arg < 2 ^ 32)
  | .scrubComplete _ => true
  | .modelVerified _ _ => true
  | .stateAckTimeout _ => true
  | .canaryAuditRound => true
  | .auditAnswerTimeout => true
  | .majorFrameStart => true
  | .frameReportTimeout => true
  | .slotBoundary => true
  | .slotStopLead => true
  | .memoryGrant _ => true
  | .frameStart _ _ _ _ => true
  | .linePacket _ _ _ _ dtype payload _ => decide (2 ≤ dtype ∧ dtype < 64) && decide (payload.length < 65536)
  | .frameEnd _ _ _ _ => true
  | .frameTimeout _ => true
  | .cameraSilence _ => true
  | .flintCopy _ => true
  | .phyError _ => true
  | .cameraConfigWrite _ _ _ => true
  | .i2cTransfer _ addr _ _ len _ => decide (addr < 1024) && decide (len < 256)
  | .i2cTransferDone _ _ count data => decide (count < 256) && decide (data.length < 256)
  | .arbitrationLost _ byte bit data => decide (byte < 256) && decide (bit < 9) && decide (data.length < 256)
  | .i2cRetry _ _ => true
  | .busStuck _ count data => decide (count < 256) && decide (data.length < 256)
  | .i2cBuserr _ count data => decide (count < 256) && decide (data.length < 256)
  | .i2cTxd _ _ => true
  | .linkTraining ev => (match ev with | .trn1 l => l.length == 8 | .trn2 b => b.length == 8 | _ => true)
  | .trainingStepTimeout _ => true
  | .linkUp => true
  | .fastRetrain => true
  | .blockLockLost headers => headers.length == 64 && headers.all fun r => r.length == 8 && r.all fun h => decide (h < 4)
  | .retrain => true
  | .fulltrain => true
  | .sillrst => true
  | .dataFlit _ headers flit => flit.length == 36 && headers.all fun r => (r.length == 8 || r.length == 4) && r.all fun h => decide (h < 4)
  | .linkControlFlit _ flit => flit.length == 36
  | .ackTimer _ => true
  | .replayTimeout _ => true
  | .ready => true
  | .tenCmd => true
  | .tenAck _ _ _ => true
  | .doorbell _ => true
  | .majorTick => true
  | .frameReport k _ late lateS stalls => decide (k < 2 ^ 32) && decide (lateS ≤ late) && stalls.length == 16
  | .probe => true
  | .probeResult _ _ data => data.length == 64
  | .config => true
  | .configAck _ _ _ => true
  | .event body => body.length == 32
  | .energyPlan _ => true
  | .pmEnter => true
  | .pmAck _ => true
  | .pmAckTimeout => true
  | .electricalIdle => true
  | .resumeAck _ => true
  | .debug _ => true
  | .debugRsp _ _ => true
  | .nakMsg => true
  | .frameOpen => true
  | .frameData => true
  | .frameTrailer => true
  | .streakSet => true
  | .record _ _ _ _ => true
  | .complNote _ _ _ _ => true
  | .memRd _ => true
  | .memRdData tag _ data => decide (tag < 65536) && decide (data.length < 257)
  | .memWr _ => true
  | .memWrAck tag _ => decide (tag < 65536)
  | .dozeIdleTimeout => true
  | .sleepReq => true
  | .sleepAfterTimeout => true
  | .silResume => true
  | .sbWake _ => true
  | .resumeComplete => true
  | .debugEnable _ => true
  | .apllSlewDone => true
  | .slewTimeout => true
  | .tpointRequest _ => true
  | .tcapWrite cap => decide (cap < 4)
  | .voutPoll _ => true
  | .voutTimeout => true
  | .clockPlanAckTimeout => true
  | .tilePowerUp _ => true
  | .memoryTrained _ _ _ => true
  | .mr4Poll _ _ _ => true
  | .dramRefresh _ => true
  | .wckOscMeasure _ => true
  | .bundleDispatch _ => true
  | .nextBundle _ => true
  | .loop _ => true
  | .endl _ => true
  | .jump _ => true
  | .halt _ => true
  | .sync _ => true
  | .tileHalted _ => true
  | .nop _ _ => true
  | .mseta _ => true
  | .mmode _ => true
  | .wload _ _ => true
  | .wswap _ => true
  | .mma _ _ => true
  | .sigo _ => true
  | .sigc _ => true
  | .aclr _ => true
  | .valu _ => true
  | .vfma _ => true
  | .vcmp _ => true
  | .vsh _ => true
  | .vsfu _ => true
  | .vcvt _ => true
  | .vsel _ => true
  | .vred _ => true
  | .vld _ _ => true
  | .vst _ => true
  | .vldt _ _ => true
  | .vrq _ => true
  | .vacc _ => true
  | .vparam _ _ => true
  | .vspl _ => true
  | .vseta _ => true
  | .vpmap _ => true
  | .msetd _ => true
  | .mload _ => true
  | .mstore _ => true
  | .msend _ => true
  | .mrecv _ => true
  | .mfence _ => true
  | .engineOpComplete _ _ => true
  | .shiftComplete _ _ _ _ => true
  | .seamReached _ interval drain => decide (interval < 65536) && decide (drain < 65536)
  | .tileSeamLate _ _ => true
  | .tileCreditStall _ _ => true
  | .tileDeadlock _ => true
  | .swap _ _ _ => true
  | .stop _ _ => true
  | .start _ _ _ => true
  | .swapLimitExpiry _ => true
  | .stopLimitExpiry _ => true
  | .shiftWithdrawn _ _ _ _ _ => true
  | .programBankWrite _ _ _ offset _ => decide (offset < 65536)
  | .phaseBarrier _ _ => true
  | .inferFrame _ _ => true
  | .inferCrops _ _ => true
  | .inferBatch _ _ => true
  | .copy _ _ => true
  | .grad _ _ => true
  | .reduce _ _ => true
  | .reduceFirst _ _ => true
  | .norm _ _ => true
  | .update _ _ => true
  | .jobComplete _ => true
  | .jobDeadline _ => true
  | .batchClose _ => true
  | .flintScore _ _ _ => true
  | .flintSelfTest _ => true
  | .flintOverrun _ => true
  | .assayJudge _ => true
  | .zoneExpiry _ => true
  | .runExpiry _ _ ctr => decide (ctr < 2 ^ 32)
  | .assaySelfCheck _ => true
  | .stkRngFail => true
  | .demote => true
  | .distrust => true
  | .retry => true
  | .clearzones => true
  | .qualification => true
  | .qualificationDone => true
  | .qualRecordTimeout => true
  | .luxDarkWrite luxin _ => decide (luxin < 65536)
  | .luxinTimeout => true
  | .schedTimeout => true
  | .lightHoldExpiry => true
  | .controlCycle v0 v1 i0 i1 => decide (v0 < 4096) && decide (v1 < 4096) && decide (i0 < 4096) && decide (i1 < 4096)
  | .ocTrip _ => true
  | .scTrip _ _ => true
  | .hiccupRetry _ => true
  | .vgdUndervoltage => true
  | .vgdRecovery => true
  | .sfl1Timeout => true
  | .luxCopy => true
  | .home => true
  | .tiltStop => true
  | .tltTarget _ => true
  | .encIndex => true
  | .homingTimeout => true
  | .slsWindow => true
  | .potSample code => decide (code < 4096)
  | .bridgeOvercurrent => true
  | .testPulseSample _ _ _ _ _ _ => true
  | .demandSample _ _ => true
  | .discrepancyTimeout _ => true
  | .armA => true
  | .tripA => true
  | .armB => true
  | .tripB => true
  | .tpcfgWrite period width => decide (period < 256) && decide (width < 1024)
  | .trip _ _ => true
  | .offTest _ _ _ => true
  | .readbackMismatch => true
  | .safeResetFall => true
  | .safeResetRise => true
  | .resetStuck => true
  | .lockstepMismatch _ _ => true
  | .agreementFault _ => true
  | .interruptInput _ _ => true
  | .split => true
  | .join _ => true
  | .splitTimeout => true
  | .watchdogKick _ _ => true
  | .watchdogExpiry _ => true
  | .kickHalfTimeout _ => true
  | .scrubRead _ => true
  | .otpRead _ => true
  | .otpReadDone => true
  | .idcode => true
  | .dtmcs => true
  | .dmi _ _ _ => true
  | .bypass _ => true
  | .dmactiveWrite _ => true
  | .haltRequest hart => decide (hart < 2 ^ 20)
  | .resumeRequest hart => decide (hart < 2 ^ 20)
  | .singleStep hart _ => decide (hart < 2 ^ 20)
  | .accessRegister _ _ _ => true
  | .programBuffer words => decide (words.length < 9)
  | .systemBusAccess m op addr size _ _ _ => decide (addr < 2 ^ 32) && [1, 2, 4].contains size && (m != .debug || op != .fetch)
  | .ndmreset => true
  | .portLinkUp _ _ => true
  | .portLinkDown _ => true
  | .frameReceived _ bytes _ _ => decide (bytes.length < 65536)
  | .rxTailWrite _ _ => true
  | .txTailWrite _ _ => true
  | .frameTransmitted _ => true
  | .learnAge mac => decide (mac < 2 ^ 48)
  | .stormWindow _ => true
  | .fupEntryExpiry _ => true
  | .c22Write _ _ => true
  | .c22Read _ _ => true
  | .c45Address _ _ => true
  | .c45Write _ _ => true
  | .c45Read _ _ => true
  | .c45ReadIncrement _ _ => true
  | .mdioDone _ => true
  | .snap => true
  | .tb3Align => true
  | .selA => true
  | .selB => true
  | .baseStep _ _ => true
  | .domainLockWrite _ => true
  | .syncTimeout _ => true
  | .baseWrap _ => true
  | .triggerFire _ => true
  | .triggerArm _ _ => true
  | .fsyncPulseEnd _ => true
  | .cairnFrame => true
  | .claim => true
  | .yield => true
  | .roster => true
  | .cairnJoin => true
  | .hello => true
  | .beat => true
  | .chunkData _ => true
  | .chunkAck => true
  | .cairnStep _ => true
  | .ckptMark _ => true
  | .cairnFault _ => true
  | .tListen => true
  | .claimWait => true
  | .followTo => true
  | .joinRetry => true
  | .backoff => true
  | .helloMs _ => true
  | .neighbourTo _ => true
  | .rosterMs => true
  | .beatTimer => true
  | .headTo => true
  | .beatTo key => decide (key < 2 ^ 64)
  | .rankWait => true
  | .rosterPublish => true
  | .restart => true
  | .revert => true
  | .transferStart _ => true
  | .messageSend _ => true
  | .resendTimeout _ => true
  | .chunkAckTimer _ _ => true
  | .transferIdleTimeout _ _ => true
  | .por => true
  | .porRelease => true
  | .supplyOutOfRange => true
  | .supplyRecovery => true
  | .clockFault => true
  | .xtal32Fail => true
  | .xtal32Running => true
  | .cpllLock => true
  | .sramInitDone => true
  | .coresLeaveReset _ _ _ => true
  | .bootLoaderStart => true
  | .pgRise _ => true
  | .pgTimeout _ => true
  | .pgLost _ => true
  | .startRetry => true
  | .pgReraise => true
  | .avsStatusPoll _ _ _ _ _ _ => true
  | .watch _ => true
  | .work _ _ => true
  | .standby _ _ => true
  | .readyTimeout => true
  | .wakeAlarm => true
  | .wakePin _ => true
  | .updRequest _ => true
  | .domainReset mask => decide (mask < 2 ^ 27)
  | .sysReset _ code => decide (code < 65536)
  | .coreReset _ code => decide (code < 65536)
  | .adReset code => decide (code < 65536)
  | .qspiProgram _ => true
  | .qspiErase4k => true
  | .qspiErase64k => true
  | .qspiRead _ => true
  | .qspiDone => true
  | .qspiTimeout => true
  | .ntcSample _ _ => true
  | .cdSensorSample _ _ => true
  | .forecast => true
  | .planMissTimeout => true
  | .cdHotTimer => true
  | .watchordTimeout => true
  | .stepTest => true
  | .stepTestAbort => true
  | .stepTestSample => true
  | .eventRaise id cls src arg0 arg1 arg2 => decide (id < 65536) && decide (cls < 4) && decide (src < 256) && decide (arg0 < 2 ^ 32) && decide (arg1 < 2 ^ 32) && decide (arg2 < 65536)
  | .coalesceClose => true
  | .logRecordWrite => true
  | .logRelease slot => decide (slot < 2048)
  | .pageStart => true
  | .flushTimeout => true
  | .pagePersisted _ => true
  | .flush => true
  | .prestart => true
  | .firmwareEvent idlo cls => decide (idlo < 256) && decide (cls < 4)
  | .gpioSet _ => true
  | .gpioClr _ => true
  | .gpioEdge _ _ => true
  | .uartTxd _ _ => true
  | .uartRxByte _ _ _ => true
  | .spiTransfer _ _ _ miso => decide (miso.length < 256)
  | .spiTxd _ => true
  | .spiTransferDone => true
  | .trainingRetry => true
  | .sbWakeHeld => true
  | .encoderEdge _ => true
  | .pgFall _ _ => true
  | .xo25StartTimeout => true
  | .uartTxComplete _ => true

end Sys2Proof
end

