-- ==== Sys2Proof/Tests/Slice0.lean ====
section
/-! SUPPORT. Tests: ill-formed commands are refused, check values that the spec gives, and for every statement with hypotheses a state
and operands that meet them, clause by clause. -/

namespace Sys2Proof.Tests

set_option Elab.async false

open Sys2Proof Sys2Proof.Machine

def note0 : LaneNote := ⟨false, false⟩

def env0 : BusEnv := ⟨[], false, none, [], false, none⟩

/-! ### Well-formedness: one ill-formed command for each check -/

theorem test_ill_formed_1 : (Instr.registerWrite 0 (2 ^ 32) 4 0 env0).wf = false ∧
    (Instr.registerWrite 0 0 3 0 env0).wf = false ∧
    (Instr.applyStepDone true (some 65) []).wf = false ∧
    (Instr.passwordVerify (64)).wf = false ∧
    (Instr.keyOpen (32) 0).wf = false ∧
    (Instr.keyOpen 0 (65536)).wf = false ∧
    (Instr.keyClose (32) 0).wf = false ∧
    (Instr.keyClose 0 (65536)).wf = false ∧
    (Instr.keyExpiry (25)).wf = false ∧
    (Instr.tenSqdb 0 0 (1024)).wf = false ∧
    (Instr.tenCqhd 0 0 (1024)).wf = false ∧
    (Instr.adWindowRead (2 ^ 28) 1).wf = false ∧
    (Instr.adWindowRead 0 3).wf = false ∧
    (Instr.adWindowWrite (2 ^ 28) 1 0).wf = false ∧
    (Instr.adWindowWrite 0 3 0).wf = false ∧
    (Instr.tenantFault 0 (256) 0).wf = false ∧
    (Instr.tenantFault 0 0 (2 ^ 32)).wf = false ∧
    (Instr.linePacket 0 0 note0 .good (64) [] false).wf = false ∧
    (Instr.linePacket 0 0 note0 .good (1) [] false).wf = false ∧
    (Instr.i2cTransfer 0 (1024) false false 0 false).wf = false ∧
    (Instr.i2cTransfer 0 0 false false (256) false).wf = false ∧
    (Instr.i2cTransferDone 0 0 (256) []).wf = false ∧
    (Instr.i2cTransferDone 0 0 0 (List.replicate 256 0)).wf = false := by decide +kernel

theorem test_ill_formed_2 : (Instr.arbitrationLost 0 (256) 0 []).wf = false ∧
    (Instr.arbitrationLost 0 0 (9) []).wf = false ∧
    (Instr.arbitrationLost 0 0 0 (List.replicate 256 0)).wf = false ∧
    (Instr.frameReport (2 ^ 32) 0 0 0 (List.replicate 16 0)).wf = false ∧
    (Instr.frameReport 0 0 0 0 []).wf = false ∧
    (Instr.frameReport 0 0 0 1 (List.replicate 16 0)).wf = false ∧
    (Instr.busStuck 0 (256) []).wf = false ∧
    (Instr.busStuck 0 0 (List.replicate 256 0)).wf = false ∧
    (Instr.i2cBuserr 0 (256) []).wf = false ∧
    (Instr.i2cBuserr 0 0 (List.replicate 256 0)).wf = false ∧
    (Instr.probeResult 0 0 []).wf = false ∧
    (Instr.memRdData (65536) 0 []).wf = false ∧
    (Instr.memRdData 0 0 (List.replicate 257 0)).wf = false ∧
    (Instr.memWrAck (65536) 0).wf = false ∧
    (Instr.tcapWrite (4)).wf = false ∧
    (Instr.seamReached 0 (65536) 0).wf = false ∧
    (Instr.seamReached 0 0 (65536)).wf = false ∧
    (Instr.programBankWrite 0 0 false (65536) 0).wf = false ∧
    (Instr.runExpiry 0 0 (2 ^ 32)).wf = false ∧
    (Instr.luxDarkWrite (65536) false).wf = false ∧
    (Instr.controlCycle (4096) 0 0 0).wf = false ∧
    (Instr.controlCycle 0 (4096) 0 0).wf = false ∧
    (Instr.controlCycle 0 0 (4096) 0).wf = false ∧
    (Instr.controlCycle 0 0 0 (4096)).wf = false ∧
    (Instr.potSample (4096)).wf = false := by decide +kernel

theorem test_ill_formed_3 : (Instr.tpcfgWrite (256) 0).wf = false ∧
    (Instr.tpcfgWrite 0 (1024)).wf = false ∧
    (Instr.haltRequest (2 ^ 20)).wf = false ∧
    (Instr.resumeRequest (2 ^ 20)).wf = false ∧
    (Instr.singleStep (2 ^ 20) 0).wf = false ∧
    (Instr.programBuffer (List.replicate 9 0)).wf = false ∧
    (Instr.learnAge (2 ^ 48)).wf = false ∧
    (Instr.beatTo (2 ^ 64)).wf = false ∧
    (Instr.domainReset (2 ^ 27)).wf = false ∧
    (Instr.sysReset false (65536)).wf = false ∧
    (Instr.coreReset false (65536)).wf = false ∧
    (Instr.adReset (65536)).wf = false ∧
    (Instr.logRelease (2048)).wf = false ∧
    (Instr.eventRaise (65536) 0 0 0 0 0).wf = false ∧
    (Instr.eventRaise 0 (4) 0 0 0 0).wf = false ∧
    (Instr.eventRaise 0 0 (256) 0 0 0).wf = false ∧
    (Instr.eventRaise 0 0 0 (2 ^ 32) 0 0).wf = false ∧
    (Instr.eventRaise 0 0 0 0 (2 ^ 32) 0).wf = false ∧
    (Instr.eventRaise 0 0 0 0 0 (65536)).wf = false ∧
    (Instr.firmwareEvent (256) 0).wf = false := by decide +kernel

theorem test_ill_formed_4 : (Instr.firmwareEvent 0 (4)).wf = false ∧
    (Instr.spiTransfer 0 0 false (List.replicate 256 0)).wf = false ∧
    (Instr.systemBusAccess .debug .load (2 ^ 32) 4 0 0 env0).wf = false ∧
    (Instr.systemBusAccess .debug .load 0 3 0 0 env0).wf = false ∧
    (Instr.systemBusAccess .debug .fetch 0 4 0 0 env0).wf = false ∧
    (Instr.linkTraining (.trn1 [])).wf = false ∧
    (Instr.linkTraining (.trn2 [])).wf = false ∧
    (Instr.blockLockLost []).wf = false ∧
    (Instr.blockLockLost (List.replicate 64 [])).wf = false ∧
    (Instr.blockLockLost (List.replicate 64 (List.replicate 8 4))).wf = false ∧
    (Instr.dataFlit false [] []).wf = false ∧
    (Instr.dataFlit false [[1, 1]] (List.replicate 36 0)).wf = false ∧
    (Instr.dataFlit false [List.replicate 8 4] (List.replicate 36 0)).wf = false ∧
    (Instr.linkControlFlit false []).wf = false ∧
    (Instr.event []).wf = false := by decide +kernel

theorem test_ill_formed_long : (∀ l : List Byte, l.length = 65536 → (Instr.linePacket 0 0 note0 .good 2 l false).wf = false) ∧
    (∀ l : List Byte, l.length = 65536 → (Instr.frameReceived 0 l false false).wf = false) := by
  refine ⟨fun l h => ?_, fun l h => ?_⟩
  · show (decide (2 ≤ (2 : Nat) ∧ 2 < 64) && decide (l.length < 65536)) = false
    rw [h]; rfl
  · show decide (l.length < 65536) = false
    rw [h]; rfl

theorem test_well_formed : (Instr.registerWrite 0 0 1 0 env0).wf = true ∧
    (Instr.applyStepDone true (some 64) []).wf = true ∧
    (Instr.passwordVerify 0).wf = true ∧
    (Instr.keyOpen 0 0).wf = true ∧
    (Instr.keyClose 0 0).wf = true ∧
    (Instr.keyExpiry 0).wf = true ∧
    (Instr.tenSqdb 0 0 0).wf = true ∧
    (Instr.tenCqhd 0 0 0).wf = true ∧
    (Instr.adWindowRead 0 1).wf = true ∧
    (Instr.adWindowWrite 0 1 0).wf = true ∧
    (Instr.tenantFault 0 0 0).wf = true ∧
    (Instr.linePacket 0 0 note0 .good 2 [] false).wf = true ∧
    (Instr.i2cTransfer 0 0 false false 0 false).wf = true ∧
    (Instr.i2cTransferDone 0 0 0 []).wf = true ∧
    (Instr.arbitrationLost 0 0 8 []).wf = true ∧
    (Instr.frameReport 0 0 1 1 (List.replicate 16 0)).wf = true ∧
    (Instr.busStuck 0 255 []).wf = true ∧
    (Instr.i2cBuserr 0 255 []).wf = true ∧
    (Instr.linkTraining (.trn1 (List.replicate 8 none))).wf = true ∧
    (Instr.linkTraining (.trn2 (List.replicate 8 0))).wf = true ∧
    (Instr.blockLockLost (List.replicate 64 (List.replicate 8 3))).wf = true ∧
    (Instr.dataFlit true [List.replicate 4 3] (List.replicate 36 0)).wf = true ∧
    (Instr.linkControlFlit true (List.replicate 36 0)).wf = true ∧
    (Instr.probeResult 0 0 (List.replicate 64 0)).wf = true ∧
    (Instr.memRdData 0 0 []).wf = true ∧
    (Instr.memWrAck 0 0).wf = true ∧
    (Instr.tcapWrite 0).wf = true ∧
    (Instr.seamReached 0 0 0).wf = true ∧
    (Instr.programBankWrite 0 0 false 0 0).wf = true ∧
    (Instr.runExpiry 0 0 0).wf = true ∧
    (Instr.luxDarkWrite 0 false).wf = true ∧
    (Instr.controlCycle 0 0 0 0).wf = true ∧
    (Instr.potSample 0).wf = true ∧
    (Instr.tpcfgWrite 0 0).wf = true ∧
    (Instr.haltRequest 0).wf = true ∧
    (Instr.resumeRequest 0).wf = true ∧
    (Instr.singleStep 0 0).wf = true ∧
    (Instr.programBuffer []).wf = true ∧
    (Instr.learnAge 0).wf = true ∧
    (Instr.beatTo 0).wf = true ∧
    (Instr.domainReset 0).wf = true ∧
    (Instr.sysReset false 0).wf = true ∧
    (Instr.coreReset false 0).wf = true ∧
    (Instr.adReset 0).wf = true ∧
    (Instr.logRelease 0).wf = true ∧
    (Instr.eventRaise 0 0 0 0 0 0).wf = true ∧
    (Instr.firmwareEvent 0 0).wf = true ∧
    (Instr.spiTransfer 0 0 false []).wf = true ∧
    (Instr.systemBusAccess .debug .store 0 4 0 0 env0).wf = true ∧
    (Instr.systemBusAccess (.core 1) .fetch 0 2 0 0 env0).wf = true ∧
    (Instr.frameReceived 0 [] false false).wf = true ∧
    (Instr.event (List.replicate 32 0)).wf = true := by decide +kernel

/-! ### Values that the spec gives -/

/-- R150's check value over the bytes "123456789". -/
theorem test_crc16 : crc16 [0x31, 0x32, 0x33, 0x34, 0x35, 0x36, 0x37, 0x38, 0x39] = 0xD0DB := by decide +kernel

/-- R115's check value over the same bytes. -/
theorem test_crc32c : crc32c [0x31, 0x32, 0x33, 0x34, 0x35, 0x36, 0x37, 0x38, 0x39] = 0xE3069283 := by decide +kernel

/-- SYS_ID as R30 gives it. -/
theorem test_sys_id : State.reset.readWord ((fieldsAt 0x40000000).getD []) = 0x16400001 := by decide +kernel

/-- The headers of the Sill link's worked example, and the length of its message in flits. -/
theorem test_flit_headers : (flitOf [0x55, 0x15]).seq = 0x155 ∧ (flitOf [0x55, 0x15]).vc = 1 ∧ (flitOf [0x55, 0x15]).som = true ∧
    (flitOf [0x5E, 0x25]).seq = 0x15E ∧ (flitOf [0x5E, 0x25]).eom = true ∧
    (Msg.mk 1 TT.frameTrailer noTenant 0 0x4E21 (List.replicate 308 0)).flits = 10 := by decide +kernel

/-- The first pass of Belief's worked example: seed 7 and entries 1,000, −3 and 25. -/
theorem test_signature : ([1000, -3, 25].foldl Sig.feed ⟨7, 7, 0, true⟩).sum = 1570242565 := by decide +kernel

/-- Its second pass with the faulty cell, which the equation S1 + S2 = 0 mod p refutes. -/
theorem test_signature_faulty : ([-1000, 3, -25, 4].foldl Sig.feed ⟨7, 7, 0, true⟩).sum = 1652031482 := by decide +kernel

/-! ### States -/

def up : State := State.reset.setF R.PMU_DOMST_ON (2 ^ 27 - 1)

def slotUp (k n : Nat) : State :=
  (List.range 3).foldl (fun s i => s.program (stateSectorAt k + 4 * i) (leBytes 4 (stateWord n))) up

def closeUp : State :=
  ((slotUp 0 1).program (slotAt 0 + 0x1C) (leBytes 4 64 ++ sha256 [])).setF R.CIL_STAGEOFF_OFF 64

def applyAt (n : Nat) : Apply := { slot := 0, step := n, startAt := 0, boot := true, adPart := false }

def applying (n : Nat) : State := { up with cil := { CilState.init with apply := some (applyAt n) } }

def lastApply : Apply := applyAt 8

def lastStep : State := applying 8

def linked : State := (up.setF R.PMU_STATE_STATE 2).setF R.SIL_STATUS_STATE 2

/-- A message of the AD, on VC `v` and of type `t`, has come by flits, the first with SEQ 0. -/
def fromAd (v t : Nat) (s : State) : State := s.silSet fun l => { l with toCd := [(⟨v, t, 0, 0, 0, []⟩, 0)] }

def waiting : State := (linked.setF (R.TEN_STATE_STATE 2) tnRunning).tenantSet 2 fun t => { t with cmd := some 1 }

/-- Tenant 3's package is the empty one, and MODELS gives its hash. -/
def hashOk : State := { (linked.setF (R.TEN_STATE_STATE 3) tnLoading).setF R.SIL_STATUS_READY 1 with
  cil := { CilState.init with settings := [((Img.MODELS_BLOB.sec * 256 + Img.MODELS_BLOB.id) * 1024, leNat (sha256 []))] } }

def plan0 : PlanTenant := ⟨0, 1, 0, 0, false, 1, 16, 0, 64, 0, 0, []⟩

def adUp : State := (linked.setF R.MC_TRAIN_DONE 1).dspSet fun d =>
  { d with running := true, plan := [plan0], planOk := true, slots := [[], []], st := d.st.set 0 tnReady, tokens := d.tokens.set 0 (64000, 0) }

def msgUp (m : Msg) : State := adUp.silSet fun l => { l with toAd := [m] }

def cfgFw : Msg := ⟨0, TT.config, noTenant, 0, 0xFFFF, leBytes 4 0x80000000 ++ leBytes 4 0⟩

def cfgPlan : Msg := ⟨0, TT.config, noTenant, 0, 0xFFFF, leBytes 4 0 ++ leBytes 4 64⟩

def cfgItem : Msg := ⟨0, TT.config, noTenant, 0, 7, leBytes 4 0x7FFFFF00 ++ leBytes 4 12⟩

def ringMsg : Msg := ⟨0, TT.doorbell, 0, 0, 0, leBytes 8 0⟩

def suspMsg : Msg := ⟨0, TT.tenCmd, 0, 0, 0, leBytes 8 1⟩

def probeMsg : Msg := ⟨0, TT.probe, noTenant, 0, 0, leBytes 16 15⟩

def job0 (op : Nat) : Job := newJob 0 (some 0) (leBytes 64 op) 0

def jobUp (op : Nat) : State := (adUp.dspSet fun d => { d with cqHead := [(0, 5)] }).jobsSet fun _ => [job0 op]

def startedUp (op : Nat) : State := adUp.jobsSet fun _ => [{ job0 op with started := true }]

def lateJob : Job := newJob 0 (some 0) (leBytes 40 1 ++ leBytes 4 1 ++ leBytes 20 0) 0

def lateUp : State := adUp.jobsSet fun _ => [lateJob]

def batchJob : Job := { job0 3 with batch := 1 }

def batchUp : State := adUp.jobsSet fun _ => [batchJob]

def stopUp : State := (adUp.tileSet 3 fun t => { t with req := some ⟨2, 0, 1, 0⟩ }).armAt (.stopLimit 3) 0

def phaseUp : State := { startedUp 1 with dram := [(6, 2), (20, 64)] }.setF (R.MC_RGN_W 1) 65536

def withCrc (l : List Byte) : List Byte := l ++ leBytes 4 (crc32c l)

def openMsg : Msg := ⟨1, TT.frameOpen, 0, 0, 0, withCrc (leBytes 12 1)⟩

def setMsg : Msg := ⟨0, TT.streakSet, 0, 0, 0, leBytes 16 1⟩

def tickMsg : Msg := ⟨0, TT.majorTick, noTenant, 0, 0, leBytes 4 1 ++ leBytes 4 0⟩

def dataMsg : Msg := ⟨1, TT.frameData, 0, 0, 5, leBytes 4 1 ++ leBytes 4 8388607 ++ [7]⟩

def trailMsg : Msg := ⟨1, TT.frameTrailer, 0, 0, 0, withCrc (leBytes 4 1 ++ leBytes 4 5 ++ leBytes 24 0)⟩

def frameUp2 : State := adUp.dspSet fun d => { d with frames := [⟨1, 5, 0, false, [(0, 2)], []⟩] }

def frameUp (m : Msg) : State := frameUp2.silSet fun l => { l with toAd := [m] }

def runUp (b : Nat) : State :=
  ((adUp.adSet fun a => { a with prog := if b = 0 then [] else [(0, b)] }).setF (R.TL_PBANK_LEN 0 0) 1).setF (R.TL_SEQ_STATE 0) tsRun

def stallUp : State := (runUp 0).tileSet 0 fun k => setShifts k 7 [⟨2, 0, 0, 0, 1, 0, 3, 4, 0, 0⟩]

def engUp (e w : Nat) : State := (runUp 0).tileSet 0 fun k => { k with q := k.q.set e [⟨w, 0⟩] }

def accUp (w : Nat) : State := (engUp 1 w).tileSet 0 fun k => { k with banks := k.banks.set 0 (some (0, false)) }

def grantUp : State := (runUp 0).tileSet 0 fun k => setShifts k 1 [⟨0, 0, 0, 0, 1, 0, 0, 0, 0, 0⟩]

/-- The flit with header `h` and payload `p` (R149); `bad` spoils its CRC. -/
def flit0 (h : Nat) (p : List Byte) (bad : Bool) : List Byte :=
  (fun l : List Byte => l ++ leBytes 2 (crc16 l + (if bad then 1 else 0))) (leBytes 2 h ++ padTo 32 p)

def lcFlit : List Byte := flit0 16384 [] false

def wired : State := linked.silSet fun l => { l with wireAd := [[]] }

def camUp : State := (((up.setF R.ING_CTL_RX_EN 3).setF (R.ING_CAM_CFG_EN 0) 1).setF (R.ING_CAM_GEOM_WIDTH 0) 640).setF (R.ING_CAM_GEOM_HEIGHT 0) 240

def camKey : State := camUp.setBitF R.LCK_KEYST_OPEN 7 true

def openFrame0 : IngFrame := ⟨0, 0, 0, 0, 0, 640, 240, 0, false, false, false, 0, 0, 0, 0, [], 0, false, none, []⟩

def openUp : State := camUp.setFrame 0 openFrame0

def tiltUp : State := (up.setF R.TLT_CFG_ENABLE 1).setF R.SIO_SAFECTL_ON_A 1

def crnUp (st : Nat) : State := (up.setF R.CRN_CTL_EN 1).setF R.CRN_STAT_STATE st

def inboxUp (st : Nat) (m : CrnMsg) : State := (crnUp st).crnSet fun c => { c with inbox := [m] }

def claimMsg : CrnMsg := ⟨CT.claim, 7, 0, 0, 255 :: List.replicate 7 0, 0, 0, false, 0⟩

def rosterMsg : CrnMsg := ⟨CT.roster, 0, 0, 1, beBytes 1 1 ++ List.replicate 23 0, 0, 0, false, 0⟩

def joinMsg : CrnMsg := ⟨CT.join, 7, 0, 0, List.replicate 24 0, 0, 0, false, 0⟩

def beatMsg : CrnMsg := ⟨CT.beat, 7, 0, 0, List.replicate 8 0, 0, 0, false, 0⟩

def nodeUp (l : List CrnMsg) : State := (crnUp 7).crnSet fun c => { c with nodes := [⟨⟨7, 0, 0, 0, 0, 0, false, false⟩, 0, 0, 0, 0⟩], inbox := l }

def armUp : State := { ((tiltUp.setF R.PMU_STATE_STATE 2).setF R.CIL_STATUS_NOIMAGE 0) with cil := { CilState.init with bootDone := true } }

def occ0 : Occ := { uid := 0, id := 0x0F80, cls := 1, src := 15, arg0 := 0, arg1 := 0, arg2 := 0, rtc := 0, tb2 := 0, count := 1, lastDt := 0, held := false, untrusted := false, at_ := 0 }

def flushUp : State := { ((up.setF R.EVL_CTL_PERSIST 15).evlSet fun e => { e with ring := [(0, ⟨occ0, 0, false, false, some 0⟩)], flushSeqs := [0] }) with now := 10 ^ 12 }

def bigRoster : CrnMsg := { rosterMsg with src := 7, body := beBytes 1 1 ++ List.replicate 7 0 ++ [0, 0, 0, 0, 0, 0, 0, 7, 0, 0, 0, 0, 255, 0, 0, 0] }

def beCrc (l : List Byte) : List Byte := l ++ beBytes 4 (crc32c l)

def frameIn : CrnIn := ⟨0, List.replicate 14 0 ++ beCrc ([1, 6, 0, 63] ++ List.replicate 11 0 ++ [9] ++ List.replicate 10 0 ++ [0, 8] ++ List.replicate 8 0), 0, false, 0⟩

def netOnly : State := crnUp 6

def frameInUp : State := netOnly.netSet fun n => { n with crnIn := [frameIn] }

def sendUp : State := { (((((crnUp 6).setF R.CRN_MTX_BASE_ADDR 0x10000000).setF R.CRN_MTX_SIZE_N 8).setF R.CRN_MTX_SIZE_EN 1).setF R.CRN_MTX_TAIL_TAIL 1).setF (R.NET_PORT_ST_LINK 0) 1 with
  sram := Sparse.setList 0 [] 0 (leBytes 4 0x10000020 ++ leBytes 2 12 ++ leBytes 2 0x8001) }

def memMsg (t : Nat) : Msg := ⟨3, t, 0xFE, 0, 0, leBytes 8 0 ++ leBytes 8 8 ++ List.replicate 8 5⟩

def reqUp (w : Bool) : State := (linked.silSet fun l => { l with reqs := [⟨0, w, .window, 0⟩] })

def katSetOf (n : Byte) : List Byte := [0x53#8, 0x4B#8, 0x4B#8, 0x41#8, 1, 0, 1, 0] ++ List.replicate 38 0 ++ [n] ++ List.replicate 49 0

def katBytes : List Byte := katSetOf 0

def cells (a : Nat) : List Byte → Sparse Byte
  | [] => []
  | b :: l => (a, b) :: cells (a + 1) l

def katWith (n : Byte) : State := { ((linked.setF (R.ING_CAM_GEOM_HEIGHT 0) 0).setF R.QSPI_CFG_DENSITY_KIB 16384).setF (R.ING_CAM_CFG_EN 0) 1 with
  flash := cells 0x710000 ([0x53#8, 0x4B#8, 0x42#8, 0x4C#8] ++ leBytes 4 96 ++ leBytes 8 0 ++ leBytes 32 1 ++ leBytes 16 0 ++ katSetOf n)
  cil := { CilState.init with settings := [((Img.TENANTS_CLASS.sec * 256 + Img.TENANTS_CLASS.id) * 1024, 0), ((Img.ASSAY_KAT_BLOB.sec * 256 + Img.ASSAY_KAT_BLOB.id) * 1024, 1)] } }

def katUp : State := katWith 0

def mayUp : State := { ((katUp.setF R.ASY_TRUST_QUAL 2).setF R.SIL_STATUS_READY 1) with ten := { TenState.init with passed := some true } }

def qualUp (i : Nat) : State := katUp.asySet fun a => { a with qual := some ⟨i, false, [], 0⟩ }

def recMsg0 : RecMsg := ⟨0, 0, 0, List.replicate 64 0⟩

def run0 : RunEntry := ⟨0, 0, 0, 0, [], [], 0, false, 0, none, false⟩

def i2cUp : State := { (up.setF (R.I2C_STATUS_BUSY 1) 1).setF (R.I2C_CMD_LEN 1) 4 with i2c := up.i2c.set 1 { I2cState.init with run := true } }

def dbgUp : State := up.setF R.SYS_DBG_ACTIVE 1

def flashUp : State := up.setF R.QSPI_CFG_DENSITY_KIB 16384

def qspiUp (op : Nat) : State := { flashUp with qspi := some ⟨op, 0x800000, 4, [1, 2, 3, 4]⟩ }.armAt .qspi 0

def item0 : ClockItem := ⟨3, 1, List.replicate 16 1, 0⟩

def slewUp : State := (adUp.dspSet fun d => { d with slew := some (item0, ⟨0, 0, List.replicate 16 0, 0⟩) }).armAt .slew 0

def trained : State := (adUp.armAt .mr4 0).armAt .wck 0

def dvfs0 : Dvfs := ⟨1, List.replicate 16 0xFF, 0, 3, false, 700, 700⟩

def changing : State := (linked.pmuSet fun p => { p with dvfs := some dvfs0 }).armAt .planAck 0

def entering : State := ((up.pmuSet fun p => { p with trans := some ⟨2, false, [], [], false, []⟩ }).armAt .vout 0).armAt .voutPoll 0

def tileOff : State := { linked.setBitF R.PMU_DOMST_ON (Dom.tile 3) false with cil := { CilState.init with settings := [((Img.SLOTS_PLAN.sec * 256 + Img.SLOTS_PLAN.id) * 1024, 0)] } }

def updJob (a : Nat) : Job := newJob 0 (some 0) (leBytes 44 4 ++ leBytes 4 a ++ leBytes 16 0) 0

def updUp (a : Nat) : State := (adUp.dspSet fun d => { d with cqHead := [(0, 5)] }).jobsSet fun _ => [updJob a]

def port0 : State := up.setF (R.NET_PORT_ST_LINK 0) 1

def frame60 (ty : Nat) : List Byte := List.replicate 12 1 ++ beBytes 2 ty ++ List.replicate 46 0

def mdioUp (op : Nat) : State := up.netSet fun n => { n with mdio := some ⟨op, 1, 2, 3⟩ }

def chunkMsg : CrnMsg := ⟨CT.chunkData, 7, 0, 0, beBytes 4 5 ++ beBytes 4 4 ++ beBytes 4 0 ++ beBytes 4 0 ++ beBytes 4 0 ++ beBytes 4 0 ++ [1, 1, 0, 4, 9, 9, 9, 9], 0, 0, false, 0⟩

def rx0 : XferRx := ⟨0, 7, 5, 4, 0, 0, 0, 1, [], 0⟩

def winUp : State := ((linked.setF R.CRN_CTL_EN 1).setF R.CRN_STAT_STATE 6).setFs [(R.CRN_RXWIN_SIZE_BYTES 1, 4096), (R.TEN_STATE_STATE 4, 2)]

def withInbox (s : State) (m : CrnMsg) : State := s.crnSet fun c => { c with inbox := [m] }

def ackMsg (st : Byte) : CrnMsg := ⟨CT.chunkAck, 7, 0, 0, beBytes 4 5 ++ beBytes 4 4 ++ List.replicate 8 0 ++ [st, 3] ++ List.replicate 6 0, 0, 0, false, 0⟩

def tx0 : XferTx := ⟨0, 5, 0, 0, 4, 0, 7, 0, 1, [], 0, none, 0, 0, 0, 0⟩

def txUp : State := (crnUp 6).crnSet fun c => { c with tx := [tx0] }

def txqUp : State := { ((((crnUp 6).setF R.CRN_TXQ_BASE_ADDR 0x10000000).setF R.CRN_TXQ_SIZE_N 8).setF R.CRN_TXQ_SIZE_EN 1).setF R.CRN_TXQ_TAIL_TAIL 1 with
  sram := Sparse.setList 0 [] 0 (leBytes 8 0 ++ leBytes 4 4 ++ leBytes 17 0 ++ [128]) }

def txrUp : State := (((up.setF R.NET_TXR_BASE_ADDR 0x10000000).setF R.NET_TXR_SIZE_N 16).setF R.NET_TXR_SIZE_EN 1)

def coreUp : State := up.cpuSet fun c => { c with running := true, stopped := false }

def splitOk : State := { coreUp.setF R.SYS_C1PC_ADDR 0x10000000 with cil := { CilState.init with settings := [((Img.CORE_HANDOVER.sec * 256 + Img.CORE_HANDOVER.id) * 1024, 1)] } }

def splitUp : State := (coreUp.setF R.SYS_CORE_STATE 2).armAt .split 0

def wdtUp (half : Bool) : State := { ((coreUp.setF R.SYS_WDTSTAT_RUN0 1).cpuSet fun c => { c with wdt := [⟨0, half⟩, ⟨0, false⟩] }) with now := 10 ^ 12 }

def dbgRun : State := coreUp.setF R.SYS_DBG_ACTIVE 1

def dbgHalt : State := dbgRun.setF R.SYS_DBG_HALTED 1

def raising : State := (up.setBitF R.PMU_REG_EN 1 true).pmuSet fun p => { p with held := false, trans := some ⟨1, false, [1], [0], false, []⟩ }

def watching : State := (up.setF R.PMU_STATE_STATE 1).pmuSet fun p => { p with held := false, powerKnown := true }

def workOk : State := { ((slotUp 0 4).setFs [(R.PMU_STATE_STATE, 1), (R.CIL_STATUS_NOIMAGE, 0), (R.SYS_BOOT_DF_VALID, 1)]) with cil := { CilState.init with bootDone := true } }

def standbyOk : State := { watching with cil := { CilState.init with settings := [((Img.POWER_STANDBY_EN.sec * 256 + Img.POWER_STANDBY_EN.id) * 1024, 1)] } }

def lowering : State := (up.setBitF R.PMU_REG_PG 4 true).pmuSet fun p => { p with trans := some ⟨3, true, [4, 5], [], false, []⟩ }

def bootRun : State := (coreUp.cpuSet fun c => { c with bootRom := true }).setF R.CIL_STATUS_NOIMAGE 1

def planBody : List Byte := leBytes 4 0 ++ [BitVec.ofNat 8 (up.getF R.PMU_DVFS_FTOP), 16] ++ List.replicate 650 0

def seqUp (sop : Nat) : State := (runUp (sop * 2 ^ 124)).tileSet 0 fun k => { k with disp := true, loops := [(0, 3)] }

def planWait : State := { linked.setF R.SYS_ADLOAD_DONE 1 with cil := { CilState.init with apply := some { applyAt 7 with adPart := true } } }

def pmMsg (t : Nat) : Msg := ⟨0, t, noTenant, 0, 0, leBytes 8 1⟩

def adLinked (m : Msg) : State := linked.silSet fun l => { l with toAd := [m] }

/-! ### Witnesses: each statement's hypotheses can be met, clause by clause -/

theorem witness_StepRunsFrontCommand :
    ∃ (s : State), (s.pending = []) :=
  ⟨State.reset, by decide +kernel⟩

theorem witness_ImageLoaderCommands :
    (∃ (s : State), (s.on Dom.core = true) ∧ (s.isSet R.CIL_STATUS_BUSY = false) ∧ (s.slotState 0 ≠ 3) ∧ (s.slotState 1 ≠ 3)) ∧
    (∃ (s : State), (s.on Dom.core = true) ∧ (s.isSet R.CIL_STATUS_BUSY = false) ∧ (s.chunkOk = true)) ∧
    (∃ (s : State) (progs : List Prog) (l : List Byte), (s.on Dom.core = true) ∧ (s.isSet R.CIL_STATUS_BUSY = false) ∧ (s.slotState s.stageSlot = 1) ∧ (l = s.flashBytes (slotAt s.stageSlot) (s.getF R.CIL_STAGEOFF_OFF)) ∧ (64 ≤ fieldAt l 0x1C 4) ∧ (fieldAt l 0x1C 4 ≤ l.length) ∧ (sha256 ((l.drop 64).take (fieldAt l 0x1C 4 - 64)) = (l.drop 0x20).take 32)) ∧
    (∃ (s : State) (progs : List Prog), (s.on Dom.core = true) ∧ (s.isSet R.CIL_STATUS_BUSY = false) ∧ (s.slotState s.stageSlot = 2)) ∧
    (∃ (s : State) (progs : List Prog), (s.on Dom.core = true) ∧ (s.isSet R.CIL_STATUS_BUSY = false) ∧ (s.slotState s.stageSlot = 2)) ∧
    (∃ (s : State), (s.on Dom.core = true) ∧ (s.isSet R.CIL_STATUS_BUSY = false) ∧ (s.slotState s.stageSlot = 1 ∨ s.slotState s.stageSlot = 2)) ∧
    (∃ (s : State) (progs : List Prog) (a : Apply) (u : State) (t : State) (n : Nat), (s.cil.apply = some a) ∧ (s.now ≤ a.deadline) ∧ (u = { s with progs := progs }) ∧ (u.stepReady a = true) ∧ (u.stepWork a = some t) ∧ (a.next = some n)) ∧
    (∃ (s : State) (progs : List Prog) (a : Apply) (u : State) (t : State), (s.cil.apply = some a) ∧ (s.now ≤ a.deadline) ∧ (u = { s with progs := progs }) ∧ (u.stepReady a = true) ∧ (u.stepWork a = some t) ∧ (a.next = none)) ∧
    (∃ (s : State) (progs : List Prog) (a : Apply), (s.cil.apply = some a) ∧ (s.due .applyStep = true) ∧ (a.deadline < s.now)) :=
  ⟨⟨up, by decide +kernel⟩,
   ⟨((slotUp 0 1).setF R.CIL_BUFADDR_ADDR 0x10000000).setF R.CIL_BUFLEN_LEN 4096, by decide +kernel⟩,
   ⟨closeUp, [], ((fun (s : State) => s.flashBytes (slotAt s.stageSlot) (s.getF R.CIL_STAGEOFF_OFF)) (closeUp)), by decide +kernel⟩,
   ⟨slotUp 0 2, [], by decide +kernel⟩,
   ⟨slotUp 0 2, [], by decide +kernel⟩,
   ⟨slotUp 0 1, by decide +kernel⟩,
   ⟨applying 2, [], ((fun (s : State) => (s.cil.apply).getD ((applyAt 2))) (applying 2)), ((fun (s : State) (progs : List Prog) => { s with progs := progs }) (applying 2) ([])), ((fun (a : Apply) (u : State) => (u.stepWork a).getD (applying 2)) (((fun (s : State) => (s.cil.apply).getD ((applyAt 2))) (applying 2))) (((fun (s : State) (progs : List Prog) => { s with progs := progs }) (applying 2) ([])))), ((fun (a : Apply) => (a.next).getD (0)) (((fun (s : State) => (s.cil.apply).getD ((applyAt 2))) (applying 2)))), by decide +kernel⟩,
   ⟨lastStep, [], ((fun (s : State) => (s.cil.apply).getD ((applyAt 2))) (lastStep)), ((fun (s : State) (progs : List Prog) => { s with progs := progs }) (lastStep) ([])), ((fun (a : Apply) (u : State) => (u.stepWork a).getD (lastStep)) (((fun (s : State) => (s.cil.apply).getD ((applyAt 2))) (lastStep))) (((fun (s : State) (progs : List Prog) => { s with progs := progs }) (lastStep) ([])))), by decide +kernel⟩,
   ⟨({ applying 2 with now := 12000000 }.armAt .applyStep 11000000), [], ((fun (s : State) => (s.cil.apply).getD ((applyAt 2))) (({ applying 2 with now := 12000000 }.armAt .applyStep 11000000))), by decide +kernel⟩⟩

theorem witness_KeysAndPassword :
    (∃ (s : State) (len : Nat), (s.on Dom.aon = true) ∧ (s.isSet R.LCK_AUTH_BUSY = false)) ∧
    (∃ (s : State) (progs : List Prog) (len : Nat), (s.lck.busy = some len)) ∧
    (∃ (s : State), (s.on Dom.aon = true)) ∧
    (∃ (s : State), (s.due .session = true)) ∧
    (∃ (s : State) (progs : List Prog), (s.due .lockout = true)) ∧
    (∃ (s : State) (block : Nat) (code : Nat), (s.on Dom.aon = true) ∧ (code % 65536 = 0xC1A0) ∧ (block % 32 ≤ 24) ∧ (sessionKeys.contains (block % 32) = false ∨ (s.sessionOpen = true ∧ s.isSet R.SYS_CORE_STATE = false))) ∧
    (∃ (s : State) (block : Nat) (code : Nat), (s.on Dom.aon = true) ∧ (code % 65536 = 0xC1A0) ∧ (block % 32 ≤ 24)) ∧
    (∃ (s : State) (block : Nat), (s.due (.key block) = true)) :=
  ⟨⟨up, 8, by decide +kernel⟩,
   ⟨{ up with lck := ⟨some 8⟩ }, [], ((fun (s : State) => (s.lck.busy).getD (0)) ({ up with lck := ⟨some 8⟩ })), by decide +kernel⟩,
   ⟨up, by decide +kernel⟩,
   ⟨up.armAt .session 0, by decide +kernel⟩,
   ⟨up.armAt .lockout 0, [], by decide +kernel⟩,
   ⟨up, 24, 0xC1A0, by decide +kernel⟩,
   ⟨up, 24, 0xC1A0, by decide +kernel⟩,
   ⟨up.armAt (.key 3) 0, 3, by decide +kernel⟩⟩

theorem witness_TenantCommands :
    (∃ (s : State) (tenant : Fin 16), (s.on Dom.core = true) ∧ (s.tnState tenant = tnReady ∨ s.tnState tenant = tnRunning) ∧ ((s.tenantSt tenant).cmd = none) ∧ (s.tenLive = true)) ∧
    (∃ (s : State) (tenant : Fin 16), (s.on Dom.core = true) ∧ (s.tnState tenant = tnSuspended) ∧ (s.inWork = true) ∧ ((s.tenantSt tenant).cmd = none) ∧ (s.tenLive = true)) ∧
    (∃ (s : State) (tenant : Fin 16), (s.on Dom.core = true) ∧ (s.tnState tenant ≠ tnAbsent) ∧ (s.tnState tenant ≠ tnResetting) ∧ (s.tenLive = true)) ∧
    (∃ (s : State) (tenant : Fin 16), (s.on Dom.core = true) ∧ ((s.answer .ok).tnState tenant ≠ tnAbsent) ∧ (((s.answer .ok).tenantSt tenant).cmd = none)) ∧
    (∃ (s : State) (tenant : Fin 16) (queue : Fin 4) (tail : Nat), (s.on Dom.core = true) ∧ (s.tnState tenant ≠ tnResetting) ∧ (s.tnState tenant ≠ tnLoading) ∧ (s.tnState tenant ≠ tnAbsent)) ∧
    (∃ (s : State) (tenant : Fin 16) (queue : Fin 4) (head : Nat), (s.on Dom.core = true)) ∧
    (∃ (s : State) (offset : Nat) (size : Nat), (s.windowRefused offset size = false)) ∧
    (∃ (s : State) (offset : Nat) (size : Nat) (data : Word), (s.windowRefused offset size = false)) :=
  ⟨⟨linked.setF (R.TEN_STATE_STATE 15) tnRunning, 15, by decide +kernel⟩,
   ⟨linked.setF (R.TEN_STATE_STATE 0) tnSuspended, 0, by decide +kernel⟩,
   ⟨linked.setF (R.TEN_STATE_STATE 3) tnReady, 3, by decide +kernel⟩,
   ⟨linked.setF (R.TEN_STATE_STATE 3) tnReady, 3, by decide +kernel⟩,
   ⟨linked.setF (R.TEN_STATE_STATE 3) tnReady, 3, 3, 1023, by decide +kernel⟩,
   ⟨up, 15, 3, 5, by decide +kernel⟩,
   ⟨linked, 0x0FFFFFFC, 4, by decide +kernel⟩,
   ⟨linked, 0x0FFFFFFC, 4, 0, by decide +kernel⟩⟩

theorem witness_TenantEvents :
    (∃ (s : State) (tenant : Fin 16) (code : Nat) (arg : Nat), (s.on Dom.core = true)) ∧
    (∃ (s : State) (tenant : Fin 256) (action : Fin 256) (state : Fin 256) (q : Nat) (u : State) (a : Nat), (s.takeCd ⟨0, TT.tenAck, tenant, 0, 0, leBytes 1 action.val ++ leBytes 1 state.val ++ leBytes 6 0⟩ = some (q, u)) ∧ (tenant.val < 16) ∧ ((u.tenantSt tenant).cmd = some a) ∧ (action.val = a) ∧ (state.val = cmdTarget a)) ∧
    (∃ (s : State) (tenant : Fin 256) (action : Fin 256) (state : Fin 256) (q : Nat) (u : State) (a : Nat), (s.takeCd ⟨0, TT.tenAck, tenant, 0, 0, leBytes 1 action.val ++ leBytes 1 state.val ++ leBytes 6 0⟩ = some (q, u)) ∧ (tenant.val < 16) ∧ ((u.tenantSt tenant).cmd = some a) ∧ (action.val ≠ a) ∧ (action.val ≠ 0)) ∧
    (∃ (s : State) (tenant : Fin 256) (action : Fin 256) (state : Fin 256) (q : Nat) (u : State), (s.takeCd ⟨0, TT.tenAck, tenant, 0, 0, leBytes 1 action.val ++ leBytes 1 state.val ++ leBytes 6 0⟩ = some (q, u)) ∧ (tenant.val < 16) ∧ ((u.tenantSt tenant).cmd = none) ∧ (action.val = 0) ∧ (u.tnState tenant = tnReady) ∧ (state.val = tnRunning)) ∧
    (∃ (s : State) (tenant : Fin 16) (a : Nat) (u : State), ((s.tenantSt tenant).cmd = some a) ∧ (s.due (.stateAck tenant) = true) ∧ (u = (s.disarm (.stateAck tenant)).tenViol 4) ∧ (u.tnState tenant ≠ tnAbsent) ∧ ((s.tenantSt tenant).again = false)) ∧
    (∃ (s : State) (tenant : Fin 16) (a : Nat) (u : State), ((s.tenantSt tenant).cmd = some a) ∧ (s.due (.stateAck tenant) = true) ∧ (u = (s.disarm (.stateAck tenant)).tenViol 4) ∧ (u.tnState tenant ≠ tnAbsent) ∧ ((s.tenantSt tenant).again = true)) ∧
    (∃ (s : State) (tenant : Fin 16) (err : Option MemErr) (c : Nat) (k : Nat) (u : State), (s.tnState tenant = tnLoading) ∧ (s.tenLive = true) ∧ (s.isSet R.SIL_STATUS_READY = true) ∧ (s.mayMove tenant = true) ∧ (c = s.cfg Img.MODELS_SIZE (s.cfg Img.TENANTS_MODEL tenant)) ∧ ((s.charge tenant ((c + 63) / 64)).memMeets ((placeIn ((s.charge tenant ((c + 63) / 64)).regionsOf tenant) ((s.charge tenant ((c + 63) / 64)).packageAt tenant)).map (·.1)) err = (k, u)) ∧ (k = 0) ∧ (leNat (sha256 (u.tenRead tenant (u.packageAt tenant) c)) = u.cfg Img.MODELS_BLOB (s.cfg Img.TENANTS_MODEL tenant)) ∧ ((u.tenantSt tenant).wasReset = false)) ∧
    (∃ (s : State) (tenant : Fin 16) (err : Option MemErr) (c : Nat) (k : Nat) (u : State), (s.tnState tenant = tnLoading) ∧ (s.tenLive = true) ∧ (s.isSet R.SIL_STATUS_READY = true) ∧ (s.mayMove tenant = true) ∧ (c = s.cfg Img.MODELS_SIZE (s.cfg Img.TENANTS_MODEL tenant)) ∧ ((s.charge tenant ((c + 63) / 64)).memMeets ((placeIn ((s.charge tenant ((c + 63) / 64)).regionsOf tenant) ((s.charge tenant ((c + 63) / 64)).packageAt tenant)).map (·.1)) err = (k, u)) ∧ (k = 0) ∧ (leNat (sha256 (u.tenRead tenant (u.packageAt tenant) c)) = u.cfg Img.MODELS_BLOB (s.cfg Img.TENANTS_MODEL tenant)) ∧ ((u.tenantSt tenant).wasReset = true)) ∧
    (∃ (s : State) (tenant : Fin 16) (err : Option MemErr) (c : Nat) (k : Nat) (u : State), (s.tnState tenant = tnLoading) ∧ (s.tenLive = true) ∧ (s.isSet R.SIL_STATUS_READY = true) ∧ (s.mayMove tenant = true) ∧ (c = s.cfg Img.MODELS_SIZE (s.cfg Img.TENANTS_MODEL tenant)) ∧ ((s.charge tenant ((c + 63) / 64)).memMeets ((placeIn ((s.charge tenant ((c + 63) / 64)).regionsOf tenant) ((s.charge tenant ((c + 63) / 64)).packageAt tenant)).map (·.1)) err = (k, u)) ∧ (k ≠ 0 ∨ leNat (sha256 (u.tenRead tenant (u.packageAt tenant) c)) ≠ u.cfg Img.MODELS_BLOB (s.cfg Img.TENANTS_MODEL tenant))) ∧
    (∃ (s : State) (tenant : Fin 256) (queue : Fin 256) (tail : Fin 65536) (tag : Fin 65536) (q : Nat) (u : State), (s.takeCd ⟨2, TT.complNote, tenant, 0, 0, leBytes 1 queue.val ++ leBytes 1 0 ++ leBytes 2 tail.val ++ leBytes 2 tag.val ++ leBytes 2 0⟩ = some (q, u)) ∧ (tenant.val < 16) ∧ (u.tnState tenant ≠ tnAbsent) ∧ (u.tnState tenant ≠ tnResetting)) :=
  ⟨⟨up, 0, 1, 0, by decide +kernel⟩,
   ⟨fromAd 0 TT.tenAck (waiting), 2, 1, 4, ((fun (s : State) (tenant : Fin 256) (action : Fin 256) (state : Fin 256) => ((s.takeCd ⟨0, TT.tenAck, tenant, 0, 0, leBytes 1 action.val ++ leBytes 1 state.val ++ leBytes 6 0⟩).map (·.1)).getD (0)) (fromAd 0 TT.tenAck (waiting)) (2) (1) (4)), ((fun (s : State) (tenant : Fin 256) (action : Fin 256) (state : Fin 256) => ((s.takeCd ⟨0, TT.tenAck, tenant, 0, 0, leBytes 1 action.val ++ leBytes 1 state.val ++ leBytes 6 0⟩).map (·.2)).getD (fromAd 0 TT.tenAck (waiting))) (fromAd 0 TT.tenAck (waiting)) (2) (1) (4)), ((fun (tenant : Fin 256) (u : State) => ((u.tenantSt tenant).cmd).getD (0)) (2) (((fun (s : State) (tenant : Fin 256) (action : Fin 256) (state : Fin 256) => ((s.takeCd ⟨0, TT.tenAck, tenant, 0, 0, leBytes 1 action.val ++ leBytes 1 state.val ++ leBytes 6 0⟩).map (·.2)).getD (fromAd 0 TT.tenAck (waiting))) (fromAd 0 TT.tenAck (waiting)) (2) (1) (4)))), by decide +kernel⟩,
   ⟨fromAd 0 TT.tenAck (waiting), 2, 2, 4, ((fun (s : State) (tenant : Fin 256) (action : Fin 256) (state : Fin 256) => ((s.takeCd ⟨0, TT.tenAck, tenant, 0, 0, leBytes 1 action.val ++ leBytes 1 state.val ++ leBytes 6 0⟩).map (·.1)).getD (0)) (fromAd 0 TT.tenAck (waiting)) (2) (2) (4)), ((fun (s : State) (tenant : Fin 256) (action : Fin 256) (state : Fin 256) => ((s.takeCd ⟨0, TT.tenAck, tenant, 0, 0, leBytes 1 action.val ++ leBytes 1 state.val ++ leBytes 6 0⟩).map (·.2)).getD (fromAd 0 TT.tenAck (waiting))) (fromAd 0 TT.tenAck (waiting)) (2) (2) (4)), ((fun (tenant : Fin 256) (u : State) => ((u.tenantSt tenant).cmd).getD (0)) (2) (((fun (s : State) (tenant : Fin 256) (action : Fin 256) (state : Fin 256) => ((s.takeCd ⟨0, TT.tenAck, tenant, 0, 0, leBytes 1 action.val ++ leBytes 1 state.val ++ leBytes 6 0⟩).map (·.2)).getD (fromAd 0 TT.tenAck (waiting))) (fromAd 0 TT.tenAck (waiting)) (2) (2) (4)))), by decide +kernel⟩,
   ⟨fromAd 0 TT.tenAck (linked.setF (R.TEN_STATE_STATE 3) tnReady), 3, 0, 3, ((fun (s : State) (tenant : Fin 256) (action : Fin 256) (state : Fin 256) => ((s.takeCd ⟨0, TT.tenAck, tenant, 0, 0, leBytes 1 action.val ++ leBytes 1 state.val ++ leBytes 6 0⟩).map (·.1)).getD (0)) (fromAd 0 TT.tenAck (linked.setF (R.TEN_STATE_STATE 3) tnReady)) (3) (0) (3)), ((fun (s : State) (tenant : Fin 256) (action : Fin 256) (state : Fin 256) => ((s.takeCd ⟨0, TT.tenAck, tenant, 0, 0, leBytes 1 action.val ++ leBytes 1 state.val ++ leBytes 6 0⟩).map (·.2)).getD (fromAd 0 TT.tenAck (linked.setF (R.TEN_STATE_STATE 3) tnReady))) (fromAd 0 TT.tenAck (linked.setF (R.TEN_STATE_STATE 3) tnReady)) (3) (0) (3)), by decide +kernel⟩,
   ⟨waiting.armAt (.stateAck 2) 0, 2, ((fun (s : State) (tenant : Fin 16) => ((s.tenantSt tenant).cmd).getD (0)) (waiting.armAt (.stateAck 2) 0) (2)), ((fun (s : State) (tenant : Fin 16) => (s.disarm (.stateAck tenant)).tenViol 4) (waiting.armAt (.stateAck 2) 0) (2)), by decide +kernel⟩,
   ⟨(waiting.tenantSet 2 fun t => { t with again := true }).armAt (.stateAck 2) 0, 2, ((fun (s : State) (tenant : Fin 16) => ((s.tenantSt tenant).cmd).getD (0)) ((waiting.tenantSet 2 fun t => { t with again := true }).armAt (.stateAck 2) 0) (2)), ((fun (s : State) (tenant : Fin 16) => (s.disarm (.stateAck tenant)).tenViol 4) ((waiting.tenantSet 2 fun t => { t with again := true }).armAt (.stateAck 2) 0) (2)), by decide +kernel⟩,
   ⟨hashOk, 3, none, ((fun (s : State) (tenant : Fin 16) => s.cfg Img.MODELS_SIZE (s.cfg Img.TENANTS_MODEL tenant)) (hashOk) (3)), (0), ((fun (s : State) (tenant : Fin 16) (err : Option MemErr) (c : Nat) => ((s.charge tenant ((c + 63) / 64)).memMeets ((placeIn ((s.charge tenant ((c + 63) / 64)).regionsOf tenant) ((s.charge tenant ((c + 63) / 64)).packageAt tenant)).map (·.1)) err).2) (hashOk) (3) (none) (((fun (s : State) (tenant : Fin 16) => s.cfg Img.MODELS_SIZE (s.cfg Img.TENANTS_MODEL tenant)) (hashOk) (3)))), by decide +kernel⟩,
   ⟨hashOk.tenantSet 3 fun t => { t with wasReset := true }, 3, none, ((fun (s : State) (tenant : Fin 16) => s.cfg Img.MODELS_SIZE (s.cfg Img.TENANTS_MODEL tenant)) (hashOk.tenantSet 3 fun t => { t with wasReset := true }) (3)), (0), ((fun (s : State) (tenant : Fin 16) (err : Option MemErr) (c : Nat) => ((s.charge tenant ((c + 63) / 64)).memMeets ((placeIn ((s.charge tenant ((c + 63) / 64)).regionsOf tenant) ((s.charge tenant ((c + 63) / 64)).packageAt tenant)).map (·.1)) err).2) (hashOk.tenantSet 3 fun t => { t with wasReset := true }) (3) (none) (((fun (s : State) (tenant : Fin 16) => s.cfg Img.MODELS_SIZE (s.cfg Img.TENANTS_MODEL tenant)) (hashOk.tenantSet 3 fun t => { t with wasReset := true }) (3)))), by decide +kernel⟩,
   ⟨(linked.setF (R.TEN_STATE_STATE 3) tnLoading).setF R.SIL_STATUS_READY 1, 3, none, ((fun (s : State) (tenant : Fin 16) => s.cfg Img.MODELS_SIZE (s.cfg Img.TENANTS_MODEL tenant)) ((linked.setF (R.TEN_STATE_STATE 3) tnLoading).setF R.SIL_STATUS_READY 1) (3)), ((fun (s : State) (tenant : Fin 16) (err : Option MemErr) (c : Nat) => ((s.charge tenant ((c + 63) / 64)).memMeets ((placeIn ((s.charge tenant ((c + 63) / 64)).regionsOf tenant) ((s.charge tenant ((c + 63) / 64)).packageAt tenant)).map (·.1)) err).1) ((linked.setF (R.TEN_STATE_STATE 3) tnLoading).setF R.SIL_STATUS_READY 1) (3) (none) (((fun (s : State) (tenant : Fin 16) => s.cfg Img.MODELS_SIZE (s.cfg Img.TENANTS_MODEL tenant)) ((linked.setF (R.TEN_STATE_STATE 3) tnLoading).setF R.SIL_STATUS_READY 1) (3)))), ((fun (s : State) (tenant : Fin 16) (err : Option MemErr) (c : Nat) => ((s.charge tenant ((c + 63) / 64)).memMeets ((placeIn ((s.charge tenant ((c + 63) / 64)).regionsOf tenant) ((s.charge tenant ((c + 63) / 64)).packageAt tenant)).map (·.1)) err).2) ((linked.setF (R.TEN_STATE_STATE 3) tnLoading).setF R.SIL_STATUS_READY 1) (3) (none) (((fun (s : State) (tenant : Fin 16) => s.cfg Img.MODELS_SIZE (s.cfg Img.TENANTS_MODEL tenant)) ((linked.setF (R.TEN_STATE_STATE 3) tnLoading).setF R.SIL_STATUS_READY 1) (3)))), by decide +kernel⟩,
   ⟨fromAd 2 TT.complNote (linked.setF (R.TEN_STATE_STATE 3) tnReady), 3, 0, 1, 2, ((fun (s : State) (tenant : Fin 256) (queue : Fin 256) (tail : Fin 65536) (tag : Fin 65536) => ((s.takeCd ⟨2, TT.complNote, tenant, 0, 0, leBytes 1 queue.val ++ leBytes 1 0 ++ leBytes 2 tail.val ++ leBytes 2 tag.val ++ leBytes 2 0⟩).map (·.1)).getD (0)) (fromAd 2 TT.complNote (linked.setF (R.TEN_STATE_STATE 3) tnReady)) (3) (0) (1) (2)), ((fun (s : State) (tenant : Fin 256) (queue : Fin 256) (tail : Fin 65536) (tag : Fin 65536) => ((s.takeCd ⟨2, TT.complNote, tenant, 0, 0, leBytes 1 queue.val ++ leBytes 1 0 ++ leBytes 2 tail.val ++ leBytes 2 tag.val ++ leBytes 2 0⟩).map (·.2)).getD (fromAd 2 TT.complNote (linked.setF (R.TEN_STATE_STATE 3) tnReady))) (fromAd 2 TT.complNote (linked.setF (R.TEN_STATE_STATE 3) tnReady)) (3) (0) (1) (2)), by decide +kernel⟩⟩

theorem witness_MajorFrameAndAudit :
    (∃ (s : State) (u : State), (s.inWork = true) ∧ (s.isSet R.TEN_CTL_AUDIT_EN = true) ∧ (s.dueOrNew .canary = true) ∧ (s.ten.audit = none) ∧ (u = s.rearm .canary (s.cfg Img.MEMORY_CANARY_MS 0 * msNs)) ∧ (u.auditSkips = false)) ∧
    (∃ (s : State) (u : State), (s.inWork = true) ∧ (s.isSet R.TEN_CTL_AUDIT_EN = true) ∧ (s.dueOrNew .canary = true) ∧ (s.ten.audit = none) ∧ (u = s.rearm .canary (s.cfg Img.MEMORY_CANARY_MS 0 * msNs)) ∧ (u.auditSkips = true)) ∧
    (∃ (s : State) (l : List (Nat × Option Nat)) (p : Nat × Option Nat), (s.ten.audit = some l) ∧ (l.find? s.answerLate = some p)) ∧
    (∃ (s : State) (tile : Fin 256) (bits : Fin 256) (data : List Byte) (l : List (Nat × Option Nat)) (q : Nat) (u : State), (s.takeCd (mgmt TT.probeResult 0 (leBytes 1 tile.val ++ leBytes 1 bits.val ++ leBytes 6 0 ++ padTo 64 data)) = some (q, u)) ∧ (u.ten.audit = some l) ∧ ((l.any fun p => p.1 == 130) = true) ∧ (bits.val % 4 = 3) ∧ (u.isCanary data = false)) ∧
    (∃ (s : State) (tile : Fin 256) (bits : Fin 256) (data : List Byte) (l : List (Nat × Option Nat)) (q : Nat) (u : State), (s.takeCd (mgmt TT.probeResult 0 (leBytes 1 tile.val ++ leBytes 1 bits.val ++ leBytes 6 0 ++ padTo 64 data)) = some (q, u)) ∧ (u.ten.audit = some l) ∧ ((l.any fun p => p.1 == 130) = true) ∧ (bits.val % 4 ≠ 3 ∨ u.isCanary data = true)) ∧
    (∃ (s : State), (s.inWork = true) ∧ (s.due .major = true) ∧ (s.tenLive = true)) ∧
    (∃ (s : State) (k : Nat) (lends : Fin 65536) (late : Fin 65536) (lateS : Fin 65536) (stalls : List Nat) (q : Nat) (u : State) (v : State), (s.takeCd (mgmt TT.frameReport 0 (leBytes 4 k ++ leBytes 2 lends.val ++ leBytes 2 late.val ++ (List.range 16).flatMap fun i => leBytes 4 (stalls.getD i 0))) = some (q, u)) ∧ (v = if u.ten.waiting = some k then { u with ten := { u.ten with waiting := none } }.disarm .frameReport else u.tenViol 3)) ∧
    (∃ (s : State), (s.due .frameReport = true)) :=
  ⟨⟨(linked.setF R.TEN_CTL_AUDIT_EN 1).dspSet fun d => { d with planOk := true }, ((fun (s : State) => s.rearm .canary (s.cfg Img.MEMORY_CANARY_MS 0 * msNs)) ((linked.setF R.TEN_CTL_AUDIT_EN 1).dspSet fun d => { d with planOk := true })), by decide +kernel⟩,
   ⟨linked.setF R.TEN_CTL_AUDIT_EN 1, ((fun (s : State) => s.rearm .canary (s.cfg Img.MEMORY_CANARY_MS 0 * msNs)) (linked.setF R.TEN_CTL_AUDIT_EN 1)), by decide +kernel⟩,
   ⟨{ linked with now := 1000000, ten := { linked.ten with audit := some [(3, some 0)] } }, ((fun (s : State) => (s.ten.audit).getD ([])) ({ linked with now := 1000000, ten := { linked.ten with audit := some [(3, some 0)] } })), (3, some 0), by decide +kernel⟩,
   ⟨fromAd 0 TT.probeResult ({ linked with ten := { linked.ten with audit := some [(130, none)] } }), 0, 3, [], ((fun (u : State) => (u.ten.audit).getD ([])) (((fun (s : State) (tile : Fin 256) (bits : Fin 256) (data : List Byte) => ((s.takeCd (mgmt TT.probeResult 0 (leBytes 1 tile.val ++ leBytes 1 bits.val ++ leBytes 6 0 ++ padTo 64 data))).map (·.2)).getD (fromAd 0 TT.probeResult ({ linked with ten := { linked.ten with audit := some [(130, none)] } }))) (fromAd 0 TT.probeResult ({ linked with ten := { linked.ten with audit := some [(130, none)] } })) (0) (3) ([])))), ((fun (s : State) (tile : Fin 256) (bits : Fin 256) (data : List Byte) => ((s.takeCd (mgmt TT.probeResult 0 (leBytes 1 tile.val ++ leBytes 1 bits.val ++ leBytes 6 0 ++ padTo 64 data))).map (·.1)).getD (0)) (fromAd 0 TT.probeResult ({ linked with ten := { linked.ten with audit := some [(130, none)] } })) (0) (3) ([])), ((fun (s : State) (tile : Fin 256) (bits : Fin 256) (data : List Byte) => ((s.takeCd (mgmt TT.probeResult 0 (leBytes 1 tile.val ++ leBytes 1 bits.val ++ leBytes 6 0 ++ padTo 64 data))).map (·.2)).getD (fromAd 0 TT.probeResult ({ linked with ten := { linked.ten with audit := some [(130, none)] } }))) (fromAd 0 TT.probeResult ({ linked with ten := { linked.ten with audit := some [(130, none)] } })) (0) (3) ([])), by decide +kernel⟩,
   ⟨fromAd 0 TT.probeResult ({ linked with ten := { linked.ten with audit := some [(130, none)] } }), 0, 2, [], ((fun (u : State) => (u.ten.audit).getD ([])) (((fun (s : State) (tile : Fin 256) (bits : Fin 256) (data : List Byte) => ((s.takeCd (mgmt TT.probeResult 0 (leBytes 1 tile.val ++ leBytes 1 bits.val ++ leBytes 6 0 ++ padTo 64 data))).map (·.2)).getD (fromAd 0 TT.probeResult ({ linked with ten := { linked.ten with audit := some [(130, none)] } }))) (fromAd 0 TT.probeResult ({ linked with ten := { linked.ten with audit := some [(130, none)] } })) (0) (2) ([])))), ((fun (s : State) (tile : Fin 256) (bits : Fin 256) (data : List Byte) => ((s.takeCd (mgmt TT.probeResult 0 (leBytes 1 tile.val ++ leBytes 1 bits.val ++ leBytes 6 0 ++ padTo 64 data))).map (·.1)).getD (0)) (fromAd 0 TT.probeResult ({ linked with ten := { linked.ten with audit := some [(130, none)] } })) (0) (2) ([])), ((fun (s : State) (tile : Fin 256) (bits : Fin 256) (data : List Byte) => ((s.takeCd (mgmt TT.probeResult 0 (leBytes 1 tile.val ++ leBytes 1 bits.val ++ leBytes 6 0 ++ padTo 64 data))).map (·.2)).getD (fromAd 0 TT.probeResult ({ linked with ten := { linked.ten with audit := some [(130, none)] } }))) (fromAd 0 TT.probeResult ({ linked with ten := { linked.ten with audit := some [(130, none)] } })) (0) (2) ([])), by decide +kernel⟩,
   ⟨linked.armAt .major 0, by decide +kernel⟩,
   ⟨fromAd 0 TT.frameReport ({ linked with ten := { linked.ten with waiting := some 7 } }), 7, 0, 0, 0, [], ((fun (s : State) (k : Nat) (lends : Fin 65536) (late : Fin 65536) (stalls : List Nat) => ((s.takeCd (mgmt TT.frameReport 0 (leBytes 4 k ++ leBytes 2 lends.val ++ leBytes 2 late.val ++ (List.range 16).flatMap fun i => leBytes 4 (stalls.getD i 0)))).map (·.1)).getD (0)) (fromAd 0 TT.frameReport ({ linked with ten := { linked.ten with waiting := some 7 } })) (7) (0) (0) ([])), ((fun (s : State) (k : Nat) (lends : Fin 65536) (late : Fin 65536) (stalls : List Nat) => ((s.takeCd (mgmt TT.frameReport 0 (leBytes 4 k ++ leBytes 2 lends.val ++ leBytes 2 late.val ++ (List.range 16).flatMap fun i => leBytes 4 (stalls.getD i 0)))).map (·.2)).getD (fromAd 0 TT.frameReport ({ linked with ten := { linked.ten with waiting := some 7 } }))) (fromAd 0 TT.frameReport ({ linked with ten := { linked.ten with waiting := some 7 } })) (7) (0) (0) ([])), ((fun (k : Nat) (u : State) => if u.ten.waiting = some k then { u with ten := { u.ten with waiting := none } }.disarm .frameReport else u.tenViol 3) (7) (((fun (s : State) (k : Nat) (lends : Fin 65536) (late : Fin 65536) (stalls : List Nat) => ((s.takeCd (mgmt TT.frameReport 0 (leBytes 4 k ++ leBytes 2 lends.val ++ leBytes 2 late.val ++ (List.range 16).flatMap fun i => leBytes 4 (stalls.getD i 0)))).map (·.2)).getD (fromAd 0 TT.frameReport ({ linked with ten := { linked.ten with waiting := some 7 } }))) (fromAd 0 TT.frameReport ({ linked with ten := { linked.ten with waiting := some 7 } })) (7) (0) (0) ([])))), by decide +kernel⟩,
   ⟨linked.armAt .frameReport 0, by decide +kernel⟩⟩

theorem witness_DispatcherMessages :
    (∃ (s : State) (m : Msg) (u : State), (s.takeAd TT.config (fun _ => true) = some (m, u)) ∧ (u.adLive = true) ∧ (m.tag = 0xFFFF) ∧ ((fieldAt m.body 0 4).testBit 31 = true)) ∧
    (∃ (s : State) (m : Msg) (u : State), (s.takeAd TT.config (fun _ => true) = some (m, u)) ∧ (u.adLive = true) ∧ (m.tag = 0xFFFF) ∧ ((fieldAt m.body 0 4).testBit 31 = false) ∧ (u.ad.dsp.running = true)) ∧
    (∃ (s : State) (m : Msg) (u : State), (s.takeAd TT.config (fun _ => true) = some (m, u)) ∧ (u.adLive = true) ∧ (m.tag ≠ 0xFFFF) ∧ (u.ad.dsp.running = true) ∧ (fieldAt m.body 0 4 = 0x7FFFFF00)) ∧
    (∃ (s : State) (errs : List (Nat × MemErr)) (m : Msg) (u : State) (p : PlanTenant), (s.takeAd TT.doorbell (fun m => s.mayMove m.tenant) = some (m, u)) ∧ (u.dspLive = true) ∧ (u.planOf m.tenant = some p) ∧ (byteAt m.body 0 < p.queues) ∧ (u.dspSt m.tenant ≠ tnAbsent) ∧ (u.dspSt m.tenant ≠ tnLoading) ∧ (u.dspSt m.tenant ≠ tnResetting)) ∧
    (∃ (s : State) (m : Msg) (u : State), (s.takeAd TT.tenCmd (fun _ => true) = some (m, u)) ∧ (u.dspLive = true) ∧ (m.tenant < 16) ∧ (byteAt m.body 0 = 1)) ∧
    (∃ (s : State) (m : Msg) (u : State), (s.takeAd TT.tenCmd (fun _ => true) = some (m, u)) ∧ (u.dspLive = true) ∧ (m.tenant < 16) ∧ (byteAt m.body 0 = 2)) ∧
    (∃ (s : State) (m : Msg) (u : State), (s.takeAd TT.tenCmd (fun _ => true) = some (m, u)) ∧ (u.dspLive = true) ∧ (m.tenant < 16) ∧ (byteAt m.body 0 = 3)) ∧
    (∃ (s : State) (m : Msg) (u : State), (s.takeAd TT.tenCmd (fun _ => true) = some (m, u)) ∧ (u.dspLive = true) ∧ (m.tenant < 16) ∧ (byteAt m.body 0 = 4)) ∧
    (∃ (s : State) (m : Msg) (u : State), (s.takeAd TT.tenCmd (fun _ => true) = some (m, u)) ∧ (u.dspLive = true) ∧ (m.tenant < 16) ∧ (byteAt m.body 0 = 5)) ∧
    (∃ (s : State) (m : Msg) (u : State), (s.takeAd TT.tenCmd (fun _ => true) = some (m, u)) ∧ (u.dspLive = true) ∧ (m.tenant < 16) ∧ (byteAt m.body 0 = 6)) ∧
    (∃ (s : State) (m : Msg) (u : State), (s.takeAd TT.tenCmd (fun _ => true) = some (m, u)) ∧ (u.dspLive = true) ∧ (m.tenant < 16) ∧ (byteAt m.body 0 = 7)) ∧
    (∃ (s : State) (m : Msg) (u : State), (s.takeAd TT.probe (fun _ => true) = some (m, u)) ∧ (byteAt m.body 0 < 16) ∧ (byteAt m.body 1 < 16) ∧ (u.tileLive (byteAt m.body 0 % 16) = true)) ∧
    (∃ (s : State) (tenant : Fin 16) (u : State), (s.dspLive = true) ∧ (s.tnState tenant = tnResetting) ∧ (s.armed (.scrub tenant) = true) ∧ (s.tilesRunning tenant = []) ∧ (s.mayMove tenant = true) ∧ (u = s.abortJobs tenant) ∧ ((u.jobs.any fun j => j.tenant == tenant.val) = false)) ∧
    (∃ (s : State) (tenant : Fin 16) (u : State), (s.dspLive = true) ∧ (s.tnState tenant = tnResetting) ∧ (s.armed (.scrub tenant) = true) ∧ (s.tilesRunning tenant = []) ∧ (s.mayMove tenant = true) ∧ (u = s.abortJobs tenant) ∧ ((u.jobs.any fun j => j.tenant == tenant.val) = true)) ∧
    (∃ (s : State), (s.dspLive = true) ∧ (s.due .stopLead = true)) ∧
    (∃ (s : State), (s.dspLive = true) ∧ (s.ad.dsp.planOk = true) ∧ (s.due .slot = true) ∧ (s.ad.dsp.slot + 1 < s.ad.dsp.slots.length)) :=
  ⟨⟨msgUp cfgFw, ((fun (s : State) => ((s.takeAd TT.config (fun _ => true)).map (·.1)).getD (cfgFw)) (msgUp cfgFw)), ((fun (s : State) => ((s.takeAd TT.config (fun _ => true)).map (·.2)).getD (msgUp cfgFw)) (msgUp cfgFw)), by decide +kernel⟩,
   ⟨msgUp cfgPlan, ((fun (s : State) => ((s.takeAd TT.config (fun _ => true)).map (·.1)).getD (cfgFw)) (msgUp cfgPlan)), ((fun (s : State) => ((s.takeAd TT.config (fun _ => true)).map (·.2)).getD (msgUp cfgPlan)) (msgUp cfgPlan)), by decide +kernel⟩,
   ⟨msgUp cfgItem, ((fun (s : State) => ((s.takeAd TT.config (fun _ => true)).map (·.1)).getD (cfgFw)) (msgUp cfgItem)), ((fun (s : State) => ((s.takeAd TT.config (fun _ => true)).map (·.2)).getD (msgUp cfgItem)) (msgUp cfgItem)), by decide +kernel⟩,
   ⟨msgUp ringMsg, [], ringMsg, ((fun (s : State) (m : Msg) => ((s.takeAd TT.doorbell (fun m => s.mayMove m.tenant)).map (·.2)).getD (msgUp ringMsg)) (msgUp ringMsg) (ringMsg)), ((fun (m : Msg) (u : State) => (u.planOf m.tenant).getD (plan0)) (ringMsg) (((fun (s : State) (m : Msg) => ((s.takeAd TT.doorbell (fun m => s.mayMove m.tenant)).map (·.2)).getD (msgUp ringMsg)) (msgUp ringMsg) (ringMsg)))), by decide +kernel⟩,
   ⟨msgUp suspMsg, ((fun (s : State) => ((s.takeAd TT.tenCmd (fun _ => true)).map (·.1)).getD (cfgFw)) (msgUp suspMsg)), ((fun (s : State) => ((s.takeAd TT.tenCmd (fun _ => true)).map (·.2)).getD (msgUp suspMsg)) (msgUp suspMsg)), by decide +kernel⟩,
   ⟨msgUp { suspMsg with body := leBytes 8 2 }, ((fun (s : State) => ((s.takeAd TT.tenCmd (fun _ => true)).map (·.1)).getD (cfgFw)) (msgUp { suspMsg with body := leBytes 8 2 })), ((fun (s : State) => ((s.takeAd TT.tenCmd (fun _ => true)).map (·.2)).getD (msgUp { suspMsg with body := leBytes 8 2 })) (msgUp { suspMsg with body := leBytes 8 2 })), by decide +kernel⟩,
   ⟨msgUp { suspMsg with body := leBytes 8 3 }, ((fun (s : State) => ((s.takeAd TT.tenCmd (fun _ => true)).map (·.1)).getD (cfgFw)) (msgUp { suspMsg with body := leBytes 8 3 })), ((fun (s : State) => ((s.takeAd TT.tenCmd (fun _ => true)).map (·.2)).getD (msgUp { suspMsg with body := leBytes 8 3 })) (msgUp { suspMsg with body := leBytes 8 3 })), by decide +kernel⟩,
   ⟨msgUp { suspMsg with body := leBytes 8 4 }, ((fun (s : State) => ((s.takeAd TT.tenCmd (fun _ => true)).map (·.1)).getD (cfgFw)) (msgUp { suspMsg with body := leBytes 8 4 })), ((fun (s : State) => ((s.takeAd TT.tenCmd (fun _ => true)).map (·.2)).getD (msgUp { suspMsg with body := leBytes 8 4 })) (msgUp { suspMsg with body := leBytes 8 4 })), by decide +kernel⟩,
   ⟨msgUp { suspMsg with body := leBytes 8 5 }, ((fun (s : State) => ((s.takeAd TT.tenCmd (fun _ => true)).map (·.1)).getD (cfgFw)) (msgUp { suspMsg with body := leBytes 8 5 })), ((fun (s : State) => ((s.takeAd TT.tenCmd (fun _ => true)).map (·.2)).getD (msgUp { suspMsg with body := leBytes 8 5 })) (msgUp { suspMsg with body := leBytes 8 5 })), by decide +kernel⟩,
   ⟨msgUp { suspMsg with body := leBytes 8 6 }, ((fun (s : State) => ((s.takeAd TT.tenCmd (fun _ => true)).map (·.1)).getD (cfgFw)) (msgUp { suspMsg with body := leBytes 8 6 })), ((fun (s : State) => ((s.takeAd TT.tenCmd (fun _ => true)).map (·.2)).getD (msgUp { suspMsg with body := leBytes 8 6 })) (msgUp { suspMsg with body := leBytes 8 6 })), by decide +kernel⟩,
   ⟨msgUp { suspMsg with body := leBytes 8 7 }, ((fun (s : State) => ((s.takeAd TT.tenCmd (fun _ => true)).map (·.1)).getD (cfgFw)) (msgUp { suspMsg with body := leBytes 8 7 })), ((fun (s : State) => ((s.takeAd TT.tenCmd (fun _ => true)).map (·.2)).getD (msgUp { suspMsg with body := leBytes 8 7 })) (msgUp { suspMsg with body := leBytes 8 7 })), by decide +kernel⟩,
   ⟨msgUp probeMsg, ((fun (s : State) => ((s.takeAd TT.probe (fun _ => true)).map (·.1)).getD (cfgFw)) (msgUp probeMsg)), ((fun (s : State) => ((s.takeAd TT.probe (fun _ => true)).map (·.2)).getD (msgUp probeMsg)) (msgUp probeMsg)), by decide +kernel⟩,
   ⟨((adUp.setF (R.TEN_STATE_STATE 0) tnResetting).armAt (.scrub 0) 0), 0, ((fun (s : State) (tenant : Fin 16) => s.abortJobs tenant) (((adUp.setF (R.TEN_STATE_STATE 0) tnResetting).armAt (.scrub 0) 0)) (0)), by decide +kernel⟩,
   ⟨((((adUp.dspSet fun d => { d with cqHead := [(0, 1)] }).jobsSet fun _ => [job0 1]).setF (R.TEN_STATE_STATE 0) tnResetting).armAt (.scrub 0) 0), 0, ((fun (s : State) (tenant : Fin 16) => s.abortJobs tenant) (((((adUp.dspSet fun d => { d with cqHead := [(0, 1)] }).jobsSet fun _ => [job0 1]).setF (R.TEN_STATE_STATE 0) tnResetting).armAt (.scrub 0) 0)) (0)), by decide +kernel⟩,
   ⟨adUp.armAt .stopLead 0, by decide +kernel⟩,
   ⟨adUp.armAt .slot 0, by decide +kernel⟩⟩

theorem witness_Jobs :
    (∃ (s : State) (tenant : Fin 16) (err : Option MemErr) (j : Job) (ts : List Nat) (p : PlanTenant), (s.dspLive = true) ∧ (s.ad.dsp.planOk = true) ∧ (s.startable tenant = some (j, ts)) ∧ (s.planOf tenant = some p) ∧ (s.mayMove tenant = true) ∧ ((ts.all fun t => s.freeFor tenant t) = true) ∧ (j.op = 1)) ∧
    (∃ (s : State) (tenant : Fin 16) (err : Option MemErr) (j : Job) (ts : List Nat) (p : PlanTenant), (s.dspLive = true) ∧ (s.ad.dsp.planOk = true) ∧ (s.startable tenant = some (j, ts)) ∧ (s.planOf tenant = some p) ∧ (s.mayMove tenant = true) ∧ ((ts.all fun t => s.freeFor tenant t) = true) ∧ (j.op = 2)) ∧
    (∃ (s : State) (tenant : Fin 16) (err : Option MemErr) (j : Job) (ts : List Nat) (p : PlanTenant), (s.dspLive = true) ∧ (s.ad.dsp.planOk = true) ∧ (s.startable tenant = some (j, ts)) ∧ (s.planOf tenant = some p) ∧ (s.mayMove tenant = true) ∧ ((ts.all fun t => s.freeFor tenant t) = true) ∧ (j.op = 3)) ∧
    (∃ (s : State) (tenant : Fin 16) (err : Option MemErr) (j : Job) (ts : List Nat) (p : PlanTenant), (s.dspLive = true) ∧ (s.ad.dsp.planOk = true) ∧ (s.startable tenant = some (j, ts)) ∧ (s.planOf tenant = some p) ∧ (s.mayMove tenant = true) ∧ ((ts.all fun t => s.freeFor tenant t) = true) ∧ (j.op = 4) ∧ (j.arg 0 = 0)) ∧
    (∃ (s : State) (tenant : Fin 16) (errs : List (Nat × MemErr)) (j : Job) (ts : List Nat) (p : PlanTenant) (l : List (List Byte × Bool)) (u : State), (s.dspLive = true) ∧ (s.ad.dsp.planOk = true) ∧ (s.startable tenant = some (j, ts)) ∧ (s.planOf tenant = some p) ∧ (s.mayMove tenant = true) ∧ ((ts.all fun t => s.freeFor tenant t) = true) ∧ (j.op = 5) ∧ (s.fetch tenant j.inAddr j.inLen errs = (l, u))) ∧
    (∃ (s : State) (job : Nat) (err : Option MemErr) (j : Job) (p : PlanTenant) (cur : PhaseDesc) (d : PhaseDesc) (e : Bool × State), (s.jobs[job]? = some j) ∧ (s.planOf j.tenant = some p) ∧ ((s.phasesOf p)[j.phase]? = some cur) ∧ ((s.phasesOf p)[j.phase + 1]? = some d) ∧ (s.dspLive = true) ∧ (j.started = true) ∧ (j.onTiles = true) ∧ (j.verdict = none) ∧ (s.mayMove j.tenant = true) ∧ ((if d.barrier then s.allHalted (j.positions cur.width) else j.tiles.all fun t => (s.tile t).req.isNone) = true) ∧ ((s.due .stopLead && j.tiles.any s.changes) = false) ∧ (s.pkgError p err = e) ∧ (e.1 = false)) ∧
    (∃ (s : State) (job : Nat) (err : Option MemErr) (j : Job) (p : PlanTenant) (cur : PhaseDesc) (d : PhaseDesc) (e : Bool × State), (s.jobs[job]? = some j) ∧ (s.planOf j.tenant = some p) ∧ ((s.phasesOf p)[j.phase]? = some cur) ∧ ((s.phasesOf p)[j.phase + 1]? = some d) ∧ (s.dspLive = true) ∧ (j.started = true) ∧ (j.onTiles = true) ∧ (j.verdict = none) ∧ (s.mayMove j.tenant = true) ∧ ((if d.barrier then s.allHalted (j.positions cur.width) else j.tiles.all fun t => (s.tile t).req.isNone) = true) ∧ ((s.due .stopLead && j.tiles.any s.changes) = false) ∧ (s.pkgError p err = e) ∧ (e.1 = true)) ∧
    (∃ (s : State) (job : Nat) (j : Job), (s.jobs[job]? = some j) ∧ (s.dspLive = true) ∧ (j.started = true) ∧ (j.verdict = none) ∧ (j.onTiles = false ∨ s.jobOver j = true)) ∧
    (∃ (s : State) (job : Nat) (j : Job), (s.jobs[job]? = some j) ∧ (s.dspLive = true) ∧ (j.overdue s.now = true) ∧ (j.verdict = none) ∧ (s.jobEnded j = false) ∧ (j.started = false ∨ j.tiles = [])) ∧
    (∃ (s : State) (job : Nat) (j : Job), (s.jobs[job]? = some j) ∧ (s.dspLive = true) ∧ (j.overdue s.now = true) ∧ (j.verdict = none) ∧ (s.jobEnded j = false) ∧ (j.started = true) ∧ (j.tiles ≠ [])) ∧
    (∃ (s : State) (tenant : Fin 16) (p : PlanTenant) (l : List Job), (s.planOf tenant = some p) ∧ (l = s.jobs.filter fun j => j.tenant == tenant.val && j.batch == 1 && j.verdict.isNone && decide (j.at_ < s.now)) ∧ (s.dspLive = true) ∧ (l ≠ []) ∧ (s.batchDue p l = true)) ∧
    (∃ (s : State) (tile : Fin 16) (bank : Nat) (reason : Nat) (tenant : Nat) (u : State), (s.tileLive tile = true) ∧ (s.due (.stopLimit tile) = true) ∧ ((s.tile tile).req = some ⟨2, bank, reason, tenant⟩) ∧ (s.atSeam tile = false) ∧ (u = (if reason = 0 then s.recordFault tile (s.limitFault tile) (s.faultPc tile 0) 0 false else s).abortTile tile 2 0 0 0) ∧ (reason ≠ 1)) ∧
    (∃ (s : State) (tile : Fin 16) (bank : Nat) (reason : Nat) (tenant : Nat) (u : State), (s.tileLive tile = true) ∧ (s.due (.stopLimit tile) = true) ∧ ((s.tile tile).req = some ⟨2, bank, reason, tenant⟩) ∧ (s.atSeam tile = false) ∧ (u = (if reason = 0 then s.recordFault tile (s.limitFault tile) (s.faultPc tile 0) 0 false else s).abortTile tile 2 0 0 0) ∧ (reason = 1)) :=
  ⟨⟨jobUp 1, 0, none, ((fun (s : State) (tenant : Fin 16) => ((s.startable tenant).map (·.1)).getD ((job0 1))) (jobUp 1) (0)), ((fun (s : State) (tenant : Fin 16) => ((s.startable tenant).map (·.2)).getD ([])) (jobUp 1) (0)), ((fun (s : State) (tenant : Fin 16) => (s.planOf tenant).getD (plan0)) (jobUp 1) (0)), by decide +kernel⟩,
   ⟨jobUp 2, 0, none, ((fun (s : State) (tenant : Fin 16) => ((s.startable tenant).map (·.1)).getD ((job0 1))) (jobUp 2) (0)), ((fun (s : State) (tenant : Fin 16) => ((s.startable tenant).map (·.2)).getD ([])) (jobUp 2) (0)), ((fun (s : State) (tenant : Fin 16) => (s.planOf tenant).getD (plan0)) (jobUp 2) (0)), by decide +kernel⟩,
   ⟨jobUp 3, 0, none, ((fun (s : State) (tenant : Fin 16) => ((s.startable tenant).map (·.1)).getD ((job0 1))) (jobUp 3) (0)), ((fun (s : State) (tenant : Fin 16) => ((s.startable tenant).map (·.2)).getD ([])) (jobUp 3) (0)), ((fun (s : State) (tenant : Fin 16) => (s.planOf tenant).getD (plan0)) (jobUp 3) (0)), by decide +kernel⟩,
   ⟨jobUp 4, 0, none, ((fun (s : State) (tenant : Fin 16) => ((s.startable tenant).map (·.1)).getD ((job0 1))) (jobUp 4) (0)), ((fun (s : State) (tenant : Fin 16) => ((s.startable tenant).map (·.2)).getD ([])) (jobUp 4) (0)), ((fun (s : State) (tenant : Fin 16) => (s.planOf tenant).getD (plan0)) (jobUp 4) (0)), by decide +kernel⟩,
   ⟨jobUp 5, 0, [], ((fun (s : State) (tenant : Fin 16) => ((s.startable tenant).map (·.1)).getD ((job0 1))) (jobUp 5) (0)), ((fun (s : State) (tenant : Fin 16) => ((s.startable tenant).map (·.2)).getD ([])) (jobUp 5) (0)), ((fun (s : State) (tenant : Fin 16) => (s.planOf tenant).getD (plan0)) (jobUp 5) (0)), ((fun (s : State) (tenant : Fin 16) (errs : List (Nat × MemErr)) (j : Job) => (s.fetch tenant j.inAddr j.inLen errs).1) (jobUp 5) (0) ([]) (((fun (s : State) (tenant : Fin 16) => ((s.startable tenant).map (·.1)).getD ((job0 1))) (jobUp 5) (0)))), ((fun (s : State) (tenant : Fin 16) (errs : List (Nat × MemErr)) (j : Job) => (s.fetch tenant j.inAddr j.inLen errs).2) (jobUp 5) (0) ([]) (((fun (s : State) (tenant : Fin 16) => ((s.startable tenant).map (·.1)).getD ((job0 1))) (jobUp 5) (0)))), by decide +kernel⟩,
   ⟨phaseUp, 0, none, ((fun (s : State) (job : Nat) => (s.jobs[job]?).getD ((job0 1))) (phaseUp) (0)), ((fun (s : State) (j : Job) => (s.planOf j.tenant).getD (plan0)) (phaseUp) (((fun (s : State) (job : Nat) => (s.jobs[job]?).getD ((job0 1))) (phaseUp) (0)))), ((fun (s : State) (j : Job) (p : PlanTenant) => ((s.phasesOf p)[j.phase]?).getD (⟨0, 0, false, 0, 0, 0, 0⟩)) (phaseUp) (((fun (s : State) (job : Nat) => (s.jobs[job]?).getD ((job0 1))) (phaseUp) (0))) (((fun (s : State) (j : Job) => (s.planOf j.tenant).getD (plan0)) (phaseUp) (((fun (s : State) (job : Nat) => (s.jobs[job]?).getD ((job0 1))) (phaseUp) (0)))))), ((fun (s : State) (j : Job) (p : PlanTenant) => ((s.phasesOf p)[j.phase + 1]?).getD (⟨0, 0, false, 0, 0, 0, 0⟩)) (phaseUp) (((fun (s : State) (job : Nat) => (s.jobs[job]?).getD ((job0 1))) (phaseUp) (0))) (((fun (s : State) (j : Job) => (s.planOf j.tenant).getD (plan0)) (phaseUp) (((fun (s : State) (job : Nat) => (s.jobs[job]?).getD ((job0 1))) (phaseUp) (0)))))), ((fun (s : State) (err : Option MemErr) (p : PlanTenant) => s.pkgError p err) (phaseUp) (none) (((fun (s : State) (j : Job) => (s.planOf j.tenant).getD (plan0)) (phaseUp) (((fun (s : State) (job : Nat) => (s.jobs[job]?).getD ((job0 1))) (phaseUp) (0)))))), by decide +kernel⟩,
   ⟨phaseUp, 0, some .noc, ((fun (s : State) (job : Nat) => (s.jobs[job]?).getD ((job0 1))) (phaseUp) (0)), ((fun (s : State) (j : Job) => (s.planOf j.tenant).getD (plan0)) (phaseUp) (((fun (s : State) (job : Nat) => (s.jobs[job]?).getD ((job0 1))) (phaseUp) (0)))), ((fun (s : State) (j : Job) (p : PlanTenant) => ((s.phasesOf p)[j.phase]?).getD (⟨0, 0, false, 0, 0, 0, 0⟩)) (phaseUp) (((fun (s : State) (job : Nat) => (s.jobs[job]?).getD ((job0 1))) (phaseUp) (0))) (((fun (s : State) (j : Job) => (s.planOf j.tenant).getD (plan0)) (phaseUp) (((fun (s : State) (job : Nat) => (s.jobs[job]?).getD ((job0 1))) (phaseUp) (0)))))), ((fun (s : State) (j : Job) (p : PlanTenant) => ((s.phasesOf p)[j.phase + 1]?).getD (⟨0, 0, false, 0, 0, 0, 0⟩)) (phaseUp) (((fun (s : State) (job : Nat) => (s.jobs[job]?).getD ((job0 1))) (phaseUp) (0))) (((fun (s : State) (j : Job) => (s.planOf j.tenant).getD (plan0)) (phaseUp) (((fun (s : State) (job : Nat) => (s.jobs[job]?).getD ((job0 1))) (phaseUp) (0)))))), ((fun (s : State) (err : Option MemErr) (p : PlanTenant) => s.pkgError p err) (phaseUp) (some .noc) (((fun (s : State) (j : Job) => (s.planOf j.tenant).getD (plan0)) (phaseUp) (((fun (s : State) (job : Nat) => (s.jobs[job]?).getD ((job0 1))) (phaseUp) (0)))))), by decide +kernel, by decide +kernel, by decide +kernel, by decide +kernel, by decide +kernel, by decide +kernel, by decide +kernel, by decide +kernel, by decide +kernel, by decide +kernel, by decide +kernel, rfl, by decide +kernel⟩,
   ⟨startedUp 5, 0, ((fun (s : State) (job : Nat) => (s.jobs[job]?).getD ((job0 1))) (startedUp 5) (0)), by decide +kernel⟩,
   ⟨{ lateUp with now := 5000000 }, 0, ((fun (s : State) (job : Nat) => (s.jobs[job]?).getD ((job0 1))) ({ lateUp with now := 5000000 }) (0)), by decide +kernel⟩,
   ⟨{ adUp.jobsSet (fun _ => [{ lateJob with started := true, tiles := [0] }]) with now := 5000000 }, 0, ((fun (s : State) (job : Nat) => (s.jobs[job]?).getD ((job0 1))) ({ adUp.jobsSet (fun _ => [{ lateJob with started := true, tiles := [0] }]) with now := 5000000 }) (0)), by decide +kernel⟩,
   ⟨{ batchUp with now := 5000000 }, 0, ((fun (s : State) (tenant : Fin 16) => (s.planOf tenant).getD (plan0)) ({ batchUp with now := 5000000 }) (0)), ((fun (s : State) (tenant : Fin 16) => s.jobs.filter fun j => j.tenant == tenant.val && j.batch == 1 && j.verdict.isNone && decide (j.at_ < s.now)) ({ batchUp with now := 5000000 }) (0)), by decide +kernel⟩,
   ⟨(adUp.tileSet 3 fun t => { t with req := some ⟨2, 0, 0, 0⟩ }).armAt (.stopLimit 3) 0, 3, 0, 0, 0, ((fun (s : State) (tile : Fin 16) (reason : Nat) => (if reason = 0 then s.recordFault tile (s.limitFault tile) (s.faultPc tile 0) 0 false else s).abortTile tile 2 0 0 0) ((adUp.tileSet 3 fun t => { t with req := some ⟨2, 0, 0, 0⟩ }).armAt (.stopLimit 3) 0) (3) (0)), by decide +kernel, by decide +kernel, by decide +kernel, by decide +kernel, rfl, by decide +kernel⟩,
   ⟨stopUp, 3, 0, 1, 0, ((fun (s : State) (tile : Fin 16) (reason : Nat) => (if reason = 0 then s.recordFault tile (s.limitFault tile) (s.faultPc tile 0) 0 false else s).abortTile tile 2 0 0 0) (stopUp) (3) (1)), by decide +kernel⟩⟩

theorem witness_DispatcherFrames :
    (∃ (s : State) (m : Msg) (u : State), (s.takeAd TT.frameOpen (fun _ => true) = some (m, u)) ∧ (u.dspLive = true) ∧ (u.ad.dsp.planOk = true) ∧ (fieldAt m.body 12 4 = crc32c (m.body.take 12))) ∧
    (∃ (s : State) (m : Msg) (u : State) (f : DFrame), (s.takeAd TT.frameData (fun _ => true) = some (m, u)) ∧ ((u.ad.dsp.frames.find? fun f => f.cam == byteAt m.body 0 && f.ctr % 65536 == m.tag) = some f) ∧ (u.dspLive = true)) ∧
    (∃ (s : State) (m : Msg) (u : State) (f : DFrame), (s.takeAd TT.frameTrailer s.trailerGoes = some (m, u)) ∧ ((u.ad.dsp.frames.find? fun f => f.cam == byteAt m.body 0 && f.ctr == fieldAt m.body 4 4) = some f) ∧ (u.dspLive = true) ∧ (leNat (m.body.drop (m.body.length - 4)) = crc32c (m.body.take (m.body.length - 4)))) ∧
    (∃ (s : State) (m : Msg) (u : State), (s.takeAd TT.streakSet (fun _ => true) = some (m, u)) ∧ (u.dspLive = true)) ∧
    (∃ (s : State) (m : Msg) (u : State), (s.takeAd TT.majorTick (fun _ => true) = some (m, u)) ∧ (u.dspLive = true) ∧ (u.ad.dsp.planOk = true)) :=
  ⟨⟨msgUp openMsg, ((fun (s : State) => ((s.takeAd TT.frameOpen (fun _ => true)).map (·.1)).getD (cfgFw)) (msgUp openMsg)), ((fun (s : State) => ((s.takeAd TT.frameOpen (fun _ => true)).map (·.2)).getD (msgUp openMsg)) (msgUp openMsg)), by decide +kernel⟩,
   ⟨frameUp dataMsg, ((fun (s : State) => ((s.takeAd TT.frameData (fun _ => true)).map (·.1)).getD (cfgFw)) (frameUp dataMsg)), ((fun (s : State) => ((s.takeAd TT.frameData (fun _ => true)).map (·.2)).getD (frameUp dataMsg)) (frameUp dataMsg)), ⟨1, 5, 0, false, [(0, 2)], []⟩, by decide +kernel⟩,
   ⟨(adUp.dspSet fun d => { d with frames := [⟨1, 5, 0, false, [(0, 2)], []⟩] }).silSet fun l => { l with toAd := [trailMsg] }, ((fun (s : State) => ((s.takeAd TT.frameTrailer s.trailerGoes).map (·.1)).getD (cfgFw)) ((adUp.dspSet fun d => { d with frames := [⟨1, 5, 0, false, [(0, 2)], []⟩] }).silSet fun l => { l with toAd := [trailMsg] })), ((fun (s : State) => ((s.takeAd TT.frameTrailer s.trailerGoes).map (·.2)).getD ((adUp.dspSet fun d => { d with frames := [⟨1, 5, 0, false, [(0, 2)], []⟩] }).silSet fun l => { l with toAd := [trailMsg] })) ((adUp.dspSet fun d => { d with frames := [⟨1, 5, 0, false, [(0, 2)], []⟩] }).silSet fun l => { l with toAd := [trailMsg] })), ⟨1, 5, 0, false, [(0, 2)], []⟩, by decide +kernel⟩,
   ⟨msgUp setMsg, ((fun (s : State) => ((s.takeAd TT.streakSet (fun _ => true)).map (·.1)).getD (cfgFw)) (msgUp setMsg)), ((fun (s : State) => ((s.takeAd TT.streakSet (fun _ => true)).map (·.2)).getD (msgUp setMsg)) (msgUp setMsg)), by decide +kernel⟩,
   ⟨msgUp tickMsg, ((fun (s : State) => ((s.takeAd TT.majorTick (fun _ => true)).map (·.1)).getD (cfgFw)) (msgUp tickMsg)), ((fun (s : State) => ((s.takeAd TT.majorTick (fun _ => true)).map (·.2)).getD (msgUp tickMsg)) (msgUp tickMsg)), by decide +kernel⟩⟩

theorem witness_TileSequencer :
    (∃ (s : State) (tile : Fin 16), (s.tileLive tile = true) ∧ (s.tstate tile = tsRun) ∧ ((s.tile tile).disp = false) ∧ ((s.tile tile).halting = false) ∧ (s.getF (R.TL_SEQ_PC tile) < s.progLen tile) ∧ (seqSeam (s.atPc tile) = false ∨ (s.tile tile).seam = true) ∧ (bundleFaults (s.atPc tile) (s.progLen tile) (s.tile tile).loops.length = []) ∧ (s.tokenOk tile (seqCtok (s.atPc tile)) = true) ∧ (seqSop (s.atPc tile) ≠ 5 ∨ (s.tile tile).retired = true) ∧ ((s.tile tile).full (s.atPc tile) = false)) ∧
    (∃ (s : State) (tile : Fin 16), ((s.dispatch tile).tileLive tile = true) ∧ ((s.dispatch tile).tstate tile = tsRun) ∧ (((s.dispatch tile).tile tile).disp = true) ∧ (((s.dispatch tile).tile tile).halting = false) ∧ (seqSop (s.atPc tile) = 0)) ∧
    (∃ (s : State) (tile : Fin 16), ((s.dispatch tile).tileLive tile = true) ∧ ((s.dispatch tile).tstate tile = tsRun) ∧ (((s.dispatch tile).tile tile).disp = true) ∧ (((s.dispatch tile).tile tile).halting = false) ∧ (seqSop (s.atPc tile) = 5)) ∧
    (∃ (s : State) (tile : Fin 16), ((s.dispatch tile).tileLive tile = true) ∧ ((s.dispatch tile).tstate tile = tsRun) ∧ (((s.dispatch tile).tile tile).disp = true) ∧ (((s.dispatch tile).tile tile).halting = false) ∧ (seqSop (s.atPc tile) = 1)) ∧
    (∃ (s : State) (tile : Fin 16) (start : Nat) (n : Nat) (rest : List (Nat × Nat)), ((s.dispatch tile).tileLive tile = true) ∧ ((s.dispatch tile).tstate tile = tsRun) ∧ (((s.dispatch tile).tile tile).disp = true) ∧ (((s.dispatch tile).tile tile).halting = false) ∧ (seqSop (s.atPc tile) = 2) ∧ (((s.dispatch tile).tile tile).loops = (start, n) :: rest)) ∧
    (∃ (s : State) (tile : Fin 16), ((s.dispatch tile).tileLive tile = true) ∧ ((s.dispatch tile).tstate tile = tsRun) ∧ (((s.dispatch tile).tile tile).disp = true) ∧ (((s.dispatch tile).tile tile).halting = false) ∧ (seqSop (s.atPc tile) = 3)) ∧
    (∃ (s : State) (tile : Fin 16), ((s.dispatch tile).tileLive tile = true) ∧ ((s.dispatch tile).tstate tile = tsRun) ∧ (((s.dispatch tile).tile tile).disp = true) ∧ (((s.dispatch tile).tile tile).halting = false) ∧ (seqSop (s.atPc tile) = 4)) ∧
    (∃ (s : State) (tile : Fin 16) (interval : Nat) (drain : Nat) (v : State) (r : TileReq), (s.tileLive tile = true) ∧ (s.tstate tile = tsSeamwait) ∧ ((s.tile tile).drained = true) ∧ (v = ((s.wrapInc (R.TL_SEAMS_COUNT tile)).seamMax (R.TL_SEAMMAX_INTERVAL tile) interval).seamMax (R.TL_SEAMMAX_DRAIN tile) drain) ∧ (interval + drain ≤ 4800) ∧ ((v.tile tile).req = some r)) ∧
    (∃ (s : State) (tile : Fin 16) (interval : Nat) (drain : Nat) (v : State), (s.tileLive tile = true) ∧ (s.tstate tile = tsSeamwait) ∧ ((s.tile tile).drained = true) ∧ (v = ((s.wrapInc (R.TL_SEAMS_COUNT tile)).seamMax (R.TL_SEAMMAX_INTERVAL tile) interval).seamMax (R.TL_SEAMMAX_DRAIN tile) drain) ∧ (interval + drain ≤ 4800) ∧ ((v.tile tile).req = none)) ∧
    (∃ (s : State) (tile : Fin 16) (interval : Nat) (drain : Nat) (v : State), (s.tileLive tile = true) ∧ (s.tstate tile = tsSeamwait) ∧ ((s.tile tile).drained = true) ∧ (v = ((s.wrapInc (R.TL_SEAMS_COUNT tile)).seamMax (R.TL_SEAMMAX_INTERVAL tile) interval).seamMax (R.TL_SEAMMAX_DRAIN tile) drain) ∧ (4800 < interval + drain)) ∧
    (∃ (s : State) (tile : Fin 16), (s.tileLive tile = true) ∧ ((s.tile tile).halting = true) ∧ ((s.tile tile).drained = true)) ∧
    (∃ (s : State) (tile : Fin 16), (s.tileLive tile = true)) :=
  ⟨⟨runUp 0, 0, by decide +kernel⟩,
   ⟨seqUp 0, 0, by decide +kernel⟩,
   ⟨seqUp 5, 0, by decide +kernel⟩,
   ⟨seqUp 1, 0, by decide +kernel⟩,
   ⟨seqUp 2, 0, 0, 3, [], by decide +kernel⟩,
   ⟨seqUp 3, 0, by decide +kernel⟩,
   ⟨seqUp 4, 0, by decide +kernel⟩,
   ⟨((runUp 0).setF (R.TL_SEQ_STATE 0) tsSeamwait).tileSet 0 fun k => { k with req := some ⟨2, 0, 0, 0⟩ }, 0, 9, 9, ((fun (s : State) (tile : Fin 16) (interval : Nat) (drain : Nat) => ((s.wrapInc (R.TL_SEAMS_COUNT tile)).seamMax (R.TL_SEAMMAX_INTERVAL tile) interval).seamMax (R.TL_SEAMMAX_DRAIN tile) drain) (((runUp 0).setF (R.TL_SEQ_STATE 0) tsSeamwait).tileSet 0 fun k => { k with req := some ⟨2, 0, 0, 0⟩ }) (0) (9) (9)), ⟨2, 0, 0, 0⟩, by decide +kernel⟩,
   ⟨(runUp 0).setF (R.TL_SEQ_STATE 0) tsSeamwait, 0, 9, 9, ((fun (s : State) (tile : Fin 16) (interval : Nat) (drain : Nat) => ((s.wrapInc (R.TL_SEAMS_COUNT tile)).seamMax (R.TL_SEAMMAX_INTERVAL tile) interval).seamMax (R.TL_SEAMMAX_DRAIN tile) drain) ((runUp 0).setF (R.TL_SEQ_STATE 0) tsSeamwait) (0) (9) (9)), by decide +kernel⟩,
   ⟨(runUp 0).setF (R.TL_SEQ_STATE 0) tsSeamwait, 0, 4700, 101, ((fun (s : State) (tile : Fin 16) (interval : Nat) (drain : Nat) => ((s.wrapInc (R.TL_SEAMS_COUNT tile)).seamMax (R.TL_SEAMMAX_INTERVAL tile) interval).seamMax (R.TL_SEAMMAX_DRAIN tile) drain) ((runUp 0).setF (R.TL_SEQ_STATE 0) tsSeamwait) (0) (4700) (101)), by decide +kernel⟩,
   ⟨(runUp 0).tileSet 0 (fun k => { k with halting := true }), 0, by decide +kernel⟩,
   ⟨runUp 0, 15, by decide +kernel⟩⟩

theorem witness_TileControl :
    (∃ (s : State) (tile : Fin 16) (bank : Fin 2) (tenant : Fin 16), (s.tileLive tile = true) ∧ ((s.tile tile).req = none) ∧ (s.bankReady tile bank = true) ∧ (bank.val ≠ s.getF (R.TL_SEQ_BANK tile)) ∧ (s.tstate tile = tsRun ∨ s.tstate tile = tsSeamwait)) ∧
    (∃ (s : State) (tile : Fin 16) (reason : Fin 4) (bank : Fin 2) (tenant : Fin 16), (s.tileLive tile = true)) ∧
    (∃ (s : State) (tile : Fin 16) (bank : Nat) (reason : Nat) (tenant : Nat), (s.tileLive tile = true) ∧ (s.due (.swapLimit tile) = true) ∧ ((s.tile tile).req = some ⟨1, bank, reason, tenant⟩) ∧ (s.atSeam tile = false)) ∧
    (∃ (s : State) (tile : Fin 16) (cycles : Nat), (4800 ≤ cycles) ∧ (s.tileLive tile = true) ∧ (s.tstate tile = tsRun ∨ s.tstate tile = tsSeamwait)) ∧
    (∃ (s : State) (tile : Fin 16) (queue : Fin 8) (x : Shift) (l : List Shift), ((s.tile tile).shiftsOf queue = x :: l) ∧ (s.tileLive tile = true) ∧ (x.at_ + 10 * msNs ≤ s.now)) ∧
    (∃ (s : State) (tile : Fin 16), (s.tileLive tile = true) ∧ (s.tstate tile = tsRun ∨ s.tstate tile = tsSeamwait) ∧ ((s.tile tile).cur.all Option.isNone = true) ∧ ((s.tile tile).noShift = true) ∧ (s.headsWait tile = true) ∧ (s.seqWaits tile = true) ∧ ((s.tile tile).retired = false ∨ s.tokenOk tile (seqCtok (s.atPc tile)) = false)) ∧
    (∃ (s : State) (tile : Fin 16) (queue : Fin 8) (peer : Fin 16) (peerQ : Fin 8) (send : Bool), (s.tileLive tile = true)) ∧
    (∃ (s : State) (tile : Fin 16) (bank : Fin 2) (offset : Nat) (data : Word), (s.tileLive tile = true) ∧ (s.bankBusy tile bank = false) ∧ (offset % 65536 % 4 = 0)) :=
  ⟨⟨(runUp 0).setF (R.TL_PBANK_VALID 0 1) 1, 0, 1, 2, by decide +kernel⟩,
   ⟨runUp 0, 0, 3, 1, 2, by decide +kernel⟩,
   ⟨(((runUp 0).tileSet 3 fun t => { t with req := some ⟨1, 1, 0, 2⟩ }).armAt (.swapLimit 3) 0), 3, 1, 0, 2, by decide +kernel⟩,
   ⟨runUp 0, 0, 4800, by decide +kernel⟩,
   ⟨{ stallUp with now := 10000000 }, 0, 7, ⟨2, 0, 0, 0, 1, 0, 3, 4, 0, 0⟩, [], by decide +kernel⟩,
   ⟨(runUp (2 ^ 70)).tileSet 0 (fun k => { k with q := [[⟨2 ^ 22, 0⟩], [], []], halting := true }), 0, by decide +kernel⟩,
   ⟨runUp 0, 0, 0, 0, 0, false, by decide +kernel⟩,
   ⟨runUp 0, 0, 1, 65532, 0, by decide +kernel⟩⟩

theorem witness_MacEngineOps :
    (∃ (s : State) (tile : Fin 16) (engine : Fin 3) (pc : Nat) (w : Nat) (rest : List QOp), (s.engineReady tile engine 0 ⟨w, pc⟩ rest = true)) ∧
    (∃ (s : State) (tile : Fin 16) (pc : Nat) (w : Nat) (rest : List QOp), (s.engineReady tile 0 1 ⟨w, pc⟩ rest = true)) ∧
    (∃ (s : State) (tile : Fin 16) (pc : Nat) (w : Nat) (rest : List QOp), (s.engineReady tile 0 2 ⟨w, pc⟩ rest = true)) ∧
    (∃ (s : State) (tile : Fin 16) (errs : List (Nat × LineErr)) (pc : Nat) (w : Nat) (rest : List QOp) (u : State) (a : Nat) (n : Nat), (s.engineReady tile 0 3 ⟨w, pc⟩ rest = true) ∧ (u = s.engineTaken tile 0 ⟨w, pc⟩ rest) ∧ (a = (u.tile tile).ma.getD (bitsOf w 17 15) 0) ∧ (n = weightLines (u.tile tile).fmt) ∧ (a + n ≤ 24576)) ∧
    (∃ (s : State) (tile : Fin 16) (errs : List (Nat × LineErr)) (pc : Nat) (w : Nat) (rest : List QOp) (u : State) (a : Nat) (n : Nat), (s.engineReady tile 0 3 ⟨w, pc⟩ rest = true) ∧ (u = s.engineTaken tile 0 ⟨w, pc⟩ rest) ∧ (a = (u.tile tile).ma.getD (bitsOf w 17 15) 0) ∧ (n = weightLines (u.tile tile).fmt) ∧ (24576 < a + n)) ∧
    (∃ (s : State) (tile : Fin 16) (pc : Nat) (w : Nat) (rest : List QOp), (s.engineReady tile 0 4 ⟨w, pc⟩ rest = true)) ∧
    (∃ (s : State) (tile : Fin 16) (errs : List (Nat × LineErr)) (pc : Nat) (w : Nat) (rest : List QOp) (u : State), (s.engineReady tile 0 5 ⟨w, pc⟩ rest = true) ∧ (u = s.engineTaken tile 0 ⟨w, pc⟩ rest) ∧ (mmaFault (u.tile tile) w = 0) ∧ ((u.tile tile).spass = false)) ∧
    (∃ (s : State) (tile : Fin 16) (errs : List (Nat × LineErr)) (pc : Nat) (w : Nat) (rest : List QOp) (u : State), (s.engineReady tile 0 5 ⟨w, pc⟩ rest = true) ∧ (u = s.engineTaken tile 0 ⟨w, pc⟩ rest) ∧ (mmaFault (u.tile tile) w ≠ 0)) ∧
    (∃ (s : State) (tile : Fin 16) (pc : Nat) (w : Nat) (rest : List QOp), (s.engineReady tile 0 8 ⟨w, pc⟩ rest = true)) ∧
    (∃ (s : State) (tile : Fin 16) (pc : Nat) (w : Nat) (rest : List QOp), (s.engineReady tile 0 6 ⟨w, pc⟩ rest = true)) ∧
    (∃ (s : State) (tile : Fin 16) (pc : Nat) (w : Nat) (rest : List QOp), (s.engineReady tile 0 7 ⟨w, pc⟩ rest = true)) ∧
    (∃ (s : State) (tile : Fin 16) (engine : Fin 3) (o : QOp), ((s.tile tile).cur.getD engine none = some o) ∧ (s.tileLive tile = true)) :=
  ⟨⟨engUp 2 (0 * 2 ^ 30), 0, 2, 0, 0 * 2 ^ 30, [], by decide +kernel⟩,
   ⟨engUp 0 (1 * 2 ^ 26), 0, 0, 1 * 2 ^ 26, [], by decide +kernel⟩,
   ⟨engUp 0 (2 * 2 ^ 26), 0, 0, 2 * 2 ^ 26, [], by decide +kernel⟩,
   ⟨engUp 0 (3 * 2 ^ 26), 0, [], 0, 3 * 2 ^ 26, [], ((fun (s : State) (tile : Fin 16) (pc : Nat) (w : Nat) (rest : List QOp) => s.engineTaken tile 0 ⟨w, pc⟩ rest) (engUp 0 (3 * 2 ^ 26)) (0) (0) (3 * 2 ^ 26) ([])), ((fun (tile : Fin 16) (w : Nat) (u : State) => (u.tile tile).ma.getD (bitsOf w 17 15) 0) (0) (3 * 2 ^ 26) (((fun (s : State) (tile : Fin 16) (pc : Nat) (w : Nat) (rest : List QOp) => s.engineTaken tile 0 ⟨w, pc⟩ rest) (engUp 0 (3 * 2 ^ 26)) (0) (0) (3 * 2 ^ 26) ([])))), ((fun (tile : Fin 16) (u : State) => weightLines (u.tile tile).fmt) (0) (((fun (s : State) (tile : Fin 16) (pc : Nat) (w : Nat) (rest : List QOp) => s.engineTaken tile 0 ⟨w, pc⟩ rest) (engUp 0 (3 * 2 ^ 26)) (0) (0) (3 * 2 ^ 26) ([])))), by decide +kernel⟩,
   ⟨(engUp 0 (3 * 2 ^ 26)).tileSet 0 (fun k => { k with ma := k.ma.set 0 24576 }), 0, [], 0, 3 * 2 ^ 26, [], ((fun (s : State) (tile : Fin 16) (pc : Nat) (w : Nat) (rest : List QOp) => s.engineTaken tile 0 ⟨w, pc⟩ rest) ((engUp 0 (3 * 2 ^ 26)).tileSet 0 (fun k => { k with ma := k.ma.set 0 24576 })) (0) (0) (3 * 2 ^ 26) ([])), ((fun (tile : Fin 16) (w : Nat) (u : State) => (u.tile tile).ma.getD (bitsOf w 17 15) 0) (0) (3 * 2 ^ 26) (((fun (s : State) (tile : Fin 16) (pc : Nat) (w : Nat) (rest : List QOp) => s.engineTaken tile 0 ⟨w, pc⟩ rest) ((engUp 0 (3 * 2 ^ 26)).tileSet 0 (fun k => { k with ma := k.ma.set 0 24576 })) (0) (0) (3 * 2 ^ 26) ([])))), ((fun (tile : Fin 16) (u : State) => weightLines (u.tile tile).fmt) (0) (((fun (s : State) (tile : Fin 16) (pc : Nat) (w : Nat) (rest : List QOp) => s.engineTaken tile 0 ⟨w, pc⟩ rest) ((engUp 0 (3 * 2 ^ 26)).tileSet 0 (fun k => { k with ma := k.ma.set 0 24576 })) (0) (0) (3 * 2 ^ 26) ([])))), by decide +kernel⟩,
   ⟨engUp 0 (4 * 2 ^ 26), 0, 0, 4 * 2 ^ 26, [], by decide +kernel⟩,
   ⟨engUp 0 (5 * 2 ^ 26 + 2048), 0, [], 0, 5 * 2 ^ 26 + 2048, [], ((fun (s : State) (tile : Fin 16) (pc : Nat) (w : Nat) (rest : List QOp) => s.engineTaken tile 0 ⟨w, pc⟩ rest) (engUp 0 (5 * 2 ^ 26 + 2048)) (0) (0) (5 * 2 ^ 26 + 2048) ([])), by decide +kernel⟩,
   ⟨(engUp 0 (5 * 2 ^ 26 + 2048)).tileSet 0 (fun k => { k with ma := k.ma.set 0 24576 }), 0, [], 0, 5 * 2 ^ 26 + 2048, [], ((fun (s : State) (tile : Fin 16) (pc : Nat) (w : Nat) (rest : List QOp) => s.engineTaken tile 0 ⟨w, pc⟩ rest) ((engUp 0 (5 * 2 ^ 26 + 2048)).tileSet 0 (fun k => { k with ma := k.ma.set 0 24576 })) (0) (0) (5 * 2 ^ 26 + 2048) ([])), by decide +kernel⟩,
   ⟨engUp 0 (8 * 2 ^ 26), 0, 0, 8 * 2 ^ 26, [], by decide +kernel⟩,
   ⟨engUp 0 (6 * 2 ^ 26), 0, 0, 6 * 2 ^ 26, [], by decide +kernel⟩,
   ⟨engUp 0 (7 * 2 ^ 26), 0, 0, 7 * 2 ^ 26, [], by decide +kernel⟩,
   ⟨(engUp 1 0).tileSet 0 (fun k => { k with cur := [none, none, some ⟨3, 0⟩] }), 0, 2, ((fun (s : State) (tile : Fin 16) (engine : Fin 3) => ((s.tile tile).cur.getD engine none).getD (⟨0, 0⟩)) ((engUp 1 0).tileSet 0 (fun k => { k with cur := [none, none, some ⟨3, 0⟩] })) (0) (2)), by decide +kernel⟩⟩

theorem witness_VectorArithmetic :
    (∃ (s : State) (tile : Fin 16) (pc : Nat) (w : Nat) (rest : List QOp) (u : State), (u = s.engineTaken tile 1 ⟨w, pc⟩ rest) ∧ (s.engineReady tile 1 1 ⟨w, pc⟩ rest = true)) ∧
    (∃ (s : State) (tile : Fin 16) (pc : Nat) (w : Nat) (rest : List QOp) (u : State), (u = s.engineTaken tile 1 ⟨w, pc⟩ rest) ∧ (s.engineReady tile 1 2 ⟨w, pc⟩ rest = true)) ∧
    (∃ (s : State) (tile : Fin 16) (pc : Nat) (w : Nat) (rest : List QOp) (u : State), (u = s.engineTaken tile 1 ⟨w, pc⟩ rest) ∧ (s.engineReady tile 1 3 ⟨w, pc⟩ rest = true)) ∧
    (∃ (s : State) (tile : Fin 16) (pc : Nat) (w : Nat) (rest : List QOp) (u : State), (u = s.engineTaken tile 1 ⟨w, pc⟩ rest) ∧ (s.engineReady tile 1 4 ⟨w, pc⟩ rest = true)) ∧
    (∃ (s : State) (tile : Fin 16) (pc : Nat) (w : Nat) (rest : List QOp) (u : State), (u = s.engineTaken tile 1 ⟨w, pc⟩ rest) ∧ (s.engineReady tile 1 7 ⟨w, pc⟩ rest = true)) ∧
    (∃ (s : State) (tile : Fin 16) (pc : Nat) (w : Nat) (rest : List QOp) (u : State), (u = s.engineTaken tile 1 ⟨w, pc⟩ rest) ∧ (s.engineReady tile 1 5 ⟨w, pc⟩ rest = true)) ∧
    (∃ (s : State) (tile : Fin 16) (pc : Nat) (w : Nat) (rest : List QOp), (s.engineReady tile 1 6 ⟨w, pc⟩ rest = true)) ∧
    (∃ (s : State) (tile : Fin 16) (pc : Nat) (w : Nat) (rest : List QOp), (s.engineReady tile 1 8 ⟨w, pc⟩ rest = true)) ∧
    (∃ (s : State) (tile : Fin 16) (pc : Nat) (w : Nat) (rest : List QOp), (s.engineReady tile 1 15 ⟨w, pc⟩ rest = true)) :=
  ⟨⟨engUp 1 (1 * 2 ^ 30), 0, 0, 1 * 2 ^ 30, [], ((fun (s : State) (tile : Fin 16) (pc : Nat) (w : Nat) (rest : List QOp) => s.engineTaken tile 1 ⟨w, pc⟩ rest) (engUp 1 (1 * 2 ^ 30)) (0) (0) (1 * 2 ^ 30) ([])), by decide +kernel⟩,
   ⟨engUp 1 (2 * 2 ^ 30), 0, 0, 2 * 2 ^ 30, [], ((fun (s : State) (tile : Fin 16) (pc : Nat) (w : Nat) (rest : List QOp) => s.engineTaken tile 1 ⟨w, pc⟩ rest) (engUp 1 (2 * 2 ^ 30)) (0) (0) (2 * 2 ^ 30) ([])), by decide +kernel⟩,
   ⟨engUp 1 (3 * 2 ^ 30), 0, 0, 3 * 2 ^ 30, [], ((fun (s : State) (tile : Fin 16) (pc : Nat) (w : Nat) (rest : List QOp) => s.engineTaken tile 1 ⟨w, pc⟩ rest) (engUp 1 (3 * 2 ^ 30)) (0) (0) (3 * 2 ^ 30) ([])), by decide +kernel⟩,
   ⟨engUp 1 (4 * 2 ^ 30), 0, 0, 4 * 2 ^ 30, [], ((fun (s : State) (tile : Fin 16) (pc : Nat) (w : Nat) (rest : List QOp) => s.engineTaken tile 1 ⟨w, pc⟩ rest) (engUp 1 (4 * 2 ^ 30)) (0) (0) (4 * 2 ^ 30) ([])), by decide +kernel⟩,
   ⟨engUp 1 (7 * 2 ^ 30), 0, 0, 7 * 2 ^ 30, [], ((fun (s : State) (tile : Fin 16) (pc : Nat) (w : Nat) (rest : List QOp) => s.engineTaken tile 1 ⟨w, pc⟩ rest) (engUp 1 (7 * 2 ^ 30)) (0) (0) (7 * 2 ^ 30) ([])), by decide +kernel⟩,
   ⟨engUp 1 (5 * 2 ^ 30), 0, 0, 5 * 2 ^ 30, [], ((fun (s : State) (tile : Fin 16) (pc : Nat) (w : Nat) (rest : List QOp) => s.engineTaken tile 1 ⟨w, pc⟩ rest) (engUp 1 (5 * 2 ^ 30)) (0) (0) (5 * 2 ^ 30) ([])), by decide +kernel⟩,
   ⟨engUp 1 (6 * 2 ^ 30), 0, 0, 6 * 2 ^ 30, [], by decide +kernel⟩,
   ⟨engUp 1 (8 * 2 ^ 30), 0, 0, 8 * 2 ^ 30, [], by decide +kernel⟩,
   ⟨engUp 1 (15 * 2 ^ 30), 0, 0, 15 * 2 ^ 30, [], by decide +kernel⟩⟩

theorem witness_VectorTransfers :
    (∃ (s : State) (tile : Fin 16) (errs : List (Nat × LineErr)) (pc : Nat) (w : Nat) (rest : List QOp), (s.engineReady tile 1 9 ⟨w, pc⟩ rest = true) ∧ ((s.engineTaken tile 1 ⟨w, pc⟩ rest).vaReg tile (bitsOf w 16 14) / 512 ≤ 44)) ∧
    (∃ (s : State) (tile : Fin 16) (pc : Nat) (w : Nat) (rest : List QOp), (s.engineReady tile 1 10 ⟨w, pc⟩ rest = true) ∧ ((s.engineTaken tile 1 ⟨w, pc⟩ rest).vaReg tile (bitsOf w 16 14) / 512 ≤ 44)) ∧
    (∃ (s : State) (tile : Fin 16) (errs : List (Nat × LineErr)) (pc : Nat) (w : Nat) (rest : List QOp) (a : Nat) (e : Nat) (j : Nat) (n : Nat), (s.engineReady tile 1 11 ⟨w, pc⟩ rest = true) ∧ (a = (s.engineTaken tile 1 ⟨w, pc⟩ rest).vaReg tile (bitsOf w 16 14)) ∧ (e = 1 + bitsOf w 13 13) ∧ (j = bitsOf w 12 7) ∧ (n = 4 / e) ∧ (a % 512 + 64 ≤ 512) ∧ (j % n = 0) ∧ (j + n ≤ 64 / e) ∧ (a + 64 ≤ 24576)) ∧
    (∃ (s : State) (tile : Fin 16) (pc : Nat) (w : Nat) (rest : List QOp) (u : State), (s.engineReady tile 1 12 ⟨w, pc⟩ rest = true) ∧ (u = s.engineTaken tile 1 ⟨w, pc⟩ rest) ∧ (u.accFault tile (bitsOf w 16 14) (bitsOf w 6 6) (w.testBit 7) = false) ∧ (w.testBit 7 = false) ∧ (u.bankFmt tile (bitsOf w 16 14) < 2)) ∧
    (∃ (s : State) (tile : Fin 16) (pc : Nat) (w : Nat) (rest : List QOp) (u : State), (s.engineReady tile 1 13 ⟨w, pc⟩ rest = true) ∧ (u = s.engineTaken tile 1 ⟨w, pc⟩ rest) ∧ (u.accFault tile (bitsOf w 16 14) (bitsOf w 6 6) (w.testBit 7) = false) ∧ (w.testBit 7 = false)) ∧
    (∃ (s : State) (tile : Fin 16) (errs : List (Nat × LineErr)) (pc : Nat) (w : Nat) (rest : List QOp), (s.engineReady tile 1 14 ⟨w, pc⟩ rest = true) ∧ ((s.engineTaken tile 1 ⟨w, pc⟩ rest).vaReg tile (bitsOf w 16 14) % 512 + 8 ≤ 512)) ∧
    (∃ (s : State) (tile : Fin 16) (pc : Nat) (w : Nat) (rest : List QOp) (u : State), (u = s.engineTaken tile 1 ⟨w, pc⟩ rest) ∧ (s.engineReady tile 1 16 ⟨w, pc⟩ rest = true)) ∧
    (∃ (s : State) (tile : Fin 16) (pc : Nat) (w : Nat) (rest : List QOp) (u : State), (u = s.engineTaken tile 1 ⟨w, pc⟩ rest) ∧ (s.engineReady tile 1 17 ⟨w, pc⟩ rest = true)) :=
  ⟨⟨engUp 1 (9 * 2 ^ 30), 0, [], 0, 9 * 2 ^ 30, [], by decide +kernel⟩,
   ⟨engUp 1 (10 * 2 ^ 30), 0, 0, 10 * 2 ^ 30, [], by decide +kernel⟩,
   ⟨engUp 1 (11 * 2 ^ 30), 0, [], 0, 11 * 2 ^ 30, [], 0, 1, 0, 4, by decide +kernel⟩,
   ⟨accUp (12 * 2 ^ 30), 0, 0, 12 * 2 ^ 30, [], ((fun (s : State) (tile : Fin 16) (pc : Nat) (w : Nat) (rest : List QOp) => s.engineTaken tile 1 ⟨w, pc⟩ rest) (accUp (12 * 2 ^ 30)) (0) (0) (12 * 2 ^ 30) ([])), by decide +kernel⟩,
   ⟨accUp (13 * 2 ^ 30), 0, 0, 13 * 2 ^ 30, [], ((fun (s : State) (tile : Fin 16) (pc : Nat) (w : Nat) (rest : List QOp) => s.engineTaken tile 1 ⟨w, pc⟩ rest) (accUp (13 * 2 ^ 30)) (0) (0) (13 * 2 ^ 30) ([])), by decide +kernel⟩,
   ⟨engUp 1 (14 * 2 ^ 30), 0, [], 0, 14 * 2 ^ 30, [], by decide +kernel⟩,
   ⟨engUp 1 (16 * 2 ^ 30), 0, 0, 16 * 2 ^ 30, [], ((fun (s : State) (tile : Fin 16) (pc : Nat) (w : Nat) (rest : List QOp) => s.engineTaken tile 1 ⟨w, pc⟩ rest) (engUp 1 (16 * 2 ^ 30)) (0) (0) (16 * 2 ^ 30) ([])), by decide +kernel⟩,
   ⟨engUp 1 (17 * 2 ^ 30), 0, 0, 17 * 2 ^ 30, [], ((fun (s : State) (tile : Fin 16) (pc : Nat) (w : Nat) (rest : List QOp) => s.engineTaken tile 1 ⟨w, pc⟩ rest) (engUp 1 (17 * 2 ^ 30)) (0) (0) (17 * 2 ^ 30) ([])), by decide +kernel⟩⟩

theorem witness_MoveEngineOps :
    (∃ (s : State) (tile : Fin 16) (pc : Nat) (w : Nat) (rest : List QOp), (s.engineReady tile 2 1 ⟨w, pc⟩ rest = true)) ∧
    (∃ (s : State) (tile : Fin 16) (pc : Nat) (w : Nat) (rest : List QOp) (u : State), (u = s.engineTaken tile 2 ⟨w, pc⟩ rest) ∧ (shiftRoom tile w s = true) ∧ (s.engineReady tile 2 2 ⟨w, pc⟩ rest = true)) ∧
    (∃ (s : State) (tile : Fin 16) (pc : Nat) (w : Nat) (rest : List QOp) (u : State), (u = s.engineTaken tile 2 ⟨w, pc⟩ rest) ∧ (shiftRoom tile w s = true) ∧ (s.engineReady tile 2 3 ⟨w, pc⟩ rest = true)) ∧
    (∃ (s : State) (tile : Fin 16) (pc : Nat) (w : Nat) (rest : List QOp) (u : State), (u = s.engineTaken tile 2 ⟨w, pc⟩ rest) ∧ (shiftRoom tile w s = true) ∧ (s.engineReady tile 2 4 ⟨w, pc⟩ rest = true)) ∧
    (∃ (s : State) (tile : Fin 16) (pc : Nat) (w : Nat) (rest : List QOp) (u : State), (u = s.engineTaken tile 2 ⟨w, pc⟩ rest) ∧ (shiftRoom tile w s = true) ∧ (s.engineReady tile 2 5 ⟨w, pc⟩ rest = true)) ∧
    (∃ (s : State) (tile : Fin 16) (pc : Nat) (w : Nat) (rest : List QOp), (s.engineReady tile 2 6 ⟨w, pc⟩ rest = true) ∧ ((if w.testBit 18 then (s.tile tile).noShift else ((s.tile tile).shiftsOf (bitsOf w 21 19)).isEmpty) = true)) ∧
    (∃ (s : State) (tile : Fin 16) (queue : Fin 8) (count : Nat) (errs : List (Nat × BeatErr)) (h : Shift) (v : State), (s.headShift tile queue = some h) ∧ (s.tileLive tile = true) ∧ ((h.kind = 3 ∧ errs.any (fun e => e.2 == .overrun) = true) ∨ (2 ≤ h.kind ∧ s.peerForeign tile queue h = true))) ∧
    (∃ (s : State) (tile : Fin 16) (queue : Fin 8) (count : Nat) (errs : List (Nat × BeatErr)) (h : Shift) (v : State) (g : Shift), (s.headShift tile queue = some h) ∧ (s.tileLive tile = true) ∧ (h.kind ≠ 3 ∨ errs.any (fun e => e.2 == .overrun) = false) ∧ (h.kind < 2 ∨ s.peerForeign tile queue h = false) ∧ (v = if 2 ≤ h.kind then State.movePeer count 0 errs s tile queue else if h.addr.testBit 47 then State.moveLines count 0 errs s tile queue else s) ∧ (v.headShift tile queue = some g) ∧ (v.shiftOver tile queue g = true)) ∧
    (∃ (s : State) (tile : Fin 16) (queue : Fin 8) (count : Nat) (errs : List (Nat × BeatErr)) (h : Shift) (v : State) (g : Shift), (s.headShift tile queue = some h) ∧ (s.tileLive tile = true) ∧ (h.kind ≠ 3 ∨ errs.any (fun e => e.2 == .overrun) = false) ∧ (h.kind < 2 ∨ s.peerForeign tile queue h = false) ∧ (v = if 2 ≤ h.kind then State.movePeer count 0 errs s tile queue else if h.addr.testBit 47 then State.moveLines count 0 errs s tile queue else s) ∧ (v.headShift tile queue = some g) ∧ (v.shiftOver tile queue g = false)) ∧
    (∃ (s : State) (err : Option BeatErr) (t : Nat) (q : Nat) (x : Shift) (u : State), (s.adLive = true) ∧ (s.isSet R.MC_TRAIN_DONE = true) ∧ (u = s.forN 16 fun n s => s.refill n) ∧ (u.grantee = some (t, q, x))) :=
  ⟨⟨engUp 2 (1 * 2 ^ 30), 0, 0, 1 * 2 ^ 30, [], by decide +kernel⟩,
   ⟨engUp 2 (2 * 2 ^ 30), 0, 0, 2 * 2 ^ 30, [], ((fun (s : State) (tile : Fin 16) (pc : Nat) (w : Nat) (rest : List QOp) => s.engineTaken tile 2 ⟨w, pc⟩ rest) (engUp 2 (2 * 2 ^ 30)) (0) (0) (2 * 2 ^ 30) ([])), by decide +kernel⟩,
   ⟨engUp 2 (3 * 2 ^ 30), 0, 0, 3 * 2 ^ 30, [], ((fun (s : State) (tile : Fin 16) (pc : Nat) (w : Nat) (rest : List QOp) => s.engineTaken tile 2 ⟨w, pc⟩ rest) (engUp 2 (3 * 2 ^ 30)) (0) (0) (3 * 2 ^ 30) ([])), by decide +kernel⟩,
   ⟨engUp 2 (4 * 2 ^ 30), 0, 0, 4 * 2 ^ 30, [], ((fun (s : State) (tile : Fin 16) (pc : Nat) (w : Nat) (rest : List QOp) => s.engineTaken tile 2 ⟨w, pc⟩ rest) (engUp 2 (4 * 2 ^ 30)) (0) (0) (4 * 2 ^ 30) ([])), by decide +kernel⟩,
   ⟨engUp 2 (5 * 2 ^ 30), 0, 0, 5 * 2 ^ 30, [], ((fun (s : State) (tile : Fin 16) (pc : Nat) (w : Nat) (rest : List QOp) => s.engineTaken tile 2 ⟨w, pc⟩ rest) (engUp 2 (5 * 2 ^ 30)) (0) (0) (5 * 2 ^ 30) ([])), by decide +kernel⟩,
   ⟨engUp 2 (6 * 2 ^ 30 + 2 ^ 18), 0, 0, 6 * 2 ^ 30 + 2 ^ 18, [], by decide +kernel⟩,
   ⟨(runUp 0).tileSet 0 fun k => setShifts k 7 [⟨3, 0, 0, 0, 1, 0, 3, 4, 0, 0⟩], 0, 7, 1, [(0, .overrun)], ((fun (s : State) (tile : Fin 16) (queue : Fin 8) => (s.headShift tile queue).getD (⟨2, 0, 0, 0, 1, 0, 3, 4, 0, 0⟩)) ((runUp 0).tileSet 0 fun k => setShifts k 7 [⟨3, 0, 0, 0, 1, 0, 3, 4, 0, 0⟩]) (0) (7)), (runUp 0).tileSet 0 fun k => setShifts k 7 [⟨3, 0, 0, 0, 1, 0, 3, 4, 0, 0⟩], by decide +kernel⟩,
   ⟨(runUp 0).tileSet 0 fun k => setShifts k 7 [⟨2, 0, 0, 0, 1, 1, 3, 4, 0, 0⟩], 0, 7, 1, [], ((fun (s : State) (tile : Fin 16) (queue : Fin 8) => (s.headShift tile queue).getD (⟨2, 0, 0, 0, 1, 0, 3, 4, 0, 0⟩)) ((runUp 0).tileSet 0 fun k => setShifts k 7 [⟨2, 0, 0, 0, 1, 1, 3, 4, 0, 0⟩]) (0) (7)), ((fun (s : State) (tile : Fin 16) (queue : Fin 8) (count : Nat) (errs : List (Nat × BeatErr)) (h : Shift) => if 2 ≤ h.kind then State.movePeer count 0 errs s tile queue else if h.addr.testBit 47 then State.moveLines count 0 errs s tile queue else s) ((runUp 0).tileSet 0 fun k => setShifts k 7 [⟨2, 0, 0, 0, 1, 1, 3, 4, 0, 0⟩]) (0) (7) (1) ([]) (((fun (s : State) (tile : Fin 16) (queue : Fin 8) => (s.headShift tile queue).getD (⟨2, 0, 0, 0, 1, 0, 3, 4, 0, 0⟩)) ((runUp 0).tileSet 0 fun k => setShifts k 7 [⟨2, 0, 0, 0, 1, 1, 3, 4, 0, 0⟩]) (0) (7)))), ((fun (tile : Fin 16) (queue : Fin 8) (v : State) => (v.headShift tile queue).getD (⟨2, 0, 0, 0, 1, 0, 3, 4, 0, 0⟩)) (0) (7) (((fun (s : State) (tile : Fin 16) (queue : Fin 8) (count : Nat) (errs : List (Nat × BeatErr)) (h : Shift) => if 2 ≤ h.kind then State.movePeer count 0 errs s tile queue else if h.addr.testBit 47 then State.moveLines count 0 errs s tile queue else s) ((runUp 0).tileSet 0 fun k => setShifts k 7 [⟨2, 0, 0, 0, 1, 1, 3, 4, 0, 0⟩]) (0) (7) (1) ([]) (((fun (s : State) (tile : Fin 16) (queue : Fin 8) => (s.headShift tile queue).getD (⟨2, 0, 0, 0, 1, 0, 3, 4, 0, 0⟩)) ((runUp 0).tileSet 0 fun k => setShifts k 7 [⟨2, 0, 0, 0, 1, 1, 3, 4, 0, 0⟩]) (0) (7)))))), by decide +kernel⟩,
   ⟨stallUp, 0, 7, 1, [], ((fun (s : State) (tile : Fin 16) (queue : Fin 8) => (s.headShift tile queue).getD (⟨2, 0, 0, 0, 1, 0, 3, 4, 0, 0⟩)) (stallUp) (0) (7)), ((fun (s : State) (tile : Fin 16) (queue : Fin 8) (count : Nat) (errs : List (Nat × BeatErr)) (h : Shift) => if 2 ≤ h.kind then State.movePeer count 0 errs s tile queue else if h.addr.testBit 47 then State.moveLines count 0 errs s tile queue else s) (stallUp) (0) (7) (1) ([]) (((fun (s : State) (tile : Fin 16) (queue : Fin 8) => (s.headShift tile queue).getD (⟨2, 0, 0, 0, 1, 0, 3, 4, 0, 0⟩)) (stallUp) (0) (7)))), ((fun (tile : Fin 16) (queue : Fin 8) (v : State) => (v.headShift tile queue).getD (⟨2, 0, 0, 0, 1, 0, 3, 4, 0, 0⟩)) (0) (7) (((fun (s : State) (tile : Fin 16) (queue : Fin 8) (count : Nat) (errs : List (Nat × BeatErr)) (h : Shift) => if 2 ≤ h.kind then State.movePeer count 0 errs s tile queue else if h.addr.testBit 47 then State.moveLines count 0 errs s tile queue else s) (stallUp) (0) (7) (1) ([]) (((fun (s : State) (tile : Fin 16) (queue : Fin 8) => (s.headShift tile queue).getD (⟨2, 0, 0, 0, 1, 0, 3, 4, 0, 0⟩)) (stallUp) (0) (7)))))), by decide +kernel⟩,
   ⟨grantUp, none, 0, 1, ⟨0, 0, 0, 0, 1, 0, 0, 0, 0, 0⟩, ((fun (s : State) => s.forN 16 fun n s => s.refill n) (grantUp)), by decide +kernel⟩⟩

theorem witness_SillTraining :
    (∃ (s : State), (s.on Dom.sill = true) ∧ (s.on Dom.adCtl = true) ∧ (s.linkState = 0)) ∧
    (∃ (s : State), (s.training = true) ∧ (s.sil.step = 1)) ∧
    (∃ (s : State) (l : List (Option (Nat × List Byte))), (s.training = true) ∧ (s.sil.step = 2) ∧ (s.inTime 3 = true) ∧ (s.linkState = 1)) ∧
    (∃ (s : State) (b : List Byte), (s.training = true) ∧ (s.sil.step = 3)) ∧
    (∃ (s : State) (step : Fin 5) (d : Nat), (s.linkState = 1) ∧ (s.deadline .trainStep = some d) ∧ (s.sil.step < 2 + step.val) ∧ (d + 10 * usNs * (step.val + 1) ≤ s.now + trainNs)) ∧
    (∃ (s : State) (step : Fin 5) (d : Nat), (s.linkState = 1) ∧ (s.due .trainRetry = true)) ∧
    (∃ (s : State), (s.linkState = 1) ∧ (s.sil.step = 5) ∧ (s.armed .trainStep = true) ∧ (s.due .trainStep = false)) ∧
    (∃ (s : State), (s.sil.fast = true) ∧ (s.armed .trainStep = true) ∧ (s.now ≤ (s.deadline .trainStep).getD 0) ∧ (s.sil.step = 5)) ∧
    (∃ (s : State), (s.sil.fast = true) ∧ (s.armed .trainStep = true) ∧ ((s.deadline .trainStep).getD 0 < s.now)) ∧
    (∃ (s : State) (headers : List (List Nat)), (s.on Dom.sill = true) ∧ (s.getF R.SIL_STATUS_LANES = 1) ∧ ((List.range 8).any (lockLost headers) = true)) ∧
    (∃ (s : State) (headers : List (List Nat)), (s.on Dom.sill = true) ∧ (s.getF R.SIL_STATUS_LANES = 2) ∧ ([0, 1, 2, 3].any (lockLost headers) = true)) ∧
    (∃ (s : State) (headers : List (List Nat)), (s.on Dom.sill = true) ∧ (s.getF R.SIL_STATUS_LANES = 3) ∧ ([4, 5, 6, 7].any (lockLost headers) = true)) ∧
    (∃ (s : State) (headers : List (List Nat)), (s.on Dom.sill = true) ∧ (s.linkState ≠ 0)) :=
  ⟨⟨up, by decide +kernel⟩,
   ⟨(up.setF R.SIL_STATUS_STATE 1).silSet fun l => { l with step := 1 }, by decide +kernel⟩,
   ⟨(up.setF R.SIL_STATUS_STATE 1).silSet fun l => { l with step := 2 }, [], by decide +kernel⟩,
   ⟨(up.setF R.SIL_STATUS_STATE 1).silSet fun l => { l with step := 3 }, [], by decide +kernel⟩,
   ⟨{ (up.setF R.SIL_STATUS_STATE 1).armAt .trainStep trainNs with now := trainNs }, 4, ((fun (s : State) => (s.deadline .trainStep).getD (0)) ({ (up.setF R.SIL_STATUS_STATE 1).armAt .trainStep trainNs with now := trainNs })), by decide +kernel⟩,
   ⟨(up.setF R.SIL_STATUS_STATE 1).armAt .trainRetry 0, 4, 0, by decide +kernel⟩,
   ⟨((up.setF R.SIL_STATUS_STATE 1).silSet fun l => { l with step := 5 }).armAt .trainStep 9, by decide +kernel⟩,
   ⟨((linked).silSet fun l => { l with fast := true, step := 5 }).armAt .trainStep 9, by decide +kernel⟩,
   ⟨{ ((linked).silSet fun l => { l with fast := true, step := 5 }).armAt .trainStep 9 with now := 10 }, by decide +kernel⟩,
   ⟨linked.setF R.SIL_STATUS_LANES 1, List.replicate 16 (List.replicate 8 0), by decide +kernel⟩,
   ⟨linked.setF R.SIL_STATUS_LANES 2, List.replicate 16 (List.replicate 8 0), by decide +kernel⟩,
   ⟨linked.setF R.SIL_STATUS_LANES 3, List.replicate 16 (List.replicate 8 0), by decide +kernel⟩,
   ⟨linked, [], by decide +kernel⟩⟩

theorem witness_SillTraffic :
    (∃ (s : State) (ad : Bool) (headers : List (List Nat)) (flit : List Byte) (f : Flit) (d : Nat), (s.linkActive = true) ∧ (ad = true → s.sil.wireAd ≠ []) ∧ (f = { flitOf flit with good := (flitOf flit).good && headers.all fun h => rowKind h == .data }) ∧ (d = (f.seq + 1024 - ((s.offWire ad).link ad).rxExp) % 1024) ∧ (f.good = false) ∧ (f.ft = 2)) ∧
    (∃ (s : State) (ad : Bool) (headers : List (List Nat)) (flit : List Byte) (f : Flit) (d : Nat), (s.linkActive = true) ∧ (ad = true → s.sil.wireAd ≠ []) ∧ (f = { flitOf flit with good := (flitOf flit).good && headers.all fun h => rowKind h == .data }) ∧ (d = (f.seq + 1024 - ((s.offWire ad).link ad).rxExp) % 1024) ∧ (f.good = false) ∧ (f.ft = 0)) ∧
    (∃ (s : State) (ad : Bool) (headers : List (List Nat)) (flit : List Byte) (f : Flit) (d : Nat), (s.linkActive = true) ∧ (ad = true → s.sil.wireAd ≠ []) ∧ (f = { flitOf flit with good := (flitOf flit).good && headers.all fun h => rowKind h == .data }) ∧ (d = (f.seq + 1024 - ((s.offWire ad).link ad).rxExp) % 1024) ∧ (f.good = true) ∧ (f.ft = 2)) ∧
    (∃ (s : State) (ad : Bool) (headers : List (List Nat)) (flit : List Byte) (f : Flit) (d : Nat), (s.linkActive = true) ∧ (ad = true → s.sil.wireAd ≠ []) ∧ (f = { flitOf flit with good := (flitOf flit).good && headers.all fun h => rowKind h == .data }) ∧ (d = (f.seq + 1024 - ((s.offWire ad).link ad).rxExp) % 1024) ∧ (f.good = true) ∧ (f.ft = 3) ∧ (ad = false)) ∧
    (∃ (s : State) (ad : Bool) (headers : List (List Nat)) (flit : List Byte) (f : Flit) (d : Nat), (s.linkActive = true) ∧ (ad = true → s.sil.wireAd ≠ []) ∧ (f = { flitOf flit with good := (flitOf flit).good && headers.all fun h => rowKind h == .data }) ∧ (d = (f.seq + 1024 - ((s.offWire ad).link ad).rxExp) % 1024) ∧ (f.good = true) ∧ (f.ft = 0) ∧ (d = 0) ∧ (ad = false)) ∧
    (∃ (s : State) (ad : Bool) (headers : List (List Nat)) (flit : List Byte) (f : Flit) (d : Nat), (s.linkActive = true) ∧ (ad = true → s.sil.wireAd ≠ []) ∧ (f = { flitOf flit with good := (flitOf flit).good && headers.all fun h => rowKind h == .data }) ∧ (d = (f.seq + 1024 - ((s.offWire ad).link ad).rxExp) % 1024) ∧ (f.good = true) ∧ (f.ft = 0) ∧ (d = 0) ∧ (ad = true)) ∧
    (∃ (s : State) (ad : Bool) (headers : List (List Nat)) (flit : List Byte) (f : Flit) (d : Nat), (s.linkActive = true) ∧ (ad = true → s.sil.wireAd ≠ []) ∧ (f = { flitOf flit with good := (flitOf flit).good && headers.all fun h => rowKind h == .data }) ∧ (d = (f.seq + 1024 - ((s.offWire ad).link ad).rxExp) % 1024) ∧ (f.good = true) ∧ (f.ft = 0) ∧ (d ≠ 0) ∧ (d ≤ 511)) ∧
    (∃ (s : State) (ad : Bool) (headers : List (List Nat)) (flit : List Byte) (f : Flit) (d : Nat), (s.linkActive = true) ∧ (ad = true → s.sil.wireAd ≠ []) ∧ (f = { flitOf flit with good := (flitOf flit).good && headers.all fun h => rowKind h == .data }) ∧ (d = (f.seq + 1024 - ((s.offWire ad).link ad).rxExp) % 1024) ∧ (f.good = true) ∧ (f.ft = 0) ∧ (511 < d)) ∧
    (∃ (s : State) (ad : Bool) (flit : List Byte), (s.linkActive = true) ∧ (ad = true → s.sil.wireAd ≠ []) ∧ ((flitOf flit).good = false)) ∧
    (∃ (s : State) (ad : Bool) (flit : List Byte), (s.linkActive = true) ∧ (ad = true → s.sil.wireAd ≠ []) ∧ ((flitOf flit).good = true) ∧ ((flitOf flit).ft = 1) ∧ (byteAt (flitOf flit).pay 12 = 0)) ∧
    (∃ (s : State) (ad : Bool) (flit : List Byte), (s.linkActive = true) ∧ (ad = true → s.sil.wireAd ≠ []) ∧ ((flitOf flit).good = true) ∧ ((flitOf flit).ft = 1) ∧ (byteAt (flitOf flit).pay 12 = 1) ∧ (ad = false)) ∧
    (∃ (s : State) (ad : Bool), (s.linkActive = true) ∧ (s.due (.ackTimer ad) = true)) ∧
    (∃ (s : State) (ad : Bool) (q : Nat) (m : List Byte) (l : List (Nat × List Byte)), (s.linkActive = true) ∧ ((s.link ad).replay = (q, m) :: l) ∧ (s.due (.replay ad) = true)) ∧
    (∃ (s : State) (m : Msg) (u : State), (s.takeAd TT.nakMsg (fun _ => true) = some (m, u))) ∧
    (∃ (s : State) (q : Nat) (u : State) (v : State) (d : Nat), (s.isSet R.SYS_ADLOAD_DONE = true) ∧ (s.isSet R.MC_TRAIN_DONE = true) ∧ (s.takeCd (mgmt TT.ready 0 []) = some (q, u)) ∧ (u.isSet R.SIL_STATUS_READY = false) ∧ (v = ((u.setF R.SIL_STATUS_READY 1).flag R.SIL_INT_READY).silSet (fun l => { l with readyAt := some u.now })) ∧ (v.deadline .ready = some d)) ∧
    (∃ (s : State) (q : Nat) (u : State) (v : State), (s.isSet R.SYS_ADLOAD_DONE = true) ∧ (s.isSet R.MC_TRAIN_DONE = true) ∧ (s.takeCd (mgmt TT.ready 0 []) = some (q, u)) ∧ (u.isSet R.SIL_STATUS_READY = false) ∧ (v = ((u.setF R.SIL_STATUS_READY 1).flag R.SIL_INT_READY).silSet (fun l => { l with readyAt := some u.now })) ∧ (v.deadline .ready = none) ∧ (v.cil.apply = none)) ∧
    (∃ (s : State) (q : Nat) (u : State) (v : State) (a : Apply), (s.isSet R.SYS_ADLOAD_DONE = true) ∧ (s.isSet R.MC_TRAIN_DONE = true) ∧ (s.takeCd (mgmt TT.ready 0 []) = some (q, u)) ∧ (u.isSet R.SIL_STATUS_READY = false) ∧ (v = ((u.setF R.SIL_STATUS_READY 1).flag R.SIL_INT_READY).silSet (fun l => { l with readyAt := some u.now })) ∧ (v.deadline .ready = none) ∧ (v.cil.apply = some a)) ∧
    (∃ (s : State) (d : Nat) (u : State), (s.deadline .ready = some d) ∧ (d < s.now) ∧ (u = (s.disarm .ready).raiseInt Ev.PMU_AD_NOREADY R.PMU_INT_NOREADY) ∧ (u.pmu.trans = none)) ∧
    (∃ (s : State) (d : Nat) (u : State) (t : Trans), (s.deadline .ready = some d) ∧ (d < s.now) ∧ (u = (s.disarm .ready).raiseInt Ev.PMU_AD_NOREADY R.PMU_INT_NOREADY) ∧ (u.pmu.trans = some t)) ∧
    (∃ (s : State) (tag : Fin 65536) (status : Fin 256) (reason : Fin 256) (q : Nat) (u : State), (s.takeCd (mgmt TT.configAck tag (leBytes 1 status.val ++ leBytes 1 reason.val ++ leBytes 6 0)) = some (q, u)) ∧ (tag.val = 0xFFFF) ∧ (u.isSet R.SYS_ADLOAD_DONE = false)) ∧
    (∃ (s : State) (tag : Fin 65536) (status : Fin 256) (reason : Fin 256) (q : Nat) (u : State) (a : Apply), (s.takeCd (mgmt TT.configAck tag (leBytes 1 status.val ++ leBytes 1 reason.val ++ leBytes 6 0)) = some (q, u)) ∧ (tag.val = 0xFFFF) ∧ (u.isSet R.SYS_ADLOAD_DONE = true) ∧ (u.cil.apply = some a) ∧ (a.step = 7) ∧ (a.acked = none) ∧ (u.adPart a = true)) ∧
    (∃ (s : State) (tag : Fin 65536) (status : Fin 256) (reason : Fin 256) (q : Nat) (u : State), (s.takeCd (mgmt TT.configAck tag (leBytes 1 status.val ++ leBytes 1 reason.val ++ leBytes 6 0)) = some (q, u)) ∧ (tag.val = 0xFFFF) ∧ (u.isSet R.SYS_ADLOAD_DONE = true) ∧ (u.cil.apply = none)) ∧
    (∃ (s : State) (tag : Fin 65536) (status : Fin 256) (reason : Fin 256) (q : Nat) (u : State) (d : Dvfs), (s.takeCd (mgmt TT.configAck tag (leBytes 1 status.val ++ leBytes 1 reason.val ++ leBytes 6 0)) = some (q, u)) ∧ (tag.val ≠ 0xFFFF) ∧ (u.pmu.dvfs = some d) ∧ (d.phase = 1) ∧ (d.tag = tag.val)) ∧
    (∃ (s : State) (tag : Fin 65536) (status : Fin 256) (reason : Fin 256) (q : Nat) (u : State), (s.takeCd (mgmt TT.configAck tag (leBytes 1 status.val ++ leBytes 1 reason.val ++ leBytes 6 0)) = some (q, u)) ∧ (tag.val ≠ 0xFFFF) ∧ (u.pmu.dvfs = none)) ∧
    (∃ (s : State) (body : List Byte) (q : Nat) (u : State), (s.takeCd (mgmt TT.event 0 (padTo 32 body)) = some (q, u))) :=
  ⟨⟨linked, false, [], flit0 32768 [] true, ((fun (headers : List (List Nat)) (flit : List Byte) => { flitOf flit with good := (flitOf flit).good && headers.all fun h => rowKind h == .data }) ([]) (flit0 32768 [] true)), ((fun (s : State) (ad : Bool) (f : Flit) => (f.seq + 1024 - ((s.offWire ad).link ad).rxExp) % 1024) (linked) (false) (((fun (headers : List (List Nat)) (flit : List Byte) => { flitOf flit with good := (flitOf flit).good && headers.all fun h => rowKind h == .data }) ([]) (flit0 32768 [] true)))), by decide +kernel⟩,
   ⟨linked, false, [], flit0 0 [] true, ((fun (headers : List (List Nat)) (flit : List Byte) => { flitOf flit with good := (flitOf flit).good && headers.all fun h => rowKind h == .data }) ([]) (flit0 0 [] true)), ((fun (s : State) (ad : Bool) (f : Flit) => (f.seq + 1024 - ((s.offWire ad).link ad).rxExp) % 1024) (linked) (false) (((fun (headers : List (List Nat)) (flit : List Byte) => { flitOf flit with good := (flitOf flit).good && headers.all fun h => rowKind h == .data }) ([]) (flit0 0 [] true)))), by decide +kernel⟩,
   ⟨linked, false, [], flit0 32768 [] false, ((fun (headers : List (List Nat)) (flit : List Byte) => { flitOf flit with good := (flitOf flit).good && headers.all fun h => rowKind h == .data }) ([]) (flit0 32768 [] false)), ((fun (s : State) (ad : Bool) (f : Flit) => (f.seq + 1024 - ((s.offWire ad).link ad).rxExp) % 1024) (linked) (false) (((fun (headers : List (List Nat)) (flit : List Byte) => { flitOf flit with good := (flitOf flit).good && headers.all fun h => rowKind h == .data }) ([]) (flit0 32768 [] false)))), by decide +kernel⟩,
   ⟨linked, false, [], flit0 49152 [] false, ((fun (headers : List (List Nat)) (flit : List Byte) => { flitOf flit with good := (flitOf flit).good && headers.all fun h => rowKind h == .data }) ([]) (flit0 49152 [] false)), ((fun (s : State) (ad : Bool) (f : Flit) => (f.seq + 1024 - ((s.offWire ad).link ad).rxExp) % 1024) (linked) (false) (((fun (headers : List (List Nat)) (flit : List Byte) => { flitOf flit with good := (flitOf flit).good && headers.all fun h => rowKind h == .data }) ([]) (flit0 49152 [] false)))), by decide +kernel⟩,
   ⟨linked, false, [], flit0 0 [] false, ((fun (headers : List (List Nat)) (flit : List Byte) => { flitOf flit with good := (flitOf flit).good && headers.all fun h => rowKind h == .data }) ([]) (flit0 0 [] false)), ((fun (s : State) (ad : Bool) (f : Flit) => (f.seq + 1024 - ((s.offWire ad).link ad).rxExp) % 1024) (linked) (false) (((fun (headers : List (List Nat)) (flit : List Byte) => { flitOf flit with good := (flitOf flit).good && headers.all fun h => rowKind h == .data }) ([]) (flit0 0 [] false)))), by decide +kernel⟩,
   ⟨wired, true, [], flit0 0 [] false, ((fun (headers : List (List Nat)) (flit : List Byte) => { flitOf flit with good := (flitOf flit).good && headers.all fun h => rowKind h == .data }) ([]) (flit0 0 [] false)), ((fun (s : State) (ad : Bool) (f : Flit) => (f.seq + 1024 - ((s.offWire ad).link ad).rxExp) % 1024) (wired) (true) (((fun (headers : List (List Nat)) (flit : List Byte) => { flitOf flit with good := (flitOf flit).good && headers.all fun h => rowKind h == .data }) ([]) (flit0 0 [] false)))), by decide +kernel⟩,
   ⟨linked, false, [], flit0 5 [] false, ((fun (headers : List (List Nat)) (flit : List Byte) => { flitOf flit with good := (flitOf flit).good && headers.all fun h => rowKind h == .data }) ([]) (flit0 5 [] false)), ((fun (s : State) (ad : Bool) (f : Flit) => (f.seq + 1024 - ((s.offWire ad).link ad).rxExp) % 1024) (linked) (false) (((fun (headers : List (List Nat)) (flit : List Byte) => { flitOf flit with good := (flitOf flit).good && headers.all fun h => rowKind h == .data }) ([]) (flit0 5 [] false)))), by decide +kernel⟩,
   ⟨linked, false, [], flit0 600 [] false, ((fun (headers : List (List Nat)) (flit : List Byte) => { flitOf flit with good := (flitOf flit).good && headers.all fun h => rowKind h == .data }) ([]) (flit0 600 [] false)), ((fun (s : State) (ad : Bool) (f : Flit) => (f.seq + 1024 - ((s.offWire ad).link ad).rxExp) % 1024) (linked) (false) (((fun (headers : List (List Nat)) (flit : List Byte) => { flitOf flit with good := (flitOf flit).good && headers.all fun h => rowKind h == .data }) ([]) (flit0 600 [] false)))), by decide +kernel⟩,
   ⟨wired, true, flit0 0 [] true, by decide +kernel⟩,
   ⟨linked, ((fun (s : State) => true → s.sil.wireAd ≠ []) (linked)), lcFlit, by decide +kernel⟩,
   ⟨linked, false, flit0 16384 (leBytes 12 0 ++ [1]) false, by decide +kernel⟩,
   ⟨linked.armAt (.ackTimer false) 0, false, by decide +kernel⟩,
   ⟨(linked.silSet fun l => { l with cd := { l.cd with replay := [(0, [])] } }).armAt (.replay false) 0, false, 0, [], [], by decide +kernel⟩,
   ⟨msgUp ⟨0, TT.nakMsg, noTenant, 0, 0, []⟩, ((fun (s : State) => ((s.takeAd TT.nakMsg (fun _ => true)).map (·.1)).getD (cfgFw)) (msgUp ⟨0, TT.nakMsg, noTenant, 0, 0, []⟩)), ((fun (s : State) => ((s.takeAd TT.nakMsg (fun _ => true)).map (·.2)).getD (msgUp ⟨0, TT.nakMsg, noTenant, 0, 0, []⟩)) (msgUp ⟨0, TT.nakMsg, noTenant, 0, 0, []⟩)), by decide +kernel⟩,
   ⟨fromAd 0 TT.ready (((linked.setF R.SYS_ADLOAD_DONE 1).setF R.MC_TRAIN_DONE 1).armAt .ready 5), ((fun (s : State) => ((s.takeCd (mgmt TT.ready 0 [])).map (·.1)).getD (0)) (fromAd 0 TT.ready (((linked.setF R.SYS_ADLOAD_DONE 1).setF R.MC_TRAIN_DONE 1).armAt .ready 5))), ((fun (s : State) => ((s.takeCd (mgmt TT.ready 0 [])).map (·.2)).getD (fromAd 0 TT.ready (((linked.setF R.SYS_ADLOAD_DONE 1).setF R.MC_TRAIN_DONE 1).armAt .ready 5))) (fromAd 0 TT.ready (((linked.setF R.SYS_ADLOAD_DONE 1).setF R.MC_TRAIN_DONE 1).armAt .ready 5))), ((fun (u : State) => ((u.setF R.SIL_STATUS_READY 1).flag R.SIL_INT_READY).silSet (fun l => { l with readyAt := some u.now })) (((fun (s : State) => ((s.takeCd (mgmt TT.ready 0 [])).map (·.2)).getD (fromAd 0 TT.ready (((linked.setF R.SYS_ADLOAD_DONE 1).setF R.MC_TRAIN_DONE 1).armAt .ready 5))) (fromAd 0 TT.ready (((linked.setF R.SYS_ADLOAD_DONE 1).setF R.MC_TRAIN_DONE 1).armAt .ready 5))))), ((fun (v : State) => (v.deadline .ready).getD (0)) (((fun (u : State) => ((u.setF R.SIL_STATUS_READY 1).flag R.SIL_INT_READY).silSet (fun l => { l with readyAt := some u.now })) (((fun (s : State) => ((s.takeCd (mgmt TT.ready 0 [])).map (·.2)).getD (fromAd 0 TT.ready (((linked.setF R.SYS_ADLOAD_DONE 1).setF R.MC_TRAIN_DONE 1).armAt .ready 5))) (fromAd 0 TT.ready (((linked.setF R.SYS_ADLOAD_DONE 1).setF R.MC_TRAIN_DONE 1).armAt .ready 5))))))), by decide +kernel⟩,
   ⟨fromAd 0 TT.ready (((linked.setF R.SYS_ADLOAD_DONE 1).setF R.MC_TRAIN_DONE 1)), ((fun (s : State) => ((s.takeCd (mgmt TT.ready 0 [])).map (·.1)).getD (0)) (fromAd 0 TT.ready (((linked.setF R.SYS_ADLOAD_DONE 1).setF R.MC_TRAIN_DONE 1)))), ((fun (s : State) => ((s.takeCd (mgmt TT.ready 0 [])).map (·.2)).getD (fromAd 0 TT.ready (((linked.setF R.SYS_ADLOAD_DONE 1).setF R.MC_TRAIN_DONE 1)))) (fromAd 0 TT.ready (((linked.setF R.SYS_ADLOAD_DONE 1).setF R.MC_TRAIN_DONE 1)))), ((fun (u : State) => ((u.setF R.SIL_STATUS_READY 1).flag R.SIL_INT_READY).silSet (fun l => { l with readyAt := some u.now })) (((fun (s : State) => ((s.takeCd (mgmt TT.ready 0 [])).map (·.2)).getD (fromAd 0 TT.ready (((linked.setF R.SYS_ADLOAD_DONE 1).setF R.MC_TRAIN_DONE 1)))) (fromAd 0 TT.ready (((linked.setF R.SYS_ADLOAD_DONE 1).setF R.MC_TRAIN_DONE 1)))))), by decide +kernel⟩,
   ⟨fromAd 0 TT.ready ({ ((linked.setF R.SYS_ADLOAD_DONE 1).setF R.MC_TRAIN_DONE 1) with cil := { CilState.init with apply := some (applyAt 6) } }), ((fun (s : State) => ((s.takeCd (mgmt TT.ready 0 [])).map (·.1)).getD (0)) (fromAd 0 TT.ready ({ ((linked.setF R.SYS_ADLOAD_DONE 1).setF R.MC_TRAIN_DONE 1) with cil := { CilState.init with apply := some (applyAt 6) } }))), ((fun (s : State) => ((s.takeCd (mgmt TT.ready 0 [])).map (·.2)).getD (fromAd 0 TT.ready ({ ((linked.setF R.SYS_ADLOAD_DONE 1).setF R.MC_TRAIN_DONE 1) with cil := { CilState.init with apply := some (applyAt 6) } }))) (fromAd 0 TT.ready ({ ((linked.setF R.SYS_ADLOAD_DONE 1).setF R.MC_TRAIN_DONE 1) with cil := { CilState.init with apply := some (applyAt 6) } }))), ((fun (u : State) => ((u.setF R.SIL_STATUS_READY 1).flag R.SIL_INT_READY).silSet (fun l => { l with readyAt := some u.now })) (((fun (s : State) => ((s.takeCd (mgmt TT.ready 0 [])).map (·.2)).getD (fromAd 0 TT.ready ({ ((linked.setF R.SYS_ADLOAD_DONE 1).setF R.MC_TRAIN_DONE 1) with cil := { CilState.init with apply := some (applyAt 6) } }))) (fromAd 0 TT.ready ({ ((linked.setF R.SYS_ADLOAD_DONE 1).setF R.MC_TRAIN_DONE 1) with cil := { CilState.init with apply := some (applyAt 6) } }))))), ((fun (v : State) => (v.cil.apply).getD ((applyAt 2))) (((fun (u : State) => ((u.setF R.SIL_STATUS_READY 1).flag R.SIL_INT_READY).silSet (fun l => { l with readyAt := some u.now })) (((fun (s : State) => ((s.takeCd (mgmt TT.ready 0 [])).map (·.2)).getD (fromAd 0 TT.ready ({ ((linked.setF R.SYS_ADLOAD_DONE 1).setF R.MC_TRAIN_DONE 1) with cil := { CilState.init with apply := some (applyAt 6) } }))) (fromAd 0 TT.ready ({ ((linked.setF R.SYS_ADLOAD_DONE 1).setF R.MC_TRAIN_DONE 1) with cil := { CilState.init with apply := some (applyAt 6) } }))))))), by decide +kernel⟩,
   ⟨{ up.armAt .ready 5 with now := 9 }, ((fun (s : State) => (s.deadline .ready).getD (0)) ({ up.armAt .ready 5 with now := 9 })), ((fun (s : State) => (s.disarm .ready).raiseInt Ev.PMU_AD_NOREADY R.PMU_INT_NOREADY) ({ up.armAt .ready 5 with now := 9 })), by decide +kernel⟩,
   ⟨{ (up.pmuSet fun p => { p with trans := some ⟨2, false, [], [], false, []⟩ }).armAt .ready 5 with now := 9 }, ((fun (s : State) => (s.deadline .ready).getD (0)) ({ (up.pmuSet fun p => { p with trans := some ⟨2, false, [], [], false, []⟩ }).armAt .ready 5 with now := 9 })), ((fun (s : State) => (s.disarm .ready).raiseInt Ev.PMU_AD_NOREADY R.PMU_INT_NOREADY) ({ (up.pmuSet fun p => { p with trans := some ⟨2, false, [], [], false, []⟩ }).armAt .ready 5 with now := 9 })), ((fun (u : State) => (u.pmu.trans).getD (⟨1, false, [1], [0], false, []⟩)) (((fun (s : State) => (s.disarm .ready).raiseInt Ev.PMU_AD_NOREADY R.PMU_INT_NOREADY) ({ (up.pmuSet fun p => { p with trans := some ⟨2, false, [], [], false, []⟩ }).armAt .ready 5 with now := 9 })))), by decide +kernel⟩,
   ⟨fromAd 0 TT.configAck (linked), 65535, 0, 0, ((fun (s : State) (tag : Fin 65536) (status : Fin 256) (reason : Fin 256) => ((s.takeCd (mgmt TT.configAck tag (leBytes 1 status.val ++ leBytes 1 reason.val ++ leBytes 6 0))).map (·.1)).getD (0)) (fromAd 0 TT.configAck (linked)) (65535) (0) (0)), ((fun (s : State) (tag : Fin 65536) (status : Fin 256) (reason : Fin 256) => ((s.takeCd (mgmt TT.configAck tag (leBytes 1 status.val ++ leBytes 1 reason.val ++ leBytes 6 0))).map (·.2)).getD (fromAd 0 TT.configAck (linked))) (fromAd 0 TT.configAck (linked)) (65535) (0) (0)), by decide +kernel⟩,
   ⟨fromAd 0 TT.configAck (planWait), 65535, 0, 0, ((fun (s : State) (tag : Fin 65536) (status : Fin 256) (reason : Fin 256) => ((s.takeCd (mgmt TT.configAck tag (leBytes 1 status.val ++ leBytes 1 reason.val ++ leBytes 6 0))).map (·.1)).getD (0)) (fromAd 0 TT.configAck (planWait)) (65535) (0) (0)), ((fun (s : State) (tag : Fin 65536) (status : Fin 256) (reason : Fin 256) => ((s.takeCd (mgmt TT.configAck tag (leBytes 1 status.val ++ leBytes 1 reason.val ++ leBytes 6 0))).map (·.2)).getD (fromAd 0 TT.configAck (planWait))) (fromAd 0 TT.configAck (planWait)) (65535) (0) (0)), ((fun (u : State) => (u.cil.apply).getD ((applyAt 2))) (((fun (s : State) (tag : Fin 65536) (status : Fin 256) (reason : Fin 256) => ((s.takeCd (mgmt TT.configAck tag (leBytes 1 status.val ++ leBytes 1 reason.val ++ leBytes 6 0))).map (·.2)).getD (fromAd 0 TT.configAck (planWait))) (fromAd 0 TT.configAck (planWait)) (65535) (0) (0)))), by decide +kernel⟩,
   ⟨fromAd 0 TT.configAck (linked.setF R.SYS_ADLOAD_DONE 1), 65535, 0, 0, ((fun (s : State) (tag : Fin 65536) (status : Fin 256) (reason : Fin 256) => ((s.takeCd (mgmt TT.configAck tag (leBytes 1 status.val ++ leBytes 1 reason.val ++ leBytes 6 0))).map (·.1)).getD (0)) (fromAd 0 TT.configAck (linked.setF R.SYS_ADLOAD_DONE 1)) (65535) (0) (0)), ((fun (s : State) (tag : Fin 65536) (status : Fin 256) (reason : Fin 256) => ((s.takeCd (mgmt TT.configAck tag (leBytes 1 status.val ++ leBytes 1 reason.val ++ leBytes 6 0))).map (·.2)).getD (fromAd 0 TT.configAck (linked.setF R.SYS_ADLOAD_DONE 1))) (fromAd 0 TT.configAck (linked.setF R.SYS_ADLOAD_DONE 1)) (65535) (0) (0)), by decide +kernel⟩,
   ⟨fromAd 0 TT.configAck (changing), 3, 0, 0, ((fun (s : State) (tag : Fin 65536) (status : Fin 256) (reason : Fin 256) => ((s.takeCd (mgmt TT.configAck tag (leBytes 1 status.val ++ leBytes 1 reason.val ++ leBytes 6 0))).map (·.1)).getD (0)) (fromAd 0 TT.configAck (changing)) (3) (0) (0)), ((fun (s : State) (tag : Fin 65536) (status : Fin 256) (reason : Fin 256) => ((s.takeCd (mgmt TT.configAck tag (leBytes 1 status.val ++ leBytes 1 reason.val ++ leBytes 6 0))).map (·.2)).getD (fromAd 0 TT.configAck (changing))) (fromAd 0 TT.configAck (changing)) (3) (0) (0)), ((fun (u : State) => (u.pmu.dvfs).getD (dvfs0)) (((fun (s : State) (tag : Fin 65536) (status : Fin 256) (reason : Fin 256) => ((s.takeCd (mgmt TT.configAck tag (leBytes 1 status.val ++ leBytes 1 reason.val ++ leBytes 6 0))).map (·.2)).getD (fromAd 0 TT.configAck (changing))) (fromAd 0 TT.configAck (changing)) (3) (0) (0)))), by decide +kernel⟩,
   ⟨fromAd 0 TT.configAck (linked), 3, 0, 0, ((fun (s : State) (tag : Fin 65536) (status : Fin 256) (reason : Fin 256) => ((s.takeCd (mgmt TT.configAck tag (leBytes 1 status.val ++ leBytes 1 reason.val ++ leBytes 6 0))).map (·.1)).getD (0)) (fromAd 0 TT.configAck (linked)) (3) (0) (0)), ((fun (s : State) (tag : Fin 65536) (status : Fin 256) (reason : Fin 256) => ((s.takeCd (mgmt TT.configAck tag (leBytes 1 status.val ++ leBytes 1 reason.val ++ leBytes 6 0))).map (·.2)).getD (fromAd 0 TT.configAck (linked))) (fromAd 0 TT.configAck (linked)) (3) (0) (0)), by decide +kernel⟩,
   ⟨fromAd 0 TT.event (linked), [], ((fun (s : State) (body : List Byte) => ((s.takeCd (mgmt TT.event 0 (padTo 32 body))).map (·.1)).getD (0)) (fromAd 0 TT.event (linked)) ([])), ((fun (s : State) (body : List Byte) => ((s.takeCd (mgmt TT.event 0 (padTo 32 body))).map (·.2)).getD (fromAd 0 TT.event (linked))) (fromAd 0 TT.event (linked)) ([])), by decide +kernel⟩⟩

theorem witness_SillPowerStates :
    (∃ (s : State), (s.mayEnter = true) ∧ (s.sil.cd.replay = []) ∧ (s.sil.ad.replay = []) ∧ (s.sil.cd.txq = []) ∧ (s.sil.idleAt + s.getF R.SIL_PM_DOZE_IDLE_US * usNs ≤ s.now)) ∧
    (∃ (s : State) (m : Msg) (q : Nat) (u : State) (target : Fin 256), (s.linkActive = true) ∧ (s.takeAd TT.pmEnter (fun _ => true) = some (m, u)) ∧ (u.adLive = true)) ∧
    (∃ (s : State) (m : Msg) (q : Nat) (u : State) (target : Fin 256), (s.linkActive = true) ∧ (s.takeCd (mgmt TT.pmAck 0 (leBytes 8 target.val)) = some (q, u)) ∧ (u.sil.pmTarget ≠ 0) ∧ (u.sil.pmAcked = false)) ∧
    (∃ (s : State) (m : Msg) (q : Nat) (u : State) (target : Fin 256), (s.linkActive = true) ∧ (s.sil.pmTarget ≠ 0) ∧ (s.due .pmAck = true)) ∧
    (∃ (s : State), (s.linkActive = true) ∧ (s.sil.pmTarget ≠ 0) ∧ (s.sil.pmAcked = true) ∧ (s.sil.cd.replay = []) ∧ (s.sil.ad.replay = [])) ∧
    (∃ (s : State), (s.on Dom.sill = true) ∧ ((s.answer .ok).mayEnter = true)) ∧
    (∃ (s : State), (s.on Dom.sill = true) ∧ ((s.answer .ok).mayEnter = false) ∧ (s.linkActive = true) ∧ (s.sil.pmTarget = 1)) ∧
    (∃ (s : State), (s.on Dom.sill = true) ∧ ((s.answer .ok).mayEnter = false) ∧ (s.linkState = 3) ∧ (s.sil.resumeAt = none)) ∧
    (∃ (s : State), (s.on Dom.sill = true) ∧ ((s.answer .ok).mayEnter = false) ∧ (s.linkState = 3) ∧ (s.sil.resumeAt ≠ none)) ∧
    (∃ (s : State), (s.on Dom.sill = true) ∧ ((s.answer .ok).mayEnter = false) ∧ (s.linkState = 2) ∧ (s.sil.pmTarget ≠ 1)) ∧
    (∃ (s : State), (s.linkState = 3) ∧ (s.sil.resumeAt = none) ∧ (s.getF R.SIL_PM_SLEEP_AFTER_US ≠ 0) ∧ (s.sil.restAt + s.getF R.SIL_PM_SLEEP_AFTER_US * usNs ≤ s.now)) ∧
    (∃ (s : State), (s.on Dom.sill = true) ∧ (2 ≤ s.linkState) ∧ (s.linkState ≠ 5)) ∧
    (∃ (s : State), (s.linkState = 3 ∨ (s.linkState = 4 ∧ s.sil.step = 5)) ∧ (s.sil.resumeAt.isSome = true ∨ (s.sil.cause || s.sil.woken (s.sil.resumeAt.getD s.now)) = true)) ∧
    (∃ (s : State) (m : Msg) (u : State) (release : Bool), (s.takeAd TT.resumeAck (fun _ => true) = some (m, u))) ∧
    (∃ (s : State) (m : Msg) (u : State) (release : Bool), (s.linkState = 2) ∧ (s.due .wakeHeld = true)) ∧
    (∃ (s : State) (req : Option (Bool × Word × Word)) (m : Msg) (q : Nat) (u : State) (status : Fin 256) (data : Word), (s.on Dom.sill = true) ∧ (s.keyOpen 8 = true) ∧ (s.isSet R.SIL_DBG_EN = false)) ∧
    (∃ (s : State) (req : Option (Bool × Word × Word)) (m : Msg) (q : Nat) (u : State) (status : Fin 256) (data : Word), (s.on Dom.sill = true) ∧ (s.keyOpen 8 = true) ∧ (s.isSet R.SIL_DBG_EN = true)) ∧
    (∃ (s : State) (req : Option (Bool × Word × Word)) (m : Msg) (q : Nat) (u : State) (status : Fin 256) (data : Word) (write : Bool) (addr : Word) (data : Word), (req = some (write, addr, data)) ∧ (s.isSet R.SIL_DBG_EN = true) ∧ (s.on Dom.sill = true) ∧ ((s.sendAd (mgmt TT.debug 0 (leBytes 1 (if write then 1 else 0) ++ leBytes 3 0 ++ leBytes 4 addr.toNat ++ leBytes 4 data.toNat))).takeAd TT.debug (fun _ => true) = none)) ∧
    (∃ (s : State) (req : Option (Bool × Word × Word)) (m : Msg) (q : Nat) (u : State) (status : Fin 256) (data : Word), (s.takeAd TT.debug (fun _ => true) = some (m, u)) ∧ (u.adLive = true)) ∧
    (∃ (s : State) (req : Option (Bool × Word × Word)) (m : Msg) (q : Nat) (u : State) (status : Fin 256) (data : Word), (s.takeCd ⟨0, TT.debugRsp, noTenant, 0, 0, leBytes 1 status.val ++ leBytes 3 0 ++ leBytes 4 data.toNat⟩ = some (q, u))) :=
  ⟨⟨{ (linked.setF R.SIL_PM_DOZE_IDLE_US 1).setF R.SIL_STATUS_READY 1 with now := 1000000 }, by decide +kernel⟩,
   ⟨adLinked (pmMsg TT.pmEnter), ((fun (s : State) => ((s.takeAd TT.pmEnter (fun _ => true)).map (·.1)).getD (cfgFw)) (adLinked (pmMsg TT.pmEnter))), 0, ((fun (s : State) => ((s.takeAd TT.pmEnter (fun _ => true)).map (·.2)).getD (adLinked (pmMsg TT.pmEnter))) (adLinked (pmMsg TT.pmEnter))), 1, by decide +kernel⟩,
   ⟨fromAd 0 TT.pmAck ((linked).silSet fun l => { l with pmTarget := 1 }), cfgFw, ((fun (s : State) (target : Fin 256) => ((s.takeCd (mgmt TT.pmAck 0 (leBytes 8 target.val))).map (·.1)).getD (0)) (fromAd 0 TT.pmAck ((linked).silSet fun l => { l with pmTarget := 1 })) (255)), ((fun (s : State) (target : Fin 256) => ((s.takeCd (mgmt TT.pmAck 0 (leBytes 8 target.val))).map (·.2)).getD (fromAd 0 TT.pmAck ((linked).silSet fun l => { l with pmTarget := 1 }))) (fromAd 0 TT.pmAck ((linked).silSet fun l => { l with pmTarget := 1 })) (255)), 255, by decide +kernel⟩,
   ⟨(linked.silSet fun l => { l with pmTarget := 1, pmAcked := false }).armAt .pmAck 0, cfgFw, 0, (linked.silSet fun l => { l with pmTarget := 1, pmAcked := false }).armAt .pmAck 0, 1, by decide +kernel⟩,
   ⟨linked.silSet fun l => { l with pmTarget := 2, pmAcked := true }, by decide +kernel⟩,
   ⟨linked, by decide +kernel⟩,
   ⟨(linked).silSet fun l => { l with pmTarget := 1 }, by decide +kernel⟩,
   ⟨up.setF R.SIL_STATUS_STATE 3, by decide +kernel⟩,
   ⟨(up.setF R.SIL_STATUS_STATE 3).silSet fun l => { l with resumeAt := some 0 }, by decide +kernel⟩,
   ⟨(linked).silSet fun l => { l with awaitAck := true }, by decide +kernel⟩,
   ⟨{ (up.setF R.SIL_STATUS_STATE 3).setF R.SIL_PM_SLEEP_AFTER_US 10 with now := 10000 }, by decide +kernel⟩,
   ⟨linked, by decide +kernel⟩,
   ⟨(linked.setF R.SIL_STATUS_STATE 4).silSet fun l => { l with resumeAt := some 0, step := 5 }, by decide +kernel⟩,
   ⟨adLinked (pmMsg TT.resumeAck), ((fun (s : State) => ((s.takeAd TT.resumeAck (fun _ => true)).map (·.1)).getD (cfgFw)) (adLinked (pmMsg TT.resumeAck))), ((fun (s : State) => ((s.takeAd TT.resumeAck (fun _ => true)).map (·.2)).getD (adLinked (pmMsg TT.resumeAck))) (adLinked (pmMsg TT.resumeAck))), true, by decide +kernel⟩,
   ⟨linked.armAt .wakeHeld 0, cfgFw, linked.armAt .wakeHeld 0, true, by decide +kernel⟩,
   ⟨linked.setBitF R.LCK_KEYST_OPEN 8 true, none, cfgFw, 0, linked.setBitF R.LCK_KEYST_OPEN 8 true, 0, 0, by decide +kernel⟩,
   ⟨(linked.setBitF R.LCK_KEYST_OPEN 8 true).setF R.SIL_DBG_EN 1, none, cfgFw, 0, (linked.setBitF R.LCK_KEYST_OPEN 8 true).setF R.SIL_DBG_EN 1, 0, 0, by decide +kernel⟩,
   ⟨linked.setF R.SIL_DBG_EN 1, ((fun (data : Word) (write : Bool) (addr : Word) (data : Word) => some (write, addr, data)) (0) (true) (0x38) (0)), cfgFw, 0, linked.setF R.SIL_DBG_EN 1, 0, 0, true, 0x38, 0, by decide +kernel⟩,
   ⟨adLinked ⟨0, TT.debug, noTenant, 0, 0, leBytes 12 0⟩, none, ((fun (s : State) => ((s.takeAd TT.debug (fun _ => true)).map (·.1)).getD (cfgFw)) (adLinked ⟨0, TT.debug, noTenant, 0, 0, leBytes 12 0⟩)), 0, ((fun (s : State) => ((s.takeAd TT.debug (fun _ => true)).map (·.2)).getD (adLinked ⟨0, TT.debug, noTenant, 0, 0, leBytes 12 0⟩)) (adLinked ⟨0, TT.debug, noTenant, 0, 0, leBytes 12 0⟩)), 0, 0, by decide +kernel⟩,
   ⟨fromAd 0 TT.debugRsp (linked), none, cfgFw, ((fun (s : State) (status : Fin 256) (data : Word) => ((s.takeCd ⟨0, TT.debugRsp, noTenant, 0, 0, leBytes 1 status.val ++ leBytes 3 0 ++ leBytes 4 data.toNat⟩).map (·.1)).getD (0)) (fromAd 0 TT.debugRsp (linked)) (0) (0)), ((fun (s : State) (status : Fin 256) (data : Word) => ((s.takeCd ⟨0, TT.debugRsp, noTenant, 0, 0, leBytes 1 status.val ++ leBytes 3 0 ++ leBytes 4 data.toNat⟩).map (·.2)).getD (fromAd 0 TT.debugRsp (linked))) (fromAd 0 TT.debugRsp (linked)) (0) (0)), 0, 0, by decide +kernel⟩⟩

theorem witness_FlintAndIngress :
    (∃ (s : State) (rx : Fin 2) (vc : Fin 16) (lanes : LaneNote) (hdr : HdrEcc) (u : State), (s.rxOn rx = true) ∧ (u = s.rxLanes rx lanes) ∧ (hdr = .bad)) ∧
    (∃ (s : State) (rx : Fin 2) (vc : Fin 16) (lanes : LaneNote) (hdr : HdrEcc) (u : State), (s.rxOn rx = true) ∧ (u = s.rxLanes rx lanes) ∧ (hdr ≠ .bad) ∧ (u.frameOn rx vc = none) ∧ (u.camOn rx vc = none)) ∧
    (∃ (s : State) (rx : Fin 2) (vc : Fin 16) (lanes : LaneNote) (hdr : HdrEcc) (u : State) (c : Nat), (s.rxOn rx = true) ∧ (u = s.rxLanes rx lanes) ∧ (hdr ≠ .bad) ∧ (u.frameOn rx vc = none) ∧ (u.camOn rx vc = some c)) ∧
    (∃ (s : State) (rx : Fin 2) (vc : Fin 16) (lanes : LaneNote) (hdr : HdrEcc) (u : State) (e : Nat) (c : Nat) (v : State), (s.rxOn rx = true) ∧ (u = s.rxLanes rx lanes) ∧ (hdr ≠ .bad) ∧ (u.frameOn rx vc = some e) ∧ (v = u.closeFrame e (if u.due (.fto e) then 5 else 4) false) ∧ (v.camOn rx vc = some c)) ∧
    (∃ (s : State) (rx : Fin 2) (vc : Fin 16) (lanes : LaneNote) (hdr : HdrEcc) (u : State) (e : Nat) (v : State), (s.rxOn rx = true) ∧ (u = s.rxLanes rx lanes) ∧ (hdr ≠ .bad) ∧ (u.frameOn rx vc = some e) ∧ (v = u.closeFrame e (if u.due (.fto e) then 5 else 4) false) ∧ (v.camOn rx vc = none)) ∧
    (∃ (s : State) (rx : Fin 2) (vc : Fin 16) (lanes : LaneNote) (hdr : HdrEcc) (dtype : Nat) (payload : List Byte) (crcOk : Bool) (u : State), (s.rxOn rx = true) ∧ (u = s.rxLanes rx lanes) ∧ (hdr = .bad)) ∧
    (∃ (s : State) (rx : Fin 2) (vc : Fin 16) (lanes : LaneNote) (hdr : HdrEcc) (dtype : Nat) (payload : List Byte) (crcOk : Bool) (u : State), (s.rxOn rx = true) ∧ (u = s.rxLanes rx lanes) ∧ (hdr ≠ .bad) ∧ ((u.frameOn rx vc).or (u.camOn rx vc) = none)) ∧
    (∃ (s : State) (rx : Fin 2) (vc : Fin 16) (lanes : LaneNote) (hdr : HdrEcc) (dtype : Nat) (payload : List Byte) (crcOk : Bool) (u : State) (c : Nat), (s.rxOn rx = true) ∧ (u = s.rxLanes rx lanes) ∧ (hdr ≠ .bad) ∧ ((u.frameOn rx vc).or (u.camOn rx vc) = some c) ∧ (dtype = 2 ∨ dtype = 3)) ∧
    (∃ (s : State) (rx : Fin 2) (vc : Fin 16) (lanes : LaneNote) (hdr : HdrEcc) (dtype : Nat) (payload : List Byte) (crcOk : Bool) (u : State) (c : Nat), (s.rxOn rx = true) ∧ (u = s.rxLanes rx lanes) ∧ (hdr ≠ .bad) ∧ ((u.frameOn rx vc).or (u.camOn rx vc) = some c) ∧ (dtype ≠ 2) ∧ (dtype ≠ 3) ∧ (dtype < 0x18)) ∧
    (∃ (s : State) (rx : Fin 2) (vc : Fin 16) (lanes : LaneNote) (hdr : HdrEcc) (dtype : Nat) (payload : List Byte) (crcOk : Bool) (u : State) (c : Nat), (s.rxOn rx = true) ∧ (u = s.rxLanes rx lanes) ∧ (hdr ≠ .bad) ∧ ((u.frameOn rx vc).or (u.camOn rx vc) = some c) ∧ (0x18 ≤ dtype) ∧ ((u.hdrCount c hdr).frameAt rx vc = none)) ∧
    (∃ (s : State) (rx : Fin 2) (vc : Fin 16) (lanes : LaneNote) (hdr : HdrEcc) (dtype : Nat) (payload : List Byte) (crcOk : Bool) (u : State) (c : Nat) (e : Nat) (f : IngFrame), (s.rxOn rx = true) ∧ (u = s.rxLanes rx lanes) ∧ (hdr ≠ .bad) ∧ ((u.frameOn rx vc).or (u.camOn rx vc) = some c) ∧ (0x18 ≤ dtype) ∧ ((u.hdrCount c hdr).frameAt rx vc = some (e, f)) ∧ (dtype ≠ dtCode f.dtype) ∧ (f.trailed = false)) ∧
    (∃ (s : State) (rx : Fin 2) (vc : Fin 16) (lanes : LaneNote) (hdr : HdrEcc) (dtype : Nat) (payload : List Byte) (crcOk : Bool) (u : State) (c : Nat) (e : Nat) (f : IngFrame), (s.rxOn rx = true) ∧ (u = s.rxLanes rx lanes) ∧ (hdr ≠ .bad) ∧ ((u.frameOn rx vc).or (u.camOn rx vc) = some c) ∧ (0x18 ≤ dtype) ∧ ((u.hdrCount c hdr).frameAt rx vc = some (e, f)) ∧ (dtype = dtCode f.dtype) ∧ (f.lines < 4096)) ∧
    (∃ (s : State) (rx : Fin 2) (vc : Fin 16) (lanes : LaneNote) (hdr : HdrEcc) (u : State), (s.rxOn rx = true) ∧ (u = s.rxLanes rx lanes) ∧ (hdr = .bad)) ∧
    (∃ (s : State) (rx : Fin 2) (vc : Fin 16) (lanes : LaneNote) (hdr : HdrEcc) (u : State) (c : Nat) (f : IngFrame), (s.rxOn rx = true) ∧ (u = s.rxLanes rx lanes) ∧ (hdr ≠ .bad) ∧ (u.frameAt rx vc = some (c, f))) ∧
    (∃ (s : State) (rx : Fin 2) (vc : Fin 16) (lanes : LaneNote) (hdr : HdrEcc) (u : State) (c : Nat), (s.rxOn rx = true) ∧ (u = s.rxLanes rx lanes) ∧ (hdr ≠ .bad) ∧ (u.frameAt rx vc = none) ∧ (u.camOn rx vc = some c)) ∧
    (∃ (s : State) (rx : Fin 2) (vc : Fin 16) (lanes : LaneNote) (hdr : HdrEcc) (u : State), (s.rxOn rx = true) ∧ (u = s.rxLanes rx lanes) ∧ (hdr ≠ .bad) ∧ (u.frameAt rx vc = none) ∧ (u.camOn rx vc = none)) ∧
    (∃ (s : State) (cam : Fin 4) (t : Nat), (s.due (.fto cam) = true)) ∧
    (∃ (s : State) (cam : Fin 4) (t : Nat), ((s.ingCam cam).quietAt = some t) ∧ (t + s.getF (R.ING_CAM_SIL_SILENCE_MS cam) * msNs ≤ s.now)) ∧
    (∃ (s : State) (cam : Fin 4) (k : FlintCopy), ((s.ingCam cam).done = some k)) ∧
    (∃ (s : State) (rx : Fin 2), (s.rxOn rx = true)) ∧
    (∃ (s : State) (cam : Fin 4) (data : Word), (s.on Dom.ingress = true) ∧ (s.keyOpen 7 = true) ∧ (s.camCfgOk cam (s.getF (R.ING_CAM_CFG_EN cam)) (s.getF (R.ING_CAM_CFG_PORT cam)) (s.getF (R.ING_CAM_CFG_VC cam)) (s.getF (R.ING_CAM_CFG_DTYPE cam)) (data.toNat % 8192) (data.toNat / 65536 % 8192) = true)) ∧
    (∃ (s : State) (cam : Fin 4) (data : Word), (s.on Dom.ingress = true) ∧ (s.keyOpen 7 = true) ∧ (s.camCfgOk cam (data.toNat % 2) (data.toNat / 2 % 2) (data.toNat / 4 % 4) (data.toNat / 16 % 4) (s.getF (R.ING_CAM_GEOM_WIDTH cam)) (s.getF (R.ING_CAM_GEOM_HEIGHT cam)) = true)) ∧
    (∃ (s : State) (cam : Fin 4) (scores : Nat) (ecc : Fin 3) (k : FlintCopy), ((s.flt.queue.getD cam []).head? = some k) ∧ (s.on Dom.flint = true) ∧ (s.flt.modelOk = true)) ∧
    (∃ (s : State) (ok : Bool) (cam : Fin 4) (k : FlintCopy), (s.on Dom.flint = true) ∧ (s.flt.modelOk = true) ∧ (s.dueOrNew .flintTest = true)) ∧
    (∃ (s : State) (ok : Bool) (cam : Fin 4) (k : FlintCopy), (s.on Dom.flint = true) ∧ ((s.flt.queue.getD cam []).head? = some k) ∧ (k.at_ + 20 * msNs ≤ s.now)) :=
  ⟨⟨camUp, 0, 0, note0, .bad, ((fun (s : State) (rx : Fin 2) (lanes : LaneNote) => s.rxLanes rx lanes) (camUp) (0) (note0)), by decide +kernel⟩,
   ⟨camUp, 0, 5, note0, .good, ((fun (s : State) (rx : Fin 2) (lanes : LaneNote) => s.rxLanes rx lanes) (camUp) (0) (note0)), by decide +kernel⟩,
   ⟨camUp, 0, 0, note0, .good, ((fun (s : State) (rx : Fin 2) (lanes : LaneNote) => s.rxLanes rx lanes) (camUp) (0) (note0)), ((fun (rx : Fin 2) (vc : Fin 16) (u : State) => (u.camOn rx vc).getD (0)) (0) (0) (((fun (s : State) (rx : Fin 2) (lanes : LaneNote) => s.rxLanes rx lanes) (camUp) (0) (note0)))), by decide +kernel⟩,
   ⟨openUp, 0, 0, note0, .good, ((fun (s : State) (rx : Fin 2) (lanes : LaneNote) => s.rxLanes rx lanes) (openUp) (0) (note0)), ((fun (rx : Fin 2) (vc : Fin 16) (u : State) => (u.frameOn rx vc).getD (0)) (0) (0) (((fun (s : State) (rx : Fin 2) (lanes : LaneNote) => s.rxLanes rx lanes) (openUp) (0) (note0)))), ((fun (rx : Fin 2) (vc : Fin 16) (v : State) => (v.camOn rx vc).getD (0)) (0) (0) (((fun (u : State) (e : Nat) => u.closeFrame e (if u.due (.fto e) then 5 else 4) false) (((fun (s : State) (rx : Fin 2) (lanes : LaneNote) => s.rxLanes rx lanes) (openUp) (0) (note0))) (((fun (rx : Fin 2) (vc : Fin 16) (u : State) => (u.frameOn rx vc).getD (0)) (0) (0) (((fun (s : State) (rx : Fin 2) (lanes : LaneNote) => s.rxLanes rx lanes) (openUp) (0) (note0)))))))), ((fun (u : State) (e : Nat) => u.closeFrame e (if u.due (.fto e) then 5 else 4) false) (((fun (s : State) (rx : Fin 2) (lanes : LaneNote) => s.rxLanes rx lanes) (openUp) (0) (note0))) (((fun (rx : Fin 2) (vc : Fin 16) (u : State) => (u.frameOn rx vc).getD (0)) (0) (0) (((fun (s : State) (rx : Fin 2) (lanes : LaneNote) => s.rxLanes rx lanes) (openUp) (0) (note0)))))), by decide +kernel⟩,
   ⟨openUp.setF (R.ING_CAM_CFG_EN 0) 0, 0, 0, note0, .good, ((fun (s : State) (rx : Fin 2) (lanes : LaneNote) => s.rxLanes rx lanes) (openUp.setF (R.ING_CAM_CFG_EN 0) 0) (0) (note0)), ((fun (rx : Fin 2) (vc : Fin 16) (u : State) => (u.frameOn rx vc).getD (0)) (0) (0) (((fun (s : State) (rx : Fin 2) (lanes : LaneNote) => s.rxLanes rx lanes) (openUp.setF (R.ING_CAM_CFG_EN 0) 0) (0) (note0)))), ((fun (u : State) (e : Nat) => u.closeFrame e (if u.due (.fto e) then 5 else 4) false) (((fun (s : State) (rx : Fin 2) (lanes : LaneNote) => s.rxLanes rx lanes) (openUp.setF (R.ING_CAM_CFG_EN 0) 0) (0) (note0))) (((fun (rx : Fin 2) (vc : Fin 16) (u : State) => (u.frameOn rx vc).getD (0)) (0) (0) (((fun (s : State) (rx : Fin 2) (lanes : LaneNote) => s.rxLanes rx lanes) (openUp.setF (R.ING_CAM_CFG_EN 0) 0) (0) (note0)))))), by decide +kernel⟩,
   ⟨camUp, 0, 0, note0, .bad, 0, [], false, ((fun (s : State) (rx : Fin 2) (lanes : LaneNote) => s.rxLanes rx lanes) (camUp) (0) (note0)), by decide +kernel⟩,
   ⟨camUp, 0, 5, note0, .good, 0, [], false, ((fun (s : State) (rx : Fin 2) (lanes : LaneNote) => s.rxLanes rx lanes) (camUp) (0) (note0)), by decide +kernel⟩,
   ⟨openUp, 0, 0, note0, .good, 2, [], false, ((fun (s : State) (rx : Fin 2) (lanes : LaneNote) => s.rxLanes rx lanes) (openUp) (0) (note0)), ((fun (rx : Fin 2) (vc : Fin 16) (u : State) => ((u.frameOn rx vc).or (u.camOn rx vc)).getD (0)) (0) (0) (((fun (s : State) (rx : Fin 2) (lanes : LaneNote) => s.rxLanes rx lanes) (openUp) (0) (note0)))), by decide +kernel⟩,
   ⟨openUp, 0, 0, note0, .good, 0, [], false, ((fun (s : State) (rx : Fin 2) (lanes : LaneNote) => s.rxLanes rx lanes) (openUp) (0) (note0)), ((fun (rx : Fin 2) (vc : Fin 16) (u : State) => ((u.frameOn rx vc).or (u.camOn rx vc)).getD (0)) (0) (0) (((fun (s : State) (rx : Fin 2) (lanes : LaneNote) => s.rxLanes rx lanes) (openUp) (0) (note0)))), by decide +kernel⟩,
   ⟨camUp, 0, 0, note0, .good, 43, [], false, ((fun (s : State) (rx : Fin 2) (lanes : LaneNote) => s.rxLanes rx lanes) (camUp) (0) (note0)), ((fun (rx : Fin 2) (vc : Fin 16) (u : State) => ((u.frameOn rx vc).or (u.camOn rx vc)).getD (0)) (0) (0) (((fun (s : State) (rx : Fin 2) (lanes : LaneNote) => s.rxLanes rx lanes) (camUp) (0) (note0)))), by decide +kernel⟩,
   ⟨openUp, 0, 0, note0, .good, 48, [], false, ((fun (s : State) (rx : Fin 2) (lanes : LaneNote) => s.rxLanes rx lanes) (openUp) (0) (note0)), ((fun (rx : Fin 2) (vc : Fin 16) (u : State) => ((u.frameOn rx vc).or (u.camOn rx vc)).getD (0)) (0) (0) (((fun (s : State) (rx : Fin 2) (lanes : LaneNote) => s.rxLanes rx lanes) (openUp) (0) (note0)))), ((fun (rx : Fin 2) (vc : Fin 16) (hdr : HdrEcc) (u : State) (c : Nat) => (((u.hdrCount c hdr).frameAt rx vc).map (·.1)).getD (0)) (0) (0) (.good) (((fun (s : State) (rx : Fin 2) (lanes : LaneNote) => s.rxLanes rx lanes) (openUp) (0) (note0))) (((fun (rx : Fin 2) (vc : Fin 16) (u : State) => ((u.frameOn rx vc).or (u.camOn rx vc)).getD (0)) (0) (0) (((fun (s : State) (rx : Fin 2) (lanes : LaneNote) => s.rxLanes rx lanes) (openUp) (0) (note0)))))), ((fun (rx : Fin 2) (vc : Fin 16) (hdr : HdrEcc) (u : State) (c : Nat) => (((u.hdrCount c hdr).frameAt rx vc).map (·.2)).getD (openFrame0)) (0) (0) (.good) (((fun (s : State) (rx : Fin 2) (lanes : LaneNote) => s.rxLanes rx lanes) (openUp) (0) (note0))) (((fun (rx : Fin 2) (vc : Fin 16) (u : State) => ((u.frameOn rx vc).or (u.camOn rx vc)).getD (0)) (0) (0) (((fun (s : State) (rx : Fin 2) (lanes : LaneNote) => s.rxLanes rx lanes) (openUp) (0) (note0)))))), by decide +kernel⟩,
   ⟨openUp, 0, 0, note0, .good, dtCode 0, [1, 2], true, ((fun (s : State) (rx : Fin 2) (lanes : LaneNote) => s.rxLanes rx lanes) (openUp) (0) (note0)), ((fun (rx : Fin 2) (vc : Fin 16) (u : State) => ((u.frameOn rx vc).or (u.camOn rx vc)).getD (0)) (0) (0) (((fun (s : State) (rx : Fin 2) (lanes : LaneNote) => s.rxLanes rx lanes) (openUp) (0) (note0)))), ((fun (rx : Fin 2) (vc : Fin 16) (hdr : HdrEcc) (u : State) (c : Nat) => (((u.hdrCount c hdr).frameAt rx vc).map (·.1)).getD (0)) (0) (0) (.good) (((fun (s : State) (rx : Fin 2) (lanes : LaneNote) => s.rxLanes rx lanes) (openUp) (0) (note0))) (((fun (rx : Fin 2) (vc : Fin 16) (u : State) => ((u.frameOn rx vc).or (u.camOn rx vc)).getD (0)) (0) (0) (((fun (s : State) (rx : Fin 2) (lanes : LaneNote) => s.rxLanes rx lanes) (openUp) (0) (note0)))))), ((fun (rx : Fin 2) (vc : Fin 16) (hdr : HdrEcc) (u : State) (c : Nat) => (((u.hdrCount c hdr).frameAt rx vc).map (·.2)).getD (openFrame0)) (0) (0) (.good) (((fun (s : State) (rx : Fin 2) (lanes : LaneNote) => s.rxLanes rx lanes) (openUp) (0) (note0))) (((fun (rx : Fin 2) (vc : Fin 16) (u : State) => ((u.frameOn rx vc).or (u.camOn rx vc)).getD (0)) (0) (0) (((fun (s : State) (rx : Fin 2) (lanes : LaneNote) => s.rxLanes rx lanes) (openUp) (0) (note0)))))), by decide +kernel⟩,
   ⟨camUp, 0, 0, note0, .bad, ((fun (s : State) (rx : Fin 2) (lanes : LaneNote) => s.rxLanes rx lanes) (camUp) (0) (note0)), by decide +kernel⟩,
   ⟨openUp, 0, 0, note0, .good, ((fun (s : State) (rx : Fin 2) (lanes : LaneNote) => s.rxLanes rx lanes) (openUp) (0) (note0)), ((fun (rx : Fin 2) (vc : Fin 16) (u : State) => ((u.frameAt rx vc).map (·.1)).getD (0)) (0) (0) (((fun (s : State) (rx : Fin 2) (lanes : LaneNote) => s.rxLanes rx lanes) (openUp) (0) (note0)))), ((fun (rx : Fin 2) (vc : Fin 16) (u : State) => ((u.frameAt rx vc).map (·.2)).getD (openFrame0)) (0) (0) (((fun (s : State) (rx : Fin 2) (lanes : LaneNote) => s.rxLanes rx lanes) (openUp) (0) (note0)))), by decide +kernel⟩,
   ⟨camUp, 0, 0, note0, .good, ((fun (s : State) (rx : Fin 2) (lanes : LaneNote) => s.rxLanes rx lanes) (camUp) (0) (note0)), ((fun (rx : Fin 2) (vc : Fin 16) (u : State) => (u.camOn rx vc).getD (0)) (0) (0) (((fun (s : State) (rx : Fin 2) (lanes : LaneNote) => s.rxLanes rx lanes) (camUp) (0) (note0)))), by decide +kernel⟩,
   ⟨camUp, 0, 5, note0, .good, ((fun (s : State) (rx : Fin 2) (lanes : LaneNote) => s.rxLanes rx lanes) (camUp) (0) (note0)), by decide +kernel⟩,
   ⟨up.armAt (.fto 0) 0, 0, 0, by decide +kernel⟩,
   ⟨{ up.setCam 0 (fun q => { q with quietAt := some 0 }) with now := 10 ^ 12 }, 0, ((fun (s : State) (cam : Fin 4) => ((s.ingCam cam).quietAt).getD (0)) ({ up.setCam 0 (fun q => { q with quietAt := some 0 }) with now := 10 ^ 12 }) (0)), by decide +kernel⟩,
   ⟨up.setCam 3 (fun q => { q with done := some ⟨0, 0, [], 0⟩ }), 3, ⟨0, 0, [], 0⟩, by decide +kernel⟩,
   ⟨camUp, 0, by decide +kernel⟩,
   ⟨camKey, 0, 0x00F00280, by decide +kernel⟩,
   ⟨camKey, 0, 0, by decide +kernel⟩,
   ⟨{ up with flt := ⟨[[⟨0, 0, [], 0⟩], [], [], []], true⟩ }, 0, 0, 0, ⟨0, 0, [], 0⟩, by decide +kernel⟩,
   ⟨{ up with now := 20000000, flt := ⟨[[⟨0, 0, [], 0⟩], [], [], []], true⟩ }, true, 0, ⟨0, 0, [], 0⟩, by decide +kernel⟩,
   ⟨{ up with flt := ⟨[[⟨0, 0, [], 0⟩], [], [], []], true⟩, now := 20000000 }, false, 0, ⟨0, 0, [], 0⟩, by decide +kernel⟩⟩

theorem witness_LightDrive :
    (∃ (s : State) (luxin : Nat) (sched : Bool), (s.on Dom.drive = true)) ∧
    (∃ (s : State), (s.due .luxin = true)) ∧
    (∃ (s : State), (s.due .sched = true)) ∧
    (∃ (s : State), (s.due .lightHold = true)) ∧
    (∃ (s : State) (v0 : Nat) (v1 : Nat) (i0 : Nat) (i1 : Nat), (s.on Dom.drive = true) ∧ (s.dueOrNew (.control 0) = true)) ∧
    (∃ (s : State) (ch : Fin 2) (ramp : Bool), (s.on Dom.drive = true) ∧ (s.chState ch = 1) ∧ ((s.luxCh ch).ocThis = false)) ∧
    (∃ (s : State) (ch : Fin 2) (ramp : Bool), (s.on Dom.drive = true) ∧ (s.chState ch ≠ 1) ∧ ((s.luxCh ch).ocNew = true)) ∧
    (∃ (s : State) (ch : Fin 2), (s.due (.hiccup ch) = true)) ∧
    (∃ (s : State), (s.on Dom.drive = true)) ∧
    (∃ (s : State), (s.on Dom.drive = true) ∧ (s.due .sfl1 = true) ∧ (s.isDark = true) ∧ (s.someRun = false) ∧ (s.bitF R.SIO_TRIPNOW_ACTIVE Src.luxSfl1 = false)) :=
  ⟨⟨up, 65535, true, by decide +kernel⟩,
   ⟨((up.armAt .luxin 0).armAt .sched 0).armAt .lightHold 0, by decide +kernel⟩,
   ⟨((up.armAt .luxin 0).armAt .sched 0).armAt .lightHold 0, by decide +kernel⟩,
   ⟨((up.armAt .luxin 0).armAt .sched 0).armAt .lightHold 0, by decide +kernel⟩,
   ⟨up, 0, 0, 0, 0, by decide +kernel⟩,
   ⟨up.setF (R.LUX_ST_STATE 1) 1, 1, true, by decide +kernel⟩,
   ⟨up.setCh 0 fun h => { h with ocNew := true }, 0, false, by decide +kernel⟩,
   ⟨up.armAt (.hiccup 1) 0, 1, by decide +kernel⟩,
   ⟨up, by decide +kernel⟩,
   ⟨up.armAt .sfl1 0, by decide +kernel⟩⟩

theorem witness_TiltDrive :
    (∃ (s : State), (s.on Dom.drive = true) ∧ (s.getF R.TLT_STATE_STATE = 0 ∨ s.getF R.TLT_STATE_STATE = 2) ∧ (State.stoFree ((s.answer .ok).setF R.TLT_STATE_STATE 1) = true)) ∧
    (∃ (s : State), (s.on Dom.drive = true) ∧ (s.getF R.TLT_STATE_STATE = 3)) ∧
    (∃ (s : State), (s.on Dom.drive = true) ∧ (s.getF R.TLT_STATE_STATE = 1)) ∧
    (∃ (s : State) (count : Word), (s.on Dom.drive = true) ∧ (s.getF R.TLT_STATE_STATE = 2 ∨ s.getF R.TLT_STATE_STATE = 3) ∧ (s.signedF R.TLT_SLPLO_COUNT ≤ count.toInt) ∧ (count.toInt ≤ s.signedF R.TLT_SLPHI_COUNT)) ∧
    (∃ (s : State) (up : Bool), (s.on Dom.drive = true)) ∧
    (∃ (s : State), (s.on Dom.drive = true) ∧ (s.homing = true) ∧ (s.tlt.step = 2) ∧ (s.tlt.index = 0)) ∧
    (∃ (s : State), (s.on Dom.drive = true) ∧ (s.homing = true) ∧ (s.tlt.step = 2) ∧ (s.tlt.index ≠ 0)) ∧
    (∃ (s : State), (s.on Dom.drive = true) ∧ (s.homing = false) ∧ (s.tltWatches = true) ∧ (s.isSet R.TLT_STATE_HOMED = true) ∧ (nearIndex s.tltCount (s.getF R.TLT_IDX_Z0) (s.getF R.TLT_IDX_ZP) = false)) ∧
    (∃ (s : State), (s.on Dom.drive = true) ∧ (s.homing = false) ∧ (s.tltWatches = true) ∧ (s.isSet R.TLT_STATE_HOMED = true) ∧ (nearIndex s.tltCount (s.getF R.TLT_IDX_Z0) (s.getF R.TLT_IDX_ZP) = true)) ∧
    (∃ (s : State), (s.due .homing = true)) ∧
    (∃ (s : State), (s.on Dom.drive = true) ∧ (s.dueOrNew .sls = true)) ∧
    (∃ (s : State) (code : Nat), (s.on Dom.drive = true) ∧ (s.dueOrNew .pot = true)) ∧
    (∃ (s : State), (s.on Dom.drive = true)) :=
  ⟨⟨tiltUp, by decide +kernel⟩,
   ⟨up.setF R.TLT_STATE_STATE 3, by decide +kernel⟩,
   ⟨up.setF R.TLT_STATE_STATE 1, by decide +kernel⟩,
   ⟨up.setF R.TLT_STATE_STATE 2, 0, by decide +kernel⟩,
   ⟨up, false, by decide +kernel⟩,
   ⟨{ up.setF R.TLT_STATE_STATE 1 with tlt := { TltState.init with step := 2 } }, by decide +kernel⟩,
   ⟨{ up.setF R.TLT_STATE_STATE 1 with tlt := { TltState.init with step := 2, index := 1 } }, by decide +kernel⟩,
   ⟨(((tiltUp.setF R.TLT_STATE_STATE 2).setF R.TLT_STATE_HOMED 1).setF R.TLT_IDX_ZP 1000).setF R.TLT_POS_COUNT 500, by decide +kernel⟩,
   ⟨((tiltUp.setF R.TLT_STATE_STATE 2).setF R.TLT_STATE_HOMED 1).setF R.TLT_IDX_ZP 1000, by decide +kernel⟩,
   ⟨up.armAt .homing 0, by decide +kernel⟩,
   ⟨up.armAt .homing 0, by decide +kernel⟩,
   ⟨up, 4095, by decide +kernel⟩,
   ⟨up, by decide +kernel⟩⟩

theorem witness_SafetyOutputs :
    (∃ (s : State), (s.on Dom.aon = true) ∧ ((s.answer .ok).armOk maskA = true) ∧ (s.isSet R.TLT_CFG_ENABLE = true)) ∧
    (∃ (s : State), (s.on Dom.aon = true) ∧ ((s.answer .ok).armOk maskB = true)) ∧
    (∃ (s : State) (src : Fin 13), (s.on Dom.aon = true)) ∧
    (∃ (s : State) (src : Fin 13), (src.val ≠ Src.asySelf)) ∧
    (∃ (s : State) (src : Fin 13), (src.val = Src.asySelf) ∧ ((s.endTrip src).on Dom.core = true)) ∧
    (∃ (s : State) (out : Fin 2) (lowOk : Bool) (highOk : Bool), (s.dueOrNew (.offTest out) = true)) ∧
    (∃ (s : State) (period : Nat) (width : Nat), (s.on Dom.aon = true) ∧ (s.keyOpen 14 = true) ∧ (2 * clampTo 100 1000 (width % 1024) + 500 ≤ 1000 * clampTo 1 100 (period % 256))) ∧
    (∃ (s : State) (a : Fin 16) (b : Fin 16), (s.dueOrNew .demand = true) ∧ (s.inPulse = false)) ∧
    (∃ (s : State) (preA : Fin 16) (inA : Fin 16) (forA : Fin 16) (preB : Fin 16) (inB : Fin 16) (forB : Fin 16), (s.dueOrNew .testPeriod = true) ∧ (s.devState ≠ 3)) ∧
    (∃ (s : State) (pair : Fin 4), (s.due (.discrep pair) = true) ∧ (s.getF (R.SIO_USE_ROLE pair) ≠ 0)) ∧
    (∃ (s : State), (s.sio.rstLow = none)) ∧
    (∃ (s : State) (t : Nat), (s.sio.rstLow = some t)) ∧
    (∃ (s : State), (s.due .resetStuck = true)) :=
  ⟨⟨armUp, by decide +kernel⟩,
   ⟨armUp, by decide +kernel⟩,
   ⟨tiltUp, 0, by decide +kernel⟩,
   ⟨up, 0, by decide +kernel⟩,
   ⟨up, 2, by decide +kernel⟩,
   ⟨up, 1, true, false, by decide +kernel⟩,
   ⟨up.setBitF R.LCK_KEYST_OPEN 14 true, 255, 1000, by decide +kernel⟩,
   ⟨{ up with now := 7000000 }, 15, 0, by decide +kernel⟩,
   ⟨up, 15, 0, 0, 15, 0, 0, by decide +kernel⟩,
   ⟨(up.setF (R.SIO_USE_ROLE 3) 1).armAt (.discrep 3) 0, 3, by decide +kernel⟩,
   ⟨up, by decide +kernel⟩,
   ⟨{ up with sio := { SioState.init with rstLow := some 0 } }, ((fun (s : State) => (s.sio.rstLow).getD (0)) ({ up with sio := { SioState.init with rstLow := some 0 } })), by decide +kernel⟩,
   ⟨up.armAt .resetStuck 0, by decide +kernel⟩⟩

theorem witness_EventLogCommands :
    (∃ (s : State), (s.on Dom.core = true)) ∧
    (∃ (s : State) (slot : Nat), (s.on Dom.core = true)) ∧
    (∃ (s : State), (s.on Dom.core = true) ∧ (s.pageCondition = true)) ∧
    (∃ (s : State), (s.on Dom.core = true) ∧ (s.flushDue = true)) ∧
    (∃ (s : State) (recs : List LogSlot), (s.evl.page = some recs)) ∧
    (∃ (s : State) (recs : List LogSlot) (bytes : List Byte), (s.evl.page = some recs)) ∧
    (∃ (s : State), (s.on Dom.core = true)) ∧
    (∃ (s : State) (idlo : Nat) (cls : Nat), (s.on Dom.core = true) ∧ (0x80 ≤ idlo % 256) ∧ (cls % 4 ≠ 0)) ∧
    (∃ (s : State), (s.on Dom.core = true)) :=
  ⟨⟨up, by decide +kernel⟩,
   ⟨up, 0, by decide +kernel⟩,
   ⟨flushUp, by decide +kernel⟩,
   ⟨flushUp, by decide +kernel⟩,
   ⟨up.evlSet fun e => { e with page := some [] }, ((fun (s : State) => (s.evl.page).getD ([])) (up.evlSet fun e => { e with page := some [] })), by decide +kernel⟩,
   ⟨up.evlSet fun e => { e with page := some [] }, ((fun (s : State) => (s.evl.page).getD ([])) (up.evlSet fun e => { e with page := some [] })), [], by decide +kernel⟩,
   ⟨up, by decide +kernel⟩,
   ⟨up, 0x80, 1, by decide +kernel⟩,
   ⟨up, by decide +kernel⟩⟩

theorem witness_CairnRoles :
    (∃ (s : State), (s.crnState = 1) ∧ (s.due .tListen = true) ∧ (s.rosterWaits = false)) ∧
    (∃ (s : State), (s.crnState = 2) ∧ (s.due .claimWait = true) ∧ (s.rosterWaits = false) ∧ ((s.crn.inbox.any fun m => m.typ == CT.claim && beats (byteAt m.body 0, m.src) s.ownStanding) = false)) ∧
    (∃ (s : State), (s.crnState = 3) ∧ (s.due .followTo = true) ∧ (s.rosterWaits = false)) ∧
    (∃ (s : State), (s.crnState = 4) ∧ (s.due .backoff = true)) ∧
    (∃ (s : State) (m : CrnMsg) (u : State), (s.crnTake CT.claim = some (m, u)) ∧ (m.src ≠ u.ownKey) ∧ ((u.crn.inbox.any fun k => k.typ == CT.roster && k.at_ == m.at_) = false) ∧ (u.crnState = 1) ∧ (u.crn.stuck = false)) ∧
    (∃ (s : State) (m : CrnMsg) (u : State), (s.crnTake CT.claim = some (m, u)) ∧ (m.src ≠ u.ownKey) ∧ ((u.crn.inbox.any fun k => k.typ == CT.roster && k.at_ == m.at_) = false) ∧ (u.crnState = 2) ∧ (beats (byteAt m.body 0, m.src) u.ownStanding = true)) ∧
    (∃ (s : State) (m : CrnMsg) (u : State), (s.crnTake CT.claim = some (m, u)) ∧ (m.src ≠ u.ownKey) ∧ ((u.crn.inbox.any fun k => k.typ == CT.roster && k.at_ == m.at_) = false) ∧ (u.crnState = 3) ∧ (beats (byteAt m.body 0, m.src) u.crn.followed = true)) ∧
    (∃ (s : State) (m : CrnMsg) (u : State), (s.crnTake CT.claim = some (m, u)) ∧ (m.src ≠ u.ownKey) ∧ ((u.crn.inbox.any fun k => k.typ == CT.roster && k.at_ == m.at_) = false) ∧ (u.crnState = 7)) ∧
    (∃ (s : State) (m : CrnMsg) (u : State), (s.crnTake CT.yield = some (m, u)) ∧ (u.crnState = 2)) ∧
    (∃ (s : State), (s.on Dom.net = true) ∧ (s.isSet R.CRN_CTL_EN = true) ∧ (s.crnState ≠ 0)) ∧
    (∃ (s : State), (s.on Dom.net = true) ∧ (s.isSet R.CRN_CTL_EN = true) ∧ (s.crnState = 7)) ∧
    (∃ (s : State), (s.crnState = 5) ∧ (s.due .joinRetry = true)) ∧
    (∃ (s : State) (m : CrnMsg) (u : State), (s.crnTake CT.roster = some (m, u)) ∧ (1 ≤ u.crnState) ∧ (u.crnState ≤ 3) ∧ (¬ (u.crnState = 1 ∧ u.crn.stuck = true))) ∧
    (∃ (s : State) (m : CrnMsg) (u : State), (s.crnTake CT.roster = some (m, u)) ∧ (u.crnState = 5) ∧ (m.src = u.headKey) ∧ (u.crn.roster = [] ∨ epochOk m.epoch (u.getF R.CRN_STAT_EPOCH) = true) ∧ (((rosterOf m.body).any fun e => e.key == u.ownKey && (e.state == 0 || e.state == 2 || e.state == 3)) = true)) ∧
    (∃ (s : State) (m : CrnMsg) (u : State), (s.crnTake CT.roster = some (m, u)) ∧ (u.crnState = 6) ∧ (m.src = u.headKey) ∧ (epochOk m.epoch (u.getF R.CRN_STAT_EPOCH) = true)) ∧
    (∃ (s : State) (m : CrnMsg) (u : State), (s.crnTake CT.roster = some (m, u)) ∧ (u.crnState = 6) ∧ (m.src ≠ u.headKey) ∧ (beats ((((rosterOf m.body).find? fun e => e.key == m.src).map (·.prio)).getD 0, m.src) (u.crn.headPrio, u.headKey) = true)) ∧
    (∃ (s : State) (m : CrnMsg) (u : State), (s.crnTake CT.roster = some (m, u)) ∧ (u.crnState = 7) ∧ (beats ((((rosterOf m.body).find? fun e => e.key == m.src).map (·.prio)).getD 0, m.src) u.ownStanding = true)) ∧
    (∃ (s : State) (key : Nat), (s.crnState = 6) ∧ (s.due .headTo = true)) ∧
    (∃ (s : State) (key : Nat), (s.crnState = 7) ∧ (s.due (.beatTo key) = true) ∧ ((s.crn.inbox.any fun m => m.src == key && (m.typ == CT.beat || m.typ == CT.join)) = false)) ∧
    (∃ (s : State) (key : Nat), (s.crnState = 7) ∧ (s.due .rankWait = true)) ∧
    (∃ (s : State), (s.crnState = 7) ∧ (s.due .publish = true)) ∧
    (∃ (s : State), (s.crnState = 7) ∧ (s.due .rosterMs = true)) ∧
    (∃ (s : State), (s.crnState = 6) ∧ (s.due .beat = true)) :=
  ⟨⟨(up.setF R.CRN_STAT_STATE 1).armAt .tListen 0, by decide +kernel⟩,
   ⟨(up.setF R.CRN_STAT_STATE 2).armAt .claimWait 0, by decide +kernel⟩,
   ⟨(up.setF R.CRN_STAT_STATE 3).armAt .followTo 0, by decide +kernel⟩,
   ⟨(up.setF R.CRN_STAT_STATE 4).armAt .backoff 0, by decide +kernel⟩,
   ⟨inboxUp 1 claimMsg, ((fun (s : State) => ((s.crnTake CT.claim).map (·.1)).getD (claimMsg)) (inboxUp 1 claimMsg)), ((fun (s : State) => ((s.crnTake CT.claim).map (·.2)).getD (inboxUp 1 claimMsg)) (inboxUp 1 claimMsg)), by decide +kernel⟩,
   ⟨inboxUp 2 claimMsg, ((fun (s : State) => ((s.crnTake CT.claim).map (·.1)).getD (claimMsg)) (inboxUp 2 claimMsg)), ((fun (s : State) => ((s.crnTake CT.claim).map (·.2)).getD (inboxUp 2 claimMsg)) (inboxUp 2 claimMsg)), by decide +kernel⟩,
   ⟨inboxUp 3 claimMsg, ((fun (s : State) => ((s.crnTake CT.claim).map (·.1)).getD (claimMsg)) (inboxUp 3 claimMsg)), ((fun (s : State) => ((s.crnTake CT.claim).map (·.2)).getD (inboxUp 3 claimMsg)) (inboxUp 3 claimMsg)), by decide +kernel⟩,
   ⟨inboxUp 7 claimMsg, ((fun (s : State) => ((s.crnTake CT.claim).map (·.1)).getD (claimMsg)) (inboxUp 7 claimMsg)), ((fun (s : State) => ((s.crnTake CT.claim).map (·.2)).getD (inboxUp 7 claimMsg)) (inboxUp 7 claimMsg)), by decide +kernel⟩,
   ⟨inboxUp 2 { claimMsg with typ := CT.yield }, ((fun (s : State) => ((s.crnTake CT.yield).map (·.1)).getD (claimMsg)) (inboxUp 2 { claimMsg with typ := CT.yield })), ((fun (s : State) => ((s.crnTake CT.yield).map (·.2)).getD (inboxUp 2 { claimMsg with typ := CT.yield })) (inboxUp 2 { claimMsg with typ := CT.yield })), by decide +kernel⟩,
   ⟨crnUp 5, by decide +kernel⟩,
   ⟨crnUp 7, by decide +kernel⟩,
   ⟨(crnUp 5).armAt .joinRetry 0, by decide +kernel⟩,
   ⟨inboxUp 1 rosterMsg, ((fun (s : State) => ((s.crnTake CT.roster).map (·.1)).getD (claimMsg)) (inboxUp 1 rosterMsg)), ((fun (s : State) => ((s.crnTake CT.roster).map (·.2)).getD (inboxUp 1 rosterMsg)) (inboxUp 1 rosterMsg)), by decide +kernel⟩,
   ⟨inboxUp 5 rosterMsg, ((fun (s : State) => ((s.crnTake CT.roster).map (·.1)).getD (claimMsg)) (inboxUp 5 rosterMsg)), ((fun (s : State) => ((s.crnTake CT.roster).map (·.2)).getD (inboxUp 5 rosterMsg)) (inboxUp 5 rosterMsg)), by decide +kernel⟩,
   ⟨inboxUp 6 rosterMsg, ((fun (s : State) => ((s.crnTake CT.roster).map (·.1)).getD (claimMsg)) (inboxUp 6 rosterMsg)), ((fun (s : State) => ((s.crnTake CT.roster).map (·.2)).getD (inboxUp 6 rosterMsg)) (inboxUp 6 rosterMsg)), by decide +kernel⟩,
   ⟨inboxUp 6 bigRoster, ((fun (s : State) => ((s.crnTake CT.roster).map (·.1)).getD (claimMsg)) (inboxUp 6 bigRoster)), ((fun (s : State) => ((s.crnTake CT.roster).map (·.2)).getD (inboxUp 6 bigRoster)) (inboxUp 6 bigRoster)), by decide +kernel⟩,
   ⟨inboxUp 7 bigRoster, ((fun (s : State) => ((s.crnTake CT.roster).map (·.1)).getD (claimMsg)) (inboxUp 7 bigRoster)), ((fun (s : State) => ((s.crnTake CT.roster).map (·.2)).getD (inboxUp 7 bigRoster)) (inboxUp 7 bigRoster)), by decide +kernel⟩,
   ⟨(crnUp 6).armAt .headTo 0, 5, by decide +kernel⟩,
   ⟨(crnUp 7).armAt (.beatTo 0) 0, 0, by decide +kernel⟩,
   ⟨((crnUp 7).armAt .rankWait 0).armAt (.beatTo 5) 0, 5, by decide +kernel⟩,
   ⟨((crnUp 7).armAt .publish 0).armAt .rosterMs 0, by decide +kernel⟩,
   ⟨((crnUp 7).armAt .publish 0).armAt .rosterMs 0, by decide +kernel⟩,
   ⟨(crnUp 6).armAt .beat 0, by decide +kernel⟩⟩

theorem witness_CairnMessages :
    (∃ (s : State) (f : CrnIn) (rest : List CrnIn) (u : State) (v : State) (l : List Byte) (len : Nat), (s.net.crnIn = f :: rest) ∧ (u = s.netSet fun n => { n with crnIn := rest }) ∧ (l = f.bytes.drop (payAt f.bytes)) ∧ (len = beAt l 26 2) ∧ (u.crnOn = true) ∧ (byteAt l 0 = 1) ∧ (32 + len ≤ l.length) ∧ (beAt l (28 + len) 4 = crc32c (l.take (28 + len))) ∧ (byteAt l 2 = 0) ∧ (bodySound (byteAt l 1) ((l.drop 28).take len) = true) ∧ (byteAt l 3 ≠ 0) ∧ (beAt l 4 2 = u.cfg Img.CAIRN_LINE_ID 0) ∧ (byteAt l 1 ≠ CT.chunkData) ∧ (byteAt l 1 ≠ CT.chunkAck) ∧ (u.crnFlood (beAt l 8 8) = (v, false)) ∧ (beAt l 8 8 ≠ v.ownKey) ∧ (beAt l 16 8 = v.ownKey)) ∧
    (∃ (s : State) (m : CrnMsg) (u : State) (known : Option CrnNode), (s.crnTake CT.join = some (m, u)) ∧ (u.crnState = 7) ∧ (known = u.crn.nodes.find? fun n => n.ent.key == m.src) ∧ ((known.any fun n => n.n0 != beAt m.body 8 8 || n.n1 != beAt m.body 16 8) = false) ∧ (known.isSome = true ∨ u.crn.nodes.length < 64)) ∧
    (∃ (s : State) (m : CrnMsg) (u : State) (port : Fin 2), (s.crnTake CT.hello = some (m, u))) ∧
    (∃ (s : State) (m : CrnMsg) (u : State) (port : Fin 2), (s.due (.neighbour port) = true)) ∧
    (∃ (s : State) (m : CrnMsg) (u : State) (port : Fin 2), (s.due (.hello port) = true) ∧ (s.linkUp port = true)) ∧
    (∃ (s : State) (m : CrnMsg) (u : State), (s.crnTake CT.beat = some (m, u)) ∧ (u.crnState = 7) ∧ ((u.crn.nodes.any fun n => n.ent.key == m.src && n.ent.state != 1 && !n.ent.head) = true)) ∧
    (∃ (s : State) (m : CrnMsg) (u : State) (ue : Bool), (s.crnTake CT.step = some (m, u))) ∧
    (∃ (s : State) (m : CrnMsg) (u : State) (ue : Bool), (s.crnTake CT.ckptMark = some (m, u))) ∧
    (∃ (s : State) (m : CrnMsg) (u : State) (ue : Bool), (s.crnTake CT.fault = some (m, u))) ∧
    (∃ (s : State) (d : Nat) (buf : Nat) (flags : Nat) (n : Nat), (s.crnOn = true) ∧ (s.ringHas crnMtx = true) ∧ (d = s.ringDesc crnMtx 16) ∧ (buf = leNat (s.ringRead d 4)) ∧ (flags = leNat (s.ringRead (d + 6) 2)) ∧ (n = leNat (s.ringRead (buf + 2) 2)) ∧ (flags.testBit 15 = true) ∧ (12 + n ≤ leNat (s.ringRead (d + 4) 2)) ∧ (n ≤ 1468) ∧ (flags % 4 ≠ 0) ∧ ((maskPorts (flags % 4)).all s.linkUp = true)) :=
  ⟨⟨frameInUp, frameIn, [], ((fun (s : State) (rest : List CrnIn) => s.netSet fun n => { n with crnIn := rest }) (frameInUp) ([])), ((fun (u : State) (l : List Byte) => (u.crnFlood (beAt l 8 8)).1) (((fun (s : State) (rest : List CrnIn) => s.netSet fun n => { n with crnIn := rest }) (frameInUp) ([]))) (((fun (f : CrnIn) => f.bytes.drop (payAt f.bytes)) (frameIn)))), ((fun (f : CrnIn) => f.bytes.drop (payAt f.bytes)) (frameIn)), 8, by decide +kernel⟩,
   ⟨inboxUp 7 joinMsg, ((fun (s : State) => ((s.crnTake CT.join).map (·.1)).getD (claimMsg)) (inboxUp 7 joinMsg)), ((fun (s : State) => ((s.crnTake CT.join).map (·.2)).getD (inboxUp 7 joinMsg)) (inboxUp 7 joinMsg)), ((fun (m : CrnMsg) (u : State) => u.crn.nodes.find? fun n => n.ent.key == m.src) (((fun (s : State) => ((s.crnTake CT.join).map (·.1)).getD (claimMsg)) (inboxUp 7 joinMsg))) (((fun (s : State) => ((s.crnTake CT.join).map (·.2)).getD (inboxUp 7 joinMsg)) (inboxUp 7 joinMsg)))), by decide +kernel⟩,
   ⟨inboxUp 6 { claimMsg with typ := CT.hello }, ((fun (s : State) => ((s.crnTake CT.hello).map (·.1)).getD (claimMsg)) (inboxUp 6 { claimMsg with typ := CT.hello })), ((fun (s : State) => ((s.crnTake CT.hello).map (·.2)).getD (inboxUp 6 { claimMsg with typ := CT.hello })) (inboxUp 6 { claimMsg with typ := CT.hello })), 1, by decide +kernel⟩,
   ⟨up.armAt (.neighbour 0) 0, claimMsg, up.armAt (.neighbour 0) 0, 0, by decide +kernel⟩,
   ⟨port0.armAt (.hello 0) 0, claimMsg, port0.armAt (.hello 0) 0, 0, by decide +kernel⟩,
   ⟨(nodeUp [beatMsg]), ((fun (s : State) => ((s.crnTake CT.beat).map (·.1)).getD (claimMsg)) ((nodeUp [beatMsg]))), ((fun (s : State) => ((s.crnTake CT.beat).map (·.2)).getD ((nodeUp [beatMsg]))) ((nodeUp [beatMsg]))), by decide +kernel⟩,
   ⟨inboxUp 6 { claimMsg with typ := CT.step }, ((fun (s : State) => ((s.crnTake CT.step).map (·.1)).getD (claimMsg)) (inboxUp 6 { claimMsg with typ := CT.step })), ((fun (s : State) => ((s.crnTake CT.step).map (·.2)).getD (inboxUp 6 { claimMsg with typ := CT.step })) (inboxUp 6 { claimMsg with typ := CT.step })), false, by decide +kernel⟩,
   ⟨inboxUp 6 { claimMsg with typ := CT.ckptMark }, ((fun (s : State) => ((s.crnTake CT.ckptMark).map (·.1)).getD (claimMsg)) (inboxUp 6 { claimMsg with typ := CT.ckptMark })), ((fun (s : State) => ((s.crnTake CT.ckptMark).map (·.2)).getD (inboxUp 6 { claimMsg with typ := CT.ckptMark })) (inboxUp 6 { claimMsg with typ := CT.ckptMark })), false, by decide +kernel⟩,
   ⟨inboxUp 6 { claimMsg with typ := CT.fault }, ((fun (s : State) => ((s.crnTake CT.fault).map (·.1)).getD (claimMsg)) (inboxUp 6 { claimMsg with typ := CT.fault })), ((fun (s : State) => ((s.crnTake CT.fault).map (·.2)).getD (inboxUp 6 { claimMsg with typ := CT.fault })) (inboxUp 6 { claimMsg with typ := CT.fault })), false, by decide +kernel⟩,
   ⟨sendUp, 0x10000000, 0x10000020, 0x8001, 0, by decide +kernel⟩⟩

theorem witness_AdMemory :
    (∃ (s : State) (err : Option MemErr) (m : Msg) (u : State) (r : Option Region) (a : State) (e : Nat × State), (s.takeAd TT.memRd (s.memGoes false) = some (m, u)) ∧ (u.adLive = true) ∧ (u.isSet R.MC_TRAIN_DONE = true) ∧ (u.memScope m.tenant (fieldAt m.body 0 8) (min 256 (fieldAt m.body 8 2)) false = (0, r)) ∧ (a = (if m.tenant < 16 then u.charge m.tenant ((min 256 (fieldAt m.body 8 2) + 63) / 64) else u)) ∧ (e = a.memMeets r err) ∧ (e.1 = 0)) ∧
    (∃ (s : State) (err : Option MemErr) (m : Msg) (u : State) (r : Option Region) (a : State) (e : Nat × State), (s.takeAd TT.memRd (s.memGoes false) = some (m, u)) ∧ (u.adLive = true) ∧ (u.isSet R.MC_TRAIN_DONE = true) ∧ (u.memScope m.tenant (fieldAt m.body 0 8) (min 256 (fieldAt m.body 8 2)) false = (0, r)) ∧ (a = (if m.tenant < 16 then u.charge m.tenant ((min 256 (fieldAt m.body 8 2) + 63) / 64) else u)) ∧ (e = a.memMeets r err) ∧ (e.1 ≠ 0)) ∧
    (∃ (s : State) (err : Option MemErr) (m : Msg) (u : State) (r : Option Region) (a : State) (e : Nat × State), (s.takeAd TT.memWr (s.memGoes true) = some (m, u)) ∧ (u.adLive = true) ∧ (u.isSet R.MC_TRAIN_DONE = true) ∧ (u.memScope m.tenant (fieldAt m.body 0 8) (min 256 (fieldAt m.body 8 2)) true = (0, r)) ∧ (a = (if m.tenant < 16 then u.charge m.tenant ((min 256 (fieldAt m.body 8 2) + 63) / 64) else u)) ∧ (e = a.memMeets r err) ∧ (e.1 = 0)) ∧
    (∃ (s : State) (err : Option MemErr) (m : Msg) (u : State) (r : Option Region) (a : State) (e : Nat × State), (s.takeAd TT.memWr (s.memGoes true) = some (m, u)) ∧ (u.adLive = true) ∧ (u.isSet R.MC_TRAIN_DONE = true) ∧ (u.memScope m.tenant (fieldAt m.body 0 8) (min 256 (fieldAt m.body 8 2)) true = (0, r)) ∧ (a = (if m.tenant < 16 then u.charge m.tenant ((min 256 (fieldAt m.body 8 2) + 63) / 64) else u)) ∧ (e = a.memMeets r err) ∧ (e.1 ≠ 0)) ∧
    (∃ (s : State) (m : Msg) (u : State) (r : Option Region) (err : Option MemErr) (st : Nat), (u.adLive = true) ∧ (u.isSet R.MC_TRAIN_DONE = true) ∧ (st ≠ 0) ∧ (s.takeAd TT.memRd (s.memGoes false) = some (m, u)) ∧ (u.memScope m.tenant (fieldAt m.body 0 8) (min 256 (fieldAt m.body 8 2)) false = (st, r))) ∧
    (∃ (s : State) (m : Msg) (u : State) (r : Option Region) (err : Option MemErr) (st : Nat), (u.adLive = true) ∧ (u.isSet R.MC_TRAIN_DONE = true) ∧ (st ≠ 0) ∧ (s.takeAd TT.memWr (s.memGoes true) = some (m, u)) ∧ (u.memScope m.tenant (fieldAt m.body 0 8) (min 256 (fieldAt m.body 8 2)) true = (st, r))) ∧
    (∃ (s : State) (m : Msg) (u : State) (r : Option Region) (err : Option MemErr) (st : Nat) (addr : Nat) (len : Nat) (write : Bool), (u.adLive = true) ∧ (u.isSet R.MC_TRAIN_DONE = true) ∧ (st ≠ 0) ∧ (16 ≤ m.tenant) ∧ (m.tenant ≠ auditScope)) ∧
    (∃ (s : State) (tag : Nat) (status : Fin 256) (data : List Byte) (q : Nat) (u : State) (r : MemReq), (s.takeCd ⟨3, TT.memRdData, noTenant, 0, tag, leBytes 1 status.val ++ data⟩ = some (q, u)) ∧ (u.sil.reqs.find? (fun r => r.tag == tag && !r.write) = none)) ∧
    (∃ (s : State) (tag : Nat) (status : Fin 256) (data : List Byte) (q : Nat) (u : State) (r : MemReq), (s.takeCd ⟨3, TT.memRdData, noTenant, 0, tag, leBytes 1 status.val ++ data⟩ = some (q, u)) ∧ (u.sil.reqs.find? (fun r => r.tag == tag && !r.write) = some r) ∧ (r.user = .window)) ∧
    (∃ (s : State) (tag : Nat) (status : Fin 256) (data : List Byte) (q : Nat) (u : State) (r : MemReq) (k : Nat), (s.takeCd ⟨3, TT.memRdData, noTenant, 0, tag, leBytes 1 status.val ++ data⟩ = some (q, u)) ∧ (u.sil.reqs.find? (fun r => r.tag == tag && !r.write) = some r) ∧ (r.user = .audit k)) ∧
    (∃ (s : State) (tag : Nat) (status : Fin 256) (data : List Byte) (q : Nat) (u : State) (r : MemReq) (k : Bool) (ser : Nat) (off : Nat), (s.takeCd ⟨3, TT.memRdData, noTenant, 0, tag, leBytes 1 status.val ++ data⟩ = some (q, u)) ∧ (u.sil.reqs.find? (fun r => r.tag == tag && !r.write) = some r) ∧ (r.user = .xfer k ser off)) ∧
    (∃ (s : State) (tag : Nat) (status : Fin 256) (data : List Byte) (q : Nat) (u : State) (r : MemReq), (s.takeCd ⟨3, TT.memWrAck, noTenant, 0, tag, leBytes 1 status.val⟩ = some (q, u)) ∧ (u.sil.reqs.find? (fun r => r.tag == tag && r.write) = none)) ∧
    (∃ (s : State) (tag : Nat) (status : Fin 256) (data : List Byte) (q : Nat) (u : State) (r : MemReq), (s.takeCd ⟨3, TT.memWrAck, noTenant, 0, tag, leBytes 1 status.val⟩ = some (q, u)) ∧ (u.sil.reqs.find? (fun r => r.tag == tag && r.write) = some r) ∧ (r.user = .window)) ∧
    (∃ (s : State) (tag : Nat) (status : Fin 256) (data : List Byte) (q : Nat) (u : State) (r : MemReq) (k : Nat), (s.takeCd ⟨3, TT.memWrAck, noTenant, 0, tag, leBytes 1 status.val⟩ = some (q, u)) ∧ (u.sil.reqs.find? (fun r => r.tag == tag && r.write) = some r) ∧ (r.user = .audit k)) ∧
    (∃ (s : State) (tag : Nat) (status : Fin 256) (data : List Byte) (q : Nat) (u : State) (r : MemReq) (k : Bool) (ser : Nat) (off : Nat), (s.takeCd ⟨3, TT.memWrAck, noTenant, 0, tag, leBytes 1 status.val⟩ = some (q, u)) ∧ (u.sil.reqs.find? (fun r => r.tag == tag && r.write) = some r) ∧ (r.user = .xfer k ser off)) ∧
    (∃ (s : State) (tag : Nat) (status : Fin 256) (data : List Byte) (q : Nat) (u : State) (r : MemReq), (s.takeCd ⟨3, TT.memWrAck, noTenant, 0, tag, leBytes 1 status.val⟩ = some (q, u)) ∧ (u.sil.reqs.find? (fun r => r.tag == tag && r.write) = some r) ∧ (r.user = .load)) ∧
    (∃ (s : State) (r : MemReq), (s.sil.reqs.find? (fun r => decide (r.at_ + 100 * usNs ≤ s.now)) = some r) ∧ (r.user = .window)) :=
  ⟨⟨(msgUp (memMsg TT.memRd)).setF R.MC_CFG_DENSITY 1, none, ((fun (s : State) => ((s.takeAd TT.memRd (s.memGoes false)).map (·.1)).getD (cfgFw)) ((msgUp (memMsg TT.memRd)).setF R.MC_CFG_DENSITY 1)), ((fun (s : State) => ((s.takeAd TT.memRd (s.memGoes false)).map (·.2)).getD ((msgUp (memMsg TT.memRd)).setF R.MC_CFG_DENSITY 1)) ((msgUp (memMsg TT.memRd)).setF R.MC_CFG_DENSITY 1)), none, ((fun (m : Msg) (u : State) => (if m.tenant < 16 then u.charge m.tenant ((min 256 (fieldAt m.body 8 2) + 63) / 64) else u)) (((fun (s : State) => ((s.takeAd TT.memRd (s.memGoes false)).map (·.1)).getD (cfgFw)) ((msgUp (memMsg TT.memRd)).setF R.MC_CFG_DENSITY 1))) (((fun (s : State) => ((s.takeAd TT.memRd (s.memGoes false)).map (·.2)).getD ((msgUp (memMsg TT.memRd)).setF R.MC_CFG_DENSITY 1)) ((msgUp (memMsg TT.memRd)).setF R.MC_CFG_DENSITY 1)))), ((fun (err : Option MemErr) (r : Option Region) (a : State) => a.memMeets r err) (none) (none) (((fun (m : Msg) (u : State) => (if m.tenant < 16 then u.charge m.tenant ((min 256 (fieldAt m.body 8 2) + 63) / 64) else u)) (((fun (s : State) => ((s.takeAd TT.memRd (s.memGoes false)).map (·.1)).getD (cfgFw)) ((msgUp (memMsg TT.memRd)).setF R.MC_CFG_DENSITY 1))) (((fun (s : State) => ((s.takeAd TT.memRd (s.memGoes false)).map (·.2)).getD ((msgUp (memMsg TT.memRd)).setF R.MC_CFG_DENSITY 1)) ((msgUp (memMsg TT.memRd)).setF R.MC_CFG_DENSITY 1)))))), by decide +kernel⟩,
   ⟨((msgUp (memMsg TT.memRd)).setF R.MC_CFG_DENSITY 1).setFs [(R.MC_RGN_W 0, 65536), (R.MC_RGN_W 1, 65536)], some .dramUe, ((fun (s : State) => ((s.takeAd TT.memRd (s.memGoes false)).map (·.1)).getD (cfgFw)) (((msgUp (memMsg TT.memRd)).setF R.MC_CFG_DENSITY 1).setFs [(R.MC_RGN_W 0, 65536), (R.MC_RGN_W 1, 65536)])), ((fun (s : State) => ((s.takeAd TT.memRd (s.memGoes false)).map (·.2)).getD (((msgUp (memMsg TT.memRd)).setF R.MC_CFG_DENSITY 1).setFs [(R.MC_RGN_W 0, 65536), (R.MC_RGN_W 1, 65536)])) (((msgUp (memMsg TT.memRd)).setF R.MC_CFG_DENSITY 1).setFs [(R.MC_RGN_W 0, 65536), (R.MC_RGN_W 1, 65536)])), ((fun (m : Msg) (u : State) => (u.memScope m.tenant (fieldAt m.body 0 8) (min 256 (fieldAt m.body 8 2)) false).2) (((fun (s : State) => ((s.takeAd TT.memRd (s.memGoes false)).map (·.1)).getD (cfgFw)) (((msgUp (memMsg TT.memRd)).setF R.MC_CFG_DENSITY 1).setFs [(R.MC_RGN_W 0, 65536), (R.MC_RGN_W 1, 65536)]))) (((fun (s : State) => ((s.takeAd TT.memRd (s.memGoes false)).map (·.2)).getD (((msgUp (memMsg TT.memRd)).setF R.MC_CFG_DENSITY 1).setFs [(R.MC_RGN_W 0, 65536), (R.MC_RGN_W 1, 65536)])) (((msgUp (memMsg TT.memRd)).setF R.MC_CFG_DENSITY 1).setFs [(R.MC_RGN_W 0, 65536), (R.MC_RGN_W 1, 65536)])))), ((fun (m : Msg) (u : State) => (if m.tenant < 16 then u.charge m.tenant ((min 256 (fieldAt m.body 8 2) + 63) / 64) else u)) (((fun (s : State) => ((s.takeAd TT.memRd (s.memGoes false)).map (·.1)).getD (cfgFw)) (((msgUp (memMsg TT.memRd)).setF R.MC_CFG_DENSITY 1).setFs [(R.MC_RGN_W 0, 65536), (R.MC_RGN_W 1, 65536)]))) (((fun (s : State) => ((s.takeAd TT.memRd (s.memGoes false)).map (·.2)).getD (((msgUp (memMsg TT.memRd)).setF R.MC_CFG_DENSITY 1).setFs [(R.MC_RGN_W 0, 65536), (R.MC_RGN_W 1, 65536)])) (((msgUp (memMsg TT.memRd)).setF R.MC_CFG_DENSITY 1).setFs [(R.MC_RGN_W 0, 65536), (R.MC_RGN_W 1, 65536)])))), ((fun (err : Option MemErr) (r : Option Region) (a : State) => a.memMeets r err) (some .dramUe) (((fun (m : Msg) (u : State) => (u.memScope m.tenant (fieldAt m.body 0 8) (min 256 (fieldAt m.body 8 2)) false).2) (((fun (s : State) => ((s.takeAd TT.memRd (s.memGoes false)).map (·.1)).getD (cfgFw)) (((msgUp (memMsg TT.memRd)).setF R.MC_CFG_DENSITY 1).setFs [(R.MC_RGN_W 0, 65536), (R.MC_RGN_W 1, 65536)]))) (((fun (s : State) => ((s.takeAd TT.memRd (s.memGoes false)).map (·.2)).getD (((msgUp (memMsg TT.memRd)).setF R.MC_CFG_DENSITY 1).setFs [(R.MC_RGN_W 0, 65536), (R.MC_RGN_W 1, 65536)])) (((msgUp (memMsg TT.memRd)).setF R.MC_CFG_DENSITY 1).setFs [(R.MC_RGN_W 0, 65536), (R.MC_RGN_W 1, 65536)]))))) (((fun (m : Msg) (u : State) => (if m.tenant < 16 then u.charge m.tenant ((min 256 (fieldAt m.body 8 2) + 63) / 64) else u)) (((fun (s : State) => ((s.takeAd TT.memRd (s.memGoes false)).map (·.1)).getD (cfgFw)) (((msgUp (memMsg TT.memRd)).setF R.MC_CFG_DENSITY 1).setFs [(R.MC_RGN_W 0, 65536), (R.MC_RGN_W 1, 65536)]))) (((fun (s : State) => ((s.takeAd TT.memRd (s.memGoes false)).map (·.2)).getD (((msgUp (memMsg TT.memRd)).setF R.MC_CFG_DENSITY 1).setFs [(R.MC_RGN_W 0, 65536), (R.MC_RGN_W 1, 65536)])) (((msgUp (memMsg TT.memRd)).setF R.MC_CFG_DENSITY 1).setFs [(R.MC_RGN_W 0, 65536), (R.MC_RGN_W 1, 65536)])))))), by decide +kernel⟩,
   ⟨(msgUp (memMsg TT.memWr)).setF R.MC_CFG_DENSITY 1, none, ((fun (s : State) => ((s.takeAd TT.memWr (s.memGoes true)).map (·.1)).getD (cfgFw)) ((msgUp (memMsg TT.memWr)).setF R.MC_CFG_DENSITY 1)), ((fun (s : State) => ((s.takeAd TT.memWr (s.memGoes true)).map (·.2)).getD ((msgUp (memMsg TT.memWr)).setF R.MC_CFG_DENSITY 1)) ((msgUp (memMsg TT.memWr)).setF R.MC_CFG_DENSITY 1)), none, ((fun (m : Msg) (u : State) => (if m.tenant < 16 then u.charge m.tenant ((min 256 (fieldAt m.body 8 2) + 63) / 64) else u)) (((fun (s : State) => ((s.takeAd TT.memWr (s.memGoes true)).map (·.1)).getD (cfgFw)) ((msgUp (memMsg TT.memWr)).setF R.MC_CFG_DENSITY 1))) (((fun (s : State) => ((s.takeAd TT.memWr (s.memGoes true)).map (·.2)).getD ((msgUp (memMsg TT.memWr)).setF R.MC_CFG_DENSITY 1)) ((msgUp (memMsg TT.memWr)).setF R.MC_CFG_DENSITY 1)))), ((fun (err : Option MemErr) (r : Option Region) (a : State) => a.memMeets r err) (none) (none) (((fun (m : Msg) (u : State) => (if m.tenant < 16 then u.charge m.tenant ((min 256 (fieldAt m.body 8 2) + 63) / 64) else u)) (((fun (s : State) => ((s.takeAd TT.memWr (s.memGoes true)).map (·.1)).getD (cfgFw)) ((msgUp (memMsg TT.memWr)).setF R.MC_CFG_DENSITY 1))) (((fun (s : State) => ((s.takeAd TT.memWr (s.memGoes true)).map (·.2)).getD ((msgUp (memMsg TT.memWr)).setF R.MC_CFG_DENSITY 1)) ((msgUp (memMsg TT.memWr)).setF R.MC_CFG_DENSITY 1)))))), by decide +kernel⟩,
   ⟨((msgUp (memMsg TT.memWr)).setF R.MC_CFG_DENSITY 1).setFs [(R.MC_RGN_W 0, 65536), (R.MC_RGN_W 1, 65536)], some .dramUe, ((fun (s : State) => ((s.takeAd TT.memWr (s.memGoes true)).map (·.1)).getD (cfgFw)) (((msgUp (memMsg TT.memWr)).setF R.MC_CFG_DENSITY 1).setFs [(R.MC_RGN_W 0, 65536), (R.MC_RGN_W 1, 65536)])), ((fun (s : State) => ((s.takeAd TT.memWr (s.memGoes true)).map (·.2)).getD (((msgUp (memMsg TT.memWr)).setF R.MC_CFG_DENSITY 1).setFs [(R.MC_RGN_W 0, 65536), (R.MC_RGN_W 1, 65536)])) (((msgUp (memMsg TT.memWr)).setF R.MC_CFG_DENSITY 1).setFs [(R.MC_RGN_W 0, 65536), (R.MC_RGN_W 1, 65536)])), ((fun (m : Msg) (u : State) => (u.memScope m.tenant (fieldAt m.body 0 8) (min 256 (fieldAt m.body 8 2)) true).2) (((fun (s : State) => ((s.takeAd TT.memWr (s.memGoes true)).map (·.1)).getD (cfgFw)) (((msgUp (memMsg TT.memWr)).setF R.MC_CFG_DENSITY 1).setFs [(R.MC_RGN_W 0, 65536), (R.MC_RGN_W 1, 65536)]))) (((fun (s : State) => ((s.takeAd TT.memWr (s.memGoes true)).map (·.2)).getD (((msgUp (memMsg TT.memWr)).setF R.MC_CFG_DENSITY 1).setFs [(R.MC_RGN_W 0, 65536), (R.MC_RGN_W 1, 65536)])) (((msgUp (memMsg TT.memWr)).setF R.MC_CFG_DENSITY 1).setFs [(R.MC_RGN_W 0, 65536), (R.MC_RGN_W 1, 65536)])))), ((fun (m : Msg) (u : State) => (if m.tenant < 16 then u.charge m.tenant ((min 256 (fieldAt m.body 8 2) + 63) / 64) else u)) (((fun (s : State) => ((s.takeAd TT.memWr (s.memGoes true)).map (·.1)).getD (cfgFw)) (((msgUp (memMsg TT.memWr)).setF R.MC_CFG_DENSITY 1).setFs [(R.MC_RGN_W 0, 65536), (R.MC_RGN_W 1, 65536)]))) (((fun (s : State) => ((s.takeAd TT.memWr (s.memGoes true)).map (·.2)).getD (((msgUp (memMsg TT.memWr)).setF R.MC_CFG_DENSITY 1).setFs [(R.MC_RGN_W 0, 65536), (R.MC_RGN_W 1, 65536)])) (((msgUp (memMsg TT.memWr)).setF R.MC_CFG_DENSITY 1).setFs [(R.MC_RGN_W 0, 65536), (R.MC_RGN_W 1, 65536)])))), ((fun (err : Option MemErr) (r : Option Region) (a : State) => a.memMeets r err) (some .dramUe) (((fun (m : Msg) (u : State) => (u.memScope m.tenant (fieldAt m.body 0 8) (min 256 (fieldAt m.body 8 2)) true).2) (((fun (s : State) => ((s.takeAd TT.memWr (s.memGoes true)).map (·.1)).getD (cfgFw)) (((msgUp (memMsg TT.memWr)).setF R.MC_CFG_DENSITY 1).setFs [(R.MC_RGN_W 0, 65536), (R.MC_RGN_W 1, 65536)]))) (((fun (s : State) => ((s.takeAd TT.memWr (s.memGoes true)).map (·.2)).getD (((msgUp (memMsg TT.memWr)).setF R.MC_CFG_DENSITY 1).setFs [(R.MC_RGN_W 0, 65536), (R.MC_RGN_W 1, 65536)])) (((msgUp (memMsg TT.memWr)).setF R.MC_CFG_DENSITY 1).setFs [(R.MC_RGN_W 0, 65536), (R.MC_RGN_W 1, 65536)]))))) (((fun (m : Msg) (u : State) => (if m.tenant < 16 then u.charge m.tenant ((min 256 (fieldAt m.body 8 2) + 63) / 64) else u)) (((fun (s : State) => ((s.takeAd TT.memWr (s.memGoes true)).map (·.1)).getD (cfgFw)) (((msgUp (memMsg TT.memWr)).setF R.MC_CFG_DENSITY 1).setFs [(R.MC_RGN_W 0, 65536), (R.MC_RGN_W 1, 65536)]))) (((fun (s : State) => ((s.takeAd TT.memWr (s.memGoes true)).map (·.2)).getD (((msgUp (memMsg TT.memWr)).setF R.MC_CFG_DENSITY 1).setFs [(R.MC_RGN_W 0, 65536), (R.MC_RGN_W 1, 65536)])) (((msgUp (memMsg TT.memWr)).setF R.MC_CFG_DENSITY 1).setFs [(R.MC_RGN_W 0, 65536), (R.MC_RGN_W 1, 65536)])))))), by decide +kernel⟩,
   ⟨msgUp { memMsg TT.memRd with tenant := 3 }, ((fun (s : State) => ((s.takeAd TT.memRd (s.memGoes false)).map (·.1)).getD (cfgFw)) (msgUp { memMsg TT.memRd with tenant := 3 })), ((fun (s : State) => ((s.takeAd TT.memRd (s.memGoes false)).map (·.2)).getD (msgUp { memMsg TT.memRd with tenant := 3 })) (msgUp { memMsg TT.memRd with tenant := 3 })), none, none, 1, by decide +kernel⟩,
   ⟨msgUp { memMsg TT.memWr with tenant := 3 }, ((fun (s : State) => ((s.takeAd TT.memWr (s.memGoes true)).map (·.1)).getD (cfgFw)) (msgUp { memMsg TT.memWr with tenant := 3 })), ((fun (s : State) => ((s.takeAd TT.memWr (s.memGoes true)).map (·.2)).getD (msgUp { memMsg TT.memWr with tenant := 3 })) (msgUp { memMsg TT.memWr with tenant := 3 })), none, none, 1, by decide +kernel⟩,
   ⟨adUp, { memMsg TT.memRd with tenant := 0x20 }, adUp, none, none, 1, 0, 0, false, by decide +kernel⟩,
   ⟨fromAd 3 TT.memRdData (linked), 0, 0, [], ((fun (s : State) (tag : Nat) (status : Fin 256) (data : List Byte) => ((s.takeCd ⟨3, TT.memRdData, noTenant, 0, tag, leBytes 1 status.val ++ data⟩).map (·.1)).getD (0)) (fromAd 3 TT.memRdData (linked)) (0) (0) ([])), ((fun (s : State) (tag : Nat) (status : Fin 256) (data : List Byte) => ((s.takeCd ⟨3, TT.memRdData, noTenant, 0, tag, leBytes 1 status.val ++ data⟩).map (·.2)).getD (fromAd 3 TT.memRdData (linked))) (fromAd 3 TT.memRdData (linked)) (0) (0) ([])), ⟨0, false, .window, 0⟩, by decide +kernel⟩,
   ⟨fromAd 3 TT.memRdData (linked.silSet fun l => { l with reqs := [⟨0, false, .window, 0⟩] }), 0, 0, [], ((fun (s : State) (tag : Nat) (status : Fin 256) (data : List Byte) => ((s.takeCd ⟨3, TT.memRdData, noTenant, 0, tag, leBytes 1 status.val ++ data⟩).map (·.1)).getD (0)) (fromAd 3 TT.memRdData (linked.silSet fun l => { l with reqs := [⟨0, false, .window, 0⟩] })) (0) (0) ([])), ((fun (s : State) (tag : Nat) (status : Fin 256) (data : List Byte) => ((s.takeCd ⟨3, TT.memRdData, noTenant, 0, tag, leBytes 1 status.val ++ data⟩).map (·.2)).getD (fromAd 3 TT.memRdData (linked.silSet fun l => { l with reqs := [⟨0, false, .window, 0⟩] }))) (fromAd 3 TT.memRdData (linked.silSet fun l => { l with reqs := [⟨0, false, .window, 0⟩] })) (0) (0) ([])), ⟨0, false, .window, 0⟩, by decide +kernel⟩,
   ⟨fromAd 3 TT.memRdData (linked.silSet fun l => { l with reqs := [⟨0, false, .audit 3, 0⟩] }), 0, 0, [], ((fun (s : State) (tag : Nat) (status : Fin 256) (data : List Byte) => ((s.takeCd ⟨3, TT.memRdData, noTenant, 0, tag, leBytes 1 status.val ++ data⟩).map (·.1)).getD (0)) (fromAd 3 TT.memRdData (linked.silSet fun l => { l with reqs := [⟨0, false, .audit 3, 0⟩] })) (0) (0) ([])), ((fun (s : State) (tag : Nat) (status : Fin 256) (data : List Byte) => ((s.takeCd ⟨3, TT.memRdData, noTenant, 0, tag, leBytes 1 status.val ++ data⟩).map (·.2)).getD (fromAd 3 TT.memRdData (linked.silSet fun l => { l with reqs := [⟨0, false, .audit 3, 0⟩] }))) (fromAd 3 TT.memRdData (linked.silSet fun l => { l with reqs := [⟨0, false, .audit 3, 0⟩] })) (0) (0) ([])), ⟨0, false, .audit 3, 0⟩, 3, by decide +kernel⟩,
   ⟨fromAd 3 TT.memRdData (linked.silSet fun l => { l with reqs := [⟨0, false, .xfer true 0 0, 0⟩] }), 0, 0, [], ((fun (s : State) (tag : Nat) (status : Fin 256) (data : List Byte) => ((s.takeCd ⟨3, TT.memRdData, noTenant, 0, tag, leBytes 1 status.val ++ data⟩).map (·.1)).getD (0)) (fromAd 3 TT.memRdData (linked.silSet fun l => { l with reqs := [⟨0, false, .xfer true 0 0, 0⟩] })) (0) (0) ([])), ((fun (s : State) (tag : Nat) (status : Fin 256) (data : List Byte) => ((s.takeCd ⟨3, TT.memRdData, noTenant, 0, tag, leBytes 1 status.val ++ data⟩).map (·.2)).getD (fromAd 3 TT.memRdData (linked.silSet fun l => { l with reqs := [⟨0, false, .xfer true 0 0, 0⟩] }))) (fromAd 3 TT.memRdData (linked.silSet fun l => { l with reqs := [⟨0, false, .xfer true 0 0, 0⟩] })) (0) (0) ([])), ⟨0, false, .xfer true 0 0, 0⟩, true, 0, 0, by decide +kernel⟩,
   ⟨fromAd 3 TT.memWrAck (linked), 0, 0, [], ((fun (s : State) (tag : Nat) (status : Fin 256) => ((s.takeCd ⟨3, TT.memWrAck, noTenant, 0, tag, leBytes 1 status.val⟩).map (·.1)).getD (0)) (fromAd 3 TT.memWrAck (linked)) (0) (0)), ((fun (s : State) (tag : Nat) (status : Fin 256) => ((s.takeCd ⟨3, TT.memWrAck, noTenant, 0, tag, leBytes 1 status.val⟩).map (·.2)).getD (fromAd 3 TT.memWrAck (linked))) (fromAd 3 TT.memWrAck (linked)) (0) (0)), ⟨0, false, .window, 0⟩, by decide +kernel⟩,
   ⟨fromAd 3 TT.memWrAck (linked.silSet fun l => { l with reqs := [⟨0, true, .window, 0⟩] }), 0, 0, [], ((fun (s : State) (tag : Nat) (status : Fin 256) => ((s.takeCd ⟨3, TT.memWrAck, noTenant, 0, tag, leBytes 1 status.val⟩).map (·.1)).getD (0)) (fromAd 3 TT.memWrAck (linked.silSet fun l => { l with reqs := [⟨0, true, .window, 0⟩] })) (0) (0)), ((fun (s : State) (tag : Nat) (status : Fin 256) => ((s.takeCd ⟨3, TT.memWrAck, noTenant, 0, tag, leBytes 1 status.val⟩).map (·.2)).getD (fromAd 3 TT.memWrAck (linked.silSet fun l => { l with reqs := [⟨0, true, .window, 0⟩] }))) (fromAd 3 TT.memWrAck (linked.silSet fun l => { l with reqs := [⟨0, true, .window, 0⟩] })) (0) (0)), ⟨0, true, .window, 0⟩, by decide +kernel⟩,
   ⟨fromAd 3 TT.memWrAck (linked.silSet fun l => { l with reqs := [⟨0, true, .audit 3, 0⟩] }), 0, 0, [], ((fun (s : State) (tag : Nat) (status : Fin 256) => ((s.takeCd ⟨3, TT.memWrAck, noTenant, 0, tag, leBytes 1 status.val⟩).map (·.1)).getD (0)) (fromAd 3 TT.memWrAck (linked.silSet fun l => { l with reqs := [⟨0, true, .audit 3, 0⟩] })) (0) (0)), ((fun (s : State) (tag : Nat) (status : Fin 256) => ((s.takeCd ⟨3, TT.memWrAck, noTenant, 0, tag, leBytes 1 status.val⟩).map (·.2)).getD (fromAd 3 TT.memWrAck (linked.silSet fun l => { l with reqs := [⟨0, true, .audit 3, 0⟩] }))) (fromAd 3 TT.memWrAck (linked.silSet fun l => { l with reqs := [⟨0, true, .audit 3, 0⟩] })) (0) (0)), ⟨0, true, .audit 3, 0⟩, 3, by decide +kernel⟩,
   ⟨fromAd 3 TT.memWrAck (linked.silSet fun l => { l with reqs := [⟨0, true, .xfer true 0 0, 0⟩] }), 0, 0, [], ((fun (s : State) (tag : Nat) (status : Fin 256) => ((s.takeCd ⟨3, TT.memWrAck, noTenant, 0, tag, leBytes 1 status.val⟩).map (·.1)).getD (0)) (fromAd 3 TT.memWrAck (linked.silSet fun l => { l with reqs := [⟨0, true, .xfer true 0 0, 0⟩] })) (0) (0)), ((fun (s : State) (tag : Nat) (status : Fin 256) => ((s.takeCd ⟨3, TT.memWrAck, noTenant, 0, tag, leBytes 1 status.val⟩).map (·.2)).getD (fromAd 3 TT.memWrAck (linked.silSet fun l => { l with reqs := [⟨0, true, .xfer true 0 0, 0⟩] }))) (fromAd 3 TT.memWrAck (linked.silSet fun l => { l with reqs := [⟨0, true, .xfer true 0 0, 0⟩] })) (0) (0)), ⟨0, true, .xfer true 0 0, 0⟩, true, 0, 0, by decide +kernel⟩,
   ⟨fromAd 3 TT.memWrAck (linked.silSet fun l => { l with reqs := [⟨0, true, .load, 0⟩] }), 0, 0, [], ((fun (s : State) (tag : Nat) (status : Fin 256) => ((s.takeCd ⟨3, TT.memWrAck, noTenant, 0, tag, leBytes 1 status.val⟩).map (·.1)).getD (0)) (fromAd 3 TT.memWrAck (linked.silSet fun l => { l with reqs := [⟨0, true, .load, 0⟩] })) (0) (0)), ((fun (s : State) (tag : Nat) (status : Fin 256) => ((s.takeCd ⟨3, TT.memWrAck, noTenant, 0, tag, leBytes 1 status.val⟩).map (·.2)).getD (fromAd 3 TT.memWrAck (linked.silSet fun l => { l with reqs := [⟨0, true, .load, 0⟩] }))) (fromAd 3 TT.memWrAck (linked.silSet fun l => { l with reqs := [⟨0, true, .load, 0⟩] })) (0) (0)), ⟨0, true, .load, 0⟩, by decide +kernel⟩,
   ⟨{ reqUp false with now := 100 * usNs }, ⟨0, false, .window, 0⟩, by decide +kernel⟩⟩

theorem witness_AssayAndTrust :
    (∃ (s : State) (tenant : Fin 256) (count : Fin 256) (tag : Fin 65536) (body : List Byte) (k : Nat) (v : State) (u : State) (q : Qual), (s.takeCd ⟨1, TT.record, tenant.val, count.val, tag.val, body⟩ = some (k, v)) ∧ (v.recordRate = (false, u)) ∧ (u.asy.qual = none)) ∧
    (∃ (s : State) (tenant : Fin 256) (count : Fin 256) (tag : Fin 65536) (body : List Byte) (k : Nat) (v : State) (u : State) (q : Qual), (s.takeCd ⟨1, TT.record, tenant.val, count.val, tag.val, body⟩ = some (k, v)) ∧ (v.recordRate = (true, u))) ∧
    (∃ (s : State) (tenant : Fin 256) (count : Fin 256) (tag : Fin 65536) (body : List Byte) (k : Nat) (v : State) (u : State) (q : Qual), (s.takeCd ⟨1, TT.record, tenant.val, count.val, tag.val, body⟩ = some (k, v)) ∧ (v.recordRate = (false, u)) ∧ (u.asy.qual = some q) ∧ (0x10 ≤ byteAt body 2) ∧ (byteAt body 2 < 0x14)) ∧
    (∃ (s : State) (ce : Bool) (m : RecMsg) (l : List RecMsg), (s.on Dom.core = true) ∧ (s.asy.intake = m :: l)) ∧
    (∃ (s : State) (e : Fin 32), (s.goodOf e.val ≠ 0) ∧ (s.goodOf e.val < s.now)) ∧
    (∃ (s : State) (tenant : Fin 16) (cam : Fin 4) (ctr : Nat) (e : RunEntry), (s.runEntry tenant.val cam.val ctr = some e) ∧ (s.runOver e = true)) ∧
    (∃ (s : State), (s.on Dom.core = true) ∧ (s.getF R.ASY_TRUST_STATE = 2)) ∧
    (∃ (s : State), (s.on Dom.core = true) ∧ (s.getF R.ASY_TRUST_STATE ≠ 2)) ∧
    (∃ (s : State), (s.on Dom.core = true) ∧ (s.getF R.ASY_TRUST_STATE ≠ 0)) ∧
    (∃ (s : State), (s.on Dom.core = true) ∧ (s.getF R.ASY_TRUST_STATE = 0)) ∧
    (∃ (s : State), (s.on Dom.core = true) ∧ (s.getF R.ASY_TRUST_QUAL = 4) ∧ (s.inWork = true)) ∧
    (∃ (s : State) (copies : Bool), (s.on Dom.core = true)) ∧
    (∃ (s : State) (b : List Byte), (s.on Dom.core = true) ∧ (s.mayQualify = true) ∧ (s.katSet = some b) ∧ (s.katOk b = true)) ∧
    (∃ (s : State) (b : List Byte), (s.on Dom.core = true) ∧ (s.mayQualify = true) ∧ (s.katSet = some b) ∧ (s.katOk b = false)) ∧
    (∃ (s : State) (q : Qual) (b : List Byte), (s.asy.qual = some q) ∧ (s.isSet R.SIL_DBG_EN = false) ∧ (s.asy.qualBad = false) ∧ (s.katSet = some b) ∧ (katCount b ≤ q.idx)) ∧
    (∃ (s : State) (q : Qual) (b : List Byte), (s.asy.qual = some q) ∧ (s.isSet R.SIL_DBG_EN = false) ∧ (s.asy.qualBad = true)) ∧
    (∃ (s : State) (q : Qual) (b : List Byte) (n : Nat), (s.asy.qual = some q) ∧ (s.due .qualRecord = true) ∧ (s.katSet = some b) ∧ (((katCases b (katCount b) 32)[q.idx]?.map KatCase.nrec) = some n) ∧ (n = 0)) ∧
    (∃ (s : State) (q : Qual) (b : List Byte) (n : Nat), (s.asy.qual = some q) ∧ (s.due .qualRecord = true) ∧ (s.katSet = some b) ∧ (((katCases b (katCount b) 32)[q.idx]?.map KatCase.nrec) = some n) ∧ (n ≠ 0)) ∧
    (∃ (s : State) (code : Nat), (s.on Dom.core = true) ∧ (s.on Dom.adCtl = true) ∧ (code % 65536 = rstCode) ∧ (s.isSet R.SIL_DBG_EN = true)) ∧
    (∃ (s : State) (code : Nat), (s.on Dom.core = true) ∧ (s.on Dom.adCtl = true) ∧ (code % 65536 = rstCode) ∧ (s.isSet R.SIL_DBG_EN = false) ∧ (s.escalations.length < 4)) ∧
    (∃ (s : State) (code : Nat), (s.on Dom.core = true) ∧ (s.on Dom.adCtl = true) ∧ (code % 65536 = rstCode) ∧ (s.isSet R.SIL_DBG_EN = false) ∧ (4 ≤ s.escalations.length)) :=
  ⟨⟨fromAd 1 TT.record (linked), 0, 0, 0, [], ((fun (s : State) (tenant : Fin 256) (count : Fin 256) (tag : Fin 65536) (body : List Byte) => ((s.takeCd ⟨1, TT.record, tenant.val, count.val, tag.val, body⟩).map (·.1)).getD (0)) (fromAd 1 TT.record (linked)) (0) (0) (0) ([])), ((fun (s : State) (tenant : Fin 256) (count : Fin 256) (tag : Fin 65536) (body : List Byte) => ((s.takeCd ⟨1, TT.record, tenant.val, count.val, tag.val, body⟩).map (·.2)).getD (fromAd 1 TT.record (linked))) (fromAd 1 TT.record (linked)) (0) (0) (0) ([])), ((fun (v : State) => (v.recordRate).2) (((fun (s : State) (tenant : Fin 256) (count : Fin 256) (tag : Fin 65536) (body : List Byte) => ((s.takeCd ⟨1, TT.record, tenant.val, count.val, tag.val, body⟩).map (·.2)).getD (fromAd 1 TT.record (linked))) (fromAd 1 TT.record (linked)) (0) (0) (0) ([])))), ⟨0, false, [], 0⟩, by decide +kernel⟩,
   ⟨fromAd 1 TT.record ((linked).silSet fun l => { l with recAt := List.replicate 21 0 }), 0, 0, 0, [], ((fun (s : State) (tenant : Fin 256) (count : Fin 256) (tag : Fin 65536) (body : List Byte) => ((s.takeCd ⟨1, TT.record, tenant.val, count.val, tag.val, body⟩).map (·.1)).getD (0)) (fromAd 1 TT.record ((linked).silSet fun l => { l with recAt := List.replicate 21 0 })) (0) (0) (0) ([])), ((fun (s : State) (tenant : Fin 256) (count : Fin 256) (tag : Fin 65536) (body : List Byte) => ((s.takeCd ⟨1, TT.record, tenant.val, count.val, tag.val, body⟩).map (·.2)).getD (fromAd 1 TT.record ((linked).silSet fun l => { l with recAt := List.replicate 21 0 }))) (fromAd 1 TT.record ((linked).silSet fun l => { l with recAt := List.replicate 21 0 })) (0) (0) (0) ([])), ((fun (v : State) => (v.recordRate).2) (((fun (s : State) (tenant : Fin 256) (count : Fin 256) (tag : Fin 65536) (body : List Byte) => ((s.takeCd ⟨1, TT.record, tenant.val, count.val, tag.val, body⟩).map (·.2)).getD (fromAd 1 TT.record ((linked).silSet fun l => { l with recAt := List.replicate 21 0 }))) (fromAd 1 TT.record ((linked).silSet fun l => { l with recAt := List.replicate 21 0 })) (0) (0) (0) ([])))), ⟨0, false, [], 0⟩, by decide +kernel⟩,
   ⟨fromAd 1 TT.record (qualUp 0), 0, 0, 0, [0, 0, 0x10], ((fun (s : State) (tenant : Fin 256) (count : Fin 256) (tag : Fin 65536) (body : List Byte) => ((s.takeCd ⟨1, TT.record, tenant.val, count.val, tag.val, body⟩).map (·.1)).getD (0)) (fromAd 1 TT.record (qualUp 0)) (0) (0) (0) ([0, 0, 0x10])), ((fun (s : State) (tenant : Fin 256) (count : Fin 256) (tag : Fin 65536) (body : List Byte) => ((s.takeCd ⟨1, TT.record, tenant.val, count.val, tag.val, body⟩).map (·.2)).getD (fromAd 1 TT.record (qualUp 0))) (fromAd 1 TT.record (qualUp 0)) (0) (0) (0) ([0, 0, 0x10])), ((fun (v : State) => (v.recordRate).2) (((fun (s : State) (tenant : Fin 256) (count : Fin 256) (tag : Fin 65536) (body : List Byte) => ((s.takeCd ⟨1, TT.record, tenant.val, count.val, tag.val, body⟩).map (·.2)).getD (fromAd 1 TT.record (qualUp 0))) (fromAd 1 TT.record (qualUp 0)) (0) (0) (0) ([0, 0, 0x10])))), ((fun (u : State) => (u.asy.qual).getD (⟨0, false, [], 0⟩)) (((fun (v : State) => (v.recordRate).2) (((fun (s : State) (tenant : Fin 256) (count : Fin 256) (tag : Fin 65536) (body : List Byte) => ((s.takeCd ⟨1, TT.record, tenant.val, count.val, tag.val, body⟩).map (·.2)).getD (fromAd 1 TT.record (qualUp 0))) (fromAd 1 TT.record (qualUp 0)) (0) (0) (0) ([0, 0, 0x10])))))), by decide +kernel⟩,
   ⟨up.asySet fun a => { a with intake := [recMsg0] }, false, recMsg0, [], by decide +kernel⟩,
   ⟨{ (up.asySet fun a => { a with good := [(31, 5)] }) with now := 6 }, 31, by decide +kernel⟩,
   ⟨up.asySet fun a => { a with runs := [run0], stamps := [⟨0, 1, 0, 0, 0⟩] }, 0, 0, 0, ((fun (s : State) (tenant : Fin 16) (cam : Fin 4) (ctr : Nat) => (s.runEntry tenant.val cam.val ctr).getD (run0)) (up.asySet fun a => { a with runs := [run0], stamps := [⟨0, 1, 0, 0, 0⟩] }) (0) (0) (0)), by decide +kernel⟩,
   ⟨up.setF R.ASY_TRUST_STATE 2, by decide +kernel⟩,
   ⟨up, by decide +kernel⟩,
   ⟨up.setF R.ASY_TRUST_STATE 2, by decide +kernel⟩,
   ⟨up, by decide +kernel⟩,
   ⟨linked.setF R.ASY_TRUST_QUAL 4, by decide +kernel⟩,
   ⟨up, false, by decide +kernel⟩,
   ⟨mayUp, ((fun (s : State) => (s.katSet).getD ([])) (mayUp)), by decide +kernel⟩,
   ⟨mayUp.setF (R.ING_CAM_CFG_EN 0) 0, ((fun (s : State) => (s.katSet).getD ([])) (mayUp.setF (R.ING_CAM_CFG_EN 0) 0)), by decide +kernel⟩,
   ⟨qualUp 1, ((fun (s : State) => (s.asy.qual).getD (⟨0, false, [], 0⟩)) (qualUp 1)), ((fun (s : State) => (s.katSet).getD ([])) (qualUp 1)), by decide +kernel⟩,
   ⟨(qualUp 1).asySet fun a => { a with qualBad := true }, ((fun (s : State) => (s.asy.qual).getD (⟨0, false, [], 0⟩)) ((qualUp 1).asySet fun a => { a with qualBad := true })), katBytes, by decide +kernel⟩,
   ⟨(qualUp 0).armAt .qualRecord 0, ((fun (s : State) => (s.asy.qual).getD (⟨0, false, [], 0⟩)) ((qualUp 0).armAt .qualRecord 0)), ((fun (s : State) => (s.katSet).getD ([])) ((qualUp 0).armAt .qualRecord 0)), ((fun (q : Qual) (b : List Byte) => (((katCases b (katCount b) 32)[q.idx]?.map KatCase.nrec)).getD (0)) (((fun (s : State) => (s.asy.qual).getD (⟨0, false, [], 0⟩)) ((qualUp 0).armAt .qualRecord 0))) (((fun (s : State) => (s.katSet).getD ([])) ((qualUp 0).armAt .qualRecord 0)))), by decide +kernel⟩,
   ⟨((katWith 1).asySet fun a => { a with qual := some ⟨0, false, [], 0⟩ }).armAt .qualRecord 0, ((fun (s : State) => (s.asy.qual).getD (⟨0, false, [], 0⟩)) (((katWith 1).asySet fun a => { a with qual := some ⟨0, false, [], 0⟩ }).armAt .qualRecord 0)), ((fun (s : State) => (s.katSet).getD ([])) (((katWith 1).asySet fun a => { a with qual := some ⟨0, false, [], 0⟩ }).armAt .qualRecord 0)), ((fun (q : Qual) (b : List Byte) => (((katCases b (katCount b) 32)[q.idx]?.map KatCase.nrec)).getD (0)) (((fun (s : State) => (s.asy.qual).getD (⟨0, false, [], 0⟩)) (((katWith 1).asySet fun a => { a with qual := some ⟨0, false, [], 0⟩ }).armAt .qualRecord 0))) (((fun (s : State) => (s.katSet).getD ([])) (((katWith 1).asySet fun a => { a with qual := some ⟨0, false, [], 0⟩ }).armAt .qualRecord 0)))), by decide +kernel⟩,
   ⟨up.setF R.SIL_DBG_EN 1, 0x5E7A, by decide +kernel⟩,
   ⟨up, 0x5E7A, by decide +kernel⟩,
   ⟨up.asySet fun a => { a with resetsAt := [0, 0, 0, 0] }, 0x5E7A, by decide +kernel⟩⟩

theorem witness_BusAndSerial :
    (∃ (s : State) (core : Fin 2) (addr : Nat) (size : Nat) (data : Word) (env : BusEnv) (l : List FieldRow), (0x40000000 ≤ addr) ∧ (addr < 0x50000000) ∧ (env.differs = none ∨ s.lockstep = false) ∧ (fieldsAt addr = some l) ∧ (size = 4) ∧ (s.c1Refused core (blockOf addr) (addr % 0x10000) = false) ∧ (s.on (blockDom (blockOf addr)) = true) ∧ (cmdWrite core (blockOf addr) (addr % 0x10000) data env s = none)) ∧
    (∃ (s : State) (core : Fin 2) (addr : Nat) (size : Nat) (data : Word) (env : BusEnv) (l : List FieldRow), (0x40000000 ≤ addr) ∧ (addr < 0x50000000) ∧ (env.differs = none ∨ s.lockstep = false) ∧ (fieldsAt addr = none ∨ size ≠ 4 ∨ s.c1Refused core (blockOf addr) (addr % 0x10000) = true ∨ s.on (blockDom (blockOf addr)) = false)) ∧
    (∃ (s : State) (core : Fin 2) (addr : Nat) (size : Nat) (data : Word) (env : BusEnv) (l : List FieldRow) (g : Fin 3), (0x40000000 ≤ addr) ∧ (addr < 0x50000000) ∧ (env.differs = some g) ∧ (s.lockstep = true)) ∧
    (∃ (s : State) (op : BusOp) (addr : Nat) (size : Nat) (data : Word) (ecc : Fin 3) (env : BusEnv) (a : State), (s.dbgOn = true) ∧ (s.cpu.dbg.sberror = 0) ∧ (size ≠ 4)) ∧
    (∃ (s : State) (op : BusOp) (addr : Nat) (size : Nat) (data : Word) (ecc : Fin 3) (env : BusEnv) (a : State), (s.dbgOn = true) ∧ (s.cpu.dbg.sberror = 0) ∧ (size = 4) ∧ (a = ((if op = .store then s.busStore .debug addr size data env else s.busLoad .debug addr size ecc).dbgSet fun d => { d with sbaddr := addr })) ∧ (a.resp = .busError)) ∧
    (∃ (s : State) (op : BusOp) (addr : Nat) (size : Nat) (data : Word) (ecc : Fin 3) (env : BusEnv) (a : State) (w : Word), (s.dbgOn = true) ∧ (s.cpu.dbg.sberror = 0) ∧ (size = 4) ∧ (a = ((if op = .store then s.busStore .debug addr size data env else s.busLoad .debug addr size ecc).dbgSet fun d => { d with sbaddr := addr })) ∧ (a.resp = .data w)) ∧
    (∃ (s : State) (op : BusOp) (addr : Nat) (size : Nat) (data : Word) (ecc : Fin 3) (env : BusEnv) (a : State), (s.dbgOn = true) ∧ (s.cpu.dbg.sberror = 0) ∧ (size = 4) ∧ (a = ((if op = .store then s.busStore .debug addr size data env else s.busLoad .debug addr size ecc).dbgSet fun d => { d with sbaddr := addr })) ∧ (a.resp = .ok)) ∧
    (∃ (s : State) (op : BusOp) (addr : Nat) (size : Nat) (data : Word) (ecc : Fin 3) (env : BusEnv) (a : State) (n : Nat), (s.dbgOn = true) ∧ (s.cpu.dbg.sberror = 0) ∧ (s.coresRun = true) ∧ (env.differs = none)) ∧
    (∃ (s : State), (s.on Dom.aon = true) ∧ (s.on Dom.core = true)) ∧
    (∃ (s : State) (i : Fin 2) (addr : Nat) (a10 : Bool) (rd : Bool) (len : Nat) (rstart : Bool), (s.on Dom.core = true) ∧ (len % 256 ≠ 0) ∧ (s.isSet (R.I2C_STATUS_BUSY i.val) = false)) ∧
    (∃ (s : State) (i : Fin 2) (addr : Nat) (a10 : Bool) (rd : Bool) (len : Nat) (rstart : Bool), (s.on Dom.core = true) ∧ (s.isSet (R.I2C_STATUS_BUSY i.val) = true ∨ len % 256 = 0)) ∧
    (∃ (s : State) (i : Fin 2) (nack : Fin 3) (count : Nat) (data : List Byte), (s.isSet (R.I2C_STATUS_BUSY i.val) = true) ∧ ((s.i2cOf i.val).run = true)) ∧
    (∃ (s : State) (i : Fin 2) (byte : Nat) (bit : Nat) (data : List Byte) (bus : I2cLine), (s.isSet (R.I2C_STATUS_BUSY i.val) = true) ∧ ((s.i2cOf i.val).run = true)) ∧
    (∃ (s : State) (i : Fin 2) (byte : Nat) (bit : Nat) (data : List Byte) (bus : I2cLine), (s.on Dom.core = true)) ∧
    (∃ (s : State) (i : Fin 2) (byte : Nat) (bit : Nat) (data : List Byte) (bus : I2cLine) (t : Nat), (s.isSet (R.I2C_STATUS_BUSY i.val) = true) ∧ ((s.i2cOf i.val).run = false) ∧ ((s.i2cOf i.val).freeAt = some t) ∧ (t + s.getF (R.I2C_STATUS_ATTEMPT i.val) * 32 * s.i2cPeriod i.val ≤ s.now)) ∧
    (∃ (s : State) (i : Fin 2) (count : Nat) (data : List Byte), (s.isSet (R.I2C_STATUS_BUSY i.val) = true) ∧ ((s.i2cOf i.val).run = true)) ∧
    (∃ (s : State) (i : Fin 2) (data : Byte) (b : Byte) (l : List Byte), (s.on Dom.core = true) ∧ ((s.uartOf i.val).tx.length < 64)) ∧
    (∃ (s : State) (i : Fin 2) (data : Byte) (b : Byte) (l : List Byte), (s.on Dom.core = true) ∧ (s.spi.tx.length < 32)) ∧
    (∃ (s : State) (i : Fin 2) (data : Byte) (b : Byte) (l : List Byte), (s.on Dom.core = true) ∧ ((s.i2cOf i.val).rx = b :: l)) ∧
    (∃ (s : State) (i : Fin 2) (data : Byte), (s.on Dom.core = true) ∧ ((s.uartOf i.val).rx.length < 64) ∧ ((s.cpu.bootRom && s.isSet R.SYS_BOOT_RECOVERY) = false)) ∧
    (∃ (s : State) (i : Fin 2) (data : Byte), (s.on Dom.core = true) ∧ (64 ≤ (s.uartOf i.val).rx.length)) ∧
    (∃ (s : State) (i : Fin 2) (data : Byte), (s.on Dom.core = true) ∧ (s.uartParity i.val = true)) ∧
    (∃ (s : State) (i : Fin 2) (len : Fin 256) (cs : Fin 8) (hold : Bool) (miso : List Byte), (s.on Dom.core = true) ∧ ((s.uartOf i.val).tx ≠ []) ∧ (s.uartFlow i.val = false)) ∧
    (∃ (s : State) (i : Fin 2) (len : Fin 256) (cs : Fin 8) (hold : Bool) (miso : List Byte), (s.on Dom.core = true) ∧ (s.isSet R.SPI_STATUS_BUSY = false) ∧ (len.val ≠ 0) ∧ (cs.val = 0)) ∧
    (∃ (s : State) (i : Fin 2) (len : Fin 256) (cs : Fin 8) (hold : Bool) (miso : List Byte), (s.on Dom.core = true) ∧ (s.isSet R.SPI_STATUS_BUSY = true) ∧ (s.getF R.SPI_STATUS_XFERRED = s.spi.len)) ∧
    (∃ (s : State) (data : Word) (pin : Fin 24) (level : Bool), (s.on Dom.core = true) ∧ (s.pinDrive pin.val = none) ∧ (s.bitF R.GPIO_IN_LEVEL pin.val ≠ level)) ∧
    (∃ (s : State) (len : Fin 512) (t : State) (op : Nat) (a : Nat) (n : Nat), (s.on Dom.core = true) ∧ (t.isSet R.QSPI_STATUS_BUSY = false) ∧ (n ≠ 0) ∧ (n ≤ 256 ∨ (op ≠ 1 ∧ op ≠ 4)) ∧ (a + n ≤ t.flashSize) ∧ (op = 4 ∨ t.flashMay a n = true)) ∧
    (∃ (s : State) (k : QspiCmd), (s.qspi = some k) ∧ (s.due .qspi = true) ∧ (k.op ≠ 4)) :=
  ⟨⟨up, 0, 0x40010034, (4), 1, env0, ((fun (addr : Nat) => (fieldsAt addr).getD ([])) (0x40010034)), by decide +kernel⟩,
   ⟨up, 0, 0x4000FFFC, 4, 0, env0, [], by decide +kernel⟩,
   ⟨coreUp, 0, 0x40000000, 4, 0, { env0 with differs := some 0 }, (fieldsAt 0x40000000).getD [], ((fun (env : BusEnv) => (env.differs).getD (0)) ({ env0 with differs := some 0 })), by decide +kernel⟩,
   ⟨dbgUp, .load, 0x10000000, 0, 7, 0, env0, dbgUp, by decide +kernel⟩,
   ⟨dbgUp, .load, 0x4000FFFC, 4, 0, 0, env0, ((fun (s : State) (op : BusOp) (addr : Nat) (size : Nat) (data : Word) (ecc : Fin 3) (env : BusEnv) => ((if op = .store then s.busStore .debug addr size data env else s.busLoad .debug addr size ecc).dbgSet fun d => { d with sbaddr := addr })) (dbgUp) (.load) (0x4000FFFC) (4) (0) (0) (env0)), by decide +kernel⟩,
   ⟨dbgUp, .load, 0x10000000, (4), 7, 0, env0, ((fun (s : State) (op : BusOp) (addr : Nat) (size : Nat) (data : Word) (ecc : Fin 3) (env : BusEnv) => ((if op = .store then s.busStore .debug addr size data env else s.busLoad .debug addr size ecc).dbgSet fun d => { d with sbaddr := addr })) (dbgUp) (.load) (0x10000000) ((4)) (7) (0) (env0)), 0, by decide +kernel⟩,
   ⟨dbgUp, .store, 0x10000000, 4, 7, 0, env0, ((fun (s : State) (op : BusOp) (addr : Nat) (size : Nat) (data : Word) (ecc : Fin 3) (env : BusEnv) => ((if op = .store then s.busStore .debug addr size data env else s.busLoad .debug addr size ecc).dbgSet fun d => { d with sbaddr := addr })) (dbgUp) (.store) (0x10000000) (4) (7) (0) (env0)), by decide +kernel⟩,
   ⟨coreUp.setF R.SYS_DBG_ACTIVE 1, .load, 0x10000000, 1, 0, 0, env0, coreUp.setF R.SYS_DBG_ACTIVE 1, 0, by decide +kernel⟩,
   ⟨up, by decide +kernel⟩,
   ⟨up, 1, 0x50, false, true, 255, false, by decide +kernel⟩,
   ⟨up, 1, 0, false, false, 0, false, by decide +kernel⟩,
   ⟨i2cUp, 1, 0, 0, [], by decide +kernel⟩,
   ⟨i2cUp, 1, 0, 7, [], .quiet, by decide +kernel⟩,
   ⟨up, 1, 0, 0, [], .quiet, by decide +kernel⟩,
   ⟨up.setF (R.I2C_STATUS_BUSY 1) 1, 1, 0, 7, [], .quiet, ((fun (s : State) (i : Fin 2) => ((s.i2cOf i.val).freeAt).getD (0)) (up.setF (R.I2C_STATUS_BUSY 1) 1) (1)), by decide +kernel⟩,
   ⟨i2cUp, 1, 0, [], by decide +kernel⟩,
   ⟨up.setI2c 1 fun k => { k with rx := [9] }, 1, 255, 9, [], by decide +kernel⟩,
   ⟨up.setI2c 1 fun k => { k with rx := [9] }, 1, 255, 9, [], by decide +kernel⟩,
   ⟨up.setI2c 1 fun k => { k with rx := [9] }, 1, 255, 9, [], by decide +kernel⟩,
   ⟨up, 0, 255, by decide +kernel⟩,
   ⟨up.setUart 1 ⟨[], List.replicate 64 0⟩, 1, 255, by decide +kernel⟩,
   ⟨up.setF (R.UART_CFG_PARITY 1) 1, 1, 255, by decide +kernel⟩,
   ⟨up.setUart 0 ⟨[1], []⟩, 0, 255, 0, false, [], by decide +kernel⟩,
   ⟨up.setUart 0 ⟨[1], []⟩, 0, 255, 0, false, [], by decide +kernel⟩,
   ⟨up.setF R.SPI_STATUS_BUSY 1, 0, 255, 0, false, [], by decide +kernel⟩,
   ⟨up, 0xFFFFFFFF, 23, true, by decide +kernel⟩,
   ⟨flashUp, 1, flashUp, 4, 0x700000, 1, by decide +kernel⟩,
   ⟨qspiUp 1, ((fun (s : State) => (s.qspi).getD (⟨1, 0, 1, [5]⟩)) (qspiUp 1)), by decide +kernel⟩⟩

theorem witness_TimeBlock :
    (∃ (s : State) (n : Nat) (c : Instr) (u : State), (s.on Dom.net = true) ∧ ((c = .selA ∧ n = 0) ∨ (c = .selB ∧ n = 1)) ∧ (u = ((s.answer .ok).selectBase n).timEval)) ∧
    (∃ (s : State) (n : Fin 4) (step : Word), (s.on Dom.net = true) ∧ (n.val < 2)) ∧
    (∃ (s : State) (n : Fin 4) (step : Word), (s.on Dom.net = true) ∧ (2 ≤ n.val)) ∧
    (∃ (s : State) (data : Word) (d : Fin 2) (n : Fin 4), (s.on Dom.net = true) ∧ (s.due (.sync d.val) = true)) ∧
    (∃ (s : State) (data : Word) (d : Fin 2) (n : Fin 4), (s.on Dom.net = true) ∧ (s.tim.wraps.contains n.val = true)) ∧
    (∃ (s : State) (k : Fin 8), (s.on Dom.net = true) ∧ (s.isSet (R.TIM_TTRG_CFG_EN k.val) = true) ∧ (s.ttrgHolds k.val = true)) ∧
    (∃ (s : State) (k : Fin 8), (s.getF (R.TIM_TTRG_PERIOD_NS k.val) ≤ 2147483647) ∧ (s.isSet (R.TIM_TTRG_CFG_HALF k.val) = false)) ∧
    (∃ (s : State) (k : Fin 8) (data : Word) (pin : Fin 4), (s.on Dom.net = true) ∧ (data.toNat % 16 < 2 ∨ (5 < data.toNat % 16 ∧ data.toNat % 16 ≤ 9))) ∧
    (∃ (s : State) (k : Fin 8) (data : Word) (pin : Fin 4), (s.on Dom.net = true) ∧ (data.toNat.testBit 8 = true) ∧ (2 ≤ data.toNat % 16) ∧ (data.toNat % 16 ≤ 5) ∧ ((s.cfg Img.PINS_FSYNC_EN 0).testBit (data.toNat % 16 - 2) = false)) ∧
    (∃ (s : State) (k : Fin 8) (data : Word) (pin : Fin 4), (s.on Dom.net = true) ∧ (s.due (.fsync pin.val) = true)) :=
  ⟨⟨up, 0, .selA, ((fun (s : State) (n : Nat) => ((s.answer .ok).selectBase n).timEval) (up) (0)), by decide +kernel⟩,
   ⟨up, 1, 0x80000000, by decide +kernel⟩,
   ⟨up, 2, 5, by decide +kernel⟩,
   ⟨(up.armAt (.sync 1) 0).timSet fun t => { t with wraps := [3] }, 0xC0000000, 1, 3, by decide +kernel⟩,
   ⟨(up.armAt (.sync 1) 0).timSet fun t => { t with wraps := [3] }, 0xC0000000, 1, 3, by decide +kernel⟩,
   ⟨up.setF (R.TIM_TTRG_CFG_EN 7) 1, 7, by decide +kernel⟩,
   ⟨up, 7, by decide +kernel⟩,
   ⟨up, 0, 0, 0, by decide +kernel⟩,
   ⟨up.armAt (.fsync 3) 0, 7, 0x105, 3, by decide +kernel⟩,
   ⟨up.armAt (.fsync 3) 0, 7, 0x105, 3, by decide +kernel⟩⟩

theorem witness_ClocksAndDram :
    (∃ (s : State) (it : ClockItem) (old : ClockItem), (s.dspLive = true) ∧ (s.ad.dsp.slew = some (it, old)) ∧ (s.due .slew = true)) ∧
    (∃ (s : State) (tile : Fin 16), (s.inWork = true) ∧ (s.on Dom.adCtl = true) ∧ (s.adLive = true) ∧ (s.tileUsed tile.val = true) ∧ (s.on (Dom.tile tile.val) = false) ∧ ((s.pmu.tileAt.any fun a => decide (s.now < a + 10 * usNs)) = false)) ∧
    (∃ (s : State) (step : Fin 9) (rate : Fin 4) (density : Fin 9), (s.on Dom.adMem = true) ∧ (s.adLive = true) ∧ (s.isSet R.MC_TRAIN_DONE = false) ∧ (s.isSet R.MC_TRAIN_FAIL = false) ∧ (step.val ≠ 8) ∧ (step.val = s.getF R.MC_TRAIN_STEP + 1 ∨ (s.getF R.MC_TRAIN_STEP = 7 ∧ step.val = 3))) ∧
    (∃ (s : State) (step : Fin 9) (rate : Fin 4) (density : Fin 9), (s.on Dom.adMem = true) ∧ (s.adLive = true) ∧ (s.isSet R.MC_TRAIN_DONE = false) ∧ (s.isSet R.MC_TRAIN_FAIL = false) ∧ (step.val = 8) ∧ (s.getF R.MC_TRAIN_STEP = 7 ∨ rate.val = 3)) ∧
    (∃ (s : State) (a : Byte) (b : Byte) (hot : Bool) (drift : Bool) (channel : Fin 2), (s.adLive = true) ∧ (s.isSet R.MC_TRAIN_DONE = true) ∧ (s.due .mr4 = true)) ∧
    (∃ (s : State) (a : Byte) (b : Byte) (hot : Bool) (drift : Bool) (channel : Fin 2), (s.adLive = true) ∧ (s.isSet R.MC_TRAIN_DONE = true) ∧ (s.due .wck = true)) ∧
    (∃ (s : State) (d : Dvfs), (s.pmu.dvfs = some d) ∧ (s.due .planAck = true)) ∧
    (∃ (s : State) (data : Word) (cap : Nat), (s.on Dom.aon = true) ∧ (s.isSet R.THM_CTL_EN = false)) ∧
    (∃ (s : State) (data : Word) (cap : Nat), (s.on Dom.aon = true) ∧ (s.isSet R.THM_CTL_EN = true)) ∧
    (∃ (s : State) (d : Dvfs) (t : Trans) (mv : Option Nat), (s.due .voutPoll = true) ∧ (s.pmu.dvfs = some d)) ∧
    (∃ (s : State) (d : Dvfs) (t : Trans) (mv : Option Nat), (s.due .voutPoll = true) ∧ (s.pmu.dvfs = none) ∧ (s.pmu.trans = some t)) ∧
    (∃ (s : State) (d : Dvfs) (t : Trans) (mv : Option Nat), (s.due .vout = true) ∧ (s.pmu.dvfs = some d)) ∧
    (∃ (s : State) (d : Dvfs) (t : Trans) (mv : Option Nat), (s.due .vout = true) ∧ (s.pmu.dvfs = none) ∧ (s.pmu.trans = some t)) :=
  ⟨⟨slewUp, ((fun (s : State) => ((s.ad.dsp.slew).map (·.1)).getD (item0)) (slewUp)), ((fun (s : State) => ((s.ad.dsp.slew).map (·.2)).getD (item0)) (slewUp)), by decide +kernel⟩,
   ⟨tileOff, 3, by decide +kernel⟩,
   ⟨linked, 1, 3, 8, by decide +kernel⟩,
   ⟨linked, 8, 3, 8, by decide +kernel⟩,
   ⟨trained, 3, 3, true, true, 1, by decide +kernel⟩,
   ⟨trained, 3, 3, true, true, 1, by decide +kernel⟩,
   ⟨changing, ((fun (s : State) => (s.pmu.dvfs).getD (dvfs0)) (changing)), by decide +kernel⟩,
   ⟨up.setF R.THM_CTL_EN 0, 0x55555555, 3, by decide +kernel⟩,
   ⟨up.setF R.THM_CTL_EN 1, 0x55555555, 3, by decide +kernel⟩,
   ⟨(changing.armAt .vout 0).armAt .voutPoll 0, ((fun (s : State) => (s.pmu.dvfs).getD (dvfs0)) ((changing.armAt .vout 0).armAt .voutPoll 0)), ⟨2, false, [], [], false, []⟩, some 700, by decide +kernel⟩,
   ⟨entering, dvfs0, ((fun (s : State) => (s.pmu.trans).getD (⟨1, false, [1], [0], false, []⟩)) (entering)), none, by decide +kernel⟩,
   ⟨(changing.armAt .vout 0).armAt .voutPoll 0, ((fun (s : State) => (s.pmu.dvfs).getD (dvfs0)) ((changing.armAt .vout 0).armAt .voutPoll 0)), ⟨2, false, [], [], false, []⟩, some 700, by decide +kernel⟩,
   ⟨entering, dvfs0, ((fun (s : State) => (s.pmu.trans).getD (⟨1, false, [1], [0], false, []⟩)) (entering)), none, by decide +kernel⟩⟩

theorem witness_LinePorts :
    (∃ (s : State) (port : Fin 2) (good : Bool), (s.on Dom.net = true) ∧ (s.bitF R.NET_CTL_PORT_EN port.val = true) ∧ (s.getF (R.NET_PORT_ST_MODE port.val) ≠ 0) ∧ (s.isSet (R.NET_PORT_ST_OFF port.val) = false) ∧ (s.linkUp port.val = false)) ∧
    (∃ (s : State) (port : Fin 2), (s.linkUp port.val = true)) ∧
    (∃ (s : State) (port : Fin 2) (bytes : List Byte) (ue : Bool), (s.linkUp port.val = true) ∧ (64 ≤ bytes.length + 4) ∧ (bytes.length + 4 ≤ (if tagged bytes then 1522 else 1518)) ∧ (etherType bytes ≠ 0x8100) ∧ (etherType bytes ≠ 0x8808)) ∧
    (∃ (s : State) (port : Fin 2) (bytes : List Byte) (ue : Bool), (s.linkUp port.val = true) ∧ (bytes.length + 4 < 64)) ∧
    (∃ (s : State) (q : Fin 17) (data : Word), (s.on Dom.net = true) ∧ (((s.answer .ok).setF R.NET_TXR_TAIL_TAIL data.toNat).ringHas netTx = true)) ∧
    (∃ (s : State) (port : Fin 2) (mac : Nat) (k : Fin 16), (s.linkUp port.val = true)) ∧
    (∃ (s : State) (port : Fin 2) (mac : Nat) (k : Fin 16), (s.due (.learn mac) = true)) ∧
    (∃ (s : State) (port : Fin 2) (mac : Nat) (k : Fin 16), (s.due (.storm port.val) = true)) ∧
    (∃ (s : State) (port : Fin 2) (mac : Nat) (k : Fin 16), (s.due (.fup k.val) = true)) ∧
    (∃ (s : State) (phy : Fin 32) (reg : Fin 32), (s.on Dom.net = true) ∧ (s.isSet R.NET_MDIO_ST_BUSY = false)) ∧
    (∃ (s : State) (m : MdioOp) (data : Option Word), (s.net.mdio = some m)) :=
  ⟨⟨(up.setBitF R.NET_CTL_PORT_EN 1 true).setF (R.NET_PORT_ST_MODE 1) 2, 1, true, by decide +kernel⟩,
   ⟨port0, 0, by decide +kernel⟩,
   ⟨port0, 0, frame60 0x0800, false, by decide +kernel⟩,
   ⟨port0, 0, [], false, by decide +kernel⟩,
   ⟨txrUp, 16, 1, by decide +kernel⟩,
   ⟨port0, 0, 0, 0, by decide +kernel⟩,
   ⟨((port0.armAt (.learn 9) 0).armAt (.storm 0) 0).armAt (.fup 15) 0, 0, 9, 15, by decide +kernel⟩,
   ⟨((port0.armAt (.learn 9) 0).armAt (.storm 0) 0).armAt (.fup 15) 0, 0, 9, 15, by decide +kernel⟩,
   ⟨((port0.armAt (.learn 9) 0).armAt (.storm 0) 0).armAt (.fup 15) 0, 0, 9, 15, by decide +kernel⟩,
   ⟨up, 31, 31, by decide +kernel⟩,
   ⟨mdioUp 1, ⟨1, 1, 2, 3⟩, none, by decide +kernel⟩⟩

theorem witness_LearningTraffic :
    (∃ (s : State) (m : CrnMsg) (u : State) (t : XferRx) (ue : Bool), (s.chunkTake = some (m, u)) ∧ (u.crn.doneIds.contains (m.src, beAt m.body 0 4) = true)) ∧
    (∃ (s : State) (m : CrnMsg) (u : State) (t : XferRx) (ue : Bool), (s.chunkTake = some (m, u)) ∧ (u.crn.doneIds.contains (m.src, beAt m.body 0 4) = false) ∧ (beAt m.body 4 4 ≠ 0) ∧ (beAt m.body 4 4 ≤ 67108864) ∧ (beAt m.body 8 4 % 1024 = 0) ∧ (beAt m.body 8 4 < beAt m.body 4 4) ∧ (beAt m.body 26 2 = min 1024 (beAt m.body 4 4 - beAt m.body 8 4)) ∧ (m.body.length = 28 + beAt m.body 26 2) ∧ (u.crn.rx.find? (fun t => t.src == m.src && t.id == beAt m.body 0 4) = some t) ∧ (t.total = beAt m.body 4 4) ∧ (t.dest = beAt m.body 12 4) ∧ (t.kind = byteAt m.body 24)) ∧
    (∃ (s : State) (m : CrnMsg) (u : State) (t : XferRx) (ue : Bool), (s.chunkTake = some (m, u)) ∧ (u.crn.doneIds.contains (m.src, beAt m.body 0 4) = false) ∧ (beAt m.body 4 4 ≠ 0) ∧ (beAt m.body 4 4 ≤ 67108864) ∧ (beAt m.body 8 4 % 1024 = 0) ∧ (beAt m.body 8 4 < beAt m.body 4 4) ∧ (beAt m.body 26 2 = min 1024 (beAt m.body 4 4 - beAt m.body 8 4)) ∧ (m.body.length = 28 + beAt m.body 26 2) ∧ (u.crn.rx.find? (fun t => t.src == m.src && t.id == beAt m.body 0 4) = none) ∧ (u.rxRefused (beAt m.body 4 4) (beAt m.body 12 4) (byteAt m.body 24) = 0)) ∧
    (∃ (s : State) (m : CrnMsg) (u : State) (t : XferRx) (ue : Bool), (s.chunkTake = some (m, u)) ∧ (u.crn.doneIds.contains (m.src, beAt m.body 0 4) = false) ∧ (beAt m.body 4 4 ≠ 0) ∧ (beAt m.body 4 4 ≤ 67108864) ∧ (beAt m.body 8 4 % 1024 = 0) ∧ (beAt m.body 8 4 < beAt m.body 4 4) ∧ (beAt m.body 26 2 = min 1024 (beAt m.body 4 4 - beAt m.body 8 4)) ∧ (m.body.length = 28 + beAt m.body 26 2) ∧ (u.crn.rx.find? (fun t => t.src == m.src && t.id == beAt m.body 0 4) = none) ∧ (u.rxRefused (beAt m.body 4 4) (beAt m.body 12 4) (byteAt m.body 24) ≠ 0)) ∧
    (∃ (s : State) (m : CrnMsg) (u : State) (t : XferRx) (ue : Bool), (s.chunkTake = some (m, u)) ∧ (u.crn.doneIds.contains (m.src, beAt m.body 0 4) = false) ∧ (beAt m.body 4 4 = 0 ∨ 67108864 < beAt m.body 4 4 ∨ beAt m.body 8 4 % 1024 ≠ 0 ∨ beAt m.body 4 4 ≤ beAt m.body 8 4) ∧ (u.crn.rx.find? (fun t => t.src == m.src && t.id == beAt m.body 0 4) = none)) ∧
    (∃ (s : State) (m : CrnMsg) (u : State) (t : XferRx) (ue : Bool), (s.chunkTake = some (m, u)) ∧ (u.crn.doneIds.contains (m.src, beAt m.body 0 4) = false) ∧ (beAt m.body 4 4 = 0 ∨ 67108864 < beAt m.body 4 4 ∨ beAt m.body 8 4 % 1024 ≠ 0 ∨ beAt m.body 4 4 ≤ beAt m.body 8 4) ∧ (u.crn.rx.find? (fun t => t.src == m.src && t.id == beAt m.body 0 4) = some t)) ∧
    (∃ (s : State) (src : Nat) (id : Nat) (t : XferRx), (s.crn.rx.find? (fun t => t.src == src && t.id == id) = some t) ∧ (s.due (.chunkAck t.ser) = true)) ∧
    (∃ (s : State) (src : Nat) (id : Nat) (t : XferRx), (s.crn.rx.find? (fun t => t.src == src && t.id == id) = some t) ∧ (s.due (.xferIdle t.ser) = true)) ∧
    (∃ (s : State) (m : CrnMsg) (u : State) (t : XferTx), (s.crnTake CT.chunkAck = some (m, u)) ∧ (u.crn.tx.find? (fun t => t.id == beAt m.body 0 4 && t.dst == m.src) = some t) ∧ (byteAt m.body 16 = 1)) ∧
    (∃ (s : State) (m : CrnMsg) (u : State) (t : XferTx), (s.crnTake CT.chunkAck = some (m, u)) ∧ (u.crn.tx.find? (fun t => t.id == beAt m.body 0 4 && t.dst == m.src) = some t) ∧ (byteAt m.body 16 = 2 ∨ byteAt m.body 16 = 3)) ∧
    (∃ (s : State) (m : CrnMsg) (u : State) (t : XferTx), (s.crnTake CT.chunkAck = some (m, u)) ∧ (u.crn.tx.find? (fun t => t.id == beAt m.body 0 4 && t.dst == m.src) = some t) ∧ (byteAt m.body 16 = 0) ∧ (beAt m.body 4 4 ≤ t.len) ∧ (t.cum < beAt m.body 4 4)) ∧
    (∃ (s : State) (b : List Byte), (s.crnOn = true) ∧ (s.ringHas crnTxq = true) ∧ (s.crn.tx.length < 4) ∧ (b = s.ringRead (s.ringDesc crnTxq 32) 32) ∧ ((byteAt b 29).testBit 7 = true)) ∧
    (∃ (s : State) (id : Nat) (t : XferTx), (s.crn.tx.find? (fun t => t.id == id) = some t) ∧ (s.due (.resend t.ser) = true) ∧ (s.crn.inbox = []) ∧ (7 ≤ t.tries)) ∧
    (∃ (s : State) (id : Nat) (t : XferTx), (s.crn.tx.find? (fun t => t.id == id) = some t) ∧ (s.due (.resend t.ser) = true) ∧ (s.crn.inbox = []) ∧ (t.tries < 7)) ∧
    (∃ (s : State) (tenant : Fin 16) (j : Job) (ts : List Nat) (p : PlanTenant) (errs : List (Nat × MemErr)) (first : Bool) (b : State) (e : List (List Byte × Bool) × State) (o : List (List Byte × Bool) × State), (s.dspLive = true) ∧ (s.ad.dsp.planOk = true) ∧ (s.startable tenant = some (j, ts)) ∧ (s.planOf tenant = some p) ∧ (s.mayMove tenant = true) ∧ ((ts.all fun t => s.freeFor tenant t) = true) ∧ (s.on Dom.adUpd = true) ∧ (s.isSet R.UPD_STAT_BUSY = false) ∧ (j.op = 4) ∧ (j.arg 0 = (if first then 2 else 1)) ∧ (b = s.setFs [(R.UPD_STAT_BUSY, 1), (R.UPD_STAT_ACTION, if first then 2 else 1), (R.UPD_STAT_TENANT, tenant)]) ∧ (e = b.fetch j.tenant j.inAddr j.inLen errs) ∧ (o = (if first then ([], e.2) else e.2.fetch j.tenant j.outAddr j.inLen (errs.filterMap fun p => if (j.inLen + 63) / 64 ≤ p.1 then some (p.1 - (j.inLen + 63) / 64, p.2) else none))) ∧ (((e.1 ++ o.1).any (·.2)) = true)) ∧
    (∃ (s : State) (tenant : Fin 16) (j : Job) (ts : List Nat) (p : PlanTenant) (errs : List (Nat × MemErr)) (first : Bool) (b : State) (e : List (List Byte × Bool) × State) (o : List (List Byte × Bool) × State), (s.dspLive = true) ∧ (s.ad.dsp.planOk = true) ∧ (s.startable tenant = some (j, ts)) ∧ (s.planOf tenant = some p) ∧ (s.mayMove tenant = true) ∧ ((ts.all fun t => s.freeFor tenant t) = true) ∧ (s.on Dom.adUpd = true) ∧ (s.isSet R.UPD_STAT_BUSY = false) ∧ (j.op = 4) ∧ (j.arg 0 = (if first then 2 else 1)) ∧ (b = s.setFs [(R.UPD_STAT_BUSY, 1), (R.UPD_STAT_ACTION, if first then 2 else 1), (R.UPD_STAT_TENANT, tenant)]) ∧ (e = b.fetch j.tenant j.inAddr j.inLen errs) ∧ (o = (if first then ([], e.2) else e.2.fetch j.tenant j.outAddr j.inLen (errs.filterMap fun p => if (j.inLen + 63) / 64 ≤ p.1 then some (p.1 - (j.inLen + 63) / 64, p.2) else none))) ∧ (((e.1 ++ o.1).any (·.2)) = false)) ∧
    (∃ (s : State) (tenant : Fin 16) (bad : Option (Nat × MemErr)) (j : Job) (ts : List Nat) (p : PlanTenant) (l : Lcb) (b : State) (action : Nat) (e : Option Tensor × State), (s.dspLive = true) ∧ (s.ad.dsp.planOk = true) ∧ (s.startable tenant = some (j, ts)) ∧ (s.planOf tenant = some p) ∧ (s.mayMove tenant = true) ∧ ((ts.all fun t => s.freeFor tenant t) = true) ∧ (s.on Dom.adUpd = true) ∧ (s.isSet R.UPD_STAT_BUSY = false) ∧ (j.op = 4) ∧ (j.arg 0 = action) ∧ (b = s.setFs [(R.UPD_STAT_BUSY, 1), (R.UPD_STAT_ACTION, action), (R.UPD_STAT_TENANT, tenant)]) ∧ (l = lcbOf (b.lcbBytes tenant j.lcbAddr)) ∧ (e = b.badTensor tenant l j.seg bad) ∧ (action = 4)) ∧
    (∃ (s : State) (tenant : Fin 16) (bad : Option (Nat × MemErr)) (j : Job) (ts : List Nat) (p : PlanTenant) (l : Lcb) (b : State) (action : Nat) (e : Option Tensor × State), (s.dspLive = true) ∧ (s.ad.dsp.planOk = true) ∧ (s.startable tenant = some (j, ts)) ∧ (s.planOf tenant = some p) ∧ (s.mayMove tenant = true) ∧ ((ts.all fun t => s.freeFor tenant t) = true) ∧ (s.on Dom.adUpd = true) ∧ (s.isSet R.UPD_STAT_BUSY = false) ∧ (j.op = 4) ∧ (j.arg 0 = action) ∧ (b = s.setFs [(R.UPD_STAT_BUSY, 1), (R.UPD_STAT_ACTION, action), (R.UPD_STAT_TENANT, tenant)]) ∧ (l = lcbOf (b.lcbBytes tenant j.lcbAddr)) ∧ (e = b.badTensor tenant l j.seg bad) ∧ (action = 3)) :=
  ⟨⟨(withInbox winUp chunkMsg).crnSet fun c => { c with doneIds := [(7, 5)] }, ((fun (s : State) => ((s.chunkTake).map (·.1)).getD (claimMsg)) ((withInbox winUp chunkMsg).crnSet fun c => { c with doneIds := [(7, 5)] })), ((fun (s : State) => ((s.chunkTake).map (·.2)).getD ((withInbox winUp chunkMsg).crnSet fun c => { c with doneIds := [(7, 5)] })) ((withInbox winUp chunkMsg).crnSet fun c => { c with doneIds := [(7, 5)] })), rx0, false, by decide +kernel⟩,
   ⟨(withInbox winUp chunkMsg).crnSet fun c => { c with rx := [rx0] }, ((fun (s : State) => ((s.chunkTake).map (·.1)).getD (claimMsg)) ((withInbox winUp chunkMsg).crnSet fun c => { c with rx := [rx0] })), ((fun (s : State) => ((s.chunkTake).map (·.2)).getD ((withInbox winUp chunkMsg).crnSet fun c => { c with rx := [rx0] })) ((withInbox winUp chunkMsg).crnSet fun c => { c with rx := [rx0] })), rx0, false, by decide +kernel⟩,
   ⟨withInbox winUp chunkMsg, ((fun (s : State) => ((s.chunkTake).map (·.1)).getD (claimMsg)) (withInbox winUp chunkMsg)), ((fun (s : State) => ((s.chunkTake).map (·.2)).getD (withInbox winUp chunkMsg)) (withInbox winUp chunkMsg)), rx0, false, by decide +kernel⟩,
   ⟨withInbox (crnUp 6) chunkMsg, ((fun (s : State) => ((s.chunkTake).map (·.1)).getD (claimMsg)) (withInbox (crnUp 6) chunkMsg)), ((fun (s : State) => ((s.chunkTake).map (·.2)).getD (withInbox (crnUp 6) chunkMsg)) (withInbox (crnUp 6) chunkMsg)), rx0, false, by decide +kernel⟩,
   ⟨withInbox linked { chunkMsg with body := beBytes 4 5 ++ leBytes 24 0 }, ((fun (s : State) => ((s.chunkTake).map (·.1)).getD (claimMsg)) (withInbox linked { chunkMsg with body := beBytes 4 5 ++ leBytes 24 0 })), ((fun (s : State) => ((s.chunkTake).map (·.2)).getD (withInbox linked { chunkMsg with body := beBytes 4 5 ++ leBytes 24 0 })) (withInbox linked { chunkMsg with body := beBytes 4 5 ++ leBytes 24 0 })), rx0, false, by decide +kernel⟩,
   ⟨withInbox (linked.crnSet fun c => { c with rx := [rx0] }) { chunkMsg with body := beBytes 4 5 ++ leBytes 24 0 }, ((fun (s : State) => ((s.chunkTake).map (·.1)).getD (claimMsg)) (withInbox (linked.crnSet fun c => { c with rx := [rx0] }) { chunkMsg with body := beBytes 4 5 ++ leBytes 24 0 })), ((fun (s : State) => ((s.chunkTake).map (·.2)).getD (withInbox (linked.crnSet fun c => { c with rx := [rx0] }) { chunkMsg with body := beBytes 4 5 ++ leBytes 24 0 })) (withInbox (linked.crnSet fun c => { c with rx := [rx0] }) { chunkMsg with body := beBytes 4 5 ++ leBytes 24 0 })), rx0, false, by decide +kernel⟩,
   ⟨((winUp.crnSet fun c => { c with rx := [rx0] }).armAt (.chunkAck 0) 0).armAt (.xferIdle 0) 0, 7, 5, rx0, by decide +kernel⟩,
   ⟨((winUp.crnSet fun c => { c with rx := [rx0] }).armAt (.chunkAck 0) 0).armAt (.xferIdle 0) 0, 7, 5, rx0, by decide +kernel⟩,
   ⟨withInbox txUp (ackMsg 1), ((fun (s : State) => ((s.crnTake CT.chunkAck).map (·.1)).getD (claimMsg)) (withInbox txUp (ackMsg 1))), ((fun (s : State) => ((s.crnTake CT.chunkAck).map (·.2)).getD (withInbox txUp (ackMsg 1))) (withInbox txUp (ackMsg 1))), tx0, by decide +kernel⟩,
   ⟨withInbox txUp (ackMsg 2), ((fun (s : State) => ((s.crnTake CT.chunkAck).map (·.1)).getD (claimMsg)) (withInbox txUp (ackMsg 2))), ((fun (s : State) => ((s.crnTake CT.chunkAck).map (·.2)).getD (withInbox txUp (ackMsg 2))) (withInbox txUp (ackMsg 2))), tx0, by decide +kernel⟩,
   ⟨withInbox txUp (ackMsg 0), ((fun (s : State) => ((s.crnTake CT.chunkAck).map (·.1)).getD (claimMsg)) (withInbox txUp (ackMsg 0))), ((fun (s : State) => ((s.crnTake CT.chunkAck).map (·.2)).getD (withInbox txUp (ackMsg 0))) (withInbox txUp (ackMsg 0))), tx0, by decide +kernel⟩,
   ⟨txqUp, ((fun (s : State) => s.ringRead (s.ringDesc crnTxq 32) 32) (txqUp)), by decide +kernel⟩,
   ⟨((crnUp 6).crnSet fun c => { c with tx := [{ tx0 with tries := 7 }] }).armAt (.resend 0) 0, 5, { tx0 with tries := 7 }, by decide +kernel⟩,
   ⟨txUp.armAt (.resend 0) 0, 5, tx0, by decide +kernel⟩,
   ⟨(adUp.dspSet fun d => { d with cqHead := [(0, 5)] }).jobsSet fun _ => [newJob 0 (some 0) (leBytes 24 4 ++ leBytes 20 64 ++ leBytes 4 1 ++ leBytes 16 0) 0], 0, ((fun (s : State) (tenant : Fin 16) => ((s.startable tenant).map (·.1)).getD ((job0 1))) ((adUp.dspSet fun d => { d with cqHead := [(0, 5)] }).jobsSet fun _ => [newJob 0 (some 0) (leBytes 24 4 ++ leBytes 20 64 ++ leBytes 4 1 ++ leBytes 16 0) 0]) (0)), ((fun (s : State) (tenant : Fin 16) => ((s.startable tenant).map (·.2)).getD ([])) ((adUp.dspSet fun d => { d with cqHead := [(0, 5)] }).jobsSet fun _ => [newJob 0 (some 0) (leBytes 24 4 ++ leBytes 20 64 ++ leBytes 4 1 ++ leBytes 16 0) 0]) (0)), ((fun (s : State) (tenant : Fin 16) => (s.planOf tenant).getD (plan0)) ((adUp.dspSet fun d => { d with cqHead := [(0, 5)] }).jobsSet fun _ => [newJob 0 (some 0) (leBytes 24 4 ++ leBytes 20 64 ++ leBytes 4 1 ++ leBytes 16 0) 0]) (0)), [(0, .noc)], false, ((fun (s : State) (tenant : Fin 16) (first : Bool) => s.setFs [(R.UPD_STAT_BUSY, 1), (R.UPD_STAT_ACTION, if first then 2 else 1), (R.UPD_STAT_TENANT, tenant)]) ((adUp.dspSet fun d => { d with cqHead := [(0, 5)] }).jobsSet fun _ => [newJob 0 (some 0) (leBytes 24 4 ++ leBytes 20 64 ++ leBytes 4 1 ++ leBytes 16 0) 0]) (0) (false)), ((fun (j : Job) (errs : List (Nat × MemErr)) (b : State) => b.fetch j.tenant j.inAddr j.inLen errs) (((fun (s : State) (tenant : Fin 16) => ((s.startable tenant).map (·.1)).getD ((job0 1))) ((adUp.dspSet fun d => { d with cqHead := [(0, 5)] }).jobsSet fun _ => [newJob 0 (some 0) (leBytes 24 4 ++ leBytes 20 64 ++ leBytes 4 1 ++ leBytes 16 0) 0]) (0))) ([(0, .noc)]) (((fun (s : State) (tenant : Fin 16) (first : Bool) => s.setFs [(R.UPD_STAT_BUSY, 1), (R.UPD_STAT_ACTION, if first then 2 else 1), (R.UPD_STAT_TENANT, tenant)]) ((adUp.dspSet fun d => { d with cqHead := [(0, 5)] }).jobsSet fun _ => [newJob 0 (some 0) (leBytes 24 4 ++ leBytes 20 64 ++ leBytes 4 1 ++ leBytes 16 0) 0]) (0) (false)))), ((fun (j : Job) (p : PlanTenant) (errs : List (Nat × MemErr)) (first : Bool) (e : List (List Byte × Bool) × State) => (if first then ([], e.2) else e.2.fetch j.tenant j.outAddr j.inLen (errs.filterMap fun p => if (j.inLen + 63) / 64 ≤ p.1 then some (p.1 - (j.inLen + 63) / 64, p.2) else none))) (((fun (s : State) (tenant : Fin 16) => ((s.startable tenant).map (·.1)).getD ((job0 1))) ((adUp.dspSet fun d => { d with cqHead := [(0, 5)] }).jobsSet fun _ => [newJob 0 (some 0) (leBytes 24 4 ++ leBytes 20 64 ++ leBytes 4 1 ++ leBytes 16 0) 0]) (0))) (((fun (s : State) (tenant : Fin 16) => (s.planOf tenant).getD (plan0)) ((adUp.dspSet fun d => { d with cqHead := [(0, 5)] }).jobsSet fun _ => [newJob 0 (some 0) (leBytes 24 4 ++ leBytes 20 64 ++ leBytes 4 1 ++ leBytes 16 0) 0]) (0))) ([(0, .noc)]) (false) (((fun (j : Job) (errs : List (Nat × MemErr)) (b : State) => b.fetch j.tenant j.inAddr j.inLen errs) (((fun (s : State) (tenant : Fin 16) => ((s.startable tenant).map (·.1)).getD ((job0 1))) ((adUp.dspSet fun d => { d with cqHead := [(0, 5)] }).jobsSet fun _ => [newJob 0 (some 0) (leBytes 24 4 ++ leBytes 20 64 ++ leBytes 4 1 ++ leBytes 16 0) 0]) (0))) ([(0, .noc)]) (((fun (s : State) (tenant : Fin 16) (first : Bool) => s.setFs [(R.UPD_STAT_BUSY, 1), (R.UPD_STAT_ACTION, if first then 2 else 1), (R.UPD_STAT_TENANT, tenant)]) ((adUp.dspSet fun d => { d with cqHead := [(0, 5)] }).jobsSet fun _ => [newJob 0 (some 0) (leBytes 24 4 ++ leBytes 20 64 ++ leBytes 4 1 ++ leBytes 16 0) 0]) (0) (false)))))), by decide +kernel, by decide +kernel, by decide +kernel, by decide +kernel, by decide +kernel, by decide +kernel, by decide +kernel, by decide +kernel, by decide +kernel, by decide +kernel, rfl, rfl, rfl, by decide +kernel⟩,
   ⟨updUp 1, 0, ((fun (s : State) (tenant : Fin 16) => ((s.startable tenant).map (·.1)).getD ((job0 1))) (updUp 1) (0)), ((fun (s : State) (tenant : Fin 16) => ((s.startable tenant).map (·.2)).getD ([])) (updUp 1) (0)), ((fun (s : State) (tenant : Fin 16) => (s.planOf tenant).getD (plan0)) (updUp 1) (0)), [], false, ((fun (s : State) (tenant : Fin 16) (first : Bool) => s.setFs [(R.UPD_STAT_BUSY, 1), (R.UPD_STAT_ACTION, if first then 2 else 1), (R.UPD_STAT_TENANT, tenant)]) (updUp 1) (0) (false)), ((fun (j : Job) (errs : List (Nat × MemErr)) (b : State) => b.fetch j.tenant j.inAddr j.inLen errs) (((fun (s : State) (tenant : Fin 16) => ((s.startable tenant).map (·.1)).getD ((job0 1))) (updUp 1) (0))) ([]) (((fun (s : State) (tenant : Fin 16) (first : Bool) => s.setFs [(R.UPD_STAT_BUSY, 1), (R.UPD_STAT_ACTION, if first then 2 else 1), (R.UPD_STAT_TENANT, tenant)]) (updUp 1) (0) (false)))), ((fun (j : Job) (p : PlanTenant) (errs : List (Nat × MemErr)) (first : Bool) (e : List (List Byte × Bool) × State) => (if first then ([], e.2) else e.2.fetch j.tenant j.outAddr j.inLen (errs.filterMap fun p => if (j.inLen + 63) / 64 ≤ p.1 then some (p.1 - (j.inLen + 63) / 64, p.2) else none))) (((fun (s : State) (tenant : Fin 16) => ((s.startable tenant).map (·.1)).getD ((job0 1))) (updUp 1) (0))) (((fun (s : State) (tenant : Fin 16) => (s.planOf tenant).getD (plan0)) (updUp 1) (0))) ([]) (false) (((fun (j : Job) (errs : List (Nat × MemErr)) (b : State) => b.fetch j.tenant j.inAddr j.inLen errs) (((fun (s : State) (tenant : Fin 16) => ((s.startable tenant).map (·.1)).getD ((job0 1))) (updUp 1) (0))) ([]) (((fun (s : State) (tenant : Fin 16) (first : Bool) => s.setFs [(R.UPD_STAT_BUSY, 1), (R.UPD_STAT_ACTION, if first then 2 else 1), (R.UPD_STAT_TENANT, tenant)]) (updUp 1) (0) (false)))))), by decide +kernel⟩,
   ⟨updUp 4, 0, none, ((fun (s : State) (tenant : Fin 16) => ((s.startable tenant).map (·.1)).getD ((job0 1))) (updUp 4) (0)), ((fun (s : State) (tenant : Fin 16) => ((s.startable tenant).map (·.2)).getD ([])) (updUp 4) (0)), ((fun (s : State) (tenant : Fin 16) => (s.planOf tenant).getD (plan0)) (updUp 4) (0)), ((fun (tenant : Fin 16) (j : Job) (b : State) => lcbOf (b.lcbBytes tenant j.lcbAddr)) (0) (((fun (s : State) (tenant : Fin 16) => ((s.startable tenant).map (·.1)).getD ((job0 1))) (updUp 4) (0))) (((fun (s : State) (tenant : Fin 16) (action : Nat) => s.setFs [(R.UPD_STAT_BUSY, 1), (R.UPD_STAT_ACTION, action), (R.UPD_STAT_TENANT, tenant)]) (updUp 4) (0) (4)))), ((fun (s : State) (tenant : Fin 16) (action : Nat) => s.setFs [(R.UPD_STAT_BUSY, 1), (R.UPD_STAT_ACTION, action), (R.UPD_STAT_TENANT, tenant)]) (updUp 4) (0) (4)), 4, ((fun (tenant : Fin 16) (bad : Option (Nat × MemErr)) (j : Job) (l : Lcb) (b : State) => b.badTensor tenant l j.seg bad) (0) (none) (((fun (s : State) (tenant : Fin 16) => ((s.startable tenant).map (·.1)).getD ((job0 1))) (updUp 4) (0))) (((fun (tenant : Fin 16) (j : Job) (b : State) => lcbOf (b.lcbBytes tenant j.lcbAddr)) (0) (((fun (s : State) (tenant : Fin 16) => ((s.startable tenant).map (·.1)).getD ((job0 1))) (updUp 4) (0))) (((fun (s : State) (tenant : Fin 16) (action : Nat) => s.setFs [(R.UPD_STAT_BUSY, 1), (R.UPD_STAT_ACTION, action), (R.UPD_STAT_TENANT, tenant)]) (updUp 4) (0) (4))))) (((fun (s : State) (tenant : Fin 16) (action : Nat) => s.setFs [(R.UPD_STAT_BUSY, 1), (R.UPD_STAT_ACTION, action), (R.UPD_STAT_TENANT, tenant)]) (updUp 4) (0) (4)))), by decide +kernel⟩,
   ⟨updUp 3, 0, none, ((fun (s : State) (tenant : Fin 16) => ((s.startable tenant).map (·.1)).getD ((job0 1))) (updUp 3) (0)), ((fun (s : State) (tenant : Fin 16) => ((s.startable tenant).map (·.2)).getD ([])) (updUp 3) (0)), ((fun (s : State) (tenant : Fin 16) => (s.planOf tenant).getD (plan0)) (updUp 3) (0)), ((fun (tenant : Fin 16) (j : Job) (b : State) => lcbOf (b.lcbBytes tenant j.lcbAddr)) (0) (((fun (s : State) (tenant : Fin 16) => ((s.startable tenant).map (·.1)).getD ((job0 1))) (updUp 3) (0))) (((fun (s : State) (tenant : Fin 16) (action : Nat) => s.setFs [(R.UPD_STAT_BUSY, 1), (R.UPD_STAT_ACTION, action), (R.UPD_STAT_TENANT, tenant)]) (updUp 3) (0) (3)))), ((fun (s : State) (tenant : Fin 16) (action : Nat) => s.setFs [(R.UPD_STAT_BUSY, 1), (R.UPD_STAT_ACTION, action), (R.UPD_STAT_TENANT, tenant)]) (updUp 3) (0) (3)), 3, ((fun (tenant : Fin 16) (bad : Option (Nat × MemErr)) (j : Job) (l : Lcb) (b : State) => b.badTensor tenant l j.seg bad) (0) (none) (((fun (s : State) (tenant : Fin 16) => ((s.startable tenant).map (·.1)).getD ((job0 1))) (updUp 3) (0))) (((fun (tenant : Fin 16) (j : Job) (b : State) => lcbOf (b.lcbBytes tenant j.lcbAddr)) (0) (((fun (s : State) (tenant : Fin 16) => ((s.startable tenant).map (·.1)).getD ((job0 1))) (updUp 3) (0))) (((fun (s : State) (tenant : Fin 16) (action : Nat) => s.setFs [(R.UPD_STAT_BUSY, 1), (R.UPD_STAT_ACTION, action), (R.UPD_STAT_TENANT, tenant)]) (updUp 3) (0) (3))))) (((fun (s : State) (tenant : Fin 16) (action : Nat) => s.setFs [(R.UPD_STAT_BUSY, 1), (R.UPD_STAT_ACTION, action), (R.UPD_STAT_TENANT, tenant)]) (updUp 3) (0) (3)))), by decide +kernel⟩⟩

theorem witness_CorePair :
    (∃ (s : State) (group : Fin 3) (addr : Word), (s.lockstep = true)) ∧
    (∃ (s : State) (core : Fin 2) (line : Fin 3), (s.coresRun = true) ∧ (s.getF R.SYS_CORE_STATE = 0) ∧ (core.val = 0)) ∧
    (∃ (s : State) (core : Fin 2) (line : Fin 3), (s.coresRun = true) ∧ (s.getF R.SYS_CORE_STATE ≠ 0)) ∧
    (∃ (s : State), (s.on Dom.core = true) ∧ (s.coresRun = true) ∧ (s.cfg Img.CORE_HANDOVER 0 ≠ 0) ∧ (s.isSet R.SYS_DBG_ACTIVE = false) ∧ (sramWord (s.getF R.SYS_C1PC_ADDR) = true) ∧ (s.lockstep = true)) ∧
    (∃ (s : State), (s.on Dom.core = true) ∧ (s.coresRun = true) ∧ (s.cfg Img.CORE_HANDOVER 0 = 0 ∨ s.isSet R.SYS_DBG_ACTIVE = true ∨ sramWord (s.getF R.SYS_C1PC_ADDR) = false ∨ s.lockstep = false)) ∧
    (∃ (s : State) (core : Fin 2), (s.on Dom.core = true) ∧ (s.getF R.SYS_CORE_STATE = 2) ∧ (s.splitOver = false) ∧ (s.isSet R.SYS_CORE_JOIN_WAIT = false)) ∧
    (∃ (s : State) (core : Fin 2), (s.on Dom.core = true) ∧ (s.getF R.SYS_CORE_STATE = 2) ∧ (s.splitOver = false) ∧ (s.isSet R.SYS_CORE_JOIN_WAIT = true) ∧ (s.getF R.SYS_CORE_JOIN_CORE ≠ core.val) ∧ (s.isSet R.SYS_DBG_HALTED = false)) ∧
    (∃ (s : State) (core : Fin 2), (s.on Dom.core = true) ∧ (s.getF R.SYS_CORE_STATE = 2) ∧ (s.splitOver = false) ∧ (s.isSet R.SYS_CORE_JOIN_WAIT = true) ∧ (s.getF R.SYS_CORE_JOIN_CORE ≠ core.val) ∧ (s.isSet R.SYS_DBG_HALTED = true)) ∧
    (∃ (s : State) (core : Fin 2) (d : Nat), (s.on Dom.core = true) ∧ (s.getF R.SYS_CORE_STATE = 2) ∧ (s.deadline .split = some d) ∧ (d < s.now)) ∧
    (∃ (s : State) (n : Fin 2) (value : Fin 65536), (s.on Dom.core = true) ∧ (s.isSet (wdtRun n.val) = true) ∧ ((s.cpu.wdt.getD n.val ⟨0, false⟩).half = false) ∧ (value.val = 0x5A5A)) ∧
    (∃ (s : State) (n : Fin 2) (value : Fin 65536), (s.on Dom.core = true) ∧ (s.isSet (wdtRun n.val) = true) ∧ ((s.cpu.wdt.getD n.val ⟨0, false⟩).half = false) ∧ (value.val ≠ 0x5A5A)) ∧
    (∃ (s : State) (n : Fin 2) (value : Fin 65536), (s.on Dom.core = true) ∧ (s.isSet (wdtRun n.val) = true) ∧ ((s.cpu.wdt.getD n.val ⟨0, false⟩).half = true) ∧ (value.val = 0xA5A5) ∧ (s.due (.kick n.val) = false) ∧ (s.due (.wdt n.val) = false) ∧ (s.wdtMs * msNs / 4 ≤ s.now - (s.cpu.wdt.getD n.val ⟨0, false⟩).since)) ∧
    (∃ (s : State) (n : Fin 2) (value : Fin 65536), (s.on Dom.core = true) ∧ (s.isSet (wdtRun n.val) = true) ∧ ((s.cpu.wdt.getD n.val ⟨0, false⟩).half = true) ∧ (value.val ≠ 0xA5A5)) ∧
    (∃ (s : State) (n : Fin 2), (s.due (.wdt n.val) = true)) ∧
    (∃ (s : State) (n : Fin 2), (s.due (.kick n.val) = true)) ∧
    (∃ (s : State) (n : Fin 2), (s.armed .wdtReset = false)) ∧
    (∃ (s : State) (found : Fin 3), (s.on Dom.core = true) ∧ (s.isSet R.SYS_SCRUB_EN = true) ∧ (s.dueOrNew .scrubber = true)) ∧
    (∃ (s : State) (offset : Fin 8192) (o : Nat), (s.on Dom.core = true) ∧ (s.isSet R.SYS_OTPST_BUSY = false)) ∧
    (∃ (s : State) (offset : Fin 8192) (o : Nat), (s.on Dom.core = true) ∧ (s.isSet R.SYS_OTPST_BUSY = true)) ∧
    (∃ (s : State) (offset : Fin 8192) (o : Nat), (s.on Dom.core = true) ∧ (s.cpu.otpBusy = some o)) :=
  ⟨⟨coreUp, 2, 0x10000000, by decide +kernel⟩,
   ⟨coreUp, 0, 2, by decide +kernel⟩,
   ⟨splitUp, 1, 2, by decide +kernel⟩,
   ⟨splitOk, by decide +kernel⟩,
   ⟨coreUp, by decide +kernel⟩,
   ⟨splitUp, 1, by decide +kernel⟩,
   ⟨splitUp.setF R.SYS_CORE_JOIN_WAIT 1, 1, by decide +kernel⟩,
   ⟨(splitUp.setF R.SYS_CORE_JOIN_WAIT 1).setF R.SYS_DBG_HALTED 1, 1, by decide +kernel⟩,
   ⟨{ splitUp with now := 5 }, 1, ((fun (s : State) => (s.deadline .split).getD (0)) ({ splitUp with now := 5 })), by decide +kernel⟩,
   ⟨wdtUp false, 0, 0x5A5A, by decide +kernel⟩,
   ⟨wdtUp false, 0, 0xA5A5, by decide +kernel⟩,
   ⟨wdtUp true, 0, 0xA5A5, by decide +kernel⟩,
   ⟨wdtUp true, 0, 0, by decide +kernel⟩,
   ⟨(up.armAt (.wdt 1) 0).armAt (.kick 1) 0, 1, by decide +kernel⟩,
   ⟨(up.armAt (.wdt 1) 0).armAt (.kick 1) 0, 1, by decide +kernel⟩,
   ⟨(up.armAt (.wdt 1) 0).armAt (.kick 1) 0, 1, by decide +kernel⟩,
   ⟨up.setF R.SYS_SCRUB_EN 1, 2, by decide +kernel⟩,
   ⟨up, 8188, 0, by decide +kernel⟩,
   ⟨(up.setF R.SYS_OTPST_BUSY 1).cpuSet fun c => { c with otpBusy := some 0 }, 8188, 0, by decide +kernel⟩,
   ⟨(up.setF R.SYS_OTPST_BUSY 1).cpuSet fun c => { c with otpBusy := some 0 }, 8188, ((fun (s : State) => (s.cpu.otpBusy).getD (0)) ((up.setF R.SYS_OTPST_BUSY 1).cpuSet fun c => { c with otpBusy := some 0 })), by decide +kernel⟩⟩

theorem witness_DebugCommands :
    (∃ (s : State) (addr : Fin 128) (data : Word) (code : Fin 32), (s.on Dom.core = true)) ∧
    (∃ (s : State) (addr : Fin 128) (data : Word) (code : Fin 32), (code.val ≠ 0x01) ∧ (code.val ≠ 0x10) ∧ (code.val ≠ 0x11)) ∧
    (∃ (s : State), (s.on Dom.core = true) ∧ (s.isSet R.SYS_DBG_ACTIVE = false) ∧ (s.jtagLock = false ∨ s.sessionOpen = true)) ∧
    (∃ (s : State), (s.on Dom.core = true) ∧ (s.isSet R.SYS_DBG_ACTIVE = false) ∧ (s.jtagLock = true) ∧ (s.sessionOpen = false)) ∧
    (∃ (s : State) (insn : Word), (s.dbgOn = true) ∧ (s.coresRun = true)) ∧
    (∃ (s : State) (insn : Word), (s.dbgOn = true) ∧ (s.isSet R.SYS_DBG_HALTED = true)) ∧
    (∃ (s : State) (regno : Fin 65536) (data : Word) (words : List Word), (s.dbgOn = true) ∧ (s.cpu.dbg.cmderr = 0) ∧ (s.cpu.dbg.absent = false) ∧ (s.isSet R.SYS_DBG_HALTED = true) ∧ (dbgReg regno.val = true) ∧ (regno.val ≠ 0x1000)) ∧
    (∃ (s : State) (regno : Fin 65536) (data : Word) (words : List Word), (s.dbgOn = true) ∧ (s.cpu.dbg.cmderr = 0) ∧ (s.cpu.dbg.absent = false) ∧ (s.isSet R.SYS_DBG_HALTED = true) ∧ (regno.val = 0x1000)) :=
  ⟨⟨up, 0, 0, 0, by decide +kernel⟩,
   ⟨up, 0x11, 0, 0x1F, by decide +kernel⟩,
   ⟨up, by decide +kernel⟩,
   ⟨{ up with otp := Sparse.setList 0 [] 0x110 [7] }, by decide +kernel⟩,
   ⟨dbgHalt, 0x13, by decide +kernel⟩,
   ⟨dbgHalt, 0x13, by decide +kernel⟩,
   ⟨dbgHalt, 0x7B1, 7, [0x13], by decide +kernel⟩,
   ⟨dbgHalt, 0x1000, 7, [0x13], by decide +kernel⟩⟩

theorem witness_StartAndReset :
    (∃ (s : State), (s.evl.page = none)) ∧
    (∃ (s : State), (s.pmu.held = true)) ∧
    (∃ (s : State), (s.pmu.held = false)) ∧
    (∃ (s : State), (s.bitF R.SIO_TRIPNOW_ACTIVE Src.supply = true)) ∧
    (∃ (s : State), (s.on Dom.core = true) ∧ (s.isSet R.PMU_CLK_CPLL = true) ∧ (s.armed .clockReset = false)) ∧
    (∃ (s : State), (s.isSet R.PMU_CLK_XTAL32_OK = true)) ∧
    (∃ (s : State), (s.pmu.held = false) ∧ (s.isSet R.PMU_CLK_XTAL32_OK = false)) ∧
    (∃ (s : State), (s.on Dom.core = true) ∧ (s.isSet R.PMU_CLK_CPLL = false)) ∧
    (∃ (s : State), (s.due .xoStart = true) ∧ (s.isSet R.PMU_CLK_XO25_OK = false)) ∧
    (∃ (s : State), (s.on Dom.core = true) ∧ (s.isSet R.PMU_CLK_CPLL = true) ∧ (s.pgHigh 1 = true) ∧ (s.cpu.ready = false)) ∧
    (∃ (s : State) (fail : Fin 16) (density : Option Nat) (progs : List Prog), (s.on Dom.core = true) ∧ (s.cpu.ready = true) ∧ (s.cpu.running = false) ∧ (s.isSet R.SYS_LCKSTAT_HOLD = false)) ∧
    (∃ (s : State), (s.coresRun = true) ∧ (s.cpu.bootRom = true) ∧ (s.isSet R.SYS_BOOT_RECOVERY = false) ∧ (s.cil.apply = none) ∧ (s.cil.bootDone = true ∨ s.isSet R.CIL_STATUS_NOIMAGE = true)) ∧
    (∃ (s : State) (code : Nat) (mask : Nat) (t : Fin 16), (s.on Dom.core = true) ∧ (s.on Dom.aon = true) ∧ (code % 65536 = rstCode)) ∧
    (∃ (s : State) (code : Nat) (mask : Nat) (t : Fin 16), (s.on Dom.core = true) ∧ (s.on Dom.aon = true) ∧ (s.due .clockReset = true)) ∧
    (∃ (s : State) (code : Nat) (mask : Nat) (t : Fin 16), (s.on Dom.core = true) ∧ (s.on Dom.aon = true) ∧ (s.due .wdtReset = true)) ∧
    (∃ (s : State) (code : Nat) (mask : Nat) (t : Fin 16), (s.on Dom.core = true) ∧ (s.on Dom.aon = true) ∧ (s.isSet R.SYS_DBG_ACTIVE = true)) ∧
    (∃ (s : State) (code : Nat) (mask : Nat) (t : Fin 16), (s.on Dom.core = true) ∧ (s.on Dom.aon = true) ∧ ((mask % 2 ^ 27) &&& domRstOk ≠ mask % 2 ^ 27)) ∧
    (∃ (s : State) (code : Nat) (mask : Nat) (t : Fin 16), (s.on Dom.core = true) ∧ (s.on Dom.aon = true) ∧ ((mask % 2 ^ 27) &&& domRstOk = mask % 2 ^ 27)) :=
  ⟨⟨up, by decide +kernel⟩,
   ⟨State.reset, by decide +kernel⟩,
   ⟨((watching.setBitF R.SIO_TRIPNOW_ACTIVE Src.supply true).setF R.PMU_CLK_CPLL 1), by decide +kernel⟩,
   ⟨((watching.setBitF R.SIO_TRIPNOW_ACTIVE Src.supply true).setF R.PMU_CLK_CPLL 1), by decide +kernel⟩,
   ⟨((watching.setBitF R.SIO_TRIPNOW_ACTIVE Src.supply true).setF R.PMU_CLK_CPLL 1), by decide +kernel⟩,
   ⟨up.setF R.PMU_CLK_XTAL32_OK 1, by decide +kernel⟩,
   ⟨(watching.armAt .xoStart 0), by decide +kernel⟩,
   ⟨(watching.armAt .xoStart 0), by decide +kernel⟩,
   ⟨(watching.armAt .xoStart 0), by decide +kernel⟩,
   ⟨(up.setF R.PMU_CLK_CPLL 1).setBitF R.PMU_REG_PG 1 true, by decide +kernel⟩,
   ⟨up.cpuSet fun c => { c with ready := true }, 0, none, [], by decide +kernel⟩,
   ⟨bootRun, by decide +kernel⟩,
   ⟨((up.armAt .clockReset 0).armAt .wdtReset 0).setF R.SYS_DBG_ACTIVE 1, 0x5E7A, 2048, 15, by decide +kernel⟩,
   ⟨((up.armAt .clockReset 0).armAt .wdtReset 0).setF R.SYS_DBG_ACTIVE 1, 0x5E7A, 2048, 15, by decide +kernel⟩,
   ⟨((up.armAt .clockReset 0).armAt .wdtReset 0).setF R.SYS_DBG_ACTIVE 1, 0x5E7A, 2048, 15, by decide +kernel⟩,
   ⟨((up.armAt .clockReset 0).armAt .wdtReset 0).setF R.SYS_DBG_ACTIVE 1, 0x5E7A, 2048, 15, by decide +kernel⟩,
   ⟨up, 0x5E7A, 1, 15, by decide +kernel⟩,
   ⟨((up.armAt .clockReset 0).armAt .wdtReset 0).setF R.SYS_DBG_ACTIVE 1, 0x5E7A, 2048, 15, by decide +kernel⟩⟩

theorem witness_PowerTransitions :
    (∃ (s : State) (n : Fin 8) (t : Trans), (s.pmu.held = false) ∧ ((s.setBitF R.PMU_REG_PG n.val true).pmu.trans = some t) ∧ (t.down = false) ∧ (t.todo.head? = some n.val) ∧ ((s.setBitF R.PMU_REG_PG n.val true).enHigh n.val = true)) ∧
    (∃ (s : State) (n : Fin 8) (t : Trans), (s.pmu.trans = some t) ∧ (t.down = false) ∧ (t.todo.head? = some n.val) ∧ (s.due (.pgTimeout n.val) = true)) ∧
    (∃ (s : State) (n : Fin 8), (s.enHigh n.val = true) ∧ (s.pgHigh n.val = true) ∧ ((s.setBitF R.PMU_REG_PG n.val false).pmu.trans = none)) ∧
    (∃ (s : State) (n : Fin 8) (timeout : Bool) (t : Trans), (s.pmu.trans = some t) ∧ (t.down = true) ∧ (t.todo.head? = some n.val) ∧ (timeout = false ∨ s.due (.pgFall n.val) = true)) ∧
    (∃ (s : State) (n : Fin 8) (timeout : Bool) (t : Trans), (s.pmu.trans = none) ∧ (s.enHigh n.val = false)) ∧
    (∃ (s : State), (s.due .startRetry = true) ∧ (s.pmu.trans = none) ∧ (s.devState = 0)) ∧
    (∃ (s : State), (s.due .pgReraise = true) ∧ (s.pmu.trans = none)) ∧
    (∃ (s : State) (word : Option (Fin 65536)) (fault : Bool) (warn : Bool) (vout : Fin 65536) (iout : Fin 65536) (temp : Fin 65536), (s.inWork = true) ∧ (s.due .avs = true)) ∧
    (∃ (s : State) (mode : Fin 256) (persisted : Bool) (a : State) (u : State), (s.on Dom.aon = true) ∧ (a = ((s.answer .ok).pmuSet fun p => { p with chatter := [] }).doIf (s.on Dom.core && (s.pmu.chatter.contains 2 || s.pmu.chatter.contains 3)) (fun s => s.arm .pgReraise 0)) ∧ (u = a.setF R.PMU_STATE_HELD 0) ∧ (s.pmu.trans = none) ∧ (u.mayWork = true) ∧ (u.isSet R.SYS_BOOT_DF_VALID = true) ∧ (mode.val / 32 = 0)) ∧
    (∃ (s : State) (mode : Fin 256) (persisted : Bool) (a : State) (u : State), (s.on Dom.aon = true) ∧ (a = ((s.answer .ok).pmuSet fun p => { p with chatter := [] }).doIf (s.on Dom.core && (s.pmu.chatter.contains 2 || s.pmu.chatter.contains 3)) (fun s => s.arm .pgReraise 0)) ∧ (u = a.setF R.PMU_STATE_HELD 0) ∧ (s.pmu.trans = none) ∧ (u.inWork = true)) ∧
    (∃ (s : State) (mode : Fin 256) (persisted : Bool) (a : State) (u : State), (s.on Dom.aon = true) ∧ (a = ((s.answer .ok).pmuSet fun p => { p with chatter := [] }).doIf (s.on Dom.core && (s.pmu.chatter.contains 2 || s.pmu.chatter.contains 3)) (fun s => s.arm .pgReraise 0)) ∧ (u = a.setF R.PMU_STATE_HELD 0) ∧ (s.pmu.trans = none) ∧ (u.inWatch = true) ∧ (u.cfg Img.POWER_STANDBY_EN 0 ≠ 0)) ∧
    (∃ (s : State) (mode : Fin 256) (persisted : Bool) (a : State) (u : State), (s.on Dom.aon = true) ∧ (a = ((s.answer .ok).pmuSet fun p => { p with chatter := [] }).doIf (s.on Dom.core && (s.pmu.chatter.contains 2 || s.pmu.chatter.contains 3)) (fun s => s.arm .pgReraise 0)) ∧ (u = a.setF R.PMU_STATE_HELD 0) ∧ (s.pmu.trans.isSome = true)) ∧
    (∃ (s : State) (mode : Fin 256) (persisted : Bool) (a : State) (u : State), (s.on Dom.aon = true) ∧ (a = ((s.answer .ok).pmuSet fun p => { p with chatter := [] }).doIf (s.on Dom.core && (s.pmu.chatter.contains 2 || s.pmu.chatter.contains 3)) (fun s => s.arm .pgReraise 0)) ∧ (u = a.setF R.PMU_STATE_HELD 0) ∧ (s.pmu.trans = none) ∧ (s.getF R.PMU_STATE_HELD = 1) ∧ ((s.setF R.PMU_STATE_HELD 0).inWork = true)) ∧
    (∃ (s : State) (upd : Bool) (pin : Fin 2), (s.on Dom.aon = true) ∧ (s.devState = 3 ∨ s.startFailed = true) ∧ (s.pmu.trans = none) ∧ (s.bitF R.PMU_WAKE_EN 0 = true) ∧ (s.getF (R.PMU_ALARM_W 0) + 2 ^ 32 * s.getF (R.PMU_ALARM_W 1) ≤ s.rtc)) ∧
    (∃ (s : State) (upd : Bool) (pin : Fin 2), (s.on Dom.aon = true) ∧ (s.devState = 3 ∨ s.startFailed = true) ∧ (s.pmu.trans = none) ∧ (s.bitF R.PMU_WAKE_EN (1 + pin.val) = true)) ∧
    (∃ (s : State) (upd : Bool) (pin : Fin 2) (t : Trans), (s.on Dom.aon = true) ∧ (s.pmu.trans = some t) ∧ (t.kind = 4) ∧ (s.bitF R.PMU_WAKE_EN (1 + pin.val) = true)) :=
  ⟨⟨raising, 1, ((fun (s : State) (n : Fin 8) => ((s.setBitF R.PMU_REG_PG n.val true).pmu.trans).getD (⟨1, false, [1], [0], false, []⟩)) (raising) (1)), by decide +kernel⟩,
   ⟨raising.armAt (.pgTimeout 1) 0, 1, ((fun (s : State) => (s.pmu.trans).getD (⟨1, false, [1], [0], false, []⟩)) (raising.armAt (.pgTimeout 1) 0)), by decide +kernel⟩,
   ⟨(watching.setBitF R.PMU_REG_EN 5 true).setBitF R.PMU_REG_PG 5 true, 5, by decide +kernel⟩,
   ⟨lowering, 4, ((fun (s : State) (n : Fin 8) => false ∨ s.due (.pgFall n.val) = true) (lowering) (4)), ((fun (s : State) => (s.pmu.trans).getD (⟨1, false, [1], [0], false, []⟩)) (lowering)), by decide +kernel⟩,
   ⟨watching, 4, false, ⟨3, true, [4, 5], [], false, []⟩, by decide +kernel⟩,
   ⟨(up.armAt .startRetry 0).armAt .pgReraise 0, by decide +kernel⟩,
   ⟨(up.armAt .startRetry 0).armAt .pgReraise 0, by decide +kernel⟩,
   ⟨linked.armAt .avs 0, some 0, true, true, 0, 0, 0, by decide +kernel⟩,
   ⟨workOk, 0, true, ((fun (s : State) => ((s.answer .ok).pmuSet fun p => { p with chatter := [] }).doIf (s.on Dom.core && (s.pmu.chatter.contains 2 || s.pmu.chatter.contains 3)) (fun s => s.arm .pgReraise 0)) (workOk)), ((fun (a : State) => a.setF R.PMU_STATE_HELD 0) (((fun (s : State) => ((s.answer .ok).pmuSet fun p => { p with chatter := [] }).doIf (s.on Dom.core && (s.pmu.chatter.contains 2 || s.pmu.chatter.contains 3)) (fun s => s.arm .pgReraise 0)) (workOk)))), by decide +kernel⟩,
   ⟨linked, 0, true, ((fun (s : State) => ((s.answer .ok).pmuSet fun p => { p with chatter := [] }).doIf (s.on Dom.core && (s.pmu.chatter.contains 2 || s.pmu.chatter.contains 3)) (fun s => s.arm .pgReraise 0)) (linked)), ((fun (a : State) => a.setF R.PMU_STATE_HELD 0) (((fun (s : State) => ((s.answer .ok).pmuSet fun p => { p with chatter := [] }).doIf (s.on Dom.core && (s.pmu.chatter.contains 2 || s.pmu.chatter.contains 3)) (fun s => s.arm .pgReraise 0)) (linked)))), by decide +kernel⟩,
   ⟨standbyOk, 0, true, ((fun (s : State) => ((s.answer .ok).pmuSet fun p => { p with chatter := [] }).doIf (s.on Dom.core && (s.pmu.chatter.contains 2 || s.pmu.chatter.contains 3)) (fun s => s.arm .pgReraise 0)) (standbyOk)), ((fun (a : State) => a.setF R.PMU_STATE_HELD 0) (((fun (s : State) => ((s.answer .ok).pmuSet fun p => { p with chatter := [] }).doIf (s.on Dom.core && (s.pmu.chatter.contains 2 || s.pmu.chatter.contains 3)) (fun s => s.arm .pgReraise 0)) (standbyOk)))), by decide +kernel⟩,
   ⟨raising, 0, true, ((fun (s : State) => ((s.answer .ok).pmuSet fun p => { p with chatter := [] }).doIf (s.on Dom.core && (s.pmu.chatter.contains 2 || s.pmu.chatter.contains 3)) (fun s => s.arm .pgReraise 0)) (raising)), ((fun (a : State) => a.setF R.PMU_STATE_HELD 0) (((fun (s : State) => ((s.answer .ok).pmuSet fun p => { p with chatter := [] }).doIf (s.on Dom.core && (s.pmu.chatter.contains 2 || s.pmu.chatter.contains 3)) (fun s => s.arm .pgReraise 0)) (raising)))), by decide +kernel⟩,
   ⟨linked.setF R.PMU_STATE_HELD 1, 0, true, ((fun (s : State) => ((s.answer .ok).pmuSet fun p => { p with chatter := [] }).doIf (s.on Dom.core && (s.pmu.chatter.contains 2 || s.pmu.chatter.contains 3)) (fun s => s.arm .pgReraise 0)) (linked.setF R.PMU_STATE_HELD 1)), ((fun (a : State) => a.setF R.PMU_STATE_HELD 0) (((fun (s : State) => ((s.answer .ok).pmuSet fun p => { p with chatter := [] }).doIf (s.on Dom.core && (s.pmu.chatter.contains 2 || s.pmu.chatter.contains 3)) (fun s => s.arm .pgReraise 0)) (linked.setF R.PMU_STATE_HELD 1)))), by decide +kernel⟩,
   ⟨((up.setF R.PMU_STATE_STATE 3).setF R.PMU_WAKE_EN 7).setFs [(R.PMU_ALARM_W 0, 0), (R.PMU_ALARM_W 1, 0)], true, 1, by decide +kernel⟩,
   ⟨((up.setF R.PMU_STATE_STATE 3).setF R.PMU_WAKE_EN 7).setFs [(R.PMU_ALARM_W 0, 0), (R.PMU_ALARM_W 1, 0)], true, 1, by decide +kernel⟩,
   ⟨((up.setF R.PMU_STATE_STATE 3).setF R.PMU_WAKE_EN 7).pmuSet fun p => { p with trans := some ⟨4, false, [], [], false, []⟩ }, false, 1, ((fun (s : State) => (s.pmu.trans).getD (⟨1, false, [1], [0], false, []⟩)) (((up.setF R.PMU_STATE_STATE 3).setF R.PMU_WAKE_EN 7).pmuSet fun p => { p with trans := some ⟨4, false, [], [], false, []⟩ })), by decide +kernel⟩⟩

theorem witness_ThermalCommands :
    (∃ (s : State) (c0 : Fin 4096) (c1 : Fin 4096), (s.on Dom.core = true) ∧ (s.on Dom.drive = true) ∧ (s.dueOrNew .ntc = true)) ∧
    (∃ (s : State) (a : BitVec 16) (b : BitVec 16), (s.on Dom.core = true) ∧ (s.dueOrNew .cdSensor = true)) ∧
    (∃ (s : State) (body : List Byte) (q : Nat) (u : State), (s.takeCd (mgmt TT.energyPlan 0 body) = some (q, u)) ∧ (u.planFits body = true)) ∧
    (∃ (s : State) (body : List Byte) (q : Nat) (u : State), (s.takeCd (mgmt TT.energyPlan 0 body) = some (q, u)) ∧ (u.planFits body = false)) ∧
    (∃ (s : State), (s.on Dom.core = true) ∧ (s.dueOrNew .forecast = true) ∧ (s.inWork = true ∨ s.inWatch = true)) ∧
    (∃ (s : State), (s.inWork = true) ∧ (s.due .planMiss = true)) ∧
    (∃ (s : State), (s.due .watchord = true)) ∧
    (∃ (s : State), (s.on Dom.core = true) ∧ (s.isSet R.THM_CTL_EN = true)) ∧
    (∃ (s : State), (s.on Dom.core = true) ∧ (s.inWatch = true) ∧ (s.isSet R.LUX_DARK_DARK = false) ∧ (s.getF R.THM_STST_STATE ≠ 1) ∧ (s.getF R.THM_STST_STATE ≠ 2)) ∧
    (∃ (s : State), (s.on Dom.core = true) ∧ (s.inWatch = false ∨ s.isSet R.LUX_DARK_DARK = true)) ∧
    (∃ (s : State), (s.on Dom.core = true) ∧ (s.due .stepTest = true)) :=
  ⟨⟨up, 0, 4095, by decide +kernel⟩,
   ⟨up, 1300, 0xFFFF, by decide +kernel⟩,
   ⟨fromAd 0 TT.energyPlan (linked), planBody, ((fun (s : State) (body : List Byte) => ((s.takeCd (mgmt TT.energyPlan 0 body)).map (·.1)).getD (0)) (fromAd 0 TT.energyPlan (linked)) (planBody)), ((fun (s : State) (body : List Byte) => ((s.takeCd (mgmt TT.energyPlan 0 body)).map (·.2)).getD (fromAd 0 TT.energyPlan (linked))) (fromAd 0 TT.energyPlan (linked)) (planBody)), by decide +kernel⟩,
   ⟨fromAd 0 TT.energyPlan (linked), [], ((fun (s : State) (body : List Byte) => ((s.takeCd (mgmt TT.energyPlan 0 body)).map (·.1)).getD (0)) (fromAd 0 TT.energyPlan (linked)) ([])), ((fun (s : State) (body : List Byte) => ((s.takeCd (mgmt TT.energyPlan 0 body)).map (·.2)).getD (fromAd 0 TT.energyPlan (linked))) (fromAd 0 TT.energyPlan (linked)) ([])), by decide +kernel⟩,
   ⟨linked, by decide +kernel⟩,
   ⟨(linked.armAt .planMiss 0).armAt .watchord 0, by decide +kernel⟩,
   ⟨(linked.armAt .planMiss 0).armAt .watchord 0, by decide +kernel⟩,
   ⟨up.setF R.THM_CTL_EN 1, by decide +kernel⟩,
   ⟨(watching.setF R.LUX_DARK_DARK 0).armAt .stepTest 0, by decide +kernel⟩,
   ⟨up, by decide +kernel⟩,
   ⟨(watching.setF R.LUX_DARK_DARK 0).armAt .stepTest 0, by decide +kernel⟩⟩

theorem witness_RowsOfSill :
    (∃ (w : Nat) (r : Nat) (j : Nat) (flits : List (List Byte)), (flits.length = 16) ∧ (∀ f ∈ flits, f.length = 36) ∧ ((w = 8 ∧ r < 9) ∨ (w = 4 ∧ r < 18)) ∧ (j < 8 * w)) ∧
    (∃ (headers : List Nat), (∀ h ∈ headers, h = 1)) ∧
    (∃ (headers : List Nat), (headers ≠ []) ∧ (∀ h ∈ headers, h = 2)) ∧
    (∃ (headers : List Nat) (a : Nat) (b : Nat), (a ∈ headers) ∧ (b ∈ headers) ∧ (a ≠ b)) :=
  ⟨⟨8, 8, 63, List.replicate 16 (List.replicate 36 0), by decide +kernel⟩,
   ⟨[1, 1], by decide +kernel⟩,
   ⟨[2, 2], by decide +kernel⟩,
   ⟨[1, 2], 1, 2, by decide +kernel⟩⟩

theorem witness_PinsOutsideWork :
    (∃ (s : State), (s.devState ≠ 3) ∧ (s.on Dom.drive = false)) ∧
    (∃ (s : State), (s.devState = 3) ∧ (s.pmu.trans = none)) ∧
    (∃ (s : State), (s.devState ≠ 3) ∧ (s.on Dom.adMem = false)) ∧
    (∃ (s : State), (s.devState ≠ 3) ∧ (s.on Dom.core = true) ∧ (s.cpu.running = true)) ∧
    (∃ (s : State), (s.devState ≠ 3) ∧ (s.on Dom.core = false)) :=
  ⟨⟨up.setBitF R.PMU_DOMST_ON Dom.drive false, by decide +kernel⟩,
   ⟨up.setF R.PMU_STATE_STATE 3, by decide +kernel⟩,
   ⟨up.setBitF R.PMU_DOMST_ON Dom.adMem false, by decide +kernel⟩,
   ⟨coreUp, by decide +kernel⟩,
   ⟨up.setBitF R.PMU_DOMST_ON Dom.core false, by decide +kernel⟩⟩

theorem witness_AdWindowUnpowered :
    ∃ (s : State) (offset : Nat) (size : Nat) (data : Word), (s.on Dom.sill = false ∨ s.on Dom.adCtl = false) :=
  ⟨State.reset, 0, 4, 0, by decide +kernel⟩

theorem witness_NoRegisterThere :
    (∃ (s : State) (core : Fin 2) (addr : Nat) (size : Nat) (data : Word) (env : BusEnv), (0x40000000 ≤ addr) ∧ (addr < 0x50000000) ∧ (fieldsAt addr = none) ∧ (env.differs = none ∨ s.lockstep = false)) ∧
    (∃ (s : State) (core : Fin 2) (op : BusOp) (addr : Nat) (size : Nat) (data : Word) (ecc : Fin 3) (env : BusEnv), (0x40000000 ≤ addr) ∧ (addr < 0x50000000) ∧ (fieldsAt addr = none) ∧ (s.coresRun = true) ∧ (env.differs = none ∨ s.lockstep = false)) ∧
    (∃ (s : State) (op : BusOp) (addr : Nat) (data : Word) (ecc : Fin 3) (env : BusEnv), (0x40000000 ≤ addr) ∧ (addr < 0x50000000) ∧ (fieldsAt addr = none) ∧ (s.dbgOn = true) ∧ (s.cpu.dbg.sberror = 0)) :=
  ⟨⟨dbgUp, 1, 0x4000FFFC, 0, 0, env0, by decide +kernel⟩,
   ⟨coreUp, 1, .load, 0x4000FFFC, 0, 0, 0, env0, by decide +kernel⟩,
   ⟨dbgUp, .load, 0x4FFFFFFC, 0, 0, env0, by decide +kernel⟩⟩

theorem witness_StepToSelectedBase :
    ∃ (s : State) (n : Fin 4) (step : Word), (s.on Dom.net = true) ∧ (n.val < 2) ∧ (s.getF R.TIM_STAT_SEL = n.val) :=
  ⟨up, 0, 5, by decide +kernel⟩

theorem witness_AssayRefusals :
    (∃ (s : State), (s.on Dom.core = true) ∧ (1 ≤ s.getF R.ASY_TRUST_QUAL) ∧ (s.getF R.ASY_TRUST_QUAL ≤ 3)) ∧
    (∃ (s : State), (s.on Dom.core = true) ∧ (s.getF R.ASY_TRUST_STATE ≤ 1)) ∧
    (∃ (s : State), (s.on Dom.core = true) ∧ (s.getF R.ASY_TRUST_STATE = 0)) ∧
    (∃ (s : State), (s.on Dom.core = true)) :=
  ⟨⟨up.setF R.ASY_TRUST_QUAL 1, by decide +kernel⟩,
   ⟨up, by decide +kernel⟩,
   ⟨up, by decide +kernel⟩,
   ⟨up, by decide +kernel⟩⟩

theorem witness_SramByTheBus :
    (∃ (s : State) (addr : Nat) (data : Word) (env : BusEnv), (s.dbgOn = true) ∧ (s.cpu.dbg.sberror = 0) ∧ (Sparse.wf 0 s.sram = true) ∧ (0x10000000 ≤ addr) ∧ (addr < 0x10080000) ∧ (addr % 4 = 0)) ∧
    (∃ (s : State) (core : Fin 2) (addr : Nat) (size : Nat) (data : Word) (env : BusEnv), (s.coresRun = true) ∧ (env.differs = none) ∧ (Sparse.wf 0 s.sram = true) ∧ (size = 1 ∨ size = 2 ∨ size = 4) ∧ (0x10000000 ≤ addr) ∧ (addr < 0x10080000) ∧ (addr % size = 0)) :=
  ⟨⟨dbgUp, 0x1007FFFC, 7, env0, by decide +kernel⟩,
   ⟨coreUp, 0, 0x1007FFFC, 4, 7, env0, by decide +kernel⟩⟩

theorem witness_FlashByTheController :
    (∃ (s : State) (c : QspiCmd), (s.qspi = some c) ∧ (c.op = 1) ∧ (Sparse.wf erasedByte s.flash = true)) ∧
    (∃ (s : State) (c : QspiCmd), (s.qspi = some c) ∧ (c.op = 2 ∨ c.op = 3) ∧ (Sparse.wf erasedByte s.flash = true)) ∧
    (∃ (s : State) (c : QspiCmd), (s.qspi = some c) ∧ (c.op = 4)) :=
  ⟨⟨{ up with qspi := some ⟨1, 16, 1, [5]⟩ }, ((fun (s : State) => (s.qspi).getD (⟨1, 0, 1, [5]⟩)) ({ up with qspi := some ⟨1, 16, 1, [5]⟩ })), by decide +kernel⟩,
   ⟨{ up with qspi := some ⟨2, 4096, 4096, []⟩ }, ((fun (s : State) => (s.qspi).getD (⟨1, 0, 1, [5]⟩)) ({ up with qspi := some ⟨2, 4096, 4096, []⟩ })), by decide +kernel⟩,
   ⟨{ up with qspi := some ⟨4, 0, 4, []⟩ }, ((fun (s : State) => (s.qspi).getD (⟨1, 0, 1, [5]⟩)) ({ up with qspi := some ⟨4, 0, 4, []⟩ })), by decide +kernel⟩⟩

theorem witness_RowsOfSill_2 :
    (∃ (w r j : Nat) (flits : List (List Byte)), flits.length = 16 ∧ (∀ f ∈ flits, f.length = 36) ∧ ((w = 8 ∧ r < 9) ∨ (w = 4 ∧ r < 18)) ∧ w = 4 ∧ j < 8 * w) ∧
    (∃ row : CtlRow, ∀ attempt, row ≠ .trn1 attempt) :=
  ⟨⟨4, 17, 31, List.replicate 16 (List.replicate 36 0), by decide +kernel⟩, ⟨.sync, by intro _ h; cases h⟩⟩

theorem witness_RegisterCodes :
    (∃ l : List FieldRow, ((l.map fun r => r.fld.key).Nodup) ∧ 2 < l.length) ∧
    (∃ l : List FieldRow, ((l.map fun r => r.fld.key).Nodup) ∧ l.any (fun r => r.acc == .w1c) = true) :=
  ⟨⟨(fieldsAt 0x400A0008).getD [], by decide +kernel⟩, ⟨(fieldsAt 0x40010100).getD [], by decide +kernel⟩⟩

theorem witness_UnpoweredBlocks : ∃ (s : State) (c : Instr) (d : Nat), accessDom c = some d ∧ s.on d = false :=
  ⟨State.reset, .home, Dom.drive, by decide +kernel, by decide +kernel⟩

theorem witness_MemoriesStayCanonical : ∃ s t : State, s.memWf = true ∧ step s = .next t :=
  ⟨State.reset, State.reset.tick, by decide +kernel, rfl⟩

theorem witness_StepKeepsQueueRomAndTime :
    (∃ (s : State) (c : Instr) (rest : List Instr) (t : State), s.pending = c :: rest ∧ step s = .next t) ∧
    (∃ s t : State, s.pending = [] ∧ step s = .next t) :=
  ⟨⟨{ up with pending := [.home, .por] }, .home, [.por], _, rfl, rfl⟩,
   ⟨State.reset, State.reset.tick, rfl, rfl⟩⟩

theorem witness_OtpBitsStay : ∃ s t : State, s.memWf = true ∧ step s = .next t :=
  ⟨{ State.reset with otp := [(0, 1)] }, _, by decide +kernel, rfl⟩

theorem witness_OtpWrittenByTheApplyOnly : ∃ (s : State) (c : Instr) (t : State),
    (∀ ok part progs, c ≠ .applyStepDone ok part progs) ∧ exec c s = .next t :=
  ⟨up, .home, _, (by intro _ _ _ h; cases h), rfl⟩

theorem witness_FlashWriters : ∃ (s : State) (c : Instr) (t : State), writesFlash c = false ∧ exec c s = .next t :=
  ⟨up, .home, _, rfl, rfl⟩

theorem witness_SramWriters : ∃ (s : State) (c : Instr) (t : State), writesSram c = false ∧ exec c s = .next t :=
  ⟨up, .home, _, rfl, rfl⟩

theorem witness_AdMemoryWriters : ∃ (s : State) (c : Instr) (t : State), writesAd c = false ∧ exec c s = .next t :=
  ⟨up, .home, _, rfl, rfl⟩

end Sys2Proof.Tests
end

section
/-! SUPPORT. Proofs of the scope's statements (spec/00_scope.md): what a step runs, that every command completes, an access to a place
that holds no register (R5), and what a written word leaves in each field (R6, R8). -/

namespace Sys2Proof.Machine

open Sys2Proof

/-! ### The step -/

theorem step_of_pending_nil {s : State} (h : s.pending = []) : step s = .next s.tick := by
  simp [step, h]

theorem step_of_pending_cons {s : State} {c : Instr} {rest : List Instr} (h : s.pending = c :: rest) :
    step s = exec c { s with pending := rest } := by
  simp [step, h]

/-- Settles O1: both clauses are the two forms of the queue. -/
theorem stepRunsFrontCommand : Obligations.StepRunsFrontCommand :=
  ⟨fun _ _ _ => step_of_pending_cons rfl, fun _ h => step_of_pending_nil h⟩

/-- Every arm of `exec` is a meaning, and every meaning is written as the next state it answers: no arm branches into an outcome that
is none. -/
theorem exec_completes (c : Instr) (s : State) : Completes (exec c s) := by
  cases c <;> exact ⟨_, rfl⟩

theorem step_completes (s : State) : Completes (step s) := by
  cases h : s.pending with
  | nil => exact ⟨s.tick, step_of_pending_nil h⟩
  | cons c rest =>
    rw [step_of_pending_cons h]
    exact exec_completes c _

/-- Settles O56: a command by the arms of `exec`, a step by the form of the queue. -/
theorem everyCommandCompletes : Obligations.EveryCommandCompletes :=
  ⟨fun s c => exec_completes c s, step_completes⟩

/-! ### Accesses in the block map -/

/-- The block map holds no memory (R23). -/
theorem memoryAt_blockMap {a : Nat} (lo : 0x40000000 ≤ a) (hi : a < 0x50000000) : memoryAt a = none := by
  unfold memoryAt
  rw [if_neg (by omega), if_neg (by omega), if_neg (by omega), if_neg (by omega)]

/-- The block map lies above the AD window (R24). -/
theorem inAdWindow_blockMap {a : Nat} (lo : 0x40000000 ≤ a) : inAdWindow a = false := by
  simp [inAdWindow, lo]

theorem State.regRead_noRegister (s : State) (core : Fin 2) {a : Nat} (size : Nat) (h : fieldsAt a = none) :
    s.regRead core a size = s.answer .busError := by
  simp [State.regRead, h]

theorem State.regWrite_noRegister (s : State) (core : Fin 2) {a : Nat} (size : Nat) (data : Word) (env : BusEnv)
    (h : fieldsAt a = none) : s.regWrite core a size data env = s.answer .busError := by
  simp [State.regWrite, h]

/-- A load in the block map is a read of a register, whichever master makes it. -/
theorem State.busLoad_blockMap (s : State) (m : Master) {a : Nat} (size : Nat) (ecc : Fin 3) (lo : 0x40000000 ≤ a) (hi : a < 0x50000000) :
    s.busLoad m a size ecc = s.regRead m.id a size := by
  simp [State.busLoad, memoryAt_blockMap lo hi, inAdWindow_blockMap lo, lo, hi]

/-- A store in the block map is a write of a register, whichever master makes it. -/
theorem State.busStore_blockMap (s : State) (m : Master) {a : Nat} (size : Nat) (data : Word) (env : BusEnv) (lo : 0x40000000 ≤ a)
    (hi : a < 0x50000000) : s.busStore m a size data env = s.regWrite m.id a size data env := by
  simp [State.busStore, memoryAt_blockMap lo hi, inAdWindow_blockMap lo, lo, hi]

section NoRegister

variable (s : State) {a : Nat} (lo : 0x40000000 ≤ a) (hi : a < 0x50000000) (absent : fieldsAt a = none)
include lo hi absent

theorem State.busLoad_noRegister (m : Master) (size : Nat) (ecc : Fin 3) : s.busLoad m a size ecc = s.answer .busError := by
  rw [s.busLoad_blockMap m size ecc lo hi, s.regRead_noRegister m.id size absent]

theorem State.busStore_noRegister (m : Master) (size : Nat) (data : Word) (env : BusEnv) :
    s.busStore m a size data env = s.answer .busError := by
  rw [s.busStore_blockMap m size data env lo hi, s.regWrite_noRegister m.id size data env absent]

/-- A core's access that no mismatch of the lockstep drops. -/
theorem State.coreAccess_noRegister (core : Fin 2) (op : BusOp) (size : Nat) (data : Word) (ecc : Fin 3) (env : BusEnv)
    (h : env.differs = none ∨ s.lockstep = false) :
    s.coreAccess core op a size data ecc env = s.answer .busError := by
  have load := s.busLoad_noRegister lo hi absent (.core core) size ecc
  have store := s.busStore_noRegister lo hi absent (.core core) size data env
  unfold State.coreAccess
  cases hd : env.differs with
  | none => cases op <;> simp only [load, store]
  | some g =>
    have unlocked : s.lockstep = false := by simpa [hd] using h
    cases op <;> simp [unlocked, load, store]

/-- An access of the debug module, which keeps the address and the bus error (R401). -/
theorem State.debugAccess_noRegister (op : BusOp) (data : Word) (ecc : Fin 3) (env : BusEnv) (on : s.dbgOn = true)
    (clear : s.cpu.dbg.sberror = 0) :
    s.debugAccess op a 4 data ecc env = (s.answer .busError).dbgSet fun d => { d with sbaddr := a, sberror := 2 } := by
  have load := s.busLoad_noRegister lo hi absent .debug 4 ecc
  have store := s.busStore_noRegister lo hi absent .debug 4 data env
  unfold State.debugAccess
  rw [if_neg (by simp [on, clear]), if_neg (by simp)]
  cases op <;> simp only [load, store] <;> rfl

end NoRegister

/-- Settles O41: in the block map every access is one of a register, and where no register is it is a bus error. -/
theorem noRegisterThere : Obligations.NoRegisterThere := by
  refine ⟨fun s core addr size data env lo hi absent h => ?_, fun s core op addr size data ecc env lo hi absent run h => ?_,
    fun s op addr data ecc env lo hi absent on clear => ?_⟩
  · rw [exec_registerWrite, execRegisterWrite, s.coreAccess_noRegister lo hi absent core .store size data 0 env h]
  · simp only [exec_systemBusAccess, execSystemBusAccess, if_pos run]
    rw [s.coreAccess_noRegister lo hi absent core op size data ecc env h]
  · simp only [exec_systemBusAccess, execSystemBusAccess]
    rw [s.debugAccess_noRegister lo hi absent op data ecc env on clear]

/-! ### Writes by access code -/

/-- The access codes of which a write changes the field (R6). -/
def Acc.takesWrite : Acc → Bool
  | .ro | .wo | .rc => false
  | .rw | .rwk | .w1c | .w1s => true

/-- The fields that a write of `v` changes, each with its new value. -/
def State.fieldsWritten (s : State) (l : List FieldRow) (v : Nat) : List (Fld × Nat) :=
  (l.filter fun r => r.acc.takesWrite).map fun r => (r.fld, s.newF r v)

theorem State.storeWord_eq (s : State) (l : List FieldRow) (v : Nat) : s.storeWord l v = s.setFs (s.fieldsWritten l v) := by
  unfold State.storeWord State.fieldsWritten
  congr 3
  funext r
  cases r.acc <;> rfl

theorem State.mem_fieldsWritten {s : State} {l : List FieldRow} {v : Nat} {p : Fld × Nat} :
    p ∈ s.fieldsWritten l v ↔ ∃ r ∈ l, r.acc.takesWrite = true ∧ p = (r.fld, s.newF r v) := by
  simp only [State.fieldsWritten, List.mem_map, List.mem_filter, and_assoc, eq_comm]

/-- The keys written are some of the register's, in order: they stay distinct. -/
theorem State.keys_fieldsWritten_nodup {s : State} {l : List FieldRow} {v : Nat} (h : (l.map fun r => r.fld.key).Nodup) :
    ((s.fieldsWritten l v).map fun p => p.1.key).Nodup := by
  rw [State.fieldsWritten, List.map_map]
  exact h.sublist (List.filter_sublist.map _)

theorem State.getF_setFs_ne {s : State} {l : List (Fld × Nat)} {f : Fld} (h : ∀ p ∈ l, f.key ≠ p.1.key) : (s.setFs l).getF f = s.getF f := by
  induction l generalizing s with
  | nil => rfl
  | cons p l ih =>
    obtain ⟨hp, hl⟩ := List.forall_mem_cons.mp h
    rw [State.setFs_cons, ih hl, State.getF_setF_ne _ _ _ _ hp]

theorem State.getF_setFs_of_mem {s : State} {l : List (Fld × Nat)} {f : Fld} {v : Nat} (distinct : (l.map fun p => p.1.key).Nodup)
    (h : (f, v) ∈ l) : (s.setFs l).getF f = v % 2 ^ f.width := by
  induction l generalizing s with
  | nil => cases h
  | cons p l ih =>
    obtain ⟨fresh, distinct⟩ := List.nodup_cons.mp distinct
    rw [State.setFs_cons]
    rcases List.mem_cons.mp h with rfl | h
    · rw [State.getF_setFs_ne fun q hq e => fresh (List.mem_map.mpr ⟨q, hq, e.symm⟩), State.getF_setF_self]
    · exact ih distinct h

theorem State.getF_storeWord_of_ne {s : State} {l : List FieldRow} {v : Nat} {f : Fld} (h : ∀ r ∈ l, f.key ≠ r.fld.key) :
    (s.storeWord l v).getF f = s.getF f := by
  rw [State.storeWord_eq]
  refine State.getF_setFs_ne fun p hp => ?_
  obtain ⟨r, hr, -, rfl⟩ := State.mem_fieldsWritten.mp hp
  exact h r hr

section Fields

variable {s : State} {l : List FieldRow} {v : Nat} {r : FieldRow} (distinct : (l.map fun r => r.fld.key).Nodup) (mem : r ∈ l)
include distinct mem

theorem State.getF_storeWord_taken (h : r.acc.takesWrite = true) : (s.storeWord l v).getF r.fld = s.newF r v % 2 ^ r.fld.width := by
  rw [State.storeWord_eq]
  exact State.getF_setFs_of_mem (State.keys_fieldsWritten_nodup distinct) (State.mem_fieldsWritten.mpr ⟨r, mem, h, rfl⟩)

theorem State.getF_storeWord_ignored (h : r.acc.takesWrite = false) : (s.storeWord l v).getF r.fld = s.getF r.fld := by
  rw [State.storeWord_eq]
  refine State.getF_setFs_ne fun p hp same => ?_
  obtain ⟨q, hq, takes, rfl⟩ := State.mem_fieldsWritten.mp hp
  have : r = q := List.inj_on_of_nodup_map distinct mem hq same
  subst this
  simp [h] at takes

end Fields

/-- Settles O46: a field whose code takes the write reads as its new value, as the other places written are not its own; every other
field of the register, and every field elsewhere, is at none of the places written. -/
theorem registerCodes : Obligations.RegisterCodes := by
  refine fun s l v distinct => ⟨fun r mem => ?_, fun f h => State.getF_storeWord_of_ne h⟩
  cases h : r.acc with
  | rw | rwk | w1c | w1s => simpa only [State.newF, h] using State.getF_storeWord_taken distinct mem (h ▸ rfl)
  | ro | wo | rc => exact State.getF_storeWord_ignored distinct mem (h ▸ rfl)

end Sys2Proof.Machine
end

section
/-! SUPPORT. Proofs of the statements on the device in its lantern (spec/01_the_device_in_its_lantern.md): the reset values, accesses to
blocks without power (R23, R25, R651), SRAM on the bus (R23, R401, R652), and what every command and every step keeps of the
memories, the queue and the time. -/

namespace Sys2Proof.Machine

open Sys2Proof

/-! ### Reset -/

/-- At reset no register has been written: every field reads as its table says. -/
@[simp] theorem State.getF_reset (f : Fld) : State.reset.getF f = f.rst := rfl

theorem State.memWf_reset : State.reset.memWf = true :=
  State.memWf_iff.mpr ⟨Sparse.wf_nil _, Sparse.wf_nil _, Sparse.wf_nil _, Sparse.wf_nil _, Sparse.wf_nil _, Sparse.wf_nil _⟩

theorem State.outputsOff_reset : State.reset.outputsOff = true := by
  simp only [State.outputsOff, State.isSet, State.getF_reset]
  rfl

/-- Settles O48: no memory lists a byte at reset, and the bits that energise the outputs reset to 0. -/
theorem memoriesCanonicalAtReset : Obligations.MemoriesCanonicalAtReset :=
  ⟨State.memWf_reset, State.outputsOff_reset, rfl⟩

/-- SYS_ID reads as the device's identity (R414). -/
theorem State.readWord_reset_sysId : State.reset.readWord ((fieldsAt 0x40000000).getD []) = 0x16400001 := by decide

/-- Settles O57: the word of SYS_ID, and the reset column of each of the other fields. -/
theorem resetRegisters : Obligations.ResetRegisters := by
  refine ⟨State.readWord_reset_sysId, ?_⟩
  simp only [State.getF_reset]
  decide

/-! ### Accesses without power -/

theorem State.keyed_off (s : State) (d b : Nat) (f : State → State) (h : s.on d = false) : s.keyed d b f = s.answer .busError := by
  simp [State.keyed, h]

theorem State.cilCmd_off (s : State) (f : State → State) (h : s.on Dom.core = false) : s.cilCmd f = s.answer .busError :=
  s.access_off _ _ h

theorem State.windowRefused_off {s : State} (offset size : Nat) (h : s.on Dom.sill = false ∨ s.on Dom.adCtl = false) :
    s.windowRefused offset size = true := by
  rcases h with h | h <;> simp [State.windowRefused, h]

/-- Settles O40: without either domain the window refuses the access before it becomes a request (R25). -/
theorem adWindowUnpowered : Obligations.AdWindowUnpowered := by
  intro s offset size data off
  have refused := State.windowRefused_off offset size off
  simp only [exec_adWindowRead, exec_adWindowWrite, execAdWindowRead, execAdWindowWrite, refused, if_true, and_self]

/-- Settles O47: the meaning of each command that `accessDom` names asks first whether its block's domain is on: some through `cilCmd` or
`keyed`, three by a test of their own, all others through `access`. -/
theorem unpoweredBlocks : Obligations.UnpoweredBlocks := by
  intro s c d reaches off
  cases c <;> cases reaches
  case cilOpen | cilAppend | cilClose | cilCheck | cilCommit | cilAbort => exact congrArg _ (s.cilCmd_off _ off)
  case debugEnable | cameraConfigWrite | tpcfgWrite => exact congrArg _ (s.keyed_off _ _ _ off)
  case uartRxd | spiRxd => exact congrArg _ (if_pos off)
  case sysMtimeLo => exact congrArg _ (if_neg (ne_true_of_eq_false off))
  all_goals exact congrArg _ (s.access_off _ _ off)

/-! ### SRAM on the bus -/

@[simp] theorem length_leBytes (n v : Nat) : (leBytes n v).length = n := by
  induction n generalizing v with
  | zero => rfl
  | succ n ih => rw [leBytes, List.length_cons, ih]

theorem getElem_leBytes {n i : Nat} (v : Nat) (h : i < (leBytes n v).length) : (leBytes n v)[i] = BitVec.ofNat 8 (v / 256 ^ i) := by
  induction n generalizing v i with
  | zero => exact absurd h (Nat.not_lt_zero i)
  | succ n ih =>
    cases i with
    | zero => simp [leBytes]
    | succ i => simp [leBytes, ih, Nat.div_div_eq_div_mul, Nat.pow_succ']

/-- The bytes of a value spell it as far as they reach. -/
theorem leNat_leBytes (n v : Nat) : leNat (leBytes n v) = v % 256 ^ n := by
  induction n generalizing v with
  | zero => simp [leBytes, leNat, Nat.mod_one]
  | succ n ih =>
    rw [leBytes, leNat, ih, BitVec.toNat_ofNat, Nat.pow_succ' (m := 256)]
    exact Nat.mod_mul.symm

section Lists

variable {α : Type} [DecidableEq α] {d : α} {m : Sparse α}

/-- What a key reads as after a write of consecutive entries. -/
theorem Sparse.get_setList_eq (l : List α) (k j : Nat) (h : Sparse.wf d m = true) :
    Sparse.get d (Sparse.setList d m k l) j = if k ≤ j ∧ j < k + l.length then l.getD (j - k) d else Sparse.get d m j := by
  split
  · next inside =>
    obtain ⟨i, rfl⟩ := Nat.exists_eq_add_of_le inside.1
    have hi : i < l.length := by omega
    rw [Sparse.get_setList l k i hi h, Nat.add_sub_cancel_left, List.getD_eq_getElem l d hi]
  · next outside => exact Sparse.get_setList_ne l k j h (by omega)

theorem Sparse.getList_setList (l : List α) (k : Nat) (h : Sparse.wf d m = true) :
    Sparse.getList d (Sparse.setList d m k l) k l.length = l := by
  refine List.ext_getElem (by simp [Sparse.getList]) fun i _ hi => ?_
  simp [Sparse.getList, Sparse.get_setList l k i hi h]

end Lists

section Sram

variable (s : State) (wf : Sparse.wf 0 s.sram = true)
include wf

theorem State.get_sramWrite_leBytes (a n v j : Nat) :
    Sparse.get 0 (s.sramWrite a (leBytes n v)).sram j =
      if a ≤ j ∧ j < a + n then BitVec.ofNat 8 (v / 256 ^ (j - a)) else Sparse.get 0 s.sram j := by
  rw [State.sramWrite, Sparse.get_setList_eq _ _ _ wf, length_leBytes]
  refine ite_congr rfl (fun inside => ?_) fun _ => rfl
  have reached : j - a < (leBytes n v).length := by rw [length_leBytes]; omega
  rw [List.getD_eq_getElem _ _ reached, getElem_leBytes]

/-- A value whose bytes stand in SRAM as they were stored is read back, as far as they reach. -/
theorem State.leNat_sramBytes_of_stored {t : State} {a n v : Nat} (stored : t.sram = (s.sramWrite a (leBytes n v)).sram) :
    leNat (t.sramBytes a n) = v % 256 ^ n := by
  have back := Sparse.getList_setList (leBytes n v) a wf
  rw [length_leBytes] at back
  rw [State.sramBytes, stored, State.sramWrite, back, leNat_leBytes]

end Sram

theorem memoryAt_sram {a : Nat} (lo : 0x10000000 ≤ a) (hi : a < 0x10080000) : memoryAt a = some 1 := by
  rw [memoryAt, if_neg (by omega), if_pos ⟨lo, hi⟩]

section SramAccess

variable {s : State} {a size : Nat} (lo : 0x10000000 ≤ a) (hi : a < 0x10080000) (aligned : a % size = 0)
include lo hi aligned

theorem State.busStore_sram (m : Master) (data : Word) (env : BusEnv) :
    s.busStore m a size data env = (s.sramWrite (a - 0x10000000) (leBytes size data.toNat)).answer .ok := by
  simp [State.busStore, memoryAt_sram lo hi, aligned]

theorem State.busLoad_sram (m : Master) :
    s.busLoad m a size 0 = s.answer (.data (BitVec.ofNat 32 (leNat (s.sramBytes (a - 0x10000000) size)))) := by
  simp [State.busLoad, memoryAt_sram lo hi, aligned, State.sramRead, State.answerBytes]

theorem State.busLoad_sram_of_stored (wf : Sparse.wf 0 s.sram = true) {t : State} {data : Word}
    (stored : t.sram = (s.sramWrite (a - 0x10000000) (leBytes size data.toNat)).sram) (m : Master) :
    t.busLoad m a size 0 = t.answer (.data (BitVec.ofNat 32 (data.toNat % 256 ^ size))) := by
  rw [State.busLoad_sram lo hi aligned, s.leNat_sramBytes_of_stored wf stored]

end SramAccess

section Masters

variable {s t : State} {core : Fin 2} {a size : Nat} {data w : Word} {ecc : Fin 3} {env : BusEnv}

theorem exec_coreStore (run : s.coresRun = true) (same : env.differs = none) (done : s.busStore (.core core) a size data env = t) :
    exec (.systemBusAccess (.core core) .store a size data ecc env) s = .next t := by
  simp only [exec_systemBusAccess, execSystemBusAccess, State.coreAccess, if_pos run, same, done]

theorem exec_coreLoad (run : s.coresRun = true) (same : env.differs = none) (done : s.busLoad (.core core) a size ecc = t) :
    exec (.systemBusAccess (.core core) .load a size data ecc env) s = .next t := by
  simp only [exec_systemBusAccess, execSystemBusAccess, State.coreAccess, if_pos run, same, done]

/-- A store that the bus acknowledges leaves its address in the debug module (R401). -/
theorem exec_debugStore (on : s.dbgOn = true) (clear : s.cpu.dbg.sberror = 0) (done : s.busStore .debug a 4 data env = t.answer .ok) :
    exec (.systemBusAccess .debug .store a 4 data ecc env) s = .next ((t.answer .ok).dbgSet fun d => { d with sbaddr := a }) := by
  simp only [exec_systemBusAccess, execSystemBusAccess, State.debugAccess, on, clear, done]
  rfl

/-- A load at the address that the debug module holds leaves the word there as well (R401). -/
theorem exec_debugLoad (on : s.dbgOn = true) (clear : s.cpu.dbg.sberror = 0) (here : s.cpu.dbg.sbaddr = a)
    (done : s.busLoad .debug a 4 ecc = s.answer (.data w)) :
    exec (.systemBusAccess .debug .load a 4 data ecc env) s = .next ((s.answer (.data w)).dbgSet fun d => { d with sbdata := w.toNat }) := by
  subst here
  simp only [exec_systemBusAccess, execSystemBusAccess, State.debugAccess, on, clear, done]
  rfl

end Masters

/-- Settles O44: the store leaves its bytes in SRAM, whichever master makes it, and the load spells the word they make. -/
theorem sramByTheBus : Obligations.SramByTheBus := by
  refine ⟨fun s addr data env on clear wf lo hi aligned => ?_, fun s core addr size data env run same wf _ lo hi aligned => ?_⟩
  · refine ⟨_, exec_debugStore on clear (State.busStore_sram lo hi aligned .debug data env),
      s.get_sramWrite_leBytes wf _ 4 data.toNat, ?_⟩
    have word : BitVec.ofNat 32 (data.toNat % 256 ^ 4) = data := by simp [Nat.mod_eq_of_lt data.isLt]
    refine exec_debugLoad on clear rfl ((State.busLoad_sram_of_stored lo hi aligned wf ?_ .debug).trans (by rw [word]))
    rfl
  · refine ⟨_, exec_coreStore run same (State.busStore_sram lo hi aligned (.core core) data env),
      s.get_sramWrite_leBytes wf _ size data.toNat, ?_⟩
    refine exec_coreLoad run same (State.busLoad_sram_of_stored lo hi aligned wf ?_ (.core core))
    rfl

/-! ### What a command keeps -/

/-- What holds beside unchanged memories holds without them. -/
theorem Keeps.weaken {ms mf ma : Bool} {s t : State} (h : Keeps ms mf ma s t) : Keeps false false false s t :=
  ⟨h.rom, h.otp, h.pending, h.now, h.mem, nofun, nofun, nofun⟩

/-- Every command but APPLY_STEP_DONE, which burns OTP (R375), keeps OTP, the boot ROM, the queue, the time and the canonical form, and
each memory of whose writers it is none. One lemma per command says so of its meaning. -/
theorem exec_keeps {s : State} {c : Instr} (other : ∀ ok part progs, c ≠ .applyStepDone ok part progs) :
    KeepsOut (!writesSram c) (!writesFlash c) (!writesAd c) s (exec c s) := by
  have h {ms mf ma : Bool} : Keeps ms mf ma s s := Keeps.refl s
  cases c with
  | registerWrite => exact h.execRegisterWrite
  | i2cRxd => exact h.execI2cRxd
  | uartRxd => exact h.execUartRxd
  | spiRxd => exact h.execSpiRxd
  | tlSeammax => exact h.execTlSeammax
  | evlQMax => exact h.execEvlQMax
  | sysMtimeLo => exact h.execSysMtimeLo
  | pmuRtcLo => exact h.execPmuRtcLo
  | cilOpen => exact h.execCilOpen
  | cilAppend => exact h.execCilAppend
  | cilClose => exact h.execCilClose
  | cilCheck => exact h.execCilCheck
  | cilCommit => exact h.execCilCommit
  | cilAbort => exact h.execCilAbort
  | applyStepDone ok part progs => exact absurd rfl (other ok part progs)
  | applyStepDeadline => exact h.execApplyStepDeadline
  | passwordVerify => exact h.execPasswordVerify
  | verificationDone => exact h.execVerificationDone
  | authEnd => exact h.execAuthEnd
  | sessionExpiry => exact h.execSessionExpiry
  | lockEnd => exact h.execLockEnd
  | keyOpen => exact h.execKeyOpen
  | keyClose => exact h.execKeyClose
  | keyExpiry => exact h.execKeyExpiry
  | suspend => exact h.execSuspend
  | resume => exact h.execResume
  | reset => exact h.execReset
  | lendon => exact h.execLendon
  | lendoff => exact h.execLendoff
  | tenSqdb => exact h.execTenSqdb
  | tenCqhd => exact h.execTenCqhd
  | adWindowRead => exact h.execAdWindowRead
  | adWindowWrite => exact h.execAdWindowWrite
  | memTimeout => exact h.execMemTimeout
  | tenantFault => exact h.execTenantFault
  | scrubComplete => exact h.execScrubComplete
  | modelVerified => exact h.execModelVerified
  | stateAckTimeout => exact h.execStateAckTimeout
  | canaryAuditRound => exact h.execCanaryAuditRound
  | auditAnswerTimeout => exact h.execAuditAnswerTimeout
  | majorFrameStart => exact h.execMajorFrameStart
  | frameReportTimeout => exact h.execFrameReportTimeout
  | slotBoundary => exact h.execSlotBoundary
  | slotStopLead => exact h.execSlotStopLead
  | memoryGrant err => exact exec_memoryGrant s err ▸ h.execMemoryGrant
  | frameStart => exact h.execFrameStart
  | linePacket => exact h.execLinePacket
  | frameEnd => exact h.execFrameEnd
  | frameTimeout => exact h.execFrameTimeout
  | cameraSilence => exact h.execCameraSilence
  | flintCopy => exact h.execFlintCopy
  | phyError => exact h.execPhyError
  | cameraConfigWrite => exact h.execCameraConfigWrite
  | i2cTransfer => exact h.execI2cTransfer
  | i2cTransferDone => exact h.execI2cTransferDone
  | arbitrationLost => exact h.execArbitrationLost
  | i2cRetry => exact h.execI2cRetry
  | busStuck => exact h.execBusStuck
  | i2cBuserr => exact h.execI2cBuserr
  | i2cTxd => exact h.execI2cTxd
  | linkTraining => exact h.execLinkTraining
  | trainingStepTimeout => exact h.execTrainingStepTimeout
  | linkUp => exact h.execLinkUp
  | fastRetrain => exact h.execFastRetrain
  | blockLockLost => exact h.execBlockLockLost
  | retrain => exact h.execRetrain
  | fulltrain => exact h.execFulltrain
  | sillrst => exact h.execSillrst
  | dataFlit => exact h.execDataFlit
  | linkControlFlit => exact h.execLinkControlFlit
  | ackTimer => exact h.execAckTimer
  | replayTimeout => exact h.execReplayTimeout
  | ready => exact h.execReady
  | tenCmd => exact h.execTenCmd
  | tenAck => exact h.execTenAck
  | doorbell => exact h.execDoorbell
  | majorTick => exact h.execMajorTick
  | frameReport => exact h.execFrameReport
  | probe => exact h.execProbe
  | probeResult => exact h.execProbeResult
  | config => exact h.execConfig
  | configAck => exact h.execConfigAck
  | event => exact h.execEvent
  | energyPlan => exact h.execEnergyPlan
  | pmEnter => exact h.execPmEnter
  | pmAck => exact h.execPmAck
  | pmAckTimeout => exact h.execPmAckTimeout
  | electricalIdle => exact h.execElectricalIdle
  | resumeAck => exact h.execResumeAck
  | debug => exact h.execDebug
  | debugRsp => exact h.execDebugRsp
  | nakMsg => exact h.execNakMsg
  | frameOpen => exact h.execFrameOpen
  | frameData => exact h.execFrameData
  | frameTrailer => exact h.execFrameTrailer
  | streakSet => exact h.execStreakSet
  | record => exact h.execRecord
  | complNote => exact h.execComplNote
  | memRd => exact h.execMemRd
  | memRdData => exact h.execMemRdData
  | memWr => exact h.execMemWr
  | memWrAck => exact h.execMemWrAck
  | dozeIdleTimeout => exact h.execDozeIdleTimeout
  | sleepReq => exact h.execSleepReq
  | sleepAfterTimeout => exact h.execSleepAfterTimeout
  | silResume => exact h.execSilResume
  | sbWake => exact h.execSbWake
  | resumeComplete => exact h.execResumeComplete
  | debugEnable => exact h.execDebugEnable
  | apllSlewDone => exact h.execApllSlewDone
  | slewTimeout => exact h.execSlewTimeout
  | tpointRequest => exact h.execTpointRequest
  | tcapWrite => exact h.execTcapWrite
  | voutPoll => exact h.execVoutPoll
  | voutTimeout => exact h.execVoutTimeout
  | clockPlanAckTimeout => exact h.execClockPlanAckTimeout
  | tilePowerUp => exact h.execTilePowerUp
  | memoryTrained => exact h.execMemoryTrained
  | mr4Poll => exact h.execMr4Poll
  | dramRefresh => exact h.execDramRefresh
  | wckOscMeasure => exact h.execWckOscMeasure
  | bundleDispatch => exact h.execBundleDispatch
  | nextBundle => exact h.execNextBundle
  | loop => exact h.execLoop
  | endl => exact h.execEndl
  | jump => exact h.execJump
  | halt => exact h.execHalt
  | sync => exact h.execSync
  | tileHalted => exact h.execTileHalted
  | nop => exact h.execNop
  | mseta => exact h.execMseta
  | mmode => exact h.execMmode
  | wload => exact h.execWload
  | wswap => exact h.execWswap
  | mma => exact h.execMma
  | sigo => exact h.execSigo
  | sigc => exact h.execSigc
  | aclr => exact h.execAclr
  | valu => exact h.execValu
  | vfma => exact h.execVfma
  | vcmp => exact h.execVcmp
  | vsh => exact h.execVsh
  | vsfu => exact h.execVsfu
  | vcvt => exact h.execVcvt
  | vsel => exact h.execVsel
  | vred => exact h.execVred
  | vld => exact h.execVld
  | vst => exact h.execVst
  | vldt => exact h.execVldt
  | vrq => exact h.execVrq
  | vacc => exact h.execVacc
  | vparam => exact h.execVparam
  | vspl => exact h.execVspl
  | vseta => exact h.execVseta
  | vpmap => exact h.execVpmap
  | msetd => exact h.execMsetd
  | mload => exact h.execMload
  | mstore => exact h.execMstore
  | msend => exact h.execMsend
  | mrecv => exact h.execMrecv
  | mfence => exact h.execMfence
  | engineOpComplete => exact h.execEngineOpComplete
  | shiftComplete => exact h.execShiftComplete
  | seamReached => exact h.execSeamReached
  | tileSeamLate => exact h.execTileSeamLate
  | tileCreditStall => exact h.execTileCreditStall
  | tileDeadlock => exact h.execTileDeadlock
  | swap => exact h.execSwap
  | stop => exact h.execStop
  | start => exact h.execStart
  | swapLimitExpiry => exact h.execSwapLimitExpiry
  | stopLimitExpiry => exact h.execStopLimitExpiry
  | shiftWithdrawn => exact h.execShiftWithdrawn
  | programBankWrite => exact h.execProgramBankWrite
  | phaseBarrier => exact h.execPhaseBarrier
  | inferFrame => exact h.execInferFrame
  | inferCrops => exact h.execInferCrops
  | inferBatch => exact h.execInferBatch
  | copy => exact h.execCopy
  | grad => exact h.execGrad
  | reduce => exact h.execReduce
  | reduceFirst => exact h.execReduceFirst
  | norm => exact h.execNorm
  | update => exact h.execUpdate
  | jobComplete => exact h.execJobComplete
  | jobDeadline => exact h.execJobDeadline
  | batchClose => exact h.execBatchClose
  | flintScore => exact h.execFlintScore
  | flintSelfTest => exact h.execFlintSelfTest
  | flintOverrun => exact h.execFlintOverrun
  | assayJudge => exact h.execAssayJudge
  | zoneExpiry => exact h.execZoneExpiry
  | runExpiry => exact h.execRunExpiry
  | assaySelfCheck => exact h.execAssaySelfCheck
  | stkRngFail => exact h.execStkRngFail
  | demote => exact h.execDemote
  | distrust => exact h.execDistrust
  | retry => exact h.execRetry
  | clearzones => exact h.execClearzones
  | qualification => exact h.execQualification
  | qualificationDone => exact h.execQualificationDone
  | qualRecordTimeout => exact h.execQualRecordTimeout
  | luxDarkWrite => exact h.execLuxDarkWrite
  | luxinTimeout => exact h.execLuxinTimeout
  | schedTimeout => exact h.execSchedTimeout
  | lightHoldExpiry => exact h.execLightHoldExpiry
  | controlCycle => exact h.execControlCycle
  | ocTrip => exact h.execOcTrip
  | scTrip => exact h.execScTrip
  | hiccupRetry => exact h.execHiccupRetry
  | vgdUndervoltage => exact h.execVgdUndervoltage
  | vgdRecovery => exact h.execVgdRecovery
  | sfl1Timeout => exact h.execSfl1Timeout
  | luxCopy => exact h.execLuxCopy
  | home => exact h.execHome
  | tiltStop => exact h.execTiltStop
  | tltTarget => exact h.execTltTarget
  | encIndex => exact h.execEncIndex
  | homingTimeout => exact h.execHomingTimeout
  | slsWindow => exact h.execSlsWindow
  | potSample => exact h.execPotSample
  | bridgeOvercurrent => exact h.execBridgeOvercurrent
  | testPulseSample => exact h.execTestPulseSample
  | demandSample => exact h.execDemandSample
  | discrepancyTimeout => exact h.execDiscrepancyTimeout
  | armA => exact h.execArmA
  | tripA => exact h.execTripA
  | armB => exact h.execArmB
  | tripB => exact h.execTripB
  | tpcfgWrite => exact h.execTpcfgWrite
  | trip => exact h.execTrip
  | offTest => exact h.execOffTest
  | readbackMismatch => exact h.execReadbackMismatch
  | safeResetFall => exact h.execSafeResetFall
  | safeResetRise => exact h.execSafeResetRise
  | resetStuck => exact h.execResetStuck
  | lockstepMismatch => exact h.execLockstepMismatch
  | agreementFault => exact h.execAgreementFault
  | interruptInput => exact h.execInterruptInput
  | split => exact h.execSplit
  | join => exact h.execJoin
  | splitTimeout => exact h.execSplitTimeout
  | watchdogKick => exact h.execWatchdogKick
  | watchdogExpiry => exact h.execWatchdogExpiry
  | kickHalfTimeout => exact h.execKickHalfTimeout
  | scrubRead => exact h.execScrubRead
  | otpRead => exact h.execOtpRead
  | otpReadDone => exact h.execOtpReadDone
  | idcode => exact h.execIdcode
  | dtmcs => exact h.execDtmcs
  | dmi => exact h.execDmi
  | bypass => exact h.execBypass
  | dmactiveWrite => exact h.execDmactiveWrite
  | haltRequest => exact h.execHaltRequest
  | resumeRequest => exact h.execResumeRequest
  | singleStep => exact h.execSingleStep
  | accessRegister => exact h.execAccessRegister
  | programBuffer => exact h.execProgramBuffer
  | systemBusAccess => exact h.execSystemBusAccess
  | ndmreset => exact h.execNdmreset
  | portLinkUp => exact h.execPortLinkUp
  | portLinkDown => exact h.execPortLinkDown
  | frameReceived => exact h.execFrameReceived
  | rxTailWrite => exact h.execRxTailWrite
  | txTailWrite => exact h.execTxTailWrite
  | frameTransmitted => exact h.execFrameTransmitted
  | learnAge => exact h.execLearnAge
  | stormWindow => exact h.execStormWindow
  | fupEntryExpiry => exact h.execFupEntryExpiry
  | c22Write => exact h.execC22Write
  | c22Read => exact h.execC22Read
  | c45Address => exact h.execC45Address
  | c45Write => exact h.execC45Write
  | c45Read => exact h.execC45Read
  | c45ReadIncrement => exact h.execC45ReadIncrement
  | mdioDone => exact h.execMdioDone
  | snap => exact h.execSnap
  | tb3Align => exact h.execTb3Align
  | selA => exact h.execSelA
  | selB => exact h.execSelB
  | baseStep => exact h.execBaseStep
  | domainLockWrite => exact h.execDomainLockWrite
  | syncTimeout => exact h.execSyncTimeout
  | baseWrap => exact h.execBaseWrap
  | triggerFire => exact h.execTriggerFire
  | triggerArm => exact h.execTriggerArm
  | fsyncPulseEnd => exact h.execFsyncPulseEnd
  | cairnFrame => exact h.execCairnFrame
  | claim => exact h.execClaim
  | yield => exact h.execYield
  | roster => exact h.execRoster
  | cairnJoin => exact h.execCairnJoin
  | hello => exact h.execHello
  | beat => exact h.execBeat
  | chunkData => exact h.execChunkData
  | chunkAck => exact h.execChunkAck
  | cairnStep => exact h.execCairnStep
  | ckptMark => exact h.execCkptMark
  | cairnFault => exact h.execCairnFault
  | tListen => exact h.execTListen
  | claimWait => exact h.execClaimWait
  | followTo => exact h.execFollowTo
  | joinRetry => exact h.execJoinRetry
  | backoff => exact h.execBackoff
  | helloMs => exact h.execHelloMs
  | neighbourTo => exact h.execNeighbourTo
  | rosterMs => exact h.execRosterMs
  | beatTimer => exact h.execBeatTimer
  | headTo => exact h.execHeadTo
  | beatTo => exact h.execBeatTo
  | rankWait => exact h.execRankWait
  | rosterPublish => exact h.execRosterPublish
  | restart => exact h.execRestart
  | revert => exact h.execRevert
  | transferStart => exact h.execTransferStart
  | messageSend => exact h.execMessageSend
  | resendTimeout => exact h.execResendTimeout
  | chunkAckTimer => exact h.execChunkAckTimer
  | transferIdleTimeout => exact h.execTransferIdleTimeout
  | por => exact h.execPor
  | porRelease => exact h.execPorRelease
  | supplyOutOfRange => exact h.execSupplyOutOfRange
  | supplyRecovery => exact h.execSupplyRecovery
  | clockFault => exact h.execClockFault
  | xtal32Fail => exact h.execXtal32Fail
  | xtal32Running => exact h.execXtal32Running
  | cpllLock => exact h.execCpllLock
  | sramInitDone => exact h.execSramInitDone
  | coresLeaveReset => exact h.execCoresLeaveReset
  | bootLoaderStart => exact h.execBootLoaderStart
  | pgRise => exact h.execPgRise
  | pgTimeout => exact h.execPgTimeout
  | pgLost => exact h.execPgLost
  | startRetry => exact h.execStartRetry
  | pgReraise => exact h.execPgReraise
  | avsStatusPoll => exact h.execAvsStatusPoll
  | watch => exact h.execWatch
  | work => exact h.execWork
  | standby => exact h.execStandby
  | readyTimeout => exact h.execReadyTimeout
  | wakeAlarm => exact h.execWakeAlarm
  | wakePin => exact h.execWakePin
  | updRequest => exact h.execUpdRequest
  | domainReset => exact h.execDomainReset
  | sysReset => exact h.execSysReset
  | coreReset => exact h.execCoreReset
  | adReset => exact h.execAdReset
  | qspiProgram => exact h.execQspiProgram
  | qspiErase4k => exact h.execQspiErase4k
  | qspiErase64k => exact h.execQspiErase64k
  | qspiRead => exact h.execQspiRead
  | qspiDone => exact h.execQspiDone
  | qspiTimeout => exact h.execQspiTimeout
  | ntcSample => exact h.execNtcSample
  | cdSensorSample => exact h.execCdSensorSample
  | forecast => exact h.execForecast
  | planMissTimeout => exact h.execPlanMissTimeout
  | cdHotTimer => exact h.execCdHotTimer
  | watchordTimeout => exact h.execWatchordTimeout
  | stepTest => exact h.execStepTest
  | stepTestAbort => exact h.execStepTestAbort
  | stepTestSample => exact h.execStepTestSample
  | eventRaise => exact h.execEventRaise
  | coalesceClose => exact h.execCoalesceClose
  | logRecordWrite => exact h.execLogRecordWrite
  | logRelease => exact h.execLogRelease
  | pageStart => exact h.execPageStart
  | flushTimeout => exact h.execFlushTimeout
  | pagePersisted => exact h.execPagePersisted
  | flush => exact h.execFlush
  | prestart => exact h.execPrestart
  | firmwareEvent => exact h.execFirmwareEvent
  | gpioSet => exact h.execGpioSet
  | gpioClr => exact h.execGpioClr
  | gpioEdge => exact h.execGpioEdge
  | uartTxd => exact h.execUartTxd
  | uartRxByte => exact h.execUartRxByte
  | spiTransfer => exact h.execSpiTransfer
  | spiTxd => exact h.execSpiTxd
  | spiTransferDone => exact h.execSpiTransferDone
  | trainingRetry => exact h.execTrainingRetry
  | sbWakeHeld => exact h.execSbWakeHeld
  | encoderEdge => exact h.execEncoderEdge
  | pgFall => exact h.execPgFall
  | xo25StartTimeout => exact h.execXo25StartTimeout
  | uartTxComplete => exact h.execUartTxComplete

/-- Every command keeps the queue, the boot ROM and the time, and the memories canonical. -/
theorem exec_keepsBut {s t : State} {c : Instr} (run : exec c s = .next t) : KeepsBut s t := by
  by_cases burns : ∃ ok part progs, c = .applyStepDone ok part progs
  · obtain ⟨ok, part, progs, rfl⟩ := burns
    exact KeepsBut.execApplyStepDone run
  · push Not at burns
    exact (exec_keeps burns t run).weaken.but

/-! ### What a step keeps -/

theorem step_keepsBut_of_pending {s t : State} {c : Instr} {rest : List Instr} (front : s.pending = c :: rest) (run : step s = .next t) :
    KeepsBut { s with pending := rest } t :=
  exec_keepsBut (step_of_pending_cons front ▸ run)

theorem step_keeps_of_idle {s t : State} (idle : s.pending = []) (run : step s = .next t) :
    Keeps true true false { s with now := s.now + 8 } t := by
  obtain rfl : s.tick = t := Host.Outcome.next.inj (step_of_pending_nil idle ▸ run)
  exact Keeps.cycle s

/-- Settles O49: by the form of the queue, as each command keeps the canonical form and so does a cycle. -/
theorem memoriesStayCanonical : Obligations.MemoriesStayCanonical := by
  intro s t canonical run
  cases queue : s.pending with
  | nil => exact (step_keeps_of_idle queue run).mem canonical
  | cons c rest => exact ((step_keepsBut_of_pending queue run).mem canonical).1

/-- Settles O50: a command changes neither the queue it leaves behind nor boot ROM and time; a cycle moves the time by 8 ns and keeps the rest. -/
theorem stepKeepsQueueRomAndTime : Obligations.StepKeepsQueueRomAndTime := by
  refine ⟨fun s c rest t front run => ?_, fun s t idle run => ?_⟩
  · have kept := step_keepsBut_of_pending front run
    exact ⟨kept.pending, kept.rom, kept.now⟩
  · have kept := step_keeps_of_idle idle run
    exact ⟨kept.pending.trans idle, kept.now, kept.rom, kept.otp, kept.sramSame rfl, kept.flashSame rfl⟩

/-- Settles O55: APPLY_STEP_DONE is in the list, and every other command outside it keeps both memories. -/
theorem adMemoryWriters : Obligations.AdMemoryWriters := by
  intro s c t unlisted run
  have other : ∀ ok part progs, c ≠ .applyStepDone ok part progs := by
    rintro ok part progs rfl
    cases unlisted
  exact (exec_keeps other t run).adSame (by rw [unlisted]; rfl)

end Sys2Proof.Machine
end

section
/-! SUPPORT. Proofs of the statements on the configuration image (spec/02_configuration_image.md): OTP and the flash array over every
step and command (R59, R73), the flash controller's effect byte by byte (R563, R658), the image loader's commands (R40 to R68), and the
password and block keys (R52 to R57, R656). -/

namespace Sys2Proof.Machine

open Sys2Proof

/-! ### OTP and flash over every step and command -/

/-- A step burns OTP bits and clears none: a command by what every command keeps, a cycle by what it keeps. -/
theorem step_otpKept {s t : State} (canonical : s.memWf = true) (run : step s = .next t) : OtpKept s t := by
  cases queue : s.pending with
  | nil => exact ((step_keeps_of_idle queue run).weaken.but.mem canonical).2
  | cons c rest => exact ((step_keepsBut_of_pending queue run).mem canonical).2

/-- Settles O51: by the form of the queue. -/
theorem otpBitsStay : Obligations.OtpBitsStay := fun _ _ canonical run => step_otpKept canonical run

/-- Settles O52: every command but APPLY_STEP_DONE keeps OTP. -/
theorem otpWrittenByTheApplyOnly : Obligations.OtpWrittenByTheApplyOnly :=
  fun _ _ t other run => (exec_keeps other t run).otp

/-- Settles O53: APPLY_STEP_DONE is in the list, and every other command outside it keeps the flash array. -/
theorem flashWriters : Obligations.FlashWriters := by
  intro s c t unlisted run
  have other : ∀ ok part progs, c ≠ .applyStepDone ok part progs := by
    rintro ok part progs rfl
    cases unlisted
  exact (exec_keeps other t run).flashSame (by rw [unlisted]; rfl)

/-! ### The flash controller -/

/-- An unlisted range reads as nothing, and every other key as before. -/
theorem Sparse.find_clear {α : Type} {m : Sparse α} {b : Nat} (lo n j : Nat) (h : Sparse.sorted b m = true) :
    Sparse.find (Sparse.clear m lo n) j = if lo ≤ j ∧ j < lo + n then none else Sparse.find m j := by
  induction m generalizing b with
  | nil => simp [Sparse.clear, Sparse.find]
  | cons p m ih =>
    obtain ⟨i, w⟩ := p
    simp only [Sparse.sorted, Bool.and_eq_true, decide_eq_true_eq] at h
    have rest := ih h.2
    by_cases inside : lo ≤ i ∧ i < lo + n
    · have gone : Sparse.clear ((i, w) :: m) lo n = Sparse.clear m lo n := by simp [Sparse.clear, inside]
      rw [gone, rest]
      refine ite_congr rfl (fun _ => rfl) fun outside => ?_
      have other : i ≠ j := fun e => outside (e ▸ inside)
      rw [Sparse.find, if_neg other]
      split
      · next below => exact Sparse.find_none_of_lt h.2 (by omega)
      · rfl
    · have stays : Sparse.clear ((i, w) :: m) lo n = (i, w) :: Sparse.clear m lo n := by
        simp only [Sparse.clear]
        exact List.filter_cons_of_pos (by simp; omega)
      rw [stays, Sparse.find, Sparse.find, rest]
      by_cases same : i = j
      · subst same
        rw [if_pos rfl, if_pos rfl, if_neg inside]
      · rw [if_neg same, if_neg same]
        split <;> split <;> rfl

/-- An erased range reads as unlisted, and every other key as before. -/
theorem Sparse.get_clear {α : Type} [DecidableEq α] {d : α} {m : Sparse α} (lo n j : Nat) (h : Sparse.wf d m = true) :
    Sparse.get d (Sparse.clear m lo n) j = if lo ≤ j ∧ j < lo + n then d else Sparse.get d m j := by
  rw [Sparse.get, Sparse.find_clear lo n j (Sparse.wf_iff.mp h).1]
  split <;> rfl

/-- A program ANDs each byte of its range with its datum and leaves every other byte (R563). -/
theorem get_flashProgram (l : List Byte) : ∀ {m : Sparse Byte} (a j : Nat), Sparse.wf erasedByte m = true →
    Sparse.get erasedByte (flashProgram m a l) j =
      if a ≤ j ∧ j < a + l.length then Sparse.get erasedByte m j &&& l.getD (j - a) 0 else Sparse.get erasedByte m j := by
  induction l with
  | nil => intro m a j _; simp [flashProgram]
  | cons b l ih =>
    intro m a j h
    rw [flashProgram, ih (a + 1) j (Sparse.wf_set a _ h), Sparse.get_set a j _ h, List.length_cons]
    rcases Nat.lt_trichotomy j a with below | rfl | above
    · rw [if_neg (by omega), if_neg (by omega), if_neg (by omega)]
    · rw [if_neg (by omega), if_pos rfl, if_pos (by omega), Nat.sub_self]; rfl
    · obtain ⟨i, rfl⟩ := Nat.exists_eq_add_of_le above
      rw [if_neg (show a ≠ a + 1 + i by omega), Nat.add_sub_cancel_left, show a.succ + i - a = i + 1 by omega, List.getD_cons_succ]
      exact if_congr (by omega) rfl rfl

@[simp] theorem State.qspiEnd_flash (s : State) (f : Fld) : (s.qspiEnd f).flash = s.flash :=
  (Keeps.refl (ms := true) (mf := true) (ma := true) s).qspiEnd.flashSame rfl

@[simp] theorem State.qspiFill_flash (s : State) (l : List Byte) : (s.qspiFill l).flash = s.flash :=
  (Keeps.refl (ms := true) (mf := true) (ma := true) s).qspiFill.flashSame rfl

section QspiDone

variable {s : State} {c : QspiCmd} (busy : s.qspi = some c)
include busy

theorem exec_qspiDone_program (op : c.op = 1) : exec .qspiDone s = .next ((s.program c.addr c.data).qspiEnd R.QSPI_INT_DONE) := by
  simp only [exec_qspiDone, execQspiDone, busy, op, if_true]

theorem exec_qspiDone_erase (op : c.op = 2 ∨ c.op = 3) : exec .qspiDone s = .next ((s.erase c.addr c.len).qspiEnd R.QSPI_INT_DONE) := by
  simp only [exec_qspiDone, execQspiDone, busy]
  rw [if_neg (by omega), if_neg (by omega)]

theorem exec_qspiDone_read (op : c.op = 4) :
    exec .qspiDone s = .next ((s.qspiFill (s.flashBytes c.addr c.len)).qspiEnd R.QSPI_INT_DONE) := by
  simp only [exec_qspiDone, execQspiDone, busy, op]
  rfl

end QspiDone

/-- Settles O45: the end of a command leaves in flash what its operation does to the array, byte by byte. -/
theorem flashByTheController : Obligations.FlashByTheController := by
  refine ⟨fun s c busy op canonical => ?_, fun s c busy op canonical => ?_, fun s c busy op => ?_⟩
  · refine ⟨_, exec_qspiDone_program busy op, fun j => ?_⟩
    rw [State.qspiEnd_flash]
    exact get_flashProgram c.data c.addr j canonical
  · refine ⟨_, exec_qspiDone_erase busy op, fun j => ?_⟩
    rw [State.qspiEnd_flash]
    exact Sparse.get_clear c.addr c.len j canonical
  · exact ⟨_, exec_qspiDone_read busy op, by rw [State.qspiEnd_flash, State.qspiFill_flash]⟩

/-! ### The image loader -/

/-- The state once the outcomes of a command's flash programs have been used up. -/
def State.dropProgs (s : State) : State := { s with progs := [] }

/-- A loader that is idle carries a command out (R68). -/
theorem State.cilCmd_idle {s t : State} {f : State → State} (on : s.on Dom.core = true) (idle : s.isSet R.CIL_STATUS_BUSY = false)
    (done : f (s.answer .ok) = t) : (.next (s.cilCmd f) : Out) = .next t :=
  congrArg _ ((s.access_on _ _ on).trans ((if_neg (ne_true_of_eq_false idle)).trans done))

/-- The first step of an apply has 10 ms (R58). -/
theorem stepDeadlineMs_one : stepDeadlineMs 1 = 10 := rfl

/-- A step of the apply whose work is done in time is followed by the next one, or by the apply's success (R58). -/
theorem exec_applyStepDone_worked {s t : State} {progs : List Prog} {a : Apply} (apply : s.cil.apply = some a) (inTime : s.now ≤ a.deadline)
    (ready : State.stepReady { s with progs := progs } a = true) (work : State.stepWork { s with progs := progs } a = some t) :
    exec (.applyStepDone true none progs) s = .next (a.next.elim (t.applyOk a) (t.beginStep a)).dropProgs := by
  simp only [exec_applyStepDone, execApplyStepDone, apply]
  rw [if_neg (Nat.not_lt.mpr inTime)]
  simp only [ready, work]
  cases a.next <;> rfl

/-- Settles O2: each command finds the loader idle and its slot in the state it needs, each event its step done or late. What is left of
CIL_CHECK and CIL_COMMIT then is the statement's `let`s, unfolded on both sides. -/
theorem imageLoaderCommands : Obligations.ImageLoaderCommands := by
  refine ⟨fun s on idle a b => ?_, fun s on idle fits => ?_, fun s progs l on idle writing read lo hi hash => ?_,
    fun s progs on idle written => ?_, fun s progs on idle written => ?_, fun s on idle staged => ?_,
    fun s progs a u t n apply inTime put ready work next => ?_, fun s progs a u t apply inTime put ready work next => ?_,
    fun s progs a apply due late => ?_⟩
  · exact State.cilCmd_idle on idle (if_neg (not_or_intro a b))
  · exact State.cilCmd_idle on idle (if_pos fits)
  · subst read
    refine State.cilCmd_idle on idle ((if_neg (not_not_intro writing)).trans ?_)
    exact congrArg State.dropProgs (if_pos (And.intro lo (And.intro hi hash)))
  · refine State.cilCmd_idle on idle ((if_neg (not_not_intro written)).trans (congrArg State.dropProgs ?_))
    dsimp only
  · refine State.cilCmd_idle on idle ((if_neg (not_not_intro written)).trans (congrArg State.dropProgs ?_))
    simp only [State.stageSlot_answer, stepDeadlineMs_one]
    rfl
  · exact State.cilCmd_idle on idle (if_pos staged)
  · subst put
    rw [exec_applyStepDone_worked apply inTime ready work, next]
    rfl
  · subst put
    rw [exec_applyStepDone_worked apply inTime ready work, next]
    rfl
  · simp only [exec_applyStepDeadline, execApplyStepDeadline, apply]
    rw [if_pos ⟨due, late⟩]

/-! ### The password and the block keys -/

/-- Settles O3: each access finds CD_AON on, each event its time come; a session key's refusal needs what the hypotheses exclude. -/
theorem keysAndPassword : Obligations.KeysAndPassword := by
  refine ⟨fun s len on idle => ?_, fun s progs len busy => ?_, fun s on => ?_, fun s due => ?_, fun s progs due => ?_,
    fun s block code on spelt known may => ?_, fun s block code on spelt known => ?_, fun s block due => ?_⟩
  · rw [exec_passwordVerify, execPasswordVerify, s.access_on _ _ on, if_neg (by simp [idle])]
    rfl
  · simp only [exec_verificationDone, execVerificationDone, busy]
  · rw [exec_authEnd, execAuthEnd, s.access_on _ _ on]
  · rw [exec_sessionExpiry, execSessionExpiry, if_pos due]
  · rw [exec_lockEnd, execLockEnd, if_pos due]
  · rw [exec_keyOpen, execKeyOpen, s.access_on _ _ on]
    rw [if_neg (by omega), if_neg]
    rintro ⟨session, closed⟩
    rcases may with free | ⟨opened, lockstep⟩
    · rw [free] at session; cases session
    · simp [opened, lockstep] at closed
  · rw [exec_keyClose, execKeyClose, s.access_on _ _ on, if_neg (by omega)]
  · rw [exec_keyExpiry, execKeyExpiry, if_pos due]

end Sys2Proof.Machine
end

section
/-! SUPPORT. Proofs of the statements on tenants and partitions (spec/03_tenants_and_partitions.md): the tenant commands and the
accesses that reach the AD (R94 to R98, R165), the dispatcher's reports, the canary audit and the major frame (R87 to R110), what the
dispatcher does with its messages, jobs and frames (R81 to R88), the move engine (R229 to R233) and the AD's memory (R86, R166). -/

namespace Sys2Proof.Machine

open Sys2Proof

/-! ### Commands of firmware -/

/-- An access to a block that is powered has its effect on the state that answers it (R651). -/
theorem State.next_access {s t : State} {d : Nat} {f : State → State} (on : s.on d = true) (done : f (s.answer .ok) = t) :
    (.next (s.access d f) : Out) = .next t :=
  congrArg _ ((s.access_on d f on).trans done)

/-- A lending permission is written and forwarded where no command is outstanding (R94). -/
theorem State.lendPermit_idle {s : State} {n : Nat} (action v : Nat) (present : s.tnState n ≠ tnAbsent)
    (idle : (s.tenantSt n).cmd = none) : s.lendPermit n action v = (s.setF (R.TEN_STATE_LEND_OK n) v).sendCmd n action :=
  if_pos ⟨present, idle⟩

/-- Settles O4: each access finds its block powered, and its tenant in the state the command needs. -/
theorem tenantCommands : Obligations.TenantCommands := by
  refine ⟨fun s n on runs idle live => ?_, fun s n on rests work idle live => ?_, fun s n on present settled _ => ?_,
    fun s n on present idle => ⟨?_, ?_⟩, fun s n q tail on noReset noLoad present => ?_, fun s n q head on => ?_,
    fun s offset size may => ?_, fun s offset size data may => ?_⟩
  · exact State.next_access on (if_pos ⟨runs, idle, live⟩)
  · exact State.next_access on (if_pos ⟨rests, work, idle, live⟩)
  · exact State.next_access on (if_pos ⟨present, settled⟩)
  · exact State.next_access on (State.lendPermit_idle 4 1 present idle)
  · exact State.next_access on (State.lendPermit_idle 5 0 present idle)
  · exact State.next_access on (if_neg (not_or_intro noReset (not_or_intro noLoad present)))
  · exact State.next_access on rfl
  · rw [exec_adWindowRead, execAdWindowRead, if_neg (ne_true_of_eq_false may)]
  · rw [exec_adWindowWrite, execAdWindowWrite, if_neg (ne_true_of_eq_false may)]

/-! ### The dispatcher's reports of one tenant -/

section TenAck

variable {s u : State} {tenant action state : Fin 256} {q : Nat}
  (took : s.takeCd ⟨0, TT.tenAck, tenant, 0, 0, leBytes 1 action.val ++ leBytes 1 state.val ++ leBytes 6 0⟩ = some (q, u))
  (known : tenant.val < 16)
include took known

/-- The acknowledgement of the outstanding command ends the wait (R95). -/
theorem State.takeTenAck_awaited {a : Nat} (cmd : (u.tenantSt tenant).cmd = some a) (action_eq : action.val = a)
    (reached : state.val = cmdTarget a) : s.takeTenAck tenant action state = u.dropCmd tenant := by
  simp only [State.takeTenAck, took, cmd]
  rw [if_neg (Nat.not_le.mpr known), if_pos ⟨action_eq, reached⟩]

/-- An acknowledgement of a command that is not the outstanding one was never asked for (R110). -/
theorem State.takeTenAck_other {a : Nat} (cmd : (u.tenantSt tenant).cmd = some a) (other : action.val ≠ a) (named : action.val ≠ 0) :
    s.takeTenAck tenant action state = u.uncommanded tenant := by
  simp only [State.takeTenAck, took, cmd]
  rw [if_neg (Nat.not_le.mpr known), if_neg (fun both => other both.1), if_neg (fun both => named both.1)]

/-- The dispatcher notes that a READY tenant runs (R95, log entry 26). -/
theorem State.takeTenAck_runs (idle : (u.tenantSt tenant).cmd = none) (note : action.val = 0) (ready : u.tnState tenant = tnReady)
    (runs : state.val = tnRunning) : s.takeTenAck tenant action state = u.setTenant tenant tnRunning := by
  simp only [State.takeTenAck, took, idle]
  rw [if_neg (Nat.not_le.mpr known), if_pos ⟨note, by simp [ready, runs]⟩, runs]

end TenAck

section StateAckTimeout

variable {s : State} {tenant : Fin 16} {a : Nat} (cmd : (s.tenantSt tenant).cmd = some a) (due : s.due (.stateAck tenant) = true)
  (present : ((s.disarm (.stateAck tenant)).tenViol 4).tnState tenant ≠ tnAbsent)
include cmd due present

/-- A command that was not acknowledged once is repeated (R98). -/
theorem State.stateAckTimeout_first (first : (s.tenantSt tenant).again = false) :
    s.stateAckTimeout tenant = ((((s.disarm (.stateAck tenant)).tenViol 4).sendCmd tenant a).tenantSet tenant
      fun t => { t with again := true }).arm (.stateAck tenant) (5 * msNs) := by
  simp only [State.stateAckTimeout, cmd, first]
  rw [if_pos due, if_neg present, if_neg Bool.false_ne_true]

/-- One that was not acknowledged twice is a fault of the tenant (R98). -/
theorem State.stateAckTimeout_second (second : (s.tenantSt tenant).again = true) :
    s.stateAckTimeout tenant = ((((s.disarm (.stateAck tenant)).tenViol 4).noteFault tenant 3 0).becomeFaulted tenant) := by
  simp only [State.stateAckTimeout, cmd, second]
  rw [if_pos due, if_neg present, if_pos trivial]

end StateAckTimeout

/-- Settles O5: MODEL_VERIFIED by what the read of the package met and hashes to, every other event by the form of its message. -/
theorem tenantEvents : Obligations.TenantEvents := by
  refine ⟨fun s n code arg on => ?_, fun s n action state q u took known => ⟨fun a cmd same reached => ?_, fun a cmd other named => ?_,
      fun idle note ready runs => ?_⟩, fun s n a u cmd due put present => ⟨fun first => ?_, fun second => ?_⟩,
    fun s n err c k u loading live ready may size met => ?_, fun s n queue tail tag q u took known present settled => ?_⟩
  · rw [exec_tenantFault, execTenantFault, if_pos on]
  · rw [exec_tenAck, execTenAck, State.takeTenAck_awaited took known cmd same reached]
  · rw [exec_tenAck, execTenAck, State.takeTenAck_other took known cmd other named]
  · rw [exec_tenAck, execTenAck, State.takeTenAck_runs took known idle note ready runs]
  · subst put
    rw [exec_stateAckTimeout, execStateAckTimeout, State.stateAckTimeout_first cmd due present first]
  · subst put
    rw [exec_stateAckTimeout, execStateAckTimeout, State.stateAckTimeout_second cmd due present second]
  · subst size
    simp only [exec_modelVerified, execModelVerified]
    rw [if_pos ⟨loading, live, ready, may⟩, met]
    refine ⟨fun clean same fresh => ?_, fun clean same reset => ?_, fun bad => ?_⟩
    · rw [if_pos ⟨clean, same⟩, fresh, if_neg Bool.false_ne_true]
    · rw [if_pos ⟨clean, same⟩, reset, if_pos rfl]
    · rw [if_neg (not_and_or.mpr bad)]
  · simp only [exec_complNote, execComplNote, took]
    rw [if_neg (not_or_intro (Nat.not_le.mpr known) (not_or_intro present settled))]

/-! ### The major frame and the canary audit -/

/-- Settles O6: each row finds its time come or its message taken; an answer of a probe ends its wait only without a canary. -/
theorem majorFrameAndAudit : Obligations.MajorFrameAndAudit := by
  refine ⟨fun s u work enabled due idle put => ?_, fun s l p audit late => ?_, fun s tile bits data l q u took audit awaited => ?_,
    fun s work due live => ?_, fun s k lends late lateS stalls q u v took put => ?_, fun s due => ?_⟩
  · subst put
    simp only [exec_canaryAuditRound, execCanaryAuditRound]
    rw [if_pos ⟨work, enabled, due, idle⟩]
    exact ⟨fun runs => by rw [if_neg (ne_true_of_eq_false runs)], fun skips => by rw [if_pos skips]⟩
  · simp only [exec_auditAnswerTimeout, execAuditAnswerTimeout, audit, late]
  · simp only [exec_probeResult, execProbeResult, took, audit]
    rw [if_pos awaited]
    exact ⟨fun refused clean => by rw [if_pos ⟨refused, clean⟩], fun bad => by
      rw [if_neg (not_and_or.mpr (bad.imp_right ne_false_of_eq_true))]⟩
  · rw [exec_majorFrameStart, execMajorFrameStart, if_pos ⟨work, due, live⟩]
  · subst put
    simp only [exec_frameReport, execFrameReport, took]
  · rw [exec_frameReportTimeout, execFrameReportTimeout, if_pos due]

/-! ### The dispatcher's messages -/

/-- Settles O7: each message is taken by a dispatcher that runs, and its own fields name the branch; each event of the slots and the scrub
finds its time come. -/
theorem dispatcherMessages : Obligations.DispatcherMessages := by
  refine ⟨fun s m u took live tag high => ?_, fun s m u took live tag low running => ?_, fun s m u took live tag running off => ?_,
    fun s errs m u p took live plan ring present loaded settled => ?_, fun s m u took live known => ?_,
    fun s m u took tile tenant live => ?_, fun s n u live resetting armed rest may put => ?_, fun s live due => ?_,
    fun s live plan due more => ?_⟩
  · simp only [exec_config, execConfig, took]
    rw [if_neg (ne_false_of_eq_true live), if_pos ⟨tag, high⟩]
  · simp only [exec_config, execConfig, took]
    rw [if_neg (ne_false_of_eq_true live), if_neg (fun both => ne_true_of_eq_false low both.2),
      if_neg (ne_false_of_eq_true running), if_pos tag]
  · simp only [exec_config, execConfig, took]
    rw [if_neg (ne_false_of_eq_true live), if_neg (fun both => tag both.1), if_neg (ne_false_of_eq_true running), if_neg tag, if_pos off]
  · simp only [exec_doorbell, execDoorbell, took, plan]
    rw [if_neg (by simp [live, ring, present, loaded, settled])]
  · have runs : ¬ (u.dspLive = false ∨ 16 ≤ m.tenant) := not_or_intro (ne_false_of_eq_true live) (Nat.not_le.mpr known)
    simp only [exec_tenCmd, execTenCmd, took, if_neg runs]
    refine ⟨?_, ?_, ?_, ?_, ?_, ?_, ?_⟩ <;> intro action <;> simp only [action]
  · simp only [exec_probe, execProbe, took]
    rw [if_neg (by simp [live, tile, tenant])]
  · subst put
    simp only [exec_scrubComplete, execScrubComplete]
    rw [if_pos ⟨live, resetting, armed, rest, may⟩]
    exact ⟨fun last => by rw [if_neg (ne_true_of_eq_false last)], fun left => by rw [if_pos left]⟩
  · exact congrArg _ (if_pos ⟨live, due⟩)
  · rw [exec_slotBoundary, execSlotBoundary, if_pos ⟨live, plan, due, more⟩]

/-! ### Jobs -/

/-- A job whose tiles are free starts by its own row, and the tenant's state follows (R84). -/
theorem State.startRow_starts {s : State} {n : Nat} {j : Job} {ts : List Nat} {p : PlanTenant} {is : Job → Bool}
    (live : s.dspLive = true) (planned : s.ad.dsp.planOk = true) (start : s.startable n = some (j, ts)) (plan : s.planOf n = some p)
    (may : s.mayMove n = true) (free : (ts.all fun t => s.freeFor n t) = true) (own : is j = true)
    (f : PlanTenant → Job → List Nat → State → State) : s.startRow n is f = (f p j ts s).settle n := by
  simp only [State.startRow, start, plan]
  rw [if_neg (not_or_intro (ne_false_of_eq_true live) (ne_false_of_eq_true planned)), if_neg (ne_false_of_eq_true own),
    if_neg (ne_false_of_eq_true may), if_pos free]

/-- A package that is read without an error launches the job (R272). -/
theorem State.launchRead_none (s : State) (p : PlanTenant) (j : Job) (ts : List Nat) : s.launchRead none p j ts = s.launch p j ts := rfl

/-- Settles O8: a job that starts does so by its own row alone; every other row finds the job, the batch or the stop it waits for. -/
theorem jobs : Obligations.Jobs := by
  refine ⟨fun s n err j ts p live planned start plan may free => ?_,
    fun s n errs j ts p l u live planned start plan may free op read => ?_,
    fun s job err j p cur d e found plan now next live started onTiles unended may ready stay met => ?_,
    fun s job j found live started unended ended => ?_, fun s job j found live late unended going => ?_,
    fun s n p l plan put live waiting due => ?_, fun s tile bank reason tenant u live due req mid put => ?_⟩
  · have starts {is : Job → Bool} (own : is j = true) :=
      State.startRow_starts live planned start plan may free own fun p j ts s => s.launchRead err p j ts
    exact ⟨fun op => congrArg _ (starts (by simp [op])), fun op => congrArg _ (starts (by simp [op])),
      fun op => congrArg _ (starts (by simp [op])), fun op arg => congrArg _ (starts (by simp [op, arg])), s.launchRead_none p j ts⟩
  · refine congrArg _ ((State.startRow_starts live planned start plan may free (by simp [op]) _).trans ?_)
    simp only [read]
  · simp only [exec_phaseBarrier, execPhaseBarrier, found, plan, now, next]
    rw [if_pos ⟨live, started, onTiles, by simp [unended], by simp [ready, stay], may⟩, met]
    exact ⟨fun clean => by rw [if_neg (ne_true_of_eq_false clean)], fun error => by rw [if_pos error]⟩
  · simp only [exec_jobComplete, execJobComplete, found, unended]
    rw [if_pos ⟨live, started, by simpa using ended⟩]
    rfl
  · simp only [exec_jobDeadline, execJobDeadline, found]
    rw [if_pos ⟨live, late, by simp [unended], going⟩]
    exact ⟨fun idle => by rw [if_pos idle], fun started placed => by rw [if_neg (by simp [started, placed])]⟩
  · subst put
    simp only [exec_batchClose, execBatchClose, plan]
    rw [if_pos ⟨live, by simpa using waiting, due⟩]
  · simp only [exec_stopLimitExpiry, execStopLimitExpiry, req]
    rw [if_pos ⟨live, due⟩, if_neg (ne_true_of_eq_false mid), ← put]
    exact ⟨fun other => by rw [if_neg other], fun slot => by rw [if_pos slot]⟩

/-! ### Frames -/

/-- Settles O9: a running dispatcher takes each message, and the frame it speaks of is open. -/
theorem dispatcherFrames : Obligations.DispatcherFrames := by
  refine ⟨fun s m u took live plan crc => ?_, fun s m u f took found live => ?_, fun s m u f took found live crc => ?_,
    fun s m u took live => ?_, fun s m u took live plan => ?_⟩
  · simp only [exec_frameOpen, execFrameOpen, took]
    rw [if_neg (by simp [live, plan, crc])]
  · simp only [exec_frameData, execFrameData, took, found]
    rw [if_neg (ne_false_of_eq_true live)]
  · simp only [exec_frameTrailer, execFrameTrailer, took, found]
    exact congrArg _ (if_neg (not_or_intro (ne_false_of_eq_true live) (not_not_intro crc)))
  · simp only [exec_streakSet, execStreakSet, took]
    rw [if_neg (ne_false_of_eq_true live)]
  · simp only [exec_majorTick, execMajorTick, took]
    rw [if_neg (by simp [live, plan])]

/-! ### The move engine -/

/-- An operation at the front of its engine's queue is taken, and has its effect (R222, R223). -/
theorem State.engineOp_ready {s : State} {t e op : Nat} {o : QOp} {rest : List QOp} {ready : Nat → State → Bool}
    (front : s.engineReady t e op o rest = true) (room : ready o.word s = true) (f : Nat → State → State) :
    s.engineOp t e op ready f = f o.word (s.engineTaken t e o rest) := by
  simp only [State.engineReady, Bool.and_eq_true, decide_eq_true_eq] at front
  obtain ⟨⟨⟨⟨live, idle⟩, queue⟩, named⟩, token⟩ := front
  simp only [State.engineOp, queue]
  rw [if_neg (by simpa [live] using idle), if_pos ⟨named, token, room⟩]
  rfl

/-- Settles O15: the engine's operations by the front of its queue, a shift by its kind and what it leaves, the grant by who is next. -/
theorem moveEngineOps : Obligations.MoveEngineOps := by
  refine ⟨fun s t pc w rest front => ?_, fun s t pc w rest u put room => ?_, fun s t pc w rest front empty => ?_,
    fun s t q count errs h v head live => ⟨fun bad => ?_, fun sound own put => ?_⟩, fun s err t q x u live trained put next => ?_⟩
  · exact congrArg _ (State.engineOp_ready front rfl _)
  · subst put
    exact ⟨fun front => congrArg _ (State.engineOp_ready front room _), fun front => congrArg _ (State.engineOp_ready front room _),
      fun front => congrArg _ (State.engineOp_ready front room _), fun front => congrArg _ (State.engineOp_ready front room _)⟩
  · exact congrArg _ (State.engineOp_ready front empty _)
  · simp only [exec_shiftComplete, execShiftComplete, head]
    rw [if_neg (ne_false_of_eq_true live), if_pos bad]
  · simp only [exec_shiftComplete, execShiftComplete, head]
    rw [if_neg (ne_false_of_eq_true live), if_neg (not_or_intro (not_and_or.mpr (sound.imp_right ne_true_of_eq_false))
      (not_and_or.mpr (own.imp Nat.not_le.mpr ne_true_of_eq_false))), ← put]
    refine ⟨fun g left moved => ?_, fun g left more => ?_⟩
    · simp only [left]
      rw [if_pos moved]
    · simp only [left]
      rw [if_neg (ne_true_of_eq_false more)]
  · simp only [exec_memoryGrant, execMemoryGrant]
    rw [if_pos ⟨live, trained⟩, ← put, next]

/-! ### The AD's memory -/

/-- Settles O26: a request by its scope and the error it meets, a response by the user of the request it answers. -/
theorem adMemory : Obligations.AdMemory := by
  refine ⟨fun s err m u r a e took live trained scope charged met => ?_, fun s err m u r a e took live trained scope charged met => ?_,
    fun s m u r err st live trained refused => ⟨fun took scope => ?_, fun took scope => ?_, fun high other addr len write => ?_⟩,
    fun s tag status data q u r => ⟨fun took => ?_, fun took => ?_⟩, fun s r late window => ?_⟩
  · subst charged met
    simp only [exec_memRd, execMemRd, took, scope]
    rw [if_neg (not_or_intro (ne_false_of_eq_true live) (ne_false_of_eq_true trained)), if_neg (not_not_intro (Eq.refl 0))]
    exact ⟨fun clean => by rw [if_neg (not_not_intro clean)], fun error => by rw [if_pos error]⟩
  · subst charged met
    simp only [exec_memWr, execMemWr, took, scope]
    rw [if_neg (not_or_intro (ne_false_of_eq_true live) (ne_false_of_eq_true trained)), if_neg (not_not_intro (Eq.refl 0))]
    exact ⟨fun clean => by rw [if_neg (not_not_intro clean)], fun error => by rw [if_pos error]⟩
  · simp only [exec_memRd, execMemRd, took, scope]
    rw [if_neg (not_or_intro (ne_false_of_eq_true live) (ne_false_of_eq_true trained)), if_pos refused]
  · simp only [exec_memWr, execMemWr, took, scope]
    rw [if_neg (not_or_intro (ne_false_of_eq_true live) (ne_false_of_eq_true trained)), if_pos refused]
  · rw [State.memScope, if_neg (by omega), if_neg (fun both => other both.1)]
  · simp only [exec_memRdData, execMemRdData, took]
    refine ⟨fun unasked => by rw [unasked], fun found => ?_⟩
    simp only [found]
    exact ⟨fun user => by rw [user], fun k user => by rw [user], fun k ser off user => by rw [user]⟩
  · simp only [exec_memWrAck, execMemWrAck, took]
    refine ⟨fun unasked => by rw [unasked], fun found => ?_⟩
    simp only [found]
    exact ⟨fun user => by rw [user], fun k user => by rw [user], fun k ser off user => by rw [user], fun user => by rw [user]⟩
  · simp only [exec_memTimeout, execMemTimeout, late, window]

end Sys2Proof.Machine
end

section
/-! SUPPORT. Proofs of the statements on the cameras and Flint (spec/04_camera_ingress_and_sensor_bus.md): the packets of a receiver
(R112, R117 to R121, R124, R126, R139; log entries 105 to 107), the cameras' silence, errors and configuration (R113, R131, R141, R143),
and the copies for Flint with its scores and checks (R129, R292, R293). -/

namespace Sys2Proof.Machine

open Sys2Proof

/-! ### A frame and its status -/

/-- A status leaves the lines counted so far (R117, R120). -/
@[simp] theorem IngFrame.ite_mark_lines (p : Prop) [Decidable p] (f : IngFrame) (code : Nat) :
    (if p then f else f.mark code).lines = f.lines := by
  split <;> rfl

/-- A status leaves the receiver (R117). -/
@[simp] theorem IngFrame.ite_mark_rx (p : Prop) [Decidable p] (f : IngFrame) (code : Nat) : (if p then f else f.mark code).rx = f.rx := by
  split <;> rfl

/-! ### Keyed registers of the cameras -/

/-- A write of a keyed register whose block is powered and whose key is open has its effect on the state that answers it (R6, R651). -/
theorem State.next_keyed {s t : State} {d b : Nat} {f : State → State} (on : s.on d = true) (opened : s.keyOpen b = true)
    (done : f (s.answer .ok) = t) : (.next (s.keyed d b f) : Out) = .next t :=
  congrArg _ ((s.keyed_open d b f on opened).trans done)

/-! ### The statement -/

/-- Settles O19: a packet by its header, the frame on its channel and the camera there; every other event by what it finds waiting. -/
theorem flintAndIngress : Obligations.FlintAndIngress := by
  refine ⟨fun s rx vc lanes hdr u on put => ?_, fun s rx vc lanes hdr dtype payload crcOk u on put => ?_,
    fun s rx vc lanes hdr u on put => ?_, fun s cam t => ⟨fun due => ?_, fun quiet silent => ?_⟩, fun s cam k done => ?_,
    fun s rx on => ?_, fun s cam data on opened => ⟨fun may => ?_, fun may => ?_⟩, fun s cam scores ecc k oldest on model => ?_,
    fun s ok cam k on => ⟨fun model due => ?_, fun oldest waited => ?_⟩⟩
  · subst put
    rw [exec_frameStart, execFrameStart, if_neg (ne_false_of_eq_true on)]
    refine ⟨fun bad => congrArg _ (if_pos bad), fun sound closed absent => ?_, fun c sound closed enabled => ?_,
      fun e c v sound opened put enabled => ?_, fun e v sound opened put absent => ?_⟩
    · simp only [closed, absent]
      rw [if_neg sound]
    · simp only [closed, enabled]
      rw [if_neg sound]
    · subst put
      simp only [opened, enabled]
      rw [if_neg sound]
    · subst put
      simp only [opened, absent]
      rw [if_neg sound]
  · subst put
    rw [exec_linePacket, execLinePacket, if_neg (ne_false_of_eq_true on)]
    refine ⟨fun bad => congrArg _ (if_pos bad), fun sound untaken => ?_, fun c sound taken => ?_⟩
    · simp only [untaken]
      rw [if_neg sound]
    · simp only [taken]
      rw [if_neg sound]
      refine ⟨fun mark => congrArg _ (if_pos mark), fun start stop short => ?_, fun long outside => ?_, fun e f long inside => ?_⟩
      · rw [if_neg (not_or_intro start stop), if_pos short]
      · simp only [outside]
        rw [if_neg (by omega), if_neg (by omega)]
      · simp only [inside]
        rw [if_neg (by omega), if_neg (by omega)]
        refine ⟨fun other going => ?_, fun same room => ?_⟩
        · rw [if_pos other, if_neg (ne_true_of_eq_false going)]
        · rw [if_neg (not_not_intro same)]
          simp only [State.takeLine, room, and_true, IngFrame.ite_mark_lines, IngFrame.ite_mark_rx]
          exact congrArg _ (if_neg (Nat.not_le.mpr room))
  · subst put
    rw [exec_frameEnd, execFrameEnd, if_neg (ne_false_of_eq_true on)]
    refine ⟨fun bad => congrArg _ (if_pos bad), fun c f sound inside => ?_, fun c sound outside enabled => ?_,
      fun sound outside absent => ?_⟩
    · simp only [inside]
      rw [if_neg sound]
    · simp only [outside, enabled]
      rw [if_neg sound]
    · simp only [outside, absent]
      rw [if_neg sound]
  · exact congrArg _ (if_pos due)
  · simp only [exec_cameraSilence, execCameraSilence, quiet]
    rw [if_pos silent]
  · simp only [exec_flintCopy, execFlintCopy, done]
  · exact congrArg _ (if_neg (ne_false_of_eq_true on))
  · exact State.next_keyed on opened (if_pos may)
  · exact State.next_keyed on opened (if_pos may)
  · simp only [exec_flintScore, execFlintScore, oldest]
    rw [if_neg (not_or_intro (ne_false_of_eq_true on) (ne_false_of_eq_true model))]
  · exact congrArg _ (if_pos ⟨on, model, due⟩)
  · simp only [exec_flintOverrun, execFlintOverrun, oldest]
    rw [if_pos ⟨on, waited⟩]

end Sys2Proof.Machine
end

section
/-! SUPPORT. Proofs of the statements on the Sill link (spec/05_sill_link.md): its rows (R147, R148), training and retraining (R152 to
R154, R172, R177, R178), flits, acknowledgement and the messages of the AD to the CD (R151, R155 to R157, R163, R203, R544, R610), and the
power states with debug access (R168 to R173). -/

namespace Sys2Proof.Machine

open Sys2Proof

/-! ### Rows -/

theorem length_groupRows (w : Nat) (flits : List (List Byte)) : (groupRows w flits).length = 576 / (8 * w) := by
  simp [groupRows]

/-- A lane of a row carries its block of the row's part of the group (R147). -/
theorem getD_groupRows {w r lane : Nat} (flits : List (List Byte)) (row : r < 576 / (8 * w)) (used : lane < w) :
    ((groupRows w flits).getD r []).getD lane [] = laneBlock w ((flits.flatten.drop (8 * w * r)).take (8 * w)) lane := by
  simp [groupRows, row, used]

/-- Byte `j` of a row is byte `j / w` of the block of lane `j % w` (R147). -/
theorem getD_laneBlock {w j : Nat} (row : List Byte) (inside : j < 8 * w) : (laneBlock w row (j % w)).getD (j / w) 0 = row.getD j 0 := by
  have block : j / w < 8 := Nat.div_lt_of_lt_mul (Nat.mul_comm 8 w ▸ inside)
  simp [laneBlock, block, Nat.div_add_mod]

/-- Byte `j` of the `n` bytes of a list from `k` on is its byte `k + j`. -/
theorem getD_take_drop {l : List Byte} {n k j : Nat} (inside : j < n) : ((l.drop k).take n).getD j 0 = l.getD (k + j) 0 := by
  simp [List.getElem?_take_of_lt inside]

/-- Two headers that differ are not both `c`. -/
theorem not_all_beq_of_ne {headers : List Nat} {a b : Nat} (c : Nat) (ha : a ∈ headers) (hb : b ∈ headers) (differ : a ≠ b) :
    ¬ (headers.all fun h => h == c) = true := by
  intro all
  rw [List.all_eq_true] at all
  exact differ ((beq_iff_eq.mp (all a ha)).trans (beq_iff_eq.mp (all b hb)).symm)

theorem rowKind_data {headers : List Nat} (data : ∀ h ∈ headers, h = 1) : rowKind headers = .data :=
  if_pos (List.all_eq_true.mpr fun h mem => beq_iff_eq.mpr (data h mem))

theorem rowKind_control {headers : List Nat} (lanes : headers ≠ []) (control : ∀ h ∈ headers, h = 2) :
    rowKind headers = .control := by
  obtain ⟨h, mem⟩ := List.exists_mem_of_ne_nil headers lanes
  have noData : ¬ (headers.all fun h => h == 1) = true := fun data => by
    have both : 1 = 2 := (beq_iff_eq.mp (List.all_eq_true.mp data h mem)).symm.trans (control h mem)
    contradiction
  exact (if_neg noData).trans (if_pos (List.all_eq_true.mpr fun h mem => beq_iff_eq.mpr (control h mem)))

theorem rowKind_laneError {headers : List Nat} {a b : Nat} (ha : a ∈ headers) (hb : b ∈ headers) (differ : a ≠ b) :
    rowKind headers = .laneError :=
  (if_neg (not_all_beq_of_ne 1 ha hb differ)).trans (if_neg (not_all_beq_of_ne 2 ha hb differ))

theorem CtlRow.length_block (row : CtlRow) (ad : Bool) (lane : Nat) : (row.block ad lane).length = 8 := by
  cases row <;> simp [CtlRow.block]

/-- TRN1 alone names the lane it travels on (R148). -/
theorem CtlRow.block_lane {row : CtlRow} (ad : Bool) (lane other : Nat) (noTrn1 : ∀ attempt, row ≠ .trn1 attempt) :
    row.block ad lane = row.block ad other := by
  cases row with
  | trn1 attempt => exact absurd rfl (noTrn1 attempt)
  | idle | trn2 | eidle | sync => rfl

/-- Settles O38: a byte is followed from the group into its row and from the row into the block of its lane. -/
theorem rowsOfSill : Obligations.RowsOfSill := by
  refine ⟨fun w r j flits _ _ shape inside => ?_, fun headers => ⟨rowKind_data, rowKind_control, fun _ _ => rowKind_laneError⟩,
    fun row ad lane other => ⟨row.length_block ad lane, row.block_lane ad lane other⟩⟩
  have row : r < 576 / (8 * w) := by rcases shape with ⟨rfl, row⟩ | ⟨rfl, row⟩ <;> exact row
  have used : j % w < w := Nat.mod_lt j (by omega)
  constructor
  · rw [length_groupRows]
    rcases shape with ⟨rfl, _⟩ | ⟨rfl, _⟩ <;> rfl
  · rw [getD_groupRows flits row used, getD_laneBlock _ inside, getD_take_drop inside]

/-! ### Training -/

/-- Settles O16: each event finds the link in the step it belongs to, in time or late; what follows then is the statement's. -/
theorem sillTraining : Obligations.SillTraining := by
  refine ⟨fun s => ⟨fun on adOn reset => ?_, fun trains locked => ?_, fun l trains aligned inTime full => ?_,
      fun b trains sent => ?_⟩,
    fun s step d full => ⟨fun deadline behind late => ?_, fun due => ?_⟩, fun s full done armed inTime => ?_,
    fun s fast armed => ⟨fun inTime done => ?_, fun late => ?_⟩,
    fun s headers on => ⟨fun x8 lost => ?_, fun low lost => ?_, fun high lost => ?_, State.next_access on rfl,
      fun out => ⟨State.next_access on (if_neg out), State.next_access on (if_neg out)⟩⟩⟩
  · simp only [exec_linkTraining, execLinkTraining]
    rw [if_pos ⟨on, adOn, reset⟩]
  · refine congrArg _ ((if_pos ⟨trains, locked⟩).trans ?_)
    cases s.inTime 2 <;> rfl
  · refine congrArg _ ((if_pos ⟨trains, aligned⟩).trans ((if_neg (ne_false_of_eq_true inTime)).trans ?_))
    simp only [full, decide_true, State.doIf_true]
  · exact congrArg _ (if_pos ⟨trains, sent⟩)
  · simp only [exec_trainingStepTimeout, execTrainingStepTimeout, deadline]
    rw [if_pos ⟨full, behind, late⟩]
  · exact congrArg _ (if_pos ⟨full, due⟩)
  · exact congrArg _ (if_pos ⟨full, done, armed, inTime⟩)
  · exact congrArg _ ((if_pos ⟨fast, armed⟩).trans ((if_neg (Nat.not_lt.mpr inTime)).trans (if_neg (not_not_intro done))))
  · exact congrArg _ ((if_pos ⟨fast, armed⟩).trans (if_pos late))
  · simp only [exec_blockLockLost, execBlockLockLost, x8]
    rw [if_pos lost]
  · simp only [exec_blockLockLost, execBlockLockLost, low]
    rw [if_pos lost]
  · simp only [exec_blockLockLost, execBlockLockLost, high]
    rw [if_pos lost]

/-! ### A flit that arrives -/

@[simp] theorem State.linkActive_offWire (s : State) (ad : Bool) : (s.offWire ad).linkActive = s.linkActive := by
  cases ad <;> rfl

/-- What an end receives is on its way to it (R156). -/
theorem State.arrive_of_sent {s : State} {ad : Bool} (f : Flit) (sent : ad = true → s.sil.wireAd ≠ []) :
    s.arrive ad f = (s.offWire ad).takeFlit ad f :=
  if_neg fun ⟨atAd, empty⟩ => sent atAd empty

section TakeFlit

variable {s : State} {ad : Bool} {f : Flit}

/-- A bad flit that is null or link control is counted by the CD, and that is all (R156, R177). -/
theorem State.takeFlit_bad (bad : f.good = false) (slack : f.ft = 1 ∨ f.ft = 2) :
    s.takeFlit ad f = if ad then s else s.crcError :=
  (if_pos bad).trans (if_pos slack)

/-- Any other bad flit draws a NAK (R156). -/
theorem State.takeFlit_bad_data (bad : f.good = false) (data : f.ft = 0) :
    s.takeFlit ad f = (if ad then s else s.crcError).sendNak ad :=
  (if_pos bad).trans (if_neg (by simp [data]))

theorem State.takeFlit_control (good : f.good = true) (control : f.ft = 1) : s.takeFlit ad f = s.takeCtl ad f.pay :=
  (if_neg (ne_false_of_eq_true good)).trans (if_pos control)

theorem State.takeFlit_null (good : f.good = true) (null : f.ft = 2) : s.takeFlit ad f = s :=
  (if_neg (ne_false_of_eq_true good)).trans ((if_neg (by simp [null])).trans (if_pos (.inr null)))

/-- A flit of the reserved type is a violation at the CD (R156, R177). -/
theorem State.takeFlit_reserved (active : s.linkActive = true) (good : f.good = true) (reserved : f.ft = 3) :
    s.takeFlit false f = s.silBadMsg 4 (byteAt f.pay 0) f.seq := by
  rw [State.takeFlit, if_neg (ne_false_of_eq_true good), if_neg (by simp [reserved]), if_neg (by simp [active, reserved]), if_pos reserved,
    if_neg Bool.false_ne_true]

/-- A good data flit is taken, or answered, by how far its SEQ is from the one expected (R156). -/
theorem State.takeFlit_data {d : Nat} (active : s.linkActive = true) (good : f.good = true) (data : f.ft = 0)
    (ahead : d = (f.seq + 1024 - (s.link ad).rxExp) % 1024) :
    s.takeFlit ad f = if d = 0 then (if ad then (s.takeSeq ad).adAssemble f else (s.takeSeq ad).assemble f)
      else if d ≤ 511 then s.sendNak ad else s.sendAck ad := by
  subst ahead
  rw [State.takeFlit, if_neg (ne_false_of_eq_true good), if_neg (by simp [data]), if_neg (by simp [active, data]), if_neg (by simp [data])]

end TakeFlit

section Arrival

variable {s : State} {ad : Bool} {flit : List Byte} (active : s.linkActive = true) (sent : ad = true → s.sil.wireAd ≠ [])
include active sent

/-- A flit that is bad or not link control arrives with DATA_FLIT (R156). -/
theorem exec_dataFlit_arrives {headers : List (List Nat)} {f : Flit}
    (read : f = { flitOf flit with good := (flitOf flit).good && headers.all fun h => rowKind h == .data })
    (data : f.good = false ∨ f.ft ≠ 1) : exec (.dataFlit ad headers flit) s = .next ((s.offWire ad).takeFlit ad f) := by
  subst read
  refine congrArg _ ((if_neg ?_).trans (State.arrive_of_sent _ sent))
  rintro (idle | ⟨good, control⟩)
  · exact ne_false_of_eq_true active idle
  · exact data.elim (ne_false_of_eq_true good) fun other => other control

/-- A flit that is bad or link control arrives with LINK_CONTROL_FLIT, as one of link control (R156). -/
theorem exec_linkControlFlit_arrives (control : (flitOf flit).good = false ∨ (flitOf flit).ft = 1) :
    exec (.linkControlFlit ad flit) s = .next ((s.offWire ad).takeFlit ad { flitOf flit with ft := 1 }) := by
  refine congrArg _ ((if_neg ?_).trans (State.arrive_of_sent _ sent))
  rintro (⟨idle, _⟩ | ⟨good, other⟩)
  · exact ne_false_of_eq_true active idle
  · exact control.elim (ne_false_of_eq_true good) other

theorem exec_linkControlFlit_bad (bad : (flitOf flit).good = false) :
    exec (.linkControlFlit ad flit) s = .next (if ad then s.offWire ad else (s.offWire ad).crcError) :=
  (exec_linkControlFlit_arrives active sent (.inl bad)).trans (congrArg _ (State.takeFlit_bad bad (.inl rfl)))

theorem exec_linkControlFlit_good (good : (flitOf flit).good = true) (control : (flitOf flit).ft = 1) :
    exec (.linkControlFlit ad flit) s = .next ((s.offWire ad).takeCtl ad (flitOf flit).pay) :=
  (exec_linkControlFlit_arrives active sent (.inr control)).trans (congrArg _ (State.takeFlit_control good rfl))

end Arrival

/-- The sizes of the AD's buffers are the CD's credits (R152). -/
theorem State.takeCtl_sizes {s : State} {p : List Byte} (kind : byteAt p 12 = 1) :
    s.takeCtl false p = s.initFc ((List.range 4).map fun v => fieldAt p (4 + 2 * v) 2) :=
  if_pos kind

/-- A flit of KIND 0 carries the ACK, the credits and the NAK (R151). -/
theorem State.takeCtl_credits {s : State} {ad : Bool} {p : List Byte} (active : s.linkActive = true) (kind : byteAt p 12 = 0) :
    s.takeCtl ad p = (((s.applyAck ad (fieldAt p 0 2)).forN 4 fun v s =>
      s.applyCred ad v (((List.range 4).map fun v => fieldAt p (4 + 2 * v) 2).getD v 0)).doIf ((fieldAt p 2 2).testBit 15) fun s =>
        s.askReplay ad (fieldAt p 2 2 % 1024)).transmit ad :=
  (if_neg (by simp [kind])).trans (if_neg (by simp [kind, active]))

/-! ### Flits and messages -/

/-- Settles O17: a flit by its type, its CRC and its SEQ; a message of the AD by what it finds the CD waiting for. A report that is late
lets the transition to WORK arrive all the same (log entry 37). -/
theorem sillTraffic : Obligations.SillTraffic := by
  refine ⟨fun s ad headers flit f d active sent read ahead => ?_, fun s ad flit active sent => ?_,
    fun s ad active => ⟨fun due => ?_, fun q m l oldest due => ?_⟩, fun s m u took => ?_,
    fun s q u v loaded trained took first put => ?_, fun s d u armed late put => ?_, fun s tag status reason q u took => ?_,
    fun s body q u took => ?_⟩
  · have arrives := exec_dataFlit_arrives active sent read
    have onLink := (s.linkActive_offWire ad).trans active
    refine ⟨fun bad null => ?_, fun bad data => ?_, fun good null => ?_, fun good reserved atCd => ?_, fun good data next atCd => ?_,
      fun good data next atAd => ?_, fun good data other after => ?_, fun good data before => ?_⟩
    · rw [arrives (.inl bad), State.takeFlit_bad bad (.inr null)]
    · rw [arrives (.inl bad), State.takeFlit_bad_data bad data]
    · rw [arrives (.inr (by simp [null])), State.takeFlit_null good null]
    · subst atCd
      rw [arrives (.inr (by simp [reserved])), State.takeFlit_reserved onLink good reserved]
    · rw [arrives (.inr (by simp [data])), State.takeFlit_data onLink good data ahead, if_pos next, if_neg (ne_true_of_eq_false atCd)]
    · rw [arrives (.inr (by simp [data])), State.takeFlit_data onLink good data ahead, if_pos next, if_pos atAd]
    · rw [arrives (.inr (by simp [data])), State.takeFlit_data onLink good data ahead, if_neg other, if_pos after]
    · rw [arrives (.inr (by simp [data])), State.takeFlit_data onLink good data ahead, if_neg (by omega), if_neg (by omega)]
  · refine ⟨exec_linkControlFlit_bad active sent, fun good control kind => ?_, fun good control kind atCd => ?_⟩
    · rw [exec_linkControlFlit_good active sent good control, State.takeCtl_credits ((s.linkActive_offWire ad).trans active) kind]
    · subst atCd
      rw [exec_linkControlFlit_good active sent good control, State.takeCtl_sizes kind]
  · exact congrArg _ (if_pos ⟨active, due⟩)
  · simp only [exec_replayTimeout, execReplayTimeout, oldest]
    rw [if_pos ⟨active, due⟩]
  · simp only [exec_nakMsg, execNakMsg, took]
  · subst put
    simp only [exec_ready, execReady, took]
    rw [if_neg (not_or_intro (ne_false_of_eq_true loaded) (ne_false_of_eq_true trained)), if_neg (ne_true_of_eq_false first)]
    exact ⟨fun d armed => by rw [armed], fun done idle => by rw [done, idle], fun a done apply => by rw [done, apply]⟩
  · subst put
    simp only [exec_readyTimeout, execReadyTimeout, armed]
    rw [if_pos (by simpa using late)]
    exact ⟨fun settled => by rw [settled], fun t moves => by rw [moves]⟩
  · simp only [exec_configAck, execConfigAck, took]
    refine ⟨fun all loading => ?_, fun a all loaded apply step awaited part => ?_, fun all loaded idle => ?_,
      fun d item change sent same => ?_, fun item idle => ?_⟩
    · rw [if_pos ⟨all, loading⟩]
    · rw [if_neg (fun both => ne_false_of_eq_true loaded both.2), if_pos all, apply]
      exact congrArg _ (if_pos ⟨step, awaited, part⟩)
    · rw [if_neg (fun both => ne_false_of_eq_true loaded both.2), if_pos all, idle]
    · rw [if_neg (fun both => item both.1), if_neg item, change]
      exact congrArg _ (if_pos ⟨sent, same⟩)
    · rw [if_neg (fun both => item both.1), if_neg item, idle]
  · simp only [exec_event, execEvent, took]

/-! ### Power states -/

/-- In any state but ACTIVE the link carries no flits (R167). -/
theorem State.linkActive_of_ne {s : State} (other : s.linkState ≠ 2) : s.linkActive = false := by
  simp [State.linkActive, other]

/-- Settles O18: each event and command by the state of the link and of the entry or resume under way; a request to sleep that comes in
DOZE takes it to SLEEP, or waits for its resume (log entry 49). -/
theorem sillPowerStates : Obligations.SillPowerStates := by
  refine ⟨fun s may cd ad empty idle => ?_,
    fun s m q u target active => ⟨fun took live => ?_, fun took entry awaited => ?_, fun entry due => ?_⟩,
    fun s active entry acked cd ad => ?_, fun s => ⟨fun on => ⟨fun may => ?_, fun wait active doze => ?_, fun wait rests settled => ?_,
      fun wait rests resumes => ?_, fun wait up other => ?_⟩, fun rests settled limit due => ?_⟩,
    fun s on up alive => ?_, fun s rests cause => congrArg _ (if_pos ⟨rests, cause⟩),
    fun s m u release => ⟨fun took => ?_, fun up due => ?_⟩,
    fun s req m q u status data => ⟨fun on opened off => ?_, fun on opened enabled => ?_,
      fun write addr value asked enabled on later => ?_, fun took live => ?_, fun took => ?_⟩⟩
  · exact congrArg _ (if_pos ⟨may, cd, ad, empty, idle⟩)
  · simp only [exec_pmEnter, execPmEnter, took]
    rw [if_pos live]
  · simp only [exec_pmAck, execPmAck, took]
    rw [if_pos active, if_pos ⟨entry, awaited⟩]
  · exact congrArg _ (if_pos ⟨active, entry, due⟩)
  · exact congrArg _ (if_pos ⟨active, entry, acked, cd, ad⟩)
  · exact State.next_access on (if_pos may)
  · exact State.next_access on ((if_neg (ne_true_of_eq_false wait)).trans (if_pos ⟨active, doze⟩))
  · have asleep : s.linkActive = false := State.linkActive_of_ne (by omega)
    exact State.next_access on ((if_neg (ne_true_of_eq_false wait)).trans ((if_neg fun both => ne_true_of_eq_false asleep both.1).trans
      (if_pos ⟨rests, settled⟩)))
  · have asleep : s.linkActive = false := State.linkActive_of_ne (by omega)
    exact State.next_access on ((if_neg (ne_true_of_eq_false wait)).trans ((if_neg fun both => ne_true_of_eq_false asleep both.1).trans
      ((if_neg fun both => resumes both.2).trans (if_pos (.inr rests)))))
  · have awake : s.linkState ≠ 3 := by omega
    exact State.next_access on ((if_neg (ne_true_of_eq_false wait)).trans ((if_neg fun both => other both.2).trans
      ((if_neg fun both => awake both.1).trans (if_pos (.inl up)))))
  · exact congrArg _ (if_pos ⟨rests, settled, limit, due⟩)
  · have runs : ¬ (s.on Dom.sill = false ∨ s.linkState < 2 ∨ s.linkState = 5) :=
      not_or_intro (ne_false_of_eq_true on) (not_or_intro (Nat.not_lt.mpr up) alive)
    exact ⟨State.next_access on rfl, congrArg _ ((if_neg runs).trans (if_neg Bool.noConfusion)),
      congrArg _ ((if_neg runs).trans (if_pos rfl))⟩
  · simp only [exec_resumeAck, execResumeAck, took]
  · exact congrArg _ (if_pos ⟨up, due⟩)
  · exact State.next_keyed on opened ((if_pos rfl).trans (if_neg (ne_true_of_eq_false off)))
  · exact State.next_keyed on opened ((if_neg Bool.false_ne_true).trans (if_pos enabled))
  · subst asked
    simp only [exec_debug, execDebug]
    rw [if_pos ⟨enabled, on⟩, later]
  · simp only [exec_debug, execDebug, took]
    rw [if_pos live]
  · simp only [exec_debugRsp, execDebugRsp, took]

end Sys2Proof.Machine
end

section
/-! SUPPORT. Proofs of the statements on the tiles and their number formats (spec/06_tiles_and_number_formats.md): the operations of the
vector engine (R187, R188, R200, R201, R222 to R228; log entry 93), the clocks of the AD (R194, R202 to R205, R215, R218, R573) and the
training and upkeep of its DRAM (R208 to R210, R217). -/

namespace Sys2Proof.Machine

open Sys2Proof

/-! ### The vector engine -/

/-- An operation that needs nothing but its engine has its effect on the tile that took it (R222, R224). -/
theorem State.next_engineOp {s u : State} {t e op : Nat} {o : QOp} {rest : List QOp} {f : Nat → State → State}
    (front : s.engineReady t e op o rest = true) (done : f o.word (s.engineTaken t e o rest) = u) :
    (.next (s.engineOp t e op anyTime f) : Out) = .next u :=
  congrArg _ ((State.engineOp_ready front rfl f).trans done)

/-- Settles O13: each operation is taken from the front of the vector engine's queue, and what it then does is the statement's. -/
theorem vectorArithmetic : Obligations.VectorArithmetic := by
  refine ⟨fun s t pc w rest u put => ?_, fun s t pc w rest front => ?_, fun s t pc w rest front => ?_, fun s t pc w rest front => ?_⟩
  · subst put
    exact ⟨fun valu => State.next_engineOp valu rfl, fun vfma => State.next_engineOp vfma rfl, fun vcmp => State.next_engineOp vcmp rfl,
      fun vsh => State.next_engineOp vsh rfl, fun vsel => State.next_engineOp vsel rfl, fun vsfu => State.next_engineOp vsfu rfl⟩
  · exact State.next_engineOp front rfl
  · exact State.next_engineOp front rfl
  · exact State.next_engineOp front rfl

/-- Settles O14: each operation passes its operand rules; of an integer bank read without the signature VRQ and VACC then take the row as it
stands. -/
theorem vectorTransfers : Obligations.VectorTransfers := by
  refine ⟨fun s t errs pc w rest front inRange => ?_, fun s t pc w rest front inRange => ?_,
    fun s t errs pc w rest a e j n front base size first count region aligned fits inStore => ?_,
    fun s t pc w rest u front put sound plain integer => ?_, fun s t pc w rest u front put sound plain => ?_,
    fun s t errs pc w rest front region => ?_, fun s t pc w rest u put => ?_⟩
  · exact State.next_engineOp front (if_neg (Nat.not_lt.mpr inRange))
  · exact State.next_engineOp front (if_neg (Nat.not_lt.mpr inRange))
  · subst base size first count
    have operands := not_or_intro (Nat.not_lt.mpr region) (not_or_intro (not_not_intro aligned) (Nat.not_lt.mpr fits))
    exact State.next_engineOp front ((if_neg operands).trans (if_neg (Nat.not_lt.mpr inStore)))
  · subst put
    refine State.next_engineOp front ((if_neg (ne_true_of_eq_false sound)).trans ?_)
    simp only [plain, Bool.false_eq_true, if_false, decide_eq_false (Nat.not_le.mpr integer)]
  · subst put
    refine State.next_engineOp front ((if_neg (ne_true_of_eq_false sound)).trans ?_)
    simp only [plain, Bool.false_eq_true, if_false]
  · exact State.next_engineOp front (if_neg (Nat.not_lt.mpr region))
  · subst put
    exact ⟨fun vseta => State.next_engineOp vseta rfl, fun vpmap => State.next_engineOp vpmap rfl⟩

/-! ### Clocks and DRAM -/

/-- Settles O30: each event finds its item, its change or its entry under way and its time come, each access its block powered; a training
step is the one after the last, or step 3 again. -/
theorem clocksAndDram : Obligations.ClocksAndDram := by
  refine ⟨fun s it old live slew => ⟨?_, fun due => ?_⟩, fun s tile work ctl live used off settled => ?_,
    fun s step rate density on live untrained sound => ⟨fun other next => ?_, fun last passed => ?_⟩,
    fun s a b hot drift channel live trained => ⟨fun due => ?_, ?_, fun due => ?_⟩, fun s d change due => ?_,
    fun s data cap on => ⟨?_, fun idle => ?_, fun works => ?_⟩,
    fun s d t mv => ⟨fun due change => ?_, fun due idle entry => ?_, fun due change => ?_, fun due idle entry => ?_⟩⟩
  · simp only [exec_apllSlewDone, execApllSlewDone, slew]
    rw [if_pos live]
  · simp only [exec_slewTimeout, execSlewTimeout, slew]
    rw [if_pos ⟨live, due⟩]
  · simp only [exec_tilePowerUp, execTilePowerUp]
    cases last : s.pmu.tileAt <;> rw [last] at settled <;> exact congrArg _ (if_pos ⟨work, ctl, live, used, off, settled⟩)
  · exact congrArg _ ((if_pos ⟨on, live, untrained, sound⟩).trans ((if_neg other).trans (if_pos next)))
  · refine congrArg _ ((if_pos ⟨on, live, untrained, sound⟩).trans ((if_pos last).trans ?_))
    exact ite_congr rfl (fun _ => rfl) fun rated => if_pos (passed.resolve_right rated)
  · exact congrArg _ (if_pos ⟨live, trained, due⟩)
  · exact congrArg _ (if_pos ⟨live, trained⟩)
  · exact congrArg _ (if_pos ⟨live, trained, due⟩)
  · simp only [exec_clockPlanAckTimeout, execClockPlanAckTimeout, change]
    rw [if_pos due]
  · exact State.next_access on rfl
  · exact State.next_access on (if_neg (ne_true_of_eq_false idle))
  · exact State.next_access on (if_pos works)
  · simp only [exec_voutPoll, execVoutPoll, change]
    rw [if_neg (ne_false_of_eq_true due)]
  · simp only [exec_voutPoll, execVoutPoll, idle, entry]
    exact congrArg _ (if_neg (ne_false_of_eq_true due))
  · simp only [exec_voutTimeout, execVoutTimeout, State.changeLate, change]
    rw [if_neg (ne_false_of_eq_true due)]
  · simp only [exec_voutTimeout, execVoutTimeout, idle, entry]
    rw [if_neg (ne_false_of_eq_true due)]

end Sys2Proof.Machine
end

section
/-! SUPPORT. Proofs of the statements on the tile's programs and engines (spec/07_tile_programs_and_engines.md): the sequencer (R223, R230,
R235, R253), requests, limits and watchdogs (R236 to R244), and the operations of the MAC engine (R222, R224 to R226, R289). -/

namespace Sys2Proof.Machine

open Sys2Proof

/-! ### The sequencer -/

/-- A bundle without a fault goes out whole where its seam is behind it, its token there, no SYNC holds it and its queues have room (R223,
R230, R235). -/
theorem State.dispatch_bundle {s : State} {t : Nat} (live : s.tileLive t = true) (run : s.tstate t = tsRun)
    (fetched : (s.tile t).disp = false) (fetches : (s.tile t).halting = false) (inside : s.getF (R.TL_SEQ_PC t) < s.progLen t)
    (seam : seqSeam (s.atPc t) = false ∨ (s.tile t).seam = true)
    (sound : bundleFaults (s.atPc t) (s.progLen t) (s.tile t).loops.length = []) (token : s.tokenOk t (seqCtok (s.atPc t)) = true)
    (synced : seqSop (s.atPc t) ≠ 5 ∨ (s.tile t).retired = true) (room : (s.tile t).full (s.atPc t) = false) :
    s.dispatch t = (s.takeToken t (seqCtok (s.atPc t))).tileSet t fun k => k.enqueue (s.atPc t) (s.getF (R.TL_SEQ_PC t)) := by
  have fetching : ¬ (s.tileLive t = false ∨ s.tstate t ≠ tsRun ∨ (s.tile t).disp ∨ (s.tile t).halting) := by
    simp [live, run, fetched, fetches]
  have past : ¬ (seqSeam (s.atPc t) ∧ (s.tile t).seam = false) :=
    not_and_or.mpr (seam.imp ne_true_of_eq_false ne_false_of_eq_true)
  have free : ¬ (s.tokenOk t (seqCtok (s.atPc t)) = false ∨ (seqSop (s.atPc t) = 5 ∧ (s.tile t).retired = false)
      ∨ (s.tile t).full (s.atPc t)) :=
    not_or_intro (ne_false_of_eq_true token)
      (not_or_intro (not_and_or.mpr (synced.imp_right ne_false_of_eq_true)) (ne_true_of_eq_false room))
  simp only [State.dispatch, sound]
  rw [if_neg fetching, if_neg (Nat.not_le.mpr inside), if_neg past, if_neg free]

/-- The operation that the bundle at PC names acts on the tile once that bundle is dispatched (R223). -/
theorem State.next_seqOp {s u : State} {t sop : Nat} {f : Nat → State → State} (live : (s.dispatch t).tileLive t = true)
    (run : (s.dispatch t).tstate t = tsRun) (out : ((s.dispatch t).tile t).disp = true)
    (fetches : ((s.dispatch t).tile t).halting = false) (named : seqSop (s.atPc t) = sop)
    (done : f ((s.dispatch t).getF (R.TL_SEQ_PC t)) (s.dispatch t) = u) : (.next (s.seqOp t sop f) : Out) = .next u :=
  congrArg _ ((if_neg (not_not_intro named)).trans ((if_pos ⟨live, run, out, fetches⟩).trans done))

/-- Settles O10: dispatch and the six operations by the lemmas above, a seam by its time and the request that waits, a halt by the tile that
has run dry. -/
theorem tileSequencer : Obligations.TileSequencer := by
  refine ⟨fun s t live run fetched fetches inside seam sound token synced room => ?_, fun s t live run out fetches => ⟨?_, ?_⟩,
    fun s t live run out fetches => ⟨?_, fun start n rest named top => ?_, ?_, ?_⟩,
    fun s t interval drain v live waits dry put => ⟨fun r inTime request => ?_, fun inTime idle => ?_, fun late => ?_⟩,
    fun s t live halting dry => ?_, fun s t live => ?_⟩
  · exact congrArg _ (State.dispatch_bundle live run fetched fetches inside seam sound token synced room)
  · exact fun next => State.next_seqOp live run out fetches next rfl
  · exact fun sync => State.next_seqOp live run out fetches sync rfl
  · exact fun loop => State.next_seqOp live run out fetches loop rfl
  · refine State.next_seqOp live run out fetches named ?_
    simp only [top]
  · exact fun jump => State.next_seqOp live run out fetches jump rfl
  · exact fun halt => State.next_seqOp live run out fetches halt rfl
  · subst put
    simp only [exec_seamReached, execSeamReached]
    rw [if_pos ⟨live, waits, dry⟩, if_neg (Nat.not_lt.mpr inTime), request]
  · subst put
    simp only [exec_seamReached, execSeamReached]
    rw [if_pos ⟨live, waits, dry⟩, if_neg (Nat.not_lt.mpr inTime), idle]
  · rw [exec_seamReached, execSeamReached, if_pos ⟨live, waits, dry⟩, if_pos late]
  · exact congrArg _ (if_pos ⟨live, halting, dry⟩)
  · exact congrArg _ (if_pos live)

/-! ### Requests, limits and watchdogs -/

/-- A dispatcher's access to a live tile has its effect on the state that answers it. -/
theorem State.next_tileAccess {s u : State} {t : Nat} {f : State → State} (live : s.tileLive t = true) (done : f (s.answer .ok) = u) :
    (.next (s.tileAccess t f) : Out) = .next u :=
  congrArg _ ((if_pos live).trans done)

/-- A running tile without a request keeps a SWAP to its other VALID bank for the next seam (R239). -/
theorem State.swapTile_running {s : State} {t bank : Nat} (tenant : Nat) (free : (s.tile t).req = none)
    (valid : s.bankReady t bank = true) (other : bank ≠ s.getF (R.TL_SEQ_BANK t)) (runs : s.tstate t = tsRun ∨ s.tstate t = tsSeamwait) :
    s.swapTile t bank tenant = (s.tileSet t fun k => { k with req := some ⟨1, bank, 0, tenant⟩ }).arm (.swapLimit t)
      (s.getF (R.TL_LIMIT_SWAPTO_US t) * usNs) := by
  have up : s.tstate t ≠ tsIdle ∧ s.tstate t ≠ tsFaulted ∧ s.tstate t ≠ tsAborting ∧ s.tstate t ≠ tsHalted := by
    rcases runs with run | waits
    · rw [run]; decide
    · rw [waits]; decide
  obtain ⟨active, sound, settled, fetching⟩ := up
  have taken : ¬ ((s.tile t).req.isSome ∨ s.bankReady t bank = false ∨ bank = s.getF (R.TL_SEQ_BANK t) ∨ s.tstate t = tsIdle
      ∨ s.tstate t = tsFaulted ∨ s.tstate t = tsAborting) := by
    simp [free, valid, other, active, sound, settled]
  exact (if_neg taken).trans (if_neg fetching)

/-- Settles O11: each request and each watchdog finds its tile live and in the state it is for. -/
theorem tileControl : Obligations.TileControl := by
  refine ⟨fun s t bank tenant live free valid other runs => ?_, fun s t reason bank tenant live => ⟨?_, ?_⟩,
    fun s t bank reason tenant live due request early => ?_, fun s t cycles late live runs => ?_, fun s t q x l oldest live stuck => ?_,
    fun s t live runs idle quiet heads waits stays => ?_, fun s t q peer peerQ send live => ?_,
    fun s t bank offset data live free aligned => ⟨?_, ?_⟩⟩
  · exact State.next_tileAccess live (State.swapTile_running (s := s.answer .ok) tenant.val free valid other runs)
  · exact State.next_tileAccess live rfl
  · exact State.next_tileAccess live rfl
  · simp only [exec_swapLimitExpiry, execSwapLimitExpiry, request]
    rw [if_pos ⟨live, due⟩, if_neg (ne_true_of_eq_false early)]
  · rw [exec_tileSeamLate, execTileSeamLate, if_pos ⟨late, live, runs⟩]
  · simp only [exec_tileCreditStall, execTileCreditStall, oldest]
    rw [if_pos ⟨live, stuck⟩]
  · rw [exec_tileDeadlock, execTileDeadlock, if_pos ⟨live, runs, idle, quiet, heads, waits, stays.imp_left ne_true_of_eq_false⟩]
  · exact congrArg _ (if_pos live)
  · exact State.next_tileAccess live ((if_neg (ne_true_of_eq_false free)).trans (if_pos rfl))
  · exact State.next_tileAccess live ((if_neg (ne_true_of_eq_false free)).trans ((if_neg Bool.false_ne_true).trans
      (if_neg (not_not_intro aligned))))

/-! ### The MAC engine -/

/-- Settles O12: each operation is taken from the front of its engine's queue and passes its operand rules or faults on them; outside a
signature pass an MMA needs no transform and negates nothing. -/
theorem macEngineOps : Obligations.MacEngineOps := by
  refine ⟨fun s t e pc w rest front => ?_, fun s t pc w rest front => ?_, fun s t pc w rest front => ?_,
    fun s t errs pc w rest u a n front put base lines => ?_, fun s t pc w rest front => ?_,
    fun s t errs pc w rest u front put => ⟨fun sound plain => ?_, fun bad => ?_⟩, fun s t pc w rest front => ?_,
    fun s t pc w rest => ⟨fun sigo => ?_, fun sigc => ?_⟩, fun s t e o busy live => ?_⟩
  · exact State.next_engineOp front rfl
  · exact State.next_engineOp front rfl
  · exact State.next_engineOp front rfl
  · subst put base lines
    exact ⟨fun inRange => State.next_engineOp front (if_neg (Nat.not_lt.mpr inRange)),
      fun past => State.next_engineOp front (if_pos past)⟩
  · exact State.next_engineOp front rfl
  · subst put
    refine State.next_engineOp front ((if_neg (not_not_intro sound)).trans ?_)
    simp only [plain, Bool.false_eq_true, false_and, if_false, Bool.false_and]
  · subst put
    exact State.next_engineOp front (if_pos bad)
  · exact State.next_engineOp front rfl
  · exact State.next_engineOp sigo rfl
  · exact State.next_engineOp sigc rfl
  · simp only [exec_engineOpComplete, execEngineOpComplete, busy]
    rw [if_pos live]

end Sys2Proof.Machine
end

section
/-! SUPPORT. Proofs of the statements on belief (spec/09_belief.md): the writes of ASY_CMD (R304, R308, R314, R322), records and the
expiry of zones and runs (R297, R298, R305), the qualification (R311, R313), the self-checks (R324) and firmware's reset of the AD
(R551). -/

namespace Sys2Proof.Machine

open Sys2Proof

/-! ### The commands of ASY_CMD -/

section AsyCmd

variable {s : State} (on : s.on Dom.core = true)
include on

/-- DEMOTE takes TRUSTED to PROBATION (R308). -/
theorem exec_demote_trusted (trusted : s.getF R.ASY_TRUST_STATE = 2) : exec .demote s = .next ((s.answer .ok).setTrust 1) :=
  State.next_access on (if_pos trusted)

/-- DEMOTE is refused at or below PROBATION (R322). -/
theorem exec_demote_refused (other : s.getF R.ASY_TRUST_STATE ≠ 2) : exec .demote s = .next (s.answer .ok).asyRefused :=
  State.next_access on (if_neg other)

/-- DISTRUST distrusts from every state above DISTRUSTED (R308). -/
theorem exec_distrust_above (above : s.getF R.ASY_TRUST_STATE ≠ 0) : exec .distrust s = .next (s.answer .ok).distrust :=
  State.next_access on (if_neg above)

/-- DISTRUST is refused in DISTRUSTED (R322). -/
theorem exec_distrust_refused (bottom : s.getF R.ASY_TRUST_STATE = 0) : exec .distrust s = .next (s.answer .ok).asyRefused :=
  State.next_access on (if_pos bottom)

/-- RETRY in WORK after giving up is a new attempt that does not count (R314, log entry 62). -/
theorem exec_retry_givenUp (givenUp : s.getF R.ASY_TRUST_QUAL = 4) (work : s.inWork = true) :
    exec .retry s = .next ((s.answer .ok).adDomainsOn.requestAdReset false) :=
  State.next_access on (if_pos ⟨givenUp, work⟩)

/-- RETRY is refused while the AD is not given up (R322). -/
theorem exec_retry_refused (held : s.getF R.ASY_TRUST_QUAL ≠ 4) : exec .retry s = .next (s.answer .ok).asyRefused :=
  State.next_access on (if_neg fun both => held both.1)

/-- CLEARZONES clears every bit and run count whatever the trust state (R304). -/
theorem exec_clearzones_on : exec .clearzones s = .next (s.answer .ok).clearAllZones :=
  State.next_access on rfl

end AsyCmd

/-- Settles O43: RESETTING, LOADING and RUNNING are not GIVEN_UP, and PROBATION and DISTRUSTED are not TRUSTED. -/
theorem assayRefusals : Obligations.AssayRefusals := by
  refine ⟨fun s on _ runs => ?_, fun s on => ⟨fun atOrBelow => ?_, fun bottom => ?_⟩, fun s on => exec_clearzones_on on⟩
  · exact exec_retry_refused on (Nat.ne_of_lt (Nat.lt_succ_of_le runs))
  · exact exec_demote_refused on (Nat.ne_of_lt (Nat.lt_succ_of_le atOrBelow))
  · exact exec_distrust_refused on bottom

/-! ### Records and expiries -/

section Record

variable {s v u : State} {tenant count : Fin 256} {tag : Fin 65536} {body : List Byte} {k : Nat}
  (took : s.takeCd ⟨1, TT.record, tenant.val, count.val, tag.val, body⟩ = some (k, v))
include took

/-- Outside a qualification a record within the limit comes to the intake (R298). -/
theorem exec_record_intake (rate : v.recordRate = (false, u)) (idle : u.asy.qual = none) :
    exec (.record tenant count tag body) s = .next (u.intake ⟨tenant.val, count.val, tag.val, body⟩) := by
  simp only [exec_record, execRecord, took, rate, idle]
  rw [if_neg Bool.false_ne_true]

/-- A record beyond 20 in 1 ms is a violation (R177). -/
theorem exec_record_beyondRate (rate : v.recordRate = (true, u)) :
    exec (.record tenant count tag body) s = .next (u.silViol 0x0C TT.record) := by
  simp only [exec_record, execRecord, took, rate]
  rw [if_pos trivial]

/-- A record of a qualification camera is judged by the qualification (R313). -/
theorem exec_record_qualification {q : Qual} (rate : v.recordRate = (false, u)) (runs : u.asy.qual = some q)
    (least : 0x10 ≤ byteAt body 2) (most : byteAt body 2 < 0x14) :
    exec (.record tenant count tag body) s = .next (u.qualRecord q ⟨tenant.val, count.val, tag.val, body⟩) := by
  simp only [exec_record, execRecord, took, rate, runs]
  rw [if_neg Bool.false_ne_true, if_pos ⟨least, most⟩]

end Record

/-- The record at the head of the intake is judged while the Assay is powered (R298). -/
theorem exec_assayJudge_head {s : State} {m : RecMsg} {l : List RecMsg} (ce : Bool) (on : s.on Dom.core = true)
    (head : s.asy.intake = m :: l) :
    exec (.assayJudge ce) s =
      .next ((((s.doIf ce fun s => s.raise Ev.ASY_CE).asySet fun a => { a with intake := l }).judge m).headOn) := by
  simp only [exec_assayJudge, execAssayJudge, head]
  rw [if_pos on]

/-- A run entry whose time is over is freed (R297). -/
theorem exec_runExpiry_over {s : State} {tenant : Fin 16} {cam : Fin 4} {ctr : Nat} {e : RunEntry}
    (entry : s.runEntry tenant.val cam.val ctr = some e) (past : s.runOver e = true) :
    exec (.runExpiry tenant cam ctr) s = .next (s.asySet fun a =>
      { a with runs := a.runs.filter fun q => !(q.tenant == e.tenant && q.cam == e.cam && q.ctr == e.ctr) }) := by
  simp only [exec_runExpiry, execRunExpiry, entry]
  rw [if_pos past]

/-! ### The qualification -/

section Qualification

variable {s : State} {b : List Byte} (on : s.on Dom.core = true) (may : s.mayQualify = true) (set : s.katSet = some b)
include on may set

/-- With a usable set step 4 of R311 begins with the first case. -/
theorem exec_qualification_usable (usable : s.katOk b = true) :
    exec .qualification s = .next (((s.setF R.ASY_TRUST_QUAL 3).forN 16 fun n s =>
      if s.getF (R.TEN_STATE_CLASS n) = 0 then s.setF (R.ASY_RSEQ_EXPECT n) 0 else s).beginRun b 0 false) := by
  simp only [exec_qualification, execQualification, set]
  rw [if_neg (not_or_intro (ne_false_of_eq_true may) (ne_false_of_eq_true on)), if_neg (ne_false_of_eq_true usable)]

/-- A set that breaks R312 or R313 ends the qualification (R313). -/
theorem exec_qualification_unusable (unusable : s.katOk b = false) : exec .qualification s = .next s.katUnusable := by
  simp only [exec_qualification, execQualification, set]
  rw [if_neg (not_or_intro (ne_false_of_eq_true may) (ne_false_of_eq_true on)), if_pos unusable]

end Qualification

section QualificationDone

variable {s : State} {q : Qual} (runs : s.asy.qual = some q) (undebugged : s.isSet R.SIL_DBG_EN = false)
include runs undebugged

/-- After the last case with every record right the AD is in PROBATION (R311 step 5). -/
theorem exec_qualificationDone_passed {b : List Byte} (right : s.asy.qualBad = false) (set : s.katSet = some b)
    (last : katCount b ≤ q.idx) :
    exec .qualificationDone s = .next ((((((s.asySet fun a => { a with qual := none }).disarm .qualRecord).setF
      R.ASY_TRUST_QUAL 0).flag R.ASY_INT_QUALDONE).setTrust 1).raise Ev.ASY_QUAL_PASS) := by
  simp only [exec_qualificationDone, execQualificationDone, runs, set]
  rw [if_neg (ne_true_of_eq_false undebugged), if_neg (ne_true_of_eq_false right), if_pos last]

/-- One wrong record fails the qualification (R311 step 5). -/
theorem exec_qualificationDone_failed (wrong : s.asy.qualBad = true) : exec .qualificationDone s = .next s.qualFail := by
  simp only [exec_qualificationDone, execQualificationDone, runs]
  rw [if_neg (ne_true_of_eq_false undebugged), if_pos wrong]

end QualificationDone

/-- When the records' time has run out, a case that expects none goes on and any other fails the qualification (R313). -/
theorem exec_qualRecordTimeout_due {s : State} {q : Qual} {b : List Byte} {k : KatCase} (runs : s.asy.qual = some q)
    (due : s.due .qualRecord = true) (set : s.katSet = some b) (stands : (katCases b (katCount b) 32)[q.idx]? = some k) :
    exec .qualRecordTimeout s = .next (if k.nrec = 0 then (s.disarm .qualRecord).nextRun b q else s.qualFail) := by
  simp only [exec_qualRecordTimeout, execQualRecordTimeout, runs, set, stands]
  rw [if_neg (ne_false_of_eq_true due)]

/-! ### Firmware's reset of the AD -/

/-- A write of SYS_RSTCTL.AD with its code, to an AD that is powered, is not dropped (R551). -/
theorem State.adReset_taken {s : State} {code : Nat} (powered : s.on Dom.adCtl = true) (named : code % 65536 = rstCode) :
    ¬ (code % 65536 ≠ rstCode ∨ s.on Dom.adCtl = false) :=
  not_or_intro (not_not_intro named) (ne_false_of_eq_true powered)

section AdReset

variable {s : State} {code : Nat} (on : s.on Dom.core = true) (powered : s.on Dom.adCtl = true) (named : code % 65536 = rstCode)
include on powered named

/-- Under debug the AD is reset outside the budget (R171, R551). -/
theorem exec_adReset_debug (debug : s.isSet R.SIL_DBG_EN = true) :
    exec (.adReset code) s = .next (((s.answer .ok).adReset 4).setF R.ASY_TRUST_QUAL 5) :=
  State.next_access on ((if_neg (State.adReset_taken powered named)).trans (if_pos debug))

/-- Within the budget of R314 the reset is made, and counted (R551). -/
theorem exec_adReset_counted (undebugged : s.isSet R.SIL_DBG_EN = false) (within : s.escalations.length < 4) :
    exec (.adReset code) s = .next (
      let a := (s.answer .ok).asySet fun k => { k with resetsAt := s.window hourNs k.resetsAt }
      ((a.adReset 4).setF R.ASY_TRUST_QUAL 1).raise Ev.ASY_AD_RESET a.escalations.length) :=
  State.next_access on ((if_neg (State.adReset_taken powered named)).trans
    ((if_neg (ne_true_of_eq_false undebugged)).trans (if_neg (Nat.not_le.mpr within))))

/-- The fifth of 60 minutes is not made: the AD is given up (R314). -/
theorem exec_adReset_spent (undebugged : s.isSet R.SIL_DBG_EN = false) (spent : 4 ≤ s.escalations.length) :
    exec (.adReset code) s = .next (s.answer .ok).giveUp :=
  State.next_access on ((if_neg (State.adReset_taken powered named)).trans
    ((if_neg (ne_true_of_eq_false undebugged)).trans (if_pos spent)))

end AdReset

/-- Settles O27: each clause is one of the cases above, or a row whose one condition holds. -/
theorem assayAndTrust : Obligations.AssayAndTrust := by
  refine ⟨fun s tenant count tag body k v u q took => ⟨exec_record_intake took, exec_record_beyondRate took,
      exec_record_qualification took⟩,
    fun s ce m l on head => exec_assayJudge_head ce on head, fun s e counts past => congrArg _ (if_pos ⟨counts, past⟩),
    fun s tenant cam ctr e entry past => exec_runExpiry_over entry past,
    fun s on => ⟨exec_demote_trusted on, exec_demote_refused on, exec_distrust_above on, exec_distrust_refused on,
      exec_clearzones_on on⟩,
    fun s on givenUp work => exec_retry_givenUp on givenUp work,
    fun s copies on => ⟨congrArg _ (if_pos on), congrArg _ (if_pos on)⟩,
    fun s b on may => ⟨exec_qualification_usable on may, exec_qualification_unusable on may⟩,
    fun s q b runs undebugged => ⟨exec_qualificationDone_passed runs undebugged, exec_qualificationDone_failed runs undebugged⟩,
    fun s q b n runs due set expected => ?_,
    fun s code on powered named => ⟨exec_adReset_debug on powered named, exec_adReset_counted on powered named,
      exec_adReset_spent on powered named⟩⟩
  obtain ⟨k, stands, rfl⟩ := Option.map_eq_some_iff.mp expected
  rw [exec_qualRecordTimeout_due runs due set stands]
  exact ⟨fun noneDue => congrArg _ (if_pos noneDue), fun someDue => congrArg _ (if_neg someDue)⟩

end Sys2Proof.Machine
end

section
/-! SUPPORT. Proofs of the statements on light, tilt and safety (spec/10_light_tilt_and_safety_io.md): darkness, the control cycle and the
channels' faults (R331 to R343), the tilt's homing, motion and monitors (R345 to R347, R368, R370; log entry 68), and the outputs, the
input pairs and the safety reset (R348 to R355; log entries 119 and 120). -/

namespace Sys2Proof.Machine

open Sys2Proof

/-! ### The light drive -/

/-- A timer whose time has come is armed. -/
theorem State.armed_of_due {s : State} {t : Timer} (due : s.due t = true) : s.armed t = true := by
  unfold State.due at due
  unfold State.armed
  cases deadline : s.deadline t with
  | none => simp [deadline] at due
  | some d => rfl

/-- In darkness with no channel running for 20 ms the occupancy floor's source asserts, unless it already has (R343). -/
theorem State.sfl1Refresh_expired {s : State} (on : s.on Dom.drive = true) (due : s.due .sfl1 = true) (dark : s.isDark = true)
    (dead : s.someRun = false) (quiet : s.bitF R.SIO_TRIPNOW_ACTIVE Src.luxSfl1 = false) :
    s.sfl1Refresh = (s.raiseInt Ev.LUX_SFL1 R.LUX_INT_SFL1).assertTrip Src.luxSfl1 true := by
  have counting : (if s.someRun then s.disarm .sfl1 else if s.armed .sfl1 then s else s.arm .sfl1 (20 * msNs)) = s :=
    (if_neg (ne_true_of_eq_false dead)).trans (if_pos (State.armed_of_due due))
  have required : (s.isDark && (s.allLatched || s.due .sfl1)) = true := by
    rw [dark, due, Bool.or_true, Bool.and_true]
  simp only [State.sfl1Refresh, counting]
  rw [if_neg (ne_false_of_eq_true on), if_pos required, if_neg (ne_true_of_eq_false quiet)]

section ScTrip

variable {s : State} {ch : Fin 2} (ramp : Bool) (on : s.on Dom.drive = true)
include on

/-- A short of a running channel is a fault of its own (R338). -/
theorem exec_scTrip_running (runs : s.chState ch = 1) :
    exec (.scTrip ch ramp) s = .next ((((s.setF (R.LUX_ST_PHASE ch) (if ramp then 1 else 2)).raiseInt Ev.LUX_SC R.LUX_INT_SC ch
      (if ramp then 1 else 2)).chFault ch 2).sfl1Refresh) :=
  congrArg _ (if_pos ⟨on, runs⟩)

/-- A short in the cycle of the 64th overcurrent makes that fault a short (R359). -/
theorem exec_scTrip_sameCycle (stopped : s.chState ch ≠ 1) (overcurrent : (s.luxCh ch).ocNew = true) :
    exec (.scTrip ch ramp) s = .next (
      let u := ((s.setF (R.LUX_ST_PHASE ch) (if ramp then 1 else 2)).raiseInt Ev.LUX_SC R.LUX_INT_SC ch
        (if ramp then 1 else 2)).setCh ch fun h => { h with ocNew := false }
      if u.chState ch = 5 then u.setF (R.LUX_ST_CAUSE ch) 1 else u.setF (R.LUX_ST_STATE ch) 2) :=
  congrArg _ ((if_neg fun both => stopped both.2).trans (if_pos ⟨on, overcurrent⟩))

end ScTrip

/-- Settles O20: the write finds the drive powered, each event its time come, its channel in the state it needs, or the drive powered. -/
theorem lightDrive : Obligations.LightDrive := by
  refine ⟨fun s luxin sched on => State.next_access on rfl, fun s => ⟨fun due => ?_, fun due => ?_, fun due => ?_⟩,
    fun s v0 v1 i0 i1 on due => ?_, fun s ch ramp on => ⟨fun runs first => ?_, exec_scTrip_running ramp on, exec_scTrip_sameCycle ramp on⟩,
    fun s ch due => ?_, fun s on => ⟨?_, ?_, ?_⟩, fun s on due dark dead quiet => ?_⟩
  · exact congrArg _ (if_pos due)
  · exact congrArg _ (if_pos due)
  · exact congrArg _ (if_pos due)
  · exact congrArg _ (if_pos ⟨on, due⟩)
  · exact congrArg _ (if_pos ⟨on, runs, first⟩)
  · exact congrArg _ (if_pos due)
  · exact congrArg _ (if_neg (ne_false_of_eq_true on))
  · exact congrArg _ (if_neg (ne_false_of_eq_true on))
  · exact congrArg _ (if_pos on)
  · exact congrArg _ ((if_pos due).trans (State.sfl1Refresh_expired on due dark dead quiet))

/-! ### The tilt drive -/

section EncIndex

variable {s : State} (on : s.on Dom.drive = true)
include on

/-- The first index pulse of step 2 gives Z0 (R345). -/
theorem exec_encIndex_first (homing : s.homing = true) (second : s.tlt.step = 2) (fresh : s.tlt.index = 0) :
    exec .encIndex s = .next { (s.setSigned R.TLT_IDX_Z0 s.tltCount) with tlt := { s.tlt with index := 1 } } := by
  rw [exec_encIndex, execEncIndex, if_neg (ne_false_of_eq_true on), if_pos homing, if_pos second, if_pos fresh]

/-- The second index pulse of step 2 gives ZP, and step 3 begins (R345). -/
theorem exec_encIndex_second (homing : s.homing = true) (second : s.tlt.step = 2) (one : s.tlt.index ≠ 0) :
    exec .encIndex s = .next (
      let u := (s.setSigned R.TLT_IDX_ZP (s.tltCount - s.getF R.TLT_IDX_Z0)).homeStep 3
      if u.roleDemand 2 then u.homeUpper else u) := by
  rw [exec_encIndex, execEncIndex, if_neg (ne_false_of_eq_true on), if_pos homing, if_pos second, if_neg one]

/-- A pulse away from its place is a violation of a homed tilt (R346). -/
theorem exec_encIndex_off (rest : s.homing = false) (watched : s.tltWatches = true) (homed : s.isSet R.TLT_STATE_HOMED = true)
    (off : nearIndex s.tltCount (s.getF R.TLT_IDX_Z0) (s.getF R.TLT_IDX_ZP) = false) :
    exec .encIndex s = .next (s.tltViolation Ev.TLT_ENC) := by
  rw [exec_encIndex, execEncIndex, if_neg (ne_false_of_eq_true on), if_neg (ne_true_of_eq_false rest), if_pos ⟨watched, homed, off⟩]

/-- A pulse near its place ends the wait for it (R346, R368). -/
theorem exec_encIndex_near (rest : s.homing = false)
    (near : nearIndex s.tltCount (s.getF R.TLT_IDX_Z0) (s.getF R.TLT_IDX_ZP) = true) :
    exec .encIndex s = .next { s with tlt := { s.tlt with idxDue := none } } := by
  rw [exec_encIndex, execEncIndex, if_neg (ne_false_of_eq_true on), if_neg (ne_true_of_eq_false rest),
    if_neg fun all => ne_false_of_eq_true near all.2.2]

end EncIndex

/-- Settles O21: each command finds the drive powered and the tilt in a state that takes it, each event the drive powered or its time
come. -/
theorem tiltDrive : Obligations.TiltDrive := by
  refine ⟨fun s on rests free => ?_, fun s on => ⟨fun moves => ?_, fun homes => ?_⟩, fun s count on ready above below => ?_,
    fun s up on => ?_, fun s on => ⟨exec_encIndex_first on, exec_encIndex_second on, exec_encIndex_off on, fun rest _ _ near => ?_⟩,
    fun s => ⟨fun due => ?_, fun on due => ?_⟩, fun s code on due => ?_, fun s on => ?_⟩
  · exact State.next_access on (if_pos ⟨rests, free⟩)
  · exact State.next_access on (if_pos moves)
  · have still : s.getF R.TLT_STATE_STATE ≠ 3 := by omega
    exact State.next_access on ((if_neg still).trans (if_pos homes))
  · exact State.next_access on (if_pos ⟨ready, above, below⟩)
  · exact congrArg _ (if_neg (ne_false_of_eq_true on))
  · exact exec_encIndex_near on rest near
  · exact congrArg _ (if_pos due)
  · exact congrArg _ (if_pos ⟨on, due⟩)
  · exact congrArg _ (if_pos ⟨on, due⟩)
  · exact congrArg _ (if_neg (ne_false_of_eq_true on))

/-! ### The safety outputs -/

section Trip

variable {s : State} {src : Fin 13}

/-- The end of a source other than the Assay's own is only that (R352). -/
theorem exec_trip_ends (other : src.val ≠ Src.asySelf) : exec (.trip src false) s = .next (s.endTrip src) := by
  simp only [exec_trip, execTrip, Bool.false_eq_true, if_false]
  rw [if_neg fun both => other both.1]

/-- The end of the Assay's own source is the agreement of its copies (R307, log entry 119). -/
theorem exec_trip_asySelf_ends (own : src.val = Src.asySelf) (on : (s.endTrip src).on Dom.core = true) :
    exec (.trip src false) s = .next (((s.endTrip src).setF R.ASY_CTL_COPIES_OK 1).refreshZones s.luxTarget) := by
  simp only [exec_trip, execTrip, Bool.false_eq_true, if_false]
  rw [if_pos ⟨own, on⟩]

end Trip

/-- Settles O22: each command finds its block powered and its condition met, each event its time come, and SAFE_RESET_N's edges the level
before them. -/
theorem safetyOutputs : Obligations.SafetyOutputs := by
  refine ⟨fun s on => ⟨fun ok enabled => ?_, fun ok => ?_⟩,
    fun s src => ⟨fun on => ⟨State.next_access on rfl, State.next_access on rfl⟩, rfl, exec_trip_ends, exec_trip_asySelf_ends⟩,
    fun s out lowOk highOk => ⟨fun due => ?_, rfl⟩, fun s period width on opened fits => ?_, fun s a b due outside => ?_,
    fun s preA inA forA preB inB forB due awake => ?_, fun s pair due used => ?_, fun s high => ?_, fun s t low => ?_, fun s due => ?_⟩
  · exact State.next_access on (if_pos ⟨ok, enabled⟩)
  · exact State.next_access on (if_pos ok)
  · exact congrArg _ (if_pos due)
  · exact State.next_keyed on opened (if_pos fits)
  · exact congrArg _ (if_pos ⟨due, outside⟩)
  · exact congrArg _ (if_pos ⟨due, awake⟩)
  · exact congrArg _ ((if_pos due).trans (if_neg used))
  · simp only [exec_safeResetFall, execSafeResetFall, high]
  · simp only [exec_safeResetRise, execSafeResetRise, low]
  · exact congrArg _ (if_pos due)

end Sys2Proof.Machine
end

section
/-! SUPPORT. Proofs of the statements on the companion cores (spec/11_companion_cores.md): the commands that leave SRAM alone (R395, R450,
R652), the pair in lockstep and split (R381 to R393), scrubbing and OTP reads (R396, R399), the TAP and the debug module (R400 to R403;
log entry 52), and the start and the resets (R376, R524, R529 to R532, R549, R550). -/

namespace Sys2Proof.Machine

open Sys2Proof

/-! ### SRAM over every command -/

/-- Settles O54: APPLY_STEP_DONE is in the list, and every other command outside it keeps SRAM. -/
theorem sramWriters : Obligations.SramWriters := by
  intro s c t unlisted run
  have other : ∀ ok part progs, c ≠ .applyStepDone ok part progs := by
    rintro ok part progs rfl
    cases unlisted
  exact (exec_keeps other t run).sramSame (by rw [unlisted]; rfl)

/-! ### Interrupts, hand-over and join -/

section Interrupt

variable {s : State} {core : Fin 2} {line : Fin 3} (run : s.coresRun = true)
include run

/-- In lockstep both cores take the line's level in the same instruction (R384). -/
theorem exec_interruptInput_together (together : s.getF R.SYS_CORE_STATE = 0) (first : core.val = 0) :
    exec (.interruptInput core line) s = .next (
      let put : CoreSt → CoreSt := fun c => { c with irq := withBit c.irq line.val (s.irqLevel 0 line.val) }
      (s.setCore 0 put).setCore 1 put) :=
  congrArg _ ((if_neg (ne_false_of_eq_true run)).trans ((if_neg (not_not_intro together)).trans (if_pos first)))

/-- Apart, each core takes the level of its own line (R384). -/
theorem exec_interruptInput_apart (apart : s.getF R.SYS_CORE_STATE ≠ 0) :
    exec (.interruptInput core line) s = .next (
      s.setCore core.val fun c => { c with irq := withBit c.irq line.val (s.irqLevel core.val line.val) }) :=
  congrArg _ ((if_neg (ne_false_of_eq_true run)).trans (if_pos apart))

end Interrupt

section Split

variable {s : State} (on : s.on Dom.core = true) (run : s.coresRun = true)
include on run

/-- A hand-over that nothing forbids starts C1 on its own (R388). -/
theorem exec_split_taken (may : s.cfg Img.CORE_HANDOVER 0 ≠ 0) (quiet : s.isSet R.SYS_DBG_ACTIVE = false)
    (target : sramWord (s.getF R.SYS_C1PC_ADDR) = true) (locked : s.lockstep = true) :
    exec .split s = .next (
      let a := (s.answer .ok).forL sessionKeys fun b s => s.closeKey b
      let a := (a.setFlags [R.SYS_CINT_SPLIT] [(R.SYS_CORE_STATE, 2), (R.SYS_CORE_JOIN_WAIT, 0)]).startC1 (a.getF R.SYS_C1PC_ADDR)
      ((a.wrapInc R.SYS_SPLITCNT_SPLITS).arm .split (a.getF R.SYS_SPLITLIM_SPLIT_MS * msNs)).raise Ev.SYS_SPLIT) :=
  State.next_access on ((if_neg (ne_false_of_eq_true run)).trans (if_neg (not_or_intro may (not_or_intro (ne_true_of_eq_false quiet)
    (not_or_intro (ne_false_of_eq_true target) (ne_false_of_eq_true locked))))))

/-- One forbidden condition refuses it (R388). -/
theorem exec_split_refused (forbidden : s.cfg Img.CORE_HANDOVER 0 = 0 ∨ s.isSet R.SYS_DBG_ACTIVE = true
      ∨ sramWord (s.getF R.SYS_C1PC_ADDR) = false ∨ s.lockstep = false) :
    exec .split s = .next ((s.answer .ok).flag R.SYS_CINT_REFUSED) :=
  State.next_access on ((if_neg (ne_false_of_eq_true run)).trans (if_pos forbidden))

end Split

/-- A split whose timer ran out before now is over (R390). -/
theorem State.splitOver_of_deadline {s : State} {d : Nat} (armed : s.deadline .split = some d) (late : d < s.now) :
    s.splitOver = true := by
  simp [State.splitOver, State.due, armed, Nat.le_of_lt late, Nat.ne_of_lt late]

section Join

variable {s : State} {core : Fin 2} (on : s.on Dom.core = true) (apart : s.getF R.SYS_CORE_STATE = 2) (inTime : s.splitOver = false)
include on apart inTime

/-- A JOIN in a split that is not over is not dropped, so what the two cores have written decides (R389). -/
theorem exec_join_split {t : State}
    (done : (let u := s.answer .ok
      if u.isSet R.SYS_CORE_JOIN_WAIT = false then u.setFs [(R.SYS_CORE_JOIN_WAIT, 1), (R.SYS_CORE_JOIN_CORE, core.val)]
      else if u.getF R.SYS_CORE_JOIN_CORE = core.val then u
      else if u.isSet R.SYS_DBG_HALTED then u.cpuSet fun c => { c with joinDue := true }
      else u.joinPair) = t) : exec (.join core) s = .next t :=
  State.next_access on ((if_neg (not_or_intro (not_not_intro apart) (ne_true_of_eq_false inTime))).trans done)

/-- The first core that writes JOIN waits (R389). -/
theorem exec_join_first (first : s.isSet R.SYS_CORE_JOIN_WAIT = false) :
    exec (.join core) s = .next ((s.answer .ok).setFs [(R.SYS_CORE_JOIN_WAIT, 1), (R.SYS_CORE_JOIN_CORE, core.val)]) :=
  exec_join_split on apart inTime (if_pos first)

variable (waits : s.isSet R.SYS_CORE_JOIN_WAIT = true) (other : s.getF R.SYS_CORE_JOIN_CORE ≠ core.val)
include waits other

/-- The other core's JOIN restarts the pair in lockstep (R389). -/
theorem exec_join_second (free : s.isSet R.SYS_DBG_HALTED = false) : exec (.join core) s = .next (s.answer .ok).joinPair :=
  exec_join_split on apart inTime
    ((if_neg (ne_false_of_eq_true waits)).trans ((if_neg other).trans (if_neg (ne_true_of_eq_false free))))

/-- While C0 is halted that join is put off (R389, R409). -/
theorem exec_join_halted (halted : s.isSet R.SYS_DBG_HALTED = true) :
    exec (.join core) s = .next ((s.answer .ok).cpuSet fun u => { u with joinDue := true }) :=
  exec_join_split on apart inTime ((if_neg (ne_false_of_eq_true waits)).trans ((if_neg other).trans (if_pos halted)))

end Join

/-! ### Watchdogs, scrubbing and OTP reads -/

section WatchdogKick

variable {s : State} {n : Fin 2} {value : Fin 65536} (on : s.on Dom.core = true) (runs : s.isSet (wdtRun n.val) = true)
include on runs

section Idle

variable (idle : (s.cpu.wdt.getD n.val ⟨0, false⟩).half = false)
include idle

/-- The first half of a kick gives the second one 100 µs (R392). -/
theorem exec_watchdogKick_begins (key : value.val = 0x5A5A) :
    exec (.watchdogKick n value) s = .next (((s.answer .ok).cpuSet fun c =>
      { c with wdt := c.wdt.set n.val { s.cpu.wdt.getD n.val ⟨0, false⟩ with half := true } }).arm (.kick n.val) (100 * usNs)) :=
  State.next_access on ((if_neg (ne_false_of_eq_true runs)).trans ((if_pos idle).trans (if_pos key)))

/-- Any other value is a bad kick (R393). -/
theorem exec_watchdogKick_badFirst (key : value.val ≠ 0x5A5A) :
    exec (.watchdogKick n value) s = .next ((s.answer .ok).wdtExpire n.val) :=
  State.next_access on ((if_neg (ne_false_of_eq_true runs)).trans ((if_pos idle).trans (if_neg key)))

end Idle

section Half

variable (half : (s.cpu.wdt.getD n.val ⟨0, false⟩).half = true)
include half

/-- The second half, neither too early nor too late, starts the watchdog afresh (R392, R393). -/
theorem exec_watchdogKick_completes (key : value.val = 0xA5A5) (inTime : s.due (.kick n.val) = false)
    (live : s.due (.wdt n.val) = false) (late : s.wdtMs * msNs / 4 ≤ s.now - (s.cpu.wdt.getD n.val ⟨0, false⟩).since) :
    exec (.watchdogKick n value) s = .next ((s.answer .ok).wdtStart n.val) :=
  State.next_access on ((if_neg (ne_false_of_eq_true runs)).trans ((if_neg (ne_false_of_eq_true half)).trans
    ((if_neg (not_not_intro key)).trans ((if_neg fun both => ne_true_of_eq_false inTime both.1).trans
      ((if_neg (ne_true_of_eq_false live)).trans (if_neg (Nat.not_lt.mpr late)))))))

/-- Any other value is a bad kick (R393). -/
theorem exec_watchdogKick_badSecond (key : value.val ≠ 0xA5A5) :
    exec (.watchdogKick n value) s = .next ((s.answer .ok).wdtExpire n.val) :=
  State.next_access on ((if_neg (ne_false_of_eq_true runs)).trans ((if_neg (ne_false_of_eq_true half)).trans (if_pos key)))

end Half

end WatchdogKick

/-- The scrubber in its time reads the next word and deals with what it found there (R396). -/
theorem exec_scrubRead_due {s : State} {found : Fin 3} (on : s.on Dom.core = true) (enabled : s.isSet R.SYS_SCRUB_EN = true)
    (due : s.dueOrNew .scrubber = true) :
    exec (.scrubRead found) s = .next (
      let a := 0x10000000 + 4 * s.cpu.scrub
      let u := (s.rearm .scrubber (s.getF R.SYS_SCRUB_PERIOD_US * usNs)).cpuSet fun c => { c with scrub := (c.scrub + 1) % 131072 }
      if found.val = 0 then u else if found.val = 1 then u.sramCe a else u.raise Ev.SYS_SRAM_UE a) := by
  refine congrArg _ ((if_neg (not_or_intro (ne_false_of_eq_true on)
    (not_or_intro (ne_false_of_eq_true enabled) (ne_false_of_eq_true due)))).trans ?_)
  match found with
  | 0 | 1 | 2 => rfl

/-- The end of a read shows the word and its disagreement, and frees the reader (R399). -/
theorem exec_otpReadDone_reading {s : State} {o : Nat} (reading : s.cpu.otpBusy = some o) :
    exec .otpReadDone s = .next (
      let b := (List.range 4).map fun i => s.otpOut (o + i)
      (s.setFs [(R.SYS_OTPDATA_DATA, leNat (b.map (·.1))), (R.SYS_OTPST_BUSY, 0),
        (R.SYS_OTPST_DISAGREE, if b.any (·.2) then 1 else 0)]).cpuSet fun c => { c with otpBusy := none }) := by
  rw [exec_otpReadDone, execOtpReadDone, reading]

/-- Settles O33: the comparator by the lockstep, each command by the state of the pair, of its watchdog or of the reader, each event by
its time. -/
theorem corePair : Obligations.CorePair :=
  ⟨fun _ _ _ locked => ⟨congrArg _ (if_pos locked), congrArg _ (if_pos locked)⟩,
    fun _ _ _ run => ⟨exec_interruptInput_together run, exec_interruptInput_apart run⟩,
    fun _ on run => ⟨exec_split_taken on run, exec_split_refused on run⟩,
    fun _ _ on apart => ⟨exec_join_first on apart, exec_join_second on apart, exec_join_halted on apart,
      fun _ armed late => congrArg _ (if_pos (State.splitOver_of_deadline armed late))⟩,
    fun _ _ _ on runs => ⟨exec_watchdogKick_begins on runs, exec_watchdogKick_badFirst on runs, exec_watchdogKick_completes on runs,
      exec_watchdogKick_badSecond on runs⟩,
    fun _ _ => ⟨fun due => congrArg _ (if_pos due), fun due => congrArg _ (if_pos due), fun _ => rfl⟩,
    fun _ _ on => exec_scrubRead_due on,
    fun _ _ _ on => ⟨fun idle => State.next_access on (if_neg (ne_true_of_eq_false idle)), fun busy => State.next_access on (if_pos busy),
      exec_otpReadDone_reading⟩⟩

/-! ### The TAP and the debug module -/

/-- A DMI read answers the module's register (R400, R401). -/
theorem exec_dmi_read {s : State} (addr : Fin 128) (data : Word) (on : s.on Dom.core = true) :
    exec (.dmi 1 addr data) s = .next (s.tap 0x11 (BitVec.ofNat 32 (s.dmiRead addr.val))) := by
  have reads : ((1 : Fin 4).val = 1 ∧ s.on Dom.core = true) := ⟨rfl, on⟩
  have writesNothing : (1 : Fin 4).val ≠ 2 := by decide
  simp only [exec_dmi, execDmi, if_pos reads]
  rw [if_pos (Or.inl writesNothing)]

section DmactiveWrite

variable {s : State} (on : s.on Dom.core = true)
include on

/-- The module is activated where JTAG_LOCK does not forbid it (R401). -/
theorem exec_dmactiveWrite_activates (rests : s.isSet R.SYS_DBG_ACTIVE = false) (may : s.jtagLock = false ∨ s.sessionOpen = true) :
    exec (.dmactiveWrite true) s = .next ((s.setF R.SYS_DBG_ACTIVE 1).raiseInt Ev.SYS_DEBUG R.SYS_CINT_DEBUG) := by
  have unlocked : ¬ (s.jtagLock = true ∧ s.sessionOpen = false) := not_and_or.mpr (may.imp ne_true_of_eq_false ne_false_of_eq_true)
  exact congrArg _ ((if_neg (ne_false_of_eq_true on)).trans ((if_neg nofun).trans
    ((if_neg (ne_true_of_eq_false rests)).trans (if_neg unlocked))))

/-- Under JTAG_LOCK and without a session the write is refused (R401). -/
theorem exec_dmactiveWrite_refused (rests : s.isSet R.SYS_DBG_ACTIVE = false) (locked : s.jtagLock = true)
    (closed : s.sessionOpen = false) : exec (.dmactiveWrite true) s = .next (s.raise Ev.SYS_DEBUG_REFUSED) :=
  congrArg _ ((if_neg (ne_false_of_eq_true on)).trans ((if_neg nofun).trans
    ((if_neg (ne_true_of_eq_false rests)).trans (if_pos ⟨locked, closed⟩))))

/-- A write of 0 resets the module, whatever it was doing (R401). -/
theorem exec_dmactiveWrite_resets :
    exec (.dmactiveWrite false) s = .next ((s.setFs [(R.SYS_DBG_ACTIVE, 0), (R.SYS_DBG_HALTED, 0)]).dbgSet fun d =>
      { DbgState.init with ir := d.ir }) :=
  congrArg _ ((if_neg (ne_false_of_eq_true on)).trans (if_pos rfl))

end DmactiveWrite

/-- What an active module is asked to do, it does (R401). -/
theorem State.next_dbg {s t u : State} (on : s.dbgOn = true) (done : t = u) : (.next (if s.dbgOn = false then s else t) : Out) = .next u :=
  congrArg _ ((if_neg (ne_false_of_eq_true on)).trans done)

section Abstract

variable {s : State} (on : s.dbgOn = true) (clear : s.cpu.dbg.cmderr = 0) (present : s.cpu.dbg.absent = false)
  (halted : s.isSet R.SYS_DBG_HALTED = true)
include on clear present halted

/-- An abstract command runs on a hart that is there and halted, while no error stands (R401, log entry 52). -/
theorem State.next_abstract {e f t u : State} (done : t = u) :
    (.next (if s.dbgOn = false then s else if s.cpu.dbg.cmderr ≠ 0 then e
      else if s.cpu.dbg.absent ∨ s.isSet R.SYS_DBG_HALTED = false then f else t) : Out) = .next u :=
  State.next_dbg on ((if_neg (not_not_intro clear)).trans
    ((if_neg (not_or_intro (ne_true_of_eq_false present) (ne_false_of_eq_true halted))).trans done))

/-- A read of a register that exists answers what C0 holds there (R401). -/
theorem exec_accessRegister_read {regno : Fin 65536} (data : Word) (known : dbgReg regno.val = true) :
    exec (.accessRegister false regno data) s = .next (
      let v := if regno.val = 0x7B1 then s.cpu.c0.pc else Sparse.get 0 s.cpu.c0.regs regno.val
      (s.dbgSet fun d => { d with data0 := v }).answer (.data (BitVec.ofNat 32 v))) :=
  State.next_abstract on clear present halted ((if_neg (ne_false_of_eq_true known)).trans (if_neg Bool.false_ne_true))

/-- A write of a register other than x0 reaches C0 and the replay log (R401, R402). -/
theorem exec_accessRegister_write {regno : Fin 65536} (data : Word) (known : dbgReg regno.val = true) (other : regno.val ≠ 0x1000) :
    exec (.accessRegister true regno data) s = .next (((s.dbgSet fun d => { d with data0 := data.toNat }).setCore 0 fun c =>
      { c with regs := Sparse.set 0 c.regs regno.val data.toNat, pc := if regno.val = 0x7B1 then data.toNat else c.pc }).logReplay
        regno.val data.toNat) :=
  State.next_abstract on clear present halted ((if_neg (ne_false_of_eq_true known)).trans ((if_pos rfl).trans (if_neg other)))

/-- A write of x0 leaves no trace but the module's data register (R401). -/
theorem exec_accessRegister_writeZero {regno : Fin 65536} (data : Word) (zero : regno.val = 0x1000) :
    exec (.accessRegister true regno data) s = .next (s.dbgSet fun d => { d with data0 := data.toNat }) := by
  have known : dbgReg regno.val = true := by rw [zero]; rfl
  exact State.next_abstract on clear present halted ((if_neg (ne_false_of_eq_true known)).trans ((if_pos rfl).trans (if_pos zero)))

/-- The words of the program buffer run on C0 and, in lockstep, on C1 (R401, R402). -/
theorem exec_programBuffer_runs (words : List Word) :
    exec (.programBuffer words) s = .next (
      let l := words.take 8
      let a := s.dbgSet fun d => { d with progbuf := (List.range 8).map fun i => (l.getD i 0#32).toNat }
      let code := a.cpu.dbg.progbuf.map (BitVec.ofNat 32)
      let b := a.setCore 0 fun c => c.run code
      if b.getF R.SYS_CORE_STATE = 0 then b.setCore 1 fun c => c.run code else b) :=
  State.next_dbg on ((if_neg (not_not_intro clear)).trans
    (if_neg (not_or_intro (ne_true_of_eq_false present) (ne_false_of_eq_true halted))))

end Abstract

/-- Settles O34: the TAP answers in every state; the module asks whether it is active, whether its hart is halted and, for an abstract
command, whether an error stands. -/
theorem debugCommands : Obligations.DebugCommands :=
  ⟨fun _ addr data _ => ⟨rfl, rfl, exec_dmi_read addr data,
      fun idcode dtmcs dmi => congrArg _ (if_neg (not_or_intro idcode (not_or_intro dtmcs dmi)))⟩,
    fun _ on => ⟨exec_dmactiveWrite_activates on, exec_dmactiveWrite_refused on, exec_dmactiveWrite_resets on⟩,
    fun _ _ on => ⟨fun run => State.next_dbg on (if_pos ⟨rfl, run⟩), fun halted => State.next_dbg on (if_pos ⟨rfl, halted⟩),
      fun halted => State.next_dbg on (if_pos ⟨rfl, halted⟩)⟩,
    fun _ _ data words on clear present halted => ⟨exec_accessRegister_read on clear present halted data,
      exec_accessRegister_write on clear present halted data, exec_accessRegister_writeZero on clear present halted data,
      exec_programBuffer_runs on clear present halted words⟩⟩

/-! ### The start and the resets -/

/-- Without a page being written there is nothing to tear (R608). -/
theorem State.tearPage_idle {s : State} (idle : s.evl.page = none) : s.tearPage = s := by
  rw [State.tearPage, idle]

/-- The boot ROM runs when a powered, initialised pair leaves a reset that nothing holds (R376). -/
theorem State.mayLeaveReset {s : State} (on : s.on Dom.core = true) (ready : s.cpu.ready = true) (rests : s.cpu.running = false)
    (free : s.isSet R.SYS_LCKSTAT_HOLD = false) :
    ¬ (s.on Dom.core = false ∨ s.cpu.ready = false ∨ s.cpu.running = true ∨ s.isSet R.SYS_LCKSTAT_HOLD = true) :=
  not_or_intro (ne_false_of_eq_true on) (not_or_intro (ne_false_of_eq_true ready)
    (not_or_intro (ne_true_of_eq_false rests) (ne_true_of_eq_false free)))

/-- The boot ROM goes on to the boot loader once the boot apply has ended or the posture without an image is taken (R529, R538). -/
theorem State.mayStartLoader {s : State} (run : s.coresRun = true) (rom : s.cpu.bootRom = true)
    (normal : s.isSet R.SYS_BOOT_RECOVERY = false) (idle : s.cil.apply = none)
    (settled : s.cil.bootDone = true ∨ s.isSet R.CIL_STATUS_NOIMAGE = true) :
    ¬ (s.coresRun = false ∨ s.cpu.bootRom = false ∨ s.isSet R.SYS_BOOT_RECOVERY = true ∨ s.cil.apply.isSome = true
      ∨ (s.cil.bootDone = false ∧ s.isSet R.CIL_STATUS_NOIMAGE = false)) := by
  have ended : ¬ s.cil.apply.isSome = true := by rw [idle]; exact Bool.false_ne_true
  exact not_or_intro (ne_false_of_eq_true run) (not_or_intro (ne_false_of_eq_true rom) (not_or_intro (ne_true_of_eq_false normal)
    (not_or_intro ended (not_and_or.mpr (settled.imp ne_false_of_eq_true ne_false_of_eq_true)))))

/-- Settles O35: each event finds its time come and its clock, supply or core in the state that it changes, each reset its code, its delay
over or a mask of domains that can be reset. -/
theorem startAndReset : Obligations.StartAndReset := by
  refine ⟨fun s => ⟨rfl, State.tearPage_idle, fun held => congrArg _ (if_pos held)⟩,
    fun s => ⟨fun up => congrArg _ (if_neg (ne_true_of_eq_false up)), fun out => congrArg _ (if_pos out),
      fun on locked idle => congrArg _ (if_pos ⟨on, locked, idle⟩)⟩,
    fun s => ⟨fun runs => congrArg _ (if_pos runs),
      fun up down => congrArg _ (if_neg (not_or_intro (ne_true_of_eq_false up) (ne_true_of_eq_false down))),
      fun on unlocked => congrArg _ (if_pos ⟨on, unlocked⟩), fun due down => congrArg _ (if_pos ⟨due, down⟩)⟩,
    fun s on locked supplied fresh => ?_, fun s fail density progs on ready rests free => ?_,
    fun s run rom normal idle settled => ?_,
    fun s code mask t on aon => ⟨fun named => ⟨State.next_access on (if_pos named), State.next_access on (if_pos named)⟩,
      fun due => ?_, fun due => ?_, fun active => congrArg _ (if_pos active), fun other => State.next_access aon (if_pos other),
      fun may => State.next_access aon (if_neg (not_not_intro may))⟩⟩
  · exact congrArg _ (if_neg (not_or_intro (ne_false_of_eq_true on) (not_or_intro (ne_false_of_eq_true locked)
      (not_or_intro (ne_false_of_eq_true supplied) (ne_true_of_eq_false fresh)))))
  · rw [exec_coresLeaveReset, execCoresLeaveReset, if_neg (State.mayLeaveReset on ready rests free)]
  · exact congrArg _ (if_neg (State.mayStartLoader run rom normal idle settled))
  · exact congrArg _ ((if_neg Bool.false_ne_true).trans (if_pos due))
  · exact congrArg _ ((if_neg Bool.false_ne_true).trans (if_pos due))

end Sys2Proof.Machine
end

section
/-! SUPPORT. Proofs of the statements on the network and time (spec/12_network_and_time.md): the bases, the selected base and the domains
(R432 to R439, R446; log entry 74), the time triggers (R440 to R442), the links, frames and rings of the line ports (R415 to R425, R430,
R449 to R451; log entries 75 and 78) and MDIO (R417). -/

namespace Sys2Proof.Machine

open Sys2Proof

/-! ### The bases -/

/-- Raising an event leaves the time block (R587). -/
@[simp] theorem State.raise_tim (s : State) (e : EvId) (a b c : Nat) : (s.raise e a b c).tim = s.tim := by
  obtain ⟨⟨r, g, l, same⟩, _⟩ := s.raise_only e a b c
  rw [same]

/-- A step of one base leaves the others (R432). -/
theorem State.tbFix_addTb_ne {s : State} {n m : Nat} (x : Int) (other : n ≠ m) : (s.addTb n x).tbFix m = s.tbFix m := by
  simp [State.addTb, State.setTb, State.timSet, State.tbFix, List.getElem?_set_ne other]

/-- A STEP of TB0 or TB1 is added to the base, and taken from D where the base is the selected one (R432, R437). -/
theorem exec_baseStep_steps {s : State} {n : Fin 4} {step : Word} (on : s.on Dom.net = true) (steps : n.val < 2) :
    exec (.baseStep n step) s = .next (
      let x := step.toInt * 2 ^ 32
      let a := (s.answer .ok).addTb n.val x
      (if s.getF R.TIM_STAT_SEL = n.val then a.timSet fun t => { t with d := fix64 (t.d - x) } else a).raise Ev.TIM_STEP n.val step.toNat) :=
  State.next_access on (if_neg (Nat.not_le.mpr steps))

/-- Settles O42: a step of TB0 or TB1 leaves TB3 itself, and what it takes from D it takes before the event. -/
theorem stepToSelectedBase : Obligations.StepToSelectedBase := by
  intro s n step on steps selected
  refine ⟨_, exec_baseStep_steps on steps, ?_, ?_⟩
  · have apart : n.val ≠ 3 := by omega
    simp only [if_pos selected, State.tbFix, State.raise_tim]
    exact (s.answer .ok).tbFix_addTb_ne _ apart
  · simp only [if_pos selected, State.raise_tim]
    rfl

section TriggerArm

variable {s : State} {k : Fin 8} {data : Word} (on : s.on Dom.net = true)
include on

/-- A trigger that drives no FSYNC pin takes its configuration (R441). -/
theorem exec_triggerArm_pinless (target : data.toNat % 16 < 2 ∨ (5 < data.toNat % 16 ∧ data.toNat % 16 ≤ 9)) :
    exec (.triggerArm k data) s =
      .next ((s.answer .ok).storeAt (R.TIM_TTRG_CFG_TARGET k.val).addr data.toNat R.TIM_INT_CLAMP) := by
  have named : ¬ 9 < data.toNat % 16 := by omega
  exact State.next_access on ((if_neg named).trans (if_neg fun ⟨_, least, most, _⟩ => by omega))

/-- An FSYNC pin that the image does not give is no target (R442). -/
theorem exec_triggerArm_refused (enable : data.toNat.testBit 8 = true) (least : 2 ≤ data.toNat % 16) (most : data.toNat % 16 ≤ 5)
    (absent : (s.cfg Img.PINS_FSYNC_EN 0).testBit (data.toNat % 16 - 2) = false) :
    exec (.triggerArm k data) s = .next ((s.answer .ok).flag R.TIM_INT_REFUSED) := by
  have named : ¬ 9 < data.toNat % 16 := by omega
  exact State.next_access on ((if_neg named).trans (if_pos ⟨enable, least, most, absent⟩))

end TriggerArm

/-- Settles O29: each access finds CD_NET on, each event its time come, its base wrapped or its trigger's comparison true. -/
theorem timeBlock : Obligations.TimeBlock := by
  refine ⟨fun s on => ⟨State.next_access on rfl, State.next_access on rfl, fun n c u which put => ?_⟩,
    fun s n step on => ⟨exec_baseStep_steps on, fun fixed => State.next_access on (if_pos fixed)⟩,
    fun s data d n on => ⟨State.next_access on rfl, fun due => congrArg _ (if_pos due),
      fun wrapped => congrArg _ (if_pos ⟨on, wrapped⟩)⟩,
    fun s k on armed holds => ?_, fun s k short full => if_pos ⟨short, full⟩,
    fun s k data pin on => ⟨exec_triggerArm_pinless on, exec_triggerArm_refused on, fun due => congrArg _ (if_pos due)⟩⟩
  · subst put
    rcases which with ⟨rfl, rfl⟩ | ⟨rfl, rfl⟩
    · exact State.next_access on rfl
    · exact State.next_access on rfl
  · exact congrArg _ (if_neg (not_or_intro (ne_false_of_eq_true on)
      (not_or_intro (ne_false_of_eq_true armed) (ne_false_of_eq_true holds))))

/-! ### The line ports -/

section TxTail

variable {s : State} {data : Word} (on : s.on Dom.net = true)
  (gives : ((s.answer .ok).setF R.NET_TXR_TAIL_TAIL data.toNat).ringHas netTx = true)
include on gives

/-- A write of TAIL that gives the transmit ring descriptors makes NET take them (R425; log entry 78). -/
theorem exec_txTailWrite_takes :
    exec (.txTailWrite data false) s = .next (((s.answer .ok).setF R.NET_TXR_TAIL_TAIL data.toNat).txPump 1024) :=
  State.next_access on ((if_neg (ne_false_of_eq_true gives)).trans (if_neg Bool.false_ne_true))

/-- A transmit ring that meets an uncorrectable error is disabled (R451). -/
theorem exec_txTailWrite_unreadable :
    exec (.txTailWrite data true) s = .next (((s.answer .ok).setF R.NET_TXR_TAIL_TAIL data.toNat).netRingErr netTx 17) :=
  State.next_access on ((if_neg (ne_false_of_eq_true gives)).trans (if_pos rfl))

end TxTail

section FrameReceived

variable {s : State} {port : Fin 2} {bytes : List Byte} (ue : Bool) (up : s.linkUp port.val = true)
include up

/-- A whole frame that is no pause frame is counted and classified (R416, R418, R419). -/
theorem exec_frameReceived_sound (least : 64 ≤ bytes.length + 4) (most : bytes.length + 4 ≤ (if tagged bytes then 1522 else 1518))
    (oneTag : etherType bytes ≠ 0x8100) (other : etherType bytes ≠ 0x8808) :
    exec (.frameReceived port bytes true ue) s = .next ((s.wrapInc (R.NET_PORT_RX_FRAMES port.val)).classify port.val bytes ue) :=
  congrArg _ ((if_neg (ne_false_of_eq_true up)).trans ((if_neg Bool.noConfusion).trans ((if_neg (not_or_intro (Nat.not_lt.mpr least)
    (not_or_intro (Nat.not_lt.mpr most) fun both => oneTag both.2))).trans (if_neg other))))

/-- A frame with a bad FCS is counted and dropped (R418). -/
theorem exec_frameReceived_badFcs :
    exec (.frameReceived port bytes false ue) s = .next ((s.satInc (R.NET_PORT_BAD_FCS port.val)).raise Ev.NET_RX_BAD port.val) :=
  congrArg _ ((if_neg (ne_false_of_eq_true up)).trans (if_pos rfl))

/-- A frame that is too short is counted and dropped (R418). -/
theorem exec_frameReceived_short (short : bytes.length + 4 < 64) :
    exec (.frameReceived port bytes true ue) s = .next ((s.satInc (R.NET_PORT_BAD_OTHER port.val)).raise Ev.NET_RX_BAD port.val) :=
  congrArg _ ((if_neg (ne_false_of_eq_true up)).trans ((if_neg Bool.noConfusion).trans (if_pos (.inl short))))

end FrameReceived

/-- A port that may have a link gets one by a good control word alone (R415). -/
theorem exec_portLinkUp_may {s : State} {port : Fin 2} (good : Bool) (on : s.on Dom.net = true)
    (enabled : s.bitF R.NET_CTL_PORT_EN port.val = true) (mode : s.getF (R.NET_PORT_ST_MODE port.val) ≠ 0)
    (steady : s.isSet (R.NET_PORT_ST_OFF port.val) = false) (down : s.linkUp port.val = false) :
    exec (.portLinkUp port good) s = .next (
      if good then ((s.setF (R.NET_PORT_ST_LINK port.val) 1).raiseInt Ev.NET_LINK_UP R.NET_INT_LINK port.val).crnLinkUp port.val
      else s.raise Ev.NET_SPEED_MISMATCH port.val) := by
  refine congrArg _ ((if_neg (not_or_intro (ne_false_of_eq_true on) (not_or_intro (ne_false_of_eq_true enabled)
    (not_or_intro mode (not_or_intro (ne_true_of_eq_false steady) (ne_true_of_eq_false down)))))).trans ?_)
  cases good <;> rfl

/-- An MDIO command begins its operation when none runs (R417). -/
theorem State.mdioStart_idle {s : State} (op phy reg : Nat) (idle : s.isSet R.NET_MDIO_ST_BUSY = false) :
    s.mdioStart op phy reg =
      (s.setF R.NET_MDIO_ST_BUSY 1).netSet fun n => { n with mdio := some ⟨op, phy, reg, s.getF R.NET_MDIO_DATA_DATA⟩ } :=
  if_neg (ne_true_of_eq_false idle)

/-- Settles O31: each event finds its link up or its time come, each access CD_NET on; a frame is sound, bad or too short; an MDIO command
finds the bus idle, and its end the operation that ran. -/
theorem linePorts : Obligations.LinePorts := by
  refine ⟨fun s port good on enabled mode steady down => exec_portLinkUp_may good on enabled mode steady down,
    fun s port up => congrArg _ (if_neg (ne_false_of_eq_true up)),
    fun s port bytes ue up => ⟨exec_frameReceived_sound ue up, exec_frameReceived_badFcs ue up, exec_frameReceived_short ue up⟩,
    fun s q data on => ⟨State.next_access on rfl,
      fun gives => ⟨exec_txTailWrite_takes on gives, exec_txTailWrite_unreadable on gives⟩⟩,
    fun s port mac k => ⟨fun up => congrArg _ (if_pos up), fun due => congrArg _ (if_pos due), fun due => congrArg _ (if_pos due),
      fun due => congrArg _ (if_pos due)⟩,
    fun s phy reg on idle => ?_, fun s m data runs => ?_⟩
  · have starts (op : Nat) := State.mdioStart_idle (s := s.answer .ok) op phy.val reg.val idle
    exact ⟨State.next_access on (starts 0), State.next_access on (starts 1), State.next_access on (starts 2),
      State.next_access on (starts 3), State.next_access on (starts 4), State.next_access on (starts 5)⟩
  · cases data <;> simp only [exec_mdioDone, execMdioDone, runs]

end Sys2Proof.Machine
end

section
/-! SUPPORT. Proofs of the statements on Cairn's line (spec/13_cairn_line_protocol.md): claims (R460 to R462), the roster and joining (R463
to R466, R471), takeover and its end (R472, R473), liveness (R458, R459, R468 to R470), expiries and messages of one cycle (R477 to R480),
frames (R455, R456, R483; log entries 79 and 80) and the messages of firmware (R457, R484). -/

namespace Sys2Proof.Machine

open Sys2Proof

/-! ### Claims -/

section Claim

variable {s u : State} {m : CrnMsg} (took : s.crnTake CT.claim = some (m, u)) (other : m.src ≠ u.ownKey)
  (alone : (u.crn.inbox.any fun k => k.typ == CT.roster && k.at_ == m.at_) = false)
include took other alone

/-- The claim of another node is judged by the state of this one, unless it is DOWN or backs off or a ROSTER of the same cycle wins over it
(R460 to R462, R477). -/
theorem exec_claim_judged (up : u.crnState ≠ 0) (settled : u.crnState ≠ 4) :
    exec .claim s = .next (
      let c := (byteAt m.body 0, m.src)
      if u.crnState = 1 then (if u.crn.stuck then u else if beats u.ownStanding c then u.toClaiming else u.toFollow c)
      else if u.crnState = 2 then (if beats c u.ownStanding then (u.sendYield m.src).toFollow c else u)
      else if u.crnState = 3 then
        (if beats c u.crn.followed then (u.sendYield m.src).toFollow c else u.arm .followTo (1000 * msNs))
      else if u.crnState = 7 then u.sendRoster m.src
      else u) := by
  rw [exec_claim, execClaim, took]
  exact congrArg _ ((if_neg (not_or_intro up settled)).trans
    ((if_neg fun ⟨_, _, waits⟩ => ne_true_of_eq_false alone waits).trans (if_neg other)))

/-- A node in LISTEN claims against a weaker claim and follows a stronger one (R460). -/
theorem exec_claim_listen (listens : u.crnState = 1) (free : u.crn.stuck = false) :
    exec .claim s = .next (
      if beats u.ownStanding (byteAt m.body 0, m.src) then u.toClaiming else u.toFollow (byteAt m.body 0, m.src)) :=
  (exec_claim_judged took other alone (by omega) (by omega)).trans
    (congrArg _ ((if_pos listens).trans (if_neg (ne_true_of_eq_false free))))

/-- A node in CLAIMING yields to a stronger claim (R461). -/
theorem exec_claim_claiming (claims : u.crnState = 2) (stronger : beats (byteAt m.body 0, m.src) u.ownStanding = true) :
    exec .claim s = .next ((u.sendYield m.src).toFollow (byteAt m.body 0, m.src)) :=
  (exec_claim_judged took other alone (by omega) (by omega)).trans
    (congrArg _ ((if_neg (by omega)).trans ((if_pos claims).trans (if_pos stronger))))

/-- A node in FOLLOW yields to a claim stronger than the one it follows (R461). -/
theorem exec_claim_following (follows : u.crnState = 3) (stronger : beats (byteAt m.body 0, m.src) u.crn.followed = true) :
    exec .claim s = .next ((u.sendYield m.src).toFollow (byteAt m.body 0, m.src)) :=
  (exec_claim_judged took other alone (by omega) (by omega)).trans
    (congrArg _ ((if_neg (by omega)).trans ((if_neg (by omega)).trans ((if_pos follows).trans (if_pos stronger)))))

/-- The head answers a claim with its ROSTER (R462). -/
theorem exec_claim_head (heads : u.crnState = 7) : exec .claim s = .next (u.sendRoster m.src) :=
  (exec_claim_judged took other alone (by omega) (by omega)).trans
    (congrArg _ ((if_neg (by omega)).trans ((if_neg (by omega)).trans ((if_neg (by omega)).trans (if_pos heads)))))

end Claim

/-! ### Rosters -/

/-- The priority that a ROSTER gives its sender (R454, R464). -/
def CrnMsg.senderPrio (m : CrnMsg) : Nat := (((rosterOf m.body).find? fun e => e.key == m.src).map (·.prio)).getD 0

/-- The state once the ROSTER in `m` is the current one, with its sender's priority noted (R466). -/
def State.takeRosterOf (s : State) (m : CrnMsg) : State :=
  (s.takeRoster (rosterOf m.body) (byteAt m.body 1) (beAt m.body 4 2) m.epoch).crnSet fun c => { c with headPrio := m.senderPrio }

section Roster

variable {s u : State} {m : CrnMsg} (took : s.crnTake CT.roster = some (m, u))
include took

/-- A node that has no ring yet joins the sender of a ROSTER (R463). -/
theorem exec_roster_ringless (least : 1 ≤ u.crnState) (most : u.crnState ≤ 3) (free : ¬ (u.crnState = 1 ∧ u.crn.stuck = true)) :
    exec .roster s = .next (u.toJoining m.src m.senderPrio) := by
  rw [exec_roster, execRoster, took]
  exact congrArg _ ((if_neg free).trans (if_pos ⟨least, most⟩))

/-- Past FOLLOW a ROSTER is taken as JOINING, MEMBER or HEAD takes it, and no other state does (R463, R466, R471). -/
theorem exec_roster_ring (least : 4 ≤ u.crnState) :
    exec .roster s = .next (
      if u.crnState = 5 then
        (if m.src ≠ u.headKey then u
        else if u.crn.roster ≠ [] ∧ epochOk m.epoch (u.getF R.CRN_STAT_EPOCH) = false then u.satInc R.CRN_CNT_STALE
        else
          let t := u.takeRosterOf m
          if (rosterOf m.body).any fun e => e.key == u.ownKey && (e.state == 0 || e.state == 2 || e.state == 3) then
            t.toMember.arm .headTo (3 * t.crn.rosterMs * msNs)
          else t)
      else if u.crnState = 6 then
        (if m.src = u.headKey then
          (if epochOk m.epoch (u.getF R.CRN_STAT_EPOCH) then
            (u.takeRosterOf m).arm .headTo (3 * (u.takeRosterOf m).crn.rosterMs * msNs)
          else u.satInc R.CRN_CNT_STALE)
        else if beats (m.senderPrio, m.src) (u.crn.headPrio, u.headKey) then u.toJoining m.src m.senderPrio
        else u)
      else if u.crnState = 7 then
        (if beats (m.senderPrio, m.src) u.ownStanding then (u.sendYield m.src).toJoining m.src m.senderPrio else u)
      else u) := by
  rw [exec_roster, execRoster, took]
  exact congrArg _ ((if_neg (by omega)).trans (if_neg (by omega)))

/-- A JOINING node that its head's ROSTER lists is a MEMBER (R463). -/
theorem exec_roster_joined (joins : u.crnState = 5) (head : m.src = u.headKey)
    (fresh : u.crn.roster = [] ∨ epochOk m.epoch (u.getF R.CRN_STAT_EPOCH) = true)
    (listed : ((rosterOf m.body).any fun e => e.key == u.ownKey && (e.state == 0 || e.state == 2 || e.state == 3)) = true) :
    exec .roster s = .next ((u.takeRosterOf m).toMember.arm .headTo (3 * (u.takeRosterOf m).crn.rosterMs * msNs)) := by
  have current : ¬ (u.crn.roster ≠ [] ∧ epochOk m.epoch (u.getF R.CRN_STAT_EPOCH) = false) :=
    not_and_or.mpr (fresh.imp not_not_intro ne_false_of_eq_true)
  exact (exec_roster_ring took (by omega)).trans
    (congrArg _ ((if_pos joins).trans ((if_neg (not_not_intro head)).trans ((if_neg current).trans (if_pos listed)))))

/-- A MEMBER takes a ROSTER of its head that is not behind its own (R466). -/
theorem exec_roster_renewed (member : u.crnState = 6) (head : m.src = u.headKey)
    (fresh : epochOk m.epoch (u.getF R.CRN_STAT_EPOCH) = true) :
    exec .roster s = .next ((u.takeRosterOf m).arm .headTo (3 * (u.takeRosterOf m).crn.rosterMs * msNs)) :=
  (exec_roster_ring took (by omega)).trans
    (congrArg _ ((if_neg (by omega)).trans ((if_pos member).trans ((if_pos head).trans (if_pos fresh)))))

/-- A MEMBER joins a head that is stronger than its own (R471). -/
theorem exec_roster_stronger (member : u.crnState = 6) (other : m.src ≠ u.headKey)
    (stronger : beats (m.senderPrio, m.src) (u.crn.headPrio, u.headKey) = true) :
    exec .roster s = .next (u.toJoining m.src m.senderPrio) :=
  (exec_roster_ring took (by omega)).trans
    (congrArg _ ((if_neg (by omega)).trans ((if_pos member).trans ((if_neg other).trans (if_pos stronger)))))

/-- A head yields to one that is stronger (R471). -/
theorem exec_roster_yields (heads : u.crnState = 7) (stronger : beats (m.senderPrio, m.src) u.ownStanding = true) :
    exec .roster s = .next ((u.sendYield m.src).toJoining m.src m.senderPrio) :=
  (exec_roster_ring took (by omega)).trans
    (congrArg _ ((if_neg (by omega)).trans ((if_neg (by omega)).trans ((if_pos heads).trans (if_pos stronger)))))

end Roster

/-! ### Roles -/

/-- CRN runs where its domain is powered and it is enabled (R484). -/
theorem State.crnOn_of_enabled {s : State} (on : s.on Dom.net = true) (enabled : s.isSet R.CRN_CTL_EN = true) : s.crnOn = true :=
  Bool.and_eq_true_iff.mpr ⟨on, enabled⟩

/-- Settles O24: each expiry finds its state, its time come and nothing that wins over it, each message the state that answers it, each
write of CRN_CMD a node that runs. -/
theorem cairnRoles : Obligations.CairnRoles := by
  refine ⟨fun s => ⟨fun state due quiet => congrArg _ (if_pos ⟨state, due, quiet⟩),
      fun state due quiet worse => congrArg _ (if_pos ⟨state, due, quiet, worse⟩),
      fun state due quiet => congrArg _ (if_pos ⟨state, due, quiet⟩), fun state due => congrArg _ (if_pos ⟨state, due⟩)⟩,
    fun s m u took other alone => ⟨exec_claim_listen took other alone, exec_claim_claiming took other alone,
      exec_claim_following took other alone, exec_claim_head took other alone⟩,
    fun s m u took claims => ?_,
    fun s on enabled up => State.next_access on (if_pos ⟨State.crnOn_of_enabled on enabled, up⟩),
    fun s on enabled heads => ?_,
    fun s joins due => congrArg _ (if_pos ⟨joins, due⟩),
    fun s m u took => ⟨exec_roster_ringless took, exec_roster_joined took, exec_roster_renewed took, exec_roster_stronger took,
      exec_roster_yields took⟩,
    fun s key => ⟨fun state due => congrArg _ (if_pos ⟨state, due⟩), fun heads due silent => ?_,
      fun heads due => congrArg _ (if_pos ⟨heads, due⟩)⟩,
    fun s => ⟨fun heads due => congrArg _ (if_pos ⟨heads, due⟩), fun heads due => congrArg _ (if_pos ⟨heads, due⟩),
      fun member due => congrArg _ (if_pos ⟨member, due⟩)⟩⟩
  · rw [exec_yield, execYield, took]
    exact congrArg _ (if_pos claims)
  · exact State.next_access on
      (if_neg (not_or_intro (ne_false_of_eq_true (State.crnOn_of_enabled on enabled)) (not_not_intro heads)))
  · exact congrArg _ ((if_neg (not_or_intro (not_not_intro heads) (ne_false_of_eq_true due))).trans
      (if_neg (ne_true_of_eq_false silent)))

/-! ### Frames and messages -/

/-- What CRN notes does not change the node's key, which the image gives. -/
@[simp] theorem State.ownKey_crnSet (s : State) (f : CrnState → CrnState) : (s.crnSet f).ownKey = s.ownKey := rfl

/-- A sound frame of this line for this node, with hops left and within its sender's limit, is accepted and its epoch noted (R456, R457,
R483). -/
theorem exec_cairnFrame_own {s u v : State} {f : CrnIn} {rest : List CrnIn} {l : List Byte} {len : Nat}
    (oldest : s.net.crnIn = f :: rest) (put : u = s.netSet fun n => { n with crnIn := rest }) (text : l = f.bytes.drop (payAt f.bytes))
    (size : len = beAt l 26 2) (on : u.crnOn = true) (version : byteAt l 0 = 1) (whole : 32 + len ≤ l.length)
    (crc : beAt l (28 + len) 4 = crc32c (l.take (28 + len))) (reserved : byteAt l 2 = 0)
    (sound : bodySound (byteAt l 1) ((l.drop 28).take len) = true) (hops : byteAt l 3 ≠ 0)
    (line : beAt l 4 2 = u.cfg Img.CAIRN_LINE_ID 0) (noData : byteAt l 1 ≠ CT.chunkData) (noAck : byteAt l 1 ≠ CT.chunkAck)
    (within : u.crnFlood (beAt l 8 8) = (v, false)) (other : beAt l 8 8 ≠ v.ownKey) (own : beAt l 16 8 = v.ownKey) :
    exec .cairnFrame s = .next (
      let m : CrnMsg := ⟨byteAt l 1, beAt l 8 8, beAt l 16 8, beAt l 6 2, (l.drop 28).take len, f.port, f.stamp, f.vlan, f.at_⟩
      (v.crnSet fun c => { c with seen := max c.seen m.epoch }).crnSet fun c => { c with inbox := c.inbox ++ [m] }) := by
  subst put text size
  rw [exec_cairnFrame, execCairnFrame, oldest]
  refine congrArg _ ((if_neg (ne_false_of_eq_true on)).trans ((if_neg (not_or_intro (not_not_intro version)
    (not_or_intro (Nat.not_lt.mpr whole) (not_or_intro (by simp [crc]) (not_or_intro (not_not_intro reserved)
      (ne_false_of_eq_true sound)))))).trans ((if_neg hops).trans ((if_neg (not_not_intro line)).trans ?_))))
  simp only [if_neg (not_or_intro noData noAck), within]
  rw [if_neg Bool.false_ne_true, if_neg other]
  simp only [State.ownKey_crnSet, own, true_or, if_true, ne_eq, not_true_eq_false, false_and, if_false]

/-- The oldest message of a type is delivered to firmware (R457, R484). -/
theorem State.crnToFw_took {s u : State} {m : CrnMsg} {typ : Nat} {ue : Bool} (took : s.crnTake typ = some (m, u)) :
    s.crnToFw typ ue = u.crnDeliver m ue := by
  rw [State.crnToFw, took]

/-- Settles O25: a frame, a message or a descriptor passes each test in turn; each timer finds its time come. -/
theorem cairnMessages : Obligations.CairnMessages := by
  refine ⟨fun s f rest u v l len => exec_cairnFrame_own,
    fun s m u known took heads found agrees room => ?_,
    fun s m u port => ⟨fun took => ?_, fun due => congrArg _ (if_pos due), fun due up => ?_⟩,
    fun s m u took heads knows => ?_, fun s m u ue => ⟨fun took => ?_, fun took => ?_, fun took => ?_⟩,
    fun s d buf flags n on has at_ buffer flagged size owned fits small mask up => ?_⟩
  · subst found
    have admitted : ¬ ((u.crn.nodes.find? fun n => n.ent.key == m.src).isNone = true ∧ 64 ≤ u.crn.nodes.length) :=
      not_and_or.mpr (room.imp (fun held => ne_true_of_eq_false (Option.isNone_eq_false_iff.mpr held)) Nat.not_le.mpr)
    rw [exec_cairnJoin, execCairnJoin, took]
    exact congrArg _ ((if_neg (not_not_intro heads)).trans ((if_neg (ne_true_of_eq_false agrees)).trans (if_neg admitted)))
  · rw [exec_hello, execHello, took]
  · exact congrArg _ (if_neg (not_or_intro (ne_false_of_eq_true due) (ne_false_of_eq_true up)))
  · rw [exec_beat, execBeat, took]
    exact congrArg _ (if_pos ⟨heads, knows⟩)
  · exact congrArg _ (State.crnToFw_took took)
  · exact congrArg _ (State.crnToFw_took took)
  · exact congrArg _ (State.crnToFw_took took)
  · subst at_ buffer flagged size
    exact congrArg _ ((if_neg (not_or_intro (ne_false_of_eq_true on) (ne_false_of_eq_true has))).trans
      ((if_neg Bool.false_ne_true).trans ((if_neg (ne_false_of_eq_true owned)).trans
        ((if_neg (not_or_intro (Nat.not_lt.mpr fits) (Nat.not_lt.mpr small))).trans
          ((if_neg mask).trans (if_neg (ne_false_of_eq_true up)))))))

end Sys2Proof.Machine
end

section
/-! SUPPORT. Proofs of the statements on learning in the street (spec/14_street_learning.md): object transfers on the ring (R474 to R476,
R481, R483, R485, R518; log entry 80) and the update unit (R488 to R490, R519, R520; log entry 34). -/

namespace Sys2Proof.Machine

open Sys2Proof

/-! ### Receiving -/

section ChunkData

variable {s u : State} {m : CrnMsg} (ue : Bool) (took : s.chunkTake = some (m, u))
include took

/-- A fragment of a transfer that has completed is acknowledged again (R475). -/
theorem exec_chunkData_remembered (done : u.crn.doneIds.contains (m.src, beAt m.body 0 4) = true) :
    exec (.chunkData ue) s = .next (u.xferAck m.src (beAt m.body 0 4) (beAt m.body 4 4) 0 1 0) := by
  rw [exec_chunkData, execChunkData, took]
  exact congrArg _ (if_pos done)

variable (fresh : u.crn.doneIds.contains (m.src, beAt m.body 0 4) = false)
include fresh

/-- A fragment outside its object is refused, and closes the transfer it belongs to (R474, R483). -/
theorem exec_chunkData_outside
    (outside : beAt m.body 4 4 = 0 ∨ 67108864 < beAt m.body 4 4 ∨ beAt m.body 8 4 % 1024 ≠ 0 ∨ beAt m.body 4 4 ≤ beAt m.body 8 4) :
    exec (.chunkData ue) s = .next (
      (((u.crn.rx.find? fun t => t.src == m.src && t.id == beAt m.body 0 4).elim u fun t => u.rxClose t.ser).crnBad m.port 5).xferAck
        m.src (beAt m.body 0 4) 0 0 2 1) := by
  rw [exec_chunkData, execChunkData, took]
  refine congrArg _ ((if_neg (ne_true_of_eq_false fresh)).trans
    ((if_pos (outside.imp_right (Or.imp_right (Or.imp_right .inl)))).trans ?_))
  cases u.crn.rx.find? fun t => t.src == m.src && t.id == beAt m.body 0 4 <;> rfl

section Sound

variable (nonempty : beAt m.body 4 4 ≠ 0) (small : beAt m.body 4 4 ≤ 67108864) (aligned : beAt m.body 8 4 % 1024 = 0)
  (inside : beAt m.body 8 4 < beAt m.body 4 4) (size : beAt m.body 26 2 = min 1024 (beAt m.body 4 4 - beAt m.body 8 4))
  (whole : m.body.length = 28 + beAt m.body 26 2)
include nonempty small aligned inside size whole

/-- A sound fragment is taken by the transfer it belongs to, begins one, or is refused with the reason (R475). -/
theorem exec_chunkData_sound {r : Option XferRx} (found : (u.crn.rx.find? fun t => t.src == m.src && t.id == beAt m.body 0 4) = r)
    (agrees : (r.any fun t => t.total != beAt m.body 4 4 || t.dest != beAt m.body 12 4 || t.kind != byteAt m.body 24) = false) :
    exec (.chunkData ue) s = .next (
      match r with
      | some t => u.rxFrag t m (beAt m.body 8 4) (m.body.drop 28) ue
      | none =>
        let why := u.rxRefused (beAt m.body 4 4) (beAt m.body 12 4) (byteAt m.body 24)
        if why ≠ 0 then u.xferAck m.src (beAt m.body 0 4) 0 0 2 why
        else
          let t : XferRx := ⟨u.crn.nextSer, m.src, beAt m.body 0 4, beAt m.body 4 4, beAt m.body 12 4, beAt m.body 16 4, beAt m.body 20 4,
            byteAt m.body 24, [], 0⟩
          (u.crnSet fun c => { c with nextSer := c.nextSer + 1, rx := c.rx ++ [t] }).rxFrag t m (beAt m.body 8 4) (m.body.drop 28) ue) := by
  subst found
  rw [exec_chunkData, execChunkData, took]
  exact congrArg _ ((if_neg (ne_true_of_eq_false fresh)).trans (if_neg (not_or_intro nonempty (not_or_intro (Nat.not_lt.mpr small)
    (not_or_intro (not_not_intro aligned) (not_or_intro (Nat.not_le.mpr inside) (not_or_intro (not_not_intro size)
      (not_or_intro (not_not_intro whole) (ne_true_of_eq_false agrees)))))))))

/-- A fragment that agrees with its open transfer is taken (R475). -/
theorem exec_chunkData_open {t : XferRx} (found : (u.crn.rx.find? fun t => t.src == m.src && t.id == beAt m.body 0 4) = some t)
    (total : t.total = beAt m.body 4 4) (dest : t.dest = beAt m.body 12 4) (kind : t.kind = byteAt m.body 24) :
    exec (.chunkData ue) s = .next (u.rxFrag t m (beAt m.body 8 4) (m.body.drop 28) ue) :=
  exec_chunkData_sound ue took fresh nonempty small aligned inside size whole found (by simp [total, dest, kind])

variable (unknown : (u.crn.rx.find? fun t => t.src == m.src && t.id == beAt m.body 0 4) = none)
include unknown

/-- The first fragment of a transfer that the node may take opens it (R475). -/
theorem exec_chunkData_first (may : u.rxRefused (beAt m.body 4 4) (beAt m.body 12 4) (byteAt m.body 24) = 0) :
    exec (.chunkData ue) s = .next (
      let t : XferRx := ⟨u.crn.nextSer, m.src, beAt m.body 0 4, beAt m.body 4 4, beAt m.body 12 4, beAt m.body 16 4, beAt m.body 20 4,
        byteAt m.body 24, [], 0⟩
      (u.crnSet fun c => { c with nextSer := c.nextSer + 1, rx := c.rx ++ [t] }).rxFrag t m (beAt m.body 8 4) (m.body.drop 28) ue) :=
  (exec_chunkData_sound ue took fresh nonempty small aligned inside size whole unknown rfl).trans
    (congrArg _ (if_neg (not_not_intro may)))

/-- The first fragment of one that it may not take is refused with the reason (R475). -/
theorem exec_chunkData_refused (refused : u.rxRefused (beAt m.body 4 4) (beAt m.body 12 4) (byteAt m.body 24) ≠ 0) :
    exec (.chunkData ue) s = .next (
      u.xferAck m.src (beAt m.body 0 4) 0 0 2 (u.rxRefused (beAt m.body 4 4) (beAt m.body 12 4) (byteAt m.body 24))) :=
  (exec_chunkData_sound ue took fresh nonempty small aligned inside size whole unknown rfl).trans (congrArg _ (if_pos refused))

end Sound

end ChunkData

section Receive

variable {s : State} {src id : Nat} {t : XferRx} (found : (s.crn.rx.find? fun t => t.src == src && t.id == id) = some t)
include found

/-- Fragments that have waited for their acknowledgement get it (R475). -/
theorem exec_chunkAckTimer_due (due : s.due (.chunkAck t.ser) = true) : exec (.chunkAckTimer src id) s = .next (s.ackNow t) := by
  rw [exec_chunkAckTimer, execChunkAckTimer, found]
  exact congrArg _ (if_pos due)

/-- A transfer that has been idle too long is closed and counted (R475). -/
theorem exec_transferIdleTimeout_due (due : s.due (.xferIdle t.ser) = true) :
    exec (.transferIdleTimeout src id) s = .next ((s.rxClose t.ser).satInc R.CRN_CNT_RXEXPIRED) := by
  rw [exec_transferIdleTimeout, execTransferIdleTimeout, found]
  exact congrArg _ (if_pos due)

end Receive

/-! ### Sending -/

section ChunkAck

variable {s u : State} {m : CrnMsg} {t : XferTx} (took : s.crnTake CT.chunkAck = some (m, u))
  (found : (u.crn.tx.find? fun t => t.id == beAt m.body 0 4 && t.dst == m.src) = some t)
include took found

/-- STATUS 1 ends the transfer well (R476). -/
theorem exec_chunkAck_complete (status : byteAt m.body 16 = 1) : exec .chunkAck s = .next ((u.txEnd t 1 0).crnAsk 8) := by
  simp only [exec_chunkAck, execChunkAck, took, found]
  rw [if_pos status]

/-- STATUS 2 or 3 ends it with its REASON (R476). -/
theorem exec_chunkAck_failed (status : byteAt m.body 16 = 2 ∨ byteAt m.body 16 = 3) :
    exec .chunkAck s = .next ((u.txEnd t (byteAt m.body 16) (byteAt m.body 17)).crnAsk 8) := by
  simp only [exec_chunkAck, execChunkAck, took, found]
  rw [if_neg (by omega), if_pos status]

/-- Progress moves the window on (R476). -/
theorem exec_chunkAck_progress (status : byteAt m.body 16 = 0) (inside : beAt m.body 4 4 ≤ t.len) (ahead : t.cum < beAt m.body 4 4) :
    exec .chunkAck s = .next (
      let acked : XferTx → XferTx := fun t =>
        { t with cum := beAt m.body 4 4, sack := beAt m.body 8 8, tries := 0, next := max t.next (beAt m.body 4 4) }
      ((u.setTx t.ser acked).sendWindow 64 t.ser).arm (.resend t.ser) (2 * msNs)) := by
  simp only [exec_chunkAck, execChunkAck, took, found]
  rw [if_neg (by omega), if_neg (by omega), if_pos ⟨status, inside, .inl ahead⟩]

end ChunkAck

section ResendTimeout

variable {s : State} {id : Nat} {t : XferTx} (found : (s.crn.tx.find? fun t => t.id == id) = some t)
  (due : s.due (.resend t.ser) = true) (empty : s.crn.inbox = [])
include found due empty

/-- The eighth time without progress ends the transfer (R476). -/
theorem exec_resendTimeout_last (last : 7 ≤ t.tries) : exec (.resendTimeout id) s = .next ((s.txEnd t 3 0).crnAsk 8) := by
  simp only [exec_resendTimeout, execResendTimeout, found, empty, List.any_nil]
  rw [if_neg (ne_false_of_eq_true due), if_neg Bool.false_ne_true, if_pos last]

/-- Before that every fragment sent and not acknowledged goes again (R476, R481). -/
theorem exec_resendTimeout_again (more : t.tries < 7) :
    exec (.resendTimeout id) s = .next (((s.setTx t.ser fun t => { t with tries := t.tries + 1 }).arm (.resend t.ser) (2 * msNs)).forL
      t.unacked fun o s => s.sendFrag t o) := by
  simp only [exec_resendTimeout, execResendTimeout, found, empty, List.any_nil]
  rw [if_neg (ne_false_of_eq_true due), if_neg Bool.false_ne_true, if_neg (Nat.not_le.mpr more)]

end ResendTimeout

/-! ### The update unit -/

/-- An action begins for a job that starts while the unit is powered and idle (R488, R519). -/
theorem State.updRow_starts {s : State} {n action : Nat} {j : Job} {ts : List Nat} {p : PlanTenant} (live : s.dspLive = true)
    (planned : s.ad.dsp.planOk = true) (start : s.startable n = some (j, ts)) (plan : s.planOf n = some p) (may : s.mayMove n = true)
    (free : (ts.all fun t => s.freeFor n t) = true) (on : s.on Dom.adUpd = true) (idle : s.isSet R.UPD_STAT_BUSY = false)
    (op : j.op = 4) (arg : j.arg 0 = action) (f : Job → State → State) :
    s.updRow n action f =
      (f j (s.setFs [(R.UPD_STAT_BUSY, 1), (R.UPD_STAT_ACTION, action), (R.UPD_STAT_TENANT, n)])).settle n :=
  (State.startRow_starts live planned start plan may free (by simp [op, arg]) _).trans
    (congrArg (State.settle · n) ((if_neg (ne_false_of_eq_true on)).trans (if_neg (ne_true_of_eq_false idle))))

/-- REDUCE and REDUCE_FIRST are one action with two forms (R489). -/
theorem exec_reduceEither (s : State) (tenant : Fin 16) (errs : List (Nat × MemErr)) (first : Bool) :
    exec (if first then .reduceFirst tenant errs else .reduce tenant errs) s =
      .next (s.updRow tenant.val (if first then 2 else 1) fun j s => s.updReduce j first errs) := by
  cases first <;> rfl

/-- Settles O32: a message by the transfer it belongs to and what it carries, each timer by its time come, a descriptor by its owner; an
action of the update unit by the data it lost. -/
theorem learningTraffic : Obligations.LearningTraffic := by
  refine ⟨fun s m u t ue took => ⟨exec_chunkData_remembered ue took, fun fresh nonempty small aligned inside size whole =>
      ⟨exec_chunkData_open ue took fresh nonempty small aligned inside size whole,
        exec_chunkData_first ue took fresh nonempty small aligned inside size whole,
        exec_chunkData_refused ue took fresh nonempty small aligned inside size whole⟩,
      fun fresh outside => ⟨fun unknown => ?_, fun found => ?_⟩⟩,
    fun s src id t found => ⟨exec_chunkAckTimer_due found, exec_transferIdleTimeout_due found⟩,
    fun s m u t took found => ⟨exec_chunkAck_complete took found, exec_chunkAck_failed took found, exec_chunkAck_progress took found⟩,
    fun s b on has room read owned => ?_,
    fun s id t found due empty => ⟨exec_resendTimeout_last found due empty, exec_resendTimeout_again found due empty⟩,
    fun s tenant j ts p errs first b e o live planned start plan may free on idle op arg begun chunk slot => ?_,
    fun s tenant bad j ts p l b action e live planned start plan may free on idle op arg begun block met => ?_⟩
  · rw [exec_chunkData_outside ue took fresh outside, unknown]
    rfl
  · rw [exec_chunkData_outside ue took fresh outside, found]
    rfl
  · subst read
    exact congrArg _ ((if_neg (not_or_intro (ne_false_of_eq_true on) (not_or_intro (ne_false_of_eq_true has)
      (Nat.not_le.mpr room)))).trans ((if_neg Bool.false_ne_true).trans (if_neg (ne_false_of_eq_true owned))))
  · rw [exec_reduceEither, State.updRow_starts live planned start plan may free on idle op arg]
    subst begun chunk slot
    exact ⟨fun lost => congrArg (Host.Outcome.next <| State.settle · tenant) (if_pos lost),
      fun clean => congrArg (Host.Outcome.next <| State.settle · tenant) (if_neg (ne_true_of_eq_false clean))⟩
  · have runs := State.updRow_starts live planned start plan may free on idle op arg
    refine ⟨fun update => ?_, fun norm => ?_⟩
    · subst begun block met update
      exact congrArg _ (runs _)
    · subst norm
      refine congrArg _ ((runs _).trans ?_)
      -- What is written of an entry is compared by the entry's two forms alone, so the state and the entries are made variables.
      rewrite [← begun]
      dsimp only
      rewrite [← block, ← met]
      generalize e.2.updMoved tenant (l.segBytes j.seg) = a
      generalize (List.range (l.segment j.seg).length).map (fun i =>
        if ((l.segment j.seg)[i]?).isSome ∧ (l.segment j.seg)[i]? = e.1 then none
        else some (sumSquares (((l.segment j.seg).map fun t => a.slotWords tenant l j.seg t false).getD i []),
          (((l.segment j.seg).map fun t => a.slotWords tenant l j.seg t false).getD i []).any fun x => !fFinite x)) = q
      exact rfl

end Sys2Proof.Machine
end

section
/-! SUPPORT. Proofs of the statements on events and the log (spec/17_events_and_log.md): intake and coalescing (R586, R588, R589, R591, R599),
records and their release (R590, R593, R606), persisting (R595 to R598) and firmware's accesses (R604, R611; log entry 123). -/

namespace Sys2Proof.Machine

open Sys2Proof

/-- Settles O23: each event of the log finds its domain on, its page in progress or its condition met, each access CD_CORE on. -/
theorem eventLogCommands : Obligations.EventLogCommands := by
  refine ⟨fun s id cls src arg0 arg1 arg2 => rfl, fun s => rfl, fun s on => congrArg _ (if_pos on),
    fun s slot on => State.next_access on rfl,
    fun s on => ⟨fun met => congrArg _ (if_pos ⟨on, met⟩), fun due => congrArg _ (if_pos ⟨on, due⟩)⟩,
    fun s recs page => ?_, fun s recs bytes page => ?_,
    fun s on => ⟨State.next_access on rfl, State.next_access on rfl⟩,
    fun s idlo cls on own lower => State.next_access on (if_neg (not_or_intro (Nat.not_lt.mpr own) lower)),
    fun s on => State.next_access on rfl⟩
  · rw [exec_pagePersisted, execPagePersisted, page]
  · rw [exec_pagePersisted, execPagePersisted, page]

end Sys2Proof.Machine
end
